-- ==== Sys2Proof/Word.lean ====
section
/-! DEFINITION. The words of the machine: bytes and 32-bit words. -/
namespace Sys2Proof

/-- A byte. -/
abbrev Byte := BitVec 8

/-- A 32-bit word of the address space (R30). -/
abbrev W32 := BitVec 32

end Sys2Proof
end

