-- ==== Sys2Proof/Syntax.lean ====
section
/-! DEFINITION. The commands the block takes: one constructor for each row of the table of operations
and events, with the operands the row needs. A value the spec leaves to the surroundings (a measured
quantity, a received frame, the outcome of a cryptographic check) is an operand. -/
namespace Sys2Proof

/-- The two paths of register access that have a holding register of their own (R12, R21): memory-mapped
and the command engine. -/
inductive Acc where
  | mm
  | ce
  deriving DecidableEq, Repr, Inhabited

/-- A path commands arrive on (R287): the host port or a session. -/
inductive Path where
  | host
  | sess (s : Fin 128)
  deriving DecidableEq, Repr, Inhabited

/-- What one metering channel's converter delivers in one sample (R81): the codes of the ×1 path and of the ranging
path, and the peak of the input within the sample in units of 2^-29 of the ×1 full scale; whether Tallyman will read it from its
mailbox before the next one replaces it there (R17, R230). -/
structure MtrIn where
  x1 : BitVec 24 := 0
  rg : BitVec 24 := 0
  pk : Nat := 0
  read : Bool := true
  deriving DecidableEq, Repr, Inhabited

/-- What one calibration of a metering converter measures (R86, R388): the offset in codes of the ×1 path, and the
deviation of the gain of each path from nominal in parts per million. -/
structure ConvCal where
  ofs : BitVec 16 := 0
  g1 : Int := 0
  g4 : Int := 0
  g16 : Int := 0
  g64 : Int := 0
  deriving DecidableEq, Repr, Inhabited

/-- A carrier marker that arrives (R315): its lane, the group and the count modulo 8 that it carries. -/
structure MarkIn where
  lane : Fin 2
  group : Fin 8
  count : BitVec 3 := 0
  deriving DecidableEq, Repr, Inhabited

/-- Source of a Neriq Link frame that arrives, and the hops it has left (R310). -/
structure NqlFrom where
  node : Fin 16
  hops : Fin 16 := 15
  deriving DecidableEq, Repr, Inhabited

/-- A send connection whose time has come (R268), and whether channel B's recomputed CRC agrees with its PDU (R264). -/
structure PduSend where
  conn : Fin 8
  agree : Bool := true
  deriving DecidableEq, Repr, Inhabited

/-- The commands, in the order of the table. -/
inductive Instr where
  /-- `REGISTER_WRITE` (R8). A write to a register field that has no behaviour of its own stores the value or is refused whole under the encoding and state rules. -/
  | registerWrite (a : Acc) (addr val : W32)
  /-- `LO_READ_SNAPSHOT` (R12). Reading the _LO word of a wide quantity copies its _HI word and sequence number into the path's holding register. -/
  | loReadSnapshot (a : Acc) (addr : W32)
  /-- `LO_WRITE_HOLD` (R13). Writing the _LO word of a writable two-word quantity holds the value on that path until the _HI write. -/
  | loWriteHold (a : Acc) (addr val : W32)
  /-- `HI_WRITE_COMMIT` (R13). Writing the _HI word commits both halves in one instant, using the held _LO or the current _LO. -/
  | hiWriteCommit (a : Acc) (addr val : W32)
  /-- `RC_FIELD_READ` (R6). Reading an RC field returns its value and then clears the field. -/
  | rcFieldRead (a : Acc) (addr : W32)
  /-- `AON_BRIDGE_ACCESS` (R20). An access to a Nightwatch register completes through the bridge between 2 µs and 5 µs after it reaches the bridge. -/
  | aonBridgeAccess (a : Acc) (write : Bool) (addr val : W32)
  /-- `VDD_CORE_FALL` (R36). VDD_CORE falls below its threshold: every bank output is clamped to its reset state within 1 µs and a power-on reset follows. -/
  | vddCoreFall
  /-- `SUPPLY_FALL_POR` (R375). VDD_PLL or VDDA falls below its valid threshold, which holds power-on reset. -/
  | supplyFallPor (k : Fin 2)
  /-- `RESET_RELEASE` (R375). Reset is released 2 ms after the last required supply becomes valid with RESET_N high, starting the boot ROM and both safety channels. -/
  | resetRelease (bootSel : Fin 4)
  /-- `BANK_VALID_DETECT` (R43). A bank supply that has stayed within a class window for 100 µs takes that class and enables its pins in their reset state. -/
  | bankValidDetect (b : Fin 6) (v33 : Bool)
  /-- `BANK_INVALID` (R43). A bank supply leaves its window and the bank becomes not valid within 5 µs, setting BANK_CHG and raising EV_123. -/
  | bankInvalid (b : Fin 6) (unpowered : Bool)
  /-- `SUPPLY_MONITOR_DROP` (R401). A monitored supply leaves its valid range, clearing its OK bit and setting its sticky DROP bit. -/
  | supplyMonitorDrop (k : Fin 6)
  /-- `MISSING_EDGE_DETECT` (R48). The missing-edge detector fires when no reference edge arrives for 25 ns to 35 ns, declaring a reference fault. -/
  | missingEdgeDetect
  /-- `FREQUENCY_COUNT` (R48). A reference frequency count over 32 crystal periods completes and is judged against the ±0.5 % window. -/
  | frequencyCount (n : BitVec 20)
  /-- `REF_GOOD_TIMEOUT` (R49). With the crystal not running, the reference is declared good after 1 ms without a missing-edge firing. -/
  | refGoodTimeout
  /-- `REFERENCE_RETURN` (R69). The reference returns after being missing, and stopped converter and modulator clocks restart with a full period. -/
  | referenceReturn
  /-- `PLL_ENABLE` (R53). Setting CLK_PLL_CTRL.EN starts an acquisition with band selection. -/
  | pllEnable (a : Acc) (val : W32)
  /-- `PLL_DISABLE` (R60). Clearing CLK_PLL_CTRL.EN with every leg disabled stops the DCO, sets PWM_HOLD and enters fallback. -/
  | pllDisable (a : Acc) (val : W32)
  /-- `BAND_MEASURE_DONE` (R53). A 10 µs band measurement completes, its F_MEAS is recorded and the next band or the loop closure follows. -/
  | bandMeasureDone (mhz : BitVec 12)
  /-- `LOCK_DECLARED` (R54). After 256 consecutive cycles within LOCK_WIN the PLL declares lock and returns the edge domain from fallback. -/
  | lockDeclared
  /-- `LOCK_ATTEMPT_TIMEOUT` (R54). A band that has not locked within 50 µs of closing the loop is disqualified and the next band is tried. -/
  | lockAttemptTimeout
  /-- `LOSS_OF_LOCK` (R56). The PLL declares loss of lock and forces all legs to their safe states, sets PWM_HOLD and switches clocks to fallback. -/
  | lossOfLock
  /-- `PWM_HOLD_RELEASE` (R59). A write of 1 to PWM_HOLD releases the hold if locked and not in fallback, or is refused with HOLD_CLR_REFUSED set. -/
  | pwmHoldRelease (a : Acc) (val : W32)
  /-- `PTP_STEP` (R64). A write to CLK_PTP_OFS_HI adds the signed offset to PTP time at the next tick. -/
  | ptpStep (a : Acc) (val : W32)
  /-- `PPS_RISE` (R66). PTP_PPS rises at the tick in which PTP nanoseconds carry into seconds. -/
  | ppsRise
  /-- `PPS_FALL` (R66). PTP_PPS falls PPS_WIDTH ms after it rose. -/
  | ppsFall
  /-- `ONE_SECOND_STROBE` (R65). Tallyman's one-second strobe occurs at the PTP second rollover or every 800,000,000 ticks. -/
  | oneSecondStrobe (ok : Bool)
  /-- `SNAP_SW_CAPTURE` (R67). A write of 1 to CLK_SNAP_CTRL.SW captures timebase and PTP time at the next tick. -/
  | snapSwCapture (a : Acc) (val : W32)
  /-- `PTP_CAP_EDGE` (R67). An edge on PTP_CAP with CAP_EN set captures timebase and PTP time stamped to the edge. -/
  | ptpCapEdge
  /-- `SNAP_NS_READ` (R67). Reading CLK_SNAP_NS marks the capture as read for OVERRUN. -/
  | snapNsRead (a : Acc)
  /-- `TIME_TRIGGER_FIRE` (R68). An armed time trigger fires when PTP time reaches its target, acts on its target, sets FIRED and raises EV_124. -/
  | timeTriggerFire (n : Fin 4)
  /-- `SDCK_START` (R69). Setting SNS_SDCK_k.EN starts the modulator clock with a full period. -/
  | sdckStart (a : Acc) (k : Fin 4) (val : W32)
  /-- `SDCK_STOP` (R69). Clearing SNS_SDCK_k.EN stops the modulator clock after a complete low phase. -/
  | sdckStop (a : Acc) (k : Fin 4) (val : W32)
  /-- `INPUT_STUCK` (R71). A bitstream input delivers a run of identical bits beyond its limit, becomes stuck, counts in its class and raises EV_16. -/
  | inputStuck (n : Fin 24)
  /-- `STUCK_RECOVERED` (R71). A stuck input that has toggled and run 1,024 bit clocks within the limit clears STUCK. -/
  | stuckRecovered (n : Fin 24)
  /-- `CONTROL_FILTER_RESTART` (R75). Setting CF_EN or changing CF_OSR while enabled restarts the control filter at the next bit clock. -/
  | controlFilterRestart (a : Acc) (n : Fin 24) (val : W32)
  /-- `CONTROL_FILTER_DECIMATION` (R74). The control filter completes a decimation and its result enters the mailbox 2 edge logic cycles later. -/
  | controlFilterDecimation (n : Fin 24) (bits : List Bool)
  /-- `COMPARATOR_ASSERT` (R78). A protection comparator's assert condition holds on a new filter value, setting SEEN, raising EV_19 and driving the trip logic. -/
  | comparatorAssert (n : Fin 24) (bits : List Bool)
  /-- `COMPARATOR_DEASSERT` (R78). An asserted comparator's deassert condition holds and its output returns to 0. -/
  | comparatorDeassert (n : Fin 24) (bits : List Bool)
  /-- `METERING_SAMPLE` (R81). All metering converters take sample k on the 100,000-tick grid. -/
  | meteringSample (l : List MtrIn)
  /-- `METERING_SAMPLE_DELIVERY` (R81). Metering sample k is delivered to its mailboxes 312.5 µs after the instant it represents. -/
  | meteringSampleDelivery
  /-- `ROTATION_STEP_START` (R86). A rotation step connects the spare converter to the next enabled channel and sets STEP_ACTIVE. -/
  | rotationStepStart
  /-- `ROTATION_HANDOVER` (R86). After 64 parallel samples the channel's output comes from the spare, marked HANDOVER, and the old converter is disconnected. -/
  | rotationHandover
  /-- `ROTATION_OFFSET_MEASURED` (R86). After 256 shorted samples the old converter's offset is measured. -/
  | rotationOffsetMeasured (ofs : BitVec 16)
  /-- `ROTATION_CAL_COMPLETE` (R86). The gain measurement ends, the converter passes or fails calibration, becomes the spare and EV_22 is raised. -/
  | rotationCalComplete (g1 g4 g16 g64 : Int)
  /-- `MTR_ROTATION_REQUEST` (R87). Writing SNS_MTR_ROT.REQ requests a rotation step, which pends until it can run. -/
  | mtrRotationRequest (a : Acc)
  /-- `METERING_INITIAL_CAL_DONE` (R388). The start-up calibration of all eight metering converters completes and samples begin. -/
  | meteringInitialCalDone (cal : List ConvCal)
  /-- `AUX_SCAN_START` (R88). Every SCAN_PER the auxiliary sequencer starts a scan of the enabled channels. -/
  | auxScanStart
  /-- `AUX_CONVERSION_DONE` (R89). An auxiliary conversion completes and its result and flags enter the mailbox. -/
  | auxConversionDone (code : BitVec 20) (die : BitVec 16)
  /-- `OPEN_WIRE_CONVERSION_DONE` (R90). An open-wire conversion completes and marks the input open or clears OW. -/
  | openWireConversionDone (code : BitVec 20)
  /-- `AUX_SELFTEST_DUE` (R92). The auxiliary self-test falls due every ST_PER seconds and waits for scan gaps. -/
  | auxSelftestDue
  /-- `AUX_SELFTEST_REQUEST` (R92). Writing SNS_AUX_TEST.REQ requests an auxiliary self-test. -/
  | auxSelftestRequest (a : Acc)
  /-- `AUX_SELFTEST_CONVERSION_DONE` (R92). A self-test conversion completes, and after the third the test records FAIL and increments ST_SEQ. -/
  | auxSelftestConversionDone (code : BitVec 20)
  /-- `SNS_CAPS` (R94). Command returning the sensing capability word. -/
  | snsCaps (p : Path) (tag : Byte)
  /-- `SNS_READ` (R94). Command returning value, flags, sequence number and timestamp from one mailbox write. -/
  | snsRead (p : Path) (tag : Byte)
  /-- `SNS_TEST` (R94). Command requesting or cancelling a rotation step, auxiliary self-test or open-wire conversions. -/
  | snsTest (p : Path) (tag : Byte)
  /-- `CARRIER_GROUP_RUN` (R96). Writing RUN = 1 starts the carrier group counter at the next tick, or arms it to wait for a time trigger. -/
  | carrierGroupRun (a : Acc) (g : Fin 8) (val : W32)
  /-- `CARRIER_START` (R97). A leg's carrier start occurs, loading a new period, sending sync events and markers and releasing tripped legs. -/
  | carrierStart (n : Fin 24)
  /-- `CARRIER_CENTRE` (R97). A leg's carrier centre occurs, which may be a load point and a sync event. -/
  | carrierCentre (n : Fin 24)
  /-- `COMMIT_CUTOFF` (R18). The commit cutoff 16 ticks before a load point passes, judging expected load points without a timely token as missed. -/
  | commitCutoff (n : Fin 24)
  /-- `COMPARE_EDGE` (R98). The reference r rises or falls at a compare instant, placed by delay line or dither. -/
  | compareEdge (n : Fin 24) (rising : Bool)
  /-- `DEAD_TIME_EXPIRY` (R101). A delayed turn-on takes place once the other output has been low for its dead time. -/
  | deadTimeExpiry (n : Fin 24)
  /-- `DELAY_LINE_CALIBRATION` (R105). Every 1 ms the replica line is compared with a tick and the trim moves by at most one step, or a failure is counted. -/
  | delayLineCalibration (err : Int) (step : Fin 3)
  /-- `SHADOW_WRITE` (R111). A firmware write to CMPA or CMPB fills the shadow and sets SH_PEND, or is refused with SRC = 1. -/
  | shadowWrite (a : Acc) (n : Fin 24) (cmpB : Bool) (val : W32)
  /-- `SHLOCK_WRITE` (R111). Writing PWM_SHLOCK holds or releases legs' pending shadows to the next load point. -/
  | shlockWrite (a : Acc) (val : W32)
  /-- `COMMIT_TOKEN_ARRIVAL` (R112). A commit token reaches the load-point logic and makes the named legs' tentative pairs eligible, or is late. -/
  | commitTokenArrival
  /-- `LEG_START` (R115). Setting a leg's EN starts it at its next carrier start, or is refused under the start conditions. -/
  | legStart (a : Acc) (n : Fin 24) (val : W32)
  /-- `LEG_STOP` (R116). Clearing a leg's EN stops it at the next tick with both commands at 0. -/
  | legStop (a : Acc) (n : Fin 24) (val : W32)
  /-- `FORCE_WRITE` (R117). A write to PWM_FORCE_g sets new switch codes for the group, pending until tick Tf. -/
  | forceWrite (a : Acc) (g : Fin 8) (val : W32)
  /-- `FORCE_TAKES_EFFECT` (R117). At tick Tf the force codes take effect for every member leg. -/
  | forceTakesEffect (g : Option (Fin 8))
  /-- `MARKER_RECEIVED` (R120). A follower receives a carrier marker, measures the offset, corrects the period and updates ALIGNED or loses alignment. -/
  | markerReceived (m : MarkIn) (off : Int)
  /-- `MARKER_TIMEOUT` (R121). No marker arrives for LOSS_PER carrier periods, so alignment is lost and EV_10 is raised. -/
  | markerTimeout
  /-- `PWM_CAPS` (R122). Command returning the PWM capability word. -/
  | pwmCaps (p : Path) (tag : Byte)
  /-- `PWM_START` (R122). Command starting every named leg together, or none. -/
  | pwmStart (p : Path) (tag : Byte)
  /-- `PWM_STOP` (R122). Command stopping the named legs at the same tick. -/
  | pwmStop (p : Path) (tag : Byte)
  /-- `PWM_FORCE` (R122). Command setting a force group's codes and returning the timebase at Tf. -/
  | pwmForce (p : Path) (tag : Byte)
  /-- `PWM_SET` (R122). Command writing the shadows of the named legs at one instant. -/
  | pwmSet (p : Path) (tag : Byte)
  /-- `TRIP_INPUT_FILTERED` (R125). A TRIP_n input's filtered level takes a new value after FILT cycles. -/
  | tripInputFiltered (n : Fin 24) (high : Bool)
  /-- `BLANKING_END` (R127). The blanking time of a desaturation input ends and an active level then trips with BLANK_FLT and EV_13. -/
  | blankingEnd (n : Fin 24)
  /-- `TRIP_SAFE_STATE` (R128). After the dead time of the other switch the tripped leg takes its safe state, and group members may go all-off. -/
  | tripSafeState (n : Fin 24)
  /-- `HOLDOFF_EXPIRY` (R133). For a leg whose carrier group is not running, the release takes place when the hold-off time expires. -/
  | holdoffExpiry (n : Fin 24)
  /-- `TRIP_CLEAR_WRITE` (R134). A write to TRP_CLR releases the named tripped or latched legs, or is refused whole if a source is active. -/
  | tripClearWrite (a : Acc) (val : W32)
  /-- `SOFTWARE_TRIP_WRITE` (R131). A write to TRP_SWTRIP latches the named legs with cause 0x30. -/
  | softwareTripWrite (a : Acc) (val : W32)
  /-- `TRIP_CLASS_WRITE` (R132). A write to TRP_CLS_k clears the window counts of every leg using class k. -/
  | tripClassWrite (a : Acc) (k : Fin 8) (val : W32)
  /-- `TRP_CAPS` (R136). Command returning the trip capability word. -/
  | trpCaps (p : Path) (tag : Byte)
  /-- `TRP_STATUS` (R136). Command returning trip status and every leg's state at one instant. -/
  | trpStatus (p : Path) (tag : Byte)
  /-- `TRP_CLEAR` (R136). Command clearing the named legs under the clear rule. -/
  | trpClear (p : Path) (tag : Byte)
  /-- `TRP_SOFT` (R136). Command tripping the named legs as a software trip. -/
  | trpSoft (p : Path) (tag : Byte)
  /-- `MAC` (R145). Instruction adding a coefficient times a state word to an accumulator. -/
  | mac (sl : Fin 64) (acc : Fin 4) (c n : BitVec 12)
  /-- `MSU` (R145). Instruction subtracting a coefficient times a state word from an accumulator. -/
  | msu (sl : Fin 64) (acc : Fin 4) (c n : BitVec 12)
  /-- `MACX` (R145). Instruction adding a coefficient times a register to an accumulator. -/
  | macx (sl : Fin 64) (acc : Fin 4) (xa : Fin 8) (n : BitVec 12)
  /-- `MSUX` (R145). Instruction subtracting a coefficient times a register from an accumulator. -/
  | msux (sl : Fin 64) (acc : Fin 4) (xa : Fin 8) (n : BitVec 12)
  /-- `MACS` (R145). Instruction adding a state word times a register to an accumulator. -/
  | macs (sl : Fin 64) (acc : Fin 4) (xa : Fin 8) (n : BitVec 12)
  /-- `MULX` (R145). Instruction adding the product of two registers to an accumulator. -/
  | mulx (sl : Fin 64) (acc : Fin 4) (xa xb : Fin 8)
  /-- `ADDX` (R145). Instruction adding a register to an accumulator. -/
  | addx (sl : Fin 64) (acc : Fin 4) (xa : Fin 8)
  /-- `SUBX` (R145). Instruction subtracting a register from an accumulator. -/
  | subx (sl : Fin 64) (acc : Fin 4) (xa : Fin 8)
  /-- `CLR` (R145). Instruction emptying an accumulator. -/
  | clr (sl : Fin 64) (acc : Fin 4)
  /-- `SHX` (R425). Instruction scaling an accumulator by 2^K through its exponent, with limiting and SAT. -/
  | shx (sl : Fin 64) (acc : Fin 4) (k : BitVec 6)
  /-- `LIM` (R145). Instruction limiting an accumulator between two coefficients and setting L if changed. -/
  | lim (sl : Fin 64) (acc : Fin 4) (n : BitVec 12)
  /-- `RND` (R143). Instruction converting an accumulator to a normalised data word in a register and setting N. -/
  | rnd (sl : Fin 64) (xa : Fin 8) (acc : Fin 4)
  /-- `STA` (R143). Instruction storing an accumulator to state memory with a given exponent. -/
  | sta (sl : Fin 64) (acc : Fin 4) (k : BitVec 6) (n : BitVec 12)
  /-- `NRM` (R143). Instruction storing one to four accumulators as a stage with a shared exponent. -/
  | nrm (sl : Fin 64) (acc : Fin 4) (k : BitVec 6) (n : BitVec 12)
  /-- `LDX` (R145). Instruction loading a register from state memory. -/
  | ldx (sl : Fin 64) (xa : Fin 8) (n : BitVec 12)
  /-- `LDXC` (R145). Instruction loading a register from coefficient memory. -/
  | ldxc (sl : Fin 64) (xa : Fin 8) (n : BitVec 12)
  /-- `STX` (R145). Instruction storing a register to state memory through the store buffer. -/
  | stx (sl : Fin 64) (xa : Fin 8) (n : BitVec 12)
  /-- `MOVX` (R145). Instruction copying one register to another. -/
  | movx (sl : Fin 64) (xa xb : Fin 8)
  /-- `DLY` (R145). Instruction shifting a delay line of state words by one place. -/
  | dly (sl : Fin 64) (k : BitVec 6) (n : BitVec 12)
  /-- `MINX` (R145). Instruction keeping the smaller of two registers. -/
  | minx (sl : Fin 64) (xa xb : Fin 8)
  /-- `MAXX` (R145). Instruction keeping the larger of two registers. -/
  | maxx (sl : Fin 64) (xa xb : Fin 8)
  /-- `LDS` (R146). Instruction loading a converted sample from a mailbox or group output and setting INV where flagged. -/
  | lds (sl : Fin 64) (xa : Fin 8) (kind : Fin 5) (idx : Fin 32)
  /-- `WSMP` (R145). Instruction suspending the slot until the source mailbox has had K writes since the start. -/
  | wsmp (sl : Fin 64) (k : BitVec 6) (kind : Fin 5) (idx : Fin 32)
  /-- `CHK` (R145). Instruction setting T when two registers differ by at most a coefficient tolerance. -/
  | chk (sl : Fin 64) (xa xb : Fin 8) (n : BitVec 12)
  /-- `SPEC` (R152). Instruction opening the speculative window and marking the store buffer. -/
  | spec (sl : Fin 64)
  /-- `TENT` (R152). Instruction writing a tentative compare pair for a leg aimed at its next load point. -/
  | tent (sl : Fin 64) (xa xb : Fin 8) (leg : Fin 32)
  /-- `COMMIT` (R152). Instruction sending a commit token for the named legs and closing the window. -/
  | commit (sl : Fin 64) (legs : BitVec 24)
  /-- `CANCEL` (R152). Instruction discarding uncommitted pairs and the stores buffered since SPEC. -/
  | cancel (sl : Fin 64) (legs : BitVec 24)
  /-- `BR` (R147). Instruction branching when its condition holds. -/
  | br (sl : Fin 64) (cond : Fin 11) (target : BitVec 14)
  /-- `RPT` (R147). Instruction repeating the next instruction CNT + 1 times with offset increments. -/
  | rpt (sl : Fin 64) (cnt : BitVec 8) (ci si : BitVec 4)
  /-- `GPOST` (R158). Instruction posting a register as the slot's group candidate. -/
  | gpost (sl : Fin 64) (xa : Fin 8)
  /-- `GSEL` (R159). Instruction by the selector resolving the group output with ramp, ceiling and limits, and issuing back-calculation corrections. -/
  | gsel (sl : Fin 64) (xa : Fin 8) (g : Fin 16)
  /-- `WREQ` (R203). Instruction passing a register to Weighmaster as a requester's request. -/
  | wreq (sl : Fin 64) (xa : Fin 8) (n : Fin 32)
  /-- `TRC` (R164). Instruction making a trace record of a register on a Scrivener channel. -/
  | trc (sl : Fin 64) (xa : Fin 8) (c : Fin 4)
  /-- `TRIG` (R166). Instruction triggering Scrivener. -/
  | trig (sl : Fin 64)
  /-- `EVT` (R145). Instruction raising EV_44 with a code in CEN_EVCODE. -/
  | evt (sl : Fin 64) (code : Byte)
  /-- `NOP` (R145). Instruction doing nothing. -/
  | nop (sl : Fin 64)
  /-- `END` (R150). Instruction ending the execution and writing the store buffer to state memory indivisibly. -/
  | endExec (sl : Fin 64)
  /-- `ILLEGAL_INSTRUCTION` (R156). An illegal opcode or encoding is executed and the slot takes a fault with FCAUSE 0x1. -/
  | illegalInstruction (sl : Fin 64)
  /-- `SLOT_TRIGGER_TIMER` (R148). A timebase-triggered slot's period elapses and the slot becomes ready, abandoning any unfinished execution. -/
  | slotTriggerTimer (sl : Fin 64)
  /-- `SLOT_DISPATCH` (R149). A lane starts or resumes the highest-priority ready slot at an instruction boundary. -/
  | slotDispatch (l : Fin 4)
  /-- `SLOT_ENABLE` (R171). Setting CEN_SLOT_s_CFG.EN enables the slot, or is refused under the enable conditions. -/
  | slotEnable (a : Acc) (sl : Fin 64) (val : W32)
  /-- `SLOT_DISABLE` (R151). Clearing a slot's EN abandons any execution without counting a miss and withdraws its expectations. -/
  | slotDisable (a : Acc) (sl : Fin 64) (val : W32)
  /-- `COOPER_SELFTEST_DUE` (R162). The Cooper self-test falls due every ST_PER seconds. -/
  | cooperSelftestDue
  /-- `COOPER_SELFTEST_REQUEST` (R162). Writing CEN_TEST.REQ requests a Cooper self-test. -/
  | cooperSelftestRequest (a : Acc)
  /-- `COOPER_SELFTEST_COMPLETE` (R162). A lane's self-test completes, its signature is compared, and a failure is counted and may latch the lane. -/
  | cooperSelftestComplete (l : Fin 4) (pass : Bool)
  /-- `EVCODE_READ` (R145). Reading CEN_EVCODE marks the program event code as read. -/
  | evcodeRead (a : Acc)
  /-- `SCRIVENER_ARM` (R166). Setting CEN_TRC_CTRL.ARM starts every enabled channel recording. -/
  | scrivenerArm (a : Acc) (val : W32)
  /-- `SCRIVENER_DISARM` (R166). Clearing CEN_TRC_CTRL.ARM stops recording and ends streaming. -/
  | scrivenerDisarm (a : Acc) (val : W32)
  /-- `SCRIVENER_SWTRIG` (R166). Writing CEN_TRC_CTRL.SWTRIG triggers Scrivener. -/
  | scrivenerSwtrig (a : Acc) (val : W32)
  /-- `SCRIVENER_POST_DONE` (R166). A ring channel has recorded POST records after the trigger and stops, setting DONE when all have stopped. -/
  | scrivenerPostDone (c : Fin 4)
  /-- `SCRIVENER_TS_WRAP` (R165). The record timestamp wraps and a time record is written. -/
  | scrivenerTsWrap
  /-- `CEN_CAPS` (R168). Command returning the Cooper capability word. -/
  | cenCaps (p : Path) (tag : Byte)
  /-- `CEN_WRITE` (R168). Command writing Cooper instruction, coefficient or state memory. -/
  | cenWrite (p : Path) (tag : Byte)
  /-- `CEN_READ` (R168). Command reading Cooper memory, state as committed. -/
  | cenRead (p : Path) (tag : Byte)
  /-- `CEN_START` (R168). Command enabling the named slots at one instant, or none. -/
  | cenStart (p : Path) (tag : Byte)
  /-- `CEN_STOP` (R168). Command stopping the named slots at one instant. -/
  | cenStop (p : Path) (tag : Byte)
  /-- `CEN_KICK` (R148). Command starting named slots that are waiting. -/
  | cenKick (p : Path) (tag : Byte)
  /-- `CEN_CLEAR` (R168). Command clearing the faults of the named slots. -/
  | cenClear (p : Path) (tag : Byte)
  /-- `CEN_GROUP` (R168). Command writing a group's member valid bits in one instant. -/
  | cenGroup (p : Path) (tag : Byte)
  /-- `CEN_STATUS` (R168). Command returning Cooper and slot status at one instant. -/
  | cenStatus (p : Path) (tag : Byte)
  /-- `CEN_SELFTEST` (R168). Command requesting or cancelling a Cooper self-test. -/
  | cenSelftest (p : Path) (tag : Byte)
  /-- `TRC_CAPS` (R168). Command returning the trace capability word. -/
  | trcCaps (p : Path) (tag : Byte)
  /-- `TRC_ARM` (R168). Command arming Scrivener. -/
  | trcArm (p : Path) (tag : Byte)
  /-- `TRC_TRIGGER` (R168). Command triggering Scrivener. -/
  | trcTrigger (p : Path) (tag : Byte)
  /-- `TRC_READ` (R168). Command reading records from a channel's on-chip buffer. -/
  | trcRead (p : Path) (tag : Byte)
  /-- `TRC_STOP` (R168). Command clearing ARM and ending streaming. -/
  | trcStop (p : Path) (tag : Byte)
  /-- `GRID_ENABLE` (R178). Setting GRD_CTRL.EN starts the grid functions in the state matching the contactor report, or is refused. -/
  | gridEnable (a : Acc) (val : W32)
  /-- `GRID_DISABLE` (R199). Clearing GRD_CTRL.EN stops the grid functions, refused in states 3 to 9. -/
  | gridDisable (a : Acc) (val : W32)
  /-- `GRID_SAMPLE_DECISION` (R174). GRD completes its evaluation of metering sample k and takes every decision on it. -/
  | gridSampleDecision (k : Nat)
  /-- `MEAS_CHANNEL_TIMEOUT` (R175). A configured metering channel delivers no sample for 375 µs and measurement is declared lost. -/
  | measChannelTimeout
  /-- `V10_UPDATE` (R173). At the end of each 3 s interval V10 is updated and V10 stages are evaluated. -/
  | v10Update
  /-- `CEASE_TIMEOUT` (R188). Phase current has not fallen below CEASE_I within CEASE_T of entering CEASED, so GRD disconnects. -/
  | ceaseTimeout
  /-- `SUSPECT_HOLD_EXPIRY` (R190). SUSP_HOLD seconds after the latest indication, SUSPECT clears. -/
  | suspectHoldExpiry
  /-- `ACT_INVALID_TIMEOUT` (R192). The probe estimate stays invalid longer than the bound, setting ACT_INVALID and raising EV_60. -/
  | actInvalidTimeout
  /-- `CONTACTOR_OPEN_TIMEOUT` (R180). No verified-open report arrives within OPEN_TMO, so GRD trips the DC legs and enters DISC_FAULT. -/
  | contactorOpenTimeout
  /-- `CONTACTOR_CLOSE_TIMEOUT` (R183). No verified-closed report arrives within CLOSE_TMO, so GRD withdraws the demand and counts a failure. -/
  | contactorCloseTimeout
  /-- `RECONNECT_DELAY_EXPIRY` (R183). The reconnection windows have held for RC_DELAY, so GRD demands the contactors closed and enters CLOSING. -/
  | reconnectDelayExpiry
  /-- `ENTER_SERVICE_RAMP_END` (R183). The enter-service ramp reaches full after ES_RAMP and EV_55 is raised. -/
  | enterServiceRampEnd
  /-- `GRD_PUB_FRAME_RECEIVED` (R177). A follower receives the leader's publication frame, writes it to its state memory and applies any trip demand. -/
  | grdPubFrameReceived (trip : Bool) (words : List W32)
  /-- `PUBLICATION_LOSS` (R177). A follower receives no publication for 3 samples, trips its grid legs and raises EV_58. -/
  | publicationLoss
  /-- `COOP_RECORD_TIMER` (R193). At each PTP multiple of PER the device takes a phasor record and hands it to every enabled peer. -/
  | coopRecordTimer
  /-- `COOP_RECORD_RECEIVED` (R194). A peer's phasor record arrives, is validated and updates the divergence and baseline. -/
  | coopRecordReceived (l : List Byte)
  /-- `COOP_PEER_TIMEOUT` (R193). A peer's last valid record is older than 3 × PER, so it is lost and EV_61 is raised. -/
  | coopPeerTimeout (n : Fin 8)
  /-- `GRD_CAPS` (R197). Command returning the grid capability word. -/
  | grdCaps (p : Path) (tag : Byte)
  /-- `GRD_STATUS` (R197). Command returning grid state and measurements from one sample. -/
  | grdStatus (p : Path) (tag : Byte)
  /-- `GRD_RECONNECT` (R197). Command requesting or cancelling a reconnection. -/
  | grdReconnect (p : Path) (tag : Byte)
  /-- `GRD_DISCONNECT` (R197). Command causing a disconnect under R179. -/
  | grdDisconnect (p : Path) (tag : Byte)
  /-- `GRD_CLEAR` (R197). Command clearing lockout or DISC_FAULT. -/
  | grdClear (p : Path) (tag : Byte)
  /-- `REQUEST_CUTOFF` (R205). At each request cutoff Weighmaster applies caps and arbitrates grants among requesters. -/
  | requestCutoff
  /-- `GRANT_BOUNDARY` (R206). At each grant boundary Weighmaster writes every ceiling to its group in one instant and updates its status. -/
  | grantBoundary
  /-- `BURST_RESERVATION_LAPSE` (R209). STAGGER_T after a burst ends, the burst sink's reservation lapses. -/
  | burstReservationLapse
  /-- `WEIGHMASTER_DISABLE` (R211). Clearing WGH_CTRL.EN ends any burst and at the next boundary writes the largest ceiling to each group. -/
  | weighmasterDisable (a : Acc) (val : W32)
  /-- `FOLLOWER_REQUEST_FORWARD` (R210). Before each leader cutoff a follower forwards its capped requests over the Neriq Link. -/
  | followerRequestForward
  /-- `WGH_REQ_FRAME_RECEIVED` (R210). The leader receives a follower's request frame and takes the requests at the next cutoff. -/
  | wghReqFrameReceived (pos : Fin 4) (l : List (Nat × Nat))
  /-- `WGH_CEIL_FRAME_RECEIVED` (R210). A follower receives a ceiling frame part from the leader. -/
  | wghCeilFrameReceived (parts : Fin 3) (part : Fin 2) (l : List (Nat × Nat))
  /-- `FOLLOWER_CEILING_WRITE` (R210). At the leader's boundary a follower writes the received ceilings, or zeros after 3 boundaries without a complete set. -/
  | followerCeilingWrite
  /-- `GRACE_EXPIRY` (R215). A zone's grace time expires in request, entering enforce and raising EV_65. -/
  | graceExpiry (z : Fin 8)
  /-- `WGH_CAPS` (R218). Command returning the Weighmaster capability word. -/
  | wghCaps (p : Path) (tag : Byte)
  /-- `WGH_STATUS` (R218). Command returning all Weighmaster status from one arbitration. -/
  | wghStatus (p : Path) (tag : Byte)
  /-- `WGH_BURST` (R218). Command requesting or cancelling a burst, replied when the burst ends. -/
  | wghBurst (p : Path) (tag : Byte)
  /-- `THM_CAPS` (R218). Command returning the thermal capability word. -/
  | thmCaps (p : Path) (tag : Byte)
  /-- `THM_STATUS` (R218). Command returning thermal status at one instant. -/
  | thmStatus (p : Path) (tag : Byte)
  /-- `MISSING_SET_TIMEOUT` (R230). No sample of a mapped channel arrives within 375 µs of its delivery time, so the set counts as missing. -/
  | missingSetTimeout
  /-- `PFAIL_FALL` (R237). PFAIL_SENSE falls and Tallyman sets PF_ACTIVE and flushes the totals within 150 µs. -/
  | pfailFall (ok : Bool)
  /-- `PF_FLUSH_TIMER` (R237). While PF_ACTIVE stays 1, Tallyman flushes again every 1 ms. -/
  | pfFlushTimer (ok : Bool)
  /-- `PFAIL_RISE` (R237). PFAIL_SENSE rises, PF_ACTIVE clears and saves return to the strobe. -/
  | pfailRise
  /-- `TALLYMAN_ENABLE` (R238). Setting TAL_CTRL.EN restores the totals and records any gap since the stop stamp. -/
  | tallymanEnable (a : Acc) (val : W32)
  /-- `TALLYMAN_DISABLE` (R242). Clearing TAL_CTRL.EN makes a final save, closes the interval flagged STOPPED and logs type 7. -/
  | tallymanDisable (a : Acc) (val : W32)
  /-- `TAL_CONFIG_WRITE` (R240). A write to a calibration register is applied and saved to the configuration copy, or refused when sealed. -/
  | talConfigWrite (a : Acc) (addr val : W32)
  /-- `TAL_SEAL_WRITE` (R240). Writing 1 to TAL_SEAL.SEAL seals the configuration and logs type 4. -/
  | talSealWrite (a : Acc) (val : W32)
  /-- `TAL_NONCE_EXPIRY` (R243). A Tallyman unseal nonce expires 60 s after its challenge. -/
  | talNonceExpiry
  /-- `TAL_CAPS` (R243). Command returning the Tallyman capability word. -/
  | talCaps (p : Path) (tag : Byte)
  /-- `TAL_STATUS` (R243). Command returning Tallyman status and totals from one sample set. -/
  | talStatus (p : Path) (tag : Byte)
  /-- `TAL_READ_INT` (R243). Command returning interval records from the ledger. -/
  | talReadInt (p : Path) (tag : Byte)
  /-- `TAL_CHALLENGE` (R243). Command returning a 16-byte unseal nonce. -/
  | talChallenge (p : Path) (tag : Byte)
  /-- `TAL_UNSEAL` (R240). Command verifying a signature and unsealing the configuration. -/
  | talUnseal (p : Path) (tag : Byte)
  /-- `TAL_CLEAR` (R236). Command clearing LEDGER_LATCH unless the last save failed. -/
  | talClear (p : Path) (tag : Byte)
  /-- `SAFETY_INPUT_ACCEPTED` (R250). A channel accepts a new contact level after FILT + 1 equal samples and re-forms the input's pattern and decision. -/
  | safetyInputAccepted (ch : Fin 2) (n : Fin 8) (c : Fin 2) (level : Bool)
  /-- `DISCREPANCY_TIMEOUT` (R251). An input's disagreement outlasts DISC_T, setting a discrepancy fault and raising EV_81. -/
  | discrepancyTimeout (n : Fin 8)
  /-- `TEST_PULSE_START` (R252). A test-pulse output goes low for TP_W and the contacts it feeds are ignored. -/
  | testPulseStart (src : Fin 2)
  /-- `TEST_PULSE_CHECK` (R252). 100 µs into a pulse a contact still reading 1 has a test-pulse fault. -/
  | testPulseCheck (src : Fin 2) (n : Fin 8) (level : Bool)
  /-- `TEST_PULSE_END` (R252). A test pulse ends and its contacts are evaluated again 200 µs later. -/
  | testPulseEnd (src : Fin 2)
  /-- `STATE_VECTOR_EXCHANGE` (R247). Every 1 ms each channel sends and compares state vectors, declaring a cross-comparison fault after 3 differing exchanges. -/
  | stateVectorExchange (differ : Bool)
  /-- `PARTNER_VECTOR_TIMEOUT` (R247). No vector arrives from the partner channel for 3 ms, declaring a cross-comparison fault. -/
  | partnerVectorTimeout
  /-- `EXCHANGE_RATE_CHECK` (R247). A channel counts the partner's vectors over 100 ms and faults outside 95 to 105. -/
  | exchangeRateCheck (n : Byte)
  /-- `B_CRYSTAL_LOSS` (R246). Channel B sees no crystal edge for 100 µs, takes its outputs low and reports B_XT_FAIL. -/
  | bCrystalLoss
  /-- `CONNECTION_CHECK_START` (R257). A verified-open function whose conditions hold starts its connection check with the weld test. -/
  | connectionCheckStart (f : Fin 2)
  /-- `CHECK_TIMER_EXPIRY` (R257). A CHK_T interval of the connection check ends and the next output is energised or the check fails. -/
  | checkTimerExpiry (f : Fin 2)
  /-- `MIRROR_FEEDBACK_CHANGE` (R256). A mirror contact pin changes level, advancing a check or revealing a feedback fault. -/
  | mirrorFeedbackChange (f idx : Fin 2) (level : Bool)
  /-- `FEEDBACK_TIMEOUT` (R258). An expected feedback does not arrive within FB_TMO, failing the check or declaring a feedback fault. -/
  | feedbackTimeout (f : Fin 2)
  /-- `RELAY_VERIFIED` (R256). Outputs and mirrors have agreed for CHK_T, so the device is reported verified open or verified closed. -/
  | relayVerified (f : Fin 2)
  /-- `FEEDBACK_DISAGREE_TIMEOUT` (R260). SFB_1_A and SFB_1_B disagree for more than 10 ms, declaring a feedback fault. -/
  | feedbackDisagreeTimeout
  /-- `OFF_PULSE_START` (R259). Every 10 s a channel drives its high output low for 300 µs and checks the readback. -/
  | offPulseStart (f ch : Fin 2) (low : Bool)
  /-- `OFF_PULSE_END` (R259). The off-pulse ends and the readback must return high within 50 µs. -/
  | offPulseEnd (f ch : Fin 2) (high : Bool)
  /-- `WELD_TEST_END` (R261). A requested weld test ends after 100 ms, passing or failing. -/
  | weldTestEnd
  /-- `SAFETY_PDU_RECEIVED` (R265). A safety PDU copy enters its receive ring, is checked on each channel and governs its connection. -/
  | safetyPduReceived (kind : Fin 3) (link : Fin 128) (pdu : List Byte)
  /-- `PDU_EXPECTATION_TIMEOUT` (R266). A path accepts no copy within EXP_T, so the connection becomes invalid and counts in class 3. -/
  | pduExpectationTimeout (c : Fin 8) (idx : Fin 2)
  /-- `PDU_SEND_TIMER` (R268). A send connection sends a PDU on both paths every TX_PER. -/
  | pduSendTimer (x : PduSend)
  /-- `SAF_UL_CHALLENGE` (R271). Writing SAF_UL_CTRL with OP 0 and the key produces a new nonce. -/
  | safUlChallenge (a : Acc) (val : W32)
  /-- `SAF_UL_CONFIG` (R271). Writing SAF_UL_CTRL with OP 1 requests a signed configuration change. -/
  | safUlConfig (a : Acc) (val : W32)
  /-- `SAF_UL_FAULT_ACK` (R271). Writing SAF_UL_CTRL with OP 2 requests a signed acknowledge of faults. -/
  | safUlFaultAck (a : Acc) (val : W32)
  /-- `SAF_UL_RESTART_ACK` (R271). Writing SAF_UL_CTRL with OP 3 requests a signed restart acknowledge. -/
  | safUlRestartAck (a : Acc) (val : W32)
  /-- `UNLOCK_VERIFY_COMPLETE` (R271). Both channels finish verifying an unlock request and it takes effect or is refused. -/
  | unlockVerifyComplete (storeBad : Bool)
  /-- `SAF_NONCE_EXPIRY` (R271). A safety unlock nonce expires 60 s after its challenge. -/
  | safNonceExpiry
  /-- `SAF_CAPS` (R276). Command returning the safety capability word. -/
  | safCaps (p : Path) (tag : Byte)
  /-- `SAF_STATUS` (R276). Command returning safety status at one instant. -/
  | safStatus (p : Path) (tag : Byte)
  /-- `SAF_READ_CFG` (R276). Command returning a channel's configuration record. -/
  | safReadCfg (p : Path) (tag : Byte)
  /-- `SAF_CHALLENGE` (R276). Command returning a new unlock nonce. -/
  | safChallenge (p : Path) (tag : Byte)
  /-- `SAF_UNLOCK` (R271). Command submitting a signed unlock request. -/
  | safUnlock (p : Path) (tag : Byte)
  /-- `SAF_WELDTEST` (R261). Command requesting a weld test of the grid contactors. -/
  | safWeldtest (p : Path) (tag : Byte)
  /-- `HOST_WRITE` (R282). A WRITE transaction enters the posted-write buffer or is discarded on overflow. -/
  | hostWrite (addr : W32) (data : List Byte)
  /-- `POSTED_WRITE_PERFORM` (R282). A posted write is performed from the buffer in order. -/
  | postedWritePerform
  /-- `HOST_READ` (R281). A READ transaction returns wait bytes, a start byte and the data. -/
  | hostRead (addr : W32) (len : Nat)
  /-- `HOST_READ_TIMEOUT` (R281). Read data is not ready within 20 µs, so 0xE1 is sent and RD_TMO is set. -/
  | hostReadTimeout (addr : W32)
  /-- `HOST_STATUS` (R280). A STATUS transaction returns the status byte. -/
  | hostStatus
  /-- `HOST_CMD` (R284). A CMD transaction delivers a command packet to the command engine. -/
  | hostCmd (pkt : List Byte)
  /-- `HOST_REPLY` (R280). A REPLY transaction returns the oldest waiting reply packet. -/
  | hostReply
  /-- `HOST_BAD_INSTRUCTION` (R280). An unknown instruction byte sets BAD_INSTR and the transaction is ignored. -/
  | hostBadInstruction (b : Byte)
  /-- `COMMAND_START` (R288). A queued command starts once its block is free and no barrier holds it. -/
  | commandStart (p : Path) (tag : Byte)
  /-- `REPLY_RELEASE` (R288). A completed command's reply leaves its path, in acceptance order under version 1. -/
  | replyRelease (p : Path) (tag : Byte)
  /-- `ACCESS_TIMEOUT` (R292). A register or memory access not completed within 1 ms is cancelled and the command ends with ST_TIMEOUT. -/
  | accessTimeout (p : Path) (tag : Byte)
  /-- `SYS_NOP` (R290). Command echoing its payload. -/
  | sysNop (p : Path) (tag : Byte)
  /-- `HELLO` (R289). Command negotiating the path's protocol version. -/
  | hello (p : Path) (tag : Byte)
  /-- `SYS_CAPS` (R290). Command returning SYS_ID and HST_CAP. -/
  | sysCaps (p : Path) (tag : Byte)
  /-- `REG_READ` (R291). Command reading 1 to 256 register words, each once. -/
  | regReadCmd (p : Path) (tag : Byte)
  /-- `REG_WRITE` (R291). Command writing 1 to 256 register words, stopping at the first refused word. -/
  | regWriteCmd (p : Path) (tag : Byte)
  /-- `MEM_READ` (R291). Command reading bytes from a memory region. -/
  | memReadCmd (p : Path) (tag : Byte)
  /-- `MEM_WRITE` (R291). Command writing bytes to a memory region. -/
  | memWriteCmd (p : Path) (tag : Byte)
  /-- `HST_ABORT` (R290). Command aborting an outstanding command that has not started. -/
  | hstAbort (p : Path) (tag : Byte)
  /-- `REG_MODIFY` (R290). Command performing an uninterrupted read-modify-write of a register. -/
  | regModify (p : Path) (tag : Byte)
  /-- `ETH_LINK_CHANGE` (R294). An Ethernet port's link goes up or down and EV_88 is raised. -/
  | ethLinkChange (x : Fin 2) (up half : Bool) (speed : Fin 3)
  /-- `ETH_FRAME_RECEIVED` (R302). A received Ethernet frame is filtered, timestamped and delivered to a matching ring or dropped. -/
  | ethFrameReceived (x : Fin 2) (frame : List Byte) (fill : Option (BitVec 16))
  /-- `RING_TAIL_WRITE` (R299). Firmware advances a ring's TAIL, giving descriptors to the engine. -/
  | ringTailWrite (a : Acc) (r : Fin 32) (val : W32)
  /-- `TX_FRAME_COMPLETE` (R300). A transmit frame leaves and its descriptor is written back with status and timestamp. -/
  | txFrameComplete (x : Fin 2)
  /-- `SESSION_PACKET_RECEIVED` (R305). A session packet is matched, replay-checked and authenticated, then delivered to its destination or dropped. -/
  | sessionPacketReceived (x : Fin 2) (port : BitVec 16) (pkt : List Byte)
  /-- `KEY_LOAD_WRITE` (R306). Writing NET_KEY_CTRL with OP 1 loads the staged key into a slot. -/
  | keyLoadWrite (a : Acc) (slot : Fin 128)
  /-- `KEY_ERASE_WRITE` (R306). Writing NET_KEY_CTRL with OP 2 erases a key slot. -/
  | keyEraseWrite (a : Acc) (slot : Fin 128)
  /-- `DRC_ENABLE` (R307). Setting DRC_CTRL.EN starts DRAM initialisation and training. -/
  | drcEnable (a : Acc) (val : W32)
  /-- `DRAM_TRAINING_COMPLETE` (R307). DRAM initialisation and training finish, setting READY or TRAIN_FAIL. -/
  | dramTrainingComplete (ok : Bool)
  /-- `DRAM_ZQ_CAL_TIMER` (R307). Every 256 ms the DRAM controller repeats ZQ calibration. -/
  | dramZqCalTimer
  /-- `DRAM_DQS_CHECK_TIMER` (R307). Every 100 ms the DQS oscillator is checked and the port retrains on excess drift. -/
  | dramDqsCheckTimer (excess : Bool)
  /-- `DRAM_SCRUB_PASS` (R308). The controller reads the whole device once every SCRUB_H hours in idle bandwidth. -/
  | dramScrubPass (ce ue : List W32)
  /-- `NQL_ENABLE` (R313). Enabling the link or a lane takes the lane from DOWN to SYNC. -/
  | nqlEnable (a : Acc) (val : W32)
  /-- `LANE_SYNC_ACHIEVED` (R313). 64 consecutive valid IDLE are received and the lane enters TRAIN. -/
  | laneSyncAchieved (l : Fin 2)
  /-- `LANE_NOSIG_TIMEOUT` (R313). 10 ms without signal in SYNC sets NOSIG. -/
  | laneNosigTimeout (l : Fin 2)
  /-- `LANE_TRAINED` (R313). 16 TS are received and sent, so the lane enters DELAY, or a node conflict is raised. -/
  | laneTrained (l : Fin 2) (peer : Fin 16)
  /-- `PING_RECEIVED` (R314). A PING arrives and the lane answers with an ECHO carrying its residual. -/
  | pingReceived (l : Fin 2) (num : Byte) (residual : BitVec 16)
  /-- `ECHO_RECEIVED` (R314). An ECHO arrives and the one-way delay is computed and averaged. -/
  | echoReceived (l : Fin 2) (num : Byte) (residual : BitVec 16) (roundTrip : Nat)
  /-- `PING_TIMER` (R314). In UP each lane sends a PING every 1 ms. -/
  | pingTimer (l : Fin 2)
  /-- `CAP_FRAME_RECEIVED` (R313). A CAP frame arrives, taking the lane to UP if compatible and updating node presence. -/
  | capFrameReceived (l : Fin 2) (src : NqlFrom) (payload : List Byte)
  /-- `CAP_BROADCAST_TIMER` (R313). In UP each node broadcasts its CAP every 1 s. -/
  | capBroadcastTimer
  /-- `NODE_PRESENCE_TIMEOUT` (R313). A node whose CAP has not arrived within 3 s leaves NODES. -/
  | nodePresenceTimeout (n : Fin 16)
  /-- `LANE_ERROR_BURST` (R313). 16 code errors within 1 ms or loss of alignment take the lane to SYNC and raise EV_98. -/
  | laneErrorBurst (l : Fin 2)
  /-- `NQL_FRAME_FORWARD` (R312). A frame not addressed to this node is forwarded on the other lane with the hop count decremented. -/
  | nqlFrameForward (l : Fin 2) (frame : List Byte)
  /-- `NQL_DATA_FRAME_RECEIVED` (R311). A DATA frame is delivered to RX_RING with class 0xFE. -/
  | nqlDataFrameReceived (l : Fin 2) (src : Fin 16) (seq : BitVec 16) (payload : List Byte)
  /-- `NQL_CAPS` (R316). Command NET_CAPS returning the network and Neriq Link capability words. -/
  | nqlCaps (p : Path) (tag : Byte)
  /-- `NET_STATUS` (R316). Command returning port, PTP, link and DRAM status at one instant. -/
  | netStatus (p : Path) (tag : Byte)
  /-- `NET_SESS_OPEN` (R316). Command writing a session context and enabling it. -/
  | netSessOpen (p : Path) (tag : Byte)
  /-- `NET_SESS_CLOSE` (R316). Command disabling a session and abandoning its outstanding commands. -/
  | netSessClose (p : Path) (tag : Byte)
  /-- `NET_KEY_LOAD` (R306). Command loading or erasing a key slot. -/
  | netKeyLoad (p : Path) (tag : Byte)
  /-- `NET_REKEY` (R316). Command naming a new key slot for the inactive phase and switching the transmit phase. -/
  | netRekey (p : Path) (tag : Byte)
  /-- `NQL_STATUS` (R316). Command returning Neriq Link and lane status. -/
  | nqlStatus (p : Path) (tag : Byte)
  /-- `NQL_SEND` (R316). Command queueing a DATA frame on the Neriq Link. -/
  | nqlSend (p : Path) (tag : Byte)
  /-- `PLC_PORT_ENABLE` (R326). Enabling a PLC port sends a network start request and sets STATE to starting. -/
  | plcPortEnable (a : Acc) (p : Fin 4) (val : W32)
  /-- `NETWORK_START_CONFIRM` (R326). A network start confirm from the modem sets the port up or down. -/
  | networkStartConfirm (p : Fin 4) (status : Byte)
  /-- `DATA_CONFIRM` (R325). A data confirm from the modem reports the outcome of a sent endpoint message. -/
  | dataConfirm (p : Fin 4) (handle : BitVec 16) (status : Byte)
  /-- `JOIN_NOTIFICATION` (R326). A join notification creates or updates an endpoint entry and raises EV_105. -/
  | joinNotification (p : Fin 4) (eui : BitVec 64) (short : BitVec 16)
  /-- `LEAVE_NOTIFICATION` (R326). A leave notification sets the entry's short address to 0xFFFF. -/
  | leaveNotification (p : Fin 4) (eui : BitVec 64) (short : BitVec 16)
  /-- `GET_CONFIRM` (R326). A GET confirm answers the port keep-alive request. -/
  | getConfirm (p : Fin 4)
  /-- `MODEM_RESTART` (R326). A modem restart frame makes Lamplighter start the port's network again. -/
  | modemRestart (p : Fin 4)
  /-- `PLC_FRAME_BAD` (R324). A modem frame with a bad CRC or length is counted and the receiver resynchronises. -/
  | plcFrameBad (p : Fin 4)
  /-- `PLC_KEEPALIVE_TIMER` (R326). Every 1 s an up port sends a GET request, and three unanswered take the port down. -/
  | plcKeepaliveTimer (p : Fin 4)
  /-- `PLC_RESET_TIMER` (R326). The 10 ms modem reset of a down port ends and the port starts again. -/
  | plcResetTimer (p : Fin 4)
  /-- `ENDPOINT_HELLO_RSP` (R328). An endpoint's HELLO_RSP sets its negotiated profile and rated power. -/
  | endpointHelloRsp (num : BitVec 16) (ver hi lo : Byte) (rated : BitVec 16)
  /-- `ENDPOINT_STATUS` (R329). An endpoint's STATUS ends its transaction and updates level, faults and energy. -/
  | endpointStatus (num : BitVec 16) (ver level : Byte) (faults : BitVec 24) (energy : W32) (power : BitVec 16)
  /-- `ENDPOINT_ACK` (R329). An endpoint's ACK ends its transaction and sets the reported level. -/
  | endpointAck (num : BitVec 16) (ver result level : Byte)
  /-- `TRANSACTION_START` (R329). A queued endpoint transaction starts when its port's rate and window allow. -/
  | transactionStart
  /-- `TRANSACTION_RESPONSE_TIMEOUT` (R329). A request without reply after RESP_TMO is retried or the transaction fails. -/
  | transactionResponseTimeout (num : BitVec 16)
  /-- `POLL_DUE` (R330). A served endpoint's poll falls due within its POLL_PER spread. -/
  | pollDue (entry : Fin 262144)
  /-- `LOCAL_MINUTE_BOUNDARY` (R334). At each local minute boundary Lamplighter evaluates every schedule in use. -/
  | localMinuteBoundary
  /-- `OVERRIDE_EXPIRY` (R331). An endpoint's override reaches its expiry and its commanded level is re-evaluated. -/
  | overrideExpiry (entry : Fin 262144)
  /-- `DEFERRED_RETRY_TIMER` (R337). Every RETRY_T × 10 s a batch is formed from the deferred endpoints. -/
  | deferredRetryTimer
  /-- `SUPPLY_LEVEL_POLL` (R338). Each second Lamplighter reads the supply level and dims, sheds or restores endpoints. -/
  | supplyLevelPoll
  /-- `LMP_UPDATE_RECEIVED` (R340). An UPDATE message is merged into the local directory entries. -/
  | lmpUpdateReceived (peer : Fin 16) (role : Fin 4) (district : BitVec 16) (entries : List (List Byte))
  /-- `LMP_DIGEST_RECEIVED` (R341). A DIGEST message is compared and differing ranges are pulled. -/
  | lmpDigestReceived (peer : Fin 16) (role : Fin 4) (district : BitVec 16) (ranges : List (Nat × Nat × Nat))
  /-- `LMP_PULL_RECEIVED` (R341). A PULL message is answered with UPDATEs for the requested ranges. -/
  | lmpPullReceived (peer : Fin 16) (role : Fin 4) (district : BitVec 16) (ranges : List Nat)
  /-- `LMP_BEAT_RECEIVED` (R342). A master BEAT is heard, possibly causing a hand-back. -/
  | lmpBeatReceived (peer : Fin 16) (role : Fin 4) (district hub : BitVec 16) (epoch : W32)
  /-- `LMP_GROUP_RECEIVED` (R332). A forwarded GROUP message is executed on the hub's served endpoints. -/
  | lmpGroupReceived (peer : Fin 16) (role : Fin 4) (district : BitVec 16) (payload : List Byte)
  /-- `LMP_ENDPOINT_RECEIVED` (R339). An ENDPOINT message from a gateway carries an endpoint message. -/
  | lmpEndpointReceived (g : Fin 16) (eui : BitVec 64) (msg : List Byte)
  /-- `DIGEST_TIMER` (R341). Every 60 s the hub sends DIGESTs to each peer. -/
  | digestTimer
  /-- `BEAT_TIMER` (R342). A master sends BEAT to every enabled peer every 1 s. -/
  | beatTimer
  /-- `MASTER_SILENCE_TIMEOUT` (R342). A standby hub hears no BEAT of its role for FAIL_T and starts a takeover. -/
  | masterSilenceTimeout
  /-- `TAKEOVER_COMPLETE` (R342). The takeover's pulls finish, DIR_ACTIVE shows the new role and EV_109 is raised. -/
  | takeoverComplete
  /-- `DIR_ROLE_WRITE` (R342). A change of SYS_ROLE.DIR_ROLE starts a takeover or a hand-back. -/
  | dirRoleWrite (a : Acc) (val : W32)
  /-- `ENTRY_FREE_TIMER` (R321). A deleted entry is freed 24 h after the deletion reached it. -/
  | entryFreeTimer (entry : Fin 262144)
  /-- `LMP_CAPS` (R344). Command returning the Lamplighter capability word. -/
  | lmpCaps (p : Path) (tag : Byte)
  /-- `LMP_STATUS` (R344). Command returning Lamplighter status at one instant. -/
  | lmpStatus (p : Path) (tag : Byte)
  /-- `LMP_ENTRY_READ` (R344). Command reading a directory entry by identity or number. -/
  | lmpEntryRead (p : Path) (tag : Byte)
  /-- `LMP_ENTRY_WRITE` (R344). Command creating or updating a directory entry's configuration. -/
  | lmpEntryWrite (p : Path) (tag : Byte)
  /-- `LMP_ENTRY_DELETE` (R344). Command marking a directory entry deleted. -/
  | lmpEntryDelete (p : Path) (tag : Byte)
  /-- `LMP_SCHED_WRITE` (R333). Command writing a schedule's steps in one step. -/
  | lmpSchedWrite (p : Path) (tag : Byte)
  /-- `LMP_SET` (R344). Command setting an endpoint's level, replied when its transaction ends. -/
  | lmpSet (p : Path) (tag : Byte)
  /-- `LMP_GROUP` (R332). Command setting a level on every served member of a group. -/
  | lmpGroup (p : Path) (tag : Byte)
  /-- `VBAT_FIRST_APPLICATION` (R347). VBAT_AON rises to 2.0 V and Nightwatch starts afresh with every register at its reset value. -/
  | vbatFirstApplication
  /-- `VBAT_LOSS` (R347). VBAT_AON falls below 2.0 V and Nightwatch stops. -/
  | vbatLoss
  /-- `VBAT_SAMPLE` (R347). Once per second Nightwatch samples VBAT_AON against 2.2 V. -/
  | vbatSample (mv : Nat)
  /-- `RTC_SET` (R349). Writing AON_RTC_SET_HI commits the clock value and sets RTC_VALID. -/
  | rtcSet (a : Acc) (hi : W32)
  /-- `CRYSTAL_LOSS` (R350). No crystal edge for 1 ms holds the clock and clears XT_OK and RTC_VALID. -/
  | crystalLoss
  /-- `CRYSTAL_RESTART` (R350). The crystal restarts and the clock resumes from its held value. -/
  | crystalRestart
  /-- `RTC_TRIM_TIMER` (R350). Every 32 s of clock time TRIM counts are added or withheld. -/
  | rtcTrimTimer
  /-- `RTC_ALARM` (R352). The clock reaches the alarm second, setting PEND bit 0 and raising EV_114. -/
  | rtcAlarm
  /-- `DOOR_TAMPER_SAMPLE` (R353). Every 31.25 ms the door and tamper pins are sampled and a second low sample sets the latch. -/
  | doorTamperSample (doorLow tamperLow : Bool)
  /-- `BS_SAMPLE` (R356). The black-start converter samples VHV_SENSE, BS_FB and VBAT_AON and advances the sequencer. -/
  | bsSample (vhv bsfb vbat : Nat)
  /-- `KICK_PULSE` (R357). Every KICK_GAP in kick a pulse is driven on BS_DRV, and after KICK_N pulses the sequence fails. -/
  | kickPulse
  /-- `BS_WAKE_TIMEOUT` (R357). VDD_CORE is not valid within WAKE_TMO in run and the sequence fails. -/
  | bsWakeTimeout
  /-- `BS_RETRY_EXPIRY` (R357). RETRY_T after a failure the sequencer returns to idle. -/
  | bsRetryExpiry
  /-- `BUCK_ENABLE` (R361). Setting AUX_BK_CTRL.EN starts a soft start. -/
  | buckEnable (a : Acc) (val : W32) (vfb : Nat)
  /-- `SOFT_START_END` (R361). The soft-start ramp reaches VSET and the controller regulates or enters hiccup. -/
  | softStartEnd (vfb : Nat)
  /-- `HICCUP_END` (R361). The 64 ms hiccup off time ends and a new soft start follows. -/
  | hiccupEnd (vfb : Nat)
  /-- `BUCK_FAULT_DETECT` (R362). Persistent current limit for OC_T or low output for 1 ms puts the buck into hiccup. -/
  | buckFaultDetect (ilim : Bool) (vfb : Nat)
  /-- `BUCK_VSET_WRITE` (R363). A write of VSET while regulating starts a slew of VREF. -/
  | buckVsetWrite (a : Acc) (val : W32)
  /-- `BUCK_SLEW_DONE` (R363). VREF reaches the new VSET and SLEWING clears. -/
  | buckSlewDone (vfb : Nat)
  /-- `BUCK_LATCH_CLEAR` (R361). Writing 1 to the buck's LATCHED clears it and starts a soft start. -/
  | buckLatchClear (a : Acc) (vfb : Nat)
  /-- `PGOOD_RELEASE` (R364). The output has stayed in window for 1 ms and PGOOD_AUX is released. -/
  | pgoodRelease (vfb : Nat)
  /-- `PGOOD_LOSS` (R364). The output leaves its window for 10 µs and PGOOD_AUX is pulled low. -/
  | pgoodLoss (vfb : Nat)
  /-- `SHED_START` (R365). Low current for 256 periods begins a shed with a settle window. -/
  | shedStart (i0 i1 : BitVec 16)
  /-- `SHED_SETTLE_END` (R365). The 20 µs settle window ends and phase 1 is shed. -/
  | shedSettleEnd (abandon : Bool)
  /-- `PHASE_READD` (R365). Phase 0 current exceeds ADD_TH and phase 1 switches again. -/
  | phaseReadd (i0 : BitVec 16)
  /-- `PUMP_ENABLE` (R367). Setting AUX_PMP_CTRL.EN starts the bootstrap precharge, or is refused without VDRV_OK. -/
  | pumpEnable (a : Acc) (val : W32)
  /-- `PRECHARGE_END` (R367). The precharge time ends and commutation begins. -/
  | prechargeEnd
  /-- `HALL_CODE_CHANGE` (R368). A new Hall code selects the chopping and low phases, or faults if invalid. -/
  | hallCodeChange (code : BitVec 3)
  /-- `PUMP_DESAT` (R369). A low switch desaturates after blanking, turning off and faulting the pump. -/
  | pumpDesat (n : Fin 3)
  /-- `PUMP_OVERCURRENT` (R369). The current limit acts in every period for 1 ms and the pump faults. -/
  | pumpOvercurrent
  /-- `PUMP_BOOTSTRAP_LOW` (R369). A bootstrap stays low for 16 consecutive periods and the pump faults. -/
  | pumpBootstrapLow (n : Fin 3)
  /-- `PUMP_STALL_TIMEOUT` (R369). No valid Hall edge for STALL_T with DUTY above 0 faults the pump. -/
  | pumpStallTimeout
  /-- `PUMP_RESTART_TIMER` (R370). RESTART_T after a fault below the limit the pump starts again. -/
  | pumpRestartTimer
  /-- `VDRV_LOSS` (R370). Loss of VDRV_OK turns every pump switch off with FCAUSE 6. -/
  | vdrvLoss
  /-- `VDRV_RETURN` (R370). VDRV_OK returns and the pump restarts. -/
  | vdrvReturn
  /-- `AUX_CAPS` (R372). Command returning the Nightwatch and auxiliary capability words. -/
  | auxCaps (p : Path) (tag : Byte)
  /-- `AON_TIME_SET` (R372). Command setting the real-time clock. -/
  | aonTimeSet (p : Path) (tag : Byte)
  /-- `AON_CLEAR` (R372). Command clearing latches and pending bits. -/
  | aonClear (p : Path) (tag : Byte)
  /-- `AUX_BK_SET` (R372). Command slewing the buck to a new VSET, replied on arrival. -/
  | auxBkSet (p : Path) (tag : Byte)
  /-- `AUX_STATUS` (R372). Command returning Nightwatch and auxiliary status. -/
  | auxStatus (p : Path) (tag : Byte)
  /-- `RESET_PIN` (R378). RESET_N held low for at least 1 µs requests a warm reset. -/
  | resetPin
  /-- `SOFTWARE_RESET_WRITE` (R382). Writing SYS_RST_CTRL with key and RST requests a warm reset, refused with legs enabled unless FORCE. -/
  | softwareResetWrite (a : Acc) (val : W32)
  /-- `WARM_RESET_ASSERT` (R379). 200 µs after a warm-reset request the internal reset is asserted and boot restarts. -/
  | warmResetAssert
  /-- `WATCHDOG_KICK` (R381). Writing 0xC3 to SYS_WDT_KICK restarts the watchdog timeout. -/
  | watchdogKick (a : Acc) (val : W32)
  /-- `WATCHDOG_EXPIRY` (R381). The watchdog times out and raises EV_127, trips every leg or performs a warm reset. -/
  | watchdogExpiry
  /-- `BOOT_REF_TIMEOUT` (R386). The ROM waits 100 ms for REF_OK without success and the boot attempt fails. -/
  | bootRefTimeout
  /-- `BOOT_SLOT_ATTEMPT` (R384). The ROM verifies an image header and checks the body hash in a first pass. -/
  | bootSlotAttempt (hdrA hdrB : List Byte) (keyOk sigOk bodyOk : Bool)
  /-- `BOOT_RECORD_WRITE` (R385). A boot record of kind 0x00 writes its words like a register or memory write. -/
  | bootRecordWrite (addr : W32) (words : List W32)
  /-- `BOOT_RECORD_WAIT` (R385). A boot record of kind 0x02 polls a register until it matches or times out. -/
  | bootRecordWait (addr mask value : W32)
  /-- `BOOT_RECORD_END` (R385). The end record completes the second pass and boot is done or the attempt fails. -/
  | bootRecordEnd (hashOk : Bool)
  /-- `LIFECYCLE_FUSE_PROGRAM` (R387). The lifecycle fuse is programmed over JTAG, securing the part permanently. -/
  | lifecycleFuseProgram
  /-- `EVENT_ARRIVAL` (R389). A raised event reaches the event controller, which sets its pending bit, logs it and routes it. -/
  | eventArrival
  /-- `EVT_OUT_PULSE_START` (R392). An event output pulse rises at its due instant or late. -/
  | evtOutPulseStart (n : Fin 4)
  /-- `EVT_OUT_PULSE_END` (R392). An event output pulse ends after WIDTH. -/
  | evtOutPulseEnd (n : Fin 4)
  /-- `FAULT_CLASS_WRITE` (R394). A write to SYS_FCLS_k clears the window counts of class k. -/
  | faultClassWrite (a : Acc) (k : Fin 11) (val : W32)
  /-- `SYS_RESET` (R396). Command requesting a software reset. -/
  | sysReset (p : Path) (tag : Byte)
  /-- `BOOT_STATUS` (R396). Command returning boot state and reset causes. -/
  | bootStatus (p : Path) (tag : Byte)
  /-- `BOOT_IMAGE` (R386). Command supplying a host image in SRAM for verification and application. -/
  | bootImage (p : Path) (tag : Byte) (keyOk sigOk bodyOk : Bool)
  /-- `SVN_ADVANCE` (R396). Command fusing a higher security version. -/
  | svnAdvance (p : Path) (tag : Byte)
  /-- `EVT_READ` (R396). Command returning log records and advancing RPTR. -/
  | evtRead (p : Path) (tag : Byte)
  /-- `EVT_PENDING` (R396). Command returning the pending-event words at one instant. -/
  | evtPending (p : Path) (tag : Byte)
  /-- `EVT_CLEAR` (R396). Command clearing pending event bits. -/
  | evtClear (p : Path) (tag : Byte)
  /-- `W1C_CLEAR` (R6). A write of 1 to a W1C field clears the bit, zeroing its counter or releasing its latch, or is refused while the rule's condition holds. -/
  | w1cClear (a : Acc) (addr val : W32)
  /-- `SUPPLY_VALID` (R375). A supply rises above its valid threshold, starting the power-on reset count, setting its OK bit and ending a black-start qualify or kick. -/
  | supplyValid (k : Fin 7)
  /-- `SAFETY_CONFIG_LOADED` (R270). Both safety channels finish loading and comparing their stores, and the supervisor leaves UNCONFIG or stays in its safe state. -/
  | safetyConfigLoaded
  /-- `NQL_FRAME_BAD` (R310). A Neriq Link frame with a bad CRC or a code error is discarded and counted. -/
  | nqlFrameBad (l : Fin 2) (code : Bool)
  /-- `MODEM_HANDSHAKE_LINE` (R323). PLM_p_CTS_N falls in UART mode or PLM_p_IRQ_N goes low in SPI mode, letting the device send to or clock the modem. -/
  | modemHandshakeLine (p : Fin 4)
  deriving DecidableEq, Repr

end Sys2Proof
end

