-- ==== Sys2Proof/Config.lean ====
section
/-! DEFINITION. What is fixed for one part, and the values the spec leaves open. Each is a constant
without a body: no proof can see what it is. -/
namespace Sys2Proof.Config

/-- Which of the two grades the part was fused as (R2, R3). -/
opaque gradeIsAI : Bool

/-- `SYS_ID.GRADE`: 1 for the AE grade, 2 for the AI grade (R3). -/
def grade : Nat := if gradeIsAI then 2 else 1

/-- Values the spec leaves open, one for each reading of the counter `Dev.free` (log entry 3). -/
opaque freeValue : Nat → BitVec 64

/-- Bytes of a memory whose contents the spec leaves undefined (R26, R380): by the loss and the address (log entry 6). -/
opaque freeByte : Nat → Nat → BitVec 8

/-- Words of Cooper's memories whose contents the spec leaves undefined (R380): by the loss and the word (log entry 6). -/
opaque freeWord : Nat → Nat → BitVec 32

/-- The code of a metering path after the correction by its converter's latest calibration (R81, R86): the stored offset, the
stored deviation of the path's gain in parts per million, the converter's own code. The spec does not say how a correction is
computed or rounded. -/
opaque mtrCorrect (ofs : BitVec 16) (ppm : Int) (code : BitVec 24) : BitVec 24

/-- Coefficients, in 2^-40, of Tallyman's fractional-delay filter (R224) for a raw `PH` and a tap; the first two of the eight are
not free: `Dev.delayTaps` takes them from the delay and the gain that the rule states. -/
opaque delayTap (ph tap : Nat) : BitVec 40

/-- Gain error, in 2^-40, of the fractional-delay filter for a raw `PH`; the rule bounds it by 0.001 % (R224). -/
opaque delayGain (ph : Nat) : BitVec 40

/-- Part of its content, in 2^-32, that the DC-blocked integrator of Tallyman sheds in each set (R225). -/
opaque dcBlock : BitVec 32

/-- Samples of a metering channel before the first that it has delivered (R173): by the channel and the place. -/
opaque noSample (ch i : Nat) : BitVec 32

/-- One step of the monitor tracker (R173): from `GRD_TRK.BW`, the nominal cycle in samples, the state of its loop and the
positive-sequence phasor of a sample to the loop's new state, its frequency in µHz and its angle. The spec gives the tracker's kind
and bandwidth and no law of its loop. -/
opaque tracker (bw n st : Nat) (re im : Int) : Nat × Nat × BitVec 32

/-- Whether the followers of a parallel group other than the device report `ALIGNED` at an instant: the spec names no message
that would tell it (R121). -/
opaque othersAligned : Nat → Bool

/-- Whether a signature verifies: ECDSA P-256 over SHA-256 of a message under a public key (R243, R250, R384).
The spec names the algorithms and does not define them. -/
opaque signatureOk (key msg sig : List Byte) : Bool

/-- The plaintext that AES-256-GCM of NIST SP 800-38D opens, where the tag verifies: key, nonce, additional data,
ciphertext, tag (R303, R305). The spec names the algorithm and does not define it. -/
opaque gcmOpen (key nonce aad ct tag : List Byte) : Option (List Byte)

/-- The bytes of ciphertext and tag that AES-256-GCM of NIST SP 800-38D gives: key, nonce, additional data, plaintext, place of the
byte (R303). -/
opaque gcmSeal (key nonce aad pt : List Byte) (i : Nat) : Byte

/-- What one unit of the servo's law, 2^-15 ns of weighted offset, changes in `CLK_PTP_INC`, in 2^-32 of its unit: R298 names the
law and its gains and not the unit of its result. -/
opaque servoUnit : BitVec 40

/-- The local minutes of dawn and dusk of a day (days since 1970-01-01) at a position (raw contents of `LAT` and `LON`), a
zenith angle and a time offset (R335); none where the sun does not cross. The spec names the result's accuracy only. -/
opaque sun (day lat lon zen tz : Nat) : Option (Fin 1440) × Option (Fin 1440)

end Sys2Proof.Config
end

