-- ==== Sys2Proof/Machine/Regs.lean ====
section
/-! DEFINITION. The fields of the register map, one definition a field, named and placed letter for
letter as the register tables of spec/ name and place them (address, index stride, low bit, width and
value after power-on reset, R11). -/
namespace Sys2Proof.Machine

/-- One field of a register, or of an array of registers (indexes count from 0): the address of the
register of index 0, the address step of the index, the low bit, the width, the value after reset. -/
structure Fld where
  base : Nat
  stride : Nat
  lo : Nat
  len : Nat
  rst : Nat → Nat

/-- The place of a field in the register file: its register's address and its low bit. -/
def Fld.key (F : Fld) (n : Nat) : Nat := 32 * (F.base + F.stride * n) + F.lo

/-- `SYS_ID` [00 R3]: device identity -/
def SYS_ID_PART : Fld := ⟨0x20000000, 0x0, 16, 16, fun _ => 0x960⟩
def SYS_ID_STEP : Fld := ⟨0x20000000, 0x0, 8, 8, fun _ => 161⟩
def SYS_ID_GRADE : Fld := ⟨0x20000000, 0x0, 0, 4, fun _ => Config.grade⟩
/-- `SYS_ROLE` [01 R28]: parallel and directory role -/
def SYS_ROLE_DIR_ROLE : Fld := ⟨0x20000040, 0x0, 8, 2, fun _ => 0⟩
def SYS_ROLE_PAR_SIZE : Fld := ⟨0x20000040, 0x0, 4, 2, fun _ => 0⟩
def SYS_ROLE_PAR_POS : Fld := ⟨0x20000040, 0x0, 2, 2, fun _ => 0⟩
def SYS_ROLE_PAR_MODE : Fld := ⟨0x20000040, 0x0, 0, 2, fun _ => 0⟩
/-- `SYS_ROLE_STAT` [01 R28]: roles in effect -/
def SYS_ROLE_STAT_DIR_ACTIVE : Fld := ⟨0x20000044, 0x0, 8, 2, fun _ => 0⟩
def SYS_ROLE_STAT_PAR_SEEN : Fld := ⟨0x20000044, 0x0, 4, 4, fun _ => 0⟩
def SYS_ROLE_STAT_PAR_ALIGNED : Fld := ⟨0x20000044, 0x0, 0, 1, fun _ => 0⟩
/-- `SYS_IOBANK` [02 R45]: I/O bank voltage detection -/
def SYS_IOBANK_BANK_CHG : Fld := ⟨0x20000060, 0x0, 16, 6, fun _ => 0⟩
def SYS_IOBANK_BANK_5 : Fld := ⟨0x20000060, 0x0, 10, 2, fun _ => 2⟩
def SYS_IOBANK_BANK_4 : Fld := ⟨0x20000060, 0x0, 8, 2, fun _ => 2⟩
def SYS_IOBANK_BANK_3 : Fld := ⟨0x20000060, 0x0, 6, 2, fun _ => 2⟩
def SYS_IOBANK_BANK_2 : Fld := ⟨0x20000060, 0x0, 4, 2, fun _ => 2⟩
def SYS_IOBANK_BANK_1 : Fld := ⟨0x20000060, 0x0, 2, 2, fun _ => 2⟩
def SYS_IOBANK_BANK_0 : Fld := ⟨0x20000060, 0x0, 0, 2, fun _ => 2⟩
/-- `SYS_PWRSTAT` [02 R46]: supply status -/
def SYS_PWRSTAT_DROP : Fld := ⟨0x20000064, 0x0, 16, 6, fun _ => 0⟩
def SYS_PWRSTAT_VDRV_OK : Fld := ⟨0x20000064, 0x0, 5, 1, fun _ => 1⟩
def SYS_PWRSTAT_VBAT_OK : Fld := ⟨0x20000064, 0x0, 4, 1, fun _ => 1⟩
def SYS_PWRSTAT_VDDQ_DRAM_OK : Fld := ⟨0x20000064, 0x0, 3, 1, fun _ => 1⟩
def SYS_PWRSTAT_VDD_DRAM_OK : Fld := ⟨0x20000064, 0x0, 2, 1, fun _ => 1⟩
def SYS_PWRSTAT_VDDA_OK : Fld := ⟨0x20000064, 0x0, 1, 1, fun _ => 1⟩
def SYS_PWRSTAT_VDD_PLL_OK : Fld := ⟨0x20000064, 0x0, 0, 1, fun _ => 1⟩
/-- `CLK_PLL_CTRL` [03 R68]: PLL enable, bandwidth and lock windows -/
def CLK_PLL_CTRL_UNLOCK_WIN : Fld := ⟨0x20010000, 0x0, 16, 8, fun _ => 200⟩
def CLK_PLL_CTRL_LOCK_WIN : Fld := ⟨0x20010000, 0x0, 8, 8, fun _ => 20⟩
def CLK_PLL_CTRL_BW : Fld := ⟨0x20010000, 0x0, 2, 2, fun _ => 2⟩
def CLK_PLL_CTRL_AUTO_RELOCK : Fld := ⟨0x20010000, 0x0, 1, 1, fun _ => 1⟩
def CLK_PLL_CTRL_EN : Fld := ⟨0x20010000, 0x0, 0, 1, fun _ => 0⟩
/-- `CLK_PLL_STAT` [03 R68]: lock state, hold and loss count -/
def CLK_PLL_STAT_LOL_OVF : Fld := ⟨0x20010004, 0x0, 24, 1, fun _ => 0⟩
def CLK_PLL_STAT_LOL_CNT : Fld := ⟨0x20010004, 0x0, 16, 8, fun _ => 0⟩
def CLK_PLL_STAT_BAND_VALID : Fld := ⟨0x20010004, 0x0, 13, 1, fun _ => 0⟩
def CLK_PLL_STAT_BAND : Fld := ⟨0x20010004, 0x0, 8, 5, fun _ => 0⟩
def CLK_PLL_STAT_HOLD_CLR_REFUSED : Fld := ⟨0x20010004, 0x0, 7, 1, fun _ => 0⟩
def CLK_PLL_STAT_PWM_HOLD : Fld := ⟨0x20010004, 0x0, 6, 1, fun _ => 1⟩
def CLK_PLL_STAT_LOL : Fld := ⟨0x20010004, 0x0, 5, 1, fun _ => 0⟩
def CLK_PLL_STAT_NO_BAND : Fld := ⟨0x20010004, 0x0, 4, 1, fun _ => 0⟩
def CLK_PLL_STAT_HOLDOVER : Fld := ⟨0x20010004, 0x0, 3, 1, fun _ => 0⟩
def CLK_PLL_STAT_FALLBACK : Fld := ⟨0x20010004, 0x0, 2, 1, fun _ => 1⟩
def CLK_PLL_STAT_ACQ : Fld := ⟨0x20010004, 0x0, 1, 1, fun _ => 0⟩
def CLK_PLL_STAT_LOCKED : Fld := ⟨0x20010004, 0x0, 0, 1, fun _ => 0⟩
/-- `CLK_REF_STAT` [03 R68]: reference monitor -/
def CLK_REF_STAT_REF_CNT : Fld := ⟨0x20010010, 0x0, 12, 20, fun _ => 0⟩
def CLK_REF_STAT_XT_CHECK_OFF : Fld := ⟨0x20010010, 0x0, 3, 1, fun _ => 1⟩
def CLK_REF_STAT_REF_FREQ_BAD : Fld := ⟨0x20010010, 0x0, 2, 1, fun _ => 0⟩
def CLK_REF_STAT_REF_MISSING : Fld := ⟨0x20010010, 0x0, 1, 1, fun _ => 0⟩
def CLK_REF_STAT_REF_OK : Fld := ⟨0x20010010, 0x0, 0, 1, fun _ => 0⟩
/-- `CLK_BAND_n` [03 R68]: band table entry -/
def CLK_BAND_n_VALID : Fld := ⟨0x20010100, 0x4, 31, 1, fun _ => 0⟩
def CLK_BAND_n_F_MEAS : Fld := ⟨0x20010100, 0x4, 16, 12, fun _ => 0⟩
def CLK_BAND_n_COARSE : Fld := ⟨0x20010100, 0x4, 0, 8, fun _ => 0⟩
/-- `CLK_TB_LO` [03 R68]: system timebase, bits [31:0] -/
def CLK_TB_LO_TB : Fld := ⟨0x20010200, 0x0, 0, 32, fun _ => 0⟩
/-- `CLK_TB_HI` [03 R68]: system timebase, bits [47:32], and degraded flag -/
def CLK_TB_HI_DEGRADED : Fld := ⟨0x20010204, 0x0, 31, 1, fun _ => 1⟩
def CLK_TB_HI_TB : Fld := ⟨0x20010204, 0x0, 0, 16, fun _ => 0⟩
/-- `CLK_PTP_CTRL` [03 R68]: PTP validity and PPS output -/
def CLK_PTP_CTRL_PPS_WIDTH : Fld := ⟨0x20010300, 0x0, 8, 8, fun _ => 100⟩
def CLK_PTP_CTRL_PPS_EN : Fld := ⟨0x20010300, 0x0, 1, 1, fun _ => 0⟩
def CLK_PTP_CTRL_TIME_VALID : Fld := ⟨0x20010300, 0x0, 0, 1, fun _ => 0⟩
/-- `CLK_PTP_INC` [03 R68]: PTP rate -/
def CLK_PTP_INC_INC : Fld := ⟨0x20010304, 0x0, 0, 32, fun _ => 0x14000000⟩
/-- `CLK_PTP_OFS_LO` [03 R68]: PTP step, bits [31:0] -/
def CLK_PTP_OFS_LO_OFS : Fld := ⟨0x20010308, 0x0, 0, 32, fun _ => 0⟩
/-- `CLK_PTP_OFS_HI` [03 R68]: PTP step, bits [63:32] -/
def CLK_PTP_OFS_HI_OFS : Fld := ⟨0x2001030C, 0x0, 0, 32, fun _ => 0⟩
/-- `CLK_SNAP_CTRL` [03 R68]: capture control -/
def CLK_SNAP_CTRL_SEQ : Fld := ⟨0x20010340, 0x0, 16, 8, fun _ => 0⟩
def CLK_SNAP_CTRL_OVERRUN : Fld := ⟨0x20010340, 0x0, 9, 1, fun _ => 0⟩
def CLK_SNAP_CTRL_CAP_EDGE : Fld := ⟨0x20010340, 0x0, 2, 1, fun _ => 0⟩
def CLK_SNAP_CTRL_CAP_EN : Fld := ⟨0x20010340, 0x0, 1, 1, fun _ => 0⟩
def CLK_SNAP_CTRL_SW : Fld := ⟨0x20010340, 0x0, 0, 1, fun _ => 0⟩
/-- `CLK_SNAP_TB_LO` [03 R68]: captured timebase, bits [31:0] -/
def CLK_SNAP_TB_LO_TB : Fld := ⟨0x20010344, 0x0, 0, 32, fun _ => 0⟩
/-- `CLK_SNAP_TB_HI` [03 R68]: captured timebase, bits [47:32] -/
def CLK_SNAP_TB_HI_DEGRADED : Fld := ⟨0x20010348, 0x0, 31, 1, fun _ => 0⟩
def CLK_SNAP_TB_HI_TB : Fld := ⟨0x20010348, 0x0, 0, 16, fun _ => 0⟩
/-- `CLK_SNAP_SEC_LO` [03 R68]: captured PTP seconds, bits [31:0] -/
def CLK_SNAP_SEC_LO_SEC : Fld := ⟨0x2001034C, 0x0, 0, 32, fun _ => 0⟩
/-- `CLK_SNAP_SEC_HI` [03 R68]: captured PTP seconds, bits [47:32] -/
def CLK_SNAP_SEC_HI_SEC : Fld := ⟨0x20010350, 0x0, 0, 16, fun _ => 0⟩
/-- `CLK_SNAP_NS` [03 R68]: captured PTP nanoseconds -/
def CLK_SNAP_NS_NS : Fld := ⟨0x20010354, 0x0, 0, 30, fun _ => 0⟩
/-- `CLK_TTRIG_n_CTRL` [03 R68]: time trigger control -/
def CLK_TTRIG_n_CTRL_FIRED : Fld := ⟨0x20010400, 0x10, 9, 1, fun _ => 0⟩
def CLK_TTRIG_n_CTRL_LATE : Fld := ⟨0x20010400, 0x10, 8, 1, fun _ => 0⟩
def CLK_TTRIG_n_CTRL_TARGET : Fld := ⟨0x20010400, 0x10, 1, 3, fun _ => 0⟩
def CLK_TTRIG_n_CTRL_ARM : Fld := ⟨0x20010400, 0x10, 0, 1, fun _ => 0⟩
/-- `CLK_TTRIG_n_SEC` [03 R68]: trigger target seconds -/
def CLK_TTRIG_n_SEC_SEC : Fld := ⟨0x20010404, 0x10, 0, 32, fun _ => 0⟩
/-- `CLK_TTRIG_n_NS` [03 R68]: trigger target nanoseconds -/
def CLK_TTRIG_n_NS_NS : Fld := ⟨0x20010408, 0x10, 0, 30, fun _ => 0⟩
/-- `CLK_SNAPSEQ` [03 R68]: snapshot sequence -/
def CLK_SNAPSEQ_SEQ : Fld := ⟨0x2001FFFC, 0x0, 0, 8, fun _ => 0⟩
/-- `SNS_STAT` [04 R95]: block status -/
def SNS_STAT_AUX_TEST_PENDING : Fld := ⟨0x20030004, 0x0, 5, 1, fun _ => 0⟩
def SNS_STAT_MTR_CAL_PENDING : Fld := ⟨0x20030004, 0x0, 4, 1, fun _ => 0⟩
def SNS_STAT_AUX_OVERRUN : Fld := ⟨0x20030004, 0x0, 3, 1, fun _ => 0⟩
def SNS_STAT_MTR_CAL_FAULT : Fld := ⟨0x20030004, 0x0, 2, 1, fun _ => 0⟩
def SNS_STAT_AUX_TEST_FAULT : Fld := ⟨0x20030004, 0x0, 1, 1, fun _ => 0⟩
def SNS_STAT_CLK_FALLBACK : Fld := ⟨0x20030004, 0x0, 0, 1, fun _ => 1⟩
/-- `SNS_CAP` [04 R95]: capability word -/
def SNS_CAP_CAP_VER : Fld := ⟨0x20030008, 0x0, 24, 8, fun _ => 1⟩
def SNS_CAP_SD_COUNT : Fld := ⟨0x20030008, 0x0, 18, 6, fun _ => 24⟩
def SNS_CAP_CMP_COUNT : Fld := ⟨0x20030008, 0x0, 13, 5, fun _ => 16⟩
def SNS_CAP_MTR_COUNT : Fld := ⟨0x20030008, 0x0, 9, 4, fun _ => 8⟩
def SNS_CAP_AUX_COUNT : Fld := ⟨0x20030008, 0x0, 4, 5, fun _ => 16⟩
def SNS_CAP_FEAT : Fld := ⟨0x20030008, 0x0, 0, 4, fun _ => 15⟩
/-- `SNS_SDCK_k` [04 R95]: modulator clock output -/
def SNS_SDCK_k_EN : Fld := ⟨0x20030010, 0x4, 31, 1, fun _ => 0⟩
def SNS_SDCK_k_RUNNING : Fld := ⟨0x20030010, 0x4, 30, 1, fun _ => 0⟩
def SNS_SDCK_k_DIV : Fld := ⟨0x20030010, 0x4, 0, 5, fun _ => 5⟩
/-- `SNS_SD_n_CFG` [04 R95]: bitstream input -/
def SNS_SD_n_CFG_RUN : Fld := ⟨0x20030100, 0x20, 22, 6, fun _ => 8⟩
def SNS_SD_n_CFG_DLY : Fld := ⟨0x20030100, 0x20, 12, 5, fun _ => 4⟩
def SNS_SD_n_CFG_CLK_SEL : Fld := ⟨0x20030100, 0x20, 8, 2, fun _ => 0⟩
def SNS_SD_n_CFG_EN : Fld := ⟨0x20030100, 0x20, 0, 1, fun _ => 0⟩
/-- `SNS_SD_n_FILT` [04 R95]: filter settings -/
def SNS_SD_n_FILT_CF_EN : Fld := ⟨0x20030104, 0x20, 31, 1, fun _ => 0⟩
def SNS_SD_n_FILT_CF_OSR : Fld := ⟨0x20030104, 0x20, 16, 8, fun _ => 63⟩
def SNS_SD_n_FILT_PF_EN : Fld := ⟨0x20030104, 0x20, 15, 1, fun _ => 0⟩
def SNS_SD_n_FILT_PF_ORD : Fld := ⟨0x20030104, 0x20, 8, 2, fun _ => 2⟩
def SNS_SD_n_FILT_PF_OSR : Fld := ⟨0x20030104, 0x20, 0, 5, fun _ => 15⟩
/-- `SNS_SD_n_SYNC` [04 R95]: carrier synchronisation -/
def SNS_SD_n_SYNC_EN : Fld := ⟨0x20030108, 0x20, 31, 1, fun _ => 0⟩
def SNS_SD_n_SYNC_POINT : Fld := ⟨0x20030108, 0x20, 30, 1, fun _ => 0⟩
def SNS_SD_n_SYNC_LEG : Fld := ⟨0x20030108, 0x20, 24, 5, fun _ => 0⟩
def SNS_SD_n_SYNC_OFS : Fld := ⟨0x20030108, 0x20, 0, 10, fun _ => 0⟩
/-- `SNS_CF_n_LO` [04 R95]: control result value -/
def SNS_CF_n_LO_VAL : Fld := ⟨0x2003010C, 0x20, 0, 32, fun _ => 0⟩
/-- `SNS_CF_n_HI` [04 R95]: control result flags -/
def SNS_CF_n_HI_DEGRADED : Fld := ⟨0x20030110, 0x20, 15, 1, fun _ => 0⟩
def SNS_CF_n_HI_INVALID : Fld := ⟨0x20030110, 0x20, 14, 1, fun _ => 1⟩
def SNS_CF_n_HI_REALIGN : Fld := ⟨0x20030110, 0x20, 13, 1, fun _ => 0⟩
def SNS_CF_n_HI_SAT : Fld := ⟨0x20030110, 0x20, 12, 1, fun _ => 0⟩
def SNS_CF_n_HI_SEQ : Fld := ⟨0x20030110, 0x20, 0, 8, fun _ => 0⟩
/-- `SNS_PF_n` [04 R95]: protection filter value -/
def SNS_PF_n_VAL : Fld := ⟨0x20030114, 0x20, 0, 16, fun _ => 0⟩
/-- `SNS_SD_n_STAT` [04 R95]: input faults -/
def SNS_SD_n_STAT_STUCK_CNT : Fld := ⟨0x20030118, 0x20, 24, 8, fun _ => 0⟩
def SNS_SD_n_STAT_CNT_OVF : Fld := ⟨0x20030118, 0x20, 3, 1, fun _ => 0⟩
def SNS_SD_n_STAT_LATCHED : Fld := ⟨0x20030118, 0x20, 2, 1, fun _ => 0⟩
def SNS_SD_n_STAT_STUCK_SEEN : Fld := ⟨0x20030118, 0x20, 1, 1, fun _ => 0⟩
def SNS_SD_n_STAT_STUCK : Fld := ⟨0x20030118, 0x20, 0, 1, fun _ => 0⟩
/-- `SNS_CMP_m_CFG` [04 R95]: comparator setup -/
def SNS_CMP_m_CFG_EN : Fld := ⟨0x20030400, 0x8, 31, 1, fun _ => 0⟩
def SNS_CMP_m_CFG_STUCK_TRIP : Fld := ⟨0x20030400, 0x8, 30, 1, fun _ => 1⟩
def SNS_CMP_m_CFG_MODE : Fld := ⟨0x20030400, 0x8, 24, 2, fun _ => 3⟩
def SNS_CMP_m_CFG_SRC : Fld := ⟨0x20030400, 0x8, 16, 5, fun _ => 0⟩
def SNS_CMP_m_CFG_HYST : Fld := ⟨0x20030400, 0x8, 0, 12, fun _ => 328⟩
/-- `SNS_CMP_m_LIM` [04 R95]: comparator thresholds -/
def SNS_CMP_m_LIM_HI : Fld := ⟨0x20030404, 0x8, 16, 16, fun _ => 0x7FFF⟩
def SNS_CMP_m_LIM_LO : Fld := ⟨0x20030404, 0x8, 0, 16, fun _ => 0x8000⟩
/-- `SNS_CMP_STAT` [04 R95]: comparator outputs -/
def SNS_CMP_STAT_SEEN : Fld := ⟨0x20030480, 0x0, 16, 16, fun _ => 0⟩
def SNS_CMP_STAT_OUT : Fld := ⟨0x20030480, 0x0, 0, 16, fun _ => 0⟩
/-- `SNS_MTR_CTRL` [04 R95]: metering channels and rotation -/
def SNS_MTR_CTRL_ROT_EN : Fld := ⟨0x20030500, 0x0, 31, 1, fun _ => 1⟩
def SNS_MTR_CTRL_SPARE : Fld := ⟨0x20030500, 0x0, 24, 3, fun _ => 7⟩
def SNS_MTR_CTRL_ROT_PER : Fld := ⟨0x20030500, 0x0, 16, 8, fun _ => 60⟩
def SNS_MTR_CTRL_EN : Fld := ⟨0x20030500, 0x0, 0, 8, fun _ => 0⟩
/-- `SNS_MTR_GAIN` [04 R95]: gain control -/
def SNS_MTR_GAIN_AUTO : Fld := ⟨0x20030504, 0x0, 16, 8, fun _ => 255⟩
def SNS_MTR_GAIN_FIX : Fld := ⟨0x20030504, 0x0, 0, 16, fun _ => 0xFFFF⟩
/-- `SNS_MTR_ROT` [04 R95]: rotation state -/
def SNS_MTR_ROT_ROT_SEQ : Fld := ⟨0x20030508, 0x0, 24, 8, fun _ => 0⟩
def SNS_MTR_ROT_STEP_ACTIVE : Fld := ⟨0x20030508, 0x0, 19, 1, fun _ => 0⟩
def SNS_MTR_ROT_STEP_CH : Fld := ⟨0x20030508, 0x0, 16, 3, fun _ => 0⟩
def SNS_MTR_ROT_SPARE_CONV : Fld := ⟨0x20030508, 0x0, 8, 3, fun _ => 7⟩
def SNS_MTR_ROT_REQ : Fld := ⟨0x20030508, 0x0, 0, 1, fun _ => 0⟩
/-- `SNS_MTR_n_LO` [04 R95]: metering value -/
def SNS_MTR_n_LO_VAL : Fld := ⟨0x20030540, 0x8, 0, 32, fun _ => 0⟩
/-- `SNS_MTR_n_HI` [04 R95]: metering flags -/
def SNS_MTR_n_HI_CONV : Fld := ⟨0x20030544, 0x8, 16, 3, fun n => n⟩
def SNS_MTR_n_HI_DEGRADED : Fld := ⟨0x20030544, 0x8, 15, 1, fun _ => 0⟩
def SNS_MTR_n_HI_OVL : Fld := ⟨0x20030544, 0x8, 14, 1, fun _ => 0⟩
def SNS_MTR_n_HI_X1_PATH : Fld := ⟨0x20030544, 0x8, 13, 1, fun _ => 0⟩
def SNS_MTR_n_HI_HANDOVER : Fld := ⟨0x20030544, 0x8, 12, 1, fun _ => 0⟩
def SNS_MTR_n_HI_GAIN : Fld := ⟨0x20030544, 0x8, 10, 2, fun _ => 0⟩
def SNS_MTR_n_HI_SEQ : Fld := ⟨0x20030544, 0x8, 0, 8, fun _ => 0⟩
/-- `SNS_MTR_CONV_k_CAL` [04 R95]: converter calibration -/
def SNS_MTR_CONV_k_CAL_VALID : Fld := ⟨0x20030580, 0x4, 31, 1, fun _ => 0⟩
def SNS_MTR_CONV_k_CAL_FAIL : Fld := ⟨0x20030580, 0x4, 30, 1, fun _ => 0⟩
def SNS_MTR_CONV_k_CAL_SEQ : Fld := ⟨0x20030580, 0x4, 16, 8, fun _ => 0⟩
def SNS_MTR_CONV_k_CAL_OFS : Fld := ⟨0x20030580, 0x4, 0, 16, fun _ => 0⟩
/-- `SNS_AUX_CTRL` [04 R95]: auxiliary converter -/
def SNS_AUX_CTRL_EN : Fld := ⟨0x20030600, 0x0, 31, 1, fun _ => 0⟩
def SNS_AUX_CTRL_REF_EXT : Fld := ⟨0x20030600, 0x0, 30, 1, fun _ => 0⟩
def SNS_AUX_CTRL_OW_I : Fld := ⟨0x20030600, 0x0, 29, 1, fun _ => 0⟩
def SNS_AUX_CTRL_OW_EVERY : Fld := ⟨0x20030600, 0x0, 21, 8, fun _ => 10⟩
def SNS_AUX_CTRL_ST_PER : Fld := ⟨0x20030600, 0x0, 14, 7, fun _ => 60⟩
def SNS_AUX_CTRL_SCAN_PER : Fld := ⟨0x20030600, 0x0, 0, 14, fun _ => 100⟩
/-- `SNS_AUX_n_CFG` [04 R95]: auxiliary channel -/
def SNS_AUX_n_CFG_EN : Fld := ⟨0x20030640, 0x4, 31, 1, fun _ => 0⟩
def SNS_AUX_n_CFG_DIFF : Fld := ⟨0x20030640, 0x4, 30, 1, fun _ => 0⟩
def SNS_AUX_n_CFG_OW_EN : Fld := ⟨0x20030640, 0x4, 29, 1, fun _ => 0⟩
def SNS_AUX_n_CFG_SETTLE : Fld := ⟨0x20030640, 0x4, 16, 10, fun _ => 125⟩
/-- `SNS_AUX_n_LIM` [04 R95]: range limits -/
def SNS_AUX_n_LIM_HI : Fld := ⟨0x20030680, 0x4, 16, 16, fun _ => 0x7FFF⟩
def SNS_AUX_n_LIM_LO : Fld := ⟨0x20030680, 0x4, 0, 16, fun _ => 0x8000⟩
/-- `SNS_AUX_n_RES` [04 R95]: auxiliary result -/
def SNS_AUX_n_RES_SEQ : Fld := ⟨0x200306C0, 0x4, 24, 8, fun _ => 0⟩
def SNS_AUX_n_RES_SETTLED : Fld := ⟨0x200306C0, 0x4, 23, 1, fun _ => 0⟩
def SNS_AUX_n_RES_OPEN : Fld := ⟨0x200306C0, 0x4, 22, 1, fun _ => 0⟩
def SNS_AUX_n_RES_RANGE : Fld := ⟨0x200306C0, 0x4, 21, 1, fun _ => 0⟩
def SNS_AUX_n_RES_DEGRADED : Fld := ⟨0x200306C0, 0x4, 20, 1, fun _ => 0⟩
def SNS_AUX_n_RES_CODE : Fld := ⟨0x200306C0, 0x4, 0, 20, fun _ => 0⟩
/-- `SNS_AUX_STAT` [04 R95]: open-wire state -/
def SNS_AUX_STAT_OW_SEEN : Fld := ⟨0x20030700, 0x0, 16, 16, fun _ => 0⟩
def SNS_AUX_STAT_OW : Fld := ⟨0x20030700, 0x0, 0, 16, fun _ => 0⟩
/-- `SNS_AUX_RNG` [04 R95]: range state -/
def SNS_AUX_RNG_RNG_SEEN : Fld := ⟨0x20030704, 0x0, 16, 16, fun _ => 0⟩
def SNS_AUX_RNG_RNG : Fld := ⟨0x20030704, 0x0, 0, 16, fun _ => 0⟩
/-- `SNS_AUX_TEST` [04 R95]: self-test -/
def SNS_AUX_TEST_ST_SEQ : Fld := ⟨0x20030708, 0x0, 24, 8, fun _ => 0⟩
def SNS_AUX_TEST_FAIL : Fld := ⟨0x20030708, 0x0, 1, 1, fun _ => 0⟩
def SNS_AUX_TEST_REQ : Fld := ⟨0x20030708, 0x0, 0, 1, fun _ => 0⟩
/-- `SNS_SNAPSEQ` [04 R95]: snapshot sequence -/
def SNS_SNAPSEQ_SEQ : Fld := ⟨0x2003FFFC, 0x0, 0, 8, fun _ => 0⟩
/-- `PWM_CAP` [05 R123]: capability word -/
def PWM_CAP_CAP_VER : Fld := ⟨0x20020008, 0x0, 24, 8, fun _ => 1⟩
def PWM_CAP_LEG_COUNT : Fld := ⟨0x20020008, 0x0, 18, 6, fun _ => 24⟩
def PWM_CAP_FINE_COUNT : Fld := ⟨0x20020008, 0x0, 14, 4, fun _ => 8⟩
def PWM_CAP_CG_COUNT : Fld := ⟨0x20020008, 0x0, 10, 4, fun _ => 8⟩
def PWM_CAP_FG_COUNT : Fld := ⟨0x20020008, 0x0, 6, 4, fun _ => 8⟩
def PWM_CAP_FEAT : Fld := ⟨0x20020008, 0x0, 0, 6, fun _ => 63⟩
/-- `PWM_RUNSTAT` [05 R123]: legs running -/
def PWM_RUNSTAT_RUN : Fld := ⟨0x20020010, 0x0, 0, 24, fun _ => 0⟩
/-- `PWM_SHLOCK` [05 R123]: shadow hold -/
def PWM_SHLOCK_LOCK : Fld := ⟨0x20020014, 0x0, 0, 24, fun _ => 0⟩
/-- `PWM_DLCAL` [05 R123]: delay-line calibration -/
def PWM_DLCAL_DL_FAULT : Fld := ⟨0x20020020, 0x0, 31, 1, fun _ => 0⟩
def PWM_DLCAL_DL_COARSE : Fld := ⟨0x20020020, 0x0, 30, 1, fun _ => 0⟩
def PWM_DLCAL_CAL_OK : Fld := ⟨0x20020020, 0x0, 29, 1, fun _ => 0⟩
def PWM_DLCAL_DL_ERR : Fld := ⟨0x20020020, 0x0, 16, 8, fun _ => 0⟩
def PWM_DLCAL_CAL_SEQ : Fld := ⟨0x20020020, 0x0, 8, 8, fun _ => 0⟩
def PWM_DLCAL_TRIM : Fld := ⟨0x20020020, 0x0, 0, 8, fun _ => 128⟩
/-- `PWM_ALIGN_CTRL` [05 R123]: carrier alignment -/
def PWM_ALIGN_CTRL_EN : Fld := ⟨0x20020030, 0x0, 31, 1, fun _ => 0⟩
def PWM_ALIGN_CTRL_CG_MASK : Fld := ⟨0x20020030, 0x0, 16, 8, fun _ => 0⟩
def PWM_ALIGN_CTRL_LOSS_WIN : Fld := ⟨0x20020030, 0x0, 12, 4, fun _ => 2⟩
def PWM_ALIGN_CTRL_STEP : Fld := ⟨0x20020030, 0x0, 8, 4, fun _ => 4⟩
def PWM_ALIGN_CTRL_LOSS_PER : Fld := ⟨0x20020030, 0x0, 4, 4, fun _ => 3⟩
def PWM_ALIGN_CTRL_LOSS_ACT : Fld := ⟨0x20020030, 0x0, 3, 1, fun _ => 1⟩
/-- `PWM_ALIGN_STAT` [05 R123]: alignment state -/
def PWM_ALIGN_STAT_ALIGNED : Fld := ⟨0x20020034, 0x0, 31, 1, fun _ => 0⟩
def PWM_ALIGN_STAT_LOST : Fld := ⟨0x20020034, 0x0, 30, 1, fun _ => 0⟩
def PWM_ALIGN_STAT_OFFSET : Fld := ⟨0x20020034, 0x0, 0, 16, fun _ => 0⟩
/-- `PWM_CG_g_CFG` [05 R123]: carrier group setup -/
def PWM_CG_g_CFG_RUN : Fld := ⟨0x20020040, 0x10, 31, 1, fun _ => 0⟩
def PWM_CG_g_CFG_TT_START : Fld := ⟨0x20020040, 0x10, 30, 1, fun _ => 0⟩
def PWM_CG_g_CFG_PRESC : Fld := ⟨0x20020040, 0x10, 2, 2, fun _ => 0⟩
def PWM_CG_g_CFG_MODE : Fld := ⟨0x20020040, 0x10, 0, 1, fun _ => 0⟩
/-- `PWM_CG_g_PER` [05 R123]: period -/
def PWM_CG_g_PER_PER : Fld := ⟨0x20020044, 0x10, 0, 20, fun _ => 0x4E20⟩
/-- `PWM_CG_g_CNT` [05 R123]: counter state -/
def PWM_CG_g_CNT_WAIT : Fld := ⟨0x20020048, 0x10, 31, 1, fun _ => 0⟩
def PWM_CG_g_CNT_DOWN : Fld := ⟨0x20020048, 0x10, 30, 1, fun _ => 0⟩
def PWM_CG_g_CNT_COUNT : Fld := ⟨0x20020048, 0x10, 0, 20, fun _ => 0⟩
/-- `PWM_FORCE_g` [05 R123]: force group -/
def PWM_FORCE_g_PEND : Fld := ⟨0x200200C0, 0x4, 31, 1, fun _ => 0⟩
def PWM_FORCE_g_L_CODE : Fld := ⟨0x200200C0, 0x4, 2, 2, fun _ => 0⟩
def PWM_FORCE_g_H_CODE : Fld := ⟨0x200200C0, 0x4, 0, 2, fun _ => 0⟩
/-- `PWM_LEG_n_CTRL` [05 R123]: leg control -/
def PWM_LEG_n_CTRL_EN : Fld := ⟨0x20020200, 0x20, 31, 1, fun _ => 0⟩
def PWM_LEG_n_CTRL_SRC : Fld := ⟨0x20020200, 0x20, 30, 1, fun _ => 0⟩
def PWM_LEG_n_CTRL_LOAD : Fld := ⟨0x20020200, 0x20, 28, 2, fun _ => 1⟩
def PWM_LEG_n_CTRL_MINP_MODE : Fld := ⟨0x20020200, 0x20, 27, 1, fun _ => 0⟩
def PWM_LEG_n_CTRL_CGRP : Fld := ⟨0x20020200, 0x20, 24, 3, fun _ => 0⟩
def PWM_LEG_n_CTRL_FGRP : Fld := ⟨0x20020200, 0x20, 20, 4, fun _ => 15⟩
def PWM_LEG_n_CTRL_SAFE : Fld := ⟨0x20020200, 0x20, 18, 2, fun _ => 0⟩
def PWM_LEG_n_CTRL_MINP : Fld := ⟨0x20020200, 0x20, 0, 10, fun _ => 80⟩
/-- `PWM_LEG_n_DT` [05 R123]: dead times -/
def PWM_LEG_n_DT_DT_L : Fld := ⟨0x20020204, 0x20, 16, 10, fun _ => 400⟩
def PWM_LEG_n_DT_DT_H : Fld := ⟨0x20020204, 0x20, 0, 10, fun _ => 400⟩
/-- `PWM_LEG_n_PHS` [05 R123]: phase offset -/
def PWM_LEG_n_PHS_PHS : Fld := ⟨0x20020208, 0x20, 0, 24, fun _ => 0⟩
/-- `PWM_LEG_n_CMPA` [05 R123]: compare A -/
def PWM_LEG_n_CMPA_CMP : Fld := ⟨0x2002020C, 0x20, 0, 26, fun _ => 0⟩
/-- `PWM_LEG_n_CMPB` [05 R123]: compare B -/
def PWM_LEG_n_CMPB_CMP : Fld := ⟨0x20020210, 0x20, 0, 26, fun _ => 0⟩
/-- `PWM_LEG_n_CARRY` [05 R123]: volt-second carry -/
def PWM_LEG_n_CARRY_CARRY : Fld := ⟨0x20020214, 0x20, 0, 32, fun _ => 0⟩
/-- `PWM_LEG_n_STAT` [05 R123]: leg status -/
def PWM_LEG_n_STAT_ILK_CNT : Fld := ⟨0x20020218, 0x20, 24, 8, fun _ => 0⟩
def PWM_LEG_n_STAT_ILK_OVF : Fld := ⟨0x20020218, 0x20, 7, 1, fun _ => 0⟩
def PWM_LEG_n_STAT_CARRY_OVF : Fld := ⟨0x20020218, 0x20, 6, 1, fun _ => 0⟩
def PWM_LEG_n_STAT_MINP_SEEN : Fld := ⟨0x20020218, 0x20, 5, 1, fun _ => 0⟩
def PWM_LEG_n_STAT_COMMIT_LATE : Fld := ⟨0x20020218, 0x20, 4, 1, fun _ => 0⟩
def PWM_LEG_n_STAT_COMMIT_MISS : Fld := ⟨0x20020218, 0x20, 3, 1, fun _ => 0⟩
def PWM_LEG_n_STAT_FORCED : Fld := ⟨0x20020218, 0x20, 2, 1, fun _ => 0⟩
def PWM_LEG_n_STAT_SAFE_ACT : Fld := ⟨0x20020218, 0x20, 1, 1, fun _ => 0⟩
def PWM_LEG_n_STAT_RUN : Fld := ⟨0x20020218, 0x20, 0, 1, fun _ => 0⟩
/-- `PWM_LEG_n_LPS` [05 R123]: load point state -/
def PWM_LEG_n_LPS_SH_PEND : Fld := ⟨0x2002021C, 0x20, 16, 1, fun _ => 0⟩
def PWM_LEG_n_LPS_COMMIT_SEQ : Fld := ⟨0x2002021C, 0x20, 8, 8, fun _ => 0⟩
def PWM_LEG_n_LPS_LP_SEQ : Fld := ⟨0x2002021C, 0x20, 0, 8, fun _ => 0⟩
/-- `TRP_STAT` [06 R138]: block status -/
def TRP_STAT_GRP_SEEN : Fld := ⟨0x20040004, 0x0, 8, 4, fun _ => 0⟩
def TRP_STAT_GRP_TRIP : Fld := ⟨0x20040004, 0x0, 4, 4, fun _ => 0⟩
def TRP_STAT_BANK_FORCE : Fld := ⟨0x20040004, 0x0, 3, 1, fun _ => 0⟩
def TRP_STAT_LATCH_ANY : Fld := ⟨0x20040004, 0x0, 2, 1, fun _ => 0⟩
def TRP_STAT_TRIP_ANY : Fld := ⟨0x20040004, 0x0, 1, 1, fun _ => 0⟩
def TRP_STAT_CLR_REFUSED : Fld := ⟨0x20040004, 0x0, 0, 1, fun _ => 0⟩
/-- `TRP_CAP` [06 R138]: capability word -/
def TRP_CAP_CAP_VER : Fld := ⟨0x20040008, 0x0, 24, 8, fun _ => 1⟩
def TRP_CAP_IN_COUNT : Fld := ⟨0x20040008, 0x0, 18, 6, fun _ => 24⟩
def TRP_CAP_CMP_COUNT : Fld := ⟨0x20040008, 0x0, 13, 5, fun _ => 16⟩
def TRP_CAP_GRP_COUNT : Fld := ⟨0x20040008, 0x0, 10, 3, fun _ => 4⟩
def TRP_CAP_CLS_COUNT : Fld := ⟨0x20040008, 0x0, 6, 4, fun _ => 8⟩
def TRP_CAP_FEAT : Fld := ⟨0x20040008, 0x0, 0, 6, fun _ => 15⟩
/-- `TRP_TRIPPED` [06 R138]: legs tripped or latched -/
def TRP_TRIPPED_LEGS : Fld := ⟨0x20040010, 0x0, 0, 24, fun _ => 0⟩
/-- `TRP_LATCHED` [06 R138]: legs latched -/
def TRP_LATCHED_LEGS : Fld := ⟨0x20040014, 0x0, 0, 24, fun _ => 0⟩
/-- `TRP_CLR` [06 R138]: clear -/
def TRP_CLR_LEGS : Fld := ⟨0x20040018, 0x0, 0, 24, fun _ => 0⟩
/-- `TRP_SWTRIP` [06 R138]: software trip -/
def TRP_SWTRIP_LEGS : Fld := ⟨0x2004001C, 0x0, 0, 24, fun _ => 0⟩
/-- `TRP_IN_n_CFG` [06 R138]: digital trip input -/
def TRP_IN_n_CFG_EN : Fld := ⟨0x20040100, 0x4, 31, 1, fun _ => 0⟩
def TRP_IN_n_CFG_POL : Fld := ⟨0x20040100, 0x4, 30, 1, fun _ => 1⟩
def TRP_IN_n_CFG_DESAT : Fld := ⟨0x20040100, 0x4, 29, 1, fun _ => 0⟩
def TRP_IN_n_CFG_SW : Fld := ⟨0x20040100, 0x4, 24, 2, fun _ => 2⟩
def TRP_IN_n_CFG_LEG : Fld := ⟨0x20040100, 0x4, 16, 5, fun _ => 0⟩
def TRP_IN_n_CFG_FILT : Fld := ⟨0x20040100, 0x4, 0, 4, fun _ => 4⟩
/-- `TRP_IN_STAT` [06 R138]: filtered input levels -/
def TRP_IN_STAT_ACT : Fld := ⟨0x20040180, 0x0, 0, 24, fun _ => 0⟩
/-- `TRP_IN_SEEN` [06 R138]: inputs seen active -/
def TRP_IN_SEEN_SEEN : Fld := ⟨0x20040184, 0x0, 0, 24, fun _ => 0⟩
/-- `TRP_CMP_m_CFG` [06 R138]: comparator trip -/
def TRP_CMP_m_CFG_EN : Fld := ⟨0x20040200, 0x4, 31, 1, fun _ => 0⟩
def TRP_CMP_m_CFG_SIDE : Fld := ⟨0x20040200, 0x4, 24, 2, fun _ => 2⟩
def TRP_CMP_m_CFG_LEGS : Fld := ⟨0x20040200, 0x4, 0, 24, fun _ => 0⟩
/-- `TRP_LEG_n_CFG` [06 R138]: leg trip setup -/
def TRP_LEG_n_CFG_CLS : Fld := ⟨0x20040300, 0x8, 16, 3, fun _ => 0⟩
def TRP_LEG_n_CFG_BLANK_L : Fld := ⟨0x20040300, 0x8, 8, 8, fun _ => 100⟩
def TRP_LEG_n_CFG_BLANK_H : Fld := ⟨0x20040300, 0x8, 0, 8, fun _ => 100⟩
/-- `TRP_LEG_n_STAT` [06 R138]: leg trip state -/
def TRP_LEG_n_STAT_TRIP_CNT : Fld := ⟨0x20040304, 0x8, 24, 8, fun _ => 0⟩
def TRP_LEG_n_STAT_WIN_CNT : Fld := ⟨0x20040304, 0x8, 16, 8, fun _ => 0⟩
def TRP_LEG_n_STAT_CNT_OVF : Fld := ⟨0x20040304, 0x8, 15, 1, fun _ => 0⟩
def TRP_LEG_n_STAT_BLANK_FLT : Fld := ⟨0x20040304, 0x8, 14, 1, fun _ => 0⟩
def TRP_LEG_n_STAT_CAUSE : Fld := ⟨0x20040304, 0x8, 8, 6, fun _ => 63⟩
def TRP_LEG_n_STAT_FIRST_SW : Fld := ⟨0x20040304, 0x8, 2, 2, fun _ => 3⟩
def TRP_LEG_n_STAT_STATE : Fld := ⟨0x20040304, 0x8, 0, 2, fun _ => 0⟩
/-- `TRP_CLS_k` [06 R138]: counting class -/
def TRP_CLS_k_LIMIT : Fld := ⟨0x20040400, 0x4, 24, 8, fun _ => 1⟩
def TRP_CLS_k_HOLDOFF : Fld := ⟨0x20040400, 0x4, 16, 8, fun _ => 10⟩
def TRP_CLS_k_WINDOW : Fld := ⟨0x20040400, 0x4, 0, 16, fun _ => 0x3E8⟩
/-- `TRP_GRP_k_MASK` [06 R138]: group members -/
def TRP_GRP_k_MASK_LEGS : Fld := ⟨0x20040480, 0x8, 0, 24, fun _ => 0⟩
/-- `TRP_GRP_k_CFG` [06 R138]: group setup -/
def TRP_GRP_k_CFG_EN : Fld := ⟨0x20040484, 0x8, 31, 1, fun _ => 0⟩
def TRP_GRP_k_CFG_COINC : Fld := ⟨0x20040484, 0x8, 0, 8, fun _ => 100⟩
/-- `CEN_CTRL` [07 R171]: engine enable -/
def CEN_CTRL_EN : Fld := ⟨0x20050000, 0x0, 31, 1, fun _ => 0⟩
def CEN_CTRL_ST_PER : Fld := ⟨0x20050000, 0x0, 8, 8, fun _ => 60⟩
/-- `CEN_STAT` [07 R171]: block status -/
def CEN_STAT_MEM_UE : Fld := ⟨0x20050004, 0x0, 4, 1, fun _ => 0⟩
def CEN_STAT_TEST_PENDING : Fld := ⟨0x20050004, 0x0, 3, 1, fun _ => 0⟩
def CEN_STAT_TEST_FAULT : Fld := ⟨0x20050004, 0x0, 2, 1, fun _ => 0⟩
def CEN_STAT_SAT_ANY : Fld := ⟨0x20050004, 0x0, 1, 1, fun _ => 0⟩
def CEN_STAT_FAULT_ANY : Fld := ⟨0x20050004, 0x0, 0, 1, fun _ => 0⟩
/-- `CEN_CAP` [07 R171]: capability word -/
def CEN_CAP_CAP_VER : Fld := ⟨0x20050008, 0x0, 24, 8, fun _ => 1⟩
def CEN_CAP_SLOT_COUNT : Fld := ⟨0x20050008, 0x0, 17, 7, fun _ => 64⟩
def CEN_CAP_GRP_COUNT : Fld := ⟨0x20050008, 0x0, 12, 5, fun _ => 16⟩
def CEN_CAP_LANE_COUNT : Fld := ⟨0x20050008, 0x0, 9, 3, fun _ => 4⟩
def CEN_CAP_TRC_COUNT : Fld := ⟨0x20050008, 0x0, 6, 3, fun _ => 4⟩
def CEN_CAP_FEAT : Fld := ⟨0x20050008, 0x0, 0, 6, fun _ => 63⟩
/-- `CEN_EVCODE` [07 R171]: last program event -/
def CEN_EVCODE_OVERRUN : Fld := ⟨0x2005000C, 0x0, 16, 1, fun _ => 0⟩
def CEN_EVCODE_SLOT : Fld := ⟨0x2005000C, 0x0, 8, 6, fun _ => 0⟩
def CEN_EVCODE_CODE : Fld := ⟨0x2005000C, 0x0, 0, 8, fun _ => 0⟩
/-- `CEN_LANE_l_STAT` [07 R171]: lane activity -/
def CEN_LANE_l_STAT_BUSY : Fld := ⟨0x20050010, 0x4, 31, 1, fun _ => 0⟩
def CEN_LANE_l_STAT_LOAD : Fld := ⟨0x20050010, 0x4, 0, 20, fun _ => 0⟩
/-- `CEN_TEST` [07 R171]: self-test -/
def CEN_TEST_ST_SEQ : Fld := ⟨0x20050020, 0x0, 24, 8, fun _ => 0⟩
def CEN_TEST_LATCH : Fld := ⟨0x20050020, 0x0, 20, 4, fun _ => 0⟩
def CEN_TEST_FAIL : Fld := ⟨0x20050020, 0x0, 16, 4, fun _ => 0⟩
def CEN_TEST_REQ : Fld := ⟨0x20050020, 0x0, 0, 1, fun _ => 0⟩
/-- `CEN_MEMERR` [07 R171]: corrected memory errors -/
def CEN_MEMERR_CE_CNT : Fld := ⟨0x20050024, 0x0, 24, 8, fun _ => 0⟩
def CEN_MEMERR_CE_OVF : Fld := ⟨0x20050024, 0x0, 23, 1, fun _ => 0⟩
def CEN_MEMERR_REGION : Fld := ⟨0x20050024, 0x0, 21, 2, fun _ => 0⟩
def CEN_MEMERR_ADDR : Fld := ⟨0x20050024, 0x0, 0, 15, fun _ => 0⟩
/-- `CEN_SLOT_s_CFG` [07 R171]: slot setup -/
def CEN_SLOT_s_CFG_EN : Fld := ⟨0x20050100, 0x20, 31, 1, fun _ => 0⟩
def CEN_SLOT_s_CFG_LEGCOMMIT : Fld := ⟨0x20050100, 0x20, 30, 1, fun _ => 0⟩
def CEN_SLOT_s_CFG_LANE : Fld := ⟨0x20050100, 0x20, 28, 2, fun _ => 0⟩
def CEN_SLOT_s_CFG_PRIO : Fld := ⟨0x20050100, 0x20, 24, 4, fun _ => 0⟩
def CEN_SLOT_s_CFG_TRG_TYPE : Fld := ⟨0x20050100, 0x20, 21, 3, fun _ => 4⟩
/-- `CEN_SLOT_s_ENTRY` [07 R171]: program entry -/
def CEN_SLOT_s_ENTRY_ENTRY : Fld := ⟨0x20050104, 0x20, 0, 14, fun _ => 0⟩
/-- `CEN_SLOT_s_BASE` [07 R171]: memory bases -/
def CEN_SLOT_s_BASE_CB : Fld := ⟨0x20050108, 0x20, 16, 13, fun _ => 0⟩
def CEN_SLOT_s_BASE_SB : Fld := ⟨0x20050108, 0x20, 0, 15, fun _ => 0⟩
/-- `CEN_SLOT_s_TRG` [07 R171]: trigger source -/
def CEN_SLOT_s_TRG_SRC : Fld := ⟨0x2005010C, 0x20, 0, 24, fun _ => 0⟩
/-- `CEN_SLOT_s_LEGS` [07 R171]: legs -/
def CEN_SLOT_s_LEGS_LEGS : Fld := ⟨0x20050110, 0x20, 0, 24, fun _ => 0⟩
/-- `CEN_SLOT_s_TRK` [07 R171]: back-calculation -/
def CEN_SLOT_s_TRK_TEN : Fld := ⟨0x20050114, 0x20, 31, 1, fun _ => 0⟩
def CEN_SLOT_s_TRK_KB : Fld := ⟨0x20050114, 0x20, 16, 12, fun _ => 0⟩
def CEN_SLOT_s_TRK_INT : Fld := ⟨0x20050114, 0x20, 0, 12, fun _ => 0⟩
/-- `CEN_SLOT_s_STAT` [07 R171]: slot state -/
def CEN_SLOT_s_STAT_MISS_CNT : Fld := ⟨0x20050118, 0x20, 24, 8, fun _ => 0⟩
def CEN_SLOT_s_STAT_WIN_CNT : Fld := ⟨0x20050118, 0x20, 16, 8, fun _ => 0⟩
def CEN_SLOT_s_STAT_MISS_OVF : Fld := ⟨0x20050118, 0x20, 15, 1, fun _ => 0⟩
def CEN_SLOT_s_STAT_SAT_SEEN : Fld := ⟨0x20050118, 0x20, 14, 1, fun _ => 0⟩
def CEN_SLOT_s_STAT_FAULT : Fld := ⟨0x20050118, 0x20, 13, 1, fun _ => 0⟩
def CEN_SLOT_s_STAT_FCAUSE : Fld := ⟨0x20050118, 0x20, 8, 4, fun _ => 0⟩
def CEN_SLOT_s_STAT_SPEC : Fld := ⟨0x20050118, 0x20, 3, 1, fun _ => 0⟩
def CEN_SLOT_s_STAT_STATE : Fld := ⟨0x20050118, 0x20, 0, 3, fun _ => 0⟩
/-- `CEN_SLOT_s_RUN` [07 R171]: execution length -/
def CEN_SLOT_s_RUN_MAX_STEPS : Fld := ⟨0x2005011C, 0x20, 16, 16, fun _ => 0⟩
def CEN_SLOT_s_RUN_LAST_STEPS : Fld := ⟨0x2005011C, 0x20, 0, 16, fun _ => 0⟩
/-- `CEN_GRP_g_CFG` [07 R171]: group setup -/
def CEN_GRP_g_CFG_EN : Fld := ⟨0x20050A00, 0x20, 31, 1, fun _ => 0⟩
def CEN_GRP_g_CFG_CEIL_EN : Fld := ⟨0x20050A00, 0x20, 30, 1, fun _ => 0⟩
def CEN_GRP_g_CFG_WEV : Fld := ⟨0x20050A00, 0x20, 29, 1, fun _ => 0⟩
def CEN_GRP_g_CFG_SEL : Fld := ⟨0x20050A00, 0x20, 16, 6, fun _ => 0⟩
def CEN_GRP_g_CFG_RAMP : Fld := ⟨0x20050A00, 0x20, 0, 9, fun _ => 100⟩
/-- `CEN_GRP_g_MA` [07 R171]: members 0 to 3 -/
def CEN_GRP_g_MA_MEMB : Fld := ⟨0x20050A04, 0x20, 0, 32, fun _ => 0⟩
/-- `CEN_GRP_g_MB` [07 R171]: members 4 to 7 -/
def CEN_GRP_g_MB_MEMB : Fld := ⟨0x20050A08, 0x20, 0, 32, fun _ => 0⟩
/-- `CEN_GRP_g_UPPER` [07 R171]: upper limit -/
def CEN_GRP_g_UPPER_VAL : Fld := ⟨0x20050A0C, 0x20, 0, 32, fun _ => 0x7FFFFF1F⟩
/-- `CEN_GRP_g_LOWER` [07 R171]: lower limit -/
def CEN_GRP_g_LOWER_VAL : Fld := ⟨0x20050A10, 0x20, 0, 32, fun _ => 0x8000001F⟩
/-- `CEN_GRP_g_CEIL` [07 R171]: Weighmaster ceiling -/
def CEN_GRP_g_CEIL_VAL : Fld := ⟨0x20050A14, 0x20, 0, 32, fun _ => 0x7FFFFF1F⟩
/-- `CEN_GRP_g_OUT` [07 R171]: group output -/
def CEN_GRP_g_OUT_VAL : Fld := ⟨0x20050A18, 0x20, 0, 32, fun _ => 32⟩
/-- `CEN_GRP_g_STAT` [07 R171]: group state -/
def CEN_GRP_g_STAT_SEQ : Fld := ⟨0x20050A1C, 0x20, 24, 8, fun _ => 0⟩
def CEN_GRP_g_STAT_CLAMP : Fld := ⟨0x20050A1C, 0x20, 13, 1, fun _ => 0⟩
def CEN_GRP_g_STAT_RAMP_ACT : Fld := ⟨0x20050A1C, 0x20, 12, 1, fun _ => 0⟩
def CEN_GRP_g_STAT_CEIL_WIN : Fld := ⟨0x20050A1C, 0x20, 11, 1, fun _ => 0⟩
def CEN_GRP_g_STAT_WINNER : Fld := ⟨0x20050A1C, 0x20, 8, 3, fun _ => 0⟩
def CEN_GRP_g_STAT_ACTIVE : Fld := ⟨0x20050A1C, 0x20, 0, 8, fun _ => 0⟩
/-- `CEN_TRC_CTRL` [07 R171]: Scrivener control -/
def CEN_TRC_CTRL_ARM : Fld := ⟨0x20050C00, 0x0, 31, 1, fun _ => 0⟩
def CEN_TRC_CTRL_SWTRIG : Fld := ⟨0x20050C00, 0x0, 30, 1, fun _ => 0⟩
def CEN_TRC_CTRL_EV_EN : Fld := ⟨0x20050C00, 0x0, 23, 1, fun _ => 0⟩
def CEN_TRC_CTRL_EV_SEL : Fld := ⟨0x20050C00, 0x0, 16, 7, fun _ => 0⟩
def CEN_TRC_CTRL_POST : Fld := ⟨0x20050C00, 0x0, 0, 14, fun _ => 0x2000⟩
/-- `CEN_TRC_STAT` [07 R171]: Scrivener status -/
def CEN_TRC_STAT_TRIG_SEQ : Fld := ⟨0x20050C04, 0x0, 24, 8, fun _ => 0⟩
def CEN_TRC_STAT_OVR : Fld := ⟨0x20050C04, 0x0, 4, 4, fun _ => 0⟩
def CEN_TRC_STAT_DONE : Fld := ⟨0x20050C04, 0x0, 2, 1, fun _ => 0⟩
def CEN_TRC_STAT_TRIGGERED : Fld := ⟨0x20050C04, 0x0, 1, 1, fun _ => 0⟩
def CEN_TRC_STAT_RECORDING : Fld := ⟨0x20050C04, 0x0, 0, 1, fun _ => 0⟩
/-- `CEN_TRC_c_CFG` [07 R171]: channel setup -/
def CEN_TRC_c_CFG_EN : Fld := ⟨0x20050C10, 0x10, 31, 1, fun _ => 0⟩
def CEN_TRC_c_CFG_STREAM : Fld := ⟨0x20050C10, 0x10, 30, 1, fun _ => 0⟩
def CEN_TRC_c_CFG_SRC : Fld := ⟨0x20050C10, 0x10, 28, 2, fun _ => 0⟩
def CEN_TRC_c_CFG_IDX : Fld := ⟨0x20050C10, 0x10, 16, 5, fun _ => 0⟩
def CEN_TRC_c_CFG_RSIZE : Fld := ⟨0x20050C10, 0x10, 0, 4, fun _ => 0⟩
/-- `CEN_TRC_c_BASE` [07 R171]: DRAM ring base -/
def CEN_TRC_c_BASE_BASE : Fld := ⟨0x20050C14, 0x10, 12, 20, fun n => 0x84000 + 0x100 * n⟩
/-- `CEN_TRC_c_WPTR` [07 R171]: write offset -/
def CEN_TRC_c_WPTR_OFS : Fld := ⟨0x20050C18, 0x10, 3, 29, fun _ => 0⟩
/-- `CEN_TRC_c_RPTR` [07 R171]: read offset -/
def CEN_TRC_c_RPTR_OFS : Fld := ⟨0x20050C1C, 0x10, 3, 29, fun _ => 0⟩
/-- `GRD_CTRL` [08 R199]: enable and modes -/
def GRD_CTRL_EN : Fld := ⟨0x20060000, 0x0, 31, 1, fun _ => 0⟩
def GRD_CTRL_LI_EN : Fld := ⟨0x20060000, 0x0, 30, 1, fun _ => 1⟩
def GRD_CTRL_RC_AUTO : Fld := ⟨0x20060000, 0x0, 29, 1, fun _ => 0⟩
def GRD_CTRL_NOM_F : Fld := ⟨0x20060000, 0x0, 28, 1, fun _ => 0⟩
def GRD_CTRL_DRC_EN : Fld := ⟨0x20060000, 0x0, 27, 1, fun _ => 1⟩
def GRD_CTRL_ACT_INV_DISC : Fld := ⟨0x20060000, 0x0, 26, 1, fun _ => 1⟩
/-- `GRD_STAT` [08 R199]: state and flags -/
def GRD_STAT_MEAS_LOST : Fld := ⟨0x20060004, 0x0, 11, 1, fun _ => 0⟩
def GRD_STAT_TRK_LOCK : Fld := ⟨0x20060004, 0x0, 10, 1, fun _ => 0⟩
def GRD_STAT_RC_MET : Fld := ⟨0x20060004, 0x0, 9, 1, fun _ => 0⟩
def GRD_STAT_RC_PEND : Fld := ⟨0x20060004, 0x0, 8, 1, fun _ => 0⟩
def GRD_STAT_CEASE_FAIL : Fld := ⟨0x20060004, 0x0, 7, 1, fun _ => 0⟩
def GRD_STAT_CONTACT_FAIL : Fld := ⟨0x20060004, 0x0, 6, 1, fun _ => 0⟩
def GRD_STAT_LOCKOUT : Fld := ⟨0x20060004, 0x0, 5, 1, fun _ => 0⟩
def GRD_STAT_STATE : Fld := ⟨0x20060004, 0x0, 0, 4, fun _ => 0⟩
/-- `GRD_CAP` [08 R199]: capability word -/
def GRD_CAP_CAP_VER : Fld := ⟨0x20060008, 0x0, 24, 8, fun _ => 1⟩
def GRD_CAP_STG_COUNT : Fld := ⟨0x20060008, 0x0, 18, 6, fun _ => 16⟩
def GRD_CAP_PEER_COUNT : Fld := ⟨0x20060008, 0x0, 14, 4, fun _ => 8⟩
def GRD_CAP_FEAT : Fld := ⟨0x20060008, 0x0, 0, 6, fun _ => 63⟩
/-- `GRD_NOM` [08 R199]: nominal values -/
def GRD_NOM_IRATED : Fld := ⟨0x20060010, 0x0, 16, 16, fun _ => 0⟩
def GRD_NOM_VNOM : Fld := ⟨0x20060010, 0x0, 0, 16, fun _ => 0⟩
/-- `GRD_CH` [08 R199]: metering channel map -/
def GRD_CH_MAP : Fld := ⟨0x20060014, 0x0, 0, 21, fun _ => 0x1AC688⟩
/-- `GRD_SCALE_V` [08 R199]: voltage scale -/
def GRD_SCALE_V_SCALE : Fld := ⟨0x20060018, 0x0, 0, 32, fun _ => 0⟩
/-- `GRD_SCALE_I` [08 R199]: current scale -/
def GRD_SCALE_I_SCALE : Fld := ⟨0x2006001C, 0x0, 0, 32, fun _ => 0⟩
/-- `GRD_LEGS` [08 R199]: grid inverter legs -/
def GRD_LEGS_LEGS : Fld := ⟨0x20060020, 0x0, 0, 24, fun _ => 255⟩
/-- `GRD_DCLEGS` [08 R199]: DC-side legs -/
def GRD_DCLEGS_LEGS : Fld := ⟨0x20060024, 0x0, 0, 24, fun _ => 0xFFFF00⟩
/-- `GRD_PUB` [08 R199]: publication -/
def GRD_PUB_EN : Fld := ⟨0x20060028, 0x0, 31, 1, fun _ => 0⟩
def GRD_PUB_BASE : Fld := ⟨0x20060028, 0x0, 0, 15, fun _ => 0⟩
/-- `GRD_TRK` [08 R199]: tracker -/
def GRD_TRK_ROC_WIN : Fld := ⟨0x2006002C, 0x0, 8, 6, fun _ => 10⟩
def GRD_TRK_BW : Fld := ⟨0x2006002C, 0x0, 0, 2, fun _ => 1⟩
/-- `GRD_MEAS_V` [08 R199]: voltage extremes -/
def GRD_MEAS_V_VMAX : Fld := ⟨0x20060040, 0x0, 16, 16, fun _ => 0⟩
def GRD_MEAS_V_VMIN : Fld := ⟨0x20060040, 0x0, 0, 16, fun _ => 0⟩
/-- `GRD_MEAS_SEQ` [08 R199]: sequence components -/
def GRD_MEAS_SEQ_VNEG : Fld := ⟨0x20060044, 0x0, 16, 16, fun _ => 0⟩
def GRD_MEAS_SEQ_VPOS : Fld := ⟨0x20060044, 0x0, 0, 16, fun _ => 0⟩
/-- `GRD_MEAS_F` [08 R199]: frequency -/
def GRD_MEAS_F_ROCOF : Fld := ⟨0x20060048, 0x0, 16, 16, fun _ => 0⟩
def GRD_MEAS_F_FREQ : Fld := ⟨0x20060048, 0x0, 0, 16, fun _ => 0⟩
/-- `GRD_MEAS_ANG` [08 R199]: angle -/
def GRD_MEAS_ANG_ANG : Fld := ⟨0x2006004C, 0x0, 0, 32, fun _ => 0⟩
/-- `GRD_MEAS_UNB` [08 R199]: unbalance and 10-minute mean -/
def GRD_MEAS_UNB_V10 : Fld := ⟨0x20060050, 0x0, 16, 16, fun _ => 0⟩
def GRD_MEAS_UNB_UNBAL : Fld := ⟨0x20060050, 0x0, 0, 16, fun _ => 0⟩
/-- `GRD_MEAS_CNT` [08 R199]: sample count -/
def GRD_MEAS_CNT_SEQ : Fld := ⟨0x20060054, 0x0, 0, 8, fun _ => 0⟩
/-- `GRD_RT_V` [08 R199]: continuous band -/
def GRD_RT_V_CONT_HI : Fld := ⟨0x20060080, 0x0, 16, 16, fun _ => 0x4666⟩
def GRD_RT_V_CONT_LO : Fld := ⟨0x20060080, 0x0, 0, 16, fun _ => 0x3852⟩
/-- `GRD_RT_MC` [08 R199]: cessation thresholds -/
def GRD_RT_MC_MC_HI : Fld := ⟨0x20060084, 0x0, 16, 16, fun _ => 0x4CCD⟩
def GRD_RT_MC_MC_LO : Fld := ⟨0x20060084, 0x0, 0, 16, fun _ => 0x2000⟩
/-- `GRD_RT_F` [08 R199]: continuous frequency band -/
def GRD_RT_F_CONT_FHI : Fld := ⟨0x20060088, 0x0, 16, 16, fun _ => 0xA028⟩
def GRD_RT_F_CONT_FLO : Fld := ⟨0x20060088, 0x0, 0, 16, fun _ => 0x9858⟩
/-- `GRD_RT_HYST` [08 R199]: region hysteresis -/
def GRD_RT_HYST_F_HYST : Fld := ⟨0x2006008C, 0x0, 16, 16, fun _ => 50⟩
def GRD_RT_HYST_V_HYST : Fld := ⟨0x2006008C, 0x0, 0, 16, fun _ => 328⟩
/-- `GRD_DRC` [08 R199]: dynamic reactive current -/
def GRD_DRC_K : Fld := ⟨0x20060090, 0x0, 16, 16, fun _ => 0x2000⟩
def GRD_DRC_DB : Fld := ⟨0x20060090, 0x0, 0, 16, fun _ => 0x666⟩
/-- `GRD_DRC_LIM` [08 R199]: current limits -/
def GRD_DRC_LIM_IMAX : Fld := ⟨0x20060094, 0x0, 16, 16, fun _ => 0x4000⟩
def GRD_DRC_LIM_IQ_MAX : Fld := ⟨0x20060094, 0x0, 0, 16, fun _ => 0x4000⟩
/-- `GRD_CEASE` [08 R199]: cessation backstop -/
def GRD_CEASE_CEASE_T : Fld := ⟨0x20060098, 0x0, 16, 16, fun _ => 40⟩
def GRD_CEASE_CEASE_I : Fld := ⟨0x20060098, 0x0, 0, 16, fun _ => 0x666⟩
/-- `GRD_STG_k_CFG` [08 R199]: stage setup -/
def GRD_STG_k_CFG_EN : Fld := ⟨0x20060100, 0x8, 31, 1, fun _ => 0⟩
def GRD_STG_k_CFG_DIR : Fld := ⟨0x20060100, 0x8, 30, 1, fun _ => 0⟩
def GRD_STG_k_CFG_ACT : Fld := ⟨0x20060100, 0x8, 28, 2, fun _ => 0⟩
def GRD_STG_k_CFG_QTY : Fld := ⟨0x20060100, 0x8, 24, 4, fun _ => 0⟩
def GRD_STG_k_CFG_HYST : Fld := ⟨0x20060100, 0x8, 16, 8, fun _ => 0⟩
def GRD_STG_k_CFG_THR : Fld := ⟨0x20060100, 0x8, 0, 16, fun _ => 0⟩
/-- `GRD_STG_k_LIM` [08 R199]: stage time -/
def GRD_STG_k_LIM_TIME : Fld := ⟨0x20060104, 0x8, 0, 24, fun _ => 0⟩
/-- `GRD_STG_STAT` [08 R199]: stage state -/
def GRD_STG_STAT_OPER_SEEN : Fld := ⟨0x20060180, 0x0, 16, 16, fun _ => 0⟩
def GRD_STG_STAT_PICKUP : Fld := ⟨0x20060180, 0x0, 0, 16, fun _ => 0⟩
/-- `GRD_ISL_CFG` [08 R199]: island layers -/
def GRD_ISL_CFG_ROC_MODE : Fld := ⟨0x20060200, 0x0, 30, 2, fun _ => 1⟩
def GRD_ISL_CFG_VS_MODE : Fld := ⟨0x20060200, 0x0, 28, 2, fun _ => 1⟩
def GRD_ISL_CFG_ACT_EN : Fld := ⟨0x20060200, 0x0, 27, 1, fun _ => 1⟩
def GRD_ISL_CFG_COOP_EN : Fld := ⟨0x20060200, 0x0, 26, 1, fun _ => 0⟩
def GRD_ISL_CFG_SUSP_HOLD : Fld := ⟨0x20060200, 0x0, 16, 8, fun _ => 10⟩
/-- `GRD_ISL_PAS` [08 R199]: ROCOF indicator -/
def GRD_ISL_PAS_ROC_TH : Fld := ⟨0x20060204, 0x0, 16, 16, fun _ => 0x3E8⟩
def GRD_ISL_PAS_ROC_T : Fld := ⟨0x20060204, 0x0, 0, 16, fun _ => 100⟩
/-- `GRD_ISL_VS` [08 R199]: vector shift indicator -/
def GRD_ISL_VS_VS_TH : Fld := ⟨0x20060208, 0x0, 0, 16, fun _ => 600⟩
/-- `GRD_PROBE_CFG` [08 R199]: probe pattern -/
def GRD_PROBE_CFG_PATTERN : Fld := ⟨0x20060210, 0x0, 16, 16, fun _ => 0xCCCC⟩
def GRD_PROBE_CFG_CONFIRM : Fld := ⟨0x20060210, 0x0, 8, 4, fun _ => 1⟩
def GRD_PROBE_CFG_PLEN : Fld := ⟨0x20060210, 0x0, 4, 2, fun _ => 1⟩
def GRD_PROBE_CFG_CHIP : Fld := ⟨0x20060210, 0x0, 0, 2, fun _ => 1⟩
/-- `GRD_PROBE_AMP` [08 R199]: probe amplitudes -/
def GRD_PROBE_AMP_AMP_SUSP : Fld := ⟨0x20060214, 0x0, 16, 16, fun _ => 492⟩
def GRD_PROBE_AMP_AMP_IDLE : Fld := ⟨0x20060214, 0x0, 0, 16, fun _ => 164⟩
/-- `GRD_PROBE_ZTH` [08 R199]: impedance threshold -/
def GRD_PROBE_ZTH_ZTH : Fld := ⟨0x20060218, 0x0, 0, 16, fun _ => 0x800⟩
/-- `GRD_ISL_STAT` [08 R199]: island state -/
def GRD_ISL_STAT_DECL_SEQ : Fld := ⟨0x20060220, 0x0, 24, 8, fun _ => 0⟩
def GRD_ISL_STAT_BY : Fld := ⟨0x20060220, 0x0, 8, 4, fun _ => 0⟩
def GRD_ISL_STAT_ACT_INVALID : Fld := ⟨0x20060220, 0x0, 3, 1, fun _ => 0⟩
def GRD_ISL_STAT_SUSPECT : Fld := ⟨0x20060220, 0x0, 2, 1, fun _ => 0⟩
def GRD_ISL_STAT_SUSP_SEEN : Fld := ⟨0x20060220, 0x0, 1, 1, fun _ => 0⟩
def GRD_ISL_STAT_DECL_SEEN : Fld := ⟨0x20060220, 0x0, 0, 1, fun _ => 0⟩
/-- `GRD_PROBE_STAT` [08 R199]: probe estimate -/
def GRD_PROBE_STAT_Z_EST : Fld := ⟨0x20060224, 0x0, 16, 16, fun _ => 0⟩
def GRD_PROBE_STAT_UPD_SEQ : Fld := ⟨0x20060224, 0x0, 8, 8, fun _ => 0⟩
def GRD_PROBE_STAT_VALID : Fld := ⟨0x20060224, 0x0, 0, 1, fun _ => 0⟩
/-- `GRD_ISL_BOUND` [08 R199]: active bound -/
def GRD_ISL_BOUND_BOUND : Fld := ⟨0x20060228, 0x0, 0, 16, fun _ => 361⟩
/-- `GRD_COOP_CFG` [08 R199]: cooperative layer -/
def GRD_COOP_CFG_BASE_TC : Fld := ⟨0x20060240, 0x0, 24, 8, fun _ => 10⟩
def GRD_COOP_CFG_MIN_PEERS : Fld := ⟨0x20060240, 0x0, 20, 4, fun _ => 1⟩
def GRD_COOP_CFG_CONF : Fld := ⟨0x20060240, 0x0, 16, 4, fun _ => 3⟩
def GRD_COOP_CFG_PER : Fld := ⟨0x20060240, 0x0, 0, 7, fun _ => 20⟩
/-- `GRD_COOP_TH` [08 R199]: divergence threshold -/
def GRD_COOP_TH_ANG_TH : Fld := ⟨0x20060244, 0x0, 0, 16, fun _ => 500⟩
/-- `GRD_COOP_ID` [08 R199]: own identity -/
def GRD_COOP_ID_ID : Fld := ⟨0x20060248, 0x0, 0, 32, fun _ => 0⟩
/-- `GRD_COOP_STAT` [08 R199]: peer state -/
def GRD_COOP_STAT_LOST_SEEN : Fld := ⟨0x2006024C, 0x0, 16, 8, fun _ => 0⟩
def GRD_COOP_STAT_DIVERGE : Fld := ⟨0x2006024C, 0x0, 8, 8, fun _ => 0⟩
def GRD_COOP_STAT_VALID : Fld := ⟨0x2006024C, 0x0, 0, 8, fun _ => 0⟩
/-- `GRD_PEER_n_ID` [08 R199]: peer identity -/
def GRD_PEER_n_ID_ID : Fld := ⟨0x20060260, 0x8, 0, 32, fun _ => 0⟩
/-- `GRD_PEER_n_CFG` [08 R199]: peer path -/
def GRD_PEER_n_CFG_EN : Fld := ⟨0x20060264, 0x8, 31, 1, fun _ => 0⟩
def GRD_PEER_n_CFG_PATH : Fld := ⟨0x20060264, 0x8, 30, 1, fun _ => 0⟩
def GRD_PEER_n_CFG_LINK : Fld := ⟨0x20060264, 0x8, 16, 7, fun _ => 0⟩
/-- `GRD_RC_V` [08 R199]: reconnection voltage window -/
def GRD_RC_V_RC_VHI : Fld := ⟨0x20060300, 0x0, 16, 16, fun _ => 0x4666⟩
def GRD_RC_V_RC_VLO : Fld := ⟨0x20060300, 0x0, 0, 16, fun _ => 0x399A⟩
/-- `GRD_RC_F` [08 R199]: reconnection frequency window -/
def GRD_RC_F_RC_FHI : Fld := ⟨0x20060304, 0x0, 16, 16, fun _ => 0x9CA4⟩
def GRD_RC_F_RC_FLO : Fld := ⟨0x20060304, 0x0, 0, 16, fun _ => 0x9A4C⟩
/-- `GRD_RC_T` [08 R199]: reconnection timing -/
def GRD_RC_T_ES_RAMP : Fld := ⟨0x20060308, 0x0, 16, 16, fun _ => 300⟩
def GRD_RC_T_RC_DELAY : Fld := ⟨0x20060308, 0x0, 0, 16, fun _ => 300⟩
/-- `GRD_CONTACT` [08 R199]: contactor timeouts -/
def GRD_CONTACT_CLOSE_TMO : Fld := ⟨0x2006030C, 0x0, 16, 16, fun _ => 500⟩
def GRD_CONTACT_OPEN_TMO : Fld := ⟨0x2006030C, 0x0, 0, 16, fun _ => 200⟩
/-- `GRD_MODE_GRP_j` [08 R199]: mode groups -/
def GRD_MODE_GRP_j_EN : Fld := ⟨0x20060310, 0x4, 31, 1, fun _ => 0⟩
def GRD_MODE_GRP_j_GRP : Fld := ⟨0x20060310, 0x4, 24, 4, fun _ => 0⟩
def GRD_MODE_GRP_j_GRID_MASK : Fld := ⟨0x20060310, 0x4, 8, 8, fun _ => 0⟩
def GRD_MODE_GRP_j_ISL_MASK : Fld := ⟨0x20060310, 0x4, 0, 8, fun _ => 0⟩
/-- `WGH_CTRL` [09 R220]: enable, staleness and energy word -/
def WGH_CTRL_EN : Fld := ⟨0x20070000, 0x0, 31, 1, fun _ => 0⟩
def WGH_CTRL_SOC_EN : Fld := ⟨0x20070000, 0x0, 30, 1, fun _ => 0⟩
def WGH_CTRL_STALE : Fld := ⟨0x20070000, 0x0, 16, 8, fun _ => 20⟩
def WGH_CTRL_SOC_ADDR : Fld := ⟨0x20070000, 0x0, 0, 15, fun _ => 0⟩
/-- `WGH_STAT` [09 R220]: block status -/
def WGH_STAT_SEQ : Fld := ⟨0x20070004, 0x0, 24, 8, fun _ => 0⟩
def WGH_STAT_PAR_LOST : Fld := ⟨0x20070004, 0x0, 3, 1, fun _ => 0⟩
def WGH_STAT_FOLLOWER : Fld := ⟨0x20070004, 0x0, 2, 1, fun _ => 0⟩
def WGH_STAT_PAIR_BAD : Fld := ⟨0x20070004, 0x0, 1, 1, fun _ => 0⟩
def WGH_STAT_RUN : Fld := ⟨0x20070004, 0x0, 0, 1, fun _ => 0⟩
/-- `WGH_CAP` [09 R220]: capability word -/
def WGH_CAP_CAP_VER : Fld := ⟨0x20070008, 0x0, 24, 8, fun _ => 1⟩
def WGH_CAP_REQ_COUNT : Fld := ⟨0x20070008, 0x0, 18, 6, fun _ => 32⟩
def WGH_CAP_FEAT : Fld := ⟨0x20070008, 0x0, 0, 4, fun _ => 15⟩
/-- `WGH_LINK` [09 R220]: DC-link throughput -/
def WGH_LINK_PMAX : Fld := ⟨0x20070010, 0x0, 0, 16, fun _ => 0xFFFF⟩
/-- `WGH_ENERGY` [09 R220]: energy thresholds -/
def WGH_ENERGY_FLOOR : Fld := ⟨0x20070014, 0x0, 16, 16, fun _ => 0⟩
def WGH_ENERGY_CUTOFF : Fld := ⟨0x20070014, 0x0, 0, 16, fun _ => 0⟩
/-- `WGH_SUPPLY` [09 R220]: energy and level -/
def WGH_SUPPLY_E : Fld := ⟨0x20070018, 0x0, 16, 16, fun _ => 0⟩
def WGH_SUPPLY_E_HYST : Fld := ⟨0x20070018, 0x0, 8, 8, fun _ => 10⟩
def WGH_SUPPLY_LEVEL : Fld := ⟨0x20070018, 0x0, 0, 2, fun _ => 0⟩
/-- `WGH_BURST_CFG` [09 R220]: burst settings -/
def WGH_BURST_CFG_PV_CREDIT : Fld := ⟨0x20070020, 0x0, 28, 4, fun _ => 0⟩
def WGH_BURST_CFG_STAGGER_T : Fld := ⟨0x20070020, 0x0, 16, 12, fun _ => 0x3E8⟩
def WGH_BURST_CFG_STEP_MAX : Fld := ⟨0x20070020, 0x0, 0, 16, fun _ => 500⟩
/-- `WGH_BURST_STAT` [09 R220]: burst state -/
def WGH_BURST_STAT_ACTIVE : Fld := ⟨0x20070024, 0x0, 31, 1, fun _ => 0⟩
def WGH_BURST_STAT_REFUSED_SEEN : Fld := ⟨0x20070024, 0x0, 30, 1, fun _ => 0⟩
def WGH_BURST_STAT_SEQ : Fld := ⟨0x20070024, 0x0, 16, 8, fun _ => 0⟩
def WGH_BURST_STAT_GRANTED : Fld := ⟨0x20070024, 0x0, 0, 16, fun _ => 0⟩
/-- `WGH_STALE` [09 R220]: stale requesters -/
def WGH_STALE_STALE : Fld := ⟨0x20070030, 0x0, 0, 32, fun _ => 0⟩
/-- `WGH_CAPPED` [09 R220]: capped requesters -/
def WGH_CAPPED_CAPPED : Fld := ⟨0x20070034, 0x0, 0, 32, fun _ => 0⟩
/-- `WGH_REQ_r_CFG` [09 R220]: requester setup -/
def WGH_REQ_r_CFG_EN : Fld := ⟨0x20070100, 0x10, 31, 1, fun _ => 0⟩
def WGH_REQ_r_CFG_KIND : Fld := ⟨0x20070100, 0x10, 30, 1, fun _ => 0⟩
def WGH_REQ_r_CFG_ESS : Fld := ⟨0x20070100, 0x10, 29, 1, fun _ => 0⟩
def WGH_REQ_r_CFG_GRID : Fld := ⟨0x20070100, 0x10, 28, 1, fun _ => 0⟩
def WGH_REQ_r_CFG_BATCHG : Fld := ⟨0x20070100, 0x10, 27, 1, fun _ => 0⟩
def WGH_REQ_r_CFG_BATDIS : Fld := ⟨0x20070100, 0x10, 26, 1, fun _ => 0⟩
def WGH_REQ_r_CFG_GRP_EN : Fld := ⟨0x20070100, 0x10, 24, 1, fun _ => 0⟩
def WGH_REQ_r_CFG_GRP : Fld := ⟨0x20070100, 0x10, 20, 4, fun _ => 0⟩
def WGH_REQ_r_CFG_PRIO : Fld := ⟨0x20070100, 0x10, 16, 4, fun _ => 0⟩
def WGH_REQ_r_CFG_PAIR_EN : Fld := ⟨0x20070100, 0x10, 15, 1, fun _ => 0⟩
def WGH_REQ_r_CFG_NODE : Fld := ⟨0x20070100, 0x10, 13, 2, fun _ => 0⟩
def WGH_REQ_r_CFG_PAIR : Fld := ⟨0x20070100, 0x10, 8, 5, fun _ => 0⟩
def WGH_REQ_r_CFG_ZONE_EN : Fld := ⟨0x20070100, 0x10, 7, 1, fun _ => 0⟩
def WGH_REQ_r_CFG_ZONE : Fld := ⟨0x20070100, 0x10, 0, 3, fun _ => 0⟩
/-- `WGH_REQ_r_LIM` [09 R220]: limits -/
def WGH_REQ_r_LIM_HEAD : Fld := ⟨0x20070104, 0x10, 16, 16, fun _ => 0⟩
def WGH_REQ_r_LIM_LIM : Fld := ⟨0x20070104, 0x10, 0, 16, fun _ => 0⟩
/-- `WGH_REQ_r_SCALE` [09 R220]: ceiling scale -/
def WGH_REQ_r_SCALE_SCALE : Fld := ⟨0x20070108, 0x10, 0, 32, fun _ => 0x40000001⟩
/-- `WGH_REQ_r_STAT` [09 R220]: request and grant -/
def WGH_REQ_r_STAT_REQ : Fld := ⟨0x2007010C, 0x10, 16, 16, fun _ => 0⟩
def WGH_REQ_r_STAT_GRANT : Fld := ⟨0x2007010C, 0x10, 0, 16, fun _ => 0⟩
/-- `THM_CTRL` [09 R221]: enable -/
def THM_CTRL_EN : Fld := ⟨0x20100000, 0x0, 31, 1, fun _ => 0⟩
/-- `THM_STAT` [09 R221]: block status -/
def THM_STAT_CHG_OK : Fld := ⟨0x20100004, 0x0, 7, 1, fun _ => 0⟩
def THM_STAT_DIS_OK : Fld := ⟨0x20100004, 0x0, 6, 1, fun _ => 0⟩
def THM_STAT_BAT_WIN_SEEN : Fld := ⟨0x20100004, 0x0, 5, 1, fun _ => 0⟩
def THM_STAT_LATCH_ANY : Fld := ⟨0x20100004, 0x0, 4, 1, fun _ => 0⟩
def THM_STAT_DROP_ANY : Fld := ⟨0x20100004, 0x0, 3, 1, fun _ => 0⟩
def THM_STAT_ENF_ANY : Fld := ⟨0x20100004, 0x0, 2, 1, fun _ => 0⟩
def THM_STAT_REQ_ANY : Fld := ⟨0x20100004, 0x0, 1, 1, fun _ => 0⟩
/-- `THM_CAP` [09 R221]: capability word -/
def THM_CAP_CAP_VER : Fld := ⟨0x20100008, 0x0, 24, 8, fun _ => 1⟩
def THM_CAP_SNS_COUNT : Fld := ⟨0x20100008, 0x0, 19, 5, fun _ => 16⟩
def THM_CAP_ZONE_COUNT : Fld := ⟨0x20100008, 0x0, 15, 4, fun _ => 8⟩
def THM_CAP_CURVE_COUNT : Fld := ⟨0x20100008, 0x0, 12, 3, fun _ => 4⟩
def THM_CAP_FEAT : Fld := ⟨0x20100008, 0x0, 0, 4, fun _ => 7⟩
/-- `THM_SNS_k_CFG` [09 R221]: sensor slot -/
def THM_SNS_k_CFG_EN : Fld := ⟨0x20100100, 0x8, 31, 1, fun _ => 0⟩
def THM_SNS_k_CFG_SRC : Fld := ⟨0x20100100, 0x8, 30, 1, fun _ => 0⟩
def THM_SNS_k_CFG_CURVE : Fld := ⟨0x20100100, 0x8, 28, 2, fun _ => 0⟩
def THM_SNS_k_CFG_AX : Fld := ⟨0x20100100, 0x8, 20, 4, fun _ => 0⟩
def THM_SNS_k_CFG_ZONES : Fld := ⟨0x20100100, 0x8, 8, 8, fun _ => 0⟩
/-- `THM_SNS_k_VAL` [09 R221]: sensor reading -/
def THM_SNS_k_VAL_SEQ : Fld := ⟨0x20100104, 0x8, 24, 8, fun _ => 0⟩
def THM_SNS_k_VAL_VALID : Fld := ⟨0x20100104, 0x8, 16, 1, fun _ => 0⟩
def THM_SNS_k_VAL_TEMP : Fld := ⟨0x20100104, 0x8, 0, 16, fun _ => 0⟩
/-- `THM_SNS_STAT` [09 R221]: dropped sensors -/
def THM_SNS_STAT_LATCH : Fld := ⟨0x20100180, 0x0, 16, 16, fun _ => 0⟩
def THM_SNS_STAT_DROP : Fld := ⟨0x20100180, 0x0, 0, 16, fun _ => 0⟩
/-- `THM_ZONE_z_CFG` [09 R221]: zone setup -/
def THM_ZONE_z_CFG_EN : Fld := ⟨0x20100200, 0x10, 31, 1, fun _ => 0⟩
def THM_ZONE_z_CFG_GRACE : Fld := ⟨0x20100200, 0x10, 16, 10, fun _ => 50⟩
def THM_ZONE_z_CFG_MIN_FRAC : Fld := ⟨0x20100200, 0x10, 0, 16, fun _ => 0x4000⟩
/-- `THM_ZONE_z_LIM` [09 R221]: zone temperatures -/
def THM_ZONE_z_LIM_HYST : Fld := ⟨0x20100204, 0x10, 24, 8, fun _ => 30⟩
def THM_ZONE_z_LIM_T_CRIT : Fld := ⟨0x20100204, 0x10, 16, 8, fun _ => 169⟩
def THM_ZONE_z_LIM_T_MAX : Fld := ⟨0x20100204, 0x10, 8, 8, fun _ => 159⟩
def THM_ZONE_z_LIM_T_D : Fld := ⟨0x20100204, 0x10, 0, 8, fun _ => 144⟩
/-- `THM_ZONE_z_STAT` [09 R221]: zone state -/
def THM_ZONE_z_STAT_STATE : Fld := ⟨0x20100208, 0x10, 16, 3, fun _ => 0⟩
def THM_ZONE_z_STAT_FRAC : Fld := ⟨0x20100208, 0x10, 0, 16, fun _ => 0x8000⟩
/-- `THM_ZONE_z_TEMP` [09 R221]: zone temperatures read -/
def THM_ZONE_z_TEMP_TMAX : Fld := ⟨0x2010020C, 0x10, 16, 16, fun _ => 0x8000⟩
def THM_ZONE_z_TEMP_TMIN : Fld := ⟨0x2010020C, 0x10, 0, 16, fun _ => 0x8000⟩
/-- `THM_CURVE_c_p` [09 R221]: curve point -/
def THM_CURVE_c_p_CODE : Fld := ⟨0x20100400, 0x4, 16, 16, fun _ => 0⟩
def THM_CURVE_c_p_TEMP : Fld := ⟨0x20100400, 0x4, 0, 16, fun _ => 0⟩
/-- `THM_BAT_CFG` [09 R221]: battery zone -/
def THM_BAT_CFG_EN : Fld := ⟨0x20100300, 0x0, 31, 1, fun _ => 0⟩
def THM_BAT_CFG_ZONE : Fld := ⟨0x20100300, 0x0, 16, 3, fun _ => 0⟩
def THM_BAT_CFG_HYST : Fld := ⟨0x20100300, 0x0, 0, 8, fun _ => 20⟩
/-- `THM_BAT_WIN` [09 R221]: battery windows -/
def THM_BAT_WIN_DIS_HI : Fld := ⟨0x20100304, 0x0, 24, 8, fun _ => 60⟩
def THM_BAT_WIN_DIS_LO : Fld := ⟨0x20100304, 0x0, 16, 8, fun _ => 236⟩
def THM_BAT_WIN_CHG_HI : Fld := ⟨0x20100304, 0x0, 8, 8, fun _ => 45⟩
def THM_BAT_WIN_CHG_LO : Fld := ⟨0x20100304, 0x0, 0, 8, fun _ => 0⟩
/-- `TAL_CTRL` [10 R245]: enable and modes -/
def TAL_CTRL_EN : Fld := ⟨0x20080000, 0x0, 31, 1, fun _ => 0⟩
def TAL_CTRL_TOT_MODE : Fld := ⟨0x20080000, 0x0, 30, 1, fun _ => 0⟩
def TAL_CTRL_NOM_F : Fld := ⟨0x20080000, 0x0, 29, 1, fun _ => 0⟩
def TAL_CTRL_INT_LEN : Fld := ⟨0x20080000, 0x0, 0, 4, fun _ => 3⟩
/-- `TAL_STAT` [10 R245]: block status -/
def TAL_STAT_BLANK : Fld := ⟨0x20080004, 0x0, 8, 1, fun _ => 0⟩
def TAL_STAT_RESTORED_OLD : Fld := ⟨0x20080004, 0x0, 7, 1, fun _ => 0⟩
def TAL_STAT_LEDGER_LATCH : Fld := ⟨0x20080004, 0x0, 6, 1, fun _ => 0⟩
def TAL_STAT_LEDGER_FAULT : Fld := ⟨0x20080004, 0x0, 5, 1, fun _ => 0⟩
def TAL_STAT_PF_ACTIVE : Fld := ⟨0x20080004, 0x0, 4, 1, fun _ => 0⟩
def TAL_STAT_TIME_INVALID : Fld := ⟨0x20080004, 0x0, 3, 1, fun _ => 0⟩
def TAL_STAT_MISSING : Fld := ⟨0x20080004, 0x0, 2, 1, fun _ => 0⟩
def TAL_STAT_DEGRADED : Fld := ⟨0x20080004, 0x0, 1, 1, fun _ => 0⟩
def TAL_STAT_RUN : Fld := ⟨0x20080004, 0x0, 0, 1, fun _ => 0⟩
/-- `TAL_CAP` [10 R245]: capability word -/
def TAL_CAP_CAP_VER : Fld := ⟨0x20080008, 0x0, 24, 8, fun _ => 1⟩
def TAL_CAP_TOT_COUNT : Fld := ⟨0x20080008, 0x0, 18, 6, fun _ => 24⟩
def TAL_CAP_CH_COUNT : Fld := ⟨0x20080008, 0x0, 14, 4, fun _ => 8⟩
def TAL_CAP_FEAT : Fld := ⟨0x20080008, 0x0, 0, 6, fun _ => 63⟩
/-- `TAL_CH` [10 R245]: channel map -/
def TAL_CH_MAP : Fld := ⟨0x20080010, 0x0, 0, 21, fun _ => 0x1AC688⟩
/-- `TAL_CREEP` [10 R245]: starting current -/
def TAL_CREEP_I_START : Fld := ⟨0x20080014, 0x0, 0, 16, fun _ => 0⟩
/-- `TAL_PULSE` [10 R245]: energy pulse -/
def TAL_PULSE_EN : Fld := ⟨0x20080018, 0x0, 31, 1, fun _ => 0⟩
def TAL_PULSE_TOT : Fld := ⟨0x20080018, 0x0, 24, 5, fun _ => 18⟩
def TAL_PULSE_CONST : Fld := ⟨0x20080018, 0x0, 0, 24, fun _ => 0x3E8⟩
/-- `TAL_CH_n_SCALE` [10 R245]: channel scale -/
def TAL_CH_n_SCALE_SCALE : Fld := ⟨0x20080100, 0x10, 0, 32, fun _ => 0⟩
/-- `TAL_CH_n_GAIN` [10 R245]: channel gain -/
def TAL_CH_n_GAIN_GAIN : Fld := ⟨0x20080104, 0x10, 0, 32, fun _ => 0x40000000⟩
/-- `TAL_CH_n_OFS` [10 R245]: channel offset -/
def TAL_CH_n_OFS_OFS : Fld := ⟨0x20080108, 0x10, 0, 32, fun _ => 0⟩
/-- `TAL_CH_n_PH` [10 R245]: current delay -/
def TAL_CH_n_PH_PH : Fld := ⟨0x2008010C, 0x10, 0, 16, fun _ => 0⟩
/-- `TAL_PH_p_KP` [10 R245]: active gain -/
def TAL_PH_p_KP_KP : Fld := ⟨0x20080200, 0x8, 0, 32, fun _ => 0x40000000⟩
/-- `TAL_PH_p_KQ` [10 R245]: reactive gain -/
def TAL_PH_p_KQ_KQ : Fld := ⟨0x20080204, 0x8, 0, 32, fun _ => 0x40000000⟩
/-- `TAL_VRMS_p` [10 R245]: phase voltage -/
def TAL_VRMS_p_V : Fld := ⟨0x20080300, 0x4, 0, 32, fun _ => 0⟩
/-- `TAL_IRMS_q` [10 R245]: current -/
def TAL_IRMS_q_I : Fld := ⟨0x20080310, 0x4, 0, 32, fun _ => 0⟩
/-- `TAL_P_p` [10 R245]: mean active power -/
def TAL_P_p_P : Fld := ⟨0x20080320, 0x4, 0, 32, fun _ => 0⟩
/-- `TAL_Q_p` [10 R245]: mean reactive power -/
def TAL_Q_p_Q : Fld := ⟨0x20080330, 0x4, 0, 32, fun _ => 0⟩
/-- `TAL_FREQ` [10 R245]: frequency and live sequence -/
def TAL_FREQ_SEQ : Fld := ⟨0x20080340, 0x0, 24, 8, fun _ => 0⟩
def TAL_FREQ_FREQ : Fld := ⟨0x20080340, 0x0, 0, 16, fun _ => 0⟩
/-- `TAL_TOT_i_LO` [10 R245]: total, bits [31:0] -/
def TAL_TOT_i_LO_VAL : Fld := ⟨0x20080400, 0x8, 0, 32, fun _ => 0⟩
/-- `TAL_TOT_i_HI` [10 R245]: total, upper bits and wrap -/
def TAL_TOT_i_HI_WRAP : Fld := ⟨0x20080404, 0x8, 24, 8, fun _ => 0⟩
def TAL_TOT_i_HI_VAL : Fld := ⟨0x20080404, 0x8, 0, 18, fun _ => 0⟩
/-- `TAL_LED_SAVE` [10 R245]: save sequence -/
def TAL_LED_SAVE_SEQ : Fld := ⟨0x20080600, 0x0, 0, 32, fun _ => 0⟩
/-- `TAL_LED_INT` [10 R245]: newest interval -/
def TAL_LED_INT_SEQ : Fld := ⟨0x20080604, 0x0, 0, 32, fun _ => 0⟩
/-- `TAL_LED_OLD` [10 R245]: oldest interval -/
def TAL_LED_OLD_SEQ : Fld := ⟨0x20080608, 0x0, 0, 32, fun _ => 0⟩
/-- `TAL_LED_GAP` [10 R245]: gap count -/
def TAL_LED_GAP_GAP_OVF : Fld := ⟨0x2008060C, 0x0, 31, 1, fun _ => 0⟩
def TAL_LED_GAP_GAP_CNT : Fld := ⟨0x2008060C, 0x0, 0, 16, fun _ => 0⟩
/-- `TAL_LED_LOGSEQ` [10 R245]: newest log record -/
def TAL_LED_LOGSEQ_SEQ : Fld := ⟨0x20080610, 0x0, 0, 32, fun _ => 0⟩
/-- `TAL_SEAL` [10 R245]: seal -/
def TAL_SEAL_BREAK_CNT : Fld := ⟨0x20080614, 0x0, 16, 16, fun _ => 0⟩
def TAL_SEAL_BREAK_OVF : Fld := ⟨0x20080614, 0x0, 15, 1, fun _ => 0⟩
def TAL_SEAL_SEALED : Fld := ⟨0x20080614, 0x0, 1, 1, fun _ => 0⟩
def TAL_SEAL_SEAL : Fld := ⟨0x20080614, 0x0, 0, 1, fun _ => 0⟩
/-- `TAL_INT_CUR` [10 R245]: open interval -/
def TAL_INT_CUR_MISS : Fld := ⟨0x20080620, 0x0, 16, 16, fun _ => 0⟩
def TAL_INT_CUR_FLAGS : Fld := ⟨0x20080620, 0x0, 0, 16, fun _ => 0⟩
/-- `TAL_SNAPSEQ` [10 R245]: snapshot sequence -/
def TAL_SNAPSEQ_SEQ : Fld := ⟨0x2008FFFC, 0x0, 0, 8, fun _ => 0⟩
/-- `SAF_STAT` [11 R278]: supervisor status -/
def SAF_STAT_BANK3 : Fld := ⟨0x20090000, 0x0, 8, 1, fun _ => 0⟩
def SAF_STAT_UL_LOCK : Fld := ⟨0x20090000, 0x0, 7, 1, fun _ => 0⟩
def SAF_STAT_UNCONFIG : Fld := ⟨0x20090000, 0x0, 6, 1, fun _ => 1⟩
def SAF_STAT_LATCH_ANY : Fld := ⟨0x20090000, 0x0, 5, 1, fun _ => 0⟩
def SAF_STAT_SAFE_ALL : Fld := ⟨0x20090000, 0x0, 4, 1, fun _ => 1⟩
def SAF_STAT_LOCKOUT : Fld := ⟨0x20090000, 0x0, 3, 1, fun _ => 0⟩
def SAF_STAT_TT : Fld := ⟨0x20090000, 0x0, 2, 1, fun _ => 0⟩
def SAF_STAT_FOLLOWER : Fld := ⟨0x20090000, 0x0, 1, 1, fun _ => 0⟩
def SAF_STAT_RUN : Fld := ⟨0x20090000, 0x0, 0, 1, fun _ => 0⟩
/-- `SAF_CAP` [11 R278]: capability word -/
def SAF_CAP_CAP_VER : Fld := ⟨0x20090008, 0x0, 24, 8, fun _ => 1⟩
def SAF_CAP_IN_COUNT : Fld := ⟨0x20090008, 0x0, 20, 4, fun _ => 8⟩
def SAF_CAP_CONN_COUNT : Fld := ⟨0x20090008, 0x0, 16, 4, fun _ => 8⟩
def SAF_CAP_FUNC_COUNT : Fld := ⟨0x20090008, 0x0, 14, 2, fun _ => 2⟩
def SAF_CAP_FEAT : Fld := ⟨0x20090008, 0x0, 0, 6, fun _ => 63⟩
/-- `SAF_CHAN` [11 R278]: channel state -/
def SAF_CHAN_XC_SEQ : Fld := ⟨0x20090010, 0x0, 24, 8, fun _ => 0⟩
def SAF_CHAN_B_XT_FAIL : Fld := ⟨0x20090010, 0x0, 12, 1, fun _ => 0⟩
def SAF_CHAN_TIME_BAD : Fld := ⟨0x20090010, 0x0, 11, 1, fun _ => 0⟩
def SAF_CHAN_PARTNER_LOST : Fld := ⟨0x20090010, 0x0, 10, 1, fun _ => 0⟩
def SAF_CHAN_XC_DIFF : Fld := ⟨0x20090010, 0x0, 9, 1, fun _ => 0⟩
def SAF_CHAN_XC_SEEN : Fld := ⟨0x20090010, 0x0, 8, 1, fun _ => 0⟩
def SAF_CHAN_A_STATE : Fld := ⟨0x20090010, 0x0, 2, 2, fun _ => 0⟩
def SAF_CHAN_B_STATE : Fld := ⟨0x20090010, 0x0, 0, 2, fun _ => 0⟩
/-- `SAF_FUNC` [11 R278]: function state -/
def SAF_FUNC_CAUSE_1 : Fld := ⟨0x20090014, 0x0, 24, 8, fun _ => 255⟩
def SAF_FUNC_CAUSE_0 : Fld := ⟨0x20090014, 0x0, 16, 8, fun _ => 255⟩
def SAF_FUNC_STATE_1 : Fld := ⟨0x20090014, 0x0, 8, 4, fun _ => 0⟩
def SAF_FUNC_GRD_CLOSE : Fld := ⟨0x20090014, 0x0, 4, 1, fun _ => 0⟩
def SAF_FUNC_STATE_0 : Fld := ⟨0x20090014, 0x0, 0, 4, fun _ => 0⟩
/-- `SAF_IN_STAT` [11 R278]: input decisions -/
def SAF_IN_STAT_DISC_SEEN : Fld := ⟨0x20090018, 0x0, 24, 8, fun _ => 0⟩
def SAF_IN_STAT_ACK_SEEN : Fld := ⟨0x20090018, 0x0, 16, 8, fun _ => 0⟩
def SAF_IN_STAT_FAULT : Fld := ⟨0x20090018, 0x0, 8, 8, fun _ => 0⟩
def SAF_IN_STAT_PERMIT : Fld := ⟨0x20090018, 0x0, 0, 8, fun _ => 0⟩
/-- `SAF_IN_RAW` [11 R278]: accepted contact levels -/
def SAF_IN_RAW_B_VIEW : Fld := ⟨0x2009001C, 0x0, 16, 16, fun _ => 0⟩
def SAF_IN_RAW_A_VIEW : Fld := ⟨0x2009001C, 0x0, 0, 16, fun _ => 0⟩
/-- `SAF_RLY_STAT` [11 R278]: relays and feedback -/
def SAF_RLY_STAT_GRID_OPEN_V : Fld := ⟨0x20090020, 0x0, 23, 1, fun _ => 0⟩
def SAF_RLY_STAT_GRID_CLOSED_V : Fld := ⟨0x20090020, 0x0, 22, 1, fun _ => 0⟩
def SAF_RLY_STAT_DC_OPEN_V : Fld := ⟨0x20090020, 0x0, 21, 1, fun _ => 0⟩
def SAF_RLY_STAT_DC_CLOSED_V : Fld := ⟨0x20090020, 0x0, 20, 1, fun _ => 0⟩
def SAF_RLY_STAT_FB : Fld := ⟨0x20090020, 0x0, 16, 4, fun _ => 0⟩
def SAF_RLY_STAT_OUT : Fld := ⟨0x20090020, 0x0, 8, 4, fun _ => 0⟩
def SAF_RLY_STAT_OP_FAIL : Fld := ⟨0x20090020, 0x0, 3, 1, fun _ => 0⟩
def SAF_RLY_STAT_FB_FAIL : Fld := ⟨0x20090020, 0x0, 2, 1, fun _ => 0⟩
def SAF_RLY_STAT_CHK_FAIL : Fld := ⟨0x20090020, 0x0, 1, 1, fun _ => 0⟩
def SAF_RLY_STAT_WELD_BUSY : Fld := ⟨0x20090020, 0x0, 0, 1, fun _ => 0⟩
/-- `SAF_CONN_c_STAT` [11 R278]: connection state -/
def SAF_CONN_c_STAT_LAST_SEQ : Fld := ⟨0x20090040, 0x4, 16, 16, fun _ => 0⟩
def SAF_CONN_c_STAT_MISMATCH_SEEN : Fld := ⟨0x20090040, 0x4, 11, 1, fun _ => 0⟩
def SAF_CONN_c_STAT_LOST_SEEN : Fld := ⟨0x20090040, 0x4, 10, 1, fun _ => 0⟩
def SAF_CONN_c_STAT_P2_OK : Fld := ⟨0x20090040, 0x4, 9, 1, fun _ => 0⟩
def SAF_CONN_c_STAT_P1_OK : Fld := ⟨0x20090040, 0x4, 8, 1, fun _ => 0⟩
def SAF_CONN_c_STAT_FLAGS : Fld := ⟨0x20090040, 0x4, 4, 4, fun _ => 0⟩
def SAF_CONN_c_STAT_VALID : Fld := ⟨0x20090040, 0x4, 0, 1, fun _ => 0⟩
/-- `SAF_FLT_k` [11 R278]: fault class counts -/
def SAF_FLT_k_CNT : Fld := ⟨0x20090080, 0x4, 24, 8, fun _ => 0⟩
def SAF_FLT_k_WIN_CNT : Fld := ⟨0x20090080, 0x4, 16, 8, fun _ => 0⟩
def SAF_FLT_k_CNT_OVF : Fld := ⟨0x20090080, 0x4, 15, 1, fun _ => 0⟩
def SAF_FLT_k_LATCHED : Fld := ⟨0x20090080, 0x4, 14, 1, fun _ => 0⟩
/-- `SAF_CFG_ID` [11 R278]: configuration identity -/
def SAF_CFG_ID_ID : Fld := ⟨0x200900C0, 0x0, 0, 32, fun _ => 0⟩
/-- `SAF_CFG_SEQ` [11 R278]: configuration sequence -/
def SAF_CFG_SEQ_SEQ : Fld := ⟨0x200900C4, 0x0, 0, 32, fun _ => 0⟩
/-- `SAF_IN_n_CFG` [11 R278]: safety input -/
def SAF_IN_n_CFG_EN : Fld := ⟨0x20090100, 0x4, 31, 1, fun _ => 0⟩
def SAF_IN_n_CFG_ROLE : Fld := ⟨0x20090100, 0x4, 29, 2, fun _ => 0⟩
def SAF_IN_n_CFG_TYPE : Fld := ⟨0x20090100, 0x4, 28, 1, fun _ => 0⟩
def SAF_IN_n_CFG_TP_EN : Fld := ⟨0x20090100, 0x4, 27, 1, fun _ => 0⟩
def SAF_IN_n_CFG_FILT : Fld := ⟨0x20090100, 0x4, 20, 4, fun _ => 0⟩
def SAF_IN_n_CFG_DISC_T : Fld := ⟨0x20090100, 0x4, 10, 10, fun _ => 100⟩
/-- `SAF_TP_CFG` [11 R278]: test pulses -/
def SAF_TP_CFG_EN : Fld := ⟨0x20090140, 0x0, 31, 1, fun _ => 0⟩
def SAF_TP_CFG_TP_W : Fld := ⟨0x20090140, 0x0, 16, 4, fun _ => 5⟩
def SAF_TP_CFG_TP_PER : Fld := ⟨0x20090140, 0x0, 0, 10, fun _ => 100⟩
/-- `SAF_FUNC_f_CFG` [11 R278]: function -/
def SAF_FUNC_f_CFG_EN : Fld := ⟨0x20090180, 0x4, 31, 1, fun _ => 0⟩
def SAF_FUNC_f_CFG_RESTART : Fld := ⟨0x20090180, 0x4, 30, 1, fun _ => 1⟩
def SAF_FUNC_f_CFG_TT_EN : Fld := ⟨0x20090180, 0x4, 29, 1, fun _ => 0⟩
def SAF_FUNC_f_CFG_LO_EN : Fld := ⟨0x20090180, 0x4, 28, 1, fun _ => 0⟩
def SAF_FUNC_f_CFG_CONN : Fld := ⟨0x20090180, 0x4, 8, 8, fun _ => 0⟩
def SAF_FUNC_f_CFG_IN : Fld := ⟨0x20090180, 0x4, 0, 8, fun _ => 0⟩
/-- `SAF_RLY_CFG` [11 R278]: relay timing -/
def SAF_RLY_CFG_FB_TMO : Fld := ⟨0x20090190, 0x0, 16, 9, fun _ => 100⟩
def SAF_RLY_CFG_CHK_T : Fld := ⟨0x20090190, 0x0, 0, 8, fun _ => 20⟩
/-- `SAF_CLS_k` [11 R278]: fault class -/
def SAF_CLS_k_LIMIT : Fld := ⟨0x200901A0, 0x4, 24, 8, fun _ => 1⟩
def SAF_CLS_k_WINDOW : Fld := ⟨0x200901A0, 0x4, 0, 16, fun _ => 0x3E8⟩
/-- `SAF_ROLE` [11 R278]: role -/
def SAF_ROLE_FOLLOWER : Fld := ⟨0x200901B0, 0x0, 31, 1, fun _ => 0⟩
/-- `SAF_CONN_c_CFG` [11 R278]: connection -/
def SAF_CONN_c_CFG_EN : Fld := ⟨0x20090200, 0x10, 31, 1, fun _ => 0⟩
def SAF_CONN_c_CFG_DIR : Fld := ⟨0x20090200, 0x10, 30, 1, fun _ => 0⟩
def SAF_CONN_c_CFG_AGE_CHK : Fld := ⟨0x20090200, 0x10, 29, 1, fun _ => 1⟩
def SAF_CONN_c_CFG_SEQ_WIN : Fld := ⟨0x20090200, 0x10, 24, 4, fun _ => 3⟩
def SAF_CONN_c_CFG_TX_IN : Fld := ⟨0x20090200, 0x10, 8, 8, fun _ => 0⟩
def SAF_CONN_c_CFG_VER : Fld := ⟨0x20090200, 0x10, 0, 8, fun _ => 1⟩
/-- `SAF_CONN_c_ID` [11 R278]: hidden identity -/
def SAF_CONN_c_ID_ID : Fld := ⟨0x20090204, 0x10, 0, 32, fun _ => 0⟩
/-- `SAF_CONN_c_PATH` [11 R278]: paths -/
def SAF_CONN_c_PATH_P1_KIND : Fld := ⟨0x20090208, 0x10, 30, 2, fun _ => 0⟩
def SAF_CONN_c_PATH_P1_LINK : Fld := ⟨0x20090208, 0x10, 16, 7, fun _ => 0⟩
def SAF_CONN_c_PATH_P2_KIND : Fld := ⟨0x20090208, 0x10, 14, 2, fun _ => 1⟩
def SAF_CONN_c_PATH_P2_LINK : Fld := ⟨0x20090208, 0x10, 0, 7, fun _ => 0⟩
/-- `SAF_CONN_c_TIME` [11 R278]: timing -/
def SAF_CONN_c_TIME_EXP_T : Fld := ⟨0x2009020C, 0x10, 16, 16, fun _ => 60⟩
def SAF_CONN_c_TIME_TX_PER : Fld := ⟨0x2009020C, 0x10, 0, 8, fun _ => 20⟩
/-- `SAF_UL_NONCE_k` [11 R278]: nonce -/
def SAF_UL_NONCE_k_NONCE : Fld := ⟨0x20090400, 0x4, 0, 32, fun _ => 0⟩
/-- `SAF_UL_CTRL` [11 R278]: unlock request -/
def SAF_UL_CTRL_KEY : Fld := ⟨0x20090410, 0x0, 24, 8, fun _ => 0⟩
def SAF_UL_CTRL_FMASK : Fld := ⟨0x20090410, 0x0, 8, 8, fun _ => 0⟩
def SAF_UL_CTRL_OP : Fld := ⟨0x20090410, 0x0, 0, 8, fun _ => 0⟩
/-- `SAF_UL_ADDR` [11 R278]: record address -/
def SAF_UL_ADDR_ADDR : Fld := ⟨0x20090414, 0x0, 0, 32, fun _ => 0⟩
/-- `SAF_UL_SIG_k` [11 R278]: signature -/
def SAF_UL_SIG_k_SIG : Fld := ⟨0x20090420, 0x4, 0, 32, fun _ => 0⟩
/-- `SAF_UL_STAT` [11 R278]: unlock result -/
def SAF_UL_STAT_UL_SEQ : Fld := ⟨0x20090460, 0x0, 8, 8, fun _ => 0⟩
def SAF_UL_STAT_RESULT : Fld := ⟨0x20090460, 0x0, 0, 4, fun _ => 0⟩
/-- `HST_CFG` [12 R317]: host port mode -/
def HST_CFG_QUAD : Fld := ⟨0x200A0000, 0x0, 31, 1, fun _ => 0⟩
def HST_CFG_ETH_CMD : Fld := ⟨0x200A0000, 0x0, 30, 1, fun _ => 1⟩
/-- `HST_STAT` [12 R317]: host port status -/
def HST_STAT_OUTST : Fld := ⟨0x200A0004, 0x0, 23, 9, fun _ => 0⟩
def HST_STAT_FRAME_CNT : Fld := ⟨0x200A0004, 0x0, 8, 8, fun _ => 0⟩
def HST_STAT_CNT_OVF : Fld := ⟨0x200A0004, 0x0, 7, 1, fun _ => 0⟩
def HST_STAT_RD_TMO : Fld := ⟨0x200A0004, 0x0, 6, 1, fun _ => 0⟩
def HST_STAT_WR_OVF : Fld := ⟨0x200A0004, 0x0, 5, 1, fun _ => 0⟩
def HST_STAT_BAD_INSTR : Fld := ⟨0x200A0004, 0x0, 4, 1, fun _ => 0⟩
def HST_STAT_FRAME_ERR : Fld := ⟨0x200A0004, 0x0, 3, 1, fun _ => 0⟩
def HST_STAT_VER : Fld := ⟨0x200A0004, 0x0, 0, 2, fun _ => 1⟩
/-- `HST_CAP` [12 R317]: capability word -/
def HST_CAP_CAP_VER : Fld := ⟨0x200A0008, 0x0, 24, 8, fun _ => 1⟩
def HST_CAP_VER_MAX : Fld := ⟨0x200A0008, 0x0, 20, 4, fun _ => 3⟩
def HST_CAP_VER_MIN : Fld := ⟨0x200A0008, 0x0, 16, 4, fun _ => 1⟩
def HST_CAP_TAGS : Fld := ⟨0x200A0008, 0x0, 8, 8, fun _ => 255⟩
def HST_CAP_FEAT : Fld := ⟨0x200A0008, 0x0, 0, 8, fun _ => 31⟩
/-- `HST_ID` [12 R317]: host identifier -/
def HST_ID_ID : Fld := ⟨0x200A000C, 0x0, 0, 32, fun _ => 0⟩
/-- `HST_IRQ` [12 R317]: host interrupt -/
def HST_IRQ_MASK : Fld := ⟨0x200A0010, 0x0, 16, 4, fun _ => 0⟩
def HST_IRQ_EVT : Fld := ⟨0x200A0010, 0x0, 3, 1, fun _ => 0⟩
def HST_IRQ_FRAME : Fld := ⟨0x200A0010, 0x0, 2, 1, fun _ => 0⟩
def HST_IRQ_WOVF : Fld := ⟨0x200A0010, 0x0, 1, 1, fun _ => 0⟩
def HST_IRQ_REPLY : Fld := ⟨0x200A0010, 0x0, 0, 1, fun _ => 0⟩
/-- `HST_BUF` [12 R317]: host buffers -/
def HST_BUF_BLK : Fld := ⟨0x200A0020, 0x0, 0, 6, fun _ => 48⟩
/-- `NET_CTRL` [12 R318]: engine enable -/
def NET_CTRL_EN : Fld := ⟨0x200B0000, 0x0, 31, 1, fun _ => 0⟩
def NET_CTRL_DEF_EN : Fld := ⟨0x200B0000, 0x0, 30, 1, fun _ => 0⟩
def NET_CTRL_DEF_RING : Fld := ⟨0x200B0000, 0x0, 0, 5, fun _ => 16⟩
/-- `NET_CAP` [12 R318]: capability word -/
def NET_CAP_CAP_VER : Fld := ⟨0x200B0008, 0x0, 24, 8, fun _ => 1⟩
def NET_CAP_PORT_COUNT : Fld := ⟨0x200B0008, 0x0, 22, 2, fun _ => 2⟩
def NET_CAP_RING_COUNT : Fld := ⟨0x200B0008, 0x0, 16, 6, fun _ => 32⟩
def NET_CAP_SESS_COUNT : Fld := ⟨0x200B0008, 0x0, 8, 8, fun _ => 128⟩
def NET_CAP_FEAT : Fld := ⟨0x200B0008, 0x0, 0, 8, fun _ => 127⟩
/-- `NET_IBUF` [12 R318]: internal queues -/
def NET_IBUF_BLK : Fld := ⟨0x200B0010, 0x0, 0, 6, fun _ => 52⟩
/-- `NET_PORT_x_CFG` [12 R318]: port setup -/
def NET_PORT_x_CFG_EN : Fld := ⟨0x200B0100, 0x100, 31, 1, fun _ => 0⟩
def NET_PORT_x_CFG_PHY_RST : Fld := ⟨0x200B0100, 0x100, 30, 1, fun _ => 1⟩
def NET_PORT_x_CFG_PTP_EN : Fld := ⟨0x200B0100, 0x100, 29, 1, fun _ => 0⟩
def NET_PORT_x_CFG_PAUSE_RX : Fld := ⟨0x200B0100, 0x100, 28, 1, fun _ => 1⟩
def NET_PORT_x_CFG_PAUSE_TX : Fld := ⟨0x200B0100, 0x100, 27, 1, fun _ => 0⟩
def NET_PORT_x_CFG_STRIP : Fld := ⟨0x200B0100, 0x100, 26, 1, fun _ => 1⟩
def NET_PORT_x_CFG_RESP : Fld := ⟨0x200B0100, 0x100, 25, 1, fun _ => 1⟩
def NET_PORT_x_CFG_DEF_PRIO : Fld := ⟨0x200B0100, 0x100, 0, 3, fun _ => 0⟩
/-- `NET_PORT_x_STAT` [12 R318]: port state -/
def NET_PORT_x_STAT_LINK : Fld := ⟨0x200B0104, 0x100, 31, 1, fun _ => 0⟩
def NET_PORT_x_STAT_SPEED : Fld := ⟨0x200B0104, 0x100, 29, 2, fun _ => 0⟩
def NET_PORT_x_STAT_HALF : Fld := ⟨0x200B0104, 0x100, 28, 1, fun _ => 0⟩
def NET_PORT_x_STAT_LONG_CNT : Fld := ⟨0x200B0104, 0x100, 16, 8, fun _ => 0⟩
def NET_PORT_x_STAT_FCS_CNT : Fld := ⟨0x200B0104, 0x100, 8, 8, fun _ => 0⟩
def NET_PORT_x_STAT_CNT_OVF : Fld := ⟨0x200B0104, 0x100, 1, 1, fun _ => 0⟩
def NET_PORT_x_STAT_LINK_SEEN : Fld := ⟨0x200B0104, 0x100, 0, 1, fun _ => 0⟩
/-- `NET_PORT_x_MAC_LO` [12 R318]: MAC address, bytes 0–3 -/
def NET_PORT_x_MAC_LO_MAC : Fld := ⟨0x200B0108, 0x100, 0, 32, fun _ => 0⟩
/-- `NET_PORT_x_MAC_HI` [12 R318]: MAC address, bytes 4–5 -/
def NET_PORT_x_MAC_HI_MAC : Fld := ⟨0x200B010C, 0x100, 0, 16, fun _ => 0⟩
/-- `NET_PORT_x_IP4` [12 R318]: IPv4 address -/
def NET_PORT_x_IP4_ADDR : Fld := ⟨0x200B0110, 0x100, 0, 32, fun _ => 0⟩
/-- `NET_PORT_x_IP6_0` [12 R318]: IPv6 address -/
def NET_PORT_x_IP6_0_ADDR : Fld := ⟨0x200B0114, 0x100, 0, 32, fun _ => 0⟩
/-- `NET_PORT_x_IP6_1` [12 R318]: IPv6 address -/
def NET_PORT_x_IP6_1_ADDR : Fld := ⟨0x200B0118, 0x100, 0, 32, fun _ => 0⟩
/-- `NET_PORT_x_IP6_2` [12 R318]: IPv6 address -/
def NET_PORT_x_IP6_2_ADDR : Fld := ⟨0x200B011C, 0x100, 0, 32, fun _ => 0⟩
/-- `NET_PORT_x_IP6_3` [12 R318]: IPv6 address -/
def NET_PORT_x_IP6_3_ADDR : Fld := ⟨0x200B0120, 0x100, 0, 32, fun _ => 0⟩
/-- `NET_PORT_x_DLY` [12 R318]: PHY delays -/
def NET_PORT_x_DLY_RX_DLY : Fld := ⟨0x200B0124, 0x100, 16, 16, fun _ => 0⟩
def NET_PORT_x_DLY_TX_DLY : Fld := ⟨0x200B0124, 0x100, 0, 16, fun _ => 0⟩
/-- `NET_PTP_CFG` [12 R318]: built-in servo -/
def NET_PTP_CFG_SERVO : Fld := ⟨0x200B0400, 0x0, 31, 1, fun _ => 0⟩
def NET_PTP_CFG_PROF : Fld := ⟨0x200B0400, 0x0, 30, 1, fun _ => 0⟩
def NET_PTP_CFG_PORT : Fld := ⟨0x200B0400, 0x0, 29, 1, fun _ => 0⟩
def NET_PTP_CFG_KP : Fld := ⟨0x200B0400, 0x0, 20, 4, fun _ => 6⟩
def NET_PTP_CFG_KI : Fld := ⟨0x200B0400, 0x0, 16, 4, fun _ => 10⟩
def NET_PTP_CFG_LOCK_TH : Fld := ⟨0x200B0400, 0x0, 8, 8, fun _ => 100⟩
def NET_PTP_CFG_STEP_TH : Fld := ⟨0x200B0400, 0x0, 0, 8, fun _ => 100⟩
/-- `NET_PTP_STAT` [12 R318]: servo state -/
def NET_PTP_STAT_LOCKED : Fld := ⟨0x200B0404, 0x0, 31, 1, fun _ => 0⟩
def NET_PTP_STAT_MASTER_SEEN : Fld := ⟨0x200B0404, 0x0, 30, 1, fun _ => 0⟩
def NET_PTP_STAT_OFFSET : Fld := ⟨0x200B0404, 0x0, 0, 24, fun _ => 0⟩
/-- `NET_RING_r_BASE` [12 R318]: ring base -/
def NET_RING_r_BASE_BASE : Fld := ⟨0x200B1000, 0x20, 4, 28, fun _ => 0⟩
/-- `NET_RING_r_CFG` [12 R318]: ring setup -/
def NET_RING_r_CFG_EN : Fld := ⟨0x200B1004, 0x20, 31, 1, fun _ => 0⟩
def NET_RING_r_CFG_PORT : Fld := ⟨0x200B1004, 0x20, 30, 1, fun _ => 0⟩
def NET_RING_r_CFG_QUEUE : Fld := ⟨0x200B1004, 0x20, 27, 3, fun _ => 0⟩
def NET_RING_r_CFG_SIZE : Fld := ⟨0x200B1004, 0x20, 0, 13, fun _ => 16⟩
/-- `NET_RING_r_HEAD` [12 R318]: engine index -/
def NET_RING_r_HEAD_OWN_ERR : Fld := ⟨0x200B1008, 0x20, 31, 1, fun _ => 0⟩
def NET_RING_r_HEAD_HEAD : Fld := ⟨0x200B1008, 0x20, 0, 12, fun _ => 0⟩
/-- `NET_RING_r_TAIL` [12 R318]: firmware index -/
def NET_RING_r_TAIL_TAIL : Fld := ⟨0x200B100C, 0x20, 0, 12, fun _ => 0⟩
/-- `NET_RING_r_MATCH` [12 R318]: receive match -/
def NET_RING_r_MATCH_PORTS : Fld := ⟨0x200B1010, 0x20, 30, 2, fun _ => 0⟩
def NET_RING_r_MATCH_KIND : Fld := ⟨0x200B1010, 0x20, 28, 2, fun _ => 0⟩
def NET_RING_r_MATCH_VALUE : Fld := ⟨0x200B1010, 0x20, 0, 16, fun _ => 0⟩
/-- `NET_RING_r_CNT` [12 R318]: ring counts -/
def NET_RING_r_CNT_DROP_CNT : Fld := ⟨0x200B1014, 0x20, 24, 8, fun _ => 0⟩
def NET_RING_r_CNT_CNT_OVF : Fld := ⟨0x200B1014, 0x20, 23, 1, fun _ => 0⟩
def NET_RING_r_CNT_FRAMES : Fld := ⟨0x200B1014, 0x20, 0, 23, fun _ => 0⟩
/-- `NET_SESS_s_STAT` [12 R318]: session errors -/
def NET_SESS_s_STAT_AUTH_CNT : Fld := ⟨0x200B4000, 0x4, 24, 8, fun _ => 0⟩
def NET_SESS_s_STAT_REPLAY_CNT : Fld := ⟨0x200B4000, 0x4, 16, 8, fun _ => 0⟩
def NET_SESS_s_STAT_TYPE_CNT : Fld := ⟨0x200B4000, 0x4, 8, 8, fun _ => 0⟩
def NET_SESS_s_STAT_TX_EXH : Fld := ⟨0x200B4000, 0x4, 1, 1, fun _ => 0⟩
def NET_SESS_s_STAT_CNT_OVF : Fld := ⟨0x200B4000, 0x4, 0, 1, fun _ => 0⟩
/-- `NET_KEY_DATA_k` [12 R318]: key staging -/
def NET_KEY_DATA_k_KEY : Fld := ⟨0x200B0500, 0x4, 0, 32, fun _ => 0⟩
/-- `NET_KEY_CTRL` [12 R318]: key operation -/
def NET_KEY_CTRL_OP : Fld := ⟨0x200B0520, 0x0, 8, 2, fun _ => 0⟩
def NET_KEY_CTRL_SLOT : Fld := ⟨0x200B0520, 0x0, 0, 7, fun _ => 0⟩
/-- `NET_KEY_VALID_k` [12 R318]: slots in use -/
def NET_KEY_VALID_k_VALID : Fld := ⟨0x200B0530, 0x4, 0, 32, fun _ => 0⟩
/-- `NQL_CTRL` [12 R318]: link setup -/
def NQL_CTRL_EN : Fld := ⟨0x20110000, 0x0, 31, 1, fun _ => 0⟩
def NQL_CTRL_L0_EN : Fld := ⟨0x20110000, 0x0, 30, 1, fun _ => 1⟩
def NQL_CTRL_L1_EN : Fld := ⟨0x20110000, 0x0, 29, 1, fun _ => 1⟩
def NQL_CTRL_RX_RING : Fld := ⟨0x20110000, 0x0, 8, 5, fun _ => 16⟩
def NQL_CTRL_NODE : Fld := ⟨0x20110000, 0x0, 0, 4, fun _ => 0⟩
/-- `NQL_STAT` [12 R318]: ring state -/
def NQL_STAT_NODES : Fld := ⟨0x20110004, 0x0, 16, 16, fun _ => 0⟩
def NQL_STAT_RING_CLOSED : Fld := ⟨0x20110004, 0x0, 15, 1, fun _ => 0⟩
def NQL_STAT_CONFLICT : Fld := ⟨0x20110004, 0x0, 14, 1, fun _ => 0⟩
def NQL_STAT_UNK_CNT : Fld := ⟨0x20110004, 0x0, 0, 8, fun _ => 0⟩
/-- `NQL_CAP` [12 R318]: capability word -/
def NQL_CAP_CAP_VER : Fld := ⟨0x20110008, 0x0, 24, 8, fun _ => 1⟩
def NQL_CAP_LINK_MAX : Fld := ⟨0x20110008, 0x0, 20, 4, fun _ => 1⟩
def NQL_CAP_LINK_MIN : Fld := ⟨0x20110008, 0x0, 16, 4, fun _ => 1⟩
def NQL_CAP_FEAT : Fld := ⟨0x20110008, 0x0, 8, 8, fun _ => 255⟩
def NQL_CAP_LANES : Fld := ⟨0x20110008, 0x0, 4, 4, fun _ => 2⟩
def NQL_CAP_NODES_MAX : Fld := ⟨0x20110008, 0x0, 0, 4, fun _ => 15⟩
/-- `NQL_LANE_l_STAT` [12 R318]: lane state -/
def NQL_LANE_l_STAT_STATE : Fld := ⟨0x20110010, 0x10, 29, 3, fun _ => 0⟩
def NQL_LANE_l_STAT_NOSIG : Fld := ⟨0x20110010, 0x10, 28, 1, fun _ => 0⟩
def NQL_LANE_l_STAT_CNT_OVF : Fld := ⟨0x20110010, 0x10, 27, 1, fun _ => 0⟩
def NQL_LANE_l_STAT_CODE_CNT : Fld := ⟨0x20110010, 0x10, 16, 8, fun _ => 0⟩
def NQL_LANE_l_STAT_CRC_CNT : Fld := ⟨0x20110010, 0x10, 8, 8, fun _ => 0⟩
def NQL_LANE_l_STAT_TRAIN_CNT : Fld := ⟨0x20110010, 0x10, 0, 8, fun _ => 0⟩
/-- `NQL_LANE_l_DLY` [12 R318]: lane delay -/
def NQL_LANE_l_DLY_VALID : Fld := ⟨0x20110014, 0x10, 31, 1, fun _ => 0⟩
def NQL_LANE_l_DLY_DLY_OVF : Fld := ⟨0x20110014, 0x10, 30, 1, fun _ => 0⟩
def NQL_LANE_l_DLY_PEER : Fld := ⟨0x20110014, 0x10, 26, 4, fun _ => 0⟩
def NQL_LANE_l_DLY_DLY : Fld := ⟨0x20110014, 0x10, 0, 26, fun _ => 0⟩
/-- `DRC_CTRL` [12 R318]: DRAM setup -/
def DRC_CTRL_EN : Fld := ⟨0x20120000, 0x0, 31, 1, fun _ => 0⟩
def DRC_CTRL_RATE : Fld := ⟨0x20120000, 0x0, 26, 2, fun _ => 3⟩
def DRC_CTRL_SIZE : Fld := ⟨0x20120000, 0x0, 24, 2, fun _ => 0⟩
def DRC_CTRL_SCRUB_H : Fld := ⟨0x20120000, 0x0, 0, 8, fun _ => 24⟩
/-- `DRC_STAT` [12 R318]: DRAM state -/
def DRC_STAT_READY : Fld := ⟨0x20120004, 0x0, 31, 1, fun _ => 0⟩
def DRC_STAT_TRAIN_FAIL : Fld := ⟨0x20120004, 0x0, 30, 1, fun _ => 0⟩
def DRC_STAT_UE : Fld := ⟨0x20120004, 0x0, 29, 1, fun _ => 0⟩
def DRC_STAT_TRAIN_SEQ : Fld := ⟨0x20120004, 0x0, 0, 8, fun _ => 0⟩
/-- `DRC_ECC` [12 R318]: corrected errors -/
def DRC_ECC_CE_CNT : Fld := ⟨0x20120008, 0x0, 24, 8, fun _ => 0⟩
def DRC_ECC_CE_OVF : Fld := ⟨0x20120008, 0x0, 23, 1, fun _ => 0⟩
/-- `DRC_ECC_ADDR` [12 R318]: last error address -/
def DRC_ECC_ADDR_ADDR : Fld := ⟨0x2012000C, 0x0, 3, 29, fun _ => 0⟩
/-- `LMP_CTRL` [13 R346]: enable -/
def LMP_CTRL_EN : Fld := ⟨0x200C0000, 0x0, 31, 1, fun _ => 0⟩
def LMP_CTRL_REPL_EN : Fld := ⟨0x200C0000, 0x0, 30, 1, fun _ => 0⟩
def LMP_CTRL_POLL_EN : Fld := ⟨0x200C0000, 0x0, 29, 1, fun _ => 1⟩
def LMP_CTRL_SCHED_EN : Fld := ⟨0x200C0000, 0x0, 28, 1, fun _ => 1⟩
/-- `LMP_STAT` [13 R346]: block status -/
def LMP_STAT_DIR_FULL : Fld := ⟨0x200C0004, 0x0, 4, 1, fun _ => 0⟩
def LMP_STAT_TIME_BAD : Fld := ⟨0x200C0004, 0x0, 3, 1, fun _ => 1⟩
def LMP_STAT_BURST_WAIT : Fld := ⟨0x200C0004, 0x0, 2, 1, fun _ => 0⟩
def LMP_STAT_DEFER_ANY : Fld := ⟨0x200C0004, 0x0, 1, 1, fun _ => 0⟩
def LMP_STAT_RUN : Fld := ⟨0x200C0004, 0x0, 0, 1, fun _ => 0⟩
/-- `LMP_CAP` [13 R346]: capability word -/
def LMP_CAP_CAP_VER : Fld := ⟨0x200C0008, 0x0, 24, 8, fun _ => 1⟩
def LMP_CAP_PORT_COUNT : Fld := ⟨0x200C0008, 0x0, 20, 4, fun _ => 4⟩
def LMP_CAP_PROF_MAX : Fld := ⟨0x200C0008, 0x0, 16, 4, fun _ => 2⟩
def LMP_CAP_PROF_MIN : Fld := ⟨0x200C0008, 0x0, 12, 4, fun _ => 1⟩
def LMP_CAP_FEAT : Fld := ⟨0x200C0008, 0x0, 0, 6, fun _ => 63⟩
/-- `LMP_HUB` [13 R346]: identity -/
def LMP_HUB_DISTRICT : Fld := ⟨0x200C0010, 0x0, 16, 16, fun _ => 0⟩
def LMP_HUB_HUB_ID : Fld := ⟨0x200C0010, 0x0, 0, 16, fun _ => 0⟩
/-- `LMP_DIR_BASE` [13 R346]: directory region -/
def LMP_DIR_BASE_BASE : Fld := ⟨0x200C0014, 0x0, 20, 12, fun _ => 0x800⟩
/-- `LMP_DIR_STAT` [13 R346]: directory state -/
def LMP_DIR_STAT_DAMAGE_CNT : Fld := ⟨0x200C0018, 0x0, 24, 8, fun _ => 0⟩
def LMP_DIR_STAT_CNT_OVF : Fld := ⟨0x200C0018, 0x0, 23, 1, fun _ => 0⟩
def LMP_DIR_STAT_COUNT : Fld := ⟨0x200C0018, 0x0, 0, 19, fun _ => 0⟩
/-- `LMP_SCHED_BASE` [13 R346]: schedule region -/
def LMP_SCHED_BASE_BASE : Fld := ⟨0x200C001C, 0x0, 19, 13, fun _ => 0x1044⟩
/-- `LMP_GEO` [13 R346]: position -/
def LMP_GEO_LON : Fld := ⟨0x200C0020, 0x0, 16, 16, fun _ => 0⟩
def LMP_GEO_LAT : Fld := ⟨0x200C0020, 0x0, 0, 16, fun _ => 0⟩
/-- `LMP_ZEN` [13 R346]: dusk and dawn angle -/
def LMP_ZEN_ZENITH : Fld := ⟨0x200C0024, 0x0, 0, 16, fun _ => 0x237B⟩
/-- `LMP_SUN` [13 R346]: today's sun -/
def LMP_SUN_DUSK : Fld := ⟨0x200C0028, 0x0, 16, 16, fun _ => 0xFFFF⟩
def LMP_SUN_DAWN : Fld := ⟨0x200C0028, 0x0, 0, 16, fun _ => 0xFFFF⟩
/-- `LMP_TZ` [13 R346]: time offsets -/
def LMP_TZ_UTC_OFS : Fld := ⟨0x200C002C, 0x0, 16, 16, fun _ => 37⟩
def LMP_TZ_TZ : Fld := ⟨0x200C002C, 0x0, 0, 16, fun _ => 0⟩
/-- `LMP_POLL` [13 R346]: polling and retries -/
def LMP_POLL_POLL_PER : Fld := ⟨0x200C0030, 0x0, 16, 16, fun _ => 900⟩
def LMP_POLL_RESP_TMO : Fld := ⟨0x200C0030, 0x0, 8, 8, fun _ => 5⟩
def LMP_POLL_RETRY : Fld := ⟨0x200C0030, 0x0, 4, 4, fun _ => 2⟩
def LMP_POLL_FAIL_LIM : Fld := ⟨0x200C0030, 0x0, 0, 4, fun _ => 3⟩
/-- `LMP_BURST` [13 R346]: bursts -/
def LMP_BURST_EN : Fld := ⟨0x200C0034, 0x0, 31, 1, fun _ => 0⟩
def LMP_BURST_REQ : Fld := ⟨0x200C0034, 0x0, 24, 5, fun _ => 3⟩
def LMP_BURST_RETRY_T : Fld := ⟨0x200C0034, 0x0, 16, 8, fun _ => 30⟩
def LMP_BURST_BURST_MIN : Fld := ⟨0x200C0034, 0x0, 0, 16, fun _ => 10⟩
/-- `LMP_MASTER` [13 R346]: master role -/
def LMP_MASTER_STANDBY : Fld := ⟨0x200C0040, 0x0, 31, 1, fun _ => 1⟩
def LMP_MASTER_FAIL_T : Fld := ⟨0x200C0040, 0x0, 0, 8, fun _ => 10⟩
/-- `LMP_EPOCH` [13 R346]: master epoch -/
def LMP_EPOCH_EPOCH : Fld := ⟨0x200C0044, 0x0, 0, 32, fun _ => 0⟩
/-- `LMP_REPL_STAT` [13 R346]: replication -/
def LMP_REPL_STAT_CONFLICT_CNT : Fld := ⟨0x200C0048, 0x0, 24, 8, fun _ => 0⟩
def LMP_REPL_STAT_CNT_OVF : Fld := ⟨0x200C0048, 0x0, 23, 1, fun _ => 0⟩
def LMP_REPL_STAT_PULL_PEND : Fld := ⟨0x200C0048, 0x0, 22, 1, fun _ => 0⟩
def LMP_REPL_STAT_PEERS_SEEN : Fld := ⟨0x200C0048, 0x0, 0, 16, fun _ => 0⟩
/-- `LMP_PEER_k_CFG` [13 R346]: replication peer -/
def LMP_PEER_k_CFG_EN : Fld := ⟨0x200C0100, 0x4, 31, 1, fun _ => 0⟩
def LMP_PEER_k_CFG_PATH : Fld := ⟨0x200C0100, 0x4, 30, 1, fun _ => 0⟩
def LMP_PEER_k_CFG_LINK : Fld := ⟨0x200C0100, 0x4, 16, 7, fun _ => 0⟩
def LMP_PEER_k_CFG_HUB_ID : Fld := ⟨0x200C0100, 0x4, 0, 16, fun _ => 0⟩
/-- `LMP_GW_g` [13 R346]: gateway -/
def LMP_GW_g_EN : Fld := ⟨0x200C0180, 0x4, 31, 1, fun _ => 0⟩
def LMP_GW_g_SESSION : Fld := ⟨0x200C0180, 0x4, 0, 7, fun _ => 0⟩
/-- `LMP_PORT_p_CFG` [13 R346]: PLC port -/
def LMP_PORT_p_CFG_EN : Fld := ⟨0x200C0200, 0x10, 31, 1, fun _ => 0⟩
def LMP_PORT_p_CFG_MODE : Fld := ⟨0x200C0200, 0x10, 30, 1, fun _ => 0⟩
def LMP_PORT_p_CFG_RST : Fld := ⟨0x200C0200, 0x10, 29, 1, fun _ => 1⟩
def LMP_PORT_p_CFG_BAUD : Fld := ⟨0x200C0200, 0x10, 26, 2, fun _ => 0⟩
def LMP_PORT_p_CFG_SCK : Fld := ⟨0x200C0200, 0x10, 24, 2, fun _ => 0⟩
def LMP_PORT_p_CFG_WIN : Fld := ⟨0x200C0200, 0x10, 20, 4, fun _ => 4⟩
def LMP_PORT_p_CFG_RATE : Fld := ⟨0x200C0200, 0x10, 0, 8, fun _ => 10⟩
/-- `LMP_PORT_p_PAN` [13 R346]: PAN -/
def LMP_PORT_p_PAN_PAN : Fld := ⟨0x200C0204, 0x10, 0, 16, fun _ => 0⟩
/-- `LMP_PORT_p_STAT` [13 R346]: port state -/
def LMP_PORT_p_STAT_STATE : Fld := ⟨0x200C0208, 0x10, 30, 2, fun _ => 0⟩
def LMP_PORT_p_STAT_DOWN_SEEN : Fld := ⟨0x200C0208, 0x10, 29, 1, fun _ => 0⟩
def LMP_PORT_p_STAT_CNT_OVF : Fld := ⟨0x200C0208, 0x10, 28, 1, fun _ => 0⟩
def LMP_PORT_p_STAT_CRC_CNT : Fld := ⟨0x200C0208, 0x10, 16, 8, fun _ => 0⟩
def LMP_PORT_p_STAT_TXN_RATE : Fld := ⟨0x200C0208, 0x10, 0, 16, fun _ => 0⟩
/-- `LMP_PORT_p_CNT` [13 R346]: port counts -/
def LMP_PORT_p_CNT_FAIL_CNT : Fld := ⟨0x200C020C, 0x10, 24, 8, fun _ => 0⟩
def LMP_PORT_p_CNT_TXN : Fld := ⟨0x200C020C, 0x10, 0, 24, fun _ => 0⟩
/-- `AON_CTRL` [14 R373]: enables and wake -/
def AON_CTRL_BS_EN : Fld := ⟨0x200D0000, 0x0, 31, 1, fun _ => 0⟩
def AON_CTRL_ALARM_EN : Fld := ⟨0x200D0000, 0x0, 30, 1, fun _ => 0⟩
def AON_CTRL_ALARM_WAKE : Fld := ⟨0x200D0000, 0x0, 29, 1, fun _ => 0⟩
def AON_CTRL_DOOR_WAKE : Fld := ⟨0x200D0000, 0x0, 28, 1, fun _ => 0⟩
def AON_CTRL_TAMPER_WAKE : Fld := ⟨0x200D0000, 0x0, 27, 1, fun _ => 0⟩
def AON_CTRL_WAKE_HOLD : Fld := ⟨0x200D0000, 0x0, 26, 1, fun _ => 0⟩
/-- `AON_STAT` [14 R373]: status -/
def AON_STAT_CAUSE : Fld := ⟨0x200D0004, 0x0, 28, 4, fun _ => 0⟩
def AON_STAT_PEND : Fld := ⟨0x200D0004, 0x0, 8, 4, fun _ => 0⟩
def AON_STAT_STOP_VALID : Fld := ⟨0x200D0004, 0x0, 4, 1, fun _ => 0⟩
def AON_STAT_VBAT_LOW_SEEN : Fld := ⟨0x200D0004, 0x0, 3, 1, fun _ => 0⟩
def AON_STAT_VBAT_LOW : Fld := ⟨0x200D0004, 0x0, 2, 1, fun _ => 0⟩
def AON_STAT_RTC_VALID : Fld := ⟨0x200D0004, 0x0, 1, 1, fun _ => 0⟩
def AON_STAT_XT_OK : Fld := ⟨0x200D0004, 0x0, 0, 1, fun _ => 0⟩
/-- `AON_CAP` [14 R373]: capability word -/
def AON_CAP_CAP_VER : Fld := ⟨0x200D0008, 0x0, 24, 8, fun _ => 1⟩
def AON_CAP_KEEP_COUNT : Fld := ⟨0x200D0008, 0x0, 20, 4, fun _ => 8⟩
def AON_CAP_FEAT : Fld := ⟨0x200D0008, 0x0, 0, 6, fun _ => 63⟩
/-- `AON_RTC_LO` [14 R373]: clock, bits [31:0] -/
def AON_RTC_LO_C : Fld := ⟨0x200D0010, 0x0, 0, 32, fun _ => 0⟩
/-- `AON_RTC_HI` [14 R373]: clock, bits [63:32] -/
def AON_RTC_HI_C : Fld := ⟨0x200D0014, 0x0, 0, 32, fun _ => 0⟩
/-- `AON_RTC_SET_LO` [14 R373]: clock setting, bits [31:0] -/
def AON_RTC_SET_LO_C : Fld := ⟨0x200D0018, 0x0, 0, 32, fun _ => 0⟩
/-- `AON_RTC_SET_HI` [14 R373]: clock setting, bits [63:32] -/
def AON_RTC_SET_HI_C : Fld := ⟨0x200D001C, 0x0, 0, 32, fun _ => 0⟩
/-- `AON_RTC_TRIM` [14 R373]: clock trim -/
def AON_RTC_TRIM_TRIM : Fld := ⟨0x200D0020, 0x0, 0, 8, fun _ => 0⟩
/-- `AON_ALARM` [14 R373]: alarm second -/
def AON_ALARM_SEC : Fld := ⟨0x200D0024, 0x0, 0, 32, fun _ => 0⟩
/-- `AON_STOP_LO` [14 R373]: stop stamp, bits [31:0] -/
def AON_STOP_LO_C : Fld := ⟨0x200D0028, 0x0, 0, 32, fun _ => 0⟩
/-- `AON_STOP_HI` [14 R373]: stop stamp, bits [63:32] -/
def AON_STOP_HI_C : Fld := ⟨0x200D002C, 0x0, 0, 32, fun _ => 0⟩
/-- `AON_LATCH` [14 R373]: door and tamper -/
def AON_LATCH_TAMPER_PIN : Fld := ⟨0x200D0030, 0x0, 9, 1, fun _ => 0⟩
def AON_LATCH_DOOR_PIN : Fld := ⟨0x200D0030, 0x0, 8, 1, fun _ => 0⟩
def AON_LATCH_TAMPER : Fld := ⟨0x200D0030, 0x0, 1, 1, fun _ => 0⟩
def AON_LATCH_DOOR : Fld := ⟨0x200D0030, 0x0, 0, 1, fun _ => 0⟩
/-- `AON_DOOR_TS` [14 R373]: door stamp -/
def AON_DOOR_TS_SEC : Fld := ⟨0x200D0034, 0x0, 0, 32, fun _ => 0⟩
/-- `AON_TAMPER_TS` [14 R373]: tamper stamp -/
def AON_TAMPER_TS_SEC : Fld := ⟨0x200D0038, 0x0, 0, 32, fun _ => 0⟩
/-- `AON_BS_CFG` [14 R373]: qualification -/
def AON_BS_CFG_VHV_ON : Fld := ⟨0x200D0040, 0x0, 21, 11, fun _ => 600⟩
def AON_BS_CFG_QUAL_T : Fld := ⟨0x200D0040, 0x0, 8, 8, fun _ => 30⟩
def AON_BS_CFG_RETRY_T : Fld := ⟨0x200D0040, 0x0, 0, 8, fun _ => 10⟩
/-- `AON_BS_KICK` [14 R373]: kick -/
def AON_BS_KICK_KICK_W : Fld := ⟨0x200D0044, 0x0, 24, 8, fun _ => 20⟩
def AON_BS_KICK_KICK_GAP : Fld := ⟨0x200D0044, 0x0, 16, 8, fun _ => 10⟩
def AON_BS_KICK_KICK_N : Fld := ⟨0x200D0044, 0x0, 8, 8, fun _ => 50⟩
def AON_BS_KICK_WAKE_TMO : Fld := ⟨0x200D0044, 0x0, 0, 8, fun _ => 50⟩
/-- `AON_BS_FB` [14 R373]: starter output thresholds -/
def AON_BS_FB_FB_OK : Fld := ⟨0x200D0048, 0x0, 16, 11, fun _ => 800⟩
def AON_BS_FB_FB_DROP : Fld := ⟨0x200D0048, 0x0, 0, 11, fun _ => 600⟩
/-- `AON_BS_CLS` [14 R373]: black-start class -/
def AON_BS_CLS_LIMIT : Fld := ⟨0x200D004C, 0x0, 24, 8, fun _ => 3⟩
def AON_BS_CLS_WINDOW : Fld := ⟨0x200D004C, 0x0, 0, 16, fun _ => 600⟩
/-- `AON_BS_STAT` [14 R373]: black-start state -/
def AON_BS_STAT_FAIL_CNT : Fld := ⟨0x200D0050, 0x0, 24, 8, fun _ => 0⟩
def AON_BS_STAT_WIN_CNT : Fld := ⟨0x200D0050, 0x0, 16, 8, fun _ => 0⟩
def AON_BS_STAT_CNT_OVF : Fld := ⟨0x200D0050, 0x0, 15, 1, fun _ => 0⟩
def AON_BS_STAT_LATCHED : Fld := ⟨0x200D0050, 0x0, 14, 1, fun _ => 0⟩
def AON_BS_STAT_STATE : Fld := ⟨0x200D0050, 0x0, 8, 3, fun _ => 0⟩
def AON_BS_STAT_SEQ : Fld := ⟨0x200D0050, 0x0, 0, 8, fun _ => 0⟩
/-- `AON_MEAS` [14 R373]: measurements -/
def AON_MEAS_VHV : Fld := ⟨0x200D0054, 0x0, 21, 11, fun _ => 0⟩
def AON_MEAS_BSFB : Fld := ⟨0x200D0054, 0x0, 10, 11, fun _ => 0⟩
def AON_MEAS_VBAT : Fld := ⟨0x200D0054, 0x0, 0, 10, fun _ => 0⟩
/-- `AON_KEEP_n` [14 R373]: retained word -/
def AON_KEEP_n_DATA : Fld := ⟨0x200D0080, 0x4, 0, 32, fun _ => 0⟩
/-- `AON_SNAPSEQ` [14 R373]: snapshot sequence -/
def AON_SNAPSEQ_SEQ : Fld := ⟨0x200DFFFC, 0x0, 0, 8, fun _ => 0⟩
/-- `AUX_BK_CTRL` [14 R374]: buck enable -/
def AUX_BK_CTRL_EN : Fld := ⟨0x200E0000, 0x0, 31, 1, fun _ => 0⟩
def AUX_BK_CTRL_PH1_EN : Fld := ⟨0x200E0000, 0x0, 30, 1, fun _ => 1⟩
def AUX_BK_CTRL_SHED_EN : Fld := ⟨0x200E0000, 0x0, 29, 1, fun _ => 0⟩
def AUX_BK_CTRL_AUTO_RESUME : Fld := ⟨0x200E0000, 0x0, 28, 1, fun _ => 1⟩
/-- `AUX_BK_STAT` [14 R374]: buck state -/
def AUX_BK_STAT_STATE : Fld := ⟨0x200E0004, 0x0, 29, 3, fun _ => 0⟩
def AUX_BK_STAT_PGOOD : Fld := ⟨0x200E0004, 0x0, 28, 1, fun _ => 0⟩
def AUX_BK_STAT_SHED : Fld := ⟨0x200E0004, 0x0, 27, 1, fun _ => 0⟩
def AUX_BK_STAT_SLEWING : Fld := ⟨0x200E0004, 0x0, 26, 1, fun _ => 0⟩
def AUX_BK_STAT_ILIM_ACT : Fld := ⟨0x200E0004, 0x0, 25, 1, fun _ => 0⟩
def AUX_BK_STAT_HICCUP_CNT : Fld := ⟨0x200E0004, 0x0, 8, 8, fun _ => 0⟩
def AUX_BK_STAT_CNT_OVF : Fld := ⟨0x200E0004, 0x0, 7, 1, fun _ => 0⟩
def AUX_BK_STAT_LATCHED : Fld := ⟨0x200E0004, 0x0, 6, 1, fun _ => 0⟩
def AUX_BK_STAT_PG_LOST_SEEN : Fld := ⟨0x200E0004, 0x0, 5, 1, fun _ => 0⟩
def AUX_BK_STAT_SHED_ABORT_SEEN : Fld := ⟨0x200E0004, 0x0, 4, 1, fun _ => 0⟩
/-- `AUX_CAP` [14 R374]: capability word -/
def AUX_CAP_CAP_VER : Fld := ⟨0x200E0008, 0x0, 24, 8, fun _ => 1⟩
def AUX_CAP_BK_PHASES : Fld := ⟨0x200E0008, 0x0, 20, 4, fun _ => 2⟩
def AUX_CAP_PMP_PHASES : Fld := ⟨0x200E0008, 0x0, 16, 4, fun _ => 3⟩
def AUX_CAP_FEAT : Fld := ⟨0x200E0008, 0x0, 0, 4, fun _ => 15⟩
/-- `AUX_BK_FSW` [14 R374]: switching -/
def AUX_BK_FSW_PER : Fld := ⟨0x200E0010, 0x0, 16, 12, fun _ => 0x3E8⟩
def AUX_BK_FSW_DT : Fld := ⟨0x200E0010, 0x0, 0, 6, fun _ => 10⟩
/-- `AUX_BK_VSET` [14 R374]: output setting -/
def AUX_BK_VSET_SLEW : Fld := ⟨0x200E0014, 0x0, 16, 16, fun _ => 10⟩
def AUX_BK_VSET_VSET : Fld := ⟨0x200E0014, 0x0, 0, 11, fun _ => 800⟩
/-- `AUX_BK_SS` [14 R374]: soft start and over-current time -/
def AUX_BK_SS_OC_T : Fld := ⟨0x200E0018, 0x0, 8, 8, fun _ => 10⟩
def AUX_BK_SS_SS_T : Fld := ⟨0x200E0018, 0x0, 0, 8, fun _ => 10⟩
/-- `AUX_BK_ILIM` [14 R374]: current limit and shedding -/
def AUX_BK_ILIM_ADD_TH : Fld := ⟨0x200E001C, 0x0, 24, 8, fun _ => 70⟩
def AUX_BK_ILIM_SHED_TH : Fld := ⟨0x200E001C, 0x0, 16, 8, fun _ => 25⟩
def AUX_BK_ILIM_ILIM : Fld := ⟨0x200E001C, 0x0, 0, 10, fun _ => 500⟩
/-- `AUX_BK_LOOP` [14 R374]: voltage loop -/
def AUX_BK_LOOP_KP : Fld := ⟨0x200E0020, 0x0, 16, 16, fun _ => 256⟩
def AUX_BK_LOOP_KI : Fld := ⟨0x200E0020, 0x0, 0, 16, fun _ => 0x400⟩
/-- `AUX_BK_PG` [14 R374]: power-good window -/
def AUX_BK_PG_PG_WIN : Fld := ⟨0x200E0024, 0x0, 0, 8, fun _ => 50⟩
/-- `AUX_BK_MEAS_V` [14 R374]: voltages -/
def AUX_BK_MEAS_V_VREF : Fld := ⟨0x200E0028, 0x0, 16, 11, fun _ => 0⟩
def AUX_BK_MEAS_V_VFB : Fld := ⟨0x200E0028, 0x0, 0, 11, fun _ => 0⟩
/-- `AUX_BK_MEAS_I` [14 R374]: phase currents -/
def AUX_BK_MEAS_I_I1 : Fld := ⟨0x200E002C, 0x0, 16, 16, fun _ => 0⟩
def AUX_BK_MEAS_I_I0 : Fld := ⟨0x200E002C, 0x0, 0, 16, fun _ => 0⟩
/-- `AUX_PMP_CTRL` [14 R374]: pump control -/
def AUX_PMP_CTRL_EN : Fld := ⟨0x200E0100, 0x0, 31, 1, fun _ => 0⟩
def AUX_PMP_CTRL_DIR : Fld := ⟨0x200E0100, 0x0, 30, 1, fun _ => 0⟩
def AUX_PMP_CTRL_AUTO_RESUME : Fld := ⟨0x200E0100, 0x0, 29, 1, fun _ => 1⟩
def AUX_PMP_CTRL_SHIFT : Fld := ⟨0x200E0100, 0x0, 24, 3, fun _ => 0⟩
def AUX_PMP_CTRL_PRECHG : Fld := ⟨0x200E0100, 0x0, 16, 8, fun _ => 20⟩
def AUX_PMP_CTRL_STALL_T : Fld := ⟨0x200E0100, 0x0, 8, 8, fun _ => 50⟩
def AUX_PMP_CTRL_RESTART_T : Fld := ⟨0x200E0100, 0x0, 0, 8, fun _ => 10⟩
/-- `AUX_PMP_CFG` [14 R374]: switching and protection -/
def AUX_PMP_CFG_PER : Fld := ⟨0x200E0104, 0x0, 16, 14, fun _ => 0x1F40⟩
def AUX_PMP_CFG_DT : Fld := ⟨0x200E0104, 0x0, 8, 8, fun _ => 40⟩
def AUX_PMP_CFG_BLANK : Fld := ⟨0x200E0104, 0x0, 4, 4, fun _ => 4⟩
def AUX_PMP_CFG_VDS_TH : Fld := ⟨0x200E0104, 0x0, 0, 4, fun _ => 4⟩
/-- `AUX_PMP_DUTY` [14 R374]: duty -/
def AUX_PMP_DUTY_DUTY : Fld := ⟨0x200E0108, 0x0, 0, 16, fun _ => 0⟩
/-- `AUX_PMP_ILIM` [14 R374]: over-current -/
def AUX_PMP_ILIM_ILIM : Fld := ⟨0x200E010C, 0x0, 0, 10, fun _ => 200⟩
/-- `AUX_PMP_STAT` [14 R374]: pump state -/
def AUX_PMP_STAT_STATE : Fld := ⟨0x200E0110, 0x0, 29, 3, fun _ => 0⟩
def AUX_PMP_STAT_HALL : Fld := ⟨0x200E0110, 0x0, 26, 3, fun _ => 0⟩
def AUX_PMP_STAT_ILIM_ACT : Fld := ⟨0x200E0110, 0x0, 25, 1, fun _ => 0⟩
def AUX_PMP_STAT_FCAUSE : Fld := ⟨0x200E0110, 0x0, 20, 4, fun _ => 0⟩
def AUX_PMP_STAT_FSW_L : Fld := ⟨0x200E0110, 0x0, 13, 3, fun _ => 0⟩
def AUX_PMP_STAT_FSW_H : Fld := ⟨0x200E0110, 0x0, 10, 3, fun _ => 0⟩
def AUX_PMP_STAT_LATCHED : Fld := ⟨0x200E0110, 0x0, 9, 1, fun _ => 0⟩
def AUX_PMP_STAT_CNT_OVF : Fld := ⟨0x200E0110, 0x0, 8, 1, fun _ => 0⟩
def AUX_PMP_STAT_FAULT_CNT : Fld := ⟨0x200E0110, 0x0, 0, 8, fun _ => 0⟩
/-- `AUX_PMP_SPEED` [14 R374]: speed -/
def AUX_PMP_SPEED_EPER : Fld := ⟨0x200E0114, 0x0, 0, 16, fun _ => 0xFFFF⟩
/-- `SYS_RST_CAUSE` [15 R396]: reset causes -/
def SYS_RST_CAUSE_LAST : Fld := ⟨0x20000010, 0x0, 8, 2, fun _ => 0⟩
def SYS_RST_CAUSE_WDT : Fld := ⟨0x20000010, 0x0, 3, 1, fun _ => 0⟩
def SYS_RST_CAUSE_SW : Fld := ⟨0x20000010, 0x0, 2, 1, fun _ => 0⟩
def SYS_RST_CAUSE_PIN : Fld := ⟨0x20000010, 0x0, 1, 1, fun _ => 0⟩
def SYS_RST_CAUSE_POR : Fld := ⟨0x20000010, 0x0, 0, 1, fun _ => 1⟩
/-- `SYS_RST_CTRL` [15 R396]: software reset -/
def SYS_RST_CTRL_KEY : Fld := ⟨0x20000014, 0x0, 24, 8, fun _ => 0⟩
def SYS_RST_CTRL_FORCE : Fld := ⟨0x20000014, 0x0, 1, 1, fun _ => 0⟩
def SYS_RST_CTRL_RST : Fld := ⟨0x20000014, 0x0, 0, 1, fun _ => 0⟩
/-- `SYS_BOOT_STAT` [15 R396]: boot state -/
def SYS_BOOT_STAT_STATE : Fld := ⟨0x20000020, 0x0, 28, 4, fun _ => 0⟩
def SYS_BOOT_STAT_SRC : Fld := ⟨0x20000020, 0x0, 26, 2, fun _ => 0⟩
def SYS_BOOT_STAT_DEBUG : Fld := ⟨0x20000020, 0x0, 25, 1, fun _ => 0⟩
def SYS_BOOT_STAT_SECURED : Fld := ⟨0x20000020, 0x0, 24, 1, fun _ => 0⟩
def SYS_BOOT_STAT_FAIL : Fld := ⟨0x20000020, 0x0, 16, 8, fun _ => 0⟩
def SYS_BOOT_STAT_SVN_FUSED : Fld := ⟨0x20000020, 0x0, 10, 6, fun _ => 0⟩
def SYS_BOOT_STAT_KEY_SLOT : Fld := ⟨0x20000020, 0x0, 8, 2, fun _ => 0⟩
/-- `SYS_WDT` [15 R396]: watchdog -/
def SYS_WDT_EN : Fld := ⟨0x20000030, 0x0, 31, 1, fun _ => 0⟩
def SYS_WDT_ACTION : Fld := ⟨0x20000030, 0x0, 16, 2, fun _ => 0⟩
def SYS_WDT_TIMEOUT : Fld := ⟨0x20000030, 0x0, 0, 16, fun _ => 0x3E8⟩
/-- `SYS_WDT_KICK` [15 R396]: watchdog restart -/
def SYS_WDT_KICK_KEY : Fld := ⟨0x20000034, 0x0, 0, 8, fun _ => 0⟩
/-- `SYS_FCLS_k` [15 R396]: fault class (R394) -/
def SYS_FCLS_k_LIMIT : Fld := ⟨0x20000100, 0x4, 24, 8, fun k => ([3, 1, 5, 3, 3, 1, 3, 3, 3, 3, 5] : List Nat).getD k 0⟩
def SYS_FCLS_k_WINDOW : Fld := ⟨0x20000100, 0x4, 0, 16, fun k => ([1000, 60000, 100, 1000, 100, 60000, 60000, 10000, 60000, 1000, 60000] : List Nat).getD k 0⟩
/-- `EVT_CAP` [15 R397]: capability word -/
def EVT_CAP_CAP_VER : Fld := ⟨0x200F0008, 0x0, 24, 8, fun _ => 1⟩
def EVT_CAP_EV_COUNT : Fld := ⟨0x200F0008, 0x0, 16, 8, fun _ => 128⟩
def EVT_CAP_OUT_COUNT : Fld := ⟨0x200F0008, 0x0, 12, 4, fun _ => 4⟩
/-- `EVT_PEND_k` [15 R397]: pending events -/
def EVT_PEND_k_PEND : Fld := ⟨0x200F0010, 0x4, 0, 32, fun _ => 0⟩
/-- `EVT_MASK_k` [15 R397]: host line mask -/
def EVT_MASK_k_MASK : Fld := ⟨0x200F0020, 0x4, 0, 32, fun _ => 0⟩
/-- `EVT_LOG_BASE` [15 R397]: log ring -/
def EVT_LOG_BASE_BASE : Fld := ⟨0x200F0040, 0x0, 4, 28, fun _ => 0x433000⟩
/-- `EVT_LOG_CFG` [15 R397]: log setup -/
def EVT_LOG_CFG_EN : Fld := ⟨0x200F0044, 0x0, 31, 1, fun _ => 0⟩
def EVT_LOG_CFG_SIZE : Fld := ⟨0x200F0044, 0x0, 24, 4, fun _ => 4⟩
def EVT_LOG_CFG_LOST_CNT : Fld := ⟨0x200F0044, 0x0, 16, 8, fun _ => 0⟩
def EVT_LOG_CFG_CNT_OVF : Fld := ⟨0x200F0044, 0x0, 15, 1, fun _ => 0⟩
/-- `EVT_LOG_PTR` [15 R397]: log pointers -/
def EVT_LOG_PTR_WPTR : Fld := ⟨0x200F0048, 0x0, 16, 16, fun _ => 0⟩
def EVT_LOG_PTR_RPTR : Fld := ⟨0x200F0048, 0x0, 0, 16, fun _ => 0⟩
/-- `EVT_OUT_n_CFG` [15 R397]: event output pin -/
def EVT_OUT_n_CFG_EN : Fld := ⟨0x200F0060, 0x4, 31, 1, fun _ => 0⟩
def EVT_OUT_n_CFG_MODE : Fld := ⟨0x200F0060, 0x4, 30, 1, fun _ => 0⟩
def EVT_OUT_n_CFG_LATE : Fld := ⟨0x200F0060, 0x4, 29, 1, fun _ => 0⟩
def EVT_OUT_n_CFG_OVF : Fld := ⟨0x200F0060, 0x4, 28, 1, fun _ => 0⟩
def EVT_OUT_n_CFG_WIDTH : Fld := ⟨0x200F0060, 0x4, 16, 8, fun _ => 10⟩
def EVT_OUT_n_CFG_DLY : Fld := ⟨0x200F0060, 0x4, 0, 16, fun _ => 0x3E8⟩
/-- `EVT_CFG_e` [15 R397]: event routing -/
def EVT_CFG_e_LOG : Fld := ⟨0x200F0400, 0x4, 31, 1, fun e => if 80 ≤ e ∧ e ≤ 87 then 1 else 0⟩
def EVT_CFG_e_OUT : Fld := ⟨0x200F0400, 0x4, 0, 4, fun _ => 0⟩
/-- `NET_CTX_s_0` [12 R304]: session context word 0 (R304) -/
def NET_CTX_s_0_EN : Fld := ⟨0x200B8000, 0x40, 0, 1, fun _ => 0⟩
def NET_CTX_s_0_PORT : Fld := ⟨0x200B8000, 0x40, 1, 1, fun _ => 0⟩
def NET_CTX_s_0_IPV6 : Fld := ⟨0x200B8000, 0x40, 2, 1, fun _ => 0⟩
def NET_CTX_s_0_CMD : Fld := ⟨0x200B8000, 0x40, 3, 1, fun _ => 0⟩
def NET_CTX_s_0_KEYMGMT : Fld := ⟨0x200B8000, 0x40, 4, 1, fun _ => 0⟩
def NET_CTX_s_0_VLAN : Fld := ⟨0x200B8000, 0x40, 5, 1, fun _ => 0⟩
def NET_CTX_s_0_DEST : Fld := ⟨0x200B8000, 0x40, 8, 8, fun _ => 0⟩
def NET_CTX_s_0_RING : Fld := ⟨0x200B8000, 0x40, 16, 8, fun _ => 0⟩
def NET_CTX_s_0_TXQ : Fld := ⟨0x200B8000, 0x40, 24, 3, fun _ => 0⟩
/-- `NET_CTX_s_1` [12 R304]: session context word 1 (R304) -/
def NET_CTX_s_1_TCI : Fld := ⟨0x200B8004, 0x40, 0, 16, fun _ => 0⟩
def NET_CTX_s_1_LPORT : Fld := ⟨0x200B8004, 0x40, 16, 16, fun _ => 0⟩
/-- `NET_CTX_s_2` [12 R304]: session context word 2 (R304) -/
def NET_CTX_s_2_RPORT : Fld := ⟨0x200B8008, 0x40, 0, 16, fun _ => 0⟩
def NET_CTX_s_2_RMAC01 : Fld := ⟨0x200B8008, 0x40, 16, 16, fun _ => 0⟩
/-- `NET_CTX_s_3` [12 R304]: session context word 3 (R304) -/
def NET_CTX_s_3_RMAC25 : Fld := ⟨0x200B800C, 0x40, 0, 32, fun _ => 0⟩
/-- `NET_CTX_s_4` [12 R304]: session context word 4 (R304) -/
def NET_CTX_s_4_RIP0 : Fld := ⟨0x200B8010, 0x40, 0, 32, fun _ => 0⟩
/-- `NET_CTX_s_5` [12 R304]: session context word 5 (R304) -/
def NET_CTX_s_5_RIP1 : Fld := ⟨0x200B8014, 0x40, 0, 32, fun _ => 0⟩
/-- `NET_CTX_s_6` [12 R304]: session context word 6 (R304) -/
def NET_CTX_s_6_RIP2 : Fld := ⟨0x200B8018, 0x40, 0, 32, fun _ => 0⟩
/-- `NET_CTX_s_7` [12 R304]: session context word 7 (R304) -/
def NET_CTX_s_7_RIP3 : Fld := ⟨0x200B801C, 0x40, 0, 32, fun _ => 0⟩
/-- `NET_CTX_s_8` [12 R304]: session context word 8 (R304) -/
def NET_CTX_s_8_LTAG : Fld := ⟨0x200B8020, 0x40, 0, 32, fun _ => 0⟩
/-- `NET_CTX_s_9` [12 R304]: session context word 9 (R304) -/
def NET_CTX_s_9_RTAG : Fld := ⟨0x200B8024, 0x40, 0, 32, fun _ => 0⟩
/-- `NET_CTX_s_10` [12 R304]: session context word 10 (R304) -/
def NET_CTX_s_10_KEY0 : Fld := ⟨0x200B8028, 0x40, 0, 8, fun _ => 0⟩
def NET_CTX_s_10_KEY1 : Fld := ⟨0x200B8028, 0x40, 8, 8, fun _ => 0⟩
def NET_CTX_s_10_TXPH : Fld := ⟨0x200B8028, 0x40, 16, 1, fun _ => 0⟩
/-- `NET_CTX_s_11` [12 R304]: session context word 11 (R304) -/
def NET_CTX_s_11_SALT : Fld := ⟨0x200B802C, 0x40, 0, 32, fun _ => 0⟩
/-- `NET_CTX_s_12` [12 R304]: session context word 12 (R304) -/
def NET_CTX_s_12_TXNUM_LO : Fld := ⟨0x200B8030, 0x40, 0, 32, fun _ => 0⟩
/-- `NET_CTX_s_13` [12 R304]: session context word 13 (R304) -/
def NET_CTX_s_13_TXNUM_HI : Fld := ⟨0x200B8034, 0x40, 0, 32, fun _ => 0⟩
/-- `NET_CTX_s_14` [12 R304]: session context word 14 (R304) -/
def NET_CTX_s_14_RXNUM_LO : Fld := ⟨0x200B8038, 0x40, 0, 32, fun _ => 0⟩
/-- `NET_CTX_s_15` [12 R304]: session context word 15 (R304) -/
def NET_CTX_s_15_RXNUM_HI : Fld := ⟨0x200B803C, 0x40, 0, 32, fun _ => 0⟩

end Sys2Proof.Machine
end

