-- ==== Sys2Proof/Machine/State.lean ====
section
/-! DEFINITION. The state of the machine as plain data, how a step can stop, and the state right after
reset. Every register field lies in the register file `Dev.regs`; the structures here hold what the
spec gives the machine beyond its registers. A field's docstring names the file and rule it comes from;
its default value is its value after power-on reset. -/
namespace Sys2Proof.Machine

/-- Faults. Commands of this block raise none: every effect the spec gives is a next state. -/
inductive Fault where
  /-- Raised by no command. It stands for a machine that stops, which the spec nowhere describes (safe). -/
  | stopped
  deriving DecidableEq, Repr

/-- Refusals. -/
inductive Refusal where
  /-- A command whose meaning is not written (safe). No arm of `exec` raises it. -/
  | notModelled (mnemonic : String)
  deriving DecidableEq, Repr

/-- The phases of an acquisition (R53, R54). -/
inductive AcqPhase where
  | waitRef              -- waiting until the reference is good
  | measLast (b : Nat)   -- step 1: measuring the band of CLK_PLL_STAT.BAND
  | scan (b : Nat)       -- step 2: measuring entry b
  | loop (b : Nat)       -- loop closed on band b
  deriving DecidableEq, Repr, Inhabited

/-- An acquisition in progress (R53, R54). -/
structure Acq where
  /-- [03 R53 R58] started by setting `EN`; otherwise by `AUTO_RELOCK` -/ byEn : Bool := true
  /-- [03 R53] phase of the acquisition -/ phase : AcqPhase := .waitRef
  /-- [03 R53] entries measured in this acquisition -/ measured : List Nat := []
  /-- [03 R54] bands marked as not qualifying for the rest of this acquisition -/ disq : List Nat := []
  deriving DecidableEq, Repr, Inhabited

/-- CLK: reference monitor, PLL, timebase and PTP time (03). -/
structure Clk where
  /-- [03 R61] timebase in ticks since power-on reset, not wrapped (the register shows it mod 2^48) -/ ticks : Nat := 0
  /-- [03 R61 R12] advances of the timebase (snapshot sequence of CLK_TB) -/ tbAdv : Nat := 0
  /-- [03 R65] PTP seconds, 48 bits -/ ptpSec : Nat := 0
  /-- [03 R63] PTP nanoseconds, 30 bits -/ ptpNs : Nat := 0
  /-- [03 R63] fraction of a nanosecond, 28 bits -/ ptpFrac : Nat := 0
  /-- [03 R48] reference edges arrive -/ refPresent : Bool := true
  /-- [03 R49] the missing-edge detector fired since the running frequency count (or the 1 ms wait) began -/ missFired : Bool := false
  /-- [03 R48] a reference-fault episode is open -/ episode : Bool := false
  /-- [03 R53] acquisition in progress -/ acq : Option Acq := none
  /-- [03 R65] timebase of Tallyman's last one-second strobe -/ lastStrobe : Nat := 0
  /-- [03 R67] the present capture has not been read -/ snapUnread : Bool := false
  /-- [03 R66] PTP nanoseconds carried into seconds at the present tick -/ carried : Bool := false
  /-- [03 R66] level of PTP_PPS, and PTP time in 2^-28 ns at its last rise -/ ppsHigh : Bool := false
  ppsRise : Nat := 0
  /-- [03 R64] nanoseconds to be added to PTP time at the next tick -/ ofs : Option Int := none
  /-- [03 R67] captures asked by SW: the tick from which each is due -/ snapAt : List Nat := []
  /-- [03 R68] armed triggers (bit n) whose target the step of the present tick carried PTP time past -/ stepped : Nat := 0
  deriving DecidableEq, Repr, Inhabited

/-- One sample mailbox beyond what its registers show (R17). -/
structure Mbox where
  /-- [01 R17] timebase of the producing instant -/ ts : Nat := 0
  /-- [01 R17] degraded flag of the timestamp -/ deg : Bool := false
  /-- [07 R145] writes since reset (WSMP counts them) -/ writes : Nat := 0
  deriving DecidableEq, Repr, Inhabited

/-- Which threshold asserted a comparator (R126). -/
inductive CmpSide where | none | high | low | held
  deriving DecidableEq, Repr, Inhabited

/-- Phases of a metering rotation step (R86). -/
inductive RotPhase where | parallel | offset | gain
  deriving DecidableEq, Repr, Inhabited

/-- A rotation step in progress (R86). -/
structure RotStep where
  ch : Nat := 0
  old : Nat := 0
  spare : Nat := 0
  phase : RotPhase := .parallel
  /-- samples converted since the step started -/ n : Nat := 0
  ofs : BitVec 16 := 0
  deriving DecidableEq, Repr, Inhabited

/-- One bitstream input's hidden state (04). -/
structure SdIn where
  /-- [04 R75] results still to carry INVALID -/ fillLeft : Nat := 0
  /-- [04 R76] results still to carry REALIGN -/ realignLeft : Nat := 0
  /-- [04 R76] timebase of the next decimation instant -/ nextDec : Nat := 0
  /-- [04 R74] mailbox of the control filter -/ cf : Mbox := {}
  /-- [04 R71] timebase of occurrences of the modulator-input fault class -/ occ : List Nat := []
  deriving DecidableEq, Repr, Inhabited

/-- One metering channel's hidden state (04). -/
structure MtrCh where
  /-- [04 R83] present gain index of the ranging path -/ gain : Nat := 0
  /-- [04 R83] consecutive samples within 20 % -/ low : Nat := 0
  /-- [04 R83] samples still to be taken from the x1 path -/ x1Left : Nat := 0
  /-- [04 R86] converter serving the channel -/ conv : Nat := 0
  /-- [04 R86] the next sample is the first from a new converter -/ handover : Bool := false
  /-- [04 R84] the last sample carried OVL -/ ovl : Bool := false
  /-- [04 R81] mailbox -/ mb : Mbox := {}
  /-- [08 R173] the values last delivered, newest first, at most 160 -/ hist : List Int := []
  deriving DecidableEq, Repr, Inhabited

/-- One metering sample taken and not yet delivered (R81). -/
structure MtrSample where
  k : Nat := 0
  ch : Nat := 0
  val : Int := 0
  gain : Nat := 0
  x1 : Bool := false
  ovl : Bool := false
  handover : Bool := false
  conv : Nat := 0
  deg : Bool := false
  /-- Tallyman reads it before the next one replaces it -/ read : Bool := true
  deriving DecidableEq, Repr, Inhabited

/-- One auxiliary input as the scan that has started last takes it (R88). -/
structure AuxCh where
  /-- it has a slot in the scan -/ slot : Bool := false
  owEn : Bool := false
  settle : Nat := 125
  deriving DecidableEq, Repr, Inhabited

/-- SNS hidden state (04). -/
structure Sns where
  /-- [04 R69] timebase of a rising edge of each `SDCK_k` that runs: the others follow in whole bit clocks -/ sdck : Vector Nat 4 := Vector.replicate 4 0
  /-- [04 R70] bitstream inputs -/ sd : Vector SdIn 24 := Vector.replicate 24 {}
  /-- [04 R126] threshold that asserted each comparator -/ cmpSide : Vector CmpSide 16 := Vector.replicate 16 .none
  /-- [04 R81] metering channels -/ mtr : Vector MtrCh 8 := Vector.ofFn fun i => { conv := i.val }
  /-- [04 R81] samples taken and not yet delivered -/ inFlight : List MtrSample := []
  /-- [04 R86] rotation step in progress -/ rot : Option RotStep := none
  /-- [04 R86] logical channel of the last rotation step -/ rotLast : Nat := 7
  /-- [04 R86] converters withdrawn from rotation -/ withdrawn : List Nat := []
  /-- [04 R86] occurrences of the metering-calibration fault class, per converter -/ calOcc : Vector (List Nat) 8 := Vector.replicate 8 []
  /-- [04 R81 R86] corrections stored for each converter by its latest passing calibration -/ cor : Vector (Option ConvCal) 8 := Vector.replicate 8 none
  /-- [15 R388] start-up calibration of the metering converters done -/ mtrCalDone : Bool := false
  /-- [04 R88] a scan is running -/ scanning : Bool := false
  /-- [04 R88] channels of the running scan still to convert -/ scanLeft : List Nat := []
  /-- [04 R88] the running scan outlasts `SCAN_PER` -/ scanLong : Bool := false
  /-- [04 R90] scans since each open-wire test fell due -/ owScans : Nat := 0
  /-- [04 R88] settings in effect since the last scan start: `EN`, `OW_EVERY`, `ST_PER`, the inputs -/ auxEn : Bool := false
  owEvery : Nat := 10
  stEvery : Nat := 60
  auxCh : Vector AuxCh 16 := Vector.replicate 16 {}
  /-- [04 R88] timebase of the next scan start -/ scanNext : Nat := 0
  /-- [04 R88 R92] timebase from which the converter has been free for the slot, or the test, that it now runs -/ auxFrom : Nat := 0
  /-- [04 R90] open-wire conversions that have fallen due, ascending -/ owDue : List Nat := []
  /-- [04 R94] open-wire conversions that test 3 of `SNS_TEST` has requested, ascending -/ owReq : List Nat := []
  /-- [04 R92] a self-test has fallen due by its period (one requested is `SNS_AUX_TEST.REQ`) -/ stPer : Bool := false
  /-- [04 R92] self-test conversions already run -/ stDone : Nat := 0
  /-- [04 R92] one of them was out of tolerance -/ stBad : Bool := false
  /-- [04 R91] reference in effect at the last scan -/ refExt : Bool := false
  /-- [04 R91] the running scan is the first after a change of reference -/ refChanged : Bool := false
  /-- [04 R89] auxiliary mailboxes -/ aux : Vector Mbox 16 := Vector.replicate 16 {}
  deriving DecidableEq, Repr, Inhabited

/-- A pair of compare values (uQ20.6 codes, R98) aimed at a load point (R112). -/
structure CmpPair where
  a : Nat := 0
  b : Nat := 0
  /-- [05 R112] LP_SEQ of the load point it is meant for -/ seq : Nat := 0
  /-- [07 R152] the slot that wrote it -/ slot : Nat := 0
  deriving DecidableEq, Repr, Inhabited

/-- How the present period was handled as a short period (R108, R113). -/
inductive Drop where | none | shortHigh | shortLow
  deriving DecidableEq, Repr, Inhabited

/-- One leg period as set up at its carrier start (R98 to R113). Widths and instants are in 1/64 tick,
instants from the leg's carrier start. -/
structure Cyc where
  /-- [05 R97] length of the period -/ full : Nat := 0
  /-- [05 R96] carrier centre of an up-down period; 0 in up mode -/ base : Nat := 0
  /-- [05 R96] up-down mode -/ ud : Bool := false
  /-- [05 R96] 1/64 ticks in one count of compare: P -/ p : Nat := 1
  /-- [05 R98] the period count as a compare value -/ cap : Nat := 0
  /-- [05 R107] dither index of the period -/ k : Nat := 0
  /-- [05 R109] carry that entered the period -/ cin : Int := 0
  /-- [05 R98] width before the centre that `CMPA` asked for -/ ha : Nat := 0
  /-- [05 R109] width before the centre after the carry -/ ha2 : Int := 0
  /-- [05 R108] dropped -/ drop : Drop := .none
  /-- [05 R99] r keeps one level through the period -/ const : Option Bool := some false
  /-- [05 R113] rising instant asked for -/ riseN : Nat := 0
  /-- [05 R104 R107] rising instant as placed -/ riseQ : Nat := 0
  /-- [05 R104 R107] falling instant as placed -/ fallQ : Nat := 0
  deriving DecidableEq, Repr, Inhabited

/-- One leg's hidden state (05). -/
structure Leg where
  /-- [05 R115] started and waiting for its first carrier start -/ starting : Bool := false
  /-- [05 R98 R111] active compare A -/ cmpA : Nat := 0
  /-- [05 R98 R111] active compare B -/ cmpB : Nat := 0
  /-- [05 R111] timebase of the last write of the shadow, or of the last clear of its bit of `PWM_SHLOCK` -/ shAt : Nat := 0
  /-- [05 R112] tentative pair not yet committed -/ tent : Option CmpPair := none
  /-- [05 R112] committed pair waiting for its load point -/ comm : Option CmpPair := none
  /-- [05 R18] the cutoff of the next load point has passed -/ cutoff : Bool := false
  /-- [07 R154] slots, with the number of their execution, that expect the next load point -/ expected : List (Nat × Nat) := []
  /-- [07 R154] `LP_SEQ` of the last load point that passed without the token it expected -/ missSeq : Option Nat := none
  /-- [05 R115] the last committed pair -/ lastA : Nat := 0
  lastB : Nat := 0
  /-- [05 R97] timebase of the present period's carrier start, and its carrier centre is still to come -/ at_ : Nat := 0
  mid : Bool := false
  /-- [05 R98] level of the reference r -/ r : Bool := false
  /-- [05 R98] rising edge of r still to come in this period -/ rise : Bool := false
  /-- [05 R98] falling edge of r still to come in this period -/ fall : Bool := false
  /-- [05 R98] the present period -/ cyc : Cyc := {}
  /-- [05 R114] dead times, minimum pulse and its mode in effect -/ dtH : Nat := 400
  dtL : Nat := 400
  minp : Nat := 80
  stretch : Bool := false
  /-- [05 R107] dither index of the next period -/ k : Nat := 0
  /-- [05 R105 R106] trim and coarse placement in effect -/ trim : Nat := 0x80
  coarse : Bool := false
  /-- [05 R117] force codes in effect -/ fH : Nat := 0
  fL : Nat := 0
  /-- [05 R117] Tf of a change of FGRP that has not taken effect -/ fPend : Option Nat := none
  /-- [05 R100] switch commands after the interlock -/ cH : Bool := false
  cL : Bool := false
  /-- [05 R102] an interlock episode is open -/ ilk : Bool := false
  /-- [05 R101] turn-ons being delayed by dead time -/ onH : Bool := false
  onL : Bool := false
  /-- [02 R35] levels of LEG_n_H and LEG_n_L before the supply clamps -/ outH : Bool := false
  outL : Bool := false
  /-- [05 R101] instants, in 1/64 ticks of timebase, at which each output last fell, and last rose -/ fellH : Nat := 0
  fellL : Nat := 0
  roseH : Nat := 0
  roseL : Nat := 0
  /-- [05 R121] stop at the next carrier start (loss of alignment) -/ stopAtStart : Bool := false
  deriving DecidableEq, Repr, Inhabited

/-- One carrier group's hidden state (05). -/
structure CGrp where
  /-- [05 R96] the group's first carrier start since `RUN` has come -/ on : Bool := false
  /-- [05 R96] timebase of the group's present carrier start -/ start : Nat := 0
  /-- [05 R97] period count in effect -/ per : Nat := 20000
  /-- [05 R96 R120] timebase of the group's next carrier start, moved by the corrections of R120 -/ next : Nat := 0
  /-- [05 R120] consecutive carrier starts with the offset within 2 ns -/ okRun : Nat := 0
  /-- [05 R121] carrier starts since the last marker -/ noMark : Nat := 0
  /-- [12 R315] count of the group's next marker, modulo 8 -/ mark : Nat := 0
  deriving DecidableEq, Repr, Inhabited

/-- PWM hidden state (05). -/
structure Pwm where
  /-- [05 R97] legs -/ leg : Vector Leg 24 := Vector.replicate 24 {}
  /-- [05 R96] carrier groups -/ cg : Vector CGrp 8 := Vector.replicate 8 {}
  /-- [05 R117] Tf of each pending force write -/ forceTf : Vector (Option Nat) 8 := Vector.replicate 8 none
  /-- [05 R117] codes of each force group in effect: high and low switch -/ forceEff : Vector (Nat × Nat) 8 := Vector.replicate 8 (0, 0)
  /-- [05 R106] occurrences of the delay-line fault class -/ dlOcc : List Nat := []
  /-- [05 R121] occurrences of the carrier-alignment fault class -/ alOcc : List Nat := []
  deriving DecidableEq, Repr, Inhabited

/-- A per-switch reaction in progress (R128). -/
structure React where
  /-- switch named: low -/ low : Bool := false
  /-- both switches have been named -/ both : Bool := false
  /-- timebase at which the leg takes its safe state -/ until_ : Nat := 0
  deriving DecidableEq, Repr, Inhabited

/-- One leg's trip state beyond TRP_LEG_n_STAT (06). -/
structure TLeg where
  /-- [05 R103] the trip logic imposes the overlay: no output can rise or follow a command -/ overlay : Bool := false
  /-- [06 R128] reaction in progress -/ react : Option React := none
  /-- [06 R133] timebase at which the last active source of the leg became inactive -/ inactiveAt : Nat := 0
  /-- [06 R134] an accepted clear waits for the carrier start -/ clearing : Bool := false
  /-- [06 R132] timebase of counted occurrences -/ occ : List Nat := []
  /-- [06 R130] timebase of the last entry by a TRIP or CMP source -/ entry : Option Nat := none
  deriving DecidableEq, Repr, Inhabited

/-- TRP hidden state (06). -/
structure Trp where
  /-- [06 R128] legs -/ leg : Vector TLeg 24 := Vector.replicate 24 {}
  /-- [06 R127] inputs being blanked, with the timebase at which their blanking ends -/ blank : List (Nat × Nat) := []
  /-- [06 R130] groups whose all-off waits for members still reacting, with the legs that were reacting -/ offWait : List (Nat × List Nat) := []
  /-- [06 R131] the bank-trip episode is open -/ bankEp : Bool := false
  deriving DecidableEq, Repr, Inhabited

/-- An accumulator: a x 2^(EA - 46), or empty (R142). -/
structure Accu where
  empty : Bool := true
  a : Int := 0
  ea : Int := 0
  deriving DecidableEq, Repr, Inhabited

/-- What a suspended slot waits for (R145 WSMP): kind, index, mailbox writes since the start still needed. -/
structure Wait where
  kind : Nat := 0
  idx : Nat := 0
  count : Nat := 0
  deriving DecidableEq, Repr, Inhabited

/-- One loop slot's hardware context (07). -/
structure Slot where
  /-- [07 R149] an execution is in progress (ready, running or suspended) -/ active : Bool := false
  /-- [07 R140] program counter -/ pc : Nat := 0
  /-- [07 R140] bases taken at the start -/ cb : Nat := 0
  sb : Nat := 0
  /-- [07 R142] accumulators A0..A3 -/ acc : Vector Accu 4 := Vector.replicate 4 {}
  /-- [07 R141] registers X0..X7 -/ x : Vector (BitVec 32) 8 := Vector.replicate 8 0
  /-- [07 R145] flags -/ fT : Bool := false
  fL : Bool := false
  fINV : Bool := false
  fN : Bool := false
  fSAT : Bool := false
  /-- [07 R147] repetitions left of the next instruction, and the repeat's increments and step so far -/ repLeft : Option Nat := none
  repCI : Nat := 0
  repSI : Nat := 0
  repI : Nat := 0
  /-- [07 R152] the store buffer as it stood at SPEC, while the window is open -/ spec : Option (List (Nat × BitVec 32)) := none
  /-- [07 R150] store buffer: state word and value, oldest first -/ buf : List (Nat × BitVec 32) := []
  /-- [07 R145] mailbox writes of each source since the start: value of the mailbox's count at the start -/ startTick : Nat := 0
  startWrites : List (Nat × Nat × Nat) := []
  /-- [07 R145] what the slot waits for while suspended -/ wait : Option Wait := none
  /-- [07 R149] when it became ready: timebase, and the order of those that the fabric made ready within the tick (0: at the tick itself) -/ readyAt : Nat := 0
  readyN : Nat := 0
  /-- [07 R170] steps of this execution -/ steps : Nat := 0
  /-- [07 R154] number of the execution, and whether it, and the one before it, have counted a miss -/ exec : Nat := 0
  missed : Bool := false
  missedOld : Bool := false
  /-- [07 R148] timebase from which the TRG_TYPE 010 periods count -/ trgOrigin : Nat := 0
  /-- [07 R161] pending back-calculation correction, in units of 2^-110 -/ corr : Option Int := none
  /-- [07 R161] a word of the correction lies beyond a memory, or cannot be read: the cause of the fault due at the next start -/ corrBad : Nat := 0
  /-- [07 R159] ceilings of the groups as they stood at the start -/ ceil : List Nat := []
  /-- [07 R155] timebase of counted misses -/ occ : List Nat := []
  deriving DecidableEq, Repr, Inhabited

/-- One lane (07). -/
structure Lane where
  /-- [07 R149] slot that has the lane -/ cur : Option Nat := none
  /-- [07 R162] self-test pending on this lane -/ testPend : Bool := false
  /-- [07 R162] slot context borrowed by a running self-test -/ testSlot : Option Nat := none
  /-- [07 R162] a self-test has passed since the latch -/ passedSince : Bool := false
  /-- [07 R170] steps since the last whole ms of timebase -/ steps : Nat := 0
  /-- [07 R170 01 R423] steps of the millisecond that ended at the present tick, shown after the tick's accesses -/ loadNew : Option Nat := none
  /-- [07 R162] occurrences of the self-test fault class -/ occ : List Nat := []
  deriving DecidableEq, Repr, Inhabited

/-- One competing-loop group beyond its registers (07). -/
structure LGrp where
  /-- [07 R158] candidate of each member -/ cand : Vector (Option (BitVec 32)) 8 := Vector.replicate 8 none
  /-- [07 R160] members holding candidates at the previous resolving GSEL -/ prev : List Nat := []
  /-- [07 R160] ramp: start tm and d as the two words -/ ramp : Option (Nat × BitVec 32 × BitVec 32) := none
  /-- [07 R159] a winner has been recorded -/ won : Bool := false
  deriving DecidableEq, Repr, Inhabited

/-- One Scrivener channel beyond its registers (07). -/
structure TrcCh where
  /-- [07 R139] on-chip buffer: record index and record, 64 bits -/ buf : List (Nat × BitVec 64) := []
  /-- [07 R166] recording -/ running : Bool := false
  /-- [07 R166] records still to take after the trigger -/ postLeft : Option Nat := none
  /-- [07 R167] records waiting in the on-chip buffer in stream mode, oldest first -/ fifo : List (BitVec 64) := []
  /-- [07 R165] records lost since the last gap record -/ lost : Nat := 0
  /-- [07 R165] slots and legs with a speculative value recorded since the last outcome record -/ specSlots : List Nat := []
  specLegs : List Nat := []
  deriving DecidableEq, Repr, Inhabited

/-- A commit token under way (R152): its slot and the number of the execution that sent it, and, for each named leg, the LP_SEQ of the load point aimed at and the
tentative pair it commits. -/
structure Token where
  slot : Nat := 0
  exec : Nat := 0
  legs : List (Nat × Nat × Option CmpPair) := []
  deriving DecidableEq, Repr, Inhabited

/-- CEN hidden state (07). -/
structure Cen where
  /-- [07 R139] instruction memory, 16,384 words -/ imem : List (Nat × BitVec 32) := []
  /-- [07 R139] coefficient memory, 8,192 words -/ cmem : List (Nat × BitVec 32) := []
  /-- [07 R139] state memory, 32,768 words -/ smem : List (Nat × BitVec 32) := []
  /-- [15 R380] the loss of contents that the words not listed have met since power-on -/ lostAt : Option Nat := none
  /-- [07 R163] words holding an uncorrectable error: region and word -/ ue : List (Nat × Nat) := []
  /-- [07 R163] words holding a single-bit error: region and word -/ ce : List (Nat × Nat) := []
  /-- [07 R148] slots -/ slot : Vector Slot 64 := Vector.replicate 64 {}
  /-- [07 R149] lanes -/ lane : Vector Lane 4 := Vector.replicate 4 {}
  /-- [07 R149] triggers that have come from within the fabric -/ stamp : Nat := 0
  /-- [07 R158] groups -/ grp : Vector LGrp 16 := Vector.replicate 16 {}
  /-- [07 R165] Scrivener channels -/ trc : Vector TrcCh 4 := Vector.replicate 4 {}
  /-- [07 R145] CEN_EVCODE holds an unread code -/ evUnread : Bool := false
  /-- [07 R112 R152] commit tokens under way to the load-point logic, oldest first -/ tokens : List Token := []
  deriving DecidableEq, Repr, Inhabited

/-- One trip stage (08). -/
structure Stage where
  /-- [08 R185] timebase of the pickup sample -/ pick : Option Nat := none
  /-- [08 R185] operating -/ oper : Bool := false
  deriving DecidableEq, Repr, Inhabited

/-- One cooperative peer (08). -/
structure Peer where
  /-- [08 R193] timebase of the arrival of the last valid record -/ last : Nat := 0
  /-- [08 R194] baseline, in 2^-32 turns, in units of 2^-16 -/ base : Option Int := none
  /-- [08 R194] consecutive records beyond ANG_TH -/ run : Nat := 0
  deriving DecidableEq, Repr, Inhabited

/-- A local phasor record of R193: its instant, and what the comparison with a peer's needs. -/
structure CoopRec where
  sec : Nat := 0
  ns : Nat := 0
  /-- [08 R193] TIME_VALID, degraded -/ valid : Bool := false
  deg : Bool := false
  theta : Nat := 0
  deriving DecidableEq, Repr, Inhabited

/-- One probe chip (08): mean negative-sequence phasors in 2^-30 pu, and whether all of it lay in a running state other
than `CEASED`. -/
structure Chip where
  vRe : Int := 0
  vIm : Int := 0
  iRe : Int := 0
  iIm : Int := 0
  ok : Bool := false
  deriving DecidableEq, Repr, Inhabited

/-- GRD hidden state (08). -/
structure Grd where
  /-- [08 R176] sample number k of the last sample -/ k : Nat := 0
  /-- [08 R197] timebase and degraded flag of the last sample -/ ts : Nat := 0
  deg : Bool := false
  /-- [08 R178 11 R256] the grid contactors as the safety supervisor reports them: 0 neither way, 1 verified open, 2 verified closed -/ rep : Nat := 0
  /-- [08 R180] island groups were set at the decision -/ islSet : Bool := false
  /-- [08 R179 R183] GRD demands the contactors open, or closed -/ demOpen : Bool := false
  demClose : Bool := false
  /-- [08 R180 R183] timebase of the demand in force -/ demAt : Nat := 0
  /-- [08 R183] the state to return to from CLOSING -/ retState : Nat := 1
  /-- [08 R183] reconnection asked by GRD_RECONNECT -/ rcAsked : Bool := false
  /-- [08 R183] timebase of the last verified-open report -/ openAt : Nat := 0
  /-- [08 R183] timebase at which the windows last counted as not met -/ unmetAt : Nat := 0
  /-- [08 R183] enter-service ramp: timebase of its start -/ ramp : Option Nat := none
  /-- [08 R175] consecutive OVL samples of each voltage channel; consecutive unlocked samples at or above 0.5 pu; consecutive good samples -/ ovlRun : Vector Nat 3 := Vector.replicate 3 0
  unlockRun : Nat := 0
  goodRun : Nat := 0
  /-- [08 R173] consecutive samples with the angle error within 5 degrees -/ trkRun : Nat := 0
  /-- [08 R173] state of the tracker's loop, and its frequency in µHz at the last samples, newest first, at most 160 -/ trk : Nat := 0
  trkHz : List Nat := []
  /-- [08 R173] FREQ in µHz of the last samples, newest first, at most 8,001 -/ freqs : List Nat := []
  /-- [08 R190] angle of the last samples, newest first, at most 161 -/ angs : List Nat := []
  /-- [08 R185] stages -/ stg : Vector Stage 16 := Vector.replicate 16 {}
  /-- [08 R188] timebase of entry to CEASED while the backstop times -/ ceaseAt : Option Nat := none
  /-- [08 R189] VPOS of the samples of the last 60 s spent in NORMAL, newest first, at most 480,000 -/ vrefs : List Nat := []
  /-- [08 R190] timebase of the first of the samples at which |ROCOF| has exceeded ROC_TH without a break -/ rocSince : Option Nat := none
  /-- [08 R190] timebase of the latest suspect indication -/ suspAt : Nat := 0
  /-- [08 R191] samples since EN -/ chipN : Nat := 0
  /-- [08 R191] the present chip has lain in a running state other than CEASED so far -/ chipOk : Bool := true
  /-- [08 R191] sums of the negative-sequence phasors of voltage and current over the present chip -/ chipV : Int × Int := (0, 0)
  chipI : Int × Int := (0, 0)
  /-- [08 R191] completed chips, newest first, at most 16 -/ chips : List Chip := []
  /-- [08 R191] consecutive valid estimates above ZTH -/ confRun : Nat := 0
  /-- [08 R192] samples for which the estimate has been invalid while the legs run -/ invN : Nat := 0
  /-- [08 R194] a cooperative indication held at the last sample -/ coopInd : Bool := false
  /-- [08 R193] an island has been declared and the contactors have not closed since -/ declared : Bool := false
  /-- [08 R193] peers -/ peer : Vector Peer 8 := Vector.replicate 8 {}
  /-- [08 R193] record sequence number and the local records of recent instants, newest first -/ coopSeq : Nat := 0
  localRec : List CoopRec := []
  /-- [08 R184] occurrences of the grid-disconnection class -/ occ : List Nat := []
  /-- [08 R177] follower: timebase of the last publication, and whether the loss that followed has been handled -/ pubAt : Nat := 0
  pubLost : Bool := false
  /-- [08 R177] the leader's state code as a follower last received it -/ leadState : Nat := 0
  /-- [08 R176] words 1 to 6 last measured -/ meas : List (BitVec 32) := []
  /-- [08 R189] reactive demand and active ceiling, in 2^-26 and 2^-46 pu -/ demand : Int := 0
  ceil : Nat := 0
  /-- [08 R191] probe amplitude, signed, uQ2.14 -/ probe : Int := 0
  /-- [08 R173] VMAX summed over the present 3 s interval, its samples, the timebase of its start -/ v3sum : Nat := 0
  v3n : Nat := 0
  v3At : Nat := 0
  /-- [08 R173] means of VMAX (in 2^-22 pu) over the intervals of 3 s, newest first, at most 200 -/ v10 : List Nat := []
  deriving DecidableEq, Repr, Inhabited

/-- A burst that has been requested and not ended (R208). -/
structure Burst where
  /-- [09 R208] its sink, power and duration -/ req : Nat := 0
  dp : Nat := 0
  t : Nat := 0
  /-- [09 R208] granted so far, increments, q0 -/ granted : Nat := 0
  incs : Nat := 0
  q0 : Option Nat := none
  /-- [09 R208] timebase of the last increment -/ lastInc : Nat := 0
  /-- [09 R218] the command owed the reply; none for Lamplighter's own -/ cmd : Option (Path × Nat) := none
  deriving DecidableEq, Repr, Inhabited

/-- One requester beyond its registers (09). -/
structure Req where
  /-- [09 R203] latest request, 0.1 kW -/ req : Nat := 0
  /-- [09 R203] timebase of the last WREQ -/ reqAt : Option Nat := none
  /-- [09 R203] stale at the last cutoff -/ stale : Bool := false
  /-- [09 R206] results of the arbitration waiting for the boundary: stale at its cutoff, capped, request, grant, ceiling, and the `SCALE` in
  effect at its cutoff -/ late : Bool := false
  capped : Bool := false
  shown : Nat := 0
  grant : Nat := 0
  ceil : Nat := 0
  scale : Nat := 0x40000001
  deriving DecidableEq, Repr, Inhabited

/-- WGH hidden state (09). -/
structure Wgh where
  /-- [09 R203] requesters -/ req : Vector Req 32 := Vector.replicate 32 {}
  /-- [09 R208] running burst -/ burst : Option Burst := none
  /-- [09 R209] reservations after bursts: sink, reserved request, timebase of the end -/ reserve : List (Nat × Nat × Nat) := []
  /-- [09 R206] an arbitration waits for its boundary, and whether a pair was not in effect -/ arb : Bool := false
  pairBad : Bool := false
  /-- [09 R218] `WGH_SUPPLY` and `WGH_BURST_STAT` as they stood when that arbitration began -/ before : Nat × Nat := (0, 0)
  /-- [09 R211] groups owed the largest ceiling at the next boundary (bit g) -/ release : Option Nat := none
  /-- [09 R210] ceilings received for the next boundary: requester and ceiling; parts seen and parts sent -/ rx : List (Nat × Nat) := []
  rxParts : List Nat := []
  rxOf : Nat := 1
  /-- [09 R210] consecutive boundaries without a complete set, at most 3 -/ rxMiss : Nat := 0
  /-- [13 R336] increments granted to Lamplighter's present burst, whether it has ended, whether any part was refused -/ lmpGranted : Nat := 0
  lmpDone : Bool := true
  lmpRefused : Bool := false
  deriving DecidableEq, Repr, Inhabited

/-- One thermal sensor slot (09). -/
structure TSns where
  /-- [09 R213] consecutive valid readings -/ okRun : Nat := 0
  /-- [09 R213] last reading invalid -/ bad : Bool := false
  /-- [09 R213] occurrences of the thermal-sensor class -/ occ : List Nat := []
  deriving DecidableEq, Repr, Inhabited

/-- THM hidden state (09). -/
structure Thm where
  sns : Vector TSns 16 := Vector.replicate 16 {}
  /-- [09 R221] `THM_ZONE_z_CFG` and `THM_ZONE_z_LIM` as they stood at the last reading -/ cfg : Vector (Nat × Nat) 8 := Vector.replicate 8 (0x00324000, 0x1EA99F90)
  /-- [09 R215] timebase at which each zone's grace time started -/ grace : Vector (Option Nat) 8 := Vector.replicate 8 none
  deriving DecidableEq, Repr, Inhabited

/-- One total (10). -/
structure Tot where
  /-- [10 R229] integer part, 50 bits, in mWh or mvarh -/ val : Nat := 0
  /-- [10 R229] residue in 2^-32 units -/ res : Nat := 0
  /-- [10 R229] wrap count, modulo 256 -/ wrap : Nat := 0
  deriving DecidableEq, Repr, Inhabited

/-- TAL hidden state (10). The ledger itself is `Dev.mram`. -/
structure Tal where
  /-- [10 R227] the 24 totals -/ tot : Vector Tot 24 := Vector.replicate 24 {}
  /-- [10 R231] integer parts at the start of the open interval -/ start : Vector Nat 24 := Vector.replicate 24 0
  /-- [10 R231] PTP second and timebase at its start, strobes since -/ startSec : Nat := 0
  startTb : Nat := 0
  strobes : Nat := 0
  /-- [10 R233] metered-until instant: timebase, and clock count -/ untilTb : Nat := 0
  untilRtc : Nat := 0
  /-- [10 R230] number of the oldest sample set neither booked nor missing, and of later sets already booked -/ expect : Nat := 0
  got : List Nat := []
  /-- [10 R225] sample sets delivered while metering (snapshot sequence, R245) -/ sets : Nat := 0
  /-- [10 R230] `EV_79` has been raised for the open interval -/ marked : Bool := false
  /-- [10 R230] mailbox sequence last read of each metering channel -/ seqs : Vector (Option Nat) 8 := Vector.replicate 8 none
  /-- [10 R224] currents of the last sets of each phase, in 2^-77 A, newest first, at most 8 -/ cur : Vector (List Int) 3 := Vector.replicate 3 []
  /-- [10 R225] the DC-blocked integrator of each phase voltage, in 2^-77 V times sets -/ integ : Vector Int 3 := Vector.replicate 3 0
  /-- [10 R225] VA of the last set; instants of its last rises through zero, in 2^-16 sets, newest first, at most two -/ lastVa : Option Int := none
  rises : List Nat := []
  /-- [10 R226] squared currents of the last sets of each phase, in 2^-154 A², newest first, at most 160 -/ sq : Vector (List Nat) 3 := Vector.replicate 3 []
  /-- [10 R245] sums over the present second: sets, squared voltages and currents (A, B, C, N), powers in 2^-184 W and var -/ liveN : Nat := 0
  sumV : Vector Nat 3 := Vector.replicate 3 0
  sumI : Vector Nat 4 := Vector.replicate 4 0
  sumP : Vector Int 3 := Vector.replicate 3 0
  sumQ : Vector Int 3 := Vector.replicate 3 0
  /-- [10 R236] the last save failed -/ saveBad : Bool := false
  /-- [10 R237] a flush of the present power-fail episode has been made; timebase of the last one -/ flushed : Bool := false
  flushAt : Nat := 0
  /-- [10 R238] `EN` has been set since reset -/ wasOn : Bool := false
  /-- [10 R240] sequence of the newest configuration copy -/ cfgSeq : Nat := 0
  /-- [10 R243] nonce of the last challenge, and the timebase of the challenge -/ nonce : Option (List Byte) := none
  nonceAt : Nat := 0
  /-- [10 R236] occurrences of the ledger-write fault class -/ occ : List Nat := []
  deriving DecidableEq, Repr, Inhabited

/-- One safety function (11). Channel A is 0, channel B is 1. -/
structure SFn where
  /-- [11 R278] 0 safe, 1 closing, 2 energised, 3 opening -/ st : Nat := 0
  /-- [11 R257] step of the connection check: 1 weld test, 2 first output driven, 3 waiting for the exchange (DC), 4 second output driven, 5 closed, not yet verified -/ phase : Nat := 0
  /-- [11 R262] the restart has been acknowledged -/ acked : Bool := false
  /-- [11 R255] first failing condition, and the timebase at which it was recorded -/ cause : Nat := 255
  causeAt : Option Nat := none
  /-- [11 R257] timebase at which the DC check began to wait for channel A's readback -/ stepAt : Nat := 0
  /-- [11 R260] mirrors that have been read since reset (bit 0 A, bit 1 B) -/ seen : Nat := 0
  /-- [11 R271] relay faults that have occurred since the function was last verified open, by the bit of their flag in `SAF_RLY_STAT` -/ bad : Nat := 0
  /-- [11 R259] channels whose output an off-pulse holds low (bit 0 A, bit 1 B), and the timebase until which feedback is ignored -/ pulse : Nat := 0
  quiet : Nat := 0
  /-- [11 R256] verified open, verified closed -/ openV : Bool := false
  closedV : Bool := false
  /-- [11 R249] a fault of class 2 has latched; occurrences -/ latch : Bool := false
  occ : List Nat := []
  deriving DecidableEq, Repr, Inhabited

/-- One safety input (11). -/
structure SIn where
  /-- [11 R251] the demand pattern has been shown since the fault -/ seenDem : Bool := false
  /-- [11 R254] timebase since which the permit pattern has been shown; how long it had been when a disagreement followed -/ permitAt : Option Nat := none
  held : Option Nat := none
  /-- [11 R249] a fault of class 1 has latched; occurrences -/ latch : Bool := false
  occ : List Nat := []
  deriving DecidableEq, Repr, Inhabited

/-- One PDU connection (11). -/
structure SConn where
  /-- [11 R265] last accepted sequence on each path -/ last1 : Option Nat := none
  last2 : Option Nat := none
  /-- [11 R266] accepted copies, newest first, at most 32: path, sequence, bytes 0 to 15 -/ copies : List (Nat × Nat × List Byte) := []
  /-- [11 R267] sequence of the newest accepted copy, and the flags that act: of two copies of one sequence the demand (R273) -/ newest : Option Nat := none
  acts : Nat := 0
  /-- [11 R266] two copies of one sequence have differed, and no later pair has agreed -/ mism : Bool := false
  /-- [11 R268] next sequence sent -/ txSeq : Nat := 0
  /-- [11 R249] a fault of class 3 has latched; occurrences -/ latch : Bool := false
  occ : List Nat := []
  deriving DecidableEq, Repr, Inhabited

/-- An unlock request being verified (11). -/
structure Unlock where
  /-- [11 R271] `OP`, `FMASK`, the record as copied, the signature -/ op : Nat := 0
  fmask : Nat := 0
  record : List Byte := []
  sig : List Byte := []
  /-- [11 R276] the command owed the reply -/ cmd : Option (Path × Nat) := none
  deriving DecidableEq, Repr, Inhabited

/-- SAF hidden state (11). -/
structure Saf where
  /-- [11 R246 R270] the non-volatile store of each channel: the 784-byte record, or empty -/ storeA : List Byte := []
  storeB : List Byte := []
  /-- [11 R255] relay outputs driven high, before off-pulses: bits 0 to 3 `SRD_0_A`, `SRD_0_B`, `SRD_1_A`, `SRD_1_B` -/ cmd : Nat := 0
  fn : Vector SFn 2 := Vector.replicate 2 {}
  inp : Vector SIn 8 := Vector.replicate 8 {}
  conn : Vector SConn 8 := Vector.replicate 8 {}
  /-- [11 R252] sources that a pulse drives low (bit 0 `STP_A`, bit 1 `STP_B`); timebase until which their contacts are ignored -/ tpLow : Nat := 0
  tpUntil : Vector Nat 2 := Vector.replicate 2 0
  /-- [11 R247] consecutive differing and consecutive agreeing exchanges -/ diffRun : Nat := 0
  agreeRun : Nat := 0
  /-- [11 R249] a fault of class 0 has latched; occurrences -/ latch : Bool := false
  occ : List Nat := []
  /-- [11 R271] a nonce is valid, and the timebase of its challenge -/ nonce : Bool := false
  nonceAt : Nat := 0
  /-- [11 R271] the request being verified -/ unl : Option Unlock := none
  /-- [11 R272] timebase of refusals -/ refusals : List Nat := []
  /-- [11 R261] a mirror has read 0 during the weld test; the command owed the reply -/ weldBad : Bool := false
  weldCmd : Option (Path × Nat) := none
  deriving DecidableEq, Repr, Inhabited


/-- Where the device stands in its reset sequence (R375, R379). -/
inductive RstPhase where
  | hold     -- power-on reset held
  | run      -- reset released
  | warm     -- a warm reset requested: outputs clamped, 200 µs running
  deriving DecidableEq, Repr, Inhabited

/-- What the ROM took from a verified header (R383). -/
structure Image where
  /-- [15 R383] image sequence -/ seq : Nat := 0
  /-- [15 R383] security version -/ svn : Nat := 0
  /-- [15 R383] root key slot -/ slot : Nat := 0
  /-- [15 R383] metrology key -/ metKey : List Byte := []
  /-- [15 R383] safety key -/ safeKey : List Byte := []
  /-- [15 R387] debug access requested -/ debug : Bool := false
  deriving DecidableEq, Repr, Inhabited

/-- SYS hidden state (15, 02). -/
structure Sys where
  /-- [15 R375] reset phase -/ phase : RstPhase := .run
  /-- [15 R375] `VDD_CORE` valid (the other supplies are in SYS_PWRSTAT) -/ vddCore : Bool := true
  /-- [14 R354] `VDD_CORE` has returned since the last reset release -/ coreBack : Bool := false
  /-- [15 R387] the lifecycle fuse is programmed -/ secured : Bool := false
  /-- [02 R38] `BOOT_SEL` as sampled at the release of reset -/ bootSel : Nat := 0
  /-- [02 R37] level of the pin `TEST_EN`, tied to `VSS` -/ testEn : Bool := false
  /-- [02 R45] banks detected since reset (bit n) -/ detected : Nat := 63
  /-- [15 R378] cause of the warm reset under way: 1 pin, 2 software, 3 watchdog -/ warmCause : Nat := 0
  /-- [15 R386] boot sources left after the present one: 0 slot A, 1 slot B, 2 host port -/ sources : List Nat := [0, 1]
  /-- [15 R384] header verified in the first pass -/ image : Option Image := none
  /-- [15 R383] the running image -/ running : Image := {}
  /-- [15 R386] address and length in SRAM of a host image being applied -/ imgAt : Nat := 0
  imgLen : Nat := 0
  /-- [15 R384] blocks written by the second pass -/ written : List Nat := []
  /-- [15 R387] root key slots revoked (bit k) -/ revoked : Nat := 0
  /-- [15 R382] `SYS_RESET` whose reply has not left: path and tag -/ rstOwed : Option (Path × Nat) := none
  /-- [15 R381] timebase of the last kick or start of the watchdog -/ wdtFrom : Nat := 0
  deriving DecidableEq, Repr, Inhabited

/-- A raised event on its way to the event controller (R389). -/
structure Evt where
  num : Nat := 0
  detail : Nat := 0
  /-- ticks of the source instant -/ ts : Nat := 0
  deg : Bool := false
  /-- held under R355 -/ held : Bool := false
  deriving DecidableEq, Repr, Inhabited

/-- One EVT_OUT pin in pulse mode (R392). -/
structure EvtOut where
  /-- [15 R392] a pulse is in progress (the pin is high) -/ busy : Bool := false
  /-- [15 R392] timebase of the pulse's rise -/ rose : Nat := 0
  /-- [15 R392] timebase until which the low time after the last pulse lasts -/ lowUntil : Nat := 0
  /-- [15 R392] due instants of waiting pulses, ascending -/ wait : List Nat := []
  deriving DecidableEq, Repr, Inhabited

/-- EVT hidden state (15). -/
structure EvtC where
  /-- [15 R389] raised events in order of arrival -/ inflight : List Evt := []
  /-- [14 R355] Nightwatch events held while VDD_CORE is off -/ held : List Evt := []
  /-- [15 R391] records lost since the previous record -/ lost : Nat := 0
  /-- [15 R391] log sequence -/ logSeq : Nat := 0
  /-- [15 R392] event output pins -/ out : Vector EvtOut 4 := Vector.replicate 4 {}
  deriving DecidableEq, Repr, Inhabited

/-- The holding register of a block on one path (R12, R13). -/
structure Hold where
  /-- [00 R12] address of the `_LO` word last read (0: none) -/ lo : Nat := 0
  /-- [00 R12] `_HI` word and sequence number copied with it -/ hi : Nat := 0
  seq : Nat := 0
  /-- [00 R13] `_LO` values held for a `_HI` write, by address of the `_LO` word -/ wlo : List (Nat × Nat) := []
  deriving DecidableEq, Repr, Inhabited

/-- Status codes (R286). -/
inductive St where
  | ok | busy | range | state | auth | version | timeout | aborted | fault | nospace
  deriving DecidableEq, Repr, Inhabited

/-- An outstanding command (R287, R288). -/
structure Cmd where
  path : Path := .host
  tag : Nat := 0
  ver : Nat := 1
  op : Nat := 0
  barrier : Bool := false
  noreply : Bool := false
  urgent : Bool := false
  payload : List Byte := []
  /-- [12 R288] it has started -/ started : Bool := false
  /-- [12 R288] its block has executed it (a reply may still be owed) -/ ran : Bool := false
  /-- [12 R288] it has completed: status and reply payload -/ done : Option (St × List Byte) := none
  deriving DecidableEq, Repr, Inhabited

/-- HST hidden state (12). -/
structure Hst where
  /-- [12 R287] outstanding commands in acceptance order -/ outst : List Cmd := []
  /-- [12 R280] reply packets waiting on the host port, oldest first -/ replies : List (List Byte) := []
  /-- [12 R282] posted writes: address and data, oldest first -/ posted : List (Nat × List Byte) := []
  /-- [12 R280] bytes the device drove in the last transaction -/ drove : List Byte := []
  /-- [12 R289] negotiated version of each session's path -/ sver : Vector Nat 128 := Vector.replicate 128 1
  /-- [00 R12 R13] holding registers: block number × 2, + 1 for the command engine's path -/ hold : Vector Hold 40 := Vector.replicate 40 {}
  /-- [00 R6] the word the last register read returned -/ lastRead : Nat := 0
  /-- [12 R292] accesses under way that have not completed: path and tag -/ slow : List (Path × Nat) := []
  deriving DecidableEq, Repr, Inhabited

/-- What the device has handed to its interfaces, in order. -/
inductive Tx where
  /-- an Ethernet frame on a port -/
  | eth (port : Nat) (bytes : List Byte)
  /-- a Neriq Link frame on a lane -/
  | nql (lane : Nat) (bytes : List Byte)
  /-- a forwarded Neriq Link frame on a lane, with its remaining hops -/
  | fwd (lane hops : Nat) (bytes : List Byte)
  /-- an ordered set on a lane: 0 TS, 1 PING n, 2 ECHO n r, 3 MARK and its two data bytes -/
  | ordered (lane kind a b : Nat)
  /-- a modem frame on a PLC port: type, sequence, payload -/
  | plm (port : Nat) (bytes : List Byte)
  deriving DecidableEq, Repr, Inhabited

/-- A master that the servo has heard (12 R298; IEEE 1588-2019). -/
structure PtpMaster where
  /-- its port identity -/ port : List Byte := []
  /-- priority 1, clock class, accuracy, variance, priority 2 and identity of its grandmaster, as one number -/ rank : Nat := 0
  /-- steps removed -/ steps : Nat := 0
  /-- timebases of its last two `Announce` messages, newest first -/ seen : List Nat := []
  /-- ticks between its `Announce` messages -/ wait : Nat := 0
  deriving DecidableEq, Repr, Inhabited

/-- The servo's clock (12 R298). -/
structure Ptp where
  /-- masters heard -/ masters : List PtpMaster := []
  /-- port identity of the master chosen -/ best : Option (List Byte) := none
  /-- `Sync` that waits for its `Follow_Up`: sequence, arrival in ns, correction in ns -/ sync : Option (Nat × Nat × Int) := none
  /-- master to slave difference of the last `Sync`, in ns -/ ms : Int := 0
  /-- request for the delay under way: sequence, departure in ns -/ req : Option (Nat × Nat) := none
  /-- peer answer that waits for its follow-up: sequence, arrival and the request's receipt in ns, correction in ns -/
  peer : Option (Nat × Nat × Nat × Int) := none
  /-- mean path delay in ns -/ path : Option Int := none
  /-- sequence number of this clock's messages -/ seq : Nat := 0
  /-- sum of the offsets -/ acc : Int := 0
  /-- `CLK_PTP_INC` when the servo took it over -/ base : Option Nat := none
  deriving DecidableEq, Repr, Inhabited

/-- NET hidden state (12). -/
structure Net where
  /-- [12 R306] the key store -/ key : Vector (Option (List Byte)) 128 := Vector.replicate 128 none
  /-- [12 R305] packet numbers authenticated within the last 64, per session -/ seen : Vector (List Nat) 128 := Vector.replicate 128 []
  /-- [12 R298] the built-in servo's clock -/ ptp : Ptp := {}
  /-- [12 R298] consecutive offsets within `LOCK_TH`, and beyond it -/ inRun : Nat := 0
  outRun : Nat := 0
  /-- [12 R295] ring served last on each port and queue (8 × port + queue) -/ rr : Vector Nat 16 := Vector.replicate 16 0
  /-- [12 R295] ring whose frame each port is sending -/ txCur : Vector (Option Nat) 2 := Vector.replicate 2 none
  /-- [12 R294] timebase until which a PAUSE frame holds each port -/ pause : Vector Nat 2 := Vector.replicate 2 0
  deriving DecidableEq, Repr, Inhabited

/-- One Neriq Link lane (12). -/
structure NLane where
  /-- [12 R314] delay values of the last echoes, newest first, at most 16 -/ dly : List Nat := []
  /-- [12 R314] consecutive values beyond the range of DLY -/ ovfRun : Nat := 0
  /-- [12 R314] number of the last PING sent -/ ping : Nat := 0
  deriving DecidableEq, Repr, Inhabited

/-- A node heard by its CAP (12). -/
structure NNode where
  /-- [12 R313] timebase of its last CAP -/ capAt : Nat := 0
  /-- [12 R313] features it declares -/ feat : Nat := 0
  /-- [12 R313] lanes its CAP arrived on (bit l) -/ lanes : Nat := 0
  /-- [12 R312] hops that its last CAP on each lane had left -/ hops : Vector Nat 2 := Vector.replicate 2 0
  deriving DecidableEq, Repr, Inhabited

/-- NQL hidden state (12). -/
structure Nql where
  lane : Vector NLane 2 := Vector.replicate 2 {}
  node : Vector NNode 16 := Vector.replicate 16 {}
  /-- [12 R310] sequence number of this source -/ seq : Nat := 0
  /-- [12 R312] (source, sequence) pairs of the last 64 frames, newest first -/ seen : List (Nat × Nat) := []
  /-- [12 R316] DATA frames queued: destination and payload -/ dataQ : List (Nat × List Byte) := []
  deriving DecidableEq, Repr, Inhabited

/-- DRC hidden state (12). -/
structure Drc where
  /-- [12 R307] initialisation and training run -/ training : Bool := false
  /-- [12 R308] 8-byte words holding an uncorrectable error -/ ue : List Nat := []
  /-- [15 R379] the DRAM is in self-refresh -/ selfRefresh : Bool := false
  deriving DecidableEq, Repr, Inhabited

/-- What a transaction asks of its endpoint (R327). -/
inductive LReq where
  | hello
  | poll
  | set (level fade : Nat)
  deriving DecidableEq, Repr, Inhabited

/-- Who waits for a transaction's end. -/
inductive Owner where
  | none
  | cmd (p : Path) (tag : Nat)
  | group (g : Nat)
  deriving DecidableEq, Repr, Inhabited

/-- A transaction waiting or outstanding (R329). -/
structure Txn where
  /-- [13 R329] class 0 to 3 -/ cls : Nat := 0
  /-- [13 R320] directory entry -/ entry : Nat := 0
  req : LReq := .poll
  /-- [13 R329] it has started -/ sent : Bool := false
  /-- [13 R327] transaction number of the request in flight -/ num : Nat := 0
  /-- [13 R329] repetitions made -/ tries : Nat := 0
  /-- [13 R320] path it was sent on: byte 11 of its entry -/ path : Nat := 0
  /-- [13 R344] who waits for its end -/ owners : List Owner := []
  deriving DecidableEq, Repr, Inhabited

/-- A batch of rises (R336). -/
structure Batch where
  /-- [13 R336] endpoints still held back: entry, new level and fade time, in the order of release -/ items : List (Nat × Nat × Nat) := []
  /-- [13 R336] rise of the endpoints released, in 1/200 W -/ released : Nat := 0
  /-- [13 R336] rise in 0.1 kW and duration in s asked of Weighmaster -/ dp : Nat := 0
  dur : Nat := 0
  /-- [13 R208] its burst has been requested -/ asked : Bool := false
  deriving DecidableEq, Repr, Inhabited

/-- A group command in progress (R332). -/
structure GroupRun where
  id : Nat := 0
  owner : Option (Path × Nat) := none
  /-- members whose transaction has not ended, done and failed -/ left : Nat := 0
  done : Nat := 0
  failed : Nat := 0
  deriving DecidableEq, Repr, Inhabited

/-- One PLC port beyond its registers (13). -/
structure LPort where
  /-- [13 R324] sequence number of the next frame sent -/ seq : Nat := 0
  /-- [13 R326] keep-alive requests unanswered -/ miss : Nat := 0
  /-- [13 R326] `PLM_p_RST_N` held low by the restart -/ rst : Bool := false
  /-- [13 R329] timebase of the transactions started within the last second -/ starts : List Nat := []
  /-- [13 R323] `PLM_p_CTS_N` is low -/ cts : Bool := false
  /-- [13 R323] frames waiting for the modem: type and payload -/ q : List (Nat × List Byte) := []
  deriving DecidableEq, Repr, Inhabited

/-- LMP hidden state (13). The directory and the schedules lie in DRAM. -/
structure Lmp where
  /-- [13 R321] numbers of the entries in use, ascending -/ used : List Nat := []
  /-- [13 R329] transactions, oldest first -/ txns : List Txn := []
  /-- [13 R327] next transaction number -/ txnNum : Nat := 0
  /-- [13 R321] entries in use found damaged -/ damaged : List Nat := []
  port : Vector LPort 4 := Vector.replicate 4 {}
  /-- [13 R336] batches, the first one in its burst -/ batches : List Batch := []
  /-- [13 R337] those who wait for an endpoint whose rise is held back, by entry -/ waits : List (Nat × Owner) := []
  /-- [13 R343] entries whose transaction a port took down with it, to be sent again -/ again : List Nat := []
  /-- [13 R332] group commands -/ groups : List GroupRun := []
  groupNum : Nat := 0
  /-- [13 R322] local minute last evaluated (minutes since 1970-01-01 local) -/ minute : Option Nat := none
  /-- [13 R338] supply level last read -/ supply : Nat := 0
  /-- [13 R342] highest epoch heard for each role -/ epoch : Vector Nat 4 := Vector.replicate 4 0
  /-- [13 R342] timebase of the last BEAT heard of each role (of the own district, for a district master) -/ beatAt : Vector (Option Nat) 4 := Vector.replicate 4 none
  /-- [13 R342] role being taken over, and the epoch it will have -/ takeover : Option Nat := none
  takeEpoch : Nat := 0
  /-- [13 R341] ranges requested and not yet answered: peer and range -/ pulls : List (Nat × Nat) := []
  /-- [13 R342] timebase of the last message of each peer -/ peerAt : Vector (Option Nat) 16 := Vector.replicate 16 none
  /-- [13 R339] role and district each peer last declared -/ peerRole : Vector Nat 16 := Vector.replicate 16 0
  peerDist : Vector Nat 16 := Vector.replicate 16 0
  /-- [13 R340] timebase of the last status change sent of an entry (at most one in 60 s) -/ statAt : List (Nat × Nat) := []
  deriving DecidableEq, Repr, Inhabited

/-- AON hidden state (14). -/
structure Aon where
  /-- [14 R347] `VBAT_AON` is at or above 2.0 V -/ alive : Bool := true
  /-- [14 R349] the real-time clock count C, 64 bits -/ rtc : Nat := 0
  /-- [14 R350] hardware updates of the count (SNAPSEQ) -/ rtcSeq : Nat := 0
  /-- [14 R351] hardware updates of the stop stamp -/ stopSeq : Nat := 0
  /-- [14 R357] consecutive samples at or above VHV_ON -/ qual : Nat := 0
  /-- [14 R357] consecutive samples of BS_FB at or above FB_OK, or below FB_DROP in run -/ fbRun : Nat := 0
  /-- [14 R357] pulses driven in this attempt -/ pulses : Nat := 0
  /-- [14 R355] a sample of `VBAT_AON` has been taken since first application -/ sampled : Bool := true
  /-- [14 R349] part of the present crystal period, in 1/800,000,000 of a period -/ frac : Nat := 0
  /-- [14 R358] failures counted in the black-start class, as clock counts -/ occ : List Nat := []
  /-- [14 R350] counts that the trim still withholds -/ hold : Nat := 0
  /-- [14 R352] the count stands as a write set it -/ wrote : Bool := false
  /-- [14 R354] first application has not been followed by a reset release after a return of `VDD_CORE` -/ first : Bool := false
  deriving DecidableEq, Repr, Inhabited

/-- A ramp of the buck's reference (14). -/
structure VRamp where
  /-- [14 R361] reference in mV where it starts -/ base : Nat
  /-- [14 R361] timebase where it starts -/ start : Nat
  /-- [14 R361, R363] its rate in mV per tick: numerator and denominator -/ num : Nat
  den : Nat
  deriving DecidableEq, Repr, Inhabited

/-- The auxiliary buck beyond its registers (14). -/
structure Buck where
  /-- [14 R361, R363] the ramp of VREF in progress -/ ramp : Option VRamp := none
  /-- [14 R361] the switches run: VREF has exceeded VFB in a period since the soft start began -/ on : Bool := false
  /-- [14 R360] sum of the voltage errors of the periods, in mV -/ sum : Int := 0
  /-- [14 R360] current reference in 2^-16 mV of sense -/ iref : Int := 0
  /-- [14 R359] timebase of the next switching period -/ next : Nat := 0
  /-- [14 R365] a shed's settle window is open -/ settle : Bool := false
  /-- [14 R372] `AUX_BK_SET` that waits for VREF: path and tag -/ owed : Option (Path × Nat) := none
  /-- [14 R361] occurrences of the auxiliary-buck fault class -/ occ : List Nat := []
  deriving DecidableEq, Repr, Inhabited

/-- The pump driver beyond its registers (14). -/
structure Pump where
  /-- [14 R368] high and low switches commanded on (bit n) -/ hg : Nat := 0
  lg : Nat := 0
  /-- [14 R368] chopping phase -/ chop : Option Nat := none
  /-- [14 R368] timebase of the last valid Hall edges, newest first, at most seven -/ edges : List Nat := []
  /-- [14 R370] occurrences of the pump fault class -/ occ : List Nat := []
  deriving DecidableEq, Repr, Inhabited

/-- AUX hidden state (14). -/
structure AuxS where
  bk : Buck := {}
  pmp : Pump := {}
  deriving DecidableEq, Repr, Inhabited

/-- A change of SRAM or DRAM made by a step (R26, R380): a byte written, or a range that loses its
contents. -/
inductive MemWr where
  | put (a : Nat) (v : Byte)
  | clear (lo hi stamp : Nat)
  deriving DecidableEq, Repr, Inhabited

/-- A range of SRAM or DRAM whose contents have been lost (R26, R380): a byte in it that nothing has written since is open. -/
structure Lost where
  lo : Nat := 0
  hi : Nat := 0
  /-- which loss -/ stamp : Nat := 0
  deriving DecidableEq, Repr, Inhabited

/-- The device. -/
structure Dev where
  /-- [00 R6] register fields that differ from their reset values, by place, ascending -/ regs : List (Nat × Nat) := []
  clk : Clk := {}
  sns : Sns := {}
  pwm : Pwm := {}
  trp : Trp := {}
  cen : Cen := {}
  grd : Grd := {}
  wgh : Wgh := {}
  thm : Thm := {}
  tal : Tal := {}
  saf : Saf := {}
  sys : Sys := {}
  evt : EvtC := {}
  hst : Hst := {}
  net : Net := {}
  nql : Nql := {}
  drc : Drc := {}
  lmp : Lmp := {}
  aon : Aon := {}
  aux : AuxS := {}
  /-- [01 R30] SRAM and DRAM bytes that differ from what an unlisted address reads as, by address, ascending -/ mem : List Host.Cell := []
  /-- [01 R26 15 R380] ranges of SRAM and DRAM that have lost their contents, newest first -/ lost : List Lost := []
  /-- [01 R32] MRAM ledger bytes that are not 0, by offset, ascending -/ mram : List Host.Cell := []
  /-- what the device has handed to its interfaces, oldest first -/ tx : List Tx := []
  /-- the model's own: writes to SRAM and DRAM made within the present step, newest first; empty between steps -/ out : List MemWr := []
  /-- the model's own: writes to the ledger made within the present step, newest first; empty between steps -/ outM : List (Nat × Byte) := []
  /-- the model's own: free values drawn so far (log entry 3) -/ free : Nat := 0
  deriving DecidableEq, Repr, Inhabited

/-- The machine: the device and the commands waiting for it, first in first out. -/
structure State where
  dev : Dev := {}
  pending : List Instr := []
  deriving DecidableEq, Repr

/-- The machine right after power-on reset has been released: every register at its reset value, no
memory written, no command waiting (R11, R376, R377). -/
def State.reset : State := {}

end Sys2Proof.Machine
end

