-- ==== Sys2Proof/Machine/Ops.lean ====
section
/-! DEFINITION. The named operations every meaning is written with: sparse lists in canonical form, the
register file, memory, events, the lifting of a change of the device to a change of the machine. -/
namespace Sys2Proof.Machine

/-! ## Sparse lists -/

/-- The value at key `k` of a list of rising keys; `d` where the key is not listed. -/
def spGet {α : Type} (k : Nat) (d : α) : List (Nat × α) → α
  | [] => d
  | (a, v) :: t => if k < a then d else if k = a then v else spGet k d t

/-- The list without the leading entries of keys up to `k`. -/
def spDrop {α : Type} (k : Nat) : List (Nat × α) → List (Nat × α)
  | [] => []
  | (a, v) :: t => if a ≤ k then spDrop k t else (a, v) :: t

/-- The list with `v` at key `k`; an entry equal to `d` is not listed. -/
def spPut {α : Type} [DecidableEq α] (k : Nat) (v d : α) : List (Nat × α) → List (Nat × α)
  | [] => if v = d then [] else [(k, v)]
  | (a, w) :: t =>
    if k < a then (if v = d then (a, w) :: t else (k, v) :: (a, w) :: t)
    else if k = a then (if v = d then spDrop k t else (k, v) :: spDrop k t)
    else (a, w) :: spPut k v d t

/-- The keys rise from at least `lo`, all entries satisfy `p`. -/
def spWf {α : Type} (p : Nat → α → Bool) (lo : Nat) : List (Nat × α) → Bool
  | [] => true
  | (a, v) :: t => decide (lo ≤ a) && p a v && spWf p (a + 1) t

/-! ## Tables of a fixed number of like things -/

/-- Entry `i`; the default beyond the table. -/
def vget {α : Type} [Inhabited α] {n : Nat} (v : Vector α n) (i : Nat) : α := v[i]?.getD default

/-- The table with `x` at entry `i`; unchanged beyond it. -/
def vset {α : Type} {n : Nat} (v : Vector α n) (i : Nat) (x : α) : Vector α n := v.setIfInBounds i x

/-- The table with `f` applied to every entry. -/
def vmap {α : Type} {n : Nat} (f : α → α) (v : Vector α n) : Vector α n := Vector.ofFn fun i => f v[i]

/-! ## Numbers and bytes -/

/-- The two's complement value of the low `w` bits. -/
def sval (w n : Nat) : Int := if n % 2 ^ w < 2 ^ (w - 1) then (n % 2 ^ w : Nat) else (n % 2 ^ w : Nat) - (2 ^ w : Nat)

/-- The low `w` bits of a two's complement value. -/
def uval (w : Nat) (i : Int) : Nat := (i % (2 ^ w : Nat)).toNat

/-- The integer limited to `lo` … `hi`. -/
def clampI (lo hi x : Int) : Int := if x < lo then lo else if hi < x then hi else x

/-- The `n` low bytes of a number, least significant first (R30). -/
def leBytes : Nat → Nat → List Byte
  | 0, _ => []
  | n + 1, v => BitVec.ofNat 8 v :: leBytes n (v / 256)

/-- The number that bytes spell, least significant first. -/
def leNat : List Byte → Nat
  | [] => 0
  | b :: t => b.toNat + 256 * leNat t

/-- Bytes `i` to `i + n - 1` as a number. -/
def leAt (l : List Byte) (i n : Nat) : Nat := leNat ((l.drop i).take n)

/-- Byte `i` as a number. -/
def byteAt (l : List Byte) (i : Nat) : Nat := (l.getD i 0).toNat

/-- `n` bit by bit shifted through the reflected polynomial of CRC-32C. -/
def crcShift : Nat → Nat → Nat
  | 0, c => c
  | n + 1, c => crcShift n (if c % 2 = 1 then Nat.xor (c / 2) 0x82F63B78 else c / 2)

/-- CRC-32C register after the bytes. -/
def crcRun (c : Nat) : List Byte → Nat
  | [] => c
  | b :: t => crcRun (crcShift 8 (Nat.xor c b.toNat)) t

/-- CRC-32C (R284). -/
def crc32c (l : List Byte) : Nat := Nat.xor (crcRun 0xFFFFFFFF l) 0xFFFFFFFF

/-- `n` bits shifted through the polynomial 0x1021, most significant bit first. -/
def crc16Shift : Nat → Nat → Nat
  | 0, c => c
  | n + 1, c => crc16Shift n (if 32768 ≤ c then Nat.xor (2 * c - 65536) 0x1021 else 2 * c)

/-- CRC-16 register after the bytes. -/
def crc16Run (c : Nat) : List Byte → Nat
  | [] => c
  | b :: t => crc16Run (crc16Shift 8 (Nat.xor c (256 * b.toNat))) t

/-- CRC-16 (R324). -/
def crc16 (l : List Byte) : Nat := crc16Run 0xFFFF l

/-- Bits set in the low `n` bits of a mask, ascending. -/
def bitsOf (n m : Nat) : List Nat := (List.range n).filter m.testBit

/-- A mask with bit `i` set, or cleared. -/
def setBit (m i : Nat) : Nat := if m.testBit i then m else m + 2 ^ i
def clrBit (m i : Nat) : Nat := if m.testBit i then m - 2 ^ i else m
def putBit (m i : Nat) (b : Bool) : Nat := if b then setBit m i else clrBit m i

/-- 1 for true, 0 for false. -/
def b2n (b : Bool) : Nat := if b then 1 else 0

namespace Dev

/-! ## The register file -/

/-- The contents of field `F` of register `n` of its array. -/
def fg (d : Dev) (F : Fld) (n : Nat := 0) : Nat := spGet (F.key n) (F.rst n) d.regs

/-- The field is not 0. -/
def fb (d : Dev) (F : Fld) (n : Nat := 0) : Bool := d.fg F n != 0

/-- Bit `i` of the field. -/
def fbit (d : Dev) (F : Fld) (i : Nat) (n : Nat := 0) : Bool := (d.fg F n).testBit i

/-- Write the field; bits beyond its width are lost. -/
def fs (d : Dev) (F : Fld) (v : Nat) (n : Nat := 0) : Dev :=
  { d with regs := spPut (F.key n) (v % 2 ^ F.len) (F.rst n) d.regs }

/-- Set or clear bit `i` of the field. -/
def fsBit (d : Dev) (F : Fld) (i : Nat) (b : Bool) (n : Nat := 0) : Dev := d.fs F (putBit (d.fg F n) i b) n

/-- Add 1 modulo the field's width. -/
def finc (d : Dev) (F : Fld) (n : Nat := 0) : Dev := d.fs F (d.fg F n + 1) n

/-- Count in a saturating counter `F` (R395): it holds at its largest value, and reaching it sets `V`. -/
def fcnt (d : Dev) (F V : Fld) (n : Nat := 0) : Dev :=
  if d.fg F n + 1 < 2 ^ F.len - 1 then d.fs F (d.fg F n + 1) n
  else (d.fs F (2 ^ F.len - 1) n).fs V 1 n

/-- Count in a saturating counter that has no flag (R395). -/
def fsat (d : Dev) (F : Fld) (n : Nat := 0) : Dev :=
  if d.fg F n + 1 < 2 ^ F.len then d.fs F (d.fg F n + 1) n else d

/-- A field read as two's complement. -/
def fgS (d : Dev) (F : Fld) (n : Nat := 0) : Int := sval F.len (d.fg F n)

/-- A field written as two's complement. -/
def fsS (d : Dev) (F : Fld) (v : Int) (n : Nat := 0) : Dev := d.fs F (uval F.len v) n

/-! ## Free values -/

/-- A value the spec leaves open, and the device with the next one in line (log entry 3). -/
def fresh (d : Dev) : Nat × Dev := ((Config.freeValue d.free).toNat, { d with free := d.free + 1 })

/-! ## Memory (R30, R31, R307, R308) -/

/-- Bytes of DRAM fitted. -/
def dramSize (d : Dev) : Nat := 2 ^ (29 + d.fg DRC_CTRL_SIZE)

/-- Bytes of DRAM usable: all but the top eighth (R308). -/
def dramUsable (d : Dev) : Nat := d.dramSize / 8 * 7

/-- The address lies in SRAM. -/
def inSram (a : Nat) : Bool := decide (0x04000000 ≤ a) && decide (a < 0x04400000)

/-- The address lies in usable DRAM. -/
def inDram (d : Dev) (a : Nat) : Bool := decide (0x80000000 ≤ a) && decide (a < 0x80000000 + d.dramUsable)

/-- The interface PLLs' clocks run: they are fed from the 100 MHz reference, not from the edge-domain PLL (R15). -/
def ifClock (d : Dev) : Bool := d.clk.refPresent

/-- The address holds a byte of SRAM, or of DRAM that is ready and whose port has its clock (R15). -/
def ramAt (d : Dev) (a : Nat) : Bool := inSram a || (d.inDram a && d.fb DRC_STAT_READY && d.ifClock)

/-- `len` bytes from `a` lie in SRAM, or in usable DRAM. -/
def placed (d : Dev) (a len : Nat) : Bool :=
  (decide (0x04000000 ≤ a) && decide (a + len ≤ 0x04400000)) ||
  (decide (0x80000000 ≤ a) && decide (a + len ≤ 0x80000000 + d.dramUsable))

/-- The latest of the step's own writes to an address. -/
def overlay (a : Nat) : List MemWr → Option Byte
  | [] => none
  | .put b v :: t => if a = b then some v else overlay a t
  | .clear lo hi e :: t => if lo ≤ a ∧ a < hi then some (Config.freeByte e a) else overlay a t

/-- What an address of SRAM or DRAM that is not listed reads as: 0 from power-on on, open where its range has lost its
contents since (log entry 6). -/
def unlisted : List Lost → Nat → Byte
  | [], _ => 0
  | x :: t, a => if x.lo ≤ a ∧ a < x.hi then Config.freeByte x.stamp a else unlisted t a

/-- Read a byte of SRAM or DRAM. DRAM that is not ready, and an address that holds none, read 0 (R307, R308). -/
def rd8 (d : Dev) (a : Nat) : Byte :=
  if d.ramAt a then (overlay a d.out).getD (spGet a (unlisted d.lost a) d.mem) else 0

/-- Write a byte of SRAM or DRAM; elsewhere the write is ignored. -/
def wr8 (d : Dev) (a : Nat) (v : Byte) : Dev := if d.ramAt a then { d with out := .put a v :: d.out } else d

/-- Read `n` bytes. -/
def rdN (d : Dev) (a : Nat) : Nat → List Byte
  | 0 => []
  | n + 1 => d.rd8 a :: rdN d (a + 1) n

/-- Write bytes in ascending order of address, as the port does. -/
def wrRaw (d : Dev) (a : Nat) : List Byte → Dev
  | [] => d
  | b :: t => wrRaw (d.wr8 a b) (a + 1) t

/-- Write bytes. A word of 8 bytes written whole holds no error any longer; a lesser write is a
read-modify-write (R308). -/
def wrN (d : Dev) (a : Nat) (l : List Byte) : Dev :=
  let d := d.wrRaw a l
  if d.drc.ue = [] then d
  else { d with drc := { d.drc with ue := d.drc.ue.filter fun w => decide (w < a) || decide (a + l.length < w + 8) } }

/-- Some of `n` bytes from `a` lie in a word of DRAM that holds an uncorrectable error (R308). -/
def ueIn (d : Dev) (a n : Nat) : Bool := d.drc.ue.any fun w => decide (w < a + n) && decide (a < w + 8)

/-- The contents of a range are lost: its bytes are open until they are written (R26, R380). -/
def lose (d : Dev) (lo hi : Nat) : Dev := { d with out := .clear lo hi d.free :: d.out, free := d.free + 1 }

/-- The latest of the step's own writes to the ledger. -/
def overlayM (a : Nat) : List (Nat × Byte) → Option Byte
  | [] => none
  | (b, v) :: t => if a = b then some v else overlayM a t

/-- Read a byte of the ledger, by offset. -/
def rdM8 (d : Dev) (a : Nat) : Byte := (overlayM a d.outM).getD (spGet a 0 d.mram)

/-- Write a byte of the ledger. Only Tallyman's meanings use it (R32). -/
def wrM8 (d : Dev) (a : Nat) (v : Byte) : Dev := if a < 0x80000 then { d with outM := (a, v) :: d.outM } else d

/-- Read `n` bytes of the ledger. -/
def rdMN (d : Dev) (a : Nat) : Nat → List Byte
  | 0 => []
  | n + 1 => d.rdM8 a :: rdMN d (a + 1) n

/-- Write bytes of the ledger. -/
def wrMN (d : Dev) (a : Nat) : List Byte → Dev
  | [] => d
  | b :: t => wrMN (d.wrM8 a b) (a + 1) t

/-! ## Time and events -/

/-- The timebase is degraded (R62). -/
def deg (d : Dev) : Bool := d.fb CLK_TB_HI_DEGRADED

/-- The timebase, modulo 2^48 (R61). -/
def tb (d : Dev) : Nat := d.clk.ticks % 2 ^ 48

/-- Raise `EV_e` with a detail (R389): it sets out for the event controller with the timestamp of now. -/
def raise (d : Dev) (e : Nat) (detail : Nat := 0) : Dev :=
  { d with evt := { d.evt with inflight := d.evt.inflight ++
      [{ num := e, detail := detail, ts := d.clk.ticks, deg := d.deg, held := false }] } }

/-- Raise a Nightwatch event: held while `VDD_CORE` is off, once for each event (R355). -/
def raiseN (d : Dev) (e : Nat) (detail : Nat := 0) : Dev :=
  if d.sys.vddCore && d.sys.phase == .run then d.raise e detail
  else if d.evt.held.any (·.num == e) then d
  else { d with evt := { d.evt with held := d.evt.held ++ [{ num := e, detail := detail, held := true }] } }

/-- Ticks in a millisecond (R61). -/
def msTicks : Nat := 800000

/-- Occurrences within the half-open window of `ms` milliseconds that ends now, the new one among them (R394). -/
def window (now ms : Nat) (occ : List Nat) : List Nat := occ.filter (fun t => now < t + ms * msTicks) ++ [now]

/-- An occurrence of device-wide fault class `k`: the occurrences kept, and whether it is lasting (R394). -/
def classHit (d : Dev) (k : Nat) (occ : List Nat) : List Nat × Bool :=
  let l := window d.clk.ticks (d.fg SYS_FCLS_k_WINDOW k) occ
  (l, decide (d.fg SYS_FCLS_k_LIMIT k ≤ l.length))

end Dev

/-! ## From the device to the machine -/

/-- One write to SRAM or DRAM, or one loss of a range, in canonical form: what becomes of the ranges lost and of the bytes. -/
def memStore (m : List Lost × List Host.Cell) : MemWr → List Lost × List Host.Cell
  | .put a v => (m.1, spPut a v (Dev.unlisted m.1 a) m.2)
  | .clear lo hi e =>
    (⟨lo, hi, e⟩ :: m.1.filter (fun x => decide (x.lo < lo) || decide (hi < x.hi)),
     m.2.filter fun c => decide (c.1 < lo) || decide (hi ≤ c.1))

/-- The writes of a step land, oldest first. -/
def memLand (m : List Lost × List Host.Cell) (out : List MemWr) : List Lost × List Host.Cell :=
  out.foldr (fun w m => memStore m w) m

/-- The ledger writes of a step land, oldest first. -/
def ledgerLand (m : List Host.Cell) (out : List (Nat × Byte)) : List Host.Cell :=
  out.foldr (fun w m => spPut w.1 w.2 0 m) m

/-- The memories are in canonical form: addresses strictly rise, no listed byte equals what an unlisted
address reads as. -/
def Memory.wf (lost : List Lost) (m : List Host.Cell) : Bool := spWf (fun a v => v != Dev.unlisted lost a) 0 m

/-- What a command leaves of the device: the step's writes land in SRAM and DRAM; in the ledger (R32) and
in the safety supervisor (R22) only where the command is one on which Tallyman, or the supervisor, acts. -/
def Dev.land (tal saf : Bool) (d0 d : Dev) : Dev :=
  { d with mem := (memLand (d0.lost, d0.mem) d.out).2, lost := (memLand (d0.lost, d0.mem) d.out).1, out := [],
           mram := if tal then ledgerLand d0.mram d.outM else d0.mram, outM := [],
           saf := if saf then d.saf else d0.saf }

/-- A command's effect on the device, carried to the machine. -/
def State.lift (tal saf : Bool) (f : Dev → Dev) (s : State) : Host.Outcome State Fault Refusal :=
  .next { s with dev := Dev.land tal saf s.dev (f s.dev) }

/-- The effect of a command that acts while the device is out of reset; in reset it has none (R375, R379). -/
def Dev.awake (f : Dev → Dev) (d : Dev) : Dev := if d.sys.phase = .run then f d else d

/-- A command outside Tallyman and the safety supervisor. -/
def State.run (f : Dev → Dev) (s : State) : Host.Outcome State Fault Refusal := s.lift false false (Dev.awake f)

/-- The effect of an event of a block that the interface PLLs clock: without their clocks there is none (R15). -/
def Dev.clocked (f : Dev → Dev) (d : Dev) : Dev := if d.ifClock then f d else d

/-- An event of such a block. -/
def State.runIf (f : Dev → Dev) (s : State) : Host.Outcome State Fault Refusal := s.run (Dev.clocked f)

/-- A command on which Tallyman acts. -/
def State.runTal (f : Dev → Dev) (s : State) : Host.Outcome State Fault Refusal := s.lift true false (Dev.awake f)

/-- A command on which the safety supervisor acts. -/
def State.runSaf (f : Dev → Dev) (s : State) : Host.Outcome State Fault Refusal := s.lift false true (Dev.awake f)

/-- A command that can reach both. -/
def State.runAll (f : Dev → Dev) (s : State) : Host.Outcome State Fault Refusal := s.lift true true (Dev.awake f)

/-- A command of Nightwatch, which acts whether or not the core is in reset (R20). -/
def State.runAon (f : Dev → Dev) (s : State) : Host.Outcome State Fault Refusal := s.lift false false f

/-- A supply or reset command, which acts on everything whether or not the core is in reset. -/
def State.runRst (f : Dev → Dev) (s : State) : Host.Outcome State Fault Refusal := s.lift true true f

end Sys2Proof.Machine
end

