-- ==== Sys2Proof/Machine/RegTable.lean ====
section
/-! DEFINITION. The register map by address (R6, R8, R30): for each register its address, its index
range and its fields with their access codes and the encodings they admit. -/
namespace Sys2Proof.Machine

/-- The access codes of R6. -/
inductive Access where
  | RO | RW | W1C | W1S | WO | RC
  deriving DecidableEq, Repr

/-- The encodings a field admits (R8): any, not 0, a range, a range of the two's complement value about
0, or a list. -/
inductive Legal where
  | any
  | nz
  | rng (lo hi : Nat)
  | srng (width lim : Nat)
  | oneOf (l : List Nat)
  deriving DecidableEq, Repr

/-- A field with its access code and encodings. -/
structure FldSpec where
  fld : Fld
  acc : Access
  legal : Legal

/-- A register, or an array of registers of indexes `start` to `start + count - 1`. -/
structure Reg where
  base : Nat
  stride : Nat
  start : Nat
  count : Nat
  flds : List FldSpec

/-- Registers of `SYS`. -/
def regsSYS0 : List Reg := [
  ⟨0x20000000, 0x0, 0, 1, [⟨SYS_ID_PART, .RO, .any⟩, ⟨SYS_ID_STEP, .RO, .any⟩, ⟨SYS_ID_GRADE, .RO, .any⟩]⟩,
  ⟨0x20000040, 0x0, 0, 1, [⟨SYS_ROLE_DIR_ROLE, .RW, (.rng 0 2)⟩, ⟨SYS_ROLE_PAR_SIZE, .RW, .any⟩, ⟨SYS_ROLE_PAR_POS, .RW, .any⟩, ⟨SYS_ROLE_PAR_MODE, .RW, (.rng 0 2)⟩]⟩,
  ⟨0x20000044, 0x0, 0, 1, [⟨SYS_ROLE_STAT_DIR_ACTIVE, .RO, .any⟩, ⟨SYS_ROLE_STAT_PAR_SEEN, .RO, .any⟩, ⟨SYS_ROLE_STAT_PAR_ALIGNED, .RO, .any⟩]⟩,
  ⟨0x20000060, 0x0, 0, 1, [⟨SYS_IOBANK_BANK_CHG, .W1C, .any⟩, ⟨SYS_IOBANK_BANK_5, .RO, .any⟩, ⟨SYS_IOBANK_BANK_4, .RO, .any⟩, ⟨SYS_IOBANK_BANK_3, .RO, .any⟩, ⟨SYS_IOBANK_BANK_2, .RO, .any⟩, ⟨SYS_IOBANK_BANK_1, .RO, .any⟩, ⟨SYS_IOBANK_BANK_0, .RO, .any⟩]⟩,
  ⟨0x20000064, 0x0, 0, 1, [⟨SYS_PWRSTAT_DROP, .W1C, .any⟩, ⟨SYS_PWRSTAT_VDRV_OK, .RO, .any⟩, ⟨SYS_PWRSTAT_VBAT_OK, .RO, .any⟩, ⟨SYS_PWRSTAT_VDDQ_DRAM_OK, .RO, .any⟩, ⟨SYS_PWRSTAT_VDD_DRAM_OK, .RO, .any⟩, ⟨SYS_PWRSTAT_VDDA_OK, .RO, .any⟩, ⟨SYS_PWRSTAT_VDD_PLL_OK, .RO, .any⟩]⟩,
  ⟨0x20000010, 0x0, 0, 1, [⟨SYS_RST_CAUSE_LAST, .RO, .any⟩, ⟨SYS_RST_CAUSE_WDT, .W1C, .any⟩, ⟨SYS_RST_CAUSE_SW, .W1C, .any⟩, ⟨SYS_RST_CAUSE_PIN, .W1C, .any⟩, ⟨SYS_RST_CAUSE_POR, .W1C, .any⟩]⟩,
  ⟨0x20000014, 0x0, 0, 1, [⟨SYS_RST_CTRL_KEY, .WO, .any⟩, ⟨SYS_RST_CTRL_FORCE, .WO, .any⟩, ⟨SYS_RST_CTRL_RST, .WO, .any⟩]⟩,
  ⟨0x20000020, 0x0, 0, 1, [⟨SYS_BOOT_STAT_STATE, .RO, .any⟩, ⟨SYS_BOOT_STAT_SRC, .RO, .any⟩, ⟨SYS_BOOT_STAT_DEBUG, .RO, .any⟩, ⟨SYS_BOOT_STAT_SECURED, .RO, .any⟩, ⟨SYS_BOOT_STAT_FAIL, .RO, .any⟩, ⟨SYS_BOOT_STAT_SVN_FUSED, .RO, .any⟩, ⟨SYS_BOOT_STAT_KEY_SLOT, .RO, .any⟩]⟩,
  ⟨0x20000030, 0x0, 0, 1, [⟨SYS_WDT_EN, .RW, .any⟩, ⟨SYS_WDT_ACTION, .RW, (.rng 0 2)⟩, ⟨SYS_WDT_TIMEOUT, .RW, .nz⟩]⟩,
  ⟨0x20000034, 0x0, 0, 1, [⟨SYS_WDT_KICK_KEY, .WO, .any⟩]⟩,
  ⟨0x20000100, 0x4, 0, 11, [⟨SYS_FCLS_k_LIMIT, .RW, .nz⟩, ⟨SYS_FCLS_k_WINDOW, .RW, (.rng 1 60000)⟩]⟩]

/-- Registers of `CLK`. -/
def regsCLK0 : List Reg := [
  ⟨0x20010000, 0x0, 0, 1, [⟨CLK_PLL_CTRL_UNLOCK_WIN, .RW, .any⟩, ⟨CLK_PLL_CTRL_LOCK_WIN, .RW, (.rng 1 254)⟩, ⟨CLK_PLL_CTRL_BW, .RW, .any⟩, ⟨CLK_PLL_CTRL_AUTO_RELOCK, .RW, .any⟩, ⟨CLK_PLL_CTRL_EN, .RW, .any⟩]⟩,
  ⟨0x20010004, 0x0, 0, 1, [⟨CLK_PLL_STAT_LOL_OVF, .W1C, .any⟩, ⟨CLK_PLL_STAT_LOL_CNT, .RO, .any⟩, ⟨CLK_PLL_STAT_BAND_VALID, .RO, .any⟩, ⟨CLK_PLL_STAT_BAND, .RO, .any⟩, ⟨CLK_PLL_STAT_HOLD_CLR_REFUSED, .W1C, .any⟩, ⟨CLK_PLL_STAT_PWM_HOLD, .W1C, .any⟩, ⟨CLK_PLL_STAT_LOL, .W1C, .any⟩, ⟨CLK_PLL_STAT_NO_BAND, .W1C, .any⟩, ⟨CLK_PLL_STAT_HOLDOVER, .RO, .any⟩, ⟨CLK_PLL_STAT_FALLBACK, .RO, .any⟩, ⟨CLK_PLL_STAT_ACQ, .RO, .any⟩, ⟨CLK_PLL_STAT_LOCKED, .RO, .any⟩]⟩,
  ⟨0x20010010, 0x0, 0, 1, [⟨CLK_REF_STAT_REF_CNT, .RO, .any⟩, ⟨CLK_REF_STAT_XT_CHECK_OFF, .RO, .any⟩, ⟨CLK_REF_STAT_REF_FREQ_BAD, .W1C, .any⟩, ⟨CLK_REF_STAT_REF_MISSING, .W1C, .any⟩, ⟨CLK_REF_STAT_REF_OK, .RO, .any⟩]⟩,
  ⟨0x20010100, 0x4, 0, 32, [⟨CLK_BAND_n_VALID, .RW, .any⟩, ⟨CLK_BAND_n_F_MEAS, .RO, .any⟩, ⟨CLK_BAND_n_COARSE, .RW, .any⟩]⟩,
  ⟨0x20010200, 0x0, 0, 1, [⟨CLK_TB_LO_TB, .RO, .any⟩]⟩,
  ⟨0x20010204, 0x0, 0, 1, [⟨CLK_TB_HI_DEGRADED, .RO, .any⟩, ⟨CLK_TB_HI_TB, .RO, .any⟩]⟩,
  ⟨0x20010300, 0x0, 0, 1, [⟨CLK_PTP_CTRL_PPS_WIDTH, .RW, .nz⟩, ⟨CLK_PTP_CTRL_PPS_EN, .RW, .any⟩, ⟨CLK_PTP_CTRL_TIME_VALID, .RW, .any⟩]⟩,
  ⟨0x20010304, 0x0, 0, 1, [⟨CLK_PTP_INC_INC, .RW, (.rng 335208776 335879864)⟩]⟩,
  ⟨0x20010308, 0x0, 0, 1, [⟨CLK_PTP_OFS_LO_OFS, .WO, .any⟩]⟩,
  ⟨0x2001030C, 0x0, 0, 1, [⟨CLK_PTP_OFS_HI_OFS, .WO, .any⟩]⟩,
  ⟨0x20010340, 0x0, 0, 1, [⟨CLK_SNAP_CTRL_SEQ, .RO, .any⟩, ⟨CLK_SNAP_CTRL_OVERRUN, .W1C, .any⟩, ⟨CLK_SNAP_CTRL_CAP_EDGE, .RW, .any⟩, ⟨CLK_SNAP_CTRL_CAP_EN, .RW, .any⟩, ⟨CLK_SNAP_CTRL_SW, .WO, .any⟩]⟩,
  ⟨0x20010344, 0x0, 0, 1, [⟨CLK_SNAP_TB_LO_TB, .RO, .any⟩]⟩,
  ⟨0x20010348, 0x0, 0, 1, [⟨CLK_SNAP_TB_HI_DEGRADED, .RO, .any⟩, ⟨CLK_SNAP_TB_HI_TB, .RO, .any⟩]⟩,
  ⟨0x2001034C, 0x0, 0, 1, [⟨CLK_SNAP_SEC_LO_SEC, .RO, .any⟩]⟩,
  ⟨0x20010350, 0x0, 0, 1, [⟨CLK_SNAP_SEC_HI_SEC, .RO, .any⟩]⟩,
  ⟨0x20010354, 0x0, 0, 1, [⟨CLK_SNAP_NS_NS, .RO, .any⟩]⟩,
  ⟨0x20010400, 0x10, 0, 4, [⟨CLK_TTRIG_n_CTRL_FIRED, .W1C, .any⟩, ⟨CLK_TTRIG_n_CTRL_LATE, .W1C, .any⟩, ⟨CLK_TTRIG_n_CTRL_TARGET, .RW, (.rng 0 3)⟩, ⟨CLK_TTRIG_n_CTRL_ARM, .RW, .any⟩]⟩,
  ⟨0x20010404, 0x10, 0, 4, [⟨CLK_TTRIG_n_SEC_SEC, .RW, .any⟩]⟩,
  ⟨0x20010408, 0x10, 0, 4, [⟨CLK_TTRIG_n_NS_NS, .RW, (.rng 0 999999999)⟩]⟩,
  ⟨0x2001FFFC, 0x0, 0, 1, [⟨CLK_SNAPSEQ_SEQ, .RO, .any⟩]⟩]

/-- Registers of `SNS`. -/
def regsSNS0 : List Reg := [
  ⟨0x20030004, 0x0, 0, 1, [⟨SNS_STAT_AUX_TEST_PENDING, .RO, .any⟩, ⟨SNS_STAT_MTR_CAL_PENDING, .RO, .any⟩, ⟨SNS_STAT_AUX_OVERRUN, .W1C, .any⟩, ⟨SNS_STAT_MTR_CAL_FAULT, .W1C, .any⟩, ⟨SNS_STAT_AUX_TEST_FAULT, .W1C, .any⟩, ⟨SNS_STAT_CLK_FALLBACK, .RO, .any⟩]⟩,
  ⟨0x20030008, 0x0, 0, 1, [⟨SNS_CAP_CAP_VER, .RO, .any⟩, ⟨SNS_CAP_SD_COUNT, .RO, .any⟩, ⟨SNS_CAP_CMP_COUNT, .RO, .any⟩, ⟨SNS_CAP_MTR_COUNT, .RO, .any⟩, ⟨SNS_CAP_AUX_COUNT, .RO, .any⟩, ⟨SNS_CAP_FEAT, .RO, .any⟩]⟩,
  ⟨0x20030010, 0x4, 0, 4, [⟨SNS_SDCK_k_EN, .RW, .any⟩, ⟨SNS_SDCK_k_RUNNING, .RO, .any⟩, ⟨SNS_SDCK_k_DIV, .RW, (.rng 4 20)⟩]⟩,
  ⟨0x20030100, 0x20, 0, 24, [⟨SNS_SD_n_CFG_RUN, .RW, .any⟩, ⟨SNS_SD_n_CFG_DLY, .RW, .any⟩, ⟨SNS_SD_n_CFG_CLK_SEL, .RW, .any⟩, ⟨SNS_SD_n_CFG_EN, .RW, .any⟩]⟩,
  ⟨0x20030104, 0x20, 0, 24, [⟨SNS_SD_n_FILT_CF_EN, .RW, .any⟩, ⟨SNS_SD_n_FILT_CF_OSR, .RW, (.rng 7 255)⟩, ⟨SNS_SD_n_FILT_PF_EN, .RW, .any⟩, ⟨SNS_SD_n_FILT_PF_ORD, .RW, (.rng 1 3)⟩, ⟨SNS_SD_n_FILT_PF_OSR, .RW, (.rng 3 31)⟩]⟩,
  ⟨0x20030108, 0x20, 0, 24, [⟨SNS_SD_n_SYNC_EN, .RW, .any⟩, ⟨SNS_SD_n_SYNC_POINT, .RW, .any⟩, ⟨SNS_SD_n_SYNC_LEG, .RW, (.rng 0 23)⟩, ⟨SNS_SD_n_SYNC_OFS, .RW, .any⟩]⟩,
  ⟨0x2003010C, 0x20, 0, 24, [⟨SNS_CF_n_LO_VAL, .RO, .any⟩]⟩,
  ⟨0x20030110, 0x20, 0, 24, [⟨SNS_CF_n_HI_DEGRADED, .RO, .any⟩, ⟨SNS_CF_n_HI_INVALID, .RO, .any⟩, ⟨SNS_CF_n_HI_REALIGN, .RO, .any⟩, ⟨SNS_CF_n_HI_SAT, .RO, .any⟩, ⟨SNS_CF_n_HI_SEQ, .RO, .any⟩]⟩,
  ⟨0x20030114, 0x20, 0, 24, [⟨SNS_PF_n_VAL, .RO, .any⟩]⟩,
  ⟨0x20030118, 0x20, 0, 24, [⟨SNS_SD_n_STAT_STUCK_CNT, .RO, .any⟩, ⟨SNS_SD_n_STAT_CNT_OVF, .W1C, .any⟩, ⟨SNS_SD_n_STAT_LATCHED, .W1C, .any⟩, ⟨SNS_SD_n_STAT_STUCK_SEEN, .W1C, .any⟩, ⟨SNS_SD_n_STAT_STUCK, .RO, .any⟩]⟩,
  ⟨0x20030400, 0x8, 0, 16, [⟨SNS_CMP_m_CFG_EN, .RW, .any⟩, ⟨SNS_CMP_m_CFG_STUCK_TRIP, .RW, .any⟩, ⟨SNS_CMP_m_CFG_MODE, .RW, (.rng 1 3)⟩, ⟨SNS_CMP_m_CFG_SRC, .RW, (.rng 0 23)⟩, ⟨SNS_CMP_m_CFG_HYST, .RW, .any⟩]⟩,
  ⟨0x20030404, 0x8, 0, 16, [⟨SNS_CMP_m_LIM_HI, .RW, .any⟩, ⟨SNS_CMP_m_LIM_LO, .RW, .any⟩]⟩,
  ⟨0x20030480, 0x0, 0, 1, [⟨SNS_CMP_STAT_SEEN, .W1C, .any⟩, ⟨SNS_CMP_STAT_OUT, .RO, .any⟩]⟩,
  ⟨0x20030500, 0x0, 0, 1, [⟨SNS_MTR_CTRL_ROT_EN, .RW, .any⟩, ⟨SNS_MTR_CTRL_SPARE, .RW, .any⟩, ⟨SNS_MTR_CTRL_ROT_PER, .RW, .nz⟩, ⟨SNS_MTR_CTRL_EN, .RW, .any⟩]⟩,
  ⟨0x20030504, 0x0, 0, 1, [⟨SNS_MTR_GAIN_AUTO, .RW, .any⟩, ⟨SNS_MTR_GAIN_FIX, .RW, .any⟩]⟩,
  ⟨0x20030508, 0x0, 0, 1, [⟨SNS_MTR_ROT_ROT_SEQ, .RO, .any⟩, ⟨SNS_MTR_ROT_STEP_ACTIVE, .RO, .any⟩, ⟨SNS_MTR_ROT_STEP_CH, .RO, .any⟩, ⟨SNS_MTR_ROT_SPARE_CONV, .RO, .any⟩, ⟨SNS_MTR_ROT_REQ, .W1S, .any⟩]⟩,
  ⟨0x20030540, 0x8, 0, 8, [⟨SNS_MTR_n_LO_VAL, .RO, .any⟩]⟩,
  ⟨0x20030544, 0x8, 0, 8, [⟨SNS_MTR_n_HI_CONV, .RO, .any⟩, ⟨SNS_MTR_n_HI_DEGRADED, .RO, .any⟩, ⟨SNS_MTR_n_HI_OVL, .RO, .any⟩, ⟨SNS_MTR_n_HI_X1_PATH, .RO, .any⟩, ⟨SNS_MTR_n_HI_HANDOVER, .RO, .any⟩, ⟨SNS_MTR_n_HI_GAIN, .RO, .any⟩, ⟨SNS_MTR_n_HI_SEQ, .RO, .any⟩]⟩,
  ⟨0x20030580, 0x4, 0, 8, [⟨SNS_MTR_CONV_k_CAL_VALID, .RO, .any⟩, ⟨SNS_MTR_CONV_k_CAL_FAIL, .W1C, .any⟩, ⟨SNS_MTR_CONV_k_CAL_SEQ, .RO, .any⟩, ⟨SNS_MTR_CONV_k_CAL_OFS, .RO, .any⟩]⟩,
  ⟨0x20030600, 0x0, 0, 1, [⟨SNS_AUX_CTRL_EN, .RW, .any⟩, ⟨SNS_AUX_CTRL_REF_EXT, .RW, .any⟩, ⟨SNS_AUX_CTRL_OW_I, .RW, .any⟩, ⟨SNS_AUX_CTRL_OW_EVERY, .RW, .any⟩, ⟨SNS_AUX_CTRL_ST_PER, .RW, .any⟩, ⟨SNS_AUX_CTRL_SCAN_PER, .RW, (.rng 10 10000)⟩]⟩,
  ⟨0x20030640, 0x4, 0, 16, [⟨SNS_AUX_n_CFG_EN, .RW, .any⟩, ⟨SNS_AUX_n_CFG_DIFF, .RW, .any⟩, ⟨SNS_AUX_n_CFG_OW_EN, .RW, .any⟩, ⟨SNS_AUX_n_CFG_SETTLE, .RW, (.rng 10 1023)⟩]⟩,
  ⟨0x20030680, 0x4, 0, 16, [⟨SNS_AUX_n_LIM_HI, .RW, .any⟩, ⟨SNS_AUX_n_LIM_LO, .RW, .any⟩]⟩,
  ⟨0x200306C0, 0x4, 0, 16, [⟨SNS_AUX_n_RES_SEQ, .RO, .any⟩, ⟨SNS_AUX_n_RES_SETTLED, .RO, .any⟩, ⟨SNS_AUX_n_RES_OPEN, .RO, .any⟩, ⟨SNS_AUX_n_RES_RANGE, .RO, .any⟩, ⟨SNS_AUX_n_RES_DEGRADED, .RO, .any⟩, ⟨SNS_AUX_n_RES_CODE, .RO, .any⟩]⟩,
  ⟨0x20030700, 0x0, 0, 1, [⟨SNS_AUX_STAT_OW_SEEN, .W1C, .any⟩, ⟨SNS_AUX_STAT_OW, .RO, .any⟩]⟩,
  ⟨0x20030704, 0x0, 0, 1, [⟨SNS_AUX_RNG_RNG_SEEN, .W1C, .any⟩, ⟨SNS_AUX_RNG_RNG, .RO, .any⟩]⟩,
  ⟨0x20030708, 0x0, 0, 1, [⟨SNS_AUX_TEST_ST_SEQ, .RO, .any⟩, ⟨SNS_AUX_TEST_FAIL, .RO, .any⟩, ⟨SNS_AUX_TEST_REQ, .W1S, .any⟩]⟩,
  ⟨0x2003FFFC, 0x0, 0, 1, [⟨SNS_SNAPSEQ_SEQ, .RO, .any⟩]⟩]

/-- Registers of `PWM`. -/
def regsPWM0 : List Reg := [
  ⟨0x20020008, 0x0, 0, 1, [⟨PWM_CAP_CAP_VER, .RO, .any⟩, ⟨PWM_CAP_LEG_COUNT, .RO, .any⟩, ⟨PWM_CAP_FINE_COUNT, .RO, .any⟩, ⟨PWM_CAP_CG_COUNT, .RO, .any⟩, ⟨PWM_CAP_FG_COUNT, .RO, .any⟩, ⟨PWM_CAP_FEAT, .RO, .any⟩]⟩,
  ⟨0x20020010, 0x0, 0, 1, [⟨PWM_RUNSTAT_RUN, .RO, .any⟩]⟩,
  ⟨0x20020014, 0x0, 0, 1, [⟨PWM_SHLOCK_LOCK, .RW, .any⟩]⟩,
  ⟨0x20020020, 0x0, 0, 1, [⟨PWM_DLCAL_DL_FAULT, .W1C, .any⟩, ⟨PWM_DLCAL_DL_COARSE, .W1C, .any⟩, ⟨PWM_DLCAL_CAL_OK, .RO, .any⟩, ⟨PWM_DLCAL_DL_ERR, .RO, .any⟩, ⟨PWM_DLCAL_CAL_SEQ, .RO, .any⟩, ⟨PWM_DLCAL_TRIM, .RO, .any⟩]⟩,
  ⟨0x20020030, 0x0, 0, 1, [⟨PWM_ALIGN_CTRL_EN, .RW, .any⟩, ⟨PWM_ALIGN_CTRL_CG_MASK, .RW, .any⟩, ⟨PWM_ALIGN_CTRL_LOSS_WIN, .RW, .nz⟩, ⟨PWM_ALIGN_CTRL_STEP, .RW, .nz⟩, ⟨PWM_ALIGN_CTRL_LOSS_PER, .RW, .nz⟩, ⟨PWM_ALIGN_CTRL_LOSS_ACT, .RW, .any⟩]⟩,
  ⟨0x20020034, 0x0, 0, 1, [⟨PWM_ALIGN_STAT_ALIGNED, .RO, .any⟩, ⟨PWM_ALIGN_STAT_LOST, .W1C, .any⟩, ⟨PWM_ALIGN_STAT_OFFSET, .RO, .any⟩]⟩,
  ⟨0x20020040, 0x10, 0, 8, [⟨PWM_CG_g_CFG_RUN, .RW, .any⟩, ⟨PWM_CG_g_CFG_TT_START, .RW, .any⟩, ⟨PWM_CG_g_CFG_PRESC, .RW, .any⟩, ⟨PWM_CG_g_CFG_MODE, .RW, .any⟩]⟩,
  ⟨0x20020044, 0x10, 0, 8, [⟨PWM_CG_g_PER_PER, .RW, (.rng 16 1048575)⟩]⟩,
  ⟨0x20020048, 0x10, 0, 8, [⟨PWM_CG_g_CNT_WAIT, .RO, .any⟩, ⟨PWM_CG_g_CNT_DOWN, .RO, .any⟩, ⟨PWM_CG_g_CNT_COUNT, .RO, .any⟩]⟩,
  ⟨0x200200C0, 0x4, 0, 8, [⟨PWM_FORCE_g_PEND, .RO, .any⟩, ⟨PWM_FORCE_g_L_CODE, .RW, (.rng 0 2)⟩, ⟨PWM_FORCE_g_H_CODE, .RW, (.rng 0 2)⟩]⟩,
  ⟨0x20020200, 0x20, 0, 24, [⟨PWM_LEG_n_CTRL_EN, .RW, .any⟩, ⟨PWM_LEG_n_CTRL_SRC, .RW, .any⟩, ⟨PWM_LEG_n_CTRL_LOAD, .RW, .nz⟩, ⟨PWM_LEG_n_CTRL_MINP_MODE, .RW, .any⟩, ⟨PWM_LEG_n_CTRL_CGRP, .RW, .any⟩, ⟨PWM_LEG_n_CTRL_FGRP, .RW, (.oneOf [0, 1, 2, 3, 4, 5, 6, 7, 15])⟩, ⟨PWM_LEG_n_CTRL_SAFE, .RW, (.rng 0 2)⟩, ⟨PWM_LEG_n_CTRL_MINP, .RW, .any⟩]⟩,
  ⟨0x20020204, 0x20, 0, 24, [⟨PWM_LEG_n_DT_DT_L, .RW, .any⟩, ⟨PWM_LEG_n_DT_DT_H, .RW, .any⟩]⟩,
  ⟨0x20020208, 0x20, 0, 24, [⟨PWM_LEG_n_PHS_PHS, .RW, .any⟩]⟩,
  ⟨0x2002020C, 0x20, 0, 24, [⟨PWM_LEG_n_CMPA_CMP, .RW, .any⟩]⟩,
  ⟨0x20020210, 0x20, 0, 24, [⟨PWM_LEG_n_CMPB_CMP, .RW, .any⟩]⟩,
  ⟨0x20020214, 0x20, 0, 24, [⟨PWM_LEG_n_CARRY_CARRY, .RO, .any⟩]⟩,
  ⟨0x20020218, 0x20, 0, 24, [⟨PWM_LEG_n_STAT_ILK_CNT, .RO, .any⟩, ⟨PWM_LEG_n_STAT_ILK_OVF, .W1C, .any⟩, ⟨PWM_LEG_n_STAT_CARRY_OVF, .W1C, .any⟩, ⟨PWM_LEG_n_STAT_MINP_SEEN, .W1C, .any⟩, ⟨PWM_LEG_n_STAT_COMMIT_LATE, .W1C, .any⟩, ⟨PWM_LEG_n_STAT_COMMIT_MISS, .W1C, .any⟩, ⟨PWM_LEG_n_STAT_FORCED, .RO, .any⟩, ⟨PWM_LEG_n_STAT_SAFE_ACT, .RO, .any⟩, ⟨PWM_LEG_n_STAT_RUN, .RO, .any⟩]⟩,
  ⟨0x2002021C, 0x20, 0, 24, [⟨PWM_LEG_n_LPS_SH_PEND, .RO, .any⟩, ⟨PWM_LEG_n_LPS_COMMIT_SEQ, .RO, .any⟩, ⟨PWM_LEG_n_LPS_LP_SEQ, .RO, .any⟩]⟩]

/-- Registers of `TRP`. -/
def regsTRP0 : List Reg := [
  ⟨0x20040004, 0x0, 0, 1, [⟨TRP_STAT_GRP_SEEN, .W1C, .any⟩, ⟨TRP_STAT_GRP_TRIP, .RO, .any⟩, ⟨TRP_STAT_BANK_FORCE, .RO, .any⟩, ⟨TRP_STAT_LATCH_ANY, .RO, .any⟩, ⟨TRP_STAT_TRIP_ANY, .RO, .any⟩, ⟨TRP_STAT_CLR_REFUSED, .W1C, .any⟩]⟩,
  ⟨0x20040008, 0x0, 0, 1, [⟨TRP_CAP_CAP_VER, .RO, .any⟩, ⟨TRP_CAP_IN_COUNT, .RO, .any⟩, ⟨TRP_CAP_CMP_COUNT, .RO, .any⟩, ⟨TRP_CAP_GRP_COUNT, .RO, .any⟩, ⟨TRP_CAP_CLS_COUNT, .RO, .any⟩, ⟨TRP_CAP_FEAT, .RO, .any⟩]⟩,
  ⟨0x20040010, 0x0, 0, 1, [⟨TRP_TRIPPED_LEGS, .RO, .any⟩]⟩,
  ⟨0x20040014, 0x0, 0, 1, [⟨TRP_LATCHED_LEGS, .RO, .any⟩]⟩,
  ⟨0x20040018, 0x0, 0, 1, [⟨TRP_CLR_LEGS, .WO, .any⟩]⟩,
  ⟨0x2004001C, 0x0, 0, 1, [⟨TRP_SWTRIP_LEGS, .WO, .any⟩]⟩,
  ⟨0x20040100, 0x4, 0, 24, [⟨TRP_IN_n_CFG_EN, .RW, .any⟩, ⟨TRP_IN_n_CFG_POL, .RW, .any⟩, ⟨TRP_IN_n_CFG_DESAT, .RW, .any⟩, ⟨TRP_IN_n_CFG_SW, .RW, (.rng 0 2)⟩, ⟨TRP_IN_n_CFG_LEG, .RW, (.rng 0 23)⟩, ⟨TRP_IN_n_CFG_FILT, .RW, .any⟩]⟩,
  ⟨0x20040180, 0x0, 0, 1, [⟨TRP_IN_STAT_ACT, .RO, .any⟩]⟩,
  ⟨0x20040184, 0x0, 0, 1, [⟨TRP_IN_SEEN_SEEN, .W1C, .any⟩]⟩,
  ⟨0x20040200, 0x4, 0, 16, [⟨TRP_CMP_m_CFG_EN, .RW, .any⟩, ⟨TRP_CMP_m_CFG_SIDE, .RW, (.rng 0 2)⟩, ⟨TRP_CMP_m_CFG_LEGS, .RW, .any⟩]⟩,
  ⟨0x20040300, 0x8, 0, 24, [⟨TRP_LEG_n_CFG_CLS, .RW, .any⟩, ⟨TRP_LEG_n_CFG_BLANK_L, .RW, (.rng 0 200)⟩, ⟨TRP_LEG_n_CFG_BLANK_H, .RW, (.rng 0 200)⟩]⟩,
  ⟨0x20040304, 0x8, 0, 24, [⟨TRP_LEG_n_STAT_TRIP_CNT, .RO, .any⟩, ⟨TRP_LEG_n_STAT_WIN_CNT, .RO, .any⟩, ⟨TRP_LEG_n_STAT_CNT_OVF, .W1C, .any⟩, ⟨TRP_LEG_n_STAT_BLANK_FLT, .W1C, .any⟩, ⟨TRP_LEG_n_STAT_CAUSE, .RO, .any⟩, ⟨TRP_LEG_n_STAT_FIRST_SW, .RO, .any⟩, ⟨TRP_LEG_n_STAT_STATE, .RO, .any⟩]⟩,
  ⟨0x20040400, 0x4, 0, 8, [⟨TRP_CLS_k_LIMIT, .RW, .nz⟩, ⟨TRP_CLS_k_HOLDOFF, .RW, .any⟩, ⟨TRP_CLS_k_WINDOW, .RW, (.rng 1 60000)⟩]⟩,
  ⟨0x20040480, 0x8, 0, 4, [⟨TRP_GRP_k_MASK_LEGS, .RW, .any⟩]⟩,
  ⟨0x20040484, 0x8, 0, 4, [⟨TRP_GRP_k_CFG_EN, .RW, .any⟩, ⟨TRP_GRP_k_CFG_COINC, .RW, .nz⟩]⟩]

/-- Registers of `CEN`. -/
def regsCEN0 : List Reg := [
  ⟨0x20050000, 0x0, 0, 1, [⟨CEN_CTRL_EN, .RW, .any⟩, ⟨CEN_CTRL_ST_PER, .RW, .any⟩]⟩,
  ⟨0x20050004, 0x0, 0, 1, [⟨CEN_STAT_MEM_UE, .W1C, .any⟩, ⟨CEN_STAT_TEST_PENDING, .RO, .any⟩, ⟨CEN_STAT_TEST_FAULT, .W1C, .any⟩, ⟨CEN_STAT_SAT_ANY, .RO, .any⟩, ⟨CEN_STAT_FAULT_ANY, .RO, .any⟩]⟩,
  ⟨0x20050008, 0x0, 0, 1, [⟨CEN_CAP_CAP_VER, .RO, .any⟩, ⟨CEN_CAP_SLOT_COUNT, .RO, .any⟩, ⟨CEN_CAP_GRP_COUNT, .RO, .any⟩, ⟨CEN_CAP_LANE_COUNT, .RO, .any⟩, ⟨CEN_CAP_TRC_COUNT, .RO, .any⟩, ⟨CEN_CAP_FEAT, .RO, .any⟩]⟩,
  ⟨0x2005000C, 0x0, 0, 1, [⟨CEN_EVCODE_OVERRUN, .W1C, .any⟩, ⟨CEN_EVCODE_SLOT, .RO, .any⟩, ⟨CEN_EVCODE_CODE, .RO, .any⟩]⟩,
  ⟨0x20050010, 0x4, 0, 4, [⟨CEN_LANE_l_STAT_BUSY, .RO, .any⟩, ⟨CEN_LANE_l_STAT_LOAD, .RO, .any⟩]⟩,
  ⟨0x20050020, 0x0, 0, 1, [⟨CEN_TEST_ST_SEQ, .RO, .any⟩, ⟨CEN_TEST_LATCH, .W1C, .any⟩, ⟨CEN_TEST_FAIL, .RO, .any⟩, ⟨CEN_TEST_REQ, .W1S, .any⟩]⟩,
  ⟨0x20050024, 0x0, 0, 1, [⟨CEN_MEMERR_CE_CNT, .RO, .any⟩, ⟨CEN_MEMERR_CE_OVF, .W1C, .any⟩, ⟨CEN_MEMERR_REGION, .RO, .any⟩, ⟨CEN_MEMERR_ADDR, .RO, .any⟩]⟩,
  ⟨0x20050100, 0x20, 0, 64, [⟨CEN_SLOT_s_CFG_EN, .RW, .any⟩, ⟨CEN_SLOT_s_CFG_LEGCOMMIT, .RW, .any⟩, ⟨CEN_SLOT_s_CFG_LANE, .RW, .any⟩, ⟨CEN_SLOT_s_CFG_PRIO, .RW, .any⟩, ⟨CEN_SLOT_s_CFG_TRG_TYPE, .RW, (.rng 0 4)⟩]⟩,
  ⟨0x20050104, 0x20, 0, 64, [⟨CEN_SLOT_s_ENTRY_ENTRY, .RW, .any⟩]⟩,
  ⟨0x20050108, 0x20, 0, 64, [⟨CEN_SLOT_s_BASE_CB, .RW, .any⟩, ⟨CEN_SLOT_s_BASE_SB, .RW, .any⟩]⟩,
  ⟨0x2005010C, 0x20, 0, 64, [⟨CEN_SLOT_s_TRG_SRC, .RW, .any⟩]⟩,
  ⟨0x20050110, 0x20, 0, 64, [⟨CEN_SLOT_s_LEGS_LEGS, .RW, .any⟩]⟩,
  ⟨0x20050114, 0x20, 0, 64, [⟨CEN_SLOT_s_TRK_TEN, .RW, .any⟩, ⟨CEN_SLOT_s_TRK_KB, .RW, .any⟩, ⟨CEN_SLOT_s_TRK_INT, .RW, .any⟩]⟩,
  ⟨0x20050118, 0x20, 0, 64, [⟨CEN_SLOT_s_STAT_MISS_CNT, .RO, .any⟩, ⟨CEN_SLOT_s_STAT_WIN_CNT, .RO, .any⟩, ⟨CEN_SLOT_s_STAT_MISS_OVF, .W1C, .any⟩, ⟨CEN_SLOT_s_STAT_SAT_SEEN, .W1C, .any⟩, ⟨CEN_SLOT_s_STAT_FAULT, .W1C, .any⟩, ⟨CEN_SLOT_s_STAT_FCAUSE, .RO, .any⟩, ⟨CEN_SLOT_s_STAT_SPEC, .RO, .any⟩, ⟨CEN_SLOT_s_STAT_STATE, .RO, .any⟩]⟩,
  ⟨0x2005011C, 0x20, 0, 64, [⟨CEN_SLOT_s_RUN_MAX_STEPS, .RC, .any⟩, ⟨CEN_SLOT_s_RUN_LAST_STEPS, .RO, .any⟩]⟩,
  ⟨0x20050A00, 0x20, 0, 16, [⟨CEN_GRP_g_CFG_EN, .RW, .any⟩, ⟨CEN_GRP_g_CFG_CEIL_EN, .RW, .any⟩, ⟨CEN_GRP_g_CFG_WEV, .RW, .any⟩, ⟨CEN_GRP_g_CFG_SEL, .RW, .any⟩, ⟨CEN_GRP_g_CFG_RAMP, .RW, (.rng 1 500)⟩]⟩,
  ⟨0x20050A04, 0x20, 0, 16, [⟨CEN_GRP_g_MA_MEMB, .RW, .any⟩]⟩,
  ⟨0x20050A08, 0x20, 0, 16, [⟨CEN_GRP_g_MB_MEMB, .RW, .any⟩]⟩,
  ⟨0x20050A0C, 0x20, 0, 16, [⟨CEN_GRP_g_UPPER_VAL, .RW, .any⟩]⟩,
  ⟨0x20050A10, 0x20, 0, 16, [⟨CEN_GRP_g_LOWER_VAL, .RW, .any⟩]⟩,
  ⟨0x20050A14, 0x20, 0, 16, [⟨CEN_GRP_g_CEIL_VAL, .RO, .any⟩]⟩,
  ⟨0x20050A18, 0x20, 0, 16, [⟨CEN_GRP_g_OUT_VAL, .RO, .any⟩]⟩,
  ⟨0x20050A1C, 0x20, 0, 16, [⟨CEN_GRP_g_STAT_SEQ, .RO, .any⟩, ⟨CEN_GRP_g_STAT_CLAMP, .RO, .any⟩, ⟨CEN_GRP_g_STAT_RAMP_ACT, .RO, .any⟩, ⟨CEN_GRP_g_STAT_CEIL_WIN, .RO, .any⟩, ⟨CEN_GRP_g_STAT_WINNER, .RO, .any⟩, ⟨CEN_GRP_g_STAT_ACTIVE, .RO, .any⟩]⟩,
  ⟨0x20050C00, 0x0, 0, 1, [⟨CEN_TRC_CTRL_ARM, .RW, .any⟩, ⟨CEN_TRC_CTRL_SWTRIG, .WO, .any⟩, ⟨CEN_TRC_CTRL_EV_EN, .RW, .any⟩, ⟨CEN_TRC_CTRL_EV_SEL, .RW, .any⟩, ⟨CEN_TRC_CTRL_POST, .RW, .any⟩]⟩,
  ⟨0x20050C04, 0x0, 0, 1, [⟨CEN_TRC_STAT_TRIG_SEQ, .RO, .any⟩, ⟨CEN_TRC_STAT_OVR, .W1C, .any⟩, ⟨CEN_TRC_STAT_DONE, .RO, .any⟩, ⟨CEN_TRC_STAT_TRIGGERED, .RO, .any⟩, ⟨CEN_TRC_STAT_RECORDING, .RO, .any⟩]⟩,
  ⟨0x20050C10, 0x10, 0, 4, [⟨CEN_TRC_c_CFG_EN, .RW, .any⟩, ⟨CEN_TRC_c_CFG_STREAM, .RW, .any⟩, ⟨CEN_TRC_c_CFG_SRC, .RW, .any⟩, ⟨CEN_TRC_c_CFG_IDX, .RW, .any⟩, ⟨CEN_TRC_c_CFG_RSIZE, .RW, .any⟩]⟩,
  ⟨0x20050C14, 0x10, 0, 4, [⟨CEN_TRC_c_BASE_BASE, .RW, .any⟩]⟩,
  ⟨0x20050C18, 0x10, 0, 4, [⟨CEN_TRC_c_WPTR_OFS, .RO, .any⟩]⟩,
  ⟨0x20050C1C, 0x10, 0, 4, [⟨CEN_TRC_c_RPTR_OFS, .RW, .any⟩]⟩]

/-- Registers of `GRD`. -/
def regsGRD0 : List Reg := [
  ⟨0x20060000, 0x0, 0, 1, [⟨GRD_CTRL_EN, .RW, .any⟩, ⟨GRD_CTRL_LI_EN, .RW, .any⟩, ⟨GRD_CTRL_RC_AUTO, .RW, .any⟩, ⟨GRD_CTRL_NOM_F, .RW, .any⟩, ⟨GRD_CTRL_DRC_EN, .RW, .any⟩, ⟨GRD_CTRL_ACT_INV_DISC, .RW, .any⟩]⟩,
  ⟨0x20060004, 0x0, 0, 1, [⟨GRD_STAT_MEAS_LOST, .RO, .any⟩, ⟨GRD_STAT_TRK_LOCK, .RO, .any⟩, ⟨GRD_STAT_RC_MET, .RO, .any⟩, ⟨GRD_STAT_RC_PEND, .RO, .any⟩, ⟨GRD_STAT_CEASE_FAIL, .W1C, .any⟩, ⟨GRD_STAT_CONTACT_FAIL, .W1C, .any⟩, ⟨GRD_STAT_LOCKOUT, .RO, .any⟩, ⟨GRD_STAT_STATE, .RO, .any⟩]⟩,
  ⟨0x20060008, 0x0, 0, 1, [⟨GRD_CAP_CAP_VER, .RO, .any⟩, ⟨GRD_CAP_STG_COUNT, .RO, .any⟩, ⟨GRD_CAP_PEER_COUNT, .RO, .any⟩, ⟨GRD_CAP_FEAT, .RO, .any⟩]⟩,
  ⟨0x20060010, 0x0, 0, 1, [⟨GRD_NOM_IRATED, .RW, .any⟩, ⟨GRD_NOM_VNOM, .RW, .any⟩]⟩,
  ⟨0x20060014, 0x0, 0, 1, [⟨GRD_CH_MAP, .RW, .any⟩]⟩,
  ⟨0x20060018, 0x0, 0, 1, [⟨GRD_SCALE_V_SCALE, .RW, .any⟩]⟩,
  ⟨0x2006001C, 0x0, 0, 1, [⟨GRD_SCALE_I_SCALE, .RW, .any⟩]⟩,
  ⟨0x20060020, 0x0, 0, 1, [⟨GRD_LEGS_LEGS, .RW, .any⟩]⟩,
  ⟨0x20060024, 0x0, 0, 1, [⟨GRD_DCLEGS_LEGS, .RW, .any⟩]⟩,
  ⟨0x20060028, 0x0, 0, 1, [⟨GRD_PUB_EN, .RW, .any⟩, ⟨GRD_PUB_BASE, .RW, (.rng 0 32752)⟩]⟩,
  ⟨0x2006002C, 0x0, 0, 1, [⟨GRD_TRK_ROC_WIN, .RW, (.rng 2 50)⟩, ⟨GRD_TRK_BW, .RW, .any⟩]⟩,
  ⟨0x20060040, 0x0, 0, 1, [⟨GRD_MEAS_V_VMAX, .RO, .any⟩, ⟨GRD_MEAS_V_VMIN, .RO, .any⟩]⟩,
  ⟨0x20060044, 0x0, 0, 1, [⟨GRD_MEAS_SEQ_VNEG, .RO, .any⟩, ⟨GRD_MEAS_SEQ_VPOS, .RO, .any⟩]⟩,
  ⟨0x20060048, 0x0, 0, 1, [⟨GRD_MEAS_F_ROCOF, .RO, .any⟩, ⟨GRD_MEAS_F_FREQ, .RO, .any⟩]⟩,
  ⟨0x2006004C, 0x0, 0, 1, [⟨GRD_MEAS_ANG_ANG, .RO, .any⟩]⟩,
  ⟨0x20060050, 0x0, 0, 1, [⟨GRD_MEAS_UNB_V10, .RO, .any⟩, ⟨GRD_MEAS_UNB_UNBAL, .RO, .any⟩]⟩,
  ⟨0x20060054, 0x0, 0, 1, [⟨GRD_MEAS_CNT_SEQ, .RO, .any⟩]⟩,
  ⟨0x20060080, 0x0, 0, 1, [⟨GRD_RT_V_CONT_HI, .RW, .any⟩, ⟨GRD_RT_V_CONT_LO, .RW, .any⟩]⟩,
  ⟨0x20060084, 0x0, 0, 1, [⟨GRD_RT_MC_MC_HI, .RW, .any⟩, ⟨GRD_RT_MC_MC_LO, .RW, .any⟩]⟩,
  ⟨0x20060088, 0x0, 0, 1, [⟨GRD_RT_F_CONT_FHI, .RW, .any⟩, ⟨GRD_RT_F_CONT_FLO, .RW, .any⟩]⟩,
  ⟨0x2006008C, 0x0, 0, 1, [⟨GRD_RT_HYST_F_HYST, .RW, .any⟩, ⟨GRD_RT_HYST_V_HYST, .RW, .any⟩]⟩,
  ⟨0x20060090, 0x0, 0, 1, [⟨GRD_DRC_K, .RW, .any⟩, ⟨GRD_DRC_DB, .RW, .any⟩]⟩,
  ⟨0x20060094, 0x0, 0, 1, [⟨GRD_DRC_LIM_IMAX, .RW, .any⟩, ⟨GRD_DRC_LIM_IQ_MAX, .RW, .any⟩]⟩,
  ⟨0x20060098, 0x0, 0, 1, [⟨GRD_CEASE_CEASE_T, .RW, (.rng 20 1000)⟩, ⟨GRD_CEASE_CEASE_I, .RW, .any⟩]⟩,
  ⟨0x20060100, 0x8, 0, 16, [⟨GRD_STG_k_CFG_EN, .RW, .any⟩, ⟨GRD_STG_k_CFG_DIR, .RW, .any⟩, ⟨GRD_STG_k_CFG_ACT, .RW, (.rng 0 1)⟩, ⟨GRD_STG_k_CFG_QTY, .RW, (.rng 0 6)⟩, ⟨GRD_STG_k_CFG_HYST, .RW, .any⟩, ⟨GRD_STG_k_CFG_THR, .RW, .any⟩]⟩,
  ⟨0x20060104, 0x8, 0, 16, [⟨GRD_STG_k_LIM_TIME, .RW, .any⟩]⟩,
  ⟨0x20060180, 0x0, 0, 1, [⟨GRD_STG_STAT_OPER_SEEN, .W1C, .any⟩, ⟨GRD_STG_STAT_PICKUP, .RO, .any⟩]⟩,
  ⟨0x20060200, 0x0, 0, 1, [⟨GRD_ISL_CFG_ROC_MODE, .RW, (.rng 0 2)⟩, ⟨GRD_ISL_CFG_VS_MODE, .RW, (.rng 0 2)⟩, ⟨GRD_ISL_CFG_ACT_EN, .RW, .any⟩, ⟨GRD_ISL_CFG_COOP_EN, .RW, .any⟩, ⟨GRD_ISL_CFG_SUSP_HOLD, .RW, .nz⟩]⟩,
  ⟨0x20060204, 0x0, 0, 1, [⟨GRD_ISL_PAS_ROC_TH, .RW, .any⟩, ⟨GRD_ISL_PAS_ROC_T, .RW, .any⟩]⟩,
  ⟨0x20060208, 0x0, 0, 1, [⟨GRD_ISL_VS_VS_TH, .RW, (.rng 1 18000)⟩]⟩,
  ⟨0x20060210, 0x0, 0, 1, [⟨GRD_PROBE_CFG_PATTERN, .RW, .any⟩, ⟨GRD_PROBE_CFG_CONFIRM, .RW, .nz⟩, ⟨GRD_PROBE_CFG_PLEN, .RW, (.rng 0 2)⟩, ⟨GRD_PROBE_CFG_CHIP, .RW, .any⟩]⟩,
  ⟨0x20060214, 0x0, 0, 1, [⟨GRD_PROBE_AMP_AMP_SUSP, .RW, .any⟩, ⟨GRD_PROBE_AMP_AMP_IDLE, .RW, .any⟩]⟩,
  ⟨0x20060218, 0x0, 0, 1, [⟨GRD_PROBE_ZTH_ZTH, .RW, .any⟩]⟩,
  ⟨0x20060220, 0x0, 0, 1, [⟨GRD_ISL_STAT_DECL_SEQ, .RO, .any⟩, ⟨GRD_ISL_STAT_BY, .RO, .any⟩, ⟨GRD_ISL_STAT_ACT_INVALID, .RO, .any⟩, ⟨GRD_ISL_STAT_SUSPECT, .RO, .any⟩, ⟨GRD_ISL_STAT_SUSP_SEEN, .W1C, .any⟩, ⟨GRD_ISL_STAT_DECL_SEEN, .W1C, .any⟩]⟩,
  ⟨0x20060224, 0x0, 0, 1, [⟨GRD_PROBE_STAT_Z_EST, .RO, .any⟩, ⟨GRD_PROBE_STAT_UPD_SEQ, .RO, .any⟩, ⟨GRD_PROBE_STAT_VALID, .RO, .any⟩]⟩,
  ⟨0x20060228, 0x0, 0, 1, [⟨GRD_ISL_BOUND_BOUND, .RO, .any⟩]⟩,
  ⟨0x20060240, 0x0, 0, 1, [⟨GRD_COOP_CFG_BASE_TC, .RW, (.rng 1 60)⟩, ⟨GRD_COOP_CFG_MIN_PEERS, .RW, (.rng 1 8)⟩, ⟨GRD_COOP_CFG_CONF, .RW, .nz⟩, ⟨GRD_COOP_CFG_PER, .RW, (.rng 10 100)⟩]⟩,
  ⟨0x20060244, 0x0, 0, 1, [⟨GRD_COOP_TH_ANG_TH, .RW, (.rng 1 18000)⟩]⟩,
  ⟨0x20060248, 0x0, 0, 1, [⟨GRD_COOP_ID_ID, .RW, .any⟩]⟩,
  ⟨0x2006024C, 0x0, 0, 1, [⟨GRD_COOP_STAT_LOST_SEEN, .W1C, .any⟩, ⟨GRD_COOP_STAT_DIVERGE, .RO, .any⟩, ⟨GRD_COOP_STAT_VALID, .RO, .any⟩]⟩]

/-- Registers of `GRD`. -/
def regsGRD1 : List Reg := [
  ⟨0x20060260, 0x8, 0, 8, [⟨GRD_PEER_n_ID_ID, .RW, .any⟩]⟩,
  ⟨0x20060264, 0x8, 0, 8, [⟨GRD_PEER_n_CFG_EN, .RW, .any⟩, ⟨GRD_PEER_n_CFG_PATH, .RW, .any⟩, ⟨GRD_PEER_n_CFG_LINK, .RW, .any⟩]⟩,
  ⟨0x20060300, 0x0, 0, 1, [⟨GRD_RC_V_RC_VHI, .RW, .any⟩, ⟨GRD_RC_V_RC_VLO, .RW, .any⟩]⟩,
  ⟨0x20060304, 0x0, 0, 1, [⟨GRD_RC_F_RC_FHI, .RW, .any⟩, ⟨GRD_RC_F_RC_FLO, .RW, .any⟩]⟩,
  ⟨0x20060308, 0x0, 0, 1, [⟨GRD_RC_T_ES_RAMP, .RW, (.rng 1 1000)⟩, ⟨GRD_RC_T_RC_DELAY, .RW, (.rng 0 3600)⟩]⟩,
  ⟨0x2006030C, 0x0, 0, 1, [⟨GRD_CONTACT_CLOSE_TMO, .RW, (.rng 10 5000)⟩, ⟨GRD_CONTACT_OPEN_TMO, .RW, (.rng 10 1000)⟩]⟩,
  ⟨0x20060310, 0x4, 0, 2, [⟨GRD_MODE_GRP_j_EN, .RW, .any⟩, ⟨GRD_MODE_GRP_j_GRP, .RW, .any⟩, ⟨GRD_MODE_GRP_j_GRID_MASK, .RW, .any⟩, ⟨GRD_MODE_GRP_j_ISL_MASK, .RW, .any⟩]⟩]

/-- Registers of `WGH`. -/
def regsWGH0 : List Reg := [
  ⟨0x20070000, 0x0, 0, 1, [⟨WGH_CTRL_EN, .RW, .any⟩, ⟨WGH_CTRL_SOC_EN, .RW, .any⟩, ⟨WGH_CTRL_STALE, .RW, .nz⟩, ⟨WGH_CTRL_SOC_ADDR, .RW, .any⟩]⟩,
  ⟨0x20070004, 0x0, 0, 1, [⟨WGH_STAT_SEQ, .RO, .any⟩, ⟨WGH_STAT_PAR_LOST, .W1C, .any⟩, ⟨WGH_STAT_FOLLOWER, .RO, .any⟩, ⟨WGH_STAT_PAIR_BAD, .RO, .any⟩, ⟨WGH_STAT_RUN, .RO, .any⟩]⟩,
  ⟨0x20070008, 0x0, 0, 1, [⟨WGH_CAP_CAP_VER, .RO, .any⟩, ⟨WGH_CAP_REQ_COUNT, .RO, .any⟩, ⟨WGH_CAP_FEAT, .RO, .any⟩]⟩,
  ⟨0x20070010, 0x0, 0, 1, [⟨WGH_LINK_PMAX, .RW, .any⟩]⟩,
  ⟨0x20070014, 0x0, 0, 1, [⟨WGH_ENERGY_FLOOR, .RW, .any⟩, ⟨WGH_ENERGY_CUTOFF, .RW, .any⟩]⟩,
  ⟨0x20070018, 0x0, 0, 1, [⟨WGH_SUPPLY_E, .RO, .any⟩, ⟨WGH_SUPPLY_E_HYST, .RW, .any⟩, ⟨WGH_SUPPLY_LEVEL, .RO, .any⟩]⟩,
  ⟨0x20070020, 0x0, 0, 1, [⟨WGH_BURST_CFG_PV_CREDIT, .RW, .any⟩, ⟨WGH_BURST_CFG_STAGGER_T, .RW, (.rng 10 4095)⟩, ⟨WGH_BURST_CFG_STEP_MAX, .RW, (.rng 10 65535)⟩]⟩,
  ⟨0x20070024, 0x0, 0, 1, [⟨WGH_BURST_STAT_ACTIVE, .RO, .any⟩, ⟨WGH_BURST_STAT_REFUSED_SEEN, .W1C, .any⟩, ⟨WGH_BURST_STAT_SEQ, .RO, .any⟩, ⟨WGH_BURST_STAT_GRANTED, .RO, .any⟩]⟩,
  ⟨0x20070030, 0x0, 0, 1, [⟨WGH_STALE_STALE, .RO, .any⟩]⟩,
  ⟨0x20070034, 0x0, 0, 1, [⟨WGH_CAPPED_CAPPED, .RO, .any⟩]⟩,
  ⟨0x20070100, 0x10, 0, 32, [⟨WGH_REQ_r_CFG_EN, .RW, .any⟩, ⟨WGH_REQ_r_CFG_KIND, .RW, .any⟩, ⟨WGH_REQ_r_CFG_ESS, .RW, .any⟩, ⟨WGH_REQ_r_CFG_GRID, .RW, .any⟩, ⟨WGH_REQ_r_CFG_BATCHG, .RW, .any⟩, ⟨WGH_REQ_r_CFG_BATDIS, .RW, .any⟩, ⟨WGH_REQ_r_CFG_GRP_EN, .RW, .any⟩, ⟨WGH_REQ_r_CFG_GRP, .RW, .any⟩, ⟨WGH_REQ_r_CFG_PRIO, .RW, .any⟩, ⟨WGH_REQ_r_CFG_PAIR_EN, .RW, .any⟩, ⟨WGH_REQ_r_CFG_NODE, .RW, .any⟩, ⟨WGH_REQ_r_CFG_PAIR, .RW, .any⟩, ⟨WGH_REQ_r_CFG_ZONE_EN, .RW, .any⟩, ⟨WGH_REQ_r_CFG_ZONE, .RW, .any⟩]⟩,
  ⟨0x20070104, 0x10, 0, 32, [⟨WGH_REQ_r_LIM_HEAD, .RW, .any⟩, ⟨WGH_REQ_r_LIM_LIM, .RW, .any⟩]⟩,
  ⟨0x20070108, 0x10, 0, 32, [⟨WGH_REQ_r_SCALE_SCALE, .RW, .any⟩]⟩,
  ⟨0x2007010C, 0x10, 0, 32, [⟨WGH_REQ_r_STAT_REQ, .RO, .any⟩, ⟨WGH_REQ_r_STAT_GRANT, .RO, .any⟩]⟩]

/-- Registers of `THM`. -/
def regsTHM0 : List Reg := [
  ⟨0x20100000, 0x0, 0, 1, [⟨THM_CTRL_EN, .RW, .any⟩]⟩,
  ⟨0x20100004, 0x0, 0, 1, [⟨THM_STAT_CHG_OK, .RO, .any⟩, ⟨THM_STAT_DIS_OK, .RO, .any⟩, ⟨THM_STAT_BAT_WIN_SEEN, .W1C, .any⟩, ⟨THM_STAT_LATCH_ANY, .RO, .any⟩, ⟨THM_STAT_DROP_ANY, .RO, .any⟩, ⟨THM_STAT_ENF_ANY, .RO, .any⟩, ⟨THM_STAT_REQ_ANY, .RO, .any⟩]⟩,
  ⟨0x20100008, 0x0, 0, 1, [⟨THM_CAP_CAP_VER, .RO, .any⟩, ⟨THM_CAP_SNS_COUNT, .RO, .any⟩, ⟨THM_CAP_ZONE_COUNT, .RO, .any⟩, ⟨THM_CAP_CURVE_COUNT, .RO, .any⟩, ⟨THM_CAP_FEAT, .RO, .any⟩]⟩,
  ⟨0x20100100, 0x8, 0, 16, [⟨THM_SNS_k_CFG_EN, .RW, .any⟩, ⟨THM_SNS_k_CFG_SRC, .RW, .any⟩, ⟨THM_SNS_k_CFG_CURVE, .RW, .any⟩, ⟨THM_SNS_k_CFG_AX, .RW, .any⟩, ⟨THM_SNS_k_CFG_ZONES, .RW, .any⟩]⟩,
  ⟨0x20100104, 0x8, 0, 16, [⟨THM_SNS_k_VAL_SEQ, .RO, .any⟩, ⟨THM_SNS_k_VAL_VALID, .RO, .any⟩, ⟨THM_SNS_k_VAL_TEMP, .RO, .any⟩]⟩,
  ⟨0x20100180, 0x0, 0, 1, [⟨THM_SNS_STAT_LATCH, .W1C, .any⟩, ⟨THM_SNS_STAT_DROP, .RO, .any⟩]⟩,
  ⟨0x20100200, 0x10, 0, 8, [⟨THM_ZONE_z_CFG_EN, .RW, .any⟩, ⟨THM_ZONE_z_CFG_GRACE, .RW, (.rng 1 600)⟩, ⟨THM_ZONE_z_CFG_MIN_FRAC, .RW, (.rng 0 32768)⟩]⟩,
  ⟨0x20100204, 0x10, 0, 8, [⟨THM_ZONE_z_LIM_HYST, .RW, .any⟩, ⟨THM_ZONE_z_LIM_T_CRIT, .RW, .any⟩, ⟨THM_ZONE_z_LIM_T_MAX, .RW, .any⟩, ⟨THM_ZONE_z_LIM_T_D, .RW, .any⟩]⟩,
  ⟨0x20100208, 0x10, 0, 8, [⟨THM_ZONE_z_STAT_STATE, .RO, .any⟩, ⟨THM_ZONE_z_STAT_FRAC, .RO, .any⟩]⟩,
  ⟨0x2010020C, 0x10, 0, 8, [⟨THM_ZONE_z_TEMP_TMAX, .RO, .any⟩, ⟨THM_ZONE_z_TEMP_TMIN, .RO, .any⟩]⟩,
  ⟨0x20100400, 0x4, 0, 64, [⟨THM_CURVE_c_p_CODE, .RW, .any⟩, ⟨THM_CURVE_c_p_TEMP, .RW, .any⟩]⟩,
  ⟨0x20100300, 0x0, 0, 1, [⟨THM_BAT_CFG_EN, .RW, .any⟩, ⟨THM_BAT_CFG_ZONE, .RW, .any⟩, ⟨THM_BAT_CFG_HYST, .RW, .any⟩]⟩,
  ⟨0x20100304, 0x0, 0, 1, [⟨THM_BAT_WIN_DIS_HI, .RW, .any⟩, ⟨THM_BAT_WIN_DIS_LO, .RW, .any⟩, ⟨THM_BAT_WIN_CHG_HI, .RW, .any⟩, ⟨THM_BAT_WIN_CHG_LO, .RW, .any⟩]⟩]

/-- Registers of `TAL`. -/
def regsTAL0 : List Reg := [
  ⟨0x20080000, 0x0, 0, 1, [⟨TAL_CTRL_EN, .RW, .any⟩, ⟨TAL_CTRL_TOT_MODE, .RW, .any⟩, ⟨TAL_CTRL_NOM_F, .RW, .any⟩, ⟨TAL_CTRL_INT_LEN, .RW, (.rng 0 5)⟩]⟩,
  ⟨0x20080004, 0x0, 0, 1, [⟨TAL_STAT_BLANK, .RO, .any⟩, ⟨TAL_STAT_RESTORED_OLD, .W1C, .any⟩, ⟨TAL_STAT_LEDGER_LATCH, .W1C, .any⟩, ⟨TAL_STAT_LEDGER_FAULT, .W1C, .any⟩, ⟨TAL_STAT_PF_ACTIVE, .RO, .any⟩, ⟨TAL_STAT_TIME_INVALID, .RO, .any⟩, ⟨TAL_STAT_MISSING, .RO, .any⟩, ⟨TAL_STAT_DEGRADED, .RO, .any⟩, ⟨TAL_STAT_RUN, .RO, .any⟩]⟩,
  ⟨0x20080008, 0x0, 0, 1, [⟨TAL_CAP_CAP_VER, .RO, .any⟩, ⟨TAL_CAP_TOT_COUNT, .RO, .any⟩, ⟨TAL_CAP_CH_COUNT, .RO, .any⟩, ⟨TAL_CAP_FEAT, .RO, .any⟩]⟩,
  ⟨0x20080010, 0x0, 0, 1, [⟨TAL_CH_MAP, .RW, .any⟩]⟩,
  ⟨0x20080014, 0x0, 0, 1, [⟨TAL_CREEP_I_START, .RW, .any⟩]⟩,
  ⟨0x20080018, 0x0, 0, 1, [⟨TAL_PULSE_EN, .RW, .any⟩, ⟨TAL_PULSE_TOT, .RW, (.rng 0 23)⟩, ⟨TAL_PULSE_CONST, .RW, .nz⟩]⟩,
  ⟨0x20080100, 0x10, 0, 8, [⟨TAL_CH_n_SCALE_SCALE, .RW, .any⟩]⟩,
  ⟨0x20080104, 0x10, 0, 8, [⟨TAL_CH_n_GAIN_GAIN, .RW, (.rng 536870912 1610612736)⟩]⟩,
  ⟨0x20080108, 0x10, 0, 8, [⟨TAL_CH_n_OFS_OFS, .RW, (.srng 32 16777216)⟩]⟩,
  ⟨0x2008010C, 0x10, 0, 8, [⟨TAL_CH_n_PH_PH, .RW, .any⟩]⟩,
  ⟨0x20080200, 0x8, 0, 3, [⟨TAL_PH_p_KP_KP, .RW, (.rng 536870912 1610612736)⟩]⟩,
  ⟨0x20080204, 0x8, 0, 3, [⟨TAL_PH_p_KQ_KQ, .RW, (.rng 536870912 1610612736)⟩]⟩,
  ⟨0x20080300, 0x4, 0, 3, [⟨TAL_VRMS_p_V, .RO, .any⟩]⟩,
  ⟨0x20080310, 0x4, 0, 4, [⟨TAL_IRMS_q_I, .RO, .any⟩]⟩,
  ⟨0x20080320, 0x4, 0, 3, [⟨TAL_P_p_P, .RO, .any⟩]⟩,
  ⟨0x20080330, 0x4, 0, 3, [⟨TAL_Q_p_Q, .RO, .any⟩]⟩,
  ⟨0x20080340, 0x0, 0, 1, [⟨TAL_FREQ_SEQ, .RO, .any⟩, ⟨TAL_FREQ_FREQ, .RO, .any⟩]⟩,
  ⟨0x20080400, 0x8, 0, 24, [⟨TAL_TOT_i_LO_VAL, .RO, .any⟩]⟩,
  ⟨0x20080404, 0x8, 0, 24, [⟨TAL_TOT_i_HI_WRAP, .RO, .any⟩, ⟨TAL_TOT_i_HI_VAL, .RO, .any⟩]⟩,
  ⟨0x20080600, 0x0, 0, 1, [⟨TAL_LED_SAVE_SEQ, .RO, .any⟩]⟩,
  ⟨0x20080604, 0x0, 0, 1, [⟨TAL_LED_INT_SEQ, .RO, .any⟩]⟩,
  ⟨0x20080608, 0x0, 0, 1, [⟨TAL_LED_OLD_SEQ, .RO, .any⟩]⟩,
  ⟨0x2008060C, 0x0, 0, 1, [⟨TAL_LED_GAP_GAP_OVF, .RO, .any⟩, ⟨TAL_LED_GAP_GAP_CNT, .RO, .any⟩]⟩,
  ⟨0x20080610, 0x0, 0, 1, [⟨TAL_LED_LOGSEQ_SEQ, .RO, .any⟩]⟩,
  ⟨0x20080614, 0x0, 0, 1, [⟨TAL_SEAL_BREAK_CNT, .RO, .any⟩, ⟨TAL_SEAL_BREAK_OVF, .RO, .any⟩, ⟨TAL_SEAL_SEALED, .RO, .any⟩, ⟨TAL_SEAL_SEAL, .W1S, .any⟩]⟩,
  ⟨0x20080620, 0x0, 0, 1, [⟨TAL_INT_CUR_MISS, .RO, .any⟩, ⟨TAL_INT_CUR_FLAGS, .RO, .any⟩]⟩,
  ⟨0x2008FFFC, 0x0, 0, 1, [⟨TAL_SNAPSEQ_SEQ, .RO, .any⟩]⟩]

/-- Registers of `SAF`. -/
def regsSAF0 : List Reg := [
  ⟨0x20090000, 0x0, 0, 1, [⟨SAF_STAT_BANK3, .RO, .any⟩, ⟨SAF_STAT_UL_LOCK, .RO, .any⟩, ⟨SAF_STAT_UNCONFIG, .RO, .any⟩, ⟨SAF_STAT_LATCH_ANY, .RO, .any⟩, ⟨SAF_STAT_SAFE_ALL, .RO, .any⟩, ⟨SAF_STAT_LOCKOUT, .RO, .any⟩, ⟨SAF_STAT_TT, .RO, .any⟩, ⟨SAF_STAT_FOLLOWER, .RO, .any⟩, ⟨SAF_STAT_RUN, .RO, .any⟩]⟩,
  ⟨0x20090008, 0x0, 0, 1, [⟨SAF_CAP_CAP_VER, .RO, .any⟩, ⟨SAF_CAP_IN_COUNT, .RO, .any⟩, ⟨SAF_CAP_CONN_COUNT, .RO, .any⟩, ⟨SAF_CAP_FUNC_COUNT, .RO, .any⟩, ⟨SAF_CAP_FEAT, .RO, .any⟩]⟩,
  ⟨0x20090010, 0x0, 0, 1, [⟨SAF_CHAN_XC_SEQ, .RO, .any⟩, ⟨SAF_CHAN_B_XT_FAIL, .RO, .any⟩, ⟨SAF_CHAN_TIME_BAD, .RO, .any⟩, ⟨SAF_CHAN_PARTNER_LOST, .RO, .any⟩, ⟨SAF_CHAN_XC_DIFF, .RO, .any⟩, ⟨SAF_CHAN_XC_SEEN, .RO, .any⟩, ⟨SAF_CHAN_A_STATE, .RO, .any⟩, ⟨SAF_CHAN_B_STATE, .RO, .any⟩]⟩,
  ⟨0x20090014, 0x0, 0, 1, [⟨SAF_FUNC_CAUSE_1, .RO, .any⟩, ⟨SAF_FUNC_CAUSE_0, .RO, .any⟩, ⟨SAF_FUNC_STATE_1, .RO, .any⟩, ⟨SAF_FUNC_GRD_CLOSE, .RO, .any⟩, ⟨SAF_FUNC_STATE_0, .RO, .any⟩]⟩,
  ⟨0x20090018, 0x0, 0, 1, [⟨SAF_IN_STAT_DISC_SEEN, .RO, .any⟩, ⟨SAF_IN_STAT_ACK_SEEN, .RO, .any⟩, ⟨SAF_IN_STAT_FAULT, .RO, .any⟩, ⟨SAF_IN_STAT_PERMIT, .RO, .any⟩]⟩,
  ⟨0x2009001C, 0x0, 0, 1, [⟨SAF_IN_RAW_B_VIEW, .RO, .any⟩, ⟨SAF_IN_RAW_A_VIEW, .RO, .any⟩]⟩,
  ⟨0x20090020, 0x0, 0, 1, [⟨SAF_RLY_STAT_GRID_OPEN_V, .RO, .any⟩, ⟨SAF_RLY_STAT_GRID_CLOSED_V, .RO, .any⟩, ⟨SAF_RLY_STAT_DC_OPEN_V, .RO, .any⟩, ⟨SAF_RLY_STAT_DC_CLOSED_V, .RO, .any⟩, ⟨SAF_RLY_STAT_FB, .RO, .any⟩, ⟨SAF_RLY_STAT_OUT, .RO, .any⟩, ⟨SAF_RLY_STAT_OP_FAIL, .RO, .any⟩, ⟨SAF_RLY_STAT_FB_FAIL, .RO, .any⟩, ⟨SAF_RLY_STAT_CHK_FAIL, .RO, .any⟩, ⟨SAF_RLY_STAT_WELD_BUSY, .RO, .any⟩]⟩,
  ⟨0x20090040, 0x4, 0, 8, [⟨SAF_CONN_c_STAT_LAST_SEQ, .RO, .any⟩, ⟨SAF_CONN_c_STAT_MISMATCH_SEEN, .RO, .any⟩, ⟨SAF_CONN_c_STAT_LOST_SEEN, .RO, .any⟩, ⟨SAF_CONN_c_STAT_P2_OK, .RO, .any⟩, ⟨SAF_CONN_c_STAT_P1_OK, .RO, .any⟩, ⟨SAF_CONN_c_STAT_FLAGS, .RO, .any⟩, ⟨SAF_CONN_c_STAT_VALID, .RO, .any⟩]⟩,
  ⟨0x20090080, 0x4, 0, 4, [⟨SAF_FLT_k_CNT, .RO, .any⟩, ⟨SAF_FLT_k_WIN_CNT, .RO, .any⟩, ⟨SAF_FLT_k_CNT_OVF, .RO, .any⟩, ⟨SAF_FLT_k_LATCHED, .RO, .any⟩]⟩,
  ⟨0x200900C0, 0x0, 0, 1, [⟨SAF_CFG_ID_ID, .RO, .any⟩]⟩,
  ⟨0x200900C4, 0x0, 0, 1, [⟨SAF_CFG_SEQ_SEQ, .RO, .any⟩]⟩,
  ⟨0x20090100, 0x4, 0, 8, [⟨SAF_IN_n_CFG_EN, .RO, .any⟩, ⟨SAF_IN_n_CFG_ROLE, .RO, .any⟩, ⟨SAF_IN_n_CFG_TYPE, .RO, .any⟩, ⟨SAF_IN_n_CFG_TP_EN, .RO, .any⟩, ⟨SAF_IN_n_CFG_FILT, .RO, .any⟩, ⟨SAF_IN_n_CFG_DISC_T, .RO, .any⟩]⟩,
  ⟨0x20090140, 0x0, 0, 1, [⟨SAF_TP_CFG_EN, .RO, .any⟩, ⟨SAF_TP_CFG_TP_W, .RO, .any⟩, ⟨SAF_TP_CFG_TP_PER, .RO, .any⟩]⟩,
  ⟨0x20090180, 0x4, 0, 2, [⟨SAF_FUNC_f_CFG_EN, .RO, .any⟩, ⟨SAF_FUNC_f_CFG_RESTART, .RO, .any⟩, ⟨SAF_FUNC_f_CFG_TT_EN, .RO, .any⟩, ⟨SAF_FUNC_f_CFG_LO_EN, .RO, .any⟩, ⟨SAF_FUNC_f_CFG_CONN, .RO, .any⟩, ⟨SAF_FUNC_f_CFG_IN, .RO, .any⟩]⟩,
  ⟨0x20090190, 0x0, 0, 1, [⟨SAF_RLY_CFG_FB_TMO, .RO, .any⟩, ⟨SAF_RLY_CFG_CHK_T, .RO, .any⟩]⟩,
  ⟨0x200901A0, 0x4, 0, 4, [⟨SAF_CLS_k_LIMIT, .RO, .any⟩, ⟨SAF_CLS_k_WINDOW, .RO, .any⟩]⟩,
  ⟨0x200901B0, 0x0, 0, 1, [⟨SAF_ROLE_FOLLOWER, .RO, .any⟩]⟩,
  ⟨0x20090200, 0x10, 0, 8, [⟨SAF_CONN_c_CFG_EN, .RO, .any⟩, ⟨SAF_CONN_c_CFG_DIR, .RO, .any⟩, ⟨SAF_CONN_c_CFG_AGE_CHK, .RO, .any⟩, ⟨SAF_CONN_c_CFG_SEQ_WIN, .RO, .any⟩, ⟨SAF_CONN_c_CFG_TX_IN, .RO, .any⟩, ⟨SAF_CONN_c_CFG_VER, .RO, .any⟩]⟩,
  ⟨0x20090204, 0x10, 0, 8, [⟨SAF_CONN_c_ID_ID, .RO, .any⟩]⟩,
  ⟨0x20090208, 0x10, 0, 8, [⟨SAF_CONN_c_PATH_P1_KIND, .RO, .any⟩, ⟨SAF_CONN_c_PATH_P1_LINK, .RO, .any⟩, ⟨SAF_CONN_c_PATH_P2_KIND, .RO, .any⟩, ⟨SAF_CONN_c_PATH_P2_LINK, .RO, .any⟩]⟩,
  ⟨0x2009020C, 0x10, 0, 8, [⟨SAF_CONN_c_TIME_EXP_T, .RO, .any⟩, ⟨SAF_CONN_c_TIME_TX_PER, .RO, .any⟩]⟩,
  ⟨0x20090400, 0x4, 0, 4, [⟨SAF_UL_NONCE_k_NONCE, .RO, .any⟩]⟩,
  ⟨0x20090410, 0x0, 0, 1, [⟨SAF_UL_CTRL_KEY, .WO, .any⟩, ⟨SAF_UL_CTRL_FMASK, .WO, .any⟩, ⟨SAF_UL_CTRL_OP, .WO, .any⟩]⟩,
  ⟨0x20090414, 0x0, 0, 1, [⟨SAF_UL_ADDR_ADDR, .WO, .any⟩]⟩,
  ⟨0x20090420, 0x4, 0, 16, [⟨SAF_UL_SIG_k_SIG, .WO, .any⟩]⟩,
  ⟨0x20090460, 0x0, 0, 1, [⟨SAF_UL_STAT_UL_SEQ, .RO, .any⟩, ⟨SAF_UL_STAT_RESULT, .RO, .any⟩]⟩]

/-- Registers of `HST`. -/
def regsHST0 : List Reg := [
  ⟨0x200A0000, 0x0, 0, 1, [⟨HST_CFG_QUAD, .RW, .any⟩, ⟨HST_CFG_ETH_CMD, .RW, .any⟩]⟩,
  ⟨0x200A0004, 0x0, 0, 1, [⟨HST_STAT_OUTST, .RO, .any⟩, ⟨HST_STAT_FRAME_CNT, .RO, .any⟩, ⟨HST_STAT_CNT_OVF, .W1C, .any⟩, ⟨HST_STAT_RD_TMO, .W1C, .any⟩, ⟨HST_STAT_WR_OVF, .W1C, .any⟩, ⟨HST_STAT_BAD_INSTR, .W1C, .any⟩, ⟨HST_STAT_FRAME_ERR, .W1C, .any⟩, ⟨HST_STAT_VER, .RO, .any⟩]⟩,
  ⟨0x200A0008, 0x0, 0, 1, [⟨HST_CAP_CAP_VER, .RO, .any⟩, ⟨HST_CAP_VER_MAX, .RO, .any⟩, ⟨HST_CAP_VER_MIN, .RO, .any⟩, ⟨HST_CAP_TAGS, .RO, .any⟩, ⟨HST_CAP_FEAT, .RO, .any⟩]⟩,
  ⟨0x200A000C, 0x0, 0, 1, [⟨HST_ID_ID, .RW, .any⟩]⟩,
  ⟨0x200A0010, 0x0, 0, 1, [⟨HST_IRQ_MASK, .RW, .any⟩, ⟨HST_IRQ_EVT, .RO, .any⟩, ⟨HST_IRQ_FRAME, .W1C, .any⟩, ⟨HST_IRQ_WOVF, .W1C, .any⟩, ⟨HST_IRQ_REPLY, .RO, .any⟩]⟩,
  ⟨0x200A0020, 0x0, 0, 1, [⟨HST_BUF_BLK, .RW, (.rng 0 61)⟩]⟩]

/-- Registers of `NET`. -/
def regsNET0 : List Reg := [
  ⟨0x200B0000, 0x0, 0, 1, [⟨NET_CTRL_EN, .RW, .any⟩, ⟨NET_CTRL_DEF_EN, .RW, .any⟩, ⟨NET_CTRL_DEF_RING, .RW, (.rng 16 31)⟩]⟩,
  ⟨0x200B0008, 0x0, 0, 1, [⟨NET_CAP_CAP_VER, .RO, .any⟩, ⟨NET_CAP_PORT_COUNT, .RO, .any⟩, ⟨NET_CAP_RING_COUNT, .RO, .any⟩, ⟨NET_CAP_SESS_COUNT, .RO, .any⟩, ⟨NET_CAP_FEAT, .RO, .any⟩]⟩,
  ⟨0x200B0010, 0x0, 0, 1, [⟨NET_IBUF_BLK, .RW, (.rng 0 60)⟩]⟩,
  ⟨0x200B0100, 0x100, 0, 2, [⟨NET_PORT_x_CFG_EN, .RW, .any⟩, ⟨NET_PORT_x_CFG_PHY_RST, .RW, .any⟩, ⟨NET_PORT_x_CFG_PTP_EN, .RW, .any⟩, ⟨NET_PORT_x_CFG_PAUSE_RX, .RW, .any⟩, ⟨NET_PORT_x_CFG_PAUSE_TX, .RW, .any⟩, ⟨NET_PORT_x_CFG_STRIP, .RW, .any⟩, ⟨NET_PORT_x_CFG_RESP, .RW, .any⟩, ⟨NET_PORT_x_CFG_DEF_PRIO, .RW, .any⟩]⟩,
  ⟨0x200B0104, 0x100, 0, 2, [⟨NET_PORT_x_STAT_LINK, .RO, .any⟩, ⟨NET_PORT_x_STAT_SPEED, .RO, .any⟩, ⟨NET_PORT_x_STAT_HALF, .RO, .any⟩, ⟨NET_PORT_x_STAT_LONG_CNT, .RO, .any⟩, ⟨NET_PORT_x_STAT_FCS_CNT, .RO, .any⟩, ⟨NET_PORT_x_STAT_CNT_OVF, .W1C, .any⟩, ⟨NET_PORT_x_STAT_LINK_SEEN, .W1C, .any⟩]⟩,
  ⟨0x200B0108, 0x100, 0, 2, [⟨NET_PORT_x_MAC_LO_MAC, .RW, .any⟩]⟩,
  ⟨0x200B010C, 0x100, 0, 2, [⟨NET_PORT_x_MAC_HI_MAC, .RW, .any⟩]⟩,
  ⟨0x200B0110, 0x100, 0, 2, [⟨NET_PORT_x_IP4_ADDR, .RW, .any⟩]⟩,
  ⟨0x200B0114, 0x100, 0, 2, [⟨NET_PORT_x_IP6_0_ADDR, .RW, .any⟩]⟩,
  ⟨0x200B0118, 0x100, 0, 2, [⟨NET_PORT_x_IP6_1_ADDR, .RW, .any⟩]⟩,
  ⟨0x200B011C, 0x100, 0, 2, [⟨NET_PORT_x_IP6_2_ADDR, .RW, .any⟩]⟩,
  ⟨0x200B0120, 0x100, 0, 2, [⟨NET_PORT_x_IP6_3_ADDR, .RW, .any⟩]⟩,
  ⟨0x200B0124, 0x100, 0, 2, [⟨NET_PORT_x_DLY_RX_DLY, .RW, .any⟩, ⟨NET_PORT_x_DLY_TX_DLY, .RW, .any⟩]⟩,
  ⟨0x200B0400, 0x0, 0, 1, [⟨NET_PTP_CFG_SERVO, .RW, .any⟩, ⟨NET_PTP_CFG_PROF, .RW, .any⟩, ⟨NET_PTP_CFG_PORT, .RW, .any⟩, ⟨NET_PTP_CFG_KP, .RW, .any⟩, ⟨NET_PTP_CFG_KI, .RW, .any⟩, ⟨NET_PTP_CFG_LOCK_TH, .RW, .any⟩, ⟨NET_PTP_CFG_STEP_TH, .RW, .nz⟩]⟩,
  ⟨0x200B0404, 0x0, 0, 1, [⟨NET_PTP_STAT_LOCKED, .RO, .any⟩, ⟨NET_PTP_STAT_MASTER_SEEN, .RO, .any⟩, ⟨NET_PTP_STAT_OFFSET, .RO, .any⟩]⟩,
  ⟨0x200B1000, 0x20, 0, 32, [⟨NET_RING_r_BASE_BASE, .RW, .any⟩]⟩,
  ⟨0x200B1004, 0x20, 0, 32, [⟨NET_RING_r_CFG_EN, .RW, .any⟩, ⟨NET_RING_r_CFG_PORT, .RW, .any⟩, ⟨NET_RING_r_CFG_QUEUE, .RW, .any⟩, ⟨NET_RING_r_CFG_SIZE, .RW, (.rng 16 4096)⟩]⟩,
  ⟨0x200B1008, 0x20, 0, 32, [⟨NET_RING_r_HEAD_OWN_ERR, .W1C, .any⟩, ⟨NET_RING_r_HEAD_HEAD, .RO, .any⟩]⟩,
  ⟨0x200B100C, 0x20, 0, 32, [⟨NET_RING_r_TAIL_TAIL, .RW, .any⟩]⟩,
  ⟨0x200B1010, 0x20, 16, 16, [⟨NET_RING_r_MATCH_PORTS, .RW, .any⟩, ⟨NET_RING_r_MATCH_KIND, .RW, (.rng 0 2)⟩, ⟨NET_RING_r_MATCH_VALUE, .RW, .any⟩]⟩,
  ⟨0x200B1014, 0x20, 0, 32, [⟨NET_RING_r_CNT_DROP_CNT, .RO, .any⟩, ⟨NET_RING_r_CNT_CNT_OVF, .W1C, .any⟩, ⟨NET_RING_r_CNT_FRAMES, .RO, .any⟩]⟩,
  ⟨0x200B4000, 0x4, 0, 128, [⟨NET_SESS_s_STAT_AUTH_CNT, .RO, .any⟩, ⟨NET_SESS_s_STAT_REPLAY_CNT, .RO, .any⟩, ⟨NET_SESS_s_STAT_TYPE_CNT, .RO, .any⟩, ⟨NET_SESS_s_STAT_TX_EXH, .RO, .any⟩, ⟨NET_SESS_s_STAT_CNT_OVF, .W1C, .any⟩]⟩,
  ⟨0x200B0500, 0x4, 0, 8, [⟨NET_KEY_DATA_k_KEY, .WO, .any⟩]⟩,
  ⟨0x200B0520, 0x0, 0, 1, [⟨NET_KEY_CTRL_OP, .WO, (.rng 1 2)⟩, ⟨NET_KEY_CTRL_SLOT, .WO, .any⟩]⟩,
  ⟨0x200B0530, 0x4, 0, 4, [⟨NET_KEY_VALID_k_VALID, .RO, .any⟩]⟩,
  ⟨0x200B8000, 0x40, 0, 128, [⟨NET_CTX_s_0_EN, .RW, .any⟩, ⟨NET_CTX_s_0_PORT, .RW, .any⟩, ⟨NET_CTX_s_0_IPV6, .RW, .any⟩, ⟨NET_CTX_s_0_CMD, .RW, .any⟩, ⟨NET_CTX_s_0_KEYMGMT, .RW, .any⟩, ⟨NET_CTX_s_0_VLAN, .RW, .any⟩, ⟨NET_CTX_s_0_DEST, .RW, (.rng 0 4)⟩, ⟨NET_CTX_s_0_RING, .RW, (.rng 16 31)⟩, ⟨NET_CTX_s_0_TXQ, .RW, .any⟩]⟩,
  ⟨0x200B8004, 0x40, 0, 128, [⟨NET_CTX_s_1_TCI, .RW, .any⟩, ⟨NET_CTX_s_1_LPORT, .RW, .any⟩]⟩,
  ⟨0x200B8008, 0x40, 0, 128, [⟨NET_CTX_s_2_RPORT, .RW, .any⟩, ⟨NET_CTX_s_2_RMAC01, .RW, .any⟩]⟩,
  ⟨0x200B800C, 0x40, 0, 128, [⟨NET_CTX_s_3_RMAC25, .RW, .any⟩]⟩,
  ⟨0x200B8010, 0x40, 0, 128, [⟨NET_CTX_s_4_RIP0, .RW, .any⟩]⟩,
  ⟨0x200B8014, 0x40, 0, 128, [⟨NET_CTX_s_5_RIP1, .RW, .any⟩]⟩,
  ⟨0x200B8018, 0x40, 0, 128, [⟨NET_CTX_s_6_RIP2, .RW, .any⟩]⟩,
  ⟨0x200B801C, 0x40, 0, 128, [⟨NET_CTX_s_7_RIP3, .RW, .any⟩]⟩,
  ⟨0x200B8020, 0x40, 0, 128, [⟨NET_CTX_s_8_LTAG, .RW, .any⟩]⟩,
  ⟨0x200B8024, 0x40, 0, 128, [⟨NET_CTX_s_9_RTAG, .RW, .any⟩]⟩,
  ⟨0x200B8028, 0x40, 0, 128, [⟨NET_CTX_s_10_KEY0, .RW, (.rng 0 127)⟩, ⟨NET_CTX_s_10_KEY1, .RW, (.rng 0 127)⟩, ⟨NET_CTX_s_10_TXPH, .RW, .any⟩]⟩,
  ⟨0x200B802C, 0x40, 0, 128, [⟨NET_CTX_s_11_SALT, .RW, .any⟩]⟩,
  ⟨0x200B8030, 0x40, 0, 128, [⟨NET_CTX_s_12_TXNUM_LO, .RW, .any⟩]⟩,
  ⟨0x200B8034, 0x40, 0, 128, [⟨NET_CTX_s_13_TXNUM_HI, .RW, .any⟩]⟩,
  ⟨0x200B8038, 0x40, 0, 128, [⟨NET_CTX_s_14_RXNUM_LO, .RW, .any⟩]⟩]

/-- Registers of `NET`. -/
def regsNET1 : List Reg := [
  ⟨0x200B803C, 0x40, 0, 128, [⟨NET_CTX_s_15_RXNUM_HI, .RW, .any⟩]⟩]

/-- Registers of `NQL`. -/
def regsNQL0 : List Reg := [
  ⟨0x20110000, 0x0, 0, 1, [⟨NQL_CTRL_EN, .RW, .any⟩, ⟨NQL_CTRL_L0_EN, .RW, .any⟩, ⟨NQL_CTRL_L1_EN, .RW, .any⟩, ⟨NQL_CTRL_RX_RING, .RW, (.rng 16 31)⟩, ⟨NQL_CTRL_NODE, .RW, .any⟩]⟩,
  ⟨0x20110004, 0x0, 0, 1, [⟨NQL_STAT_NODES, .RO, .any⟩, ⟨NQL_STAT_RING_CLOSED, .RO, .any⟩, ⟨NQL_STAT_CONFLICT, .W1C, .any⟩, ⟨NQL_STAT_UNK_CNT, .RO, .any⟩]⟩,
  ⟨0x20110008, 0x0, 0, 1, [⟨NQL_CAP_CAP_VER, .RO, .any⟩, ⟨NQL_CAP_LINK_MAX, .RO, .any⟩, ⟨NQL_CAP_LINK_MIN, .RO, .any⟩, ⟨NQL_CAP_FEAT, .RO, .any⟩, ⟨NQL_CAP_LANES, .RO, .any⟩, ⟨NQL_CAP_NODES_MAX, .RO, .any⟩]⟩,
  ⟨0x20110010, 0x10, 0, 2, [⟨NQL_LANE_l_STAT_STATE, .RO, .any⟩, ⟨NQL_LANE_l_STAT_NOSIG, .RO, .any⟩, ⟨NQL_LANE_l_STAT_CNT_OVF, .W1C, .any⟩, ⟨NQL_LANE_l_STAT_CODE_CNT, .RO, .any⟩, ⟨NQL_LANE_l_STAT_CRC_CNT, .RO, .any⟩, ⟨NQL_LANE_l_STAT_TRAIN_CNT, .RO, .any⟩]⟩,
  ⟨0x20110014, 0x10, 0, 2, [⟨NQL_LANE_l_DLY_VALID, .RO, .any⟩, ⟨NQL_LANE_l_DLY_DLY_OVF, .RO, .any⟩, ⟨NQL_LANE_l_DLY_PEER, .RO, .any⟩, ⟨NQL_LANE_l_DLY_DLY, .RO, .any⟩]⟩]

/-- Registers of `DRC`. -/
def regsDRC0 : List Reg := [
  ⟨0x20120000, 0x0, 0, 1, [⟨DRC_CTRL_EN, .RW, .any⟩, ⟨DRC_CTRL_RATE, .RW, .any⟩, ⟨DRC_CTRL_SIZE, .RW, (.rng 0 2)⟩, ⟨DRC_CTRL_SCRUB_H, .RW, .any⟩]⟩,
  ⟨0x20120004, 0x0, 0, 1, [⟨DRC_STAT_READY, .RO, .any⟩, ⟨DRC_STAT_TRAIN_FAIL, .W1C, .any⟩, ⟨DRC_STAT_UE, .W1C, .any⟩, ⟨DRC_STAT_TRAIN_SEQ, .RO, .any⟩]⟩,
  ⟨0x20120008, 0x0, 0, 1, [⟨DRC_ECC_CE_CNT, .RO, .any⟩, ⟨DRC_ECC_CE_OVF, .W1C, .any⟩]⟩,
  ⟨0x2012000C, 0x0, 0, 1, [⟨DRC_ECC_ADDR_ADDR, .RO, .any⟩]⟩]

/-- Registers of `LMP`. -/
def regsLMP0 : List Reg := [
  ⟨0x200C0000, 0x0, 0, 1, [⟨LMP_CTRL_EN, .RW, .any⟩, ⟨LMP_CTRL_REPL_EN, .RW, .any⟩, ⟨LMP_CTRL_POLL_EN, .RW, .any⟩, ⟨LMP_CTRL_SCHED_EN, .RW, .any⟩]⟩,
  ⟨0x200C0004, 0x0, 0, 1, [⟨LMP_STAT_DIR_FULL, .W1C, .any⟩, ⟨LMP_STAT_TIME_BAD, .RO, .any⟩, ⟨LMP_STAT_BURST_WAIT, .RO, .any⟩, ⟨LMP_STAT_DEFER_ANY, .RO, .any⟩, ⟨LMP_STAT_RUN, .RO, .any⟩]⟩,
  ⟨0x200C0008, 0x0, 0, 1, [⟨LMP_CAP_CAP_VER, .RO, .any⟩, ⟨LMP_CAP_PORT_COUNT, .RO, .any⟩, ⟨LMP_CAP_PROF_MAX, .RO, .any⟩, ⟨LMP_CAP_PROF_MIN, .RO, .any⟩, ⟨LMP_CAP_FEAT, .RO, .any⟩]⟩,
  ⟨0x200C0010, 0x0, 0, 1, [⟨LMP_HUB_DISTRICT, .RW, .any⟩, ⟨LMP_HUB_HUB_ID, .RW, .any⟩]⟩,
  ⟨0x200C0014, 0x0, 0, 1, [⟨LMP_DIR_BASE_BASE, .RW, .any⟩]⟩,
  ⟨0x200C0018, 0x0, 0, 1, [⟨LMP_DIR_STAT_DAMAGE_CNT, .RO, .any⟩, ⟨LMP_DIR_STAT_CNT_OVF, .W1C, .any⟩, ⟨LMP_DIR_STAT_COUNT, .RO, .any⟩]⟩,
  ⟨0x200C001C, 0x0, 0, 1, [⟨LMP_SCHED_BASE_BASE, .RW, .any⟩]⟩,
  ⟨0x200C0020, 0x0, 0, 1, [⟨LMP_GEO_LON, .RW, (.srng 16 18000)⟩, ⟨LMP_GEO_LAT, .RW, (.srng 16 9000)⟩]⟩,
  ⟨0x200C0024, 0x0, 0, 1, [⟨LMP_ZEN_ZENITH, .RW, (.rng 8500 10800)⟩]⟩,
  ⟨0x200C0028, 0x0, 0, 1, [⟨LMP_SUN_DUSK, .RO, .any⟩, ⟨LMP_SUN_DAWN, .RO, .any⟩]⟩,
  ⟨0x200C002C, 0x0, 0, 1, [⟨LMP_TZ_UTC_OFS, .RW, .any⟩, ⟨LMP_TZ_TZ, .RW, (.srng 16 1080)⟩]⟩,
  ⟨0x200C0030, 0x0, 0, 1, [⟨LMP_POLL_POLL_PER, .RW, (.rng 60 65535)⟩, ⟨LMP_POLL_RESP_TMO, .RW, (.rng 1 60)⟩, ⟨LMP_POLL_RETRY, .RW, (.rng 0 7)⟩, ⟨LMP_POLL_FAIL_LIM, .RW, .nz⟩]⟩,
  ⟨0x200C0034, 0x0, 0, 1, [⟨LMP_BURST_EN, .RW, .any⟩, ⟨LMP_BURST_REQ, .RW, .any⟩, ⟨LMP_BURST_RETRY_T, .RW, .nz⟩, ⟨LMP_BURST_BURST_MIN, .RW, .any⟩]⟩,
  ⟨0x200C0040, 0x0, 0, 1, [⟨LMP_MASTER_STANDBY, .RW, .any⟩, ⟨LMP_MASTER_FAIL_T, .RW, (.rng 3 255)⟩]⟩,
  ⟨0x200C0044, 0x0, 0, 1, [⟨LMP_EPOCH_EPOCH, .RO, .any⟩]⟩,
  ⟨0x200C0048, 0x0, 0, 1, [⟨LMP_REPL_STAT_CONFLICT_CNT, .RO, .any⟩, ⟨LMP_REPL_STAT_CNT_OVF, .W1C, .any⟩, ⟨LMP_REPL_STAT_PULL_PEND, .RO, .any⟩, ⟨LMP_REPL_STAT_PEERS_SEEN, .RO, .any⟩]⟩,
  ⟨0x200C0100, 0x4, 0, 16, [⟨LMP_PEER_k_CFG_EN, .RW, .any⟩, ⟨LMP_PEER_k_CFG_PATH, .RW, .any⟩, ⟨LMP_PEER_k_CFG_LINK, .RW, .any⟩, ⟨LMP_PEER_k_CFG_HUB_ID, .RW, .any⟩]⟩,
  ⟨0x200C0180, 0x4, 0, 16, [⟨LMP_GW_g_EN, .RW, .any⟩, ⟨LMP_GW_g_SESSION, .RW, .any⟩]⟩,
  ⟨0x200C0200, 0x10, 0, 4, [⟨LMP_PORT_p_CFG_EN, .RW, .any⟩, ⟨LMP_PORT_p_CFG_MODE, .RW, .any⟩, ⟨LMP_PORT_p_CFG_RST, .RW, .any⟩, ⟨LMP_PORT_p_CFG_BAUD, .RW, .any⟩, ⟨LMP_PORT_p_CFG_SCK, .RW, .any⟩, ⟨LMP_PORT_p_CFG_WIN, .RW, .nz⟩, ⟨LMP_PORT_p_CFG_RATE, .RW, (.rng 1 100)⟩]⟩,
  ⟨0x200C0204, 0x10, 0, 4, [⟨LMP_PORT_p_PAN_PAN, .RW, .any⟩]⟩,
  ⟨0x200C0208, 0x10, 0, 4, [⟨LMP_PORT_p_STAT_STATE, .RO, .any⟩, ⟨LMP_PORT_p_STAT_DOWN_SEEN, .W1C, .any⟩, ⟨LMP_PORT_p_STAT_CNT_OVF, .W1C, .any⟩, ⟨LMP_PORT_p_STAT_CRC_CNT, .RO, .any⟩, ⟨LMP_PORT_p_STAT_TXN_RATE, .RO, .any⟩]⟩,
  ⟨0x200C020C, 0x10, 0, 4, [⟨LMP_PORT_p_CNT_FAIL_CNT, .RO, .any⟩, ⟨LMP_PORT_p_CNT_TXN, .RO, .any⟩]⟩]

/-- Registers of `AON`. -/
def regsAON0 : List Reg := [
  ⟨0x200D0000, 0x0, 0, 1, [⟨AON_CTRL_BS_EN, .RW, .any⟩, ⟨AON_CTRL_ALARM_EN, .RW, .any⟩, ⟨AON_CTRL_ALARM_WAKE, .RW, .any⟩, ⟨AON_CTRL_DOOR_WAKE, .RW, .any⟩, ⟨AON_CTRL_TAMPER_WAKE, .RW, .any⟩, ⟨AON_CTRL_WAKE_HOLD, .RW, .any⟩]⟩,
  ⟨0x200D0004, 0x0, 0, 1, [⟨AON_STAT_CAUSE, .RO, .any⟩, ⟨AON_STAT_PEND, .W1C, .any⟩, ⟨AON_STAT_STOP_VALID, .RO, .any⟩, ⟨AON_STAT_VBAT_LOW_SEEN, .W1C, .any⟩, ⟨AON_STAT_VBAT_LOW, .RO, .any⟩, ⟨AON_STAT_RTC_VALID, .RO, .any⟩, ⟨AON_STAT_XT_OK, .RO, .any⟩]⟩,
  ⟨0x200D0008, 0x0, 0, 1, [⟨AON_CAP_CAP_VER, .RO, .any⟩, ⟨AON_CAP_KEEP_COUNT, .RO, .any⟩, ⟨AON_CAP_FEAT, .RO, .any⟩]⟩,
  ⟨0x200D0010, 0x0, 0, 1, [⟨AON_RTC_LO_C, .RO, .any⟩]⟩,
  ⟨0x200D0014, 0x0, 0, 1, [⟨AON_RTC_HI_C, .RO, .any⟩]⟩,
  ⟨0x200D0018, 0x0, 0, 1, [⟨AON_RTC_SET_LO_C, .WO, .any⟩]⟩,
  ⟨0x200D001C, 0x0, 0, 1, [⟨AON_RTC_SET_HI_C, .WO, .any⟩]⟩,
  ⟨0x200D0020, 0x0, 0, 1, [⟨AON_RTC_TRIM_TRIM, .RW, (.srng 8 127)⟩]⟩,
  ⟨0x200D0024, 0x0, 0, 1, [⟨AON_ALARM_SEC, .RW, .any⟩]⟩,
  ⟨0x200D0028, 0x0, 0, 1, [⟨AON_STOP_LO_C, .RO, .any⟩]⟩,
  ⟨0x200D002C, 0x0, 0, 1, [⟨AON_STOP_HI_C, .RO, .any⟩]⟩,
  ⟨0x200D0030, 0x0, 0, 1, [⟨AON_LATCH_TAMPER_PIN, .RO, .any⟩, ⟨AON_LATCH_DOOR_PIN, .RO, .any⟩, ⟨AON_LATCH_TAMPER, .W1C, .any⟩, ⟨AON_LATCH_DOOR, .W1C, .any⟩]⟩,
  ⟨0x200D0034, 0x0, 0, 1, [⟨AON_DOOR_TS_SEC, .RO, .any⟩]⟩,
  ⟨0x200D0038, 0x0, 0, 1, [⟨AON_TAMPER_TS_SEC, .RO, .any⟩]⟩,
  ⟨0x200D0040, 0x0, 0, 1, [⟨AON_BS_CFG_VHV_ON, .RW, (.rng 50 1200)⟩, ⟨AON_BS_CFG_QUAL_T, .RW, .nz⟩, ⟨AON_BS_CFG_RETRY_T, .RW, .nz⟩]⟩,
  ⟨0x200D0044, 0x0, 0, 1, [⟨AON_BS_KICK_KICK_W, .RW, .nz⟩, ⟨AON_BS_KICK_KICK_GAP, .RW, .nz⟩, ⟨AON_BS_KICK_KICK_N, .RW, .nz⟩, ⟨AON_BS_KICK_WAKE_TMO, .RW, .nz⟩]⟩,
  ⟨0x200D0048, 0x0, 0, 1, [⟨AON_BS_FB_FB_OK, .RW, (.rng 50 1200)⟩, ⟨AON_BS_FB_FB_DROP, .RW, .any⟩]⟩,
  ⟨0x200D004C, 0x0, 0, 1, [⟨AON_BS_CLS_LIMIT, .RW, .nz⟩, ⟨AON_BS_CLS_WINDOW, .RW, .nz⟩]⟩,
  ⟨0x200D0050, 0x0, 0, 1, [⟨AON_BS_STAT_FAIL_CNT, .RO, .any⟩, ⟨AON_BS_STAT_WIN_CNT, .RO, .any⟩, ⟨AON_BS_STAT_CNT_OVF, .W1C, .any⟩, ⟨AON_BS_STAT_LATCHED, .W1C, .any⟩, ⟨AON_BS_STAT_STATE, .RO, .any⟩, ⟨AON_BS_STAT_SEQ, .RO, .any⟩]⟩,
  ⟨0x200D0054, 0x0, 0, 1, [⟨AON_MEAS_VHV, .RO, .any⟩, ⟨AON_MEAS_BSFB, .RO, .any⟩, ⟨AON_MEAS_VBAT, .RO, .any⟩]⟩,
  ⟨0x200D0080, 0x4, 0, 8, [⟨AON_KEEP_n_DATA, .RW, .any⟩]⟩,
  ⟨0x200DFFFC, 0x0, 0, 1, [⟨AON_SNAPSEQ_SEQ, .RO, .any⟩]⟩]

/-- Registers of `AUX`. -/
def regsAUX0 : List Reg := [
  ⟨0x200E0000, 0x0, 0, 1, [⟨AUX_BK_CTRL_EN, .RW, .any⟩, ⟨AUX_BK_CTRL_PH1_EN, .RW, .any⟩, ⟨AUX_BK_CTRL_SHED_EN, .RW, .any⟩, ⟨AUX_BK_CTRL_AUTO_RESUME, .RW, .any⟩]⟩,
  ⟨0x200E0004, 0x0, 0, 1, [⟨AUX_BK_STAT_STATE, .RO, .any⟩, ⟨AUX_BK_STAT_PGOOD, .RO, .any⟩, ⟨AUX_BK_STAT_SHED, .RO, .any⟩, ⟨AUX_BK_STAT_SLEWING, .RO, .any⟩, ⟨AUX_BK_STAT_ILIM_ACT, .RO, .any⟩, ⟨AUX_BK_STAT_HICCUP_CNT, .RO, .any⟩, ⟨AUX_BK_STAT_CNT_OVF, .W1C, .any⟩, ⟨AUX_BK_STAT_LATCHED, .W1C, .any⟩, ⟨AUX_BK_STAT_PG_LOST_SEEN, .W1C, .any⟩, ⟨AUX_BK_STAT_SHED_ABORT_SEEN, .W1C, .any⟩]⟩,
  ⟨0x200E0008, 0x0, 0, 1, [⟨AUX_CAP_CAP_VER, .RO, .any⟩, ⟨AUX_CAP_BK_PHASES, .RO, .any⟩, ⟨AUX_CAP_PMP_PHASES, .RO, .any⟩, ⟨AUX_CAP_FEAT, .RO, .any⟩]⟩,
  ⟨0x200E0010, 0x0, 0, 1, [⟨AUX_BK_FSW_PER, .RW, (.rng 200 2000)⟩, ⟨AUX_BK_FSW_DT, .RW, .any⟩]⟩,
  ⟨0x200E0014, 0x0, 0, 1, [⟨AUX_BK_VSET_SLEW, .RW, (.rng 1 1000)⟩, ⟨AUX_BK_VSET_VSET, .RW, (.rng 400 1200)⟩]⟩,
  ⟨0x200E0018, 0x0, 0, 1, [⟨AUX_BK_SS_OC_T, .RW, .nz⟩, ⟨AUX_BK_SS_SS_T, .RW, (.rng 1 100)⟩]⟩,
  ⟨0x200E001C, 0x0, 0, 1, [⟨AUX_BK_ILIM_ADD_TH, .RW, (.rng 10 100)⟩, ⟨AUX_BK_ILIM_SHED_TH, .RW, (.rng 5 90)⟩, ⟨AUX_BK_ILIM_ILIM, .RW, (.rng 100 1000)⟩]⟩,
  ⟨0x200E0020, 0x0, 0, 1, [⟨AUX_BK_LOOP_KP, .RW, .any⟩, ⟨AUX_BK_LOOP_KI, .RW, .any⟩]⟩,
  ⟨0x200E0024, 0x0, 0, 1, [⟨AUX_BK_PG_PG_WIN, .RW, (.rng 5 200)⟩]⟩,
  ⟨0x200E0028, 0x0, 0, 1, [⟨AUX_BK_MEAS_V_VREF, .RO, .any⟩, ⟨AUX_BK_MEAS_V_VFB, .RO, .any⟩]⟩,
  ⟨0x200E002C, 0x0, 0, 1, [⟨AUX_BK_MEAS_I_I1, .RO, .any⟩, ⟨AUX_BK_MEAS_I_I0, .RO, .any⟩]⟩,
  ⟨0x200E0100, 0x0, 0, 1, [⟨AUX_PMP_CTRL_EN, .RW, .any⟩, ⟨AUX_PMP_CTRL_DIR, .RW, .any⟩, ⟨AUX_PMP_CTRL_AUTO_RESUME, .RW, .any⟩, ⟨AUX_PMP_CTRL_SHIFT, .RW, (.rng 0 5)⟩, ⟨AUX_PMP_CTRL_PRECHG, .RW, .nz⟩, ⟨AUX_PMP_CTRL_STALL_T, .RW, .nz⟩, ⟨AUX_PMP_CTRL_RESTART_T, .RW, .nz⟩]⟩,
  ⟨0x200E0104, 0x0, 0, 1, [⟨AUX_PMP_CFG_PER, .RW, (.rng 4000 10000)⟩, ⟨AUX_PMP_CFG_DT, .RW, .any⟩, ⟨AUX_PMP_CFG_BLANK, .RW, .nz⟩, ⟨AUX_PMP_CFG_VDS_TH, .RW, .nz⟩]⟩,
  ⟨0x200E0108, 0x0, 0, 1, [⟨AUX_PMP_DUTY_DUTY, .RW, (.rng 0 32768)⟩]⟩,
  ⟨0x200E010C, 0x0, 0, 1, [⟨AUX_PMP_ILIM_ILIM, .RW, (.rng 10 1000)⟩]⟩,
  ⟨0x200E0110, 0x0, 0, 1, [⟨AUX_PMP_STAT_STATE, .RO, .any⟩, ⟨AUX_PMP_STAT_HALL, .RO, .any⟩, ⟨AUX_PMP_STAT_ILIM_ACT, .RO, .any⟩, ⟨AUX_PMP_STAT_FCAUSE, .RO, .any⟩, ⟨AUX_PMP_STAT_FSW_L, .RO, .any⟩, ⟨AUX_PMP_STAT_FSW_H, .RO, .any⟩, ⟨AUX_PMP_STAT_LATCHED, .W1C, .any⟩, ⟨AUX_PMP_STAT_CNT_OVF, .W1C, .any⟩, ⟨AUX_PMP_STAT_FAULT_CNT, .RO, .any⟩]⟩,
  ⟨0x200E0114, 0x0, 0, 1, [⟨AUX_PMP_SPEED_EPER, .RO, .any⟩]⟩]

/-- Registers of `EVT`. -/
def regsEVT0 : List Reg := [
  ⟨0x200F0008, 0x0, 0, 1, [⟨EVT_CAP_CAP_VER, .RO, .any⟩, ⟨EVT_CAP_EV_COUNT, .RO, .any⟩, ⟨EVT_CAP_OUT_COUNT, .RO, .any⟩]⟩,
  ⟨0x200F0010, 0x4, 0, 4, [⟨EVT_PEND_k_PEND, .W1C, .any⟩]⟩,
  ⟨0x200F0020, 0x4, 0, 4, [⟨EVT_MASK_k_MASK, .RW, .any⟩]⟩,
  ⟨0x200F0040, 0x0, 0, 1, [⟨EVT_LOG_BASE_BASE, .RW, .any⟩]⟩,
  ⟨0x200F0044, 0x0, 0, 1, [⟨EVT_LOG_CFG_EN, .RW, .any⟩, ⟨EVT_LOG_CFG_SIZE, .RW, (.rng 0 10)⟩, ⟨EVT_LOG_CFG_LOST_CNT, .RO, .any⟩, ⟨EVT_LOG_CFG_CNT_OVF, .W1C, .any⟩]⟩,
  ⟨0x200F0048, 0x0, 0, 1, [⟨EVT_LOG_PTR_WPTR, .RO, .any⟩, ⟨EVT_LOG_PTR_RPTR, .RW, .any⟩]⟩,
  ⟨0x200F0060, 0x4, 0, 4, [⟨EVT_OUT_n_CFG_EN, .RW, .any⟩, ⟨EVT_OUT_n_CFG_MODE, .RW, .any⟩, ⟨EVT_OUT_n_CFG_LATE, .W1C, .any⟩, ⟨EVT_OUT_n_CFG_OVF, .W1C, .any⟩, ⟨EVT_OUT_n_CFG_WIDTH, .RW, .nz⟩, ⟨EVT_OUT_n_CFG_DLY, .RW, (.rng 0 10000)⟩]⟩,
  ⟨0x200F0400, 0x4, 0, 128, [⟨EVT_CFG_e_LOG, .RW, .any⟩, ⟨EVT_CFG_e_OUT, .RW, .any⟩]⟩]

/-- The registers of the block whose base address is `b` (R30). -/
def blockRegs (b : Nat) : List Reg :=
  match b with
  | 0x2000 => regsSYS0
  | 0x2001 => regsCLK0
  | 0x2002 => regsPWM0
  | 0x2003 => regsSNS0
  | 0x2004 => regsTRP0
  | 0x2005 => regsCEN0
  | 0x2006 => regsGRD0 ++ regsGRD1
  | 0x2007 => regsWGH0
  | 0x2008 => regsTAL0
  | 0x2009 => regsSAF0
  | 0x200A => regsHST0
  | 0x200B => regsNET0 ++ regsNET1
  | 0x200C => regsLMP0
  | 0x200D => regsAON0
  | 0x200E => regsAUX0
  | 0x200F => regsEVT0
  | 0x2010 => regsTHM0
  | 0x2011 => regsNQL0
  | 0x2012 => regsDRC0
  | _ => []

end Sys2Proof.Machine
end

