-- ==== Sys2Proof/Machine/Live.lean ====
section
/-! DEFINITION. Register fields that show the machine as it is at the moment of the read: counters, timebase and
clock, window counts, summary bits. -/
namespace Sys2Proof.Machine

namespace Dev

/-! ### Carrier group counters (R96, R97) -/

/-- Ticks in one count of group `g`: P (R96). -/
def cgP (d : Dev) (g : Nat) : Nat := 2 ^ d.fg PWM_CG_g_CFG_PRESC g

/-- Period of group `g` in ticks for a period count (R96). -/
def cgTicks (d : Dev) (g per : Nat) : Nat := (if d.fb PWM_CG_g_CFG_MODE g then 2 else 1) * per * d.cgP g

/-- The group counts: running and not waiting for a time trigger (R96). -/
def cgRuns (d : Dev) (g : Nat) : Bool := d.fb PWM_CG_g_CFG_RUN g && !d.fb PWM_CG_g_CNT_WAIT g

/-- The present count of group `g` and whether it is falling (R96): it holds at 0 where a correction of R120 lengthens the
period. -/
def cgCount (d : Dev) (g : Nat) : Nat × Bool :=
  let x := vget d.pwm.cg g
  if d.cgRuns g && x.on && decide (d.clk.ticks < x.next) then
    let c := (d.clk.ticks - x.start) / d.cgP g
    if d.fb PWM_CG_g_CFG_MODE g then (if c < x.per then c else 2 * x.per - c, decide (x.per ≤ c) && decide (c < 2 * x.per))
    else (if c < x.per then c else 0, false)
  else (0, false)

/-- The safe-state overlay is imposed on leg `n` (R57, R103). -/
def overlaid (d : Dev) (n : Nat) : Bool := d.fb CLK_PLL_STAT_PWM_HOLD || (vget d.trp.leg n).overlay

/-! ### The auxiliary converter's tests (R90, R92) -/

/-- The converter and modulator clocks are stopped for lack of the reference (R50, R56). -/
def convStopped (d : Dev) : Bool := d.fb CLK_PLL_STAT_FALLBACK && !d.clk.refPresent

/-- A self-test is due (R92). -/
def stDue (d : Dev) : Bool := d.sns.stPer || d.fb SNS_AUX_TEST_REQ

/-- An open-wire conversion of input `n` is due (R90, R94). -/
def owWaits (d : Dev) (n : Nat) : Bool := d.sns.owDue.contains n || d.sns.owReq.contains n

/-- A conversion of `us` µs that starts when the converter is free ends at or before the next scan start (R92). -/
def auxFits (d : Dev) (us : Nat) : Bool := decide (d.sns.auxFrom + us * 800 ≤ d.sns.scanNext)

/-- Length in µs of a slot, or an open-wire conversion, of input `n` (R88, R90). -/
def auxSlot (d : Dev) (n : Nat) : Nat := (vget d.sns.auxCh n).settle + 500

/-- The converter runs and no scan does: the gap (R88, R92). -/
def auxGap (d : Dev) : Bool := d.sns.auxEn && !d.sns.scanning && !d.convStopped

/-- The test conversion that runs in the gap (R92): an open-wire conversion of an input, or one of the self-test (16). One that
does not fit waits, and a later one that fits goes ahead of it (log entry 96). -/
def auxPick (d : Dev) : Option Nat :=
  if !d.auxGap then none
  else match (List.range 16).find? fun n => d.owWaits n && d.auxFits (d.auxSlot n) with
    | some n => some n
    | none => if d.stDue && d.auxFits 600 then some 16 else none

/-- A test waits for a gap: one that is due and is not being converted (R92). -/
def auxWaiting (d : Dev) : Bool :=
  (List.range 16).any (fun n => d.owWaits n && d.auxPick != some n) || (d.stDue && d.auxPick != some 16)

/-! ### The fields -/

/-- A mask of the indexes below `n` that satisfy `f`. -/
def maskOf (n : Nat) (f : Nat → Bool) : Nat := ((List.range n).filter f).foldl (fun m i => m + 2 ^ i) 0

/-- Occurrences within the window of `ms` milliseconds that ends now, at most 255 (R394, R395). -/
def winCount (d : Dev) (ms : Nat) (occ : List Nat) : Nat :=
  min 255 (occ.filter fun t => d.clk.ticks < t + ms * msTicks).length

/-- Seconds of the real-time clock's count (R349). -/
def rtcSec (d : Dev) : Nat := d.aon.rtc / 32768

/-- A latched fault holds function `f` in its safe state (R249). -/
def safLatched (d : Dev) (f : Nat) : Bool :=
  (vget d.saf.fn f).latch || d.saf.latch ||
  (List.range 8).any (fun n => d.fbit SAF_FUNC_f_CFG_IN n f && (vget d.saf.inp n).latch) ||
  (List.range 8).any fun c => d.fbit SAF_FUNC_f_CFG_CONN c f && (vget d.saf.conn c).latch

/-- Function `f` waits for an acknowledge (R262). -/
def safWaits (d : Dev) (f : Nat) : Bool :=
  d.fb SAF_FUNC_f_CFG_EN f && d.fb SAF_FUNC_f_CFG_RESTART f && !(vget d.saf.fn f).acked

/-- `STATE_f` of `SAF_FUNC`. -/
def safState (d : Dev) (f : Nat) : Nat :=
  let x := vget d.saf.fn f
  if x.st ≠ 0 then x.st else if d.safLatched f then 5 else if d.safWaits f then 4 else 0

/-- The relay pins: driven high, bank 3 valid, not in an off-pulse (R44, R259). -/
def relayPins (d : Dev) : Nat :=
  let bank := d.fg SYS_IOBANK_BANK_3
  if bank = 0 ∨ bank = 3 then 0
  else maskOf 4 fun i => d.saf.cmd.testBit i && !(vget d.saf.fn (i / 2)).pulse.testBit (i % 2)

/-- Highest count of class `k` within its window (R249). -/
def safWinCount (d : Dev) (k : Nat) : Nat :=
  let w := d.winCount (d.fg SAF_CLS_k_WINDOW k)
  match k with
  | 0 => w d.saf.occ
  | 1 => (d.saf.inp.toList.map fun x => w x.occ).foldl max 0
  | 2 => (d.saf.fn.toList.map fun x => w x.occ).foldl max 0
  | _ => (d.saf.conn.toList.map fun x => w x.occ).foldl max 0

/-- UTC in seconds: from PTP time, else from the real-time clock (R322). -/
def utc (d : Dev) : Option Nat :=
  if d.fb CLK_PTP_CTRL_TIME_VALID then some (d.clk.ptpSec - d.fg LMP_TZ_UTC_OFS)
  else if d.fb AON_STAT_RTC_VALID then some d.rtcSec else none

/-- Address of directory entry `n` (R320). -/
def dirAt (d : Dev) (n : Nat) : Nat := 1048576 * d.fg LMP_DIR_BASE_BASE + 128 * n

/-! ### Cooper's self-test (R162) -/

/-- A self-test waits on lane `l`: none is idle among the slots, or a slot of the lane is ready. -/
def testWaits (d : Dev) (l : Nat) : Bool :=
  let x := vget d.cen.lane l
  x.testPend && (x.testSlot.isNone || (List.range 64).any fun s =>
    d.fg CEN_SLOT_s_CFG_LANE s == l && d.fg CEN_SLOT_s_STAT_STATE s == 2)

/-! ### The parallel group (R28) -/

/-- Lane `l` of the Neriq Link is `UP`, and has its clock (R15). -/
def laneUp (d : Dev) (l : Nat) : Bool := d.ifClock && d.fg NQL_LANE_l_STAT_STATE l == 5

/-- Position `p` of the group has a member on the Neriq Link that has exchanged capabilities: the node of that number, for the
device itself a lane that is `UP` (log entry 98). -/
def memberSeen (d : Dev) (p : Nat) : Bool :=
  d.fb SYS_ROLE_PAR_MODE && decide (p ≤ d.fg SYS_ROLE_PAR_SIZE) &&
  (if p = d.fg SYS_ROLE_PAR_POS then (List.range 2).any d.laneUp
   else d.fbit NQL_STAT_NODES p)

/-- Every member is present and its carrier aligned with the leader's (R121): no message tells one member of another's `ALIGNED`,
so that of the other followers is open (log entry 98). -/
def groupAligned (d : Dev) : Bool :=
  d.fb SYS_ROLE_PAR_MODE && (List.range (d.fg SYS_ROLE_PAR_SIZE + 1)).all d.memberSeen && d.fb PWM_ALIGN_STAT_ALIGNED &&
  (decide (d.fg SYS_ROLE_PAR_MODE = 2 ∧ d.fg SYS_ROLE_PAR_SIZE = 1) || Config.othersAligned d.clk.ticks)

/-- Engines that run on no follower (R28). -/
def notFollower (d : Dev) : Bool := d.fg SYS_ROLE_PAR_MODE != 2

/-- The present reference VREF of the auxiliary buck in mV (R361, R363): a ramp takes it towards `VSET` and ends there. -/
def bkVref (d : Dev) : Nat :=
  let v := d.fg AUX_BK_VSET_VSET
  match d.aux.bk.ramp with
  | none => d.fg AUX_BK_MEAS_V_VREF
  | some r =>
    let dx := r.num * (d.clk.ticks - r.start) / r.den
    if r.base ≤ v then min v (r.base + dx) else max v (r.base - dx)

/-- The field at bit `lo` of register `n` of the array at `b`, where it is taken from the machine at the moment of the
read; `none` where the register file holds it. -/
def live (d : Dev) (b n lo : Nat) : Option Nat :=
  match b, lo with
  | 0x20000044, 4 => some (maskOf 4 d.memberSeen)
  | 0x20000044, 0 => some (b2n d.groupAligned)
  | 0x20010200, 0 => some (d.clk.ticks % 2 ^ 32)
  | 0x20010204, 0 => some (d.clk.ticks / 2 ^ 32 % 2 ^ 16)
  | 0x20020010, 0 => some (maskOf 24 fun n => d.fb PWM_LEG_n_STAT_RUN n)
  | 0x20020048, 0 => some (d.cgCount n).1
  | 0x20020048, 30 => some (b2n (d.cgCount n).2)
  | 0x200200C0, 31 => some (b2n (vget d.pwm.forceTf n).isSome)
  | 0x20020218, 1 => some (b2n (d.overlaid n))
  | 0x20020218, 2 => some (b2n ((vget d.pwm.leg n).fH != 0 || (vget d.pwm.leg n).fL != 0))
  | 0x20030004, 5 => some (b2n d.auxWaiting)
  | 0x20040004, 1 => some (b2n ((List.range 24).any fun n => d.fb TRP_LEG_n_STAT_STATE n))
  | 0x20040004, 2 => some (b2n ((List.range 24).any fun n => d.fg TRP_LEG_n_STAT_STATE n == 2))
  | 0x20040010, 0 => some (maskOf 24 fun n => d.fb TRP_LEG_n_STAT_STATE n)
  | 0x20040014, 0 => some (maskOf 24 fun n => d.fg TRP_LEG_n_STAT_STATE n == 2)
  | 0x20040304, 16 => some (d.winCount (d.fg TRP_CLS_k_WINDOW (d.fg TRP_LEG_n_CFG_CLS n)) (vget d.trp.leg n).occ)
  | 0x20050004, 0 => some (b2n ((List.range 64).any fun s => d.fg CEN_SLOT_s_STAT_STATE s == 4))
  | 0x20050004, 1 => some (b2n ((List.range 64).any fun s => d.fb CEN_SLOT_s_STAT_SAT_SEEN s))
  | 0x20050004, 3 => some (b2n ((List.range 4).any d.testWaits))
  | 0x20050010, 31 => some (b2n (vget d.cen.lane n).cur.isSome)
  | 0x20050118, 3 => some (b2n (vget d.cen.slot n).spec.isSome)
  | 0x20050118, 16 => some (d.winCount (d.fg SYS_FCLS_k_WINDOW 4) (vget d.cen.slot n).occ)
  | 0x20070004, 0 => some (b2n (d.fb WGH_CTRL_EN && d.fg SYS_ROLE_PAR_MODE != 2))
  | 0x20070004, 2 => some (b2n (d.fb WGH_CTRL_EN && d.fg SYS_ROLE_PAR_MODE == 2))
  | 0x20080004, 3 => some (b2n (d.fbit TAL_INT_CUR_FLAGS 4))
  | 0x20080004, 2 => some (b2n (d.fbit TAL_INT_CUR_FLAGS 1))
  | 0x20080004, 1 => some (b2n (d.fbit TAL_INT_CUR_FLAGS 0))
  | 0x20080004, 0 => some (b2n (d.fb TAL_CTRL_EN && d.notFollower))
  | 0x20080400, 0 => some ((vget d.tal.tot n).val % 2 ^ 32)
  | 0x20080404, 24 => some (vget d.tal.tot n).wrap
  | 0x20080404, 0 => some ((vget d.tal.tot n).val / 2 ^ 32 % 2 ^ 18)
  | 0x20090000, 1 => some (d.fg SAF_ROLE_FOLLOWER)
  | 0x20090014, 24 => some (vget d.saf.fn 1).cause
  | 0x20090014, 16 => some (vget d.saf.fn 0).cause
  | 0x20090014, 8 => some (d.safState 1)
  | 0x20090014, 4 => some (b2n d.grd.demClose)
  | 0x20090014, 0 => some (d.safState 0)
  | 0x20090020, 23 => some (b2n (vget d.saf.fn 0).openV)
  | 0x20090020, 22 => some (b2n (vget d.saf.fn 0).closedV)
  | 0x20090020, 21 => some (b2n (vget d.saf.fn 1).openV)
  | 0x20090020, 20 => some (b2n (vget d.saf.fn 1).closedV)
  | 0x20090020, 8 => some d.relayPins
  | 0x20090080, 16 => some (d.safWinCount n)
  | 0x200C0004, 3 => some (b2n d.utc.isNone)
  | 0x200C0004, 2 => some (b2n (d.lmp.batches.any fun b => !b.asked))
  | 0x200C0004, 1 => some (b2n (d.lmp.used.any fun n => (d.rd8 (d.dirAt n + 56)).toNat.testBit 1))
  | 0x200C0004, 0 => some (b2n (d.fb LMP_CTRL_EN && d.notFollower))
  | 0x200C0018, 0 => some d.lmp.used.length
  | 0x200C0048, 22 => some (b2n (d.lmp.pulls != []))
  | 0x200C0048, 0 => some (maskOf 16 fun k => match vget d.lmp.peerAt k with
      | some t => decide (d.clk.ticks < t + 3000 * msTicks)
      | none => false)
  | 0x200C0208, 0 => some ((vget d.lmp.port n).starts.filter fun t => d.clk.ticks < t + 1000 * msTicks).length
  | 0x200D0010, 0 => some (d.aon.rtc % 2 ^ 32)
  | 0x200D0014, 0 => some (d.aon.rtc / 2 ^ 32 % 2 ^ 32)
  | 0x200E0028, 16 => some d.bkVref
  | 0x200D0050, 16 => some (min 255 (d.aon.occ.filter fun t => d.aon.rtc < t + d.fg AON_BS_CLS_WINDOW * 32768).length)
  | _, _ => none

end Dev
end Sys2Proof.Machine
end

