-- ==== Sys2Proof/Machine/Operands.lean ====
section
/-! DEFINITION. Operand forms: a field within a written word, a register found by its address, the word a
register reads as. -/
namespace Sys2Proof.Machine

/-- The value a written word gives field `F`. -/
def Fld.of (F : Fld) (w : Nat) : Nat := w / 2 ^ F.lo % 2 ^ F.len

/-- The value is an admitted encoding (R8). -/
def Legal.ok (l : Legal) (v : Nat) : Bool :=
  match l with
  | .any => true
  | .nz => v != 0
  | .rng lo hi => decide (lo ≤ v) && decide (v ≤ hi)
  | .srng w lim => decide ((sval w v).natAbs ≤ lim)
  | .oneOf l => l.contains v

/-- The index of the register at an address, if it is one of the array. -/
def Reg.idx (r : Reg) (a : Nat) : Option Nat :=
  if r.stride = 0 then (if a = r.base then some 0 else none)
  else if a < r.base ∨ (a - r.base) % r.stride ≠ 0 then none
  else
    let n := (a - r.base) / r.stride
    if r.start ≤ n ∧ n < r.start + r.count then some n else none

/-- The register of an address among those of a list, with its index. -/
def findIn (a : Nat) : List Reg → Option (Reg × Nat)
  | [] => none
  | r :: t => match r.idx a with
    | some n => some (r, n)
    | none => findIn a t

/-- The register of an address, with its index (R9: an unmapped offset has none). -/
def findReg (a : Nat) : Option (Reg × Nat) := findIn a (blockRegs (a / 65536))

/-- The block number of an address in register space, 0 for `SYS` to 18 for `DRC` (R30). -/
def blockNum (a : Nat) : Nat := a / 65536 - 0x2000

/-- The address lies in a register block (R30). -/
def inRegs (a : Nat) : Bool := decide (0x20000000 ≤ a) && decide (a < 0x20130000)

namespace Dev

/-- What a field reads as: write-only fields read 0 (R6). -/
def fldRead (d : Dev) (r : Reg) (n : Nat) (s : FldSpec) : Nat :=
  if s.acc = .WO then 0
  else ((d.live r.base n s.fld.lo).getD (d.fg s.fld n)) * 2 ^ s.fld.lo

/-- The word of a register: its fields in place, reserved bits 0 (R7). -/
def wordOf (d : Dev) (r : Reg) (n : Nat) : Nat := (r.flds.map (d.fldRead r n)).sum

/-- The word at an address; 0 at an unmapped offset (R7, R9). -/
def word (d : Dev) (a : Nat) : Nat :=
  match findReg a with
  | none => 0
  | some (r, n) => d.wordOf r n

/-- The words at a list of addresses, as reply bytes. -/
def words (d : Dev) (l : List Nat) : List Byte := l.flatMap fun a => leBytes 4 (d.word a)

end Dev
end Sys2Proof.Machine
end

