-- ==== Sys2Proof/Machine/Frames.lean ====
section
/-! DEFINITION. Frames of the Ethernet ports: what the engines read from them, their checksums, and the headers they build
(R294 to R297, R300, R303). -/
namespace Sys2Proof.Machine

/-! ### Numbers of the network, most significant byte first -/

/-- The number that bytes spell, most significant first. -/
def beNat (l : List Byte) : Nat := leNat l.reverse

/-- Bytes `i` to `i + n - 1` as a number, most significant first. -/
def beAt (l : List Byte) (i n : Nat) : Nat := beNat ((l.drop i).take n)

/-- The `n` low bytes of a number, most significant first. -/
def beBytes (n v : Nat) : List Byte := (leBytes n v).reverse

/-- The list with bytes replaced from place `i` on. -/
def putAt (l : List Byte) (i : Nat) (b : List Byte) : List Byte := l.take i ++ b ++ l.drop (i + b.length)

/-- `n` bit by bit shifted through the reflected polynomial of the frame check sequence. -/
def fcsShift : Nat → Nat → Nat
  | 0, c => c
  | n + 1, c => fcsShift n (if c % 2 = 1 then Nat.xor (c / 2) 0xEDB88320 else c / 2)

/-- The frame check sequence of IEEE 802.3 (R294). -/
def fcs (l : List Byte) : Nat := Nat.xor (l.foldl (fun c b => fcsShift 8 (Nat.xor c b.toNat)) 0xFFFFFFFF) 0xFFFFFFFF

/-- The sum of 16-bit words, the last padded with 0. -/
def sum16 : List Byte → Nat
  | a :: b :: t => a.toNat * 256 + b.toNat + sum16 t
  | [a] => a.toNat * 256
  | [] => 0

/-- Fold the carries of a ones' complement sum. -/
def fold16 (n : Nat) : Nat :=
  let m := n % 65536 + n / 65536
  m % 65536 + m / 65536

/-! ### What the engines read from a frame (R295, R296) -/

/-- A frame without its check sequence, as parsed. -/
structure Parsed where
  /-- TCI of its tag -/ tci : Option Nat := none
  /-- Ethertype after the tag, and the place of the payload -/ etype : Nat := 0
  l3 : Nat := 0
  /-- place and length of the UDP datagram, the sum of its pseudo-header -/ udp : Option (Nat × Nat) := none
  pseudo : Nat := 0
  /-- IPv4 -/ v4 : Bool := false
  deriving DecidableEq, Repr, Inhabited

/-- Parse a frame. -/
def parse (l : List Byte) : Parsed :=
  let tagged := beAt l 12 2 == 0x8100
  let tci := if tagged then some (beAt l 14 2) else none
  let et := if tagged then beAt l 16 2 else beAt l 12 2
  let o := if tagged then 18 else 14
  let ver := byteAt l o / 16
  let ihl := byteAt l o % 16 * 4
  let len4 := beAt l (o + ihl + 4) 2
  let len6 := beAt l (o + 44) 2
  if et == 0x0800 && ver == 4 && decide (20 ≤ ihl) && beAt l (o + 6) 2 % 0x4000 == 0 && byteAt l (o + 9) == 17 &&
      decide (8 ≤ len4) && decide (o + ihl + len4 ≤ l.length) then
    ⟨tci, et, o, some (o + ihl, len4), sum16 ((l.drop (o + 12)).take 8) + 17 + len4, true⟩
  else if et == 0x86DD && ver == 6 && byteAt l (o + 6) == 17 && decide (8 ≤ len6) && decide (o + 40 + len6 ≤ l.length) then
    ⟨tci, et, o, some (o + 40, len6), sum16 ((l.drop (o + 8)).take 32) + 17 + len6, false⟩
  else ⟨tci, et, o, none, 0, false⟩

/-- The IPv4 header, empty otherwise. -/
def ipHead (p : Parsed) (l : List Byte) : List Byte := if p.v4 then (l.drop p.l3).take (byteAt l p.l3 % 16 * 4) else []

/-- The checksums of an offloaded frame are right (R296). -/
def csumOk (p : Parsed) (l : List Byte) : Bool :=
  match p.udp with
  | none => false
  | some (o, n) =>
    (!p.v4 || fold16 (sum16 (ipHead p l)) == 65535) &&
    ((p.v4 && beAt l (o + 6) 2 == 0) || fold16 (p.pseudo + sum16 ((l.drop o).take n)) == 65535)

/-- Insert the UDP checksum of an offloaded frame. -/
def putUdpSum (l : List Byte) : List Byte :=
  let p := parse l
  match p.udp with
  | none => l
  | some (o, n) =>
    let l := putAt l (o + 6) [0, 0]
    let c := 65535 - fold16 (p.pseudo + sum16 ((l.drop o).take n))
    putAt l (o + 6) (beBytes 2 (if c = 0 then 65535 else c))

/-- Insert both checksums (R296). -/
def putSums (l : List Byte) : List Byte :=
  let p := parse l
  let l := if p.v4 then
      let l := putAt l (p.l3 + 10) [0, 0]
      putAt l (p.l3 + 10) (beBytes 2 (65535 - fold16 (sum16 (ipHead p l))))
    else l
  putUdpSum l

/-- Place of a PTP message in a frame: Ethertype 0x88F7 or a UDP port of `ports` (R297). -/
def ptpOn (ports : List Nat) (p : Parsed) (l : List Byte) : Option Nat :=
  if p.etype = 0x88F7 then some p.l3
  else match p.udp with
    | some (o, _) => if ports.contains (beAt l (o + 2) 2) then some (o + 8) else none
    | none => none

/-- Place of a PTP message that can be an event message: Ethertype 0x88F7 or UDP port 319 (R297). -/
def ptpAt (p : Parsed) (l : List Byte) : Option Nat := ptpOn [319] p l

/-- The frame carries a PTP event message (R297). -/
def ptpEvent (p : Parsed) (l : List Byte) : Bool :=
  match ptpAt p l with
  | some o => decide (o < l.length) && decide (byteAt l o % 16 ≤ 3)
  | none => false

namespace Dev

/-- A frame leaves a port, padded and with its check sequence. -/
def frameTx (d : Dev) (x : Nat) (l : List Byte) : Dev :=
  let l := l ++ List.replicate (60 - l.length) 0
  { d with tx := d.tx ++ [.eth x (l ++ leBytes 4 (fcs l))] }

/-- The port's own MAC address. -/
def ownMac (d : Dev) (x : Nat) : List Byte := leBytes 4 (d.fg NET_PORT_x_MAC_LO_MAC x) ++ leBytes 2 (d.fg NET_PORT_x_MAC_HI_MAC x)

/-- The port's own IPv6 address. -/
def ownIp6 (d : Dev) (x : Nat) : List Byte :=
  leBytes 4 (d.fg NET_PORT_x_IP6_0_ADDR x) ++ leBytes 4 (d.fg NET_PORT_x_IP6_1_ADDR x) ++
  leBytes 4 (d.fg NET_PORT_x_IP6_2_ADDR x) ++ leBytes 4 (d.fg NET_PORT_x_IP6_3_ADDR x)

/-- The port's own IPv4 address. -/
def ownIp4 (d : Dev) (x : Nat) : List Byte := leBytes 4 (d.fg NET_PORT_x_IP4_ADDR x)

/-- The headers of a frame with a UDP datagram: its addresses, the TCI of its tag, IPv6 or IPv4, the UDP ports. -/
structure UdpHead where
  dst : List Byte
  src : List Byte
  tci : Option Nat
  v6 : Bool
  ipSrc : List Byte
  ipDst : List Byte
  sport : Nat
  dport : Nat
  deriving DecidableEq, Repr

/-- The length of these headers. -/
def UdpHead.len (h : UdpHead) : Nat := 14 + (if h.tci.isSome then 4 else 0) + (if h.v6 then 40 else 20) + 8

/-- A frame with a UDP datagram, its checksums in place (R296, R300). `free` fills the IP header's fields that no rule states: type
of service, identification and time to live, or traffic class, flow label and hop limit. -/
def udpFrame (h : UdpHead) (free : Nat) (b : List Byte) : List Byte :=
  let tag := match h.tci with
    | some t => beBytes 2 0x8100 ++ beBytes 2 t
    | none => []
  let ip := if h.v6 then
      beBytes 2 0x86DD ++ beBytes 4 (0x60000000 + free % 2 ^ 28) ++ beBytes 2 (b.length + 8) ++ [17] ++ leBytes 1 (free / 2 ^ 28)
    else
      beBytes 2 0x0800 ++ [0x45] ++ leBytes 1 free ++ beBytes 2 (b.length + 28) ++ beBytes 2 (free / 2 ^ 8) ++ [0, 0] ++
        leBytes 1 (free / 2 ^ 24) ++ [17, 0, 0]
  putSums (h.dst ++ h.src ++ tag ++ ip ++ h.ipSrc ++ h.ipDst ++ beBytes 2 h.sport ++ beBytes 2 h.dport ++ beBytes 2 (b.length + 8) ++
    [0, 0] ++ b)

/-! ### Session packets (R303, R304) -/

/-- Next packet number of a session. -/
def txNum (d : Dev) (s : Nat) : Nat := d.fg NET_CTX_s_12_TXNUM_LO s + 2 ^ 32 * d.fg NET_CTX_s_13_TXNUM_HI s

/-- The port of a session's context. -/
def sessPort (d : Dev) (s : Nat) : Nat := d.fg NET_CTX_s_0_PORT s

/-- The headers that a session's context gives its frames (R304). -/
def sessHead (d : Dev) (s : Nat) : UdpHead :=
  let x := d.sessPort s
  let v6 := d.fb NET_CTX_s_0_IPV6 s
  let rip := leBytes 4 (d.fg NET_CTX_s_4_RIP0 s) ++ leBytes 4 (d.fg NET_CTX_s_5_RIP1 s) ++ leBytes 4 (d.fg NET_CTX_s_6_RIP2 s) ++
    leBytes 4 (d.fg NET_CTX_s_7_RIP3 s)
  { dst := leBytes 2 (d.fg NET_CTX_s_2_RMAC01 s) ++ leBytes 4 (d.fg NET_CTX_s_3_RMAC25 s), src := d.ownMac x,
    tci := if d.fb NET_CTX_s_0_VLAN s then some (d.fg NET_CTX_s_1_TCI s) else none, v6 := v6,
    ipSrc := if v6 then d.ownIp6 x else d.ownIp4 x, ipDst := if v6 then rip else rip.take 4,
    sport := d.fg NET_CTX_s_1_LPORT s, dport := d.fg NET_CTX_s_2_RPORT s }

/-- The key of a session's transmit phase. -/
def txKey (d : Dev) (s : Nat) : Option (List Byte) :=
  vget d.net.key (if d.fb NET_CTX_s_10_TXPH s then d.fg NET_CTX_s_10_KEY1 s else d.fg NET_CTX_s_10_KEY0 s)

/-- Bytes 0 to 15 of a session packet (R303). -/
def sessAad (d : Dev) (s type : Nat) : List Byte :=
  [1, BitVec.ofNat 8 (type + 16 * d.fg NET_CTX_s_10_TXPH s), 0, 0] ++ leBytes 4 (d.fg NET_CTX_s_9_RTAG s) ++ leBytes 8 (d.txNum s)

/-- The packet that protects a payload under a key (R303). -/
def sessPacket (d : Dev) (s type : Nat) (key payload : List Byte) : List Byte :=
  let aad := d.sessAad s type
  aad ++ (List.range (payload.length + 16)).map
    (Config.gcmSeal key (leBytes 4 (d.fg NET_CTX_s_11_SALT s) ++ aad.drop 8) aad payload)

/-- The frame of a session with a payload of `n` bytes is too long (R294, R300). -/
def sessLong (d : Dev) (s n : Nat) : Bool := decide (2044 < (d.sessHead s).len + 32 + n)

/-- The session sends: enabled, a key in its transmit phase, packet numbers left (R303). -/
def sessReady (d : Dev) (s : Nat) : Bool := d.fb NET_CTX_s_0_EN s && (d.txKey s).isSome && decide (d.txNum s < 2 ^ 64 - 1)

/-- A port can send: engines and port enabled, its link up. -/
def ethUp (d : Dev) (x : Nat) : Bool := d.fb NET_CTRL_EN && d.fb NET_PORT_x_CFG_EN x && d.fb NET_PORT_x_STAT_LINK x

/-- Send a packet on a session (R303): on its context's port (R300). A session that has used its packet numbers says so; one that
does not send, a port that is down and a payload too long for a frame send nothing. -/
def sessSend (d : Dev) (s type : Nat) (payload : List Byte) : Dev :=
  if !d.fb NET_CTX_s_0_EN s then d
  else if d.txNum s ≥ 2 ^ 64 - 1 then
    if d.fb NET_SESS_s_STAT_TX_EXH s then d else (d.fs NET_SESS_s_STAT_TX_EXH 1 s).raise 94 s
  else
    match d.txKey s with
    | none => d
    | some key =>
      if !d.ethUp (d.sessPort s) || d.sessLong s payload.length then d
      else
        let f := d.fresh
        let n := d.txNum s + 1
        ((f.2.frameTx (d.sessPort s) (udpFrame (d.sessHead s) f.1 (d.sessPacket s type key payload))).fs NET_CTX_s_12_TXNUM_LO n s).fs
          NET_CTX_s_13_TXNUM_HI (n / 2 ^ 32) s

end Dev
end Sys2Proof.Machine
end

