-- ==== Sys2Proof/Machine/Cmds.lean ====
section
/-! DEFINITION. The command engine (R284 to R293): packets, acceptance, the order in which commands start,
their completion and their replies. -/
namespace Sys2Proof.Machine

/-- The value of a status code (R286). -/
def St.code : St → Nat
  | .ok => 0 | .busy => 1 | .range => 2 | .state => 3 | .auth => 4
  | .version => 5 | .timeout => 6 | .aborted => 7 | .fault => 8 | .nospace => 9

/-- The block an opcode belongs to, as the first opcode of its range (R293). -/
def opBlock (op : Nat) : Nat :=
  if op < 0x040 then 0x000 else if op < 0x100 then 0x040 else if op < 0x140 then 0x100
  else if op < 0x200 then 0x140 else if op < 0x300 then 0x200 else if op < 0x400 then 0x300
  else if op < 0x500 then 0x400 else if op < 0x580 then 0x500 else if op < 0x600 then 0x580
  else if op < 0x700 then 0x600 else if op < 0x800 then 0x700 else if op < 0x900 then 0x800
  else if op < 0xA00 then 0x900 else if op < 0xB00 then 0xA00 else if op < 0xC00 then 0xB00 else 0xC00

/-- The opcode is defined (R293 and the chapters' command tables). -/
def opKnown (op : Nat) : Bool :=
  (op ≤ 0x008) || (0x040 ≤ op && op ≤ 0x043) || (0x050 ≤ op && op ≤ 0x052) || (0x100 ≤ op && op ≤ 0x104) ||
  (0x140 ≤ op && op ≤ 0x143) || (0x200 ≤ op && op ≤ 0x202) || (0x300 ≤ op && op ≤ 0x309) ||
  (0x400 ≤ op && op ≤ 0x404) || (0x500 ≤ op && op ≤ 0x502) || (0x580 ≤ op && op ≤ 0x581) ||
  (0x600 ≤ op && op ≤ 0x605) || (0x700 ≤ op && op ≤ 0x705) || (0x800 ≤ op && op ≤ 0x807) ||
  (0x900 ≤ op && op ≤ 0x907) || (0xA00 ≤ op && op ≤ 0xA04) || (0xB00 ≤ op && op ≤ 0xB04)

/-- What executing a command gives: a status with the reply's payload, or a reply still owed. -/
inductive Res where
  | reply (st : St) (bytes : List Byte)
  | owed
  deriving DecidableEq, Repr

/-- A reply of a status alone. -/
def Res.st (s : St) : Res := .reply s []

namespace Dev

/-- The outstanding command of a path and tag. -/
def findCmd (d : Dev) (p : Path) (tag : Nat) : Option Cmd :=
  d.hst.outst.find? fun c => c.path == p && c.tag == tag

/-- Change the outstanding command of a path and tag. -/
def updCmd (d : Dev) (p : Path) (tag : Nat) (f : Cmd → Cmd) : Dev :=
  { d with hst := { d.hst with outst := d.hst.outst.map fun c => if c.path == p && c.tag == tag then f c else c } }

/-- The number of outstanding commands shows in `HST_STAT.OUTST`. -/
def showOutst (d : Dev) : Dev := d.fs HST_STAT_OUTST d.hst.outst.length

/-- The command of a path and tag is no longer outstanding (R287). -/
def dropCmd (d : Dev) (p : Path) (tag : Nat) : Dev :=
  ({ d with hst := { d.hst with outst := d.hst.outst.filter fun x => !(x.path == p && x.tag == tag) } } : Dev).showOutst

/-- The command of a path and tag asks for no `ST_OK` reply (R287). -/
def noReply (d : Dev) (p : Path) (tag : Nat) : Bool := (d.findCmd p tag).any (·.noreply)

/-- A command completes with a status and a payload. Its reply waits to leave (R288); where `NOREPLY` suppresses it, the command
is outstanding no longer (R287). -/
def complete (d : Dev) (p : Path) (tag : Nat) (st : St) (bytes : List Byte) : Dev :=
  if st = .ok ∧ d.noReply p tag = true then d.dropCmd p tag
  else d.updCmd p tag fun c => { c with ran := true, done := some (st, bytes) }

/-- The started command of a path and tag whose block has not executed it. -/
def startedCmd (d : Dev) (p : Path) (tag op : Nat) : Option Cmd :=
  match d.findCmd p tag with
  | some c => if c.op == op && c.started && !c.ran && c.done.isNone then some c else none
  | none => none

/-- Execute the started command of opcode `op`: `f` gives the reply and the effect. A path and tag
without such a command have no effect. -/
def runCmd (d : Dev) (op : Nat) (p : Path) (tag : Byte) (f : Cmd → Dev → Res × Dev) : Dev :=
  match d.startedCmd p tag.toNat op with
  | none => d
  | some c =>
    match f c d with
    | (.reply st b, d') => d'.complete p tag.toNat st b
    | (.owed, d') => d'.updCmd p tag.toNat fun c => { c with ran := true }

/-- The version a path works at (R289). -/
def pathVer (d : Dev) : Path → Nat
  | .host => d.fg HST_STAT_VER
  | .sess s => vget d.hst.sver s

/-- Set it. -/
def setPathVer (d : Dev) (p : Path) (v : Nat) : Dev :=
  match p with
  | .host => d.fs HST_STAT_VER v
  | .sess s => { d with hst := { d.hst with sver := vset d.hst.sver s v } }

/-- The identifier a path's packets carry (R284). -/
def pathId (d : Dev) : Path → Nat
  | .host => d.fg HST_ID_ID
  | .sess s => d.fg NET_CTX_s_8_LTAG s

/-- A packet of R284. -/
def packet (d : Dev) (p : Path) (ver op tag flags status : Nat) (payload : List Byte) : List Byte :=
  let h := leBytes 2 (ver * 4096 + op) ++ leBytes 1 tag ++ leBytes 1 flags ++ leBytes 2 payload.length ++
    leBytes 1 status ++ leBytes 1 0 ++ leBytes 4 (d.pathId p)
  h ++ leBytes 4 (crc32c (h ++ payload)) ++ payload

/-- Hand a reply packet to its path (R280, R303). -/
def sendReply (d : Dev) (p : Path) (pkt : List Byte) : Dev :=
  match p with
  | .host => { d.fs HST_IRQ_REPLY 1 with hst := { d.hst with replies := d.hst.replies ++ [pkt] } }
  | .sess s => d.sessSend s 1 pkt

/-- A command is refused at acceptance: its reply leaves at once and holds no tag (R287). -/
def refuseCmd (d : Dev) (p : Path) (ver op tag : Nat) (st : St) (dup : Bool) : Dev :=
  d.sendReply p (d.packet p ver op tag (0x80 + if dup then 0x40 else 0) st.code [])

/-- A packet is discarded as a framing error (R285). -/
def frameError (d : Dev) : Dev :=
  (((d.fcnt HST_STAT_FRAME_CNT HST_STAT_CNT_OVF).fs HST_STAT_FRAME_ERR 1).fs HST_IRQ_FRAME 1).raise 95

/-- The packet's framing is sound: length, limit and CRC (R284, R285). -/
def frameOk (pkt : List Byte) : Bool :=
  decide (16 ≤ pkt.length) && decide (leAt pkt 4 2 + 16 = pkt.length) && decide (leAt pkt 4 2 ≤ 16384) &&
  decide (leAt pkt 12 4 = crc32c (pkt.take 12 ++ pkt.drop 16))

/-- A command packet is accepted, refused or discarded (R284, R285, R287, R289; order: log entry 12). -/
def acceptCmd (d : Dev) (p : Path) (pkt : List Byte) : Dev :=
  if !frameOk pkt then d.frameError
  else
    let w := leAt pkt 0 2
    let ver := w / 4096
    let op := w % 4096
    let tag := byteAt pkt 2
    let fl := byteAt pkt 3
    if (d.findCmd p tag).isSome then d.refuseCmd p ver op tag .busy true
    else if fl / 8 ≠ 0 ∨ byteAt pkt 6 ≠ 0 ∨ byteAt pkt 7 ≠ 0 ∨ (fl.testBit 2 = true ∧ d.pathVer p = 1) then
      d.refuseCmd p ver op tag .range false
    else if (op = 1 ∧ (ver = 0 ∨ 3 < ver)) ∨ (op ≠ 1 ∧ ver ≠ d.pathVer p) then d.refuseCmd p ver op tag .version false
    else if leAt pkt 8 4 ≠ d.pathId p then d.refuseCmd p ver op tag .auth false
    else if 256 ≤ d.hst.outst.length ∨ 65536 < (d.hst.outst.map fun c => c.payload.length + 16).sum + pkt.length then
      d.refuseCmd p ver op tag .nospace false
    else
      ({ d with hst := { d.hst with outst := d.hst.outst ++ [{
          path := p, tag := tag, ver := ver, op := op, barrier := fl.testBit 0 || op == 1,
          noreply := fl.testBit 1, urgent := fl.testBit 2, payload := pkt.drop 16 }] } } : Dev).showOutst

/-- Commands accepted before the one of a path and tag. -/
def earlier (p : Path) (tag : Nat) : List Cmd → List Cmd
  | [] => []
  | c :: t => if c.path == p && c.tag == tag then [] else c :: earlier p tag t

/-- Opcodes whose operation other commands of the block find under way: a burst, which another command cancels (R218), and a group
command, of which four run at once (R332). Until its reply such a command does not hold its block. -/
def overlaps (op : Nat) : Bool := op == 0x502 || op == 0x907

/-- The command occupies its block (R288). -/
def cmdHolds (x : Cmd) : Bool := x.started && x.done.isNone && !(x.ran && overlaps x.op)

/-- The command may start (R288): its block is free, it is first in its block's queue, no barrier holds it. -/
def mayStart (d : Dev) (c : Cmd) : Bool :=
  let blk := opBlock c.op
  let before := earlier c.path c.tag d.hst.outst
  let waits := fun (x : Cmd) => !x.started && x.done.isNone
  !c.started && c.done.isNone &&
  d.hst.outst.all (fun x => !(opBlock x.op == blk && cmdHolds x)) &&
  before.all (fun x => !(opBlock x.op == blk && waits x && (x.urgent || !c.urgent))) &&
  (c.urgent || d.hst.outst.all (fun x => !(opBlock x.op == blk && waits x && x.urgent))) &&
  (c.urgent || !c.barrier || before.all (fun x => x.path != c.path || x.urgent || x.done.isSome)) &&
  (c.urgent || before.all (fun x => x.path != c.path || !x.barrier || x.done.isSome))

/-- Opcodes served before boot is done (R386). -/
def bootOp (op : Nat) : Bool := op ≤ 2 || op == 0x041 || op == 0x042 || op == 0x006

/-- A waiting command starts; an opcode that is reserved, or not served in the present boot state, completes
at once (R290, R386). -/
def startCmd (d : Dev) (p : Path) (tag : Nat) : Dev :=
  match d.findCmd p tag with
  | none => d
  | some c =>
    if !d.mayStart c then d
    else
      let d := d.updCmd p tag fun c => { c with started := true }
      if !opKnown c.op then d.complete p tag .range []
      else if d.fg SYS_BOOT_STAT_STATE ≠ 4 ∧ bootOp c.op = false then d.complete p tag .state []
      else d

/-- A completed command's reply leaves: under version 1 in acceptance order (R288). -/
def releaseReply (d : Dev) (p : Path) (tag : Nat) : Dev :=
  match d.findCmd p tag with
  | none => d
  | some c =>
    match c.done with
    | none => d
    | some (st, b) =>
      if d.pathVer p = 1 ∧ (earlier p tag d.hst.outst).any (fun x => x.path == p) then d
      else
        let ver := if c.op = 1 ∧ st = .ok then d.pathVer p else c.ver
        let pkt := d.packet p ver c.op c.tag 0x80 st.code b
        (d.dropCmd p tag).sendReply p pkt

/-- An access that Nightwatch does not answer stays under way until its time-out (R292). -/
def accessSlow (d : Dev) (c : Cmd) : Res × Dev := (.owed, { d with hst := { d.hst with slow := d.hst.slow ++ [(c.path, c.tag)] } })

end Dev
/-- A command without payload that returns register words taken at one instant. -/
def capsCmd (addrs : List Nat) (c : Cmd) (d : Dev) : Res × Dev :=
  if c.payload ≠ [] then (.st .range, d) else (.reply .ok (d.words addrs), d)

end Sys2Proof.Machine
end

