-- ==== Sys2Proof/Machine/Nightwatch.lean ====
section
/-! DEFINITION. Nightwatch: its supply, the real-time clock, door and tamper, wake and black start (R347 to
R358). -/
namespace Sys2Proof.Machine

namespace Dev

/-- `AON_WAKE` (R354). -/
def aonWake (d : Dev) : Bool :=
  d.fb AON_CTRL_WAKE_HOLD || d.fbit AON_STAT_PEND 3 ||
  (d.fbit AON_STAT_PEND 0 && d.fb AON_CTRL_ALARM_WAKE) || (d.fbit AON_STAT_PEND 1 && d.fb AON_CTRL_DOOR_WAKE) ||
  (d.fbit AON_STAT_PEND 2 && d.fb AON_CTRL_TAMPER_WAKE)

/-- The stop stamp (R351). -/
def stopStamp (d : Dev) : Dev :=
  if !d.aon.alive then d
  else
    let d := ((d.fs AON_STOP_LO_C d.aon.rtc).fs AON_STOP_HI_C (d.aon.rtc / 2 ^ 32)).fs AON_STAT_STOP_VALID (d.fg AON_STAT_RTC_VALID)
    { d with aon := { d.aon with stopSeq := d.aon.stopSeq + 1 } }

/-- The clock is set to a count (R349). -/
def rtcCommit (d : Dev) (c : Nat) : Dev :=
  { d.fs AON_STAT_RTC_VALID 1 with aon := { d.aon with rtc := c % 2 ^ 64, frac := 0, hold := 0, wrote := true } }

/-- The clock advances by hardware. -/
def rtcAdd (d : Dev) (n : Int) : Dev :=
  if n = 0 then d else
  { d with aon := { d.aon with rtc := uval 64 (d.aon.rtc + n), rtcSeq := d.aon.rtcSeq + 1, wrote := false } }

/-- The black-start sequencer enters a state. -/
def bsGo (d : Dev) (st : Nat) : Dev :=
  { d.fs AON_BS_STAT_STATE st with aon := { d.aon with qual := 0, fbRun := 0, pulses := 0 } }

/-- A failure of the black-start sequence (R357, R358). -/
def bsFail (d : Dev) : Dev :=
  let occ := d.aon.occ.filter (fun t => d.aon.rtc < t + d.fg AON_BS_CLS_WINDOW * 32768) ++ [d.aon.rtc]
  let d := (d.fcnt AON_BS_STAT_FAIL_CNT AON_BS_STAT_CNT_OVF).fsBit AON_STAT_PEND 3 false
  let d := { d with aon := { d.aon with occ := occ } }
  if d.fg AON_BS_CLS_LIMIT ≤ occ.length then ((d.bsGo 6).fs AON_BS_STAT_LATCHED 1).raiseN 115
  else d.bsGo 5

/-- A sample in the states that measure (R357): `vhv`, `fb` in mV. -/
def bsStep (d : Dev) (vhv fb : Nat) : Dev :=
  match d.fg AON_BS_STAT_STATE with
  | 0 => if !d.sys.vddCore && !d.fb AON_BS_STAT_LATCHED && decide (d.fg AON_BS_CFG_VHV_ON ≤ vhv) then d.bsGo 1 else d
  | 1 =>
    if d.sys.vddCore || decide (vhv < d.fg AON_BS_CFG_VHV_ON) then d.bsGo 0
    else if d.fg AON_BS_CFG_QUAL_T ≤ d.aon.qual + 1 then d.bsGo 2
    else { d with aon := { d.aon with qual := d.aon.qual + 1 } }
  | 2 =>
    if fb < d.fg AON_BS_FB_FB_OK then { d with aon := { d.aon with fbRun := 0 } }
    else if 20 ≤ d.aon.fbRun + 1 then (d.bsGo 3).fsBit AON_STAT_PEND 3 true
    else { d with aon := { d.aon with fbRun := d.aon.fbRun + 1 } }
  | 3 =>
    if d.fg AON_BS_FB_FB_DROP ≤ fb then { d with aon := { d.aon with fbRun := 0 } }
    else if 3 ≤ d.aon.fbRun + 1 then d.bsFail
    else { d with aon := { d.aon with fbRun := d.aon.fbRun + 1 } }
  | _ => d

/-- The sequencer when `VDD_CORE` becomes valid: in qualify and kick it ends in idle, uncounted (R357). -/
def bsCoreUp (d : Dev) : Dev :=
  if d.fg AON_BS_STAT_STATE = 1 ∨ d.fg AON_BS_STAT_STATE = 2 then d.bsGo 0 else d

/-- The sequencer when `VDD_CORE` is lost (R357). -/
def bsCoreDown (d : Dev) : Dev := if d.fg AON_BS_STAT_STATE = 4 then d.bsGo 0 else d

/-- The reset release that follows the return of `VDD_CORE`: the cause is recorded (R354; first application comes after black start and
before the others, log entry 93), a black start in run is done (R357). -/
def wakeCause (d : Dev) : Dev :=
  let p := d.fg AON_STAT_PEND
  let c := if p.testBit 3 then 2
    else if d.aon.first then 0
    else if p.testBit 0 && d.fb AON_CTRL_ALARM_WAKE then 3
    else if p.testBit 1 && d.fb AON_CTRL_DOOR_WAKE then 4
    else if p.testBit 2 && d.fb AON_CTRL_TAMPER_WAKE then 5
    else if d.fb AON_CTRL_WAKE_HOLD then 6 else 1
  let d : Dev := { d.fs AON_STAT_CAUSE c with aon := { d.aon with first := false } }
  if d.fg AON_BS_STAT_STATE = 3 then (((d.bsGo 4).fs AON_STAT_CAUSE 2).finc AON_BS_STAT_SEQ).raise 115 else d

/-- The sample of a door or tamper pin: a second low sample sets the latch (R353). -/
def latchSample (d : Dev) (low : Bool) (PIN LATCH TS : Fld) (pend ev : Nat) : Dev :=
  let prev := d.fb PIN
  let d := d.fs PIN (b2n low)
  if low && prev then
    let first := !d.fb LATCH
    let d := (d.fs LATCH 1).fsBit AON_STAT_PEND pend true
    if first then (d.fs TS d.rtcSec).raiseN ev else d
  else d

/-! ### AON registers -/

/-- Combinations of values out of range (R8). -/
def rangeAON (_d : Dev) (b _n w : Nat) : Bool :=
  b == 0x200D0048 && decide (AON_BS_FB_FB_OK.of w ≤ AON_BS_FB_FB_DROP.of w)

/-- W1C bits of a field that a rule refuses to clear (R353). -/
def refusedAON (d : Dev) (b lo : Nat) : Bool :=
  b == 0x200D0030 && ((lo == 0 && d.fb AON_LATCH_DOOR_PIN) || (lo == 1 && d.fb AON_LATCH_TAMPER_PIN))

/-- What a W1C clear does besides clearing. -/
def clearedAON (d : Dev) (b lo : Nat) : Dev :=
  if b = 0x200D0050 ∧ lo = 15 then d.fs AON_BS_STAT_FAIL_CNT 0
  else if b = 0x200D0050 ∧ lo = 14 then d.bsGo 0
  else d

/-- What a write does after it is stored. -/
def afterAON (d d0 : Dev) (b _n w : Nat) : Dev :=
  if b = 0x200D0000 ∧ AON_CTRL_BS_EN.of w ≠ d0.fg AON_CTRL_BS_EN ∧ d.fg AON_BS_STAT_STATE ≠ 6 then d.bsGo 0
  else d

end Dev

/-! ### Events of Nightwatch -/

/-- `VBAT_AON` rises to 2.0 V: first application (R347). -/
def vbatFirst (d : Dev) : Dev :=
  if d.aon.alive then d
  else
    let d := { d with regs := d.regs.filter fun e => e.1 / 32 / 65536 != 0x200D
                      aon := { alive := true, sampled := false, first := true }, evt := { d.evt with held := [] } }
    if d.sys.vddCore then d.fs CLK_REF_STAT_XT_CHECK_OFF 1 else d

def execVbatFirstApplication (s : State) : Host.Outcome State Fault Refusal := s.runAon vbatFirst

/-- Monitored supply `k` has left its valid range: its sticky bit, unless reset holds the register (R46). -/
def Dev.dropSeen (d : Dev) (k : Nat) : Dev := if d.sys.phase = .run then d.fsBit SYS_PWRSTAT_DROP k true else d

/-- `VBAT_AON` falls below 2.0 V: Nightwatch stops, and with it the crystal (R347, R371); it has left its range (R46). -/
def vbatLossDev (d : Dev) : Dev :=
  if !d.aon.alive then d
  else
    let d := { d.bsGo 0 with aon := { d.aon with alive := false, qual := 0, fbRun := 0, pulses := 0 } }
    let d := (d.fs AON_STAT_XT_OK 0).fs CLK_REF_STAT_XT_CHECK_OFF 1
    if d.fb SYS_PWRSTAT_VBAT_OK then (d.fs SYS_PWRSTAT_VBAT_OK 0).dropSeen 4 else d

def execVbatLoss (s : State) : Host.Outcome State Fault Refusal :=
  s.runAon vbatLossDev

/-- The 1 s sample of `VBAT_AON` against 2.2 V (R347, R355). -/
def vbatSampleDev (mv : Nat) (d : Dev) : Dev :=
  if !d.aon.alive then d
  else
    let low := decide (mv < 2200)
    let fell := low && d.aon.sampled && !d.fb AON_STAT_VBAT_LOW
    let d := (d.fs AON_STAT_VBAT_LOW (b2n low)).fs SYS_PWRSTAT_VBAT_OK (b2n !low)
    let d := if low then d.fs AON_STAT_VBAT_LOW_SEEN 1 else d
    let d := { d with aon := { d.aon with sampled := true } }
    if fell then (d.dropSeen 4).raiseN 116 else d

def execVbatSample (mv : Nat) (s : State) : Host.Outcome State Fault Refusal := s.runAon (vbatSampleDev mv)

/-- No crystal edge for 1 ms (R350). -/
def crystalLossDev (d : Dev) : Dev :=
  if d.aon.alive && d.fb AON_STAT_XT_OK then
    ((d.fs AON_STAT_XT_OK 0).fs AON_STAT_RTC_VALID 0).fs CLK_REF_STAT_XT_CHECK_OFF 1
  else d

def execCrystalLoss (s : State) : Host.Outcome State Fault Refusal := s.runAon crystalLossDev

/-- The crystal restarts: the count resumes from the value it held (R350, R49). -/
def crystalRestartDev (d : Dev) : Dev :=
  if d.aon.alive && !d.fb AON_STAT_XT_OK then (d.fs AON_STAT_XT_OK 1).fs CLK_REF_STAT_XT_CHECK_OFF 0 else d

def execCrystalRestart (s : State) : Host.Outcome State Fault Refusal := s.runAon crystalRestartDev

/-- Every 32 s of clock time the trim's counts are added, or as many of the next counts are withheld (R350). -/
def rtcTrimDev (d : Dev) : Dev :=
  let t := d.fgS AON_RTC_TRIM_TRIM
  if !d.aon.alive || !d.fb AON_STAT_XT_OK then d
  else if 0 ≤ t then d.rtcAdd t
  else { d with aon := { d.aon with hold := d.aon.hold + t.natAbs } }

def execRtcTrimTimer (s : State) : Host.Outcome State Fault Refusal := s.runAon rtcTrimDev

/-- The clock has counted to the alarm second (R352). -/
def rtcAlarmDev (d : Dev) : Dev :=
  if d.aon.alive && d.fb AON_CTRL_ALARM_EN && d.fb AON_STAT_XT_OK && !d.aon.wrote && decide (d.aon.rtc % 32768 = 0) &&
     decide (d.rtcSec % 2 ^ 32 = d.fg AON_ALARM_SEC) then
    (d.fsBit AON_STAT_PEND 0 true).raiseN 114
  else d

def execRtcAlarm (s : State) : Host.Outcome State Fault Refusal := s.runAon rtcAlarmDev

/-- The 31.25 ms sample of the door and tamper pins (R353). -/
def doorTamperDev (door tamper : Bool) (d : Dev) : Dev :=
  if !d.aon.alive then d
  else
    (d.latchSample door AON_LATCH_DOOR_PIN AON_LATCH_DOOR AON_DOOR_TS_SEC 1 112).latchSample tamper
      AON_LATCH_TAMPER_PIN AON_LATCH_TAMPER AON_TAMPER_TS_SEC 2 113

def execDoorTamperSample (door tamper : Bool) (s : State) : Host.Outcome State Fault Refusal :=
  s.runAon (doorTamperDev door tamper)

/-- A sample of the black-start converter (R356, R357); voltages in mV. -/
def bsSampleDev (vhv fb vbat : Nat) (d : Dev) : Dev :=
  if d.aon.alive && d.fb AON_CTRL_BS_EN then
    (((d.fs AON_MEAS_VHV (min vhv 1200)).fs AON_MEAS_BSFB (min fb 1200)).fs AON_MEAS_VBAT (min (vbat / 10) 1023)).bsStep vhv fb
  else d

def execBsSample (vhv fb vbat : Nat) (s : State) : Host.Outcome State Fault Refusal := s.runAon (bsSampleDev vhv fb vbat)

/-- A kick pulse falls due: it is driven, or after `KICK_N` pulses the sequence fails (R357). -/
def kickPulseDev (d : Dev) : Dev :=
  if d.aon.alive && decide (d.fg AON_BS_STAT_STATE = 2) then
    if d.aon.pulses < d.fg AON_BS_KICK_KICK_N then { d with aon := { d.aon with pulses := d.aon.pulses + 1 } }
    else d.bsFail
  else d

def execKickPulse (s : State) : Host.Outcome State Fault Refusal := s.runAon kickPulseDev

/-- `VDD_CORE` is not valid within `WAKE_TMO` in run (R357). -/
def bsWakeTimeoutDev (d : Dev) : Dev :=
  if d.aon.alive && decide (d.fg AON_BS_STAT_STATE = 3) && !d.sys.vddCore then d.bsFail else d

def execBsWakeTimeout (s : State) : Host.Outcome State Fault Refusal := s.runAon bsWakeTimeoutDev

/-- `RETRY_T` after a failure (R357). -/
def bsRetryDev (d : Dev) : Dev :=
  if d.aon.alive && decide (d.fg AON_BS_STAT_STATE = 5) then d.bsGo 0 else d

def execBsRetryExpiry (s : State) : Host.Outcome State Fault Refusal := s.runAon bsRetryDev

/-! ### Commands -/

/-- `AON_TIME_SET` (R372). -/
def aonTimeSetCmd (c : Cmd) (d : Dev) : Res × Dev :=
  if c.payload.length ≠ 8 then (.st .range, d)
  else if !d.aon.alive then d.accessSlow c
  else (.st .ok, d.rtcCommit (leNat c.payload))

def execAonTimeSet (p : Path) (tag : Byte) (s : State) : Host.Outcome State Fault Refusal :=
  s.run fun d => d.runCmd 0xA01 p tag aonTimeSetCmd

/-- `AON_CLEAR` (R372, R353). -/
def aonClearCmd (c : Cmd) (d : Dev) : Res × Dev :=
  let m := byteAt c.payload 0
  if c.payload.length ≠ 1 ∨ 16 ≤ m then (.st .range, d)
  else if !d.aon.alive then d.accessSlow c
  else if (m.testBit 0 && d.fb AON_LATCH_DOOR_PIN && d.fb AON_LATCH_DOOR) ||
          (m.testBit 1 && d.fb AON_LATCH_TAMPER_PIN && d.fb AON_LATCH_TAMPER) then (.st .state, d)
  else
    let d := if m.testBit 0 then d.fs AON_LATCH_DOOR 0 else d
    let d := if m.testBit 1 then d.fs AON_LATCH_TAMPER 0 else d
    let d := if m.testBit 2 && d.fb AON_BS_STAT_LATCHED then (d.fs AON_BS_STAT_LATCHED 0).bsGo 0 else d
    let d := if m.testBit 3 then d.fs AON_STAT_PEND 0 else d
    (.st .ok, d)

def execAonClear (p : Path) (tag : Byte) (s : State) : Host.Outcome State Fault Refusal :=
  s.run fun d => d.runCmd 0xA02 p tag aonClearCmd

/-- A command that returns words of Nightwatch too: while Nightwatch answers nothing the access stays under way (R20, R292). -/
def auxWordsCmd (addrs : List Nat) (c : Cmd) (d : Dev) : Res × Dev :=
  if c.payload = [] ∧ d.aon.alive = false then d.accessSlow c else capsCmd addrs c d

/-- `AUX_CAPS` (R372). -/
def execAuxCaps (p : Path) (tag : Byte) (s : State) : Host.Outcome State Fault Refusal :=
  s.run fun d => d.runCmd 0xA00 p tag (auxWordsCmd [0x200D0008, 0x200E0008])

/-- `AUX_STATUS` (R372). -/
def execAuxStatus (p : Path) (tag : Byte) (s : State) : Host.Outcome State Fault Refusal :=
  s.run fun d => d.runCmd 0xA04 p tag
    (auxWordsCmd [0x200D0004, 0x200D0030, 0x200D0050, 0x200E0004, 0x200E0028, 0x200E0110, 0x200E0114])

end Sys2Proof.Machine
end

