-- ==== Sys2Proof/Machine/AuxDrivers.lean ====
section
/-! DEFINITION. The auxiliary buck controller and the coolant pump driver (R359 to R370). -/
namespace Sys2Proof.Machine

namespace Dev

/-! ### Buck -/

/-- The controller leaves soft start or regulation: `PGOOD_AUX` goes low at once (R364), a shed and a slew
end, a waiting `AUX_BK_SET` is aborted (R372). -/
def buckLeave (d : Dev) : Dev :=
  let d := if d.fb AUX_BK_STAT_PGOOD then ((d.fs AUX_BK_STAT_PGOOD 0).fs AUX_BK_STAT_PG_LOST_SEEN 1).raise 118 else d
  let d := ((d.fs AUX_BK_STAT_SHED 0).fs AUX_BK_STAT_SLEWING 0).fs AUX_BK_STAT_ILIM_ACT 0
  let d := match d.aux.bk.owed with
    | some (p, t) => d.complete p t .aborted []
    | none => d
  { d with aux := { d.aux with bk := { d.aux.bk with settle := false, owed := none, ramp := none, on := false, sum := 0, iref := 0 } } }

/-- The buck changes beyond its registers. -/
def updBk (d : Dev) (f : Buck → Buck) : Dev := { d with aux := { d.aux with bk := f d.aux.bk } }

/-- VREF stands at `VSET`: its ramp is over. -/
def vrefSet (d : Dev) : Dev := (d.fs AUX_BK_MEAS_V_VREF (d.fg AUX_BK_VSET_VSET)).updBk fun x => { x with ramp := none }

/-- A soft start from the present VFB (R361). While the edge domain is in fallback the controller stays
clock-stopped (R366). -/
def buckStart (d : Dev) : Dev :=
  if d.fb CLK_PLL_STAT_FALLBACK then d.fs AUX_BK_STAT_STATE 4
  else
    let v := d.fg AUX_BK_MEAS_V_VFB
    let r : VRamp := { base := v, start := d.clk.ticks, num := d.fg AUX_BK_VSET_VSET, den := d.fg AUX_BK_SS_SS_T * msTicks }
    let d := ((d.fs AUX_BK_STAT_STATE 1).fs AUX_BK_MEAS_V_VREF v).updBk fun x =>
      { x with ramp := some r, on := false, sum := 0, iref := 0, next := d.clk.ticks }
    if d.fg AUX_BK_VSET_VSET ≤ v then (d.fs AUX_BK_STAT_STATE 2).vrefSet else d

/-- Hiccup, or latched at the class limit (R361). -/
def buckHiccup (d : Dev) : Dev :=
  let d := d.buckLeave
  let d := (d.fcnt AUX_BK_STAT_HICCUP_CNT AUX_BK_STAT_CNT_OVF).raise 117
  let h := d.classHit 9 d.aux.bk.occ
  let d := { d with aux := { d.aux with bk := { d.aux.bk with occ := h.1 } } }
  if h.2 then (d.fs AUX_BK_STAT_STATE 5).fs AUX_BK_STAT_LATCHED 1 else d.fs AUX_BK_STAT_STATE 3

/-- The fold-back limit L in 0.1 mV of sense, times 400 × `VSET` (R360): `ILIM` × (100 × `VSET` + 300 × min(`VSET`, VFB)). -/
def buckLimitNum (d : Dev) : Nat :=
  d.fg AUX_BK_ILIM_ILIM * (100 * d.fg AUX_BK_VSET_VSET + 300 * min (d.fg AUX_BK_VSET_VSET) (d.fg AUX_BK_MEAS_V_VFB))

/-- A switching period of 5 ns ticks begins (R359): the voltage loop computes its current reference, within the limit L (R360), and the
switches run from the first period in which VREF exceeds VFB (R361). -/
def buckPeriod (d : Dev) : Dev :=
  let st := d.fg AUX_BK_STAT_STATE
  if (st == 1 || st == 2) && decide (d.aux.bk.next ≤ d.clk.ticks) then
    let e : Int := (d.bkVref : Int) - d.fg AUX_BK_MEAS_V_VFB
    let sum := d.aux.bk.sum + e
    let i := 256 * d.fg AUX_BK_LOOP_KP * e + d.fg AUX_BK_LOOP_KI * sum
    let lim : Int := (d.buckLimitNum * 65536 / (4000 * d.fg AUX_BK_VSET_VSET) : Nat)
    d.updBk fun x => { x with sum := sum, iref := min lim i, on := x.on || decide (0 < e), next := d.clk.ticks + 4 * d.fg AUX_BK_FSW_PER }
  else d

/-- A measured VFB shows in `AUX_BK_MEAS_V`. -/
def setVfb (d : Dev) (v : Nat) : Dev := d.fs AUX_BK_MEAS_V_VFB (min v 2047)

/-! ### Pump -/

/-- Every pump switch off. -/
def pumpOff (d : Dev) : Dev := { d with aux := { d.aux with pmp := { d.aux.pmp with hg := 0, lg := 0, chop := none } } }

/-- A start: the bootstraps are precharged through the low switches (R367). -/
def pumpStart (d : Dev) : Dev :=
  if d.fb CLK_PLL_STAT_FALLBACK then (d.fs AUX_PMP_STAT_STATE 4).pumpOff
  else if d.fb SYS_PWRSTAT_VDRV_OK then
    let d := d.fs AUX_PMP_STAT_STATE 1
    { d with aux := { d.aux with pmp := { d.aux.pmp with hg := 0, lg := 7, chop := none, edges := [] } } }
  else ((d.fs AUX_PMP_STAT_STATE 3).fs AUX_PMP_STAT_FCAUSE 6).pumpOff

/-- The row of a Hall code in the table of R368; 6 for an invalid code. -/
def hallRow (code : Nat) : Nat :=
  match code with
  | 0b101 => 0 | 0b100 => 1 | 0b110 => 2 | 0b010 => 3 | 0b011 => 4 | 0b001 => 5 | _ => 6

/-- Chopping phase and conducting phase of a row for `DIR` = 0 (R368). -/
def hallPhases (row : Nat) : Nat × Nat :=
  match row with
  | 0 => (0, 1) | 1 => (0, 2) | 2 => (1, 2) | 3 => (1, 0) | 4 => (2, 0) | _ => (2, 1)

/-- Commutate by a valid Hall row (R368). -/
def commutate (d : Dev) (row : Nat) : Dev :=
  let p := hallPhases ((row + 6 - d.fg AUX_PMP_CTRL_SHIFT) % 6)
  let q := if d.fb AUX_PMP_CTRL_DIR then (p.2, p.1) else p
  { d with aux := { d.aux with pmp := { d.aux.pmp with hg := 2 ^ q.1, lg := 2 ^ q.2, chop := some q.1 } } }

/-- A pump fault (R369, R370). -/
def pumpFault (d : Dev) (cause fswH fswL : Nat) : Dev :=
  let d := (((d.pumpOff.fs AUX_PMP_STAT_FCAUSE cause).fs AUX_PMP_STAT_FSW_H fswH).fs AUX_PMP_STAT_FSW_L fswL)
  let d := (d.fcnt AUX_PMP_STAT_FAULT_CNT AUX_PMP_STAT_CNT_OVF).raise 119
  let h := d.classHit 10 d.aux.pmp.occ
  let d := { d with aux := { d.aux with pmp := { d.aux.pmp with occ := h.1 } } }
  if h.2 then (d.fs AUX_PMP_STAT_STATE 5).fs AUX_PMP_STAT_LATCHED 1 else d.fs AUX_PMP_STAT_STATE 3

/-- The pump runs or precharges. -/
def pumpLive (d : Dev) : Bool := d.fg AUX_PMP_STAT_STATE == 1 || d.fg AUX_PMP_STAT_STATE == 2

/-- The electrical revolution in 10 µs units from the last seven valid edges (R368). -/
def pumpSpeed (edges : List Nat) : Nat :=
  match edges with
  | e0 :: _ :: _ :: _ :: _ :: _ :: e6 :: _ => min 0xFFFF ((e0 - e6) / 8000)
  | _ => 0xFFFF

/-! ### Loss of lock and return (R366) -/

/-- Both stages stop at loss of lock. -/
def auxClockStop (d : Dev) : Dev :=
  let bk := d.fg AUX_BK_STAT_STATE
  let d := if bk = 0 ∨ bk = 5 then d else d.buckLeave.fs AUX_BK_STAT_STATE 4
  let pm := d.fg AUX_PMP_STAT_STATE
  if pm = 0 ∨ pm = 5 then d else d.pumpOff.fs AUX_PMP_STAT_STATE 4

/-- Fallback clears: each stage with `AUTO_RESUME` and `EN` resumes. -/
def auxResume (d : Dev) : Dev :=
  let d := if d.fg AUX_BK_STAT_STATE = 4 ∧ d.fb AUX_BK_CTRL_EN ∧ d.fb AUX_BK_CTRL_AUTO_RESUME then d.buckStart else d
  if d.fg AUX_PMP_STAT_STATE = 4 ∧ d.fb AUX_PMP_CTRL_EN ∧ d.fb AUX_PMP_CTRL_AUTO_RESUME then d.pumpStart else d

/-! ### AUX registers -/

/-- Combinations of values out of range: `ADD_TH` ≤ `SHED_TH` (R374). -/
def rangeAUX (_d : Dev) (b _n w : Nat) : Bool :=
  b == 0x200E001C && decide (AUX_BK_ILIM_ADD_TH.of w ≤ AUX_BK_ILIM_SHED_TH.of w)

/-- Writes refused by the state (R367, R374). -/
def stateAUX (d : Dev) (b _n w : Nat) : Bool :=
  let chg := fun (F : Fld) => F.of w != d.fg F
  if b = 0x200E0010 then d.fb AUX_BK_CTRL_EN && (chg AUX_BK_FSW_PER || chg AUX_BK_FSW_DT)
  else if b = 0x200E0000 then d.fb AUX_BK_CTRL_EN && chg AUX_BK_CTRL_PH1_EN
  else if b = 0x200E0104 then d.fb AUX_PMP_CTRL_EN &&
    (chg AUX_PMP_CFG_PER || chg AUX_PMP_CFG_DT || chg AUX_PMP_CFG_BLANK || chg AUX_PMP_CFG_VDS_TH)
  else if b = 0x200E0100 then
    (d.fb AUX_PMP_CTRL_EN && (chg AUX_PMP_CTRL_DIR || chg AUX_PMP_CTRL_SHIFT)) ||
    (!d.fb AUX_PMP_CTRL_EN && AUX_PMP_CTRL_EN.of w == 1 && !d.fb SYS_PWRSTAT_VDRV_OK)
  else false

/-- The clear of the pump's `LATCHED` is refused without `VDRV_OK` (R370). -/
def refusedAUX (d : Dev) (b lo : Nat) : Bool := b == 0x200E0110 && lo == 9 && !d.fb SYS_PWRSTAT_VDRV_OK

/-- What a W1C clear does besides clearing. -/
def clearedAUX (d : Dev) (b lo : Nat) : Dev :=
  if b = 0x200E0004 ∧ lo = 7 then d.fs AUX_BK_STAT_HICCUP_CNT 0
  else if b = 0x200E0004 ∧ lo = 6 then
    if d.fg AUX_BK_STAT_STATE = 5 then (if d.fb AUX_BK_CTRL_EN then d.buckStart else d.fs AUX_BK_STAT_STATE 0) else d
  else if b = 0x200E0110 ∧ lo = 8 then d.fs AUX_PMP_STAT_FAULT_CNT 0
  else if b = 0x200E0110 ∧ lo = 9 then
    if d.fg AUX_PMP_STAT_STATE = 5 then (if d.fb AUX_PMP_CTRL_EN then d.pumpStart else d.fs AUX_PMP_STAT_STATE 0) else d
  else d

/-- `VSET` has been written while VREF stood at `v`: in regulation VREF moves towards it at `SLEW` (R363), a soft start's ramp goes on at
its rate (R371). -/
def buckSlew (d : Dev) (v : Nat) : Dev :=
  let d1 := d.fs AUX_BK_MEAS_V_VREF v
  let r : VRamp := { base := v, start := d.clk.ticks, num := d.fg AUX_BK_VSET_SLEW, den := msTicks }
  if d.fg AUX_BK_STAT_STATE = 2 ∧ v ≠ d.fg AUX_BK_VSET_VSET then (d1.fs AUX_BK_STAT_SLEWING 1).updBk fun x => { x with ramp := some r }
  else if d.fg AUX_BK_STAT_STATE = 1 then
    d1.updBk fun x => { x with ramp := x.ramp.map fun r => { r with base := v, start := d.clk.ticks } }
  else d

/-- What a write does after it is stored. -/
def afterAUX (d d0 : Dev) (b _n _w : Nat) : Dev :=
  if b = 0x200E0000 then
    if d.fb AUX_BK_CTRL_EN ∧ d0.fb AUX_BK_CTRL_EN = false then
      (if d.fg AUX_BK_STAT_STATE = 5 then d else d.buckStart)
    else if d.fb AUX_BK_CTRL_EN = false ∧ d0.fb AUX_BK_CTRL_EN then
      (if d.fg AUX_BK_STAT_STATE = 5 then d else d.buckLeave.fs AUX_BK_STAT_STATE 0)
    else d
  else if b = 0x200E0014 then d.buckSlew d0.bkVref
  else if b = 0x200E0100 then
    if d.fb AUX_PMP_CTRL_EN ∧ d0.fb AUX_PMP_CTRL_EN = false then
      (if d.fg AUX_PMP_STAT_STATE = 5 then d else d.pumpStart)
    else if d.fb AUX_PMP_CTRL_EN = false ∧ d0.fb AUX_PMP_CTRL_EN then
      (if d.fg AUX_PMP_STAT_STATE = 5 then d else d.pumpOff.fs AUX_PMP_STAT_STATE 0)
    else d
  else d

end Dev

/-! ### Events of the buck -/

/-- The ramp reaches `VSET` (R361). -/
def softStartEndDev (vfb : Nat) (d : Dev) : Dev :=
  if d.fg AUX_BK_STAT_STATE ≠ 1 ∨ d.bkVref ≠ d.fg AUX_BK_VSET_VSET then d
  else
    let d := (d.setVfb vfb).vrefSet
    if 2 * d.fg AUX_BK_MEAS_V_VFB < d.fg AUX_BK_VSET_VSET then d.buckHiccup else d.fs AUX_BK_STAT_STATE 2

def execSoftStartEnd (vfb : Nat) (s : State) : Host.Outcome State Fault Refusal := s.run (softStartEndDev vfb)

/-- The 64 ms off time of a hiccup ends (R361). -/
def hiccupEndDev (vfb : Nat) (d : Dev) : Dev :=
  if d.fg AUX_BK_STAT_STATE ≠ 3 then d else (d.setVfb vfb).buckStart

def execHiccupEnd (vfb : Nat) (s : State) : Host.Outcome State Fault Refusal := s.run (hiccupEndDev vfb)

/-- The limit has acted in every period for `OC_T`, or VFB has been below half of VREF for 1 ms (R362). -/
def buckFaultDev (ilim : Bool) (vfb : Nat) (d : Dev) : Dev :=
  if d.fg AUX_BK_STAT_STATE ≠ 2 then d
  else
    let d := d.setVfb vfb
    if ilim then (d.fs AUX_BK_STAT_ILIM_ACT 1).buckHiccup
    else if 2 * d.fg AUX_BK_MEAS_V_VFB < d.bkVref then d.buckHiccup else d

def execBuckFaultDetect (ilim : Bool) (vfb : Nat) (s : State) : Host.Outcome State Fault Refusal :=
  s.run (buckFaultDev ilim vfb)

/-- VREF arrives at `VSET` (R363); a waiting `AUX_BK_SET` is answered with VFB (R372). -/
def buckSlewDoneDev (vfb : Nat) (d : Dev) : Dev :=
  if d.fg AUX_BK_STAT_STATE = 2 ∧ d.fb AUX_BK_STAT_SLEWING ∧ d.bkVref = d.fg AUX_BK_VSET_VSET then
    let d := ((d.setVfb vfb).fs AUX_BK_STAT_SLEWING 0).vrefSet
    match d.aux.bk.owed with
    | some (p, t) =>
      { d.complete p t .ok (leBytes 2 (d.fg AUX_BK_MEAS_V_VFB)) with aux := { d.aux with bk := { d.aux.bk with owed := none } } }
    | none => d
  else d

def execBuckSlewDone (vfb : Nat) (s : State) : Host.Outcome State Fault Refusal := s.run (buckSlewDoneDev vfb)

/-- |VFB − VREF| ≤ VREF × `PG_WIN` ÷ 1,000 (R364). -/
def inPgWindow (d : Dev) : Bool :=
  decide (((d.fg AUX_BK_MEAS_V_VFB : Int) - d.bkVref).natAbs * 1000 ≤ d.bkVref * d.fg AUX_BK_PG_PG_WIN)

/-- The output has stayed in its window for 1 ms (R364). -/
def pgoodReleaseDev (vfb : Nat) (d : Dev) : Dev :=
  let d := if d.fg AUX_BK_STAT_STATE = 2 then d.setVfb vfb else d
  if d.fg AUX_BK_STAT_STATE = 2 ∧ d.fb AUX_BK_STAT_PGOOD = false ∧ inPgWindow d then
    (d.fs AUX_BK_STAT_PGOOD 1).raise 118
  else d

def execPgoodRelease (vfb : Nat) (s : State) : Host.Outcome State Fault Refusal := s.run (pgoodReleaseDev vfb)

/-- 10 µs after VFB left the window (R364). -/
def pgoodLossDev (vfb : Nat) (d : Dev) : Dev :=
  let d := if d.fg AUX_BK_STAT_STATE = 2 then d.setVfb vfb else d
  if d.fg AUX_BK_STAT_STATE = 2 ∧ d.fb AUX_BK_STAT_PGOOD ∧ inPgWindow d = false then
    ((d.fs AUX_BK_STAT_PGOOD 0).fs AUX_BK_STAT_PG_LOST_SEEN 1).raise 118
  else d

def execPgoodLoss (vfb : Nat) (s : State) : Host.Outcome State Fault Refusal := s.run (pgoodLossDev vfb)

/-- 256 periods of low current begin a shed (R365); the phase averages are in 0.1 mV of sense. -/
def shedStartDev (i0 i1 : BitVec 16) (d : Dev) : Dev :=
  let d := (d.fs AUX_BK_MEAS_I_I0 i0.toNat).fs AUX_BK_MEAS_I_I1 i1.toNat
  if d.fg AUX_BK_STAT_STATE = 2 ∧ d.fb AUX_BK_CTRL_SHED_EN ∧ d.fb AUX_BK_CTRL_PH1_EN ∧ d.fb AUX_BK_STAT_SHED = false ∧
     (i0.toInt + i1.toInt) * 100 < (d.fg AUX_BK_ILIM_SHED_TH * d.fg AUX_BK_ILIM_ILIM : Nat) then
    { d with aux := { d.aux with bk := { d.aux.bk with settle := true } } }
  else d

def execShedStart (i0 i1 : BitVec 16) (s : State) : Host.Outcome State Fault Refusal := s.run (shedStartDev i0 i1)

/-- The settle window ends: phase 1 is shed, or the shed is abandoned because the total exceeded 60 % of
`ILIM` or the limit acted in the window (R365). -/
def shedSettleEndDev (abandon : Bool) (d : Dev) : Dev :=
  if d.aux.bk.settle = false then d
  else
    let d := { d with aux := { d.aux with bk := { d.aux.bk with settle := false } } }
    if abandon then d.fs AUX_BK_STAT_SHED_ABORT_SEEN 1 else d.fs AUX_BK_STAT_SHED 1

def execShedSettleEnd (abandon : Bool) (s : State) : Host.Outcome State Fault Refusal := s.run (shedSettleEndDev abandon)

/-- Phase 0's average exceeds `ADD_TH` % of `ILIM`: phase 1 switches again (R365). -/
def phaseReaddDev (i0 : BitVec 16) (d : Dev) : Dev :=
  let d := d.fs AUX_BK_MEAS_I_I0 i0.toNat
  if d.fb AUX_BK_STAT_SHED ∧ (d.fg AUX_BK_ILIM_ADD_TH * d.fg AUX_BK_ILIM_ILIM : Nat) < i0.toInt * 100 then
    d.fs AUX_BK_STAT_SHED 0
  else d

def execPhaseReadd (i0 : BitVec 16) (s : State) : Host.Outcome State Fault Refusal := s.run (phaseReaddDev i0)

/-- `AUX_BK_SET` (R372): the reply is sent when VREF reaches `VSET`. -/
def auxBkSetCmd (c : Cmd) (d : Dev) : Res × Dev :=
  let v := leAt c.payload 0 2
  let sl := leAt c.payload 2 2
  if c.payload.length ≠ 4 ∨ v < 400 ∨ 1200 < v ∨ sl < 1 ∨ 1000 < sl then (.st .range, d)
  else if d.fg AUX_BK_STAT_STATE ≠ 2 then (.st .state, d)
  else
    let d := ((d.fs AUX_BK_VSET_VSET v).fs AUX_BK_VSET_SLEW sl).buckSlew d.bkVref
    if d.bkVref = v then (.reply .ok (leBytes 2 (d.fg AUX_BK_MEAS_V_VFB)), d)
    else (.owed, { d with aux := { d.aux with bk := { d.aux.bk with owed := some (c.path, c.tag) } } })

def execAuxBkSet (p : Path) (tag : Byte) (s : State) : Host.Outcome State Fault Refusal :=
  s.run fun d => d.runCmd 0xA03 p tag auxBkSetCmd

/-! ### Events of the pump -/

/-- The precharge time ends: commutation begins (R367, R368). -/
def prechargeEndDev (d : Dev) : Dev :=
  if d.fg AUX_PMP_STAT_STATE ≠ 1 then d
  else
    let row := Dev.hallRow (d.fg AUX_PMP_STAT_HALL)
    if row = 6 then d.pumpFault 1 0 0 else (d.fs AUX_PMP_STAT_STATE 2).commutate row

def execPrechargeEnd (s : State) : Host.Outcome State Fault Refusal := s.run prechargeEndDev

/-- A new Hall code (R368, R369). -/
def hallChangeDev (code : BitVec 3) (d : Dev) : Dev :=
  let old := Dev.hallRow (d.fg AUX_PMP_STAT_HALL)
  let new := Dev.hallRow code.toNat
  let d := d.fs AUX_PMP_STAT_HALL code.toNat
  if d.fg AUX_PMP_STAT_STATE ≠ 2 ∨ new = old then d
  else if new = 6 ∨ old = 6 ∨ ((old + 1) % 6 ≠ new ∧ (new + 1) % 6 ≠ old) then d.pumpFault 1 0 0
  else
    let e := (d.clk.ticks :: d.aux.pmp.edges).take 7
    let d := { d with aux := { d.aux with pmp := { d.aux.pmp with edges := e } } }
    (d.commutate new).fs AUX_PMP_SPEED_EPER (Dev.pumpSpeed e)

def execHallCodeChange (code : BitVec 3) (s : State) : Host.Outcome State Fault Refusal := s.run (hallChangeDev code)

/-- A low switch that is on desaturates after its blanking (R369): one that conducts, or the chopping phase's complementary one. -/
def pumpDesatDev (n : Nat) (d : Dev) : Dev :=
  if d.pumpLive && (d.aux.pmp.lg.testBit n || (d.aux.pmp.chop == some n && decide (d.fg AUX_PMP_DUTY_DUTY < 0x8000))) then d.pumpFault 4 0 (2 ^ n) else d

def execPumpDesat (n : Fin 3) (s : State) : Host.Outcome State Fault Refusal := s.run (pumpDesatDev n)

/-- The current limit acts in every period for 1 ms (R369). -/
def pumpOvercurrentDev (d : Dev) : Dev :=
  match d.fg AUX_PMP_STAT_STATE, d.aux.pmp.chop with
  | 2, some n => (d.fs AUX_PMP_STAT_ILIM_ACT 1).pumpFault 3 (2 ^ n) 0
  | _, _ => d

def execPumpOvercurrent (s : State) : Host.Outcome State Fault Refusal := s.run pumpOvercurrentDev

/-- The bootstrap of the chopping phase is low in 16 consecutive periods (R369). -/
def pumpBootstrapDev (n : Nat) (d : Dev) : Dev :=
  if d.fg AUX_PMP_STAT_STATE = 2 ∧ d.aux.pmp.chop = some n then d.pumpFault 5 (2 ^ n) 0 else d

def execPumpBootstrapLow (n : Fin 3) (s : State) : Host.Outcome State Fault Refusal := s.run (pumpBootstrapDev n)

/-- No valid Hall edge for `STALL_T` while `DUTY` > 0 (R369). -/
def pumpStallDev (d : Dev) : Dev :=
  if d.fg AUX_PMP_STAT_STATE = 2 ∧ 0 < d.fg AUX_PMP_DUTY_DUTY then
    (d.pumpFault 2 0 0).fs AUX_PMP_SPEED_EPER 0xFFFF
  else d

def execPumpStallTimeout (s : State) : Host.Outcome State Fault Refusal := s.run pumpStallDev

/-- `RESTART_T` after a fault below the limit (R370). -/
def pumpRestartDev (d : Dev) : Dev :=
  if d.fg AUX_PMP_STAT_STATE = 3 ∧ d.fg AUX_PMP_STAT_FCAUSE ≠ 6 then d.pumpStart else d

def execPumpRestartTimer (s : State) : Host.Outcome State Fault Refusal := s.run pumpRestartDev

/-- `VDRV_OK` is lost (R370, R401). -/
def vdrvLossDev (d : Dev) : Dev :=
  if d.fb SYS_PWRSTAT_VDRV_OK = false then d
  else
    let d := (d.fs SYS_PWRSTAT_VDRV_OK 0).dropSeen 5
    if d.pumpLive then ((d.fs AUX_PMP_STAT_STATE 3).fs AUX_PMP_STAT_FCAUSE 6).pumpOff else d

def execVdrvLoss (s : State) : Host.Outcome State Fault Refusal := s.run vdrvLossDev

/-- `VDRV_OK` returns: a pump stopped by its loss restarts (R370). -/
def vdrvReturnDev (d : Dev) : Dev :=
  let d := d.fs SYS_PWRSTAT_VDRV_OK 1
  if d.fg AUX_PMP_STAT_STATE = 3 ∧ d.fg AUX_PMP_STAT_FCAUSE = 6 then d.pumpStart else d

def execVdrvReturn (s : State) : Host.Outcome State Fault Refusal := s.run vdrvReturnDev

end Sys2Proof.Machine
end

