-- ==== Sys2Proof/Machine/Trace.lean ====
section
/-! DEFINITION. Scrivener, Cooper's trace capture (R164 to R167): records, channels, triggers. -/
namespace Sys2Proof.Machine

namespace Dev

/-- The 30-bit record timestamp: timebase bits [32:3] (R165). -/
def trcTs (d : Dev) : Nat := d.clk.ticks / 8 % 2 ^ 30

/-- A record of R165. -/
def trcRec (d : Dev) (data exp : Nat) (spec : Bool) (kind : Nat) : BitVec 64 :=
  BitVec.ofNat 64 (data % 2 ^ 24 * 2 ^ 40 + exp % 64 * 2 ^ 34 + b2n spec * 2 ^ 33 + kind * 2 ^ 31 + b2n d.deg * 2 ^ 30 + d.trcTs)

/-- Channel `c` with a change. -/
def setTrc (d : Dev) (c : Nat) (t : TrcCh) : Dev := { d with cen := { d.cen with trc := vset d.cen.trc c t } }

/-- `CEN_TRC_STAT.RECORDING` follows the channels. -/
def showRec (d : Dev) : Dev := d.fs CEN_TRC_STAT_RECORDING (b2n (d.cen.trc.toList.any (·.running)))

/-- Records in the DRAM ring of channel `c` (R166). -/
def trcRing (d : Dev) (c : Nat) : Nat := 512 * 2 ^ d.fg CEN_TRC_c_CFG_RSIZE c

/-- The DRAM ring is full (R167). -/
def trcFull (d : Dev) (c : Nat) : Bool := (d.fg CEN_TRC_c_WPTR_OFS c + 1) % d.trcRing c == d.fg CEN_TRC_c_RPTR_OFS c

/-- Records that the on-chip buffer of a channel holds (R139). -/
def trcBuf : Nat := 16384

/-- A record enters the DRAM ring. -/
def trcStore (d : Dev) (c : Nat) (r : BitVec 64) : Dev :=
  let w := d.fg CEN_TRC_c_WPTR_OFS c % d.trcRing c
  (d.wrN (4096 * d.fg CEN_TRC_c_BASE_BASE c + 8 * w) (leBytes 8 r.toNat)).fs CEN_TRC_c_WPTR_OFS ((w + 1) % d.trcRing c) c

/-- Move records from the on-chip buffer to the DRAM ring while there is room; a gap record follows the
records that were waiting once the buffer has space (R167). -/
def trcDrain (d : Dev) (c : Nat) : Nat → Dev
  | 0 => d
  | n + 1 =>
    if d.trcFull c then d
    else
      let t := vget d.cen.trc c
      match t.fifo with
      | [] => d
      | r :: rest =>
        let d := d.trcStore c r
        if t.lost = 0 then trcDrain (d.setTrc c { t with fifo := rest }) c n
        else trcDrain (d.setTrc c { t with fifo := rest ++ [d.trcRec (min t.lost (2 ^ 24 - 1)) 0 false 3], lost := 0 }) c n

/-- A record of a recording channel (R166, R167). -/
def trcPush (d : Dev) (c : Nat) (r : BitVec 64) : Dev :=
  let t := vget d.cen.trc c
  if !t.running || t.postLeft == some 0 then d
  else if d.fb CEN_TRC_c_CFG_STREAM c then
    if t.fifo = [] ∧ d.trcFull c = false then d.trcStore c r
    else if t.fifo.length < trcBuf then (d.setTrc c { t with fifo := t.fifo ++ [r] }).trcDrain c (t.fifo.length + 2)
    else
      let d := if t.lost = 0 then d.raise 42 c else d
      (d.setTrc c { t with lost := t.lost + 1 }).fsBit CEN_TRC_STAT_OVR c true
  else
    let w := d.fg CEN_TRC_c_WPTR_OFS c % trcBuf
    (d.setTrc c { t with buf := spPut w r 0 t.buf, postLeft := t.postLeft.map (· - 1) }).fs CEN_TRC_c_WPTR_OFS ((w + 1) % trcBuf) c

/-- A time record (R165). -/
def trcTime (d : Dev) (c : Nat) : Dev := d.trcPush c (d.trcRec (d.clk.ticks / 2 ^ 33 % 2 ^ 15) 0 false 2)

/-- Channels that take records of source `src`, index `idx` (R164). -/
def trcOf (d : Dev) (src idx : Nat) : List Nat :=
  (List.range 4).filter fun c => d.fg CEN_TRC_c_CFG_SRC c == src && (src == 0 || d.fg CEN_TRC_c_CFG_IDX c == idx)

/-- A value record on channel `c` from slot `s` or leg `n`; a speculative one awaits its outcome (R165). -/
def trcValue (d : Dev) (c mant exp : Nat) (spec : Bool) (s n : Option Nat) : Dev :=
  let d := d.trcPush c (d.trcRec mant exp spec 0)
  let t := vget d.cen.trc c
  if spec && t.running then
    d.setTrc c { t with specSlots := s.toList ++ t.specSlots, specLegs := n.toList ++ t.specLegs }
  else d

/-- A value of source `src`, index `idx` (sources 1 to 3 of R164). -/
def trcSource (d : Dev) (src idx mant exp : Nat) (spec : Bool) (s n : Option Nat) : Dev :=
  (d.trcOf src idx).foldl (fun d c => d.trcValue c mant exp spec s n) d

/-- An outcome record: `code` 1 committed, 2 cancelled, 3 abandoned (R165). -/
def trcOutcome (d : Dev) (s : Nat) (legs : List Nat) (code target : Nat) : Dev :=
  (List.range 4).foldl (fun d c =>
    let t := vget d.cen.trc c
    if t.specSlots.contains s || legs.any t.specLegs.contains then
      (d.setTrc c { t with specSlots := [], specLegs := [] }).trcPush c
        (d.trcRec (code * 2 ^ 22 + s * 2 ^ 16 + target % 256) 0 false 1)
    else d) d

/-- A trigger (R166): only the first after arming counts. -/
def trcTrigger (d : Dev) : Dev :=
  if d.fb CEN_TRC_CTRL_ARM && !d.fb CEN_TRC_STAT_TRIGGERED then
    let d := ((d.finc CEN_TRC_STAT_TRIG_SEQ).fs CEN_TRC_STAT_TRIGGERED 1).raise 40
    (List.range 4).foldl (fun d c =>
      let t := vget d.cen.trc c
      if t.running && !d.fb CEN_TRC_c_CFG_STREAM c then d.setTrc c { t with postLeft := some (d.fg CEN_TRC_CTRL_POST) } else d) d
  else d

/-- `ARM` is set: every enabled channel starts, with a time record (R165, R166). -/
def trcArm (d : Dev) : Dev :=
  let d := ((d.fs CEN_TRC_CTRL_ARM 1).fs CEN_TRC_STAT_TRIGGERED 0).fs CEN_TRC_STAT_DONE 0
  let d := (List.range 4).foldl (fun d c =>
    if d.fb CEN_TRC_c_CFG_EN c then
      (d.setTrc c { vget d.cen.trc c with running := true, postLeft := none, specSlots := [], specLegs := [] }).trcTime c
    else d) d
  d.showRec

/-- `ARM` is clear: recording stops; records already accepted still reach the DRAM ring (R168). -/
def trcDisarm (d : Dev) : Dev :=
  ({ d.fs CEN_TRC_CTRL_ARM 0 with cen := { d.cen with trc := vmap (fun t => { t with running := false, postLeft := none }) d.cen.trc } } : Dev).showRec

/-! ### Scrivener registers -/

/-- The ring of a base and size code lies in usable DRAM, aligned to its size (R308). -/
def trcPlaced (d : Dev) (base rsize : Nat) : Bool :=
  d.placed (4096 * base) (4096 * 2 ^ rsize) && base % 2 ^ rsize == 0 && decide (0x80000 ≤ base)

/-- Combinations out of range. -/
def rangeTRC (d : Dev) (b n w : Nat) : Bool :=
  if b = 0x20050C10 then
    let src := CEN_TRC_c_CFG_SRC.of w
    let idx := CEN_TRC_c_CFG_IDX.of w
    (decide (src = 3) && decide (16 ≤ idx)) || ((src == 1 || src == 2) && decide (24 ≤ idx)) ||
    (CEN_TRC_c_CFG_RSIZE.of w != d.fg CEN_TRC_c_CFG_RSIZE n && !d.trcPlaced (d.fg CEN_TRC_c_BASE_BASE n) (CEN_TRC_c_CFG_RSIZE.of w))
  else if b = 0x20050C14 then !d.trcPlaced (CEN_TRC_c_BASE_BASE.of w) (d.fg CEN_TRC_c_CFG_RSIZE n)
  else if b = 0x20050C1C then decide (d.trcRing n ≤ CEN_TRC_c_RPTR_OFS.of w)
  else false

/-- Writes refused by the state (R170). -/
def stateTRC (d : Dev) (b n w : Nat) : Bool :=
  d.fb CEN_TRC_CTRL_ARM &&
  (if b = 0x20050C00 then
    CEN_TRC_CTRL_EV_EN.of w != d.fg CEN_TRC_CTRL_EV_EN || CEN_TRC_CTRL_EV_SEL.of w != d.fg CEN_TRC_CTRL_EV_SEL ||
    CEN_TRC_CTRL_POST.of w != d.fg CEN_TRC_CTRL_POST
  else if b = 0x20050C10 then
    CEN_TRC_c_CFG_EN.of w != d.fg CEN_TRC_c_CFG_EN n || CEN_TRC_c_CFG_STREAM.of w != d.fg CEN_TRC_c_CFG_STREAM n ||
    CEN_TRC_c_CFG_SRC.of w != d.fg CEN_TRC_c_CFG_SRC n || CEN_TRC_c_CFG_IDX.of w != d.fg CEN_TRC_c_CFG_IDX n ||
    CEN_TRC_c_CFG_RSIZE.of w != d.fg CEN_TRC_c_CFG_RSIZE n
  else if b = 0x20050C14 then CEN_TRC_c_BASE_BASE.of w != d.fg CEN_TRC_c_BASE_BASE n
  else false)

/-- What a write does after it is stored. -/
def afterTRC (d d0 : Dev) (b n w : Nat) : Dev :=
  if b = 0x20050C00 then
    let arm := CEN_TRC_CTRL_ARM.of w != 0
    let was := d0.fb CEN_TRC_CTRL_ARM
    let d := if arm && !was then d.trcArm else if !arm && was then d.trcDisarm else d
    if CEN_TRC_CTRL_SWTRIG.of w ≠ 0 then d.trcTrigger else d
  else if b = 0x20050C1C then d.trcDrain n (trcBuf + 1)
  else d

/-- 64-bit records `i` to `i + n - 1` of a channel's on-chip buffer. -/
def trcRecords (d : Dev) (c i : Nat) : Nat → List Byte
  | 0 => []
  | n + 1 => leBytes 8 (spGet i 0 (vget d.cen.trc c).buf).toNat ++ trcRecords d c (i + 1) n

end Dev

/-! ### Events and commands of Scrivener -/

/-- The record timestamp wraps: a time record on every recording channel (R165). -/
def tsWrapDev (d : Dev) : Dev :=
  if d.trcTs = 0 then (List.range 4).foldl (fun d c => d.trcTime c) d else d

def execScrivenerTsWrap (s : State) : Host.Outcome State Fault Refusal := s.run tsWrapDev

/-- A ring channel has recorded `POST` records after the trigger: it stops, and when every ring channel has
stopped the capture is complete (R166). -/
def postDoneDev (c : Nat) (d : Dev) : Dev :=
  let t := vget d.cen.trc c
  if t.running && t.postLeft == some 0 then
    let d := (d.setTrc c { t with running := false, postLeft := none }).showRec
    if (List.range 4).any (fun c => (vget d.cen.trc c).running && !d.fb CEN_TRC_c_CFG_STREAM c) then d
    else (d.trcDisarm.fs CEN_TRC_STAT_DONE 1).raise 41
  else d

def execScrivenerPostDone (c : Fin 4) (s : State) : Host.Outcome State Fault Refusal := s.run (postDoneDev c)

/-- `TRC_CAPS` (R168). -/
def execTrcCaps (p : Path) (tag : Byte) (s : State) : Host.Outcome State Fault Refusal :=
  s.run fun d => d.runCmd 0xB00 p tag (capsCmd [0x20050008])

/-- `TRC_ARM` (R168). -/
def trcArmCmd (c : Cmd) (d : Dev) : Res × Dev :=
  if c.payload ≠ [] then (.st .range, d)
  else if (List.range 4).any (fun c => d.fb CEN_TRC_c_CFG_EN c) = false then (.st .state, d)
  else (.st .ok, if d.fb CEN_TRC_CTRL_ARM then d else d.trcArm)

def execTrcArm (p : Path) (tag : Byte) (s : State) : Host.Outcome State Fault Refusal :=
  s.run fun d => d.runCmd 0xB01 p tag trcArmCmd

/-- `TRC_TRIGGER` (R168). -/
def trcTriggerCmd (c : Cmd) (d : Dev) : Res × Dev :=
  if c.payload ≠ [] then (.st .range, d)
  else if d.fb CEN_TRC_CTRL_ARM then (.st .ok, d.trcTrigger) else (.st .state, d)

def execTrcTrigger (p : Path) (tag : Byte) (s : State) : Host.Outcome State Fault Refusal :=
  s.run fun d => d.runCmd 0xB02 p tag trcTriggerCmd

/-- `TRC_READ` (R168). -/
def trcReadCmd (c : Cmd) (d : Dev) : Res × Dev :=
  let ch := byteAt c.payload 0
  let first := leAt c.payload 2 2
  let n := leAt c.payload 4 2
  if c.payload.length ≠ 6 ∨ byteAt c.payload 1 ≠ 0 ∨ 3 < ch ∨ n = 0 ∨ 4096 < n ∨ Dev.trcBuf < first + n then (.st .range, d)
  else (.reply .ok (d.trcRecords ch first n), d)

def execTrcRead (p : Path) (tag : Byte) (s : State) : Host.Outcome State Fault Refusal :=
  s.run fun d => d.runCmd 0xB03 p tag trcReadCmd

/-- `TRC_STOP` (R168). -/
def execTrcStop (p : Path) (tag : Byte) (s : State) : Host.Outcome State Fault Refusal :=
  s.run fun d => d.runCmd 0xB04 p tag fun c d =>
    if c.payload ≠ [] then (.st .range, d) else (.st .ok, d.trcDisarm)

end Sys2Proof.Machine
end

