-- ==== Sys2Proof/Machine/Events.lean ====
section
/-! DEFINITION. The event controller: pending bits, the log, the event output pins (R389 to R392), and the
device-wide fault classes (R394). -/
namespace Sys2Proof.Machine

namespace Dev

/-- The host line follows the pending and mask words (R389). -/
def showEvtLine (d : Dev) : Dev :=
  d.fs HST_IRQ_EVT (b2n ((List.range 4).any fun k => Nat.land (d.fg EVT_PEND_k_PEND k) (d.fg EVT_MASK_k_MASK k) != 0))

/-- `HIRQ_N` is asserted (R283). -/
def hirq (d : Dev) : Bool :=
  let m := d.fg HST_IRQ_MASK
  (m.testBit 0 && d.fb HST_IRQ_REPLY) || (m.testBit 1 && d.fb HST_IRQ_WOVF) ||
  (m.testBit 2 && d.fb HST_IRQ_FRAME) || (m.testBit 3 && d.fb HST_IRQ_EVT)

/-- Records the log ring holds (`EVT_LOG_CFG.SIZE`). -/
def logSize (d : Dev) : Nat := 2 ^ (d.fg EVT_LOG_CFG_SIZE + 6)

/-- The 16 bytes of a log record (R391). -/
def logRecord (d : Dev) (e : Evt) : List Byte :=
  leBytes 6 e.ts ++ leBytes 1 (b2n e.deg + 2 * b2n (d.evt.lost != 0) + 4 * b2n e.held) ++ leBytes 1 e.num ++
  leBytes 4 e.detail ++ leBytes 2 d.evt.lost ++ leBytes 2 d.evt.logSeq

/-- Write a log record, or count it lost when the log is full (R391). -/
def logWrite (d : Dev) (e : Evt) : Dev :=
  let w := d.fg EVT_LOG_PTR_WPTR
  let next := (w + 1) % d.logSize
  if next = d.fg EVT_LOG_PTR_RPTR then
    { d.fcnt EVT_LOG_CFG_LOST_CNT EVT_LOG_CFG_CNT_OVF with evt := { d.evt with lost := min 65535 (d.evt.lost + 1) } }
  else
    let d1 := (d.wrN (16 * d.fg EVT_LOG_BASE_BASE + 16 * w) (d.logRecord e)).fs EVT_LOG_PTR_WPTR next
    { d1 with evt := { d1.evt with lost := 0, logSeq := (d1.evt.logSeq + 1) % 2 ^ 16 } }

/-- Insert a due instant after those not later than it (R392). -/
def insertDue (x : Nat) : List Nat → List Nat
  | [] => [x]
  | y :: t => if y ≤ x then y :: insertDue x t else x :: y :: t

/-- Signal an event output pin: in pulse mode a pulse waits, or is dropped while 16 wait (R392). -/
def signalPin (d : Dev) (n ts : Nat) : Dev :=
  if d.fb EVT_OUT_n_CFG_EN n && !d.fb EVT_OUT_n_CFG_MODE n then
    let o := vget d.evt.out n
    if 16 ≤ o.wait.length then d.fs EVT_OUT_n_CFG_OVF 1 n
    else
      let o2 := { o with wait := insertDue (ts + d.fg EVT_OUT_n_CFG_DLY n * 800) o.wait }
      { d with evt := { d.evt with out := vset d.evt.out n o2 } }
  else d

/-- The level of `EVT_OUT_n` (R392): in level mode high while any routed event is pending. -/
def evtPin (d : Dev) (n : Nat) : Bool :=
  d.fb EVT_OUT_n_CFG_EN n &&
  if d.fb EVT_OUT_n_CFG_MODE n then
    (List.range 128).any fun e => d.fbit EVT_CFG_e_OUT n e && d.fbit EVT_PEND_k_PEND (e % 32) (e / 32)
  else (vget d.evt.out n).busy

/-- The event controller takes an event (R389, R390). -/
def takeEvent (d : Dev) (e : Evt) : Dev :=
  let d := (d.fsBit EVT_PEND_k_PEND (e.num % 32) true (e.num / 32)).showEvtLine
  let d := if d.fb EVT_CFG_e_LOG e.num && d.fb EVT_LOG_CFG_EN then d.logWrite e else d
  let d := (bitsOf 4 (d.fg EVT_CFG_e_OUT e.num)).foldl (fun d n => d.signalPin n e.ts) d
  if d.fb CEN_TRC_CTRL_ARM && d.fb CEN_TRC_CTRL_EV_EN && decide (d.fg CEN_TRC_CTRL_EV_SEL = e.num) then d.trcTrigger else d

/-! ### EVT registers -/

/-- Combinations out of range: the log ring must lie in SRAM or usable DRAM, aligned to its size (R397, R308);
`RPTR` must lie within the ring. -/
def rangeEVT (d : Dev) (b _n w : Nat) : Bool :=
  let bad := fun (base size : Nat) => !d.placed (16 * base) (16 * size) || base % size != 0
  if b = 0x200F0040 then bad (EVT_LOG_BASE_BASE.of w) d.logSize
  else if b = 0x200F0044 then
    EVT_LOG_CFG_SIZE.of w != d.fg EVT_LOG_CFG_SIZE && bad (d.fg EVT_LOG_BASE_BASE) (2 ^ (EVT_LOG_CFG_SIZE.of w + 6))
  else if b = 0x200F0048 then decide (d.logSize ≤ EVT_LOG_PTR_RPTR.of w)
  else false

/-- Writes refused by the state (R397). -/
def stateEVT (d : Dev) (b n w : Nat) : Bool :=
  if b = 0x200F0040 then d.fb EVT_LOG_CFG_EN && EVT_LOG_BASE_BASE.of w != d.fg EVT_LOG_BASE_BASE
  else if b = 0x200F0044 then d.fb EVT_LOG_CFG_EN && EVT_LOG_CFG_SIZE.of w != d.fg EVT_LOG_CFG_SIZE
  else if b = 0x200F0060 then d.fb EVT_OUT_n_CFG_EN n &&
    (EVT_OUT_n_CFG_DLY.of w != d.fg EVT_OUT_n_CFG_DLY n || EVT_OUT_n_CFG_WIDTH.of w != d.fg EVT_OUT_n_CFG_WIDTH n ||
     EVT_OUT_n_CFG_MODE.of w != d.fg EVT_OUT_n_CFG_MODE n)
  else false

/-- What a W1C clear does besides clearing. -/
def clearedEVT (d : Dev) (b lo : Nat) : Dev :=
  if b = 0x200F0010 then d.showEvtLine
  else if b = 0x200F0044 ∧ lo = 15 then d.fs EVT_LOG_CFG_LOST_CNT 0
  else d

/-- What a write does after it is stored: the host line, a disabled pin's pulses, and the always-logged
safety events (R390). -/
def afterEVT (d d0 : Dev) (b n _w : Nat) : Dev :=
  if b = 0x200F0020 then d.showEvtLine
  else if b = 0x200F0060 then
    if d.fb EVT_OUT_n_CFG_EN n = false ∧ d0.fb EVT_OUT_n_CFG_EN n then
      { d with evt := { d.evt with out := vset d.evt.out n {} } } else d
  else if b = 0x200F0400 ∧ 80 ≤ n ∧ n ≤ 87 then d.fs EVT_CFG_e_LOG 1 n
  else d

/-- The window counts of fault class `k` are cleared (R394). -/
def clearClass (d : Dev) (k : Nat) : Dev :=
  match k with
  | 0 => { d with sns := { d.sns with sd := vmap (fun x => { x with occ := [] }) d.sns.sd } }
  | 1 => { d with sns := { d.sns with calOcc := Vector.replicate 8 [] } }
  | 2 => { d with pwm := { d.pwm with dlOcc := [] } }
  | 3 => { d with pwm := { d.pwm with alOcc := [] } }
  | 4 => { d with cen := { d.cen with slot := vmap (fun x => { x with occ := [] }) d.cen.slot } }
  | 5 => { d with cen := { d.cen with lane := vmap (fun x => { x with occ := [] }) d.cen.lane } }
  | 6 => { d with grd := { d.grd with occ := [] } }
  | 7 => { d with thm := { d.thm with sns := vmap (fun x => { x with occ := [] }) d.thm.sns } }
  | 8 => { d with tal := { d.tal with occ := [] } }
  | 9 => { d with aux := { d.aux with bk := { d.aux.bk with occ := [] } } }
  | _ => { d with aux := { d.aux with pmp := { d.aux.pmp with occ := [] } } }

/-- What a write of `SYS_FCLS_k` does (R394). -/
def afterFCLS (d : Dev) (b n : Nat) : Dev := if b = 0x20000100 then d.clearClass n else d

end Dev

/-- The oldest raised event arrives (R389). -/
def eventArrivalDev (d : Dev) : Dev :=
  match d.evt.inflight with
  | [] => d
  | e :: t => ({ d with evt := { d.evt with inflight := t } } : Dev).takeEvent e

def execEventArrival (s : State) : Host.Outcome State Fault Refusal := s.run eventArrivalDev

/-- The oldest waiting pulse of a pin starts, at its due instant or late (R392). -/
def pulseStartDev (n : Nat) (d : Dev) : Dev :=
  let o := vget d.evt.out n
  match o.wait with
  | [] => d
  | due :: t =>
    if o.busy || decide (d.clk.ticks < o.lowUntil) || decide (d.clk.ticks < due) then d
    else
      let d := if due < d.clk.ticks then d.fs EVT_OUT_n_CFG_LATE 1 n else d
      { d with evt := { d.evt with out := vset d.evt.out n { o with busy := true, rose := d.clk.ticks, wait := t } } }

def execEvtOutPulseStart (n : Fin 4) (s : State) : Host.Outcome State Fault Refusal := s.run (pulseStartDev n)

/-- A pulse ends `WIDTH` µs after its rise; the low time begins (R392). -/
def pulseEndDev (n : Nat) (d : Dev) : Dev :=
  let o := vget d.evt.out n
  if o.busy && decide (o.rose + d.fg EVT_OUT_n_CFG_WIDTH n * 800 ≤ d.clk.ticks) then
    let o2 := { o with busy := false, lowUntil := d.clk.ticks + d.fg EVT_OUT_n_CFG_WIDTH n * 800 }
    { d with evt := { d.evt with out := vset d.evt.out n o2 } }
  else d

def execEvtOutPulseEnd (n : Fin 4) (s : State) : Host.Outcome State Fault Refusal := s.run (pulseEndDev n)

/-- `EVT_READ` (R396): records from `RPTR`, which advances past them. -/
def evtReadCmd (c : Cmd) (d : Dev) : Res × Dev :=
  let k := leAt c.payload 0 2
  if c.payload.length ≠ 2 ∨ k = 0 ∨ 1024 < k then (.st .range, d)
  else
    let r := d.fg EVT_LOG_PTR_RPTR
    let m := min k ((d.fg EVT_LOG_PTR_WPTR + d.logSize - r) % d.logSize)
    let bytes := (List.range m).flatMap fun i => d.rdN (16 * d.fg EVT_LOG_BASE_BASE + 16 * ((r + i) % d.logSize)) 16
    (.reply .ok bytes, d.fs EVT_LOG_PTR_RPTR ((r + m) % d.logSize))

def execEvtRead (p : Path) (tag : Byte) (s : State) : Host.Outcome State Fault Refusal :=
  s.run fun d => d.runCmd 0x050 p tag evtReadCmd

/-- `EVT_PENDING` (R396). -/
def execEvtPending (p : Path) (tag : Byte) (s : State) : Host.Outcome State Fault Refusal :=
  s.run fun d => d.runCmd 0x051 p tag (capsCmd [0x200F0010, 0x200F0014, 0x200F0018, 0x200F001C])

/-- `EVT_CLEAR` (R396). -/
def evtClearCmd (c : Cmd) (d : Dev) : Res × Dev :=
  if c.payload.length ≠ 16 then (.st .range, d)
  else
    let f := fun (d : Dev) k => d.fs EVT_PEND_k_PEND (d.fg EVT_PEND_k_PEND k - Nat.land (d.fg EVT_PEND_k_PEND k) (leAt c.payload (4 * k) 4)) k
    (.st .ok, ((List.range 4).foldl f d).showEvtLine)

def execEvtClear (p : Path) (tag : Byte) (s : State) : Host.Outcome State Fault Refusal :=
  s.run fun d => d.runCmd 0x052 p tag evtClearCmd

end Sys2Proof.Machine
end

