-- ==== Sys2Proof/Machine/Drc.lean ====
section
/-! DEFINITION. The DRAM port (R307, R308). -/
namespace Sys2Proof.Machine

namespace Dev

/-- `SIZE` and `RATE` change only while the port is off (R307). -/
def stateDRC (d : Dev) (b _n w : Nat) : Bool :=
  b == 0x20120000 && d.fb DRC_CTRL_EN &&
    (DRC_CTRL_RATE.of w != d.fg DRC_CTRL_RATE || DRC_CTRL_SIZE.of w != d.fg DRC_CTRL_SIZE)

/-- What a W1C clear does besides clearing. -/
def clearedDRC (d : Dev) (b lo : Nat) : Dev := if b = 0x20120008 ∧ lo = 23 then d.fs DRC_ECC_CE_CNT 0 else d

/-- The port stops and the contents of the DRAM are lost. -/
def dramOff (d : Dev) : Dev :=
  let d := (d.fs DRC_STAT_READY 0).lose 0x80000000 0x100000000
  { d with drc := { training := false, ue := [], selfRefresh := false } }

/-- What a write does after it is stored (R307): initialisation and training start, or the port stops. -/
def afterDRC (d d0 : Dev) (b _n _w : Nat) : Dev :=
  if b ≠ 0x20120000 then d
  else if d.fb DRC_CTRL_EN ∧ d0.fb DRC_CTRL_EN = false then { d with drc := { d.drc with training := true, selfRefresh := false } }
  else if d.fb DRC_CTRL_EN = false ∧ d0.fb DRC_CTRL_EN then d.dramOff
  else d

end Dev

/-- Initialisation and training end (R307). -/
def dramTrainedDev (ok : Bool) (d : Dev) : Dev :=
  if !d.drc.training then d
  else
    let d := { d.finc DRC_STAT_TRAIN_SEQ with drc := { d.drc with training := false } }
    if ok then d.fs DRC_STAT_READY 1 else d.fs DRC_STAT_TRAIN_FAIL 1

def execDramTrainingComplete (ok : Bool) (s : State) : Host.Outcome State Fault Refusal := s.runIf (dramTrainedDev ok)

/-- ZQ calibration every 256 ms changes nothing that software sees (R307). -/
def execDramZqCalTimer (s : State) : Host.Outcome State Fault Refusal := s.runIf id

/-- The DQS oscillator is checked every 100 ms; excess drift retrains within a refresh slot (R307). -/
def dqsCheckDev (excess : Bool) (d : Dev) : Dev := if d.fb DRC_STAT_READY && excess then d.finc DRC_STAT_TRAIN_SEQ else d

def execDramDqsCheckTimer (excess : Bool) (s : State) : Host.Outcome State Fault Refusal := s.runIf (dqsCheckDev excess)

/-- A corrected error at an address (R308). -/
def dramCorrected (d : Dev) (a : Nat) : Dev :=
  if d.inDram a then ((d.fcnt DRC_ECC_CE_CNT DRC_ECC_CE_OVF).fs DRC_ECC_ADDR_ADDR (a / 8)).raise 125 a else d

/-- An uncorrectable error at an address (R308): the word holds it until it is written whole. -/
def dramUncorrectable (d : Dev) (a : Nat) : Dev :=
  if d.inDram a then
    let d := ((d.fs DRC_STAT_UE 1).fs DRC_ECC_ADDR_ADDR (a / 8)).raise 126 a
    let w := a / 8 * 8
    if d.drc.ue.contains w then d else { d with drc := { d.drc with ue := d.drc.ue ++ [w] } }
  else d

/-- A scrub pass reads the whole device (R308): the addresses it corrects and those it cannot correct. -/
def scrubPassDev (ce ue : List W32) (d : Dev) : Dev :=
  if d.fb DRC_STAT_READY && d.fb DRC_CTRL_SCRUB_H then
    ue.foldl (fun d a => dramUncorrectable d a.toNat) (ce.foldl (fun d a => dramCorrected d a.toNat) d)
  else d

def execDramScrubPass (ce ue : List W32) (s : State) : Host.Outcome State Fault Refusal := s.runIf (scrubPassDev ce ue)

end Sys2Proof.Machine
end

