-- ==== Sys2Proof/Machine/CoopArith.lean ====
section
/-! DEFINITION. Cooper's block-floating-point arithmetic (R141 to R143, R425): data words, accumulators, their
conversions. Values are computed exactly, as fractions, and narrowed once. -/
namespace Sys2Proof.Machine

/-- A data word of R141 without the bits a load ignores. -/
def normW (w : BitVec 32) : BitVec 32 := BitVec.ofNat 32 (w.toNat / 256 * 256 + w.toNat % 64)

/-- Mantissa and exponent of a data word. -/
def wm (w : BitVec 32) : Int := sval 24 (w.toNat / 256)
def we (w : BitVec 32) : Int := sval 6 w.toNat

/-- A data word of a mantissa and an exponent. -/
def mkW (m e : Int) : BitVec 32 := BitVec.ofNat 32 (uval 24 m * 256 + uval 6 e)

/-- The value 0 (R141). -/
def zeroW : BitVec 32 := mkW 0 (-32)

/-- The value of a data word, in units of 2^-55. -/
def wv (w : BitVec 32) : Int := wm w * (2 : Int) ^ (we w + 32).toNat

/-- n ÷ d rounded to nearest, halves away from zero. -/
def roundDiv (n : Int) (d : Nat) : Int :=
  let q : Nat := (2 * n.natAbs + d) / (2 * d)
  if n < 0 then -(q : Int) else q

/-- The integer square root of a number below 4^`k`, bit by bit. -/
def rootBits (n : Nat) : Nat → Nat
  | 0 => 0
  | k + 1 =>
    let r := 2 * rootBits (n / 4) k
    if (r + 1) * (r + 1) ≤ n then r + 1 else r

/-- The integer square root, rounded down. -/
def root (n : Nat) : Nat := rootBits n (n.log2 / 2 + 1)

/-- n × 2^k ÷ d rounded to nearest, halves away from zero; k of either sign. -/
def roundSh (n : Int) (d : Nat) (k : Int) : Int :=
  if 0 ≤ k then roundDiv (n * (2 : Int) ^ k.toNat) d else roundDiv n (d * 2 ^ (-k).toNat)

/-- Largest and smallest mantissa. -/
def mMax : Int := 2 ^ 23 - 1
def mMin : Int := -(2 ^ 23)

/-- A fraction of value n ÷ d (d not 0). -/
structure Q where
  n : Int
  d : Nat
  deriving DecidableEq, Repr

/-- A data word as a fraction. -/
def Q.ofW (w : BitVec 32) : Q := ⟨wv w, 2 ^ 55⟩

/-- |v| < 2^e. -/
def Q.below (v : Q) (e : Int) : Bool :=
  if 0 ≤ e then decide (v.n.natAbs < v.d * 2 ^ e.toNat) else decide (v.n.natAbs * 2 ^ (-e).toNat < v.d)

/-- The smallest exponent from -32 to 31 with |v| < 2^e, if there is one (R143). -/
def Q.expo (v : Q) : Option Int := ((List.range 64).map (fun i => (i : Int) - 32)).find? v.below

/-- The mantissa at an exponent (R143). -/
def Q.mant (v : Q) (e : Int) : Int := roundSh v.n v.d (23 - e)

/-- `RND` of R143: mantissa, exponent, and whether the value was limited. -/
def Q.rnd (v : Q) : Int × Int × Bool :=
  if v.n = 0 then (0, -32, false)
  else
    match v.expo with
    | none => (if v.n < 0 then mMin else mMax, 31, true)
    | some e =>
      let m := v.mant e
      if m.natAbs = 2 ^ 23 then
        if e = 31 then (if m < 0 then mMin else mMax, 31, true) else (v.mant (e + 1), e + 1, false)
      else (m, e, false)

/-- `STA` of R143: the data word at a given exponent, and whether it was limited. -/
def Q.sta (v : Q) (k : Int) : BitVec 32 × Bool :=
  let m := v.mant k
  (mkW (clampI mMin mMax m) k, decide (m < mMin ∨ mMax < m))

/-- A value normalised under R143. -/
def Q.toW (v : Q) : BitVec 32 := let r := v.rnd; mkW r.1 r.2.1

/-! ### Accumulators (R142) -/

/-- The limit of an accumulator's integer. -/
def aLim : Int := 2 ^ 59 - 1

/-- A right shift of R142. -/
def shR (x : Int) (n : Nat) : Int := if 60 ≤ n then 0 else roundDiv x (2 ^ n)

/-- The value of an accumulator. -/
def Accu.q (a : Accu) : Q :=
  if a.empty then ⟨0, 1⟩
  else if 46 ≤ a.ea then ⟨a.a * (2 : Int) ^ (a.ea - 46).toNat, 1⟩
  else ⟨a.a, 2 ^ (46 - a.ea).toNat⟩

/-- Add a contribution of integer `p` and exponent `ec`: the accumulator, its steps, whether the sum was
limited (R142). -/
def Accu.add (x : Accu) (p ec : Int) : Accu × Nat × Bool :=
  if x.empty then (⟨false, p, ec⟩, 1, false)
  else
    let e := max x.ea ec
    let s := shR x.a (e - x.ea).toNat + shR p (e - ec).toNat
    (⟨false, clampI (-aLim) aLim s, e⟩, if ec = x.ea then 1 else 2, decide (s < -aLim ∨ aLim < s))

/-- A product of two data words as a contribution (R142). -/
def prodW (a b : BitVec 32) : Int × Int := (wm a * wm b, we a + we b)

/-- A single data word as a contribution (R142). -/
def singleW (a : BitVec 32) : Int × Int := (wm a * 2 ^ 23, we a)

/-- An accumulator that holds a data word. -/
def Accu.ofW (w : BitVec 32) : Accu := ⟨false, wm w * 2 ^ 23, we w⟩

/-- `SHX` (R425): the accumulator, and whether its value differs from the exact product. -/
def Accu.shx (x : Accu) (k : Int) : Accu × Bool :=
  if x.empty then (x, false)
  else
    let e := x.ea + k
    if 63 < e then
      let v := x.a * (2 : Int) ^ (e - 63).toNat
      (⟨false, clampI (-aLim) aLim v, 63⟩, decide (v < -aLim ∨ aLim < v))
    else if e < -64 then
      let n := (-64 - e).toNat
      let v := shR x.a n
      (⟨false, v, -64⟩, decide (v * (2 : Int) ^ n ≠ x.a))
    else (⟨false, x.a, e⟩, false)

/-- `LIM` (R145): the accumulator limited to at most `hi`, then to at least `lo`, and whether it changed. -/
def Accu.lim (x : Accu) (lo hi : BitVec 32) : Accu × Bool :=
  let lt := fun (v w : Q) => decide (v.n * w.d < w.n * v.d)
  let y := if lt (Q.ofW hi) x.q then Accu.ofW hi else x
  let z := if lt y.q (Q.ofW lo) then Accu.ofW lo else y
  (z, lt (Q.ofW hi) x.q || lt y.q (Q.ofW lo))

/-- `NRM` (R143): the words of a stage with their shared exponent, and whether one was limited. -/
def nrmW (l : List Accu) (k : Int) : List (BitVec 32) × Bool :=
  let e := l.foldl (fun e x => max e x.q.rnd.2.1) k
  (l.map fun x => (x.q.sta e).1, l.any fun x => (x.q.sta e).2)

/-- A compare value of a data word (R152): uQ20.6, and whether it was limited. -/
def tentCount (w : BitVec 32) : Nat × Bool :=
  let c := roundSh (wm w) 1 (we w - 17)
  ((clampI 0 (2 ^ 26 - 1) c).toNat, decide (c < 0 ∨ 2 ^ 26 - 1 < c))

end Sys2Proof.Machine
end

