-- ==== Sys2Proof/Machine/CoopGroups.lean ====
section
/-! DEFINITION. Cooper's memories with their error correction (R139, R163) and the competing-loop groups
(R158 to R161). -/
namespace Sys2Proof.Machine

namespace Dev

/-! ### Cooper memories -/

/-- Words of a region: 0 instruction, 1 coefficient, 2 state (R139). -/
def coopWords (region : Nat) : Nat := if region = 0 then 16384 else if region = 1 then 8192 else 32768

/-- What a word that is not listed reads as: 0 from power-on on, open once the memories have lost their contents (R380, log
entry 6). -/
def coopUnlisted (d : Dev) (region w : Nat) : BitVec 32 :=
  match d.cen.lostAt with
  | none => 0
  | some e => Config.freeWord e (65536 * region + w)

/-- A stored word, as it stands. -/
def coopRaw (d : Dev) (region w : Nat) : BitVec 32 :=
  spGet w (d.coopUnlisted region w) (if region = 0 then d.cen.imem else if region = 1 then d.cen.cmem else d.cen.smem)

/-- Store a word; the word is then free of errors. -/
def coopPut (d : Dev) (region w : Nat) (v : BitVec 32) : Dev :=
  let d := { d with cen := { d.cen with ue := d.cen.ue.filter (· != (region, w)), ce := d.cen.ce.filter (· != (region, w)) } }
  let u := d.coopUnlisted region w
  if region = 0 then { d with cen := { d.cen with imem := spPut w v u d.cen.imem } }
  else if region = 1 then { d with cen := { d.cen with cmem := spPut w v u d.cen.cmem } }
  else { d with cen := { d.cen with smem := spPut w v u d.cen.smem } }

/-- The word holds an uncorrectable error (R163). -/
def coopBad (d : Dev) (region w : Nat) : Bool := d.cen.ue.contains (region, w)

/-- The effect of reading a word: a single-bit error is corrected, written back and counted (R163). -/
def coopTouch (d : Dev) (region w : Nat) : Dev :=
  if d.cen.ce.contains (region, w) then
    let d := { d with cen := { d.cen with ce := d.cen.ce.filter (· != (region, w)) } }
    (((d.fcnt CEN_MEMERR_CE_CNT CEN_MEMERR_CE_OVF).fs CEN_MEMERR_REGION region).fs CEN_MEMERR_ADDR w).raise 43
  else d

/-! ### Membership and candidates (R158) -/

/-- Byte `k` of a group's member words. -/
def memByte (ma mb k : Nat) : Nat := if k < 4 then ma / 256 ^ k % 256 else mb / 256 ^ (k - 4) % 256

/-- The valid members of two member words: index and slot. -/
def membersOf (ma mb : Nat) : List (Nat × Nat) :=
  (List.range 8).filterMap fun k =>
    let b := memByte ma mb k
    if b.testBit 7 then some (k, b % 64) else none

/-- The valid members of group `g`. -/
def members (d : Dev) (g : Nat) : List (Nat × Nat) := membersOf (d.fg CEN_GRP_g_MA_MEMB g) (d.fg CEN_GRP_g_MB_MEMB g)

/-- No entry occurs twice. -/
def noDup : List Nat → Bool
  | [] => true
  | x :: t => !t.contains x && noDup t

/-- With these member words in group `g` no slot is the valid member of two bytes (R158). -/
def membersOk (d : Dev) (g ma mb : Nat) : Bool :=
  let own := (membersOf ma mb).map (·.2)
  noDup own && (List.range 16).all fun h => h == g || (d.members h).all fun m => !own.contains m.2

/-- Slot `s` with a change. -/
def setSlot (d : Dev) (s : Nat) (x : Slot) : Dev := { d with cen := { d.cen with slot := vset d.cen.slot s x } }

/-- Change slot `s`. -/
def updSlot (d : Dev) (s : Nat) (f : Slot → Slot) : Dev := d.setSlot s (f (vget d.cen.slot s))

/-- Set the candidate of member `k`; `ACTIVE` follows. -/
def setCand (d : Dev) (g k : Nat) (c : Option (BitVec 32)) : Dev :=
  let x := vget d.cen.grp g
  ({ d with cen := { d.cen with grp := vset d.cen.grp g { x with cand := vset x.cand k c } } } : Dev).fsBit
    CEN_GRP_g_STAT_ACTIVE k c.isSome g

/-- Member `k`, slot `s`, loses its candidate and its pending correction (R158, R161). -/
def dropCand (d : Dev) (g k s : Nat) : Dev :=
  (d.setCand g k none).updSlot s fun x => { x with corr := none, corrBad := 0 }

/-- The member words of group `g` take new values: a member whose valid bit is cleared, or whose byte names
another slot, loses its candidate (R158). -/
def setMembers (d : Dev) (g ma mb : Nat) : Dev :=
  let new := membersOf ma mb
  let gone := (d.members g).filter fun m => !new.contains m
  gone.foldl (fun d m => d.dropCand g m.1 m.2) ((d.fs CEN_GRP_g_MA_MEMB ma g).fs CEN_GRP_g_MB_MEMB mb g)

/-- The member words of group `g` with other valid bits. -/
def withValid (d : Dev) (g mask : Nat) : Nat × Nat :=
  let f := fun (w j : Nat) => ((List.range 4).map fun k =>
    (w / 256 ^ k % 64 + 128 * b2n (mask.testBit (j + k))) * 256 ^ k).sum
  (f (d.fg CEN_GRP_g_MA_MEMB g) 0, f (d.fg CEN_GRP_g_MB_MEMB g) 4)

/-- Write the valid bits of group `g`, unless the write is refused whole (R158). -/
def setValid (d : Dev) (g mask : Nat) : Dev :=
  let m := d.withValid g mask
  if d.membersOk g m.1 m.2 then d.setMembers g m.1 m.2 else d

/-- Slot `s` leaves state running or waiting: its candidates and its correction go (R158, R161). -/
def dropSlot (d : Dev) (s : Nat) : Dev :=
  (List.range 16).foldl (fun d g =>
    ((d.members g).filter (·.2 == s)).foldl (fun d m => d.dropCand g m.1 s) d) d

/-- `GPOST`: ignored unless the slot is a valid member (R158). -/
def gpost (d : Dev) (s : Nat) (w : BitVec 32) : Dev :=
  (List.range 16).foldl (fun d g =>
    ((d.members g).filter (·.2 == s)).foldl (fun d m => d.setCand g m.1 (some w)) d) d

/-- The group's `EN` is set: no winner is recorded, the previous set is empty (R159, R160). -/
def groupEnable (d : Dev) (g : Nat) : Dev :=
  let x := vget d.cen.grp g
  ({ d with cen := { d.cen with grp := vset d.cen.grp g { x with prev := [], won := false } } } : Dev).fs CEN_GRP_g_STAT_WINNER 0 g

/-! ### Selection (R159 to R161) -/

/-- v < w. -/
def qlt (v w : Q) : Bool := decide (v.n * w.d < w.n * v.d)

/-- The member with the lowest candidate, the lowest index among equal ones. -/
def lowest : List (Nat × BitVec 32) → Option (Nat × BitVec 32)
  | [] => none
  | m :: t => match lowest t with
    | none => some m
    | some n => if wv n.2 < wv m.2 then some n else some m

/-- The correction of a member whose candidate `u` lies above the output `y` (R161). -/
def correct (d : Dev) (s : Nat) (y u : BitVec 32) : Dev :=
  if d.fb CEN_SLOT_s_TRK_TEN s && decide (wv y < wv u) then
    let a := d.fg CEN_SLOT_s_BASE_CB s + d.fg CEN_SLOT_s_TRK_KB s
    if 8192 ≤ a then d.updSlot s fun x => { x with corr := none, corrBad := 4 }
    else if d.coopBad 1 a then d.updSlot s fun x => { x with corr := none, corrBad := 5 }
    else
      (d.coopTouch 1 a).updSlot s fun x => { x with corr := some (wv (d.coopRaw 1 a) * (wv y - wv u)), corrBad := 0 }
  else d

/-- `GSEL` of group `g` by slot `s`: the word for `XA`, and the effect. -/
def gsel (d : Dev) (s g : Nat) : BitVec 32 × Dev :=
  let out := BitVec.ofNat 32 (d.fg CEN_GRP_g_OUT_VAL g)
  if d.fb CEN_GRP_g_CFG_EN g = false ∨ d.fg CEN_GRP_g_CFG_SEL g ≠ s then (out, d)
  else
    let G := vget d.cen.grp g
    let x := vget d.cen.slot s
    let held := (List.range 8).filterMap fun k => (vget G.cand k).map fun w => (k, w)
    let win := lowest held
    let ys := (win.map (·.2)).getD out
    let set := held.map (·.1)
    let ramp := if set ≠ G.prev then some (x.startTick, out, ys) else G.ramp
    let len := d.fg CEN_GRP_g_CFG_RAMP g * 800000
    let el := match ramp with
      | some r => x.startTick - r.1
      | none => len
    let act := ramp.isSome && decide (el < len)
    let yr : Q := match ramp with
      | some r => if act then ⟨wv ys * len + (wv r.2.1 - wv r.2.2) * (len - el : Nat), 2 ^ 55 * len⟩ else Q.ofW ys
      | none => Q.ofW ys
    let ceil := Q.ofW (BitVec.ofNat 32 (x.ceil.getD g (d.fg CEN_GRP_g_CEIL_VAL g)))
    let cw := d.fb CEN_GRP_g_CFG_CEIL_EN g && qlt ceil yr
    let y1 := if cw then ceil else yr
    let up := Q.ofW (BitVec.ofNat 32 (d.fg CEN_GRP_g_UPPER_VAL g))
    let lo := Q.ofW (BitVec.ofNat 32 (d.fg CEN_GRP_g_LOWER_VAL g))
    let y2 := if qlt up y1 then up else y1
    let y3 := if qlt y2 lo then lo else y2
    let y := y3.toW
    let G2 : LGrp := { G with prev := set, ramp := if act then ramp else none, won := G.won || win.isSome }
    let d := { d with cen := { d.cen with grp := vset d.cen.grp g G2 } }
    let d := (((d.fs CEN_GRP_g_OUT_VAL y.toNat g).finc CEN_GRP_g_STAT_SEQ g).fs CEN_GRP_g_STAT_CLAMP
      (b2n (qlt up y1 || qlt y2 lo)) g).fs CEN_GRP_g_STAT_CEIL_WIN (b2n cw) g
    let d := d.fs CEN_GRP_g_STAT_RAMP_ACT (b2n act) g
    let d := match win with
      | some (k, _) =>
        let changed := !G.won || d.fg CEN_GRP_g_STAT_WINNER g != k
        let d := d.fs CEN_GRP_g_STAT_WINNER k g
        if changed && d.fb CEN_GRP_g_CFG_WEV g then d.raise 36 g else d
      | none => d
    let d := if ramp.isSome && !act then d.raise 37 g else d
    let d := held.foldl (fun d m =>
      (((d.members g).filter (·.1 == m.1)).foldl (fun d n => d.correct n.2 y m.2) d)) d
    (y, d.trcSource 3 g (uval 24 (wm y)) (uval 6 (we y)) false none none)

/-! ### Registers and commands of the groups -/

/-- Writes of the member words that are refused whole (R158), and of group fields while the group runs (R170). -/
def stateGRP (d : Dev) (b n w : Nat) : Bool :=
  if b = 0x20050A04 then !d.membersOk n w (d.fg CEN_GRP_g_MB_MEMB n)
  else if b = 0x20050A08 then !d.membersOk n (d.fg CEN_GRP_g_MA_MEMB n) w
  else if b = 0x20050A00 then
    d.fb CEN_GRP_g_CFG_EN n &&
    (CEN_GRP_g_CFG_SEL.of w != d.fg CEN_GRP_g_CFG_SEL n || CEN_GRP_g_CFG_CEIL_EN.of w != d.fg CEN_GRP_g_CFG_CEIL_EN n ||
     CEN_GRP_g_CFG_RAMP.of w != d.fg CEN_GRP_g_CFG_RAMP n)
  else false

/-- What a write of a group register does after it is stored: `d0` is the device before the write. -/
def afterGRP (d d0 : Dev) (b n w : Nat) : Dev :=
  if b = 0x20050A00 then
    if CEN_GRP_g_CFG_EN.of w ≠ 0 ∧ d0.fb CEN_GRP_g_CFG_EN n = false then d.groupEnable n else d
  else if b = 0x20050A04 ∨ b = 0x20050A08 then
    let d := (d.fs CEN_GRP_g_MA_MEMB (Nat.land (d.fg CEN_GRP_g_MA_MEMB n) 0xBFBFBFBF) n).fs CEN_GRP_g_MB_MEMB
      (Nat.land (d.fg CEN_GRP_g_MB_MEMB n) 0xBFBFBFBF) n
    let new := d.members n
    ((d0.members n).filter fun m => !new.contains m).foldl (fun d m => d.dropCand n m.1 m.2) d
  else d

end Dev

/-- `CEN_GROUP` (R168). -/
def cenGroupCmd (c : Cmd) (d : Dev) : Res × Dev :=
  let g := byteAt c.payload 0
  let mask := byteAt c.payload 1
  if c.payload.length ≠ 2 ∨ 15 < g then (.st .range, d)
  else
    let m := d.withValid g mask
    if d.fb CEN_GRP_g_CFG_EN g = false ∨ d.membersOk g m.1 m.2 = false then (.st .state, d)
    else (.st .ok, d.setMembers g m.1 m.2)

def execCenGroup (p : Path) (tag : Byte) (s : State) : Host.Outcome State Fault Refusal :=
  s.run fun d => d.runCmd 0x307 p tag cenGroupCmd

end Sys2Proof.Machine
end

