-- ==== Sys2Proof/Machine/GridBase.lean ====
section
/-! DEFINITION. What the rest of the device does to the grid functions (R178 to R181): changes of grid state, the
member masks of the mode groups, the check that the grid legs run. -/
namespace Sys2Proof.Machine

namespace Dev

/-- A change of grid state raises `EV_48` (R178); the cessation backstop times only in `CEASED` (R188), and leaving states 5 and 6
abandons the enter-service ramp (R217). -/
def grdState (d : Dev) (st : Nat) : Dev :=
  if d.fg GRD_STAT_STATE = st then d
  else
    let d := (d.fs GRD_STAT_STATE st).raise 48
    { d with grd := { d.grd with
        ceaseAt := if st = 7 then some d.clk.ticks else none, ramp := if st = 5 ∨ st = 6 then d.grd.ramp else none } }

/-- Each enabled mode group takes its island or grid mask (R179, R181). -/
def grdMasks (d : Dev) (island : Bool) : Dev :=
  (List.range 2).foldl (fun d j =>
    if d.fb GRD_MODE_GRP_j_EN j then
      d.setValid (d.fg GRD_MODE_GRP_j_GRP j) (if island then d.fg GRD_MODE_GRP_j_ISL_MASK j else d.fg GRD_MODE_GRP_j_GRID_MASK j)
    else d) d

/-- The leg produces its reference and no trip stops it (R181). -/
def legRuns (d : Dev) (n : Nat) : Bool := d.fb PWM_LEG_n_STAT_RUN n && !d.fb TRP_LEG_n_STAT_STATE n

/-- In a running state a grid leg that stops takes `GRD` to `READY` (R181). -/
def grdLegCheck (d : Dev) : Dev :=
  let st := d.fg GRD_STAT_STATE
  if d.fb GRD_CTRL_EN && (st == 5 || st == 6 || st == 7) &&
     (bitsOf 24 (d.fg GRD_LEGS_LEGS)).any (fun n => !d.legRuns n) then
    (if d.fb GRD_CTRL_LI_EN then d.grdMasks true else d).grdState 4
  else d

end Dev
end Sys2Proof.Machine
end

