-- ==== Sys2Proof/Machine/PwmBase.lean ====
section
/-! DEFINITION. The PWM unit's named operations: the stages from reference to pins (R100 to R103), the widths of a
period (R98, R108, R109), the placement of edges (R104, R107), starting, stopping and hold (R115, R116, R57). -/
namespace Sys2Proof.Machine

/-! ### Edge placement -/

/-- The 4-bit reversal of a dither index (R107). -/
def rev4 (k : Nat) : Nat := k % 2 * 8 + k / 2 % 2 * 4 + k / 4 % 2 * 2 + k / 8 % 2

/-- The placed instant of an edge asked for at `t`, in 1/64 ticks (R104, R106, R107): exact on a fine leg, the
nearest whole tick when coarse, dithered on the others. -/
def placeEdge (fine coarse : Bool) (k t : Nat) : Nat :=
  if fine then (if coarse then (t + 32) / 64 * 64 else t)
  else (t / 64 + b2n (decide (rev4 k < t % 64 / 4))) * 64

/-! ### The widths of a period (R98, R108, R109) -/

/-- Two halves of a high width, each limited to its room: what does not fit one is moved to the other, and the
rest is left over (R109). -/
def fitHalves (a b ra rb : Int) : Int × Int × Int :=
  let a1 := clampI 0 ra a
  let b1 := clampI 0 rb (b + (a - a1))
  let a2 := clampI 0 ra (a1 + (b + (a - a1) - b1))
  (a2, b1, a + b - a2 - b1)

/-- The result of a leg's check at its carrier start: halves of the high width, carry that follows, drop, whether the
period was short. -/
structure Widths where
  a : Int
  b : Int
  carry : Int
  drop : Drop
  short : Bool
  deriving DecidableEq, Repr

/-- The check of R108 with the carry of R109 and R110 (an odd step of a stretch in up-down mode goes to the falling edge, as R109
has it for the carry: log entry 97's choice), in 1/64 ticks: `ha`, `hb` the halves the compares ask for, `c` the
carry, `ra`, `rb` the room of each half, `lh`, `ll` the limits `DT_H` + `MINP` and `DT_L` + `MINP`. -/
def checkWidths (ha hb c ra rb lh ll : Int) (ud stretch : Bool) : Widths :=
  let full := ra + rb
  if ha + hb = 0 ∨ ha + hb = full then ⟨ha, hb, 0, .none, false⟩
  else
    let cr := if ud then Int.tdiv c 2 else 0
    let f := fitHalves (ha + cr) (hb + (c - cr)) ra rb
    let w := f.1 + f.2.1
    let sh := decide (0 < w) && decide (w < lh)
    let sl := decide (0 < full - w) && decide (full - w < ll)
    if sh && (!sl || decide (w ≤ full - w)) then
      if stretch then
        let e := min lh full - w
        let er := if ud then Int.tdiv e 2 else 0
        let g := fitHalves (f.1 + er) (f.2.1 + (e - er)) ra rb
        ⟨g.1, g.2.1, 0, .none, true⟩
      else ⟨0, 0, ha + hb + c, .shortHigh, true⟩
    else if sl then
      if stretch then
        let e := max (full - ll) 0 - w
        let er := if ud then Int.tdiv e 2 else 0
        let g := fitHalves (f.1 + er) (f.2.1 + (e - er)) ra rb
        ⟨g.1, g.2.1, 0, .none, true⟩
      else ⟨ra, rb, ha + hb + c - full, .shortLow, true⟩
    else ⟨f.1, f.2.1, f.2.2, .none, false⟩

namespace Dev

/-! ### Legs and groups -/

/-- Leg `n`. -/
def leg (d : Dev) (n : Nat) : Leg := vget d.pwm.leg n

/-- Leg `n` with a change. -/
def updLeg (d : Dev) (n : Nat) (f : Leg → Leg) : Dev :=
  { d with pwm := { d.pwm with leg := vset d.pwm.leg n (f (vget d.pwm.leg n)) } }

/-- Trip state of leg `n`. -/
def tleg (d : Dev) (n : Nat) : TLeg := vget d.trp.leg n

/-- Trip state of leg `n` with a change. -/
def updTLeg (d : Dev) (n : Nat) (f : TLeg → TLeg) : Dev :=
  { d with trp := { d.trp with leg := vset d.trp.leg n (f (vget d.trp.leg n)) } }

/-- Carrier group of leg `n`. -/
def legGrp (d : Dev) (n : Nat) : Nat := d.fg PWM_LEG_n_CTRL_CGRP n

/-- The legs of group `g`. -/
def cgLegs (d : Dev) (g : Nat) : List Nat := (List.range 24).filter fun n => d.legGrp n == g

/-! ### Carry (R109, R110) -/

/-- Set the carry: 0 behind the overlay; limited to one period of `full` 1/64 ticks, with `CARRY_OVF` and `EV_8`. -/
def setCarry (d : Dev) (n : Nat) (full c : Int) : Dev :=
  if d.overlaid n then d.fs PWM_LEG_n_CARRY_CARRY 0 n
  else if full < c.natAbs then ((d.fsS PWM_LEG_n_CARRY_CARRY (clampI (-full) full c) n).fs PWM_LEG_n_STAT_CARRY_OVF 1 n).raise 8 n
  else d.fsS PWM_LEG_n_CARRY_CARRY c n

/-! ### From reference to pins (R100) -/

/-- The instant `sub` 1/64 ticks into the present tick, in 1/64 ticks of timebase. -/
def now64 (d : Dev) (sub : Nat) : Nat := 64 * d.clk.ticks + sub

/-- An output of leg `n` falls, `sub` 1/64 ticks into the present tick. -/
def fallH (d : Dev) (n : Nat) (sub : Nat := 0) : Dev :=
  if (d.leg n).outH then d.updLeg n fun x => { x with outH := false, fellH := d.now64 sub } else d
def fallL (d : Dev) (n : Nat) (sub : Nat := 0) : Dev :=
  if (d.leg n).outL then d.updLeg n fun x => { x with outL := false, fellL := d.now64 sub } else d

/-- The inputs that switch `sw` (0 high, 1 low) of leg `n` blanks at its rising edge are blanked (R127). -/
def startBlank (d : Dev) (n sw : Nat) : Dev :=
  let t := if sw = 0 then d.fg TRP_LEG_n_CFG_BLANK_H n else d.fg TRP_LEG_n_CFG_BLANK_L n
  let ins := if t = 0 then [] else (List.range 24).filter fun i =>
    d.fb TRP_IN_n_CFG_DESAT i && d.fg TRP_IN_n_CFG_LEG i == n && d.fg TRP_IN_n_CFG_SW i == sw
  { d with trp := { d.trp with
      blank := (d.trp.blank.filter fun x => !ins.contains x.1) ++ ins.map fun i => (i, d.clk.ticks + 8 * t) } }

/-- An output of leg `n` rises. -/
def riseH (d : Dev) (n : Nat) (sub : Nat := 0) : Dev :=
  (d.updLeg n fun x => { x with outH := true, onH := false, roseH := d.now64 sub }).startBlank n 0
def riseL (d : Dev) (n : Nat) (sub : Nat := 0) : Dev :=
  (d.updLeg n fun x => { x with outL := true, onL := false, roseL := d.now64 sub }).startBlank n 1

/-- Dead times in effect (R114). A leg between an accepted start and its first carrier start is not running yet (log entry 97's
choice). -/
def deadH (d : Dev) (n : Nat) : Nat := if d.fb PWM_LEG_n_STAT_RUN n then (d.leg n).dtH else d.fg PWM_LEG_n_DT_DT_H n
def deadL (d : Dev) (n : Nat) : Nat := if d.fb PWM_LEG_n_STAT_RUN n then (d.leg n).dtL else d.fg PWM_LEG_n_DT_DT_L n

/-- The two switch commands of leg `n` after command split and force (R100, R117). -/
def commands (d : Dev) (n : Nat) : Bool × Bool :=
  let x := d.leg n
  let run := d.fb PWM_LEG_n_STAT_RUN n
  let f := fun (code : Nat) (c : Bool) => if code = 1 then false else if code = 2 then true else c
  (f x.fH (run && x.r), f x.fL (run && !x.r))

/-- The interlock (R102): the commands it lets through. -/
def interlock (d : Dev) (n : Nat) : Dev :=
  let c := d.commands n
  if c.1 && c.2 then
    let d := if (d.leg n).ilk then d else (d.fcnt PWM_LEG_n_STAT_ILK_CNT PWM_LEG_n_STAT_ILK_OVF n).raise 2 n
    d.updLeg n fun x => { x with ilk := true, cH := false, cL := false }
  else d.updLeg n fun x => { x with ilk := false, cH := c.1, cL := c.2 }

/-- A turn-on of leg `n` that its command asks for: at once when the other output has been low for the dead time,
delayed otherwise (R101). -/
def turnOnH (d : Dev) (n : Nat) (sub : Nat := 0) : Dev :=
  let x := d.leg n
  if !x.cH || x.outH then d.updLeg n fun x => { x with onH := false }
  else if !x.outL && decide (x.fellL + 64 * d.deadH n ≤ d.now64 sub) then d.riseH n sub
  else d.updLeg n fun x => { x with onH := true }
def turnOnL (d : Dev) (n : Nat) (sub : Nat := 0) : Dev :=
  let x := d.leg n
  if !x.cL || x.outL then d.updLeg n fun x => { x with onL := false }
  else if !x.outH && decide (x.fellH + 64 * d.deadL n ≤ d.now64 sub) then d.riseL n sub
  else d.updLeg n fun x => { x with onL := true }

/-- The instant at which the delayed turn-on of leg `n` takes place, in 1/64 ticks: it keeps the sub-tick position of the edge that
started it (R101). -/
def turnOnAt (d : Dev) (n : Nat) : Nat :=
  let x := d.leg n
  if x.onH then x.fellL + 64 * d.deadH n else x.fellH + 64 * d.deadL n

/-- The stages of R100 after a change of anything before them, `sub` 1/64 ticks into the present tick: interlock, dead time,
overlay. -/
def legDrive (d : Dev) (n : Nat) (sub : Nat := 0) : Dev :=
  let d := d.interlock n
  let x := d.leg n
  if d.overlaid n then d.updLeg n fun x => { x with onH := false, onL := false }
  else
    match (d.tleg n).react with
    | some r =>
      let d := d.updLeg n fun x => { x with onH := false, onL := false }
      let d := if !x.cH || !r.low || r.both then d.fallH n sub else d
      if !x.cL || r.low || r.both then d.fallL n sub else d
    | none =>
      let d := if x.cH then d else d.fallH n sub
      let d := if x.cL then d else d.fallL n sub
      (d.turnOnH n sub).turnOnL n sub

/-- The safe state of leg `n` is imposed (R103): it never turns a switch on. The carry is cleared (R110). -/
def imposeSafe (d : Dev) (n : Nat) : Dev :=
  let d := (d.updLeg n fun x => { x with onH := false, onL := false }).fs PWM_LEG_n_CARRY_CARRY 0 n
  match d.fg PWM_LEG_n_CTRL_SAFE n with
  | 1 => d.fallH n
  | 2 => d.fallL n
  | _ => (d.fallH n).fallL n

/-- Leg `n` goes to all-off (R130). -/
def allOff (d : Dev) (n : Nat) : Dev :=
  (((d.updLeg n fun x => { x with onH := false, onL := false }).fs PWM_LEG_n_CARRY_CARRY 0 n).fallH n).fallL n

/-- The levels at the pins of leg `n`: the device drives them only while `VDD_CORE` and their bank are valid and no
reset is asserted (R36, R44). -/
def legPins (d : Dev) (n : Nat) : Bool × Bool :=
  let bank := d.fg SYS_IOBANK_BANK_0
  let ok := (bank == 1 || bank == 2) && d.sys.vddCore && d.sys.phase == .run
  ((d.leg n).outH && ok, (d.leg n).outL && ok)

/-! ### Starting, stopping, hold (R115, R116, R57) -/

/-- The leg may start (R115), in carrier group `g`. Its `PHS` is compared with the last `PER` written, not with one still in effect
(log entry 97's choice). -/
def canStart (d : Dev) (n g : Nat) : Bool :=
  !d.fb CLK_PLL_STAT_PWM_HOLD && d.cgRuns g &&
  !(d.fg SYS_ROLE_PAR_MODE == 2 && d.fbit PWM_ALIGN_CTRL_CG_MASK g && !d.fb PWM_ALIGN_STAT_ALIGNED) &&
  decide (d.fg PWM_LEG_n_PHS_PHS n < d.cgTicks g (d.fg PWM_CG_g_PER_PER g))

/-- `EN` is set: the leg waits for its next carrier start (R115). With `SRC` = 1 its active compares are those of the last
committed pair. -/
def legStart (d : Dev) (n : Nat) : Dev :=
  let src := d.fb PWM_LEG_n_CTRL_SRC n
  ((d.fs PWM_LEG_n_CTRL_EN 1 n).fs PWM_LEG_n_CARRY_CARRY 0 n).updLeg n fun x =>
    { x with starting := true, k := 0, cutoff := false, expected := [], stopAtStart := false, mid := false,
             cmpA := if src then x.lastA else x.cmpA, cmpB := if src then x.lastB else x.cmpB }

/-- The leg stops without driving its outputs. -/
def legHalt (d : Dev) (n : Nat) : Dev :=
  (((d.fs PWM_LEG_n_CTRL_EN 0 n).fs PWM_LEG_n_STAT_RUN 0 n).fs PWM_LEG_n_CARRY_CARRY 0 n).updLeg n fun x =>
    { x with starting := false, r := false, rise := false, fall := false, cutoff := false, expected := [],
             stopAtStart := false, mid := false }

/-- `EN` is cleared: both commands go to 0 (R116); `GRD` sees the leg stop (R181). -/
def legStop (d : Dev) (n : Nat) : Dev :=
  if d.fb PWM_LEG_n_CTRL_EN n then ((d.legHalt n).legDrive n).grdLegCheck else d

/-- `PWM_HOLD` is set (R56, R57, R60): every leg to its safe state, every `EN` and `RUN` cleared. -/
def pwmHold (d : Dev) : Dev :=
  let d := d.fs CLK_PLL_STAT_PWM_HOLD 1
  let d := (List.range 24).foldl (fun d n => (d.legHalt n).imposeSafe n) d
  let d := (List.range 8).foldl (fun d g => (d.fs PWM_CG_g_CFG_RUN 0 g).fs PWM_CG_g_CNT_WAIT 0 g) d
  ({ d with pwm := { d.pwm with cg := Vector.replicate 8 {} } } : Dev).grdLegCheck

/-- Carrier group `g` with a change. -/
def updCg (d : Dev) (g : Nat) (f : CGrp → CGrp) : Dev :=
  { d with pwm := { d.pwm with cg := vset d.pwm.cg g (f (vget d.pwm.cg g)) } }

/-- The group counts from count 0 at the instant `t`, its first carrier start (R96). -/
def cgStart (d : Dev) (g t : Nat) : Dev := (d.fs PWM_CG_g_CNT_WAIT 0 g).updCg g fun _ => { next := t }

/-! ### The next load point (R18, R97, R115) -/

/-- The next carrier start of leg `n` (R97). -/
def csNext (d : Dev) (n : Nat) : Nat :=
  let x := vget d.pwm.cg (d.legGrp n)
  let t := x.start + d.fg PWM_LEG_n_PHS_PHS n
  if x.on && (decide (d.clk.ticks < t) || (d.clk.ticks == t && ((d.leg n).starting || (d.leg n).at_ != t))) then t
  else x.next + d.fg PWM_LEG_n_PHS_PHS n

/-- Ticks from the carrier start of leg `n` to its carrier centre in a period of `per` counts of group `g` (R97). -/
def halfTicks (d : Dev) (g per : Nat) : Nat := (if d.fb PWM_CG_g_CFG_MODE g then per else per / 2) * d.cgP g

/-- The carrier centre of the present period of leg `n` (R97). -/
def centreAt (d : Dev) (n : Nat) : Nat :=
  let x := d.leg n
  x.at_ + if x.cyc.ud then x.cyc.base / 64 else x.cyc.cap / 128 * x.cyc.p

/-- The next carrier centre of leg `n`. -/
def ccNext (d : Dev) (n : Nat) : Nat :=
  let g := d.legGrp n
  let s := d.csNext n
  if (d.leg n).mid && decide (d.clk.ticks ≤ d.centreAt n) then d.centreAt n
  else s + d.halfTicks g (if s < (vget d.pwm.cg g).next then (vget d.pwm.cg g).per else d.fg PWM_CG_g_PER_PER g)

/-- The next load point of leg `n` (R111, R115). -/
def lpNext (d : Dev) (n : Nat) : Nat :=
  if (d.leg n).starting then d.csNext n
  else match d.fg PWM_LEG_n_CTRL_LOAD n with
    | 1 => d.csNext n
    | 2 => d.ccNext n
    | _ => min (d.csNext n) (d.ccNext n)

/-- The commit cutoff of the next load point of leg `n`, 16 ticks before it, has passed (R18). -/
def pastCutoff (d : Dev) (n : Nat) : Bool := (d.leg n).cutoff || decide (d.lpNext n ≤ d.clk.ticks + 16)

/-! ### The period of a leg -/

/-- A compare value as leg `n` takes it: a dither leg ignores bits [1:0] (R107). -/
def cmpBits (n v : Nat) : Nat := if n < 8 then v else v / 4 * 4

/-- Compares of leg `n` as half widths of R98 in 1/64 ticks: before and after the centre; up mode has only the second. -/
def halves (n : Nat) (x : Leg) (c : Cyc) : Int × Int :=
  let a : Int := (min (cmpBits n x.cmpA) c.cap * c.p : Nat)
  if c.ud then (a, (min (cmpBits n x.cmpB) c.cap * c.p : Nat)) else (0, a)

/-- The reference of a period with halves `a`, `b` of its high width, from its carrier start (R98, R99, R424): `low` keeps r
low, `high` keeps it high. -/
def setEdges (d : Dev) (n : Nat) (c : Cyc) (a b : Int) (low high : Bool) : Dev :=
  let fine := decide (n < 8)
  let rn := (c.base - a).toNat
  let rq := placeEdge fine (d.leg n).coarse c.k rn
  let fq := placeEdge fine (d.leg n).coarse c.k (c.base + b).toNat
  let empty := low || decide (fq ≤ rq) || decide (c.full ≤ rq)
  let c := { c with riseN := rn, riseQ := rq, fallQ := fq,
                    const := if high then some true else if empty then some false else none }
  d.updLeg n fun x =>
    if high then { x with cyc := c, r := true, rise := false, fall := false }
    else if empty then { x with cyc := c, r := false, rise := false, fall := false }
    else { x with cyc := c, r := decide (rq = 0), rise := decide (0 < rq), fall := decide (fq < c.full) }

/-- The period of leg `n` that begins at its carrier start: settings in effect (R114), the widths with the carry (R108,
R109), the reference. -/
def beginPeriod (d : Dev) (n g per : Nat) : Dev :=
  let stretch := d.fb PWM_LEG_n_CTRL_MINP_MODE n
  let d := if stretch = (d.leg n).stretch then d else d.fs PWM_LEG_n_CARRY_CARRY 0 n
  let x := d.leg n
  let ud := d.fb PWM_CG_g_CFG_MODE g
  let p := d.cgP g
  let full := 64 * d.cgTicks g per
  let c : Cyc := { full := full, base := if ud then full / 2 else 0, ud := ud, p := p, cap := 64 * per, k := x.k,
                   cin := d.fgS PWM_LEG_n_CARRY_CARRY n }
  let x := { x with at_ := d.clk.ticks, mid := true, dtH := d.fg PWM_LEG_n_DT_DT_H n, dtL := d.fg PWM_LEG_n_DT_DT_L n, minp := d.fg PWM_LEG_n_CTRL_MINP n,
                    stretch := stretch, trim := d.fg PWM_DLCAL_TRIM, coarse := d.fb PWM_DLCAL_DL_COARSE, k := (x.k + 1) % 16 }
  let d := d.updLeg n fun _ => x
  let h := halves n x c
  let exact := decide (h.1 + h.2 = 0 ∨ h.1 + h.2 = (full : Int))
  let w := checkWidths h.1 h.2 c.cin c.base (full - c.base : Nat) (64 * (x.dtH + x.minp) : Nat) (64 * (x.dtL + x.minp) : Nat) ud stretch
  let d := if w.short then d.fs PWM_LEG_n_STAT_MINP_SEEN 1 n else d
  let d := d.setCarry n full w.carry
  let c := { c with cin := if exact then 0 else c.cin, ha := h.1.toNat, ha2 := w.a, drop := w.drop }
  d.setEdges n c w.a w.b (decide (w.a + w.b = 0)) (decide (w.a + w.b = (full : Int)))

/-- A load at the carrier centre takes effect on the present period (R113): `t` is the centre's instant. -/
def centreLoad (d : Dev) (n : Nat) : Dev :=
  let x := d.leg n
  let c := x.cyc
  let hb := (halves n x c).2
  let full : Int := c.full
  let req := c.ha + hb + c.cin
  let lim : Int := (64 * (x.dtH + x.minp) : Nat)
  let ll : Int := (64 * (x.dtL + x.minp) : Nat)
  let carry := fun (d : Dev) (v : Int) => if x.stretch then d else d.setCarry n full v
  match c.drop with
  | .shortHigh => carry d req
  | .shortLow => carry d (req - full)
  | .none =>
    let fell := decide (c.const = none) && !x.rise && !x.fall && !x.r
    if fell || (!c.ud && decide (c.const = some false)) then d
    else
      let y := req - c.ha2
      if c.const = some false ∧ y ≤ 0 then d
      else
        let rise : Int := if c.const = some false then c.base else c.riseN
        let y1 := clampI 0 (full - c.base) (max y (rise + lim - c.base))
        let w := c.ha2 + y1
        let short := decide (0 < full - w) && decide (full - w < ll)
        let y2 := if !short then y1 else if x.stretch then max (max (full - ll - c.ha2) (rise + lim - c.base)) 0 else full - c.base
        let y3 := if c.ud then y2 else max y2 (c.cap / 128 * c.p * 64 : Nat)
        let d := if short then d.fs PWM_LEG_n_STAT_MINP_SEEN 1 n else d
        let d := carry d (y - y2)
        let fq := placeEdge (decide (n < 8)) x.coarse c.k (c.base + y3).toNat
        let now := if c.ud then c.base else c.cap / 128 * c.p * 64
        let c := { c with fallQ := fq, const := none }
        d.updLeg n fun x =>
          if x.rise then (if fq ≤ c.riseQ then { x with cyc := c, rise := false, fall := false } else { x with cyc := c, fall := decide (fq < c.full) })
          else if fq ≤ now then { x with cyc := c, r := false, fall := false }
          else { x with cyc := c, r := true, fall := decide (fq < c.full) }

end Dev
end Sys2Proof.Machine
end

