-- ==== Sys2Proof/Machine/TripBase.lean ====
section
/-! DEFINITION. The trip logic's named operations (R124 to R135): sources, reactions, protection groups, clear and
release. -/
namespace Sys2Proof.Machine

namespace Dev

/-- Bank 0 or bank 1 is not valid (R44, R131). -/
def bankBad (d : Dev) : Bool :=
  let bad := fun b => b == 0 || b == 3
  bad (d.fg SYS_IOBANK_BANK_0) || bad (d.fg SYS_IOBANK_BANK_1)

/-- An all-off that waits for reactions of the leg's protection group (R130). -/
def offPending (d : Dev) (n : Nat) : Bool := d.trp.offWait.any fun w => d.fbit TRP_GRP_k_MASK_LEGS n w.1

/-- Input `i` is being blanked (R127). -/
def blanked (d : Dev) (i : Nat) : Bool := d.trp.blank.any (·.1 == i)

/-- Some source of leg `n` is active; `blanked` counts blanked inputs as active (R124, R127, R134). -/
def srcActive (d : Dev) (n : Nat) (blanked : Bool) : Bool :=
  d.bankBad ||
  (List.range 24).any (fun i => d.fb TRP_IN_n_CFG_EN i && d.fg TRP_IN_n_CFG_LEG i == n && d.fbit TRP_IN_STAT_ACT i &&
    (blanked || !d.blanked i)) ||
  (List.range 16).any (fun m => d.fb TRP_CMP_m_CFG_EN m && d.fbit TRP_CMP_m_CFG_LEGS n m && d.fbit SNS_CMP_STAT_OUT m)

/-- A source activity makes a pending clear of leg `n` lapse (R134). -/
def lapse (d : Dev) (n : Nat) : Dev :=
  if (d.tleg n).clearing then ((d.updTLeg n fun x => { x with clearing := false }).fs TRP_STAT_CLR_REFUSED 1).raise 3 n else d

/-- The trip logic imposes the safe state on leg `n` (R103). -/
def tripSafe (d : Dev) (n : Nat) : Dev :=
  (d.updTLeg n fun x => { x with overlay := true, react := none }).imposeSafe n

/-- The trip logic imposes all-off on leg `n` (R130). A turn-on it abandons raises no `EV_15`, which R129 has for a trip that imposes
the safe state (log entry 97's choice). -/
def tripOff (d : Dev) (n : Nat) : Dev :=
  (d.updTLeg n fun x => { x with overlay := true, react := none }).allOff n

/-- Cause, first switch and state of a leg that enters a trip. -/
def markTrip (d : Dev) (n cause sw st : Nat) : Dev :=
  ((d.fs TRP_LEG_n_STAT_CAUSE cause n).fs TRP_LEG_n_STAT_FIRST_SW sw n).fs TRP_LEG_n_STAT_STATE st n

/-- A source names switch `sw` (2: the whole leg) of a leg that is already tripped: only the other switch of a reaction in
progress reacts (R128). -/
def nameTwice (d : Dev) (n sw : Nat) : Dev :=
  match (d.tleg n).react with
  | some r =>
    if r.both || sw == b2n r.low then d
    else ((d.updTLeg n fun x => { x with react := some { r with both := true } }).raise 14 n).legDrive n
  | none => d

/-- The reaction of a leg that was in state normal (R128, R129, R57). -/
def reactTrip (d : Dev) (n sw : Nat) : Dev :=
  let x := d.leg n
  if d.fb CLK_PLL_STAT_PWM_HOLD then d.tripSafe n
  else if x.onH || x.onL then (d.raise 15 n).tripSafe n
  else if sw = 2 then d.tripSafe n
  else
    let t := d.clk.ticks + if sw = 1 then d.deadH n else d.deadL n
    (d.updTLeg n fun x => { x with react := some { low := sw == 1, until_ := t } }).legDrive n

/-- Group `k` trips (R130): `cause` 0x31 with `EV_4`, 0x32 with `EV_12`. A leg whose own trip of the whole leg declares the group is in
its safe state already and goes to all-off with the others (log entry 97's choice). -/
def groupTrip (d : Dev) (k cause ev : Nat) : Dev :=
  if d.fbit TRP_STAT_GRP_TRIP k then d
  else
    let d := ((d.fsBit TRP_STAT_GRP_TRIP k true).fsBit TRP_STAT_GRP_SEEN k true).raise ev k
    let mem := bitsOf 24 (d.fg TRP_GRP_k_MASK_LEGS k)
    let reacting := mem.filter fun n => (d.tleg n).react.isSome
    let d := mem.foldl (fun d n =>
      let d := d.lapse n
      if d.fb TRP_LEG_n_STAT_STATE n then d.fs TRP_LEG_n_STAT_STATE 2 n else d.markTrip n cause 2 2) d
    let d := if reacting = [] then mem.foldl tripOff d
      else { d with trp := { d.trp with offWait := d.trp.offWait ++ [(k, reacting)] } }
    d.grdLegCheck

/-- Leg `n` entered a trip by a `TRIP` or `CMP` source: another leg's entry within `COINC` × 10 ns trips the enabled group
(R130). One comparator that trips two legs at one instant is a source of each (log entry 97's choice). -/
def coincide (d : Dev) (n : Nat) : Dev :=
  (List.range 4).foldl (fun d k =>
    if d.fb TRP_GRP_k_CFG_EN k && d.fbit TRP_GRP_k_MASK_LEGS n k &&
       (bitsOf 24 (d.fg TRP_GRP_k_MASK_LEGS k)).any (fun m => m != n && match (d.tleg m).entry with
         | some t => decide (d.clk.ticks ≤ t + d.fg TRP_GRP_k_CFG_COINC k * 8)
         | none => false)
    then d.groupTrip k 0x31 4 else d) d

/-- A `TRIP` or `CMP` source becomes active on leg `n`, naming switch `sw` (0 high, 1 low, 2 whole leg): reaction and
counting (R128 to R132). -/
def activate (d : Dev) (n cause sw : Nat) : Dev :=
  let d := d.lapse n
  if d.fb TRP_LEG_n_STAT_STATE n then d.nameTwice n sw
  else
    let cls := d.fg TRP_LEG_n_CFG_CLS n
    let occ := window d.clk.ticks (d.fg TRP_CLS_k_WINDOW cls) (d.tleg n).occ
    let lasting := decide (d.fg TRP_CLS_k_LIMIT cls ≤ occ.length)
    let d := (d.markTrip n cause sw (if lasting then 2 else 1)).raise 0 n
    let d := d.updTLeg n fun x => { x with occ := occ, entry := some d.clk.ticks }
    let d := if d.fg TRP_LEG_n_STAT_TRIP_CNT n = 254 then (d.fcnt TRP_LEG_n_STAT_TRIP_CNT TRP_LEG_n_STAT_CNT_OVF n).raise 6 n
      else d.fcnt TRP_LEG_n_STAT_TRIP_CNT TRP_LEG_n_STAT_CNT_OVF n
    let d := d.reactTrip n sw
    let d := if lasting then d.raise 1 n else d
    (d.coincide n).grdLegCheck

/-- A source that latches without counting names leg `n` as a whole (R131). -/
def latchTrip (d : Dev) (n cause : Nat) : Dev :=
  let d := d.lapse n
  if d.fb TRP_LEG_n_STAT_STATE n then (d.nameTwice n 2).fs TRP_LEG_n_STAT_STATE 2 n
  else (((d.markTrip n cause 2 2).raise 0 n).reactTrip n 2).grdLegCheck

/-- A software trip of the legs of a mask (R131). -/
def softTrip (d : Dev) (mask : Nat) : Dev := (bitsOf 24 mask).foldl (fun d n => d.latchTrip n 0x30) d

/-- A Cooper deadline group trip for the legs of a mask (R124, R130). -/
def coopTrip (d : Dev) (mask : Nat) : Dev :=
  let legs := bitsOf 24 mask
  let grouped := fun (n : Nat) => (List.range 4).any fun k => d.fb TRP_GRP_k_CFG_EN k && d.fbit TRP_GRP_k_MASK_LEGS n k
  let groups := (List.range 4).filter fun k => d.fb TRP_GRP_k_CFG_EN k && legs.any (fun n => d.fbit TRP_GRP_k_MASK_LEGS n k)
  let d := legs.foldl lapse d
  let solo := legs.filter fun n => !grouped n
  let d := groups.foldl (fun d k => d.groupTrip k 0x32 12) d
  let d := solo.foldl (fun d n =>
    let d := if d.fb TRP_LEG_n_STAT_STATE n then d.fs TRP_LEG_n_STAT_STATE 2 n else d.markTrip n 0x32 2 2
    (d.raise 12 n).tripOff n) d
  d.grdLegCheck

/-- Every leg is latched while bank 0 or bank 1 is not valid; `EV_7` once for the episode (R131). -/
def bankTrip (d : Dev) : Dev :=
  if d.bankBad && !d.trp.bankEp then
    let d := ({ d with trp := { d.trp with bankEp := true } } : Dev).fs TRP_STAT_BANK_FORCE 1
    (List.range 24).foldl (fun d n => d.latchTrip n 0x33) (d.raise 7)
  else d

/-- Leg `n` may have lost its last active source (R133). -/
def noteInactive (d : Dev) (n : Nat) : Dev :=
  if d.srcActive n false then d else d.updTLeg n fun x => { x with inactiveAt := d.clk.ticks }

/-- The bank episode ends when both banks are valid again (R131). -/
def bankBack (d : Dev) : Dev :=
  if !d.bankBad && d.trp.bankEp then
    let d := ({ d with trp := { d.trp with bankEp := false } } : Dev).fs TRP_STAT_BANK_FORCE 0
    (List.range 24).foldl noteInactive d
  else d

/-- Leg `n` is released (R133): the overlay goes, `EV_5`; a group's `GRP_TRIP` clears with its last member (R130). What its outputs
then do is the caller's. -/
def releaseLeg (d : Dev) (n : Nat) : Dev :=
  let d := ((d.fs TRP_LEG_n_STAT_STATE 0 n).updTLeg n fun x => { x with overlay := false, react := none, clearing := false }).raise 5 n
  (List.range 4).foldl (fun d k =>
    if (bitsOf 24 (d.fg TRP_GRP_k_MASK_LEGS k)).all (fun m => !d.fb TRP_LEG_n_STAT_STATE m) then d.fsBit TRP_STAT_GRP_TRIP k false
    else d) d

/-- The leg's release conditions hold (R133, R134). -/
def mayRelease (d : Dev) (n : Nat) : Bool :=
  let x := d.tleg n
  d.fb TRP_LEG_n_STAT_STATE n && x.react.isNone && !d.offPending n && !d.srcActive n false &&
  (x.clearing || (d.fg TRP_LEG_n_STAT_STATE n == 1 &&
    decide (x.inactiveAt + d.fg TRP_CLS_k_HOLDOFF (d.fg TRP_LEG_n_CFG_CLS n) * 8000 ≤ d.clk.ticks)))

/-- Release leg `n` if its conditions hold; its outputs follow its commands at once. -/
def tryRelease (d : Dev) (n : Nat) : Dev := if d.mayRelease n then (d.releaseLeg n).legDrive n else d

/-- A leg whose carrier group does not run is released at the instant its condition is met (R133). -/
def releaseNow (d : Dev) (n : Nat) : Dev := if d.cgRuns (d.legGrp n) then d else d.tryRelease n

/-- A clear of the legs of a mask (R134): whether it is accepted, and its effect. -/
def clearLegs (d : Dev) (mask : Nat) : Bool × Dev :=
  let legs := (bitsOf 24 mask).filter fun n => d.fb TRP_LEG_n_STAT_STATE n
  if legs.any (fun n => d.srcActive n true || d.offPending n) then (false, (d.fs TRP_STAT_CLR_REFUSED 1).raise 3)
  else
    (true, legs.foldl (fun d n => (d.updTLeg n fun x => { x with clearing := true }).releaseNow n) d)

/-- The leg whose reaction ended is in its safe state; when the last one its group waits for is, the other members go to
all-off (R128, R130). -/
def reactEnd (d : Dev) (n : Nat) : Dev :=
  let d := d.tripSafe n
  let ended := fun (w : Nat × List Nat) => w.2.all fun m => (d.tleg m).react.isNone
  let due := d.trp.offWait.filter ended
  let d : Dev := { d with trp := { d.trp with offWait := d.trp.offWait.filter fun w => !ended w } }
  let d := due.foldl (fun d g =>
    ((bitsOf 24 (d.fg TRP_GRP_k_MASK_LEGS g.1)).filter fun m => !g.2.contains m).foldl tripOff d) d
  d.releaseNow n

end Dev
end Sys2Proof.Machine
end

