-- ==== Sys2Proof/Machine/Slots.lean ====
section
/-! DEFINITION. Cooper's slots as the rest of the device sees them (R148 to R156): triggers, starts, abandonment, faults,
the deadline monitor, commit tokens and load points (R18, R111, R112). -/
namespace Sys2Proof.Machine

namespace Dev

/-- Slot `s`. -/
def slot (d : Dev) (s : Nat) : Slot := vget d.cen.slot s

/-- Every lane that has slot `s` lets it go. -/
def offLane (d : Dev) (s : Nat) : Dev :=
  { d with cen := { d.cen with lane := vmap (fun l => if l.cur = some s then { l with cur := none } else l) d.cen.lane } }

/-- The load point that comes next on leg `n` (R152). -/
def nextLp (d : Dev) (n : Nat) : Nat := (d.fg PWM_LEG_n_LPS_LP_SEQ n + 1) % 256

/-- The uncommitted pairs of the legs of a list that satisfy a condition are discarded. -/
def dropTents (d : Dev) (legs : List Nat) (f : CmpPair → Bool) : Dev :=
  legs.foldl (fun d n => d.updLeg n fun x => { x with tent := x.tent.filter fun p => !f p }) d

/-- The load point an outcome record names: that of the uncommitted pair of the first leg that has one, else the next of the first
leg (R165, log entry 41). -/
def outcomeLp (d : Dev) (legs : List Nat) : Nat :=
  match legs.filterMap fun n => (d.leg n).tent.map (·.seq) with
  | q :: _ => q
  | [] => match legs with
    | n :: _ => d.nextLp n
    | [] => 0

/-- The execution of slot `s` is abandoned (R151). -/
def abandon (d : Dev) (s : Nat) : Dev :=
  if (d.slot s).active then
    let legs := bitsOf 24 (d.fg CEN_SLOT_s_LEGS_LEGS s)
    let d := d.trcOutcome s legs 3 (d.outcomeLp legs)
    ((d.dropTents (List.range 24) (·.slot == s)).offLane s).updSlot s fun x =>
      { x with active := false, buf := [], spec := none, wait := none, repLeft := none }
  else d

/-- Slot `s` no longer expects the next load point of leg `n`. -/
def expectDrop (d : Dev) (s n : Nat) : Dev := d.updLeg n fun x => { x with expected := x.expected.filter (·.1 != s) }

/-- Slot `s` no longer expects any load point (R151). -/
def withdraw (d : Dev) (s : Nat) : Dev := (List.range 24).foldl (fun d n => d.expectDrop s n) d

/-- A slot fault (R156). -/
def slotFault (d : Dev) (s cause : Nat) : Dev :=
  let d := ((d.abandon s).withdraw s).dropSlot s
  let d := (((d.fs CEN_SLOT_s_CFG_EN 0 s).fs CEN_SLOT_s_STAT_STATE 4 s).fs CEN_SLOT_s_STAT_FAULT 1 s).fs CEN_SLOT_s_STAT_FCAUSE cause s
  let d := d.raise (if cause = 6 then 35 else 32) s
  d.coopTrip (d.fg CEN_SLOT_s_LEGS_LEGS s)

/-- `EN` of slot `s` is cleared (R151). -/
def slotDisable (d : Dev) (s : Nat) : Dev :=
  let d := (((d.abandon s).withdraw s).dropSlot s).fs CEN_SLOT_s_CFG_EN 0 s
  if d.fg CEN_SLOT_s_STAT_STATE s = 4 then d else d.fs CEN_SLOT_s_STAT_STATE 0 s

/-- A miss of slot `s` is counted (R155). -/
def countMiss (d : Dev) (s : Nat) : Dev :=
  let h := d.classHit 4 (d.slot s).occ
  let d := (d.updSlot s fun x => { x with occ := h.1 }).fcnt CEN_SLOT_s_STAT_MISS_CNT CEN_SLOT_s_STAT_MISS_OVF s
  if h.2 then d.slotFault s 6 else d

/-- Execution number `e` of slot `s`, the present or the one before it, misses its deadline; each counts at most one (R154). -/
def slotMiss (d : Dev) (s e : Nat) : Dev :=
  let x := d.slot s
  if e = x.exec then if x.missed then d else (d.updSlot s fun x => { x with missed := true }).countMiss s
  else if e + 1 = x.exec then if x.missedOld then d else (d.updSlot s fun x => { x with missedOld := true }).countMiss s
  else d

/-- Writes of a mailbox since reset: kind and index as `LDS` names them (R145, R146). -/
def mbWrites (d : Dev) (kind idx : Nat) : Nat :=
  match kind with
  | 0 => (vget d.sns.sd idx).cf.writes
  | 2 => (vget d.sns.mtr idx).mb.writes
  | 3 => (vget d.sns.aux idx).writes
  | _ => 0

/-- Every mailbox with its writes so far. -/
def mbAll (d : Dev) : List (Nat × Nat × Nat) :=
  (List.range 24).map (fun i => (0, i, d.mbWrites 0 i)) ++ (List.range 8).map (fun i => (2, i, d.mbWrites 2 i)) ++
  (List.range 16).map (fun i => (3, i, d.mbWrites 3 i))

/-- Writes of a mailbox since the start of the slot's execution. -/
def mbSince (d : Dev) (s kind idx : Nat) : Nat :=
  d.mbWrites kind idx - (((d.slot s).startWrites.find? fun w => w.1 == kind && w.2.1 == idx).map (·.2.2)).getD 0

/-- The pending correction of slot `s` is added to its integrator word (R161): the fault cause, 0 for none, and the effect. -/
def applyCorr (d : Dev) (s : Nat) : Nat × Dev :=
  let x := d.slot s
  let d := d.updSlot s fun x => { x with corr := none, corrBad := 0 }
  if x.corrBad ≠ 0 then (x.corrBad, d)
  else match x.corr with
    | none => (0, d)
    | some c =>
      let a := d.fg CEN_SLOT_s_BASE_SB s + d.fg CEN_SLOT_s_TRK_INT s
      if 32768 ≤ a then (4, d)
      else if d.coopBad 2 a then (5, d)
      else
        let w := d.coopRaw 2 a
        let v : Q := ⟨wv w * 2 ^ 55 + c, 2 ^ 110⟩
        (0, (d.coopTouch 2 a).coopPut 2 a (v.sta (we w)).1)

/-- An execution of slot `s` starts: it becomes ready (R140, R144, R148, R154). Of slots that become ready within one tick those
that the clocked edge domain starts come first, together, then those that the fabric starts, by `n` (R149). -/
def slotBegin (d : Dev) (s n : Nat) : Dev :=
  let f := d.applyCorr s
  let d := f.2
  if f.1 ≠ 0 then d.slotFault s f.1
  else
    let old := d.slot s
    let d := d.setSlot s { active := true, pc := d.fg CEN_SLOT_s_ENTRY_ENTRY s, cb := d.fg CEN_SLOT_s_BASE_CB s,
                           sb := d.fg CEN_SLOT_s_BASE_SB s, x := Vector.replicate 8 zeroW, startTick := d.clk.ticks,
                           startWrites := d.mbAll, readyAt := d.clk.ticks, readyN := n, trgOrigin := old.trgOrigin, occ := old.occ,
                           exec := old.exec + 1, missedOld := old.missed,
                           ceil := (List.range 16).map fun g => d.fg CEN_GRP_g_CEIL_VAL g }
    let d := d.fs CEN_SLOT_s_STAT_STATE 2 s
    if d.fb CEN_SLOT_s_CFG_LEGCOMMIT s then
      (bitsOf 24 (d.fg CEN_SLOT_s_LEGS_LEGS s)).foldl (fun d n =>
        if d.fb PWM_LEG_n_CTRL_EN n then
          d.updLeg n fun x => { x with expected := x.expected ++ [(s, old.exec + 1)] } else d) d
    else d

/-- A trigger of slot `s` (R148); an unfinished execution is abandoned with a miss (R151). -/
def slotTrigger (n : Nat) (d : Dev) (s : Nat) : Dev :=
  if !d.fb CEN_SLOT_s_CFG_EN s then d
  else
    let d := if (d.slot s).active then ((d.slotMiss s (d.slot s).exec).abandon s).raise 34 s else d
    if d.fb CEN_SLOT_s_CFG_EN s then d.slotBegin s n else d

/-- The slots of a list are triggered together, at a tick of the clocked edge domain (R149). -/
def triggerAll (d : Dev) (l : List Nat) : Dev := l.foldl (slotTrigger 0) d

/-- The slots of a list are triggered together, from within the fabric (R149). -/
def triggerFabric (d : Dev) (l : List Nat) : Dev :=
  let n := d.cen.stamp + 1
  l.foldl (slotTrigger n) { d with cen := { d.cen with stamp := n } }

/-- The slots with a trigger type and source. -/
def slotsOf (d : Dev) (type : Nat) (src : Nat → Bool) : List Nat :=
  (List.range 64).filter fun s => d.fb CEN_SLOT_s_CFG_EN s && d.fg CEN_SLOT_s_CFG_TRG_TYPE s == type && src (d.fg CEN_SLOT_s_TRG_SRC s)

/-- A mailbox has been written: the slots it triggers start (R148), the slots that have waited for it go on (R145). -/
def mailbox (d : Dev) (kind idx : Nat) : Dev :=
  let d := d.triggerAll (d.slotsOf 1 fun v => v / 256 % 8 == kind && v % 32 == idx)
  (List.range 64).foldl (fun d s =>
    match (d.slot s).wait with
    | some w =>
      if d.fg CEN_SLOT_s_STAT_STATE s == 3 && w.kind == kind && w.idx == idx && decide (w.count ≤ d.mbSince s kind idx) then
        (d.updSlot s fun x => { x with wait := none, readyAt := d.clk.ticks, readyN := 0 }).fs CEN_SLOT_s_STAT_STATE 2 s
      else d
    | none => d) d

/-! ### The deadline monitor and load points -/

/-- Slots that still expect the load point of leg `n`, number `seq`, have missed it as it passes (R112, R154). -/
def judge (d : Dev) (n seq : Nat) : Dev :=
  let e := (d.leg n).expected
  if e = [] then d
  else
    let d := ((d.updLeg n fun x => { x with expected := [], missSeq := some seq }).fs PWM_LEG_n_STAT_COMMIT_MISS 1 n).raise 34 n
    e.foldl (fun d x => d.slotMiss x.1 x.2) d

/-- The commit cutoff of the next load point of leg `n`, 16 ticks before it, passes (R18). -/
def cutoff (d : Dev) (n : Nat) : Dev :=
  if d.fb PWM_LEG_n_CTRL_EN n && d.pastCutoff n then d.updLeg n fun x => { x with cutoff := true } else d

/-- A commit token reaches the load-point logic (R112, R18, R154). One that is late ends its slot's expectation of the load point: the
load point has one outcome and one `EV_34`, also where the token comes after a load point that has passed without it. -/
def token (d : Dev) (t : Token) : Dev :=
  t.legs.foldl (fun d l =>
    let n := l.1
    let next := decide (l.2.1 = d.nextLp n)
    if !next || d.pastCutoff n then
      let d := if next then d.expectDrop t.slot n else d
      let d := d.fs PWM_LEG_n_STAT_COMMIT_LATE 1 n
      (if (d.leg n).missSeq = some l.2.1 then d else d.raise 34 n).slotMiss t.slot t.exec
    else
      let d := d.expectDrop t.slot n
      match l.2.2 with
      | some p =>
        if d.fb PWM_LEG_n_CTRL_SRC n then d.updLeg n fun x => { x with comm := some p, lastA := p.a, lastB := p.b } else d
      | none => d) d

/-- A load point of leg `n` (R111, R112): the pending shadow or the committed pair becomes active. -/
def loadCompares (d : Dev) (n : Nat) : Dev :=
  let seq := d.nextLp n
  let d := (d.judge n seq).fs PWM_LEG_n_LPS_LP_SEQ seq n
  let x := d.leg n
  let d := if d.fb PWM_LEG_n_CTRL_SRC n then
      match x.comm with
      | some p =>
        let d := d.updLeg n fun x => { x with comm := none }
        if p.seq = seq then (d.updLeg n fun x => { x with cmpA := p.a, cmpB := p.b }).fs PWM_LEG_n_LPS_COMMIT_SEQ seq n else d
      | none => d
    else if decide (x.shAt + 16 < d.clk.ticks) && d.fb PWM_LEG_n_LPS_SH_PEND n && !d.fbit PWM_SHLOCK_LOCK n then
      (d.updLeg n fun x => { x with cmpA := d.fg PWM_LEG_n_CMPA_CMP n, cmpB := d.fg PWM_LEG_n_CMPB_CMP n }).fs PWM_LEG_n_LPS_SH_PEND 0 n
    else d
  d.updLeg n fun x => { x with cutoff := false, tent := x.tent.filter fun p => p.seq != seq }

/-- The slots that a load point of leg `n` triggers (R148). -/
def lpTriggers (d : Dev) (n : Nat) : Dev := d.triggerAll (d.slotsOf 0 fun v => v % 32 == n)

end Dev

/-- The commit cutoff passes (R18). -/
def execCommitCutoff (n : Fin 24) (s : State) : Host.Outcome State Fault Refusal := s.run fun d => d.cutoff n

/-- The oldest commit token under way arrives (R112). -/
def tokenArrivalDev (d : Dev) : Dev :=
  match d.cen.tokens with
  | [] => d
  | t :: l => ({ d with cen := { d.cen with tokens := l } } : Dev).token t

def execCommitTokenArrival (s : State) : Host.Outcome State Fault Refusal := s.run tokenArrivalDev

/-- A period of a timebase-triggered slot has elapsed (R148): the slot starts, and the next period counts from the instant at
which this one ended. -/
def slotTimerDev (s : Nat) (d : Dev) : Dev :=
  let due := (d.slot s).trgOrigin + d.fg CEN_SLOT_s_TRG_SRC s * 80
  if d.fb CEN_SLOT_s_CFG_EN s && d.fg CEN_SLOT_s_CFG_TRG_TYPE s == 2 && decide (due ≤ d.clk.ticks) then
    (d.updSlot s fun x => { x with trgOrigin := due }).triggerAll [s]
  else d

def execSlotTriggerTimer (sl : Fin 64) (s : State) : Host.Outcome State Fault Refusal := s.run (slotTimerDev sl)

end Sys2Proof.Machine
end

