-- ==== Sys2Proof/Machine/Timebase.lean ====
section
/-! DEFINITION. Time passes: the timebase and the PTP clock (R61 to R66). -/
namespace Sys2Proof.Machine
namespace Dev

/-- Ticks in one advance of the timebase (R61). -/
def advance (d : Dev) : Nat := if d.deg then 8 else 1

/-- PTP time in 2^-28 ns with `x` added, and the carry into seconds (R63, R65). -/
def ptpAdd (d : Dev) (x : Int) : Dev :=
  let full : Int := 10 ^ 9 * 2 ^ 28
  let v : Int := (d.clk.ptpNs * 2 ^ 28 + d.clk.ptpFrac : Nat) + x
  let r := (v % full).toNat
  let sec := ((d.clk.ptpSec : Int) + v / full) % 2 ^ 48
  { d with clk := { d.clk with ptpSec := sec.toNat, ptpNs := r / 2 ^ 28, ptpFrac := r % 2 ^ 28 } }

/-- One advance of the timebase, with the PTP clock (R61, R63). -/
def tickClock (d : Dev) : Dev :=
  let x := d.advance * d.fg CLK_PTP_INC_INC
  let carried := decide (10 ^ 9 * 2 ^ 28 ≤ d.clk.ptpNs * 2 ^ 28 + d.clk.ptpFrac + x)
  ({ d with clk := { d.clk with ticks := d.clk.ticks + d.advance, tbAdv := d.clk.tbAdv + 1, carried := carried, stepped := 0 } } :
    Dev).ptpAdd x

/-- PTP nanoseconds carried into seconds at the present tick (R66). -/
def justCarried (d : Dev) : Bool := d.clk.carried

/-- PTP time in 2^-28 ns. -/
def ptpNow (d : Dev) : Nat := (d.clk.ptpSec * 10 ^ 9 + d.clk.ptpNs) * 2 ^ 28 + d.clk.ptpFrac

/-- The instant `x` falls on the present tick: it has come, and had not come at the tick before (log entry 8). -/
def due (d : Dev) (x : Nat) : Bool := decide (x ≤ d.clk.ticks) && decide (d.clk.ticks < x + d.advance)

end Dev
end Sys2Proof.Machine
end

