-- ==== Sys2Proof/Machine/Sns.lean ====
section
/-! DEFINITION. Sensing (R69 to R95): bitstream inputs, control and protection filters, comparators, the metering
converters with their gain and rotation, the block's registers and commands. -/
namespace Sys2Proof.Machine

/-! ### Filters (R73, R77) -/

/-- The moving sums of `k` successive numbers. -/
def boxcar (k : Nat) (l : List Int) : List Int :=
  (List.range (l.length + 1 - k)).map fun i => ((l.drop i).take k).sum

/-- The sinc filter sum of order `ord` and ratio `k`, over exactly `ord` × (`k` − 1) + 1 bits (R73, R77). -/
def sincSum (k : Nat) : Nat → List Int → Int
  | 0, l => l.headD 0
  | n + 1, l => sincSum k n (boxcar k l)

/-- Bits as +1 and −1. -/
def pm (bits : List Bool) : List Int := bits.map fun b => if b then 1 else -1

/-- A control result of R73: the value and whether the limit changed it. -/
def controlVal (osr : Nat) (bits : List Bool) : Int × Bool :=
  let v := roundDiv (sincSum osr 3 (pm bits) * 2 ^ 23) (osr ^ 3)
  (clampI (-(2 ^ 23)) (2 ^ 23 - 1) v, decide (2 ^ 23 - 1 < v))

/-- A protection value of R77. -/
def protVal (osr ord : Nat) (bits : List Bool) : Int :=
  clampI (-32768) 32767 (roundDiv (sincSum osr ord (pm bits) * 2 ^ 15) (osr ^ ord))

namespace Dev

/-! ### Bitstream inputs -/

/-- Change input `n`. -/
def updSd (d : Dev) (n : Nat) (f : SdIn → SdIn) : Dev :=
  { d with sns := { d.sns with sd := vset d.sns.sd n (f (vget d.sns.sd n)) } }

/-- Input `n` takes bits (R69, R70). -/
def sdRuns (d : Dev) (n : Nat) : Bool := d.fb SNS_SD_n_CFG_EN n && d.fb SNS_SDCK_k_RUNNING (d.fg SNS_SD_n_CFG_CLK_SEL n)

/-- Ticks in a bit clock of input `n` (R69). -/
def bitTicks (d : Dev) (n : Nat) : Nat := 8 * d.fg SNS_SDCK_k_DIV (d.fg SNS_SD_n_CFG_CLK_SEL n)

/-- Oversampling ratio of the control filter of input `n` (R73). -/
def cfOsr (d : Dev) (n : Nat) : Nat := d.fg SNS_SD_n_FILT_CF_OSR n + 1

/-- The consequences of a stuck input hold (R72). -/
def stuckHolds (d : Dev) (n : Nat) : Bool := d.fb SNS_SD_n_STAT_STUCK n || d.fb SNS_SD_n_STAT_LATCHED n

/-- The first rising edge of the bit clock of input `n` at or after `x` (R69, R76). -/
def bitEdge (d : Dev) (n x : Nat) : Nat :=
  let e := vget d.sns.sdck (d.fg SNS_SD_n_CFG_CLK_SEL n)
  let t := d.bitTicks n
  e + (x - e + t - 1) / t * t

/-- A bit of input `n` completes at the present tick. -/
def bitDue (d : Dev) (n : Nat) : Bool := decide (d.bitEdge n (d.clk.ticks + 1 - d.advance) ≤ d.clk.ticks)

/-- The first bit of input `n` comes with the next edge of its bit clock: the control filter's decimations follow each `OSR`
bit clocks after it (R74, R75; the count from that edge is log entry 36's choice). -/
def cfPlace (d : Dev) (n : Nat) : Dev :=
  d.updSd n fun x => { x with nextDec := d.bitEdge n d.clk.ticks + d.cfOsr n * d.bitTicks n }

/-- The control filter of input `n` restarts (R75). -/
def cfRestart (d : Dev) (n : Nat) : Dev := (d.updSd n fun x => { x with fillLeft := 3, realignLeft := 0 }).cfPlace n

/-- `SDCK_k` starts with a full period (R69): its first rising edge is now. The filters of the inputs that now take bits again
have their decimations placed anew. -/
def sdckStart (d : Dev) (k : Nat) : Dev :=
  let d := ({ d with sns := { d.sns with sdck := vset d.sns.sdck k d.clk.ticks } } : Dev).fs SNS_SDCK_k_RUNNING 1 k
  ((List.range 24).filter fun n => d.sdRuns n && d.fg SNS_SD_n_CFG_CLK_SEL n == k).foldl cfPlace d

/-- The modulator base clock changes source (R51): it stays low for a period of the slower source and goes on with the phase
of the new one, which the spec does not give (log entry 36). -/
def sdckShift (d : Dev) : Dev :=
  let f := d.fresh
  let x := 8 + f.1 % 8
  { f.2 with sns := { f.2.sns with sdck := vmap (· + x) f.2.sns.sdck
                                   sd := vmap (fun i => { i with nextDec := i.nextDec + x }) f.2.sns.sd } }

/-- A sync event of leg `n` at its carrier start (`centre` = false) or centre reaches the filters that follow it (R76). -/
def filterSync (d : Dev) (n : Nat) (centre : Bool) : Dev :=
  if d.fb CLK_PLL_STAT_PWM_HOLD || !d.fb PWM_LEG_n_CTRL_EN n then d
  else
    (List.range 24).foldl (fun d i =>
      if d.fb SNS_SD_n_SYNC_EN i && d.fg SNS_SD_n_SYNC_LEG i == n && d.fb SNS_SD_n_SYNC_POINT i == centre &&
         d.fb SNS_SD_n_FILT_CF_EN i && d.sdRuns i then
        let x := vget d.sns.sd i
        let t := d.bitTicks i
        let full := d.cfOsr i * t
        let target := d.bitEdge i (d.clk.ticks / 4 * 4) + d.fg SNS_SD_n_SYNC_OFS i * t
        if decide (x.nextDec ≤ target) && decide ((target - x.nextDec) % full = 0) then d
        else (d.updSd i fun x => { x with nextDec := target, realignLeft := 3 }).raise 18 i
      else d) d

/-! ### Comparators (R78) -/

/-- The switch that comparator `m` names: 0 high, 1 low, 2 the whole leg (R126). -/
def cmpSw (d : Dev) (m : Nat) : Nat :=
  match vget d.sns.cmpSide m, d.fg TRP_CMP_m_CFG_SIDE m with
  | .high, 0 => 0
  | .low, 0 => 1
  | .high, 1 => 1
  | .low, 1 => 0
  | _, _ => 2

/-- Comparator `m` names its switch to the legs of its trip, where that is enabled (R126). -/
def cmpActs (d : Dev) (m : Nat) : Dev :=
  if d.fb TRP_CMP_m_CFG_EN m then
    (bitsOf 24 (d.fg TRP_CMP_m_CFG_LEGS m)).foldl (fun d n => d.activate n (0x20 + m) (d.cmpSw m)) d
  else d

/-- Comparator `m` asserts (R78); an enabled trip takes it with the threshold that asserted it. One that is asserted already
and is now held by R72 acts on the whole leg from then on (R126). -/
def cmpAssert (d : Dev) (m : Nat) (side : CmpSide) : Dev :=
  let e : Dev := { d with sns := { d.sns with cmpSide := vset d.sns.cmpSide m side } }
  if d.fbit SNS_CMP_STAT_OUT m then
    if side = .held ∧ vget d.sns.cmpSide m ≠ .held then
      if d.fb TRP_CMP_m_CFG_EN m then (bitsOf 24 (d.fg TRP_CMP_m_CFG_LEGS m)).foldl (fun d n => d.nameTwice n 2) e else e
    else d
  else (((e.fsBit SNS_CMP_STAT_OUT m true).fsBit SNS_CMP_STAT_SEEN m true).raise 19 m).cmpActs m

/-- Comparator `m` deasserts. -/
def cmpRelease (d : Dev) (m : Nat) : Dev :=
  if d.fbit SNS_CMP_STAT_OUT m then
    let d := { d with sns := { d.sns with cmpSide := vset d.sns.cmpSide m .none } }
    let d := d.fsBit SNS_CMP_STAT_OUT m false
    if d.fb TRP_CMP_m_CFG_EN m then (bitsOf 24 (d.fg TRP_CMP_m_CFG_LEGS m)).foldl noteInactive d else d
  else d

/-- Comparator `m` is held asserted by its stuck source (R72). -/
def cmpHeld (d : Dev) (m : Nat) : Bool :=
  d.fb SNS_CMP_m_CFG_EN m && d.fb SNS_CMP_m_CFG_STUCK_TRIP m && d.stuckHolds (d.fg SNS_CMP_m_CFG_SRC m)

/-- Comparator `m` evaluates a new filter value (R78). -/
def cmpEval (d : Dev) (m : Nat) (v : Int) : Dev :=
  let hi := sval 16 (d.fg SNS_CMP_m_LIM_HI m)
  let lo := sval 16 (d.fg SNS_CMP_m_LIM_LO m)
  let hy : Int := d.fg SNS_CMP_m_CFG_HYST m
  let mode := d.fg SNS_CMP_m_CFG_MODE m
  let above := mode.testBit 0
  let below := mode.testBit 1
  if d.cmpHeld m then d.cmpAssert m .held
  else if d.fbit SNS_CMP_STAT_OUT m then
    if (!above || decide (v ≤ hi - hy)) && (!below || decide (lo + hy ≤ v)) then d.cmpRelease m else d
  else if above && decide (hi < v) then d.cmpAssert m .high
  else if below && decide (v < lo) then d.cmpAssert m .low
  else d

/-- The protection filter of input `n` produces a new value (R77, R78). -/
def protNew (d : Dev) (n : Nat) (v : Int) : Dev :=
  ((List.range 16).filter fun m => d.fb SNS_CMP_m_CFG_EN m && d.fg SNS_CMP_m_CFG_SRC m == n).foldl
    (fun d m => d.cmpEval m v) (d.fsS SNS_PF_n_VAL v n)

/-- Comparators that a stuck input holds assert (R72). -/
def holdStuck (d : Dev) : Dev := ((List.range 16).filter d.cmpHeld).foldl (fun d m => d.cmpAssert m .held) d

/-! ### Metering converters (R81 to R87) -/

/-- Channel `c` with a change. -/
def updMtr (d : Dev) (c : Nat) (f : MtrCh → MtrCh) : Dev :=
  { d with sns := { d.sns with mtr := vset d.sns.mtr c (f (vget d.sns.mtr c)) } }

/-- The channel is measured: enabled, and not the pair given up to the spare (R86). -/
def mtrOn (d : Dev) (c : Nat) : Bool :=
  d.fbit SNS_MTR_CTRL_EN c && !(d.fb SNS_MTR_CTRL_ROT_EN && d.fg SNS_MTR_CTRL_SPARE == c)

/-- A rotation step can start (R86, R87). -/
def rotReady (d : Dev) : Bool :=
  d.fb SNS_MTR_CTRL_ROT_EN && d.sns.rot.isNone && d.sns.withdrawn.isEmpty && d.sns.mtrCalDone && !d.convStopped &&
  (List.range 8).any d.mtrOn

/-- The next enabled channel after the last one, wrapping (R86). -/
def rotNext (d : Dev) : Nat :=
  match ((List.range 8).filter d.mtrOn).find? (fun c => d.sns.rotLast < c) with
  | some c => c
  | none => (((List.range 8).filter d.mtrOn).head?).getD 0

/-- A rotation step starts (R86). -/
def rotStart (d : Dev) : Dev :=
  let c := d.rotNext
  let st : RotStep := { ch := c, old := (vget d.sns.mtr c).conv, spare := d.fg SNS_MTR_ROT_SPARE_CONV }
  let d := { d with sns := { d.sns with rot := some st, rotLast := c } }
  (((d.fs SNS_MTR_ROT_STEP_ACTIVE 1).fs SNS_MTR_ROT_STEP_CH c).fs SNS_MTR_ROT_REQ 0).fs SNS_STAT_MTR_CAL_PENDING 0

/-- A requested step starts as soon as it can (R87). -/
def rotTry (d : Dev) : Dev := if d.fb SNS_MTR_ROT_REQ && d.rotReady then d.rotStart else d

/-- A rotation step is requested (R87). -/
def rotRequest (d : Dev) : Dev := ((d.fs SNS_MTR_ROT_REQ 1).fs SNS_STAT_MTR_CAL_PENDING 1).rotTry

/-- A calibration of converter `k` ends (R86): one that passes has its corrections stored. -/
def calResult (d : Dev) (k : Nat) (c : ConvCal) : Dev :=
  let d := (d.fs SNS_MTR_CONV_k_CAL_OFS c.ofs.toNat k).finc SNS_MTR_CONV_k_CAL_SEQ k
  if decide (c.ofs.toInt.natAbs ≤ 2048) && [c.g1, c.g4, c.g16, c.g64].all fun g => decide (g.natAbs ≤ 5000) then
    ({ d with sns := { d.sns with cor := vset d.sns.cor k (some c) } } : Dev).fs SNS_MTR_CONV_k_CAL_VALID 1 k
  else
    let d := ((d.fs SNS_MTR_CONV_k_CAL_FAIL 1 k).fs SNS_STAT_MTR_CAL_FAULT 1).raise 23 k
    let h := d.classHit 1 (vget d.sns.calOcc k)
    let d := { d with sns := { d.sns with calOcc := vset d.sns.calOcc k h.1 } }
    if h.2 && !d.sns.withdrawn.contains k then { d with sns := { d.sns with withdrawn := d.sns.withdrawn ++ [k] } } else d

/-- The converters of the channel whose converter is `a` and of the one whose converter is `b` change places (R86). -/
def swapConv (d : Dev) (a b : Nat) : Dev :=
  { d with sns := { d.sns with mtr := vmap (fun x => { x with conv := if x.conv = a then b else if x.conv = b then a else x.conv }) d.sns.mtr } }

/-- The converter of the pin pair `SPARE` is the spare (R86). -/
def showSpare (d : Dev) : Dev := d.fs SNS_MTR_ROT_SPARE_CONV (vget d.sns.mtr (d.fg SNS_MTR_CTRL_SPARE)).conv

/-- The code of converter `k` at gain index `g`, corrected by its own latest calibration (R81, R86); as it is before one has
passed. -/
def corrected (d : Dev) (k g : Nat) (code : BitVec 24) : BitVec 24 :=
  match vget d.sns.cor k with
  | some c => Config.mtrCorrect c.ofs ([c.g1, c.g4, c.g16, c.g64].getD g 0) code
  | none => code

/-- The ceiling, or the fixed gain, of channel `c` (R83). -/
def mtrFix (d : Dev) (c : Nat) : Nat := d.fg SNS_MTR_GAIN_FIX / 4 ^ c % 4

/-- A peak of `pk` × 2^-29 of the ×1 full scale exceeds `pct` % of the full scale at gain index `g`. -/
def peakOver (pk g pct : Nat) : Bool := decide (pct * 2 ^ 29 < 100 * pk * 4 ^ g)

/-- The highest gain index up to `g` at which the peak lies below 90 % of full scale (R83). -/
def gainFor (pk : Nat) : Nat → Nat
  | 0 => 0
  | g + 1 => if 100 * pk * 4 ^ (g + 1) < 90 * 2 ^ 29 then g + 1 else gainFor pk g

/-- Channel `c` takes one sample (R81 to R86): `x1` and `rg` are its converter's own codes of the two paths, `pk` the peak of the
input. -/
def mtrSample (d : Dev) (c : Nat) (i : MtrIn) : Dev :=
  let ch := vget d.sns.mtr c
  let auto := d.fbit SNS_MTR_GAIN_AUTO c
  let g0 := if auto then min ch.gain (d.mtrFix c) else d.mtrFix c
  let left0 := if auto && g0 != ch.gain then 4 else if auto then ch.x1Left else 0
  let d := if auto && g0 != ch.gain then d.raise 21 c else d
  let ovr := peakOver i.pk g0 90
  let x1 := ovr || decide (0 < left0)
  let ovl := peakOver i.pk 0 95
  let low := if peakOver i.pk g0 20 then 0 else ch.low + 1
  let g1 := if !auto then g0 else if ovr then gainFor i.pk g0
    else if 160 ≤ low && decide (g0 < d.mtrFix c) then g0 + 1 else g0
  let d := if ovl && !ch.ovl then d.raise 20 c else d
  let d := if g1 ≠ g0 then d.raise 21 c else d
  let v : Int := if x1 then (d.corrected ch.conv 0 i.x1).toInt * 256
    else (d.corrected ch.conv g0 i.rg).toInt * 2 ^ (8 - 2 * g0)
  let s : MtrSample :=
    ⟨d.clk.ticks / 100000, c, v, if x1 then 0 else g0, x1, ovl, ch.handover, ch.conv, d.deg, i.read⟩
  let low2 := if g1 = g0 then min low 160 else 0
  let left2 := if g1 ≠ g0 then 4 else left0 - 1
  let d := d.updMtr c fun ch => { ch with gain := g1, low := low2, ovl := ovl, handover := false, x1Left := left2 }
  { d with sns := { d.sns with inFlight := d.sns.inFlight ++ [s] } }

/-! ### Auxiliary converter: what waits for a gap (R90, R92) -/

/-- The auxiliary input is converted in each scan (R88). -/
def auxOn (d : Dev) (n : Nat) : Bool :=
  d.fb SNS_AUX_n_CFG_EN n && !(n % 2 == 1 && d.fb SNS_AUX_n_CFG_DIFF (n - 1))

/-- A test falls due: where the converter stands idle in a gap, the gap's next conversion starts now (R92). -/
def auxIdle (d was : Dev) : Dev :=
  if was.auxPick.isNone && !was.sns.scanning then { d with sns := { d.sns with auxFrom := d.clk.ticks } } else d

/-- Open-wire conversions of every input with `OW_EN` fall due; one that still waits counts once (R90). -/
def owFallDue (d : Dev) : Dev :=
  let d := d.auxIdle d
  { d with sns := { d.sns with owDue := (List.range 16).filter fun n => d.sns.owDue.contains n || (vget d.sns.auxCh n).owEn } }

/-- Test 3 of `SNS_TEST` requests the open-wire conversion of every input with `OW_EN` (R94). -/
def owAsk (d : Dev) : Dev :=
  let d := d.auxIdle d
  { d with sns := { d.sns with owReq := (List.range 16).filter fun n => d.fb SNS_AUX_n_CFG_OW_EN n } }

/-- The self-test falls due by its period (R92). -/
def stFallDue (d : Dev) : Dev :=
  let d := d.auxIdle d
  { d with sns := { d.sns with stPer := true } }

/-! ### SNS registers -/

/-- Combinations out of range: `LO` ≥ `HI` in window mode (R80; that the status is `ST_RANGE` is log entry 96's choice, the rule
names none), `DIFF` on an odd input. -/
def rangeSNS (d : Dev) (b n w : Nat) : Bool :=
  if b = 0x20030404 then
    d.fg SNS_CMP_m_CFG_MODE n == 3 && decide (sval 16 (SNS_CMP_m_LIM_HI.of w) ≤ sval 16 (SNS_CMP_m_LIM_LO.of w))
  else if b = 0x20030640 then n % 2 == 1 && SNS_AUX_n_CFG_DIFF.of w == 1
  else false

/-- Writes refused by the state (R69, R80, R86, R87). A change of `SRC` of an enabled comparator to an input that could not be
its source at an enable is refused likewise (log entry 96's choice). -/
def stateSNS (d : Dev) (b n w : Nat) : Bool :=
  let watched := (List.range 16).any fun m => d.fb SNS_CMP_m_CFG_EN m && d.fg SNS_CMP_m_CFG_SRC m == n
  if b = 0x20030010 then
    d.fb SNS_SDCK_k_EN n && (SNS_SDCK_k_DIV.of w != d.fg SNS_SDCK_k_DIV n ||
      (SNS_SDCK_k_EN.of w == 0 && (List.range 24).any fun i => d.fb SNS_SD_n_CFG_EN i && d.fg SNS_SD_n_CFG_CLK_SEL i == n))
  else if b = 0x20030100 then
    watched && (SNS_SD_n_CFG_RUN.of w != d.fg SNS_SD_n_CFG_RUN n || SNS_SD_n_CFG_DLY.of w != d.fg SNS_SD_n_CFG_DLY n ||
      SNS_SD_n_CFG_CLK_SEL.of w != d.fg SNS_SD_n_CFG_CLK_SEL n || SNS_SD_n_CFG_EN.of w != d.fg SNS_SD_n_CFG_EN n)
  else if b = 0x20030104 then
    watched && (SNS_SD_n_FILT_PF_EN.of w != d.fg SNS_SD_n_FILT_PF_EN n ||
      SNS_SD_n_FILT_PF_ORD.of w != d.fg SNS_SD_n_FILT_PF_ORD n || SNS_SD_n_FILT_PF_OSR.of w != d.fg SNS_SD_n_FILT_PF_OSR n)
  else if b = 0x20030400 then
    let src := SNS_CMP_m_CFG_SRC.of w
    SNS_CMP_m_CFG_EN.of w == 1 && (!d.fb SNS_CMP_m_CFG_EN n || src != d.fg SNS_CMP_m_CFG_SRC n) &&
      (!d.fb SNS_SD_n_FILT_PF_EN src || !d.fb SNS_SD_n_CFG_EN src)
  else if b = 0x20030500 then
    (d.fb SNS_MTR_CTRL_EN && (SNS_MTR_CTRL_ROT_EN.of w != d.fg SNS_MTR_CTRL_ROT_EN ||
      SNS_MTR_CTRL_SPARE.of w != d.fg SNS_MTR_CTRL_SPARE)) ||
    (SNS_MTR_CTRL_ROT_EN.of w == 1 && (SNS_MTR_CTRL_EN.of w).testBit (SNS_MTR_CTRL_SPARE.of w))
  else false

/-- A clear of `LATCHED` is refused while the input is stuck (R71). -/
def refusedSNS (d : Dev) (b n lo : Nat) : Bool := b == 0x20030118 && lo == 2 && d.fb SNS_SD_n_STAT_STUCK n

/-- What a W1C clear does besides clearing. -/
def clearedSNS (d : Dev) (b n lo : Nat) : Dev :=
  if b = 0x20030118 ∧ lo = 3 then d.fs SNS_SD_n_STAT_STUCK_CNT 0 n
  else if b = 0x20030580 ∧ lo = 30 then ({ d with sns := { d.sns with withdrawn := d.sns.withdrawn.filter (· != n) } } : Dev).rotTry
  else d

/-- What a write does after it is stored. -/
def afterSNS (d d0 : Dev) (b n _w : Nat) : Dev :=
  if b = 0x20030010 then
    if !d.fb SNS_SDCK_k_EN n || d.convStopped then d.fs SNS_SDCK_k_RUNNING 0 n
    else if d.fb SNS_SDCK_k_RUNNING n then d else d.sdckStart n
  else if b = 0x20030100 then
    if !d.fb SNS_SD_n_CFG_EN n then d.fs SNS_SD_n_STAT_STUCK 0 n
    else if d.sdRuns n && (!d0.sdRuns n || d.fg SNS_SD_n_CFG_CLK_SEL n != d0.fg SNS_SD_n_CFG_CLK_SEL n) then d.cfPlace n
    else d
  else if b = 0x20030104 then
    if d.fb SNS_SD_n_FILT_CF_EN n && (!d0.fb SNS_SD_n_FILT_CF_EN n || d.cfOsr n != d0.cfOsr n) then d.cfRestart n else d
  else if b = 0x20030400 then (if d.fb SNS_CMP_m_CFG_EN n then d.holdStuck else d.cmpRelease n)
  else if b = 0x20030500 then d.showSpare.rotTry
  else if b = 0x20030508 then (if d.fb SNS_MTR_ROT_REQ then d.rotRequest else d)
  else if b = 0x20030708 then (if d.fb SNS_AUX_TEST_REQ && !d0.stDue then d.auxIdle d0 else d)
  else d

end Dev

/-! ### Events of the bitstream inputs -/

/-- The input delivers a run beyond its limit (R71, R72). -/
def inputStuckDev (n : Nat) (d : Dev) : Dev :=
  if !d.sdRuns n || !d.fb SNS_SD_n_CFG_RUN n || d.fb SNS_SD_n_STAT_STUCK n then d
  else
    let d := ((d.fs SNS_SD_n_STAT_STUCK 1 n).fs SNS_SD_n_STAT_STUCK_SEEN 1 n).fcnt SNS_SD_n_STAT_STUCK_CNT SNS_SD_n_STAT_CNT_OVF n
    let h := d.classHit 0 (vget d.sns.sd n).occ
    let d := (d.updSd n fun x => { x with occ := h.1 }).raise 16 n
    let d := if h.2 then (d.fs SNS_SD_n_STAT_LATCHED 1 n).raise 17 n else d
    d.holdStuck

def execInputStuck (n : Fin 24) (s : State) : Host.Outcome State Fault Refusal := s.run (inputStuckDev n)

/-- A stuck input has toggled and run 1,024 bit clocks within the limit (R71). -/
def stuckRecoveredDev (n : Nat) (d : Dev) : Dev :=
  if d.sdRuns n then d.fs SNS_SD_n_STAT_STUCK 0 n else d

def execStuckRecovered (n : Fin 24) (s : State) : Host.Outcome State Fault Refusal := s.run (stuckRecoveredDev n)

/-- The control filter completes a decimation over its last bits, at its decimation instant (R73 to R76). -/
def decimationDev (n : Nat) (bits : List Bool) (d : Dev) : Dev :=
  let osr := d.cfOsr n
  let x := vget d.sns.sd n
  let full := osr * d.bitTicks n
  let at_ := x.nextDec + (d.clk.ticks - x.nextDec) / full * full
  if !d.sdRuns n || !d.fb SNS_SD_n_FILT_CF_EN n || bits.length != 3 * osr - 2 || !d.due at_ then d
  else
    let open_ := decide (0 < x.fillLeft) || decide (0 < x.realignLeft)
    let f := d.fresh
    let d := if open_ then f.2 else d
    let r := if open_ then (sval 24 f.1, f.1.testBit 24) else controlVal osr bits
    let inv := decide (0 < x.fillLeft) || d.stuckHolds n
    let d := ((((d.fsS SNS_CF_n_LO_VAL r.1 n).fs SNS_CF_n_HI_DEGRADED (b2n d.deg) n).fs SNS_CF_n_HI_INVALID (b2n inv) n).fs
      SNS_CF_n_HI_REALIGN (b2n (decide (0 < x.realignLeft))) n).fs SNS_CF_n_HI_SAT (b2n r.2) n
    let d := (d.finc SNS_CF_n_HI_SEQ n).updSd n fun x =>
      { x with fillLeft := x.fillLeft - 1, realignLeft := x.realignLeft - 1, nextDec := at_ + full, cf := { ts := at_, deg := d.deg, writes := x.cf.writes + 1 } }
    (d.trcSource 2 n (uval 24 r.1) 0 false none none).mailbox 0 n

def execControlFilterDecimation (n : Fin 24) (bits : List Bool) (s : State) : Host.Outcome State Fault Refusal :=
  s.run (decimationDev n bits)

/-- The protection filter of input `n` produces the value of a bit clock from its last bits: `SNS_PF_n` shows it, and the enabled
comparators that watch the input evaluate it (R77, R78). -/
def protValueDev (n : Nat) (bits : List Bool) (d : Dev) : Dev :=
  let osr := d.fg SNS_SD_n_FILT_PF_OSR n + 1
  let ord := d.fg SNS_SD_n_FILT_PF_ORD n
  if !d.sdRuns n || !d.fb SNS_SD_n_FILT_PF_EN n || !d.bitDue n || bits.length != ord * (osr - 1) + 1 then d
  else d.protNew n (protVal osr ord bits)

def execComparatorAssert (n : Fin 24) (bits : List Bool) (s : State) : Host.Outcome State Fault Refusal :=
  s.run (protValueDev n bits)

def execComparatorDeassert (n : Fin 24) (bits : List Bool) (s : State) : Host.Outcome State Fault Refusal :=
  s.run fun d => protValueDev n bits d

/-! ### Events of the metering converters -/

/-- All converters take sample k (R81, R85), once on each multiple of 100,000 ticks that the timebase reaches or, in its
steps of 8, passes. -/
def meteringSampleDev (l : List MtrIn) (d : Dev) : Dev :=
  if !d.sns.mtrCalDone || d.convStopped || l.length != 8 || decide ((if d.deg then 8 else 1) ≤ d.clk.ticks % 100000) ||
    d.sns.inFlight.any (·.k == d.clk.ticks / 100000) then d
  else
    let d := ((List.range 8).filter d.mtrOn).foldl (fun d c => d.mtrSample c (l.getD c {})) d
    { d with sns := { d.sns with rot := d.sns.rot.map fun r => { r with n := r.n + 1 } } }

def execMeteringSample (l : List MtrIn) (s : State) : Host.Outcome State Fault Refusal := s.run (meteringSampleDev l)

/-- The rotation period has elapsed (R86). -/
def rotationStepDev (d : Dev) : Dev := if d.rotReady then d.rotStart else d

def execRotationStepStart (s : State) : Host.Outcome State Fault Refusal := s.run rotationStepDev

/-- 64 samples have been converted in parallel: the channel changes converter (R86). -/
def rotationHandoverDev (d : Dev) : Dev :=
  match d.sns.rot with
  | some r =>
    if r.phase = .parallel ∧ 64 ≤ r.n then
      let d := (d.swapConv r.old r.spare).updMtr r.ch fun x => { x with handover := true }
      { d with sns := { d.sns with rot := some { r with phase := .offset } } }
    else d
  | none => d

def execRotationHandover (s : State) : Host.Outcome State Fault Refusal := s.run rotationHandoverDev

/-- The offset of the old converter is measured, over 256 samples (R86). -/
def rotationOffsetDev (ofs : BitVec 16) (d : Dev) : Dev :=
  match d.sns.rot with
  | some r =>
    if r.phase = .offset ∧ 320 ≤ r.n then { d with sns := { d.sns with rot := some { r with phase := .gain, ofs := ofs } } } else d
  | none => d

def execRotationOffsetMeasured (ofs : BitVec 16) (s : State) : Host.Outcome State Fault Refusal :=
  s.run (rotationOffsetDev ofs)

/-- The four gains are measured, over 256 samples each, as deviations from nominal in parts per million; the step ends (R86, R87). -/
def rotationCalDev (g1 g4 g16 g64 : Int) (d : Dev) : Dev :=
  match d.sns.rot with
  | some r =>
    if r.phase = .gain ∧ 1344 ≤ r.n then
      let d := d.calResult r.old ⟨r.ofs, g1, g4, g16, g64⟩
      let d := ({ d with sns := { d.sns with rot := none } } : Dev).fs SNS_MTR_ROT_STEP_ACTIVE 0
      ((d.showSpare.finc SNS_MTR_ROT_ROT_SEQ).raise 22 r.old).rotTry
    else d
  | none => d

def execRotationCalComplete (g1 g4 g16 g64 : Int) (s : State) : Host.Outcome State Fault Refusal :=
  s.run (rotationCalDev g1 g4 g16 g64)

/-- The start-up calibration of the eight converters (R388). -/
def initialCalDev (cal : List ConvCal) (d : Dev) : Dev :=
  if d.sns.mtrCalDone || cal.length != 8 then d
  else
    let d := (List.range 8).foldl (fun d k => d.calResult k (cal.getD k {})) d
    ({ d with sns := { d.sns with mtrCalDone := true } } : Dev).rotTry

def execMeteringInitialCalDone (cal : List ConvCal) (s : State) : Host.Outcome State Fault Refusal :=
  s.run (initialCalDev cal)

/-! ### Tests of the auxiliary converter -/

/-- The converter has run its present slot or test of `us` µs to its end (R88, R92). -/
def Dev.auxEnded (d : Dev) (us : Nat) : Bool := decide (d.sns.auxFrom + us * 800 ≤ d.clk.ticks)

/-- The open-wire conversion that the gap runs ends (R90, R92). -/
def openWireDev (code : Int) (d : Dev) : Dev :=
  match d.auxPick with
  | none => d
  | some n =>
    if n = 16 ∨ !d.auxEnded (d.auxSlot n) then d
    else
      let d := { d with sns := { d.sns with owDue := d.sns.owDue.filter (· != n)
                                            owReq := d.sns.owReq.filter (· != n), auxFrom := d.clk.ticks } }
      if 513803 ≤ code then ((d.fsBit SNS_AUX_STAT_OW n true).fsBit SNS_AUX_STAT_OW_SEEN n true).raise 25 n
      else d.fsBit SNS_AUX_STAT_OW n false

def execOpenWireConversionDone (code : BitVec 20) (s : State) : Host.Outcome State Fault Refusal :=
  s.run (openWireDev code.toInt)

/-- The self-test period has elapsed (R92). -/
def auxSelftestDueDev (d : Dev) : Dev :=
  if d.sns.auxEn && d.sns.stEvery != 0 then d.stFallDue else d

def execAuxSelftestDue (s : State) : Host.Outcome State Fault Refusal := s.run auxSelftestDueDev

/-- The self-test conversion that the gap runs ends (R92). -/
def auxSelftestConvDev (code : Int) (d : Dev) : Dev :=
  if d.auxPick ≠ some 16 ∨ !d.auxEnded 600 then d
  else
    let d := { d with sns := { d.sns with auxFrom := d.clk.ticks } }
    let good := match d.sns.stDone with
      | 0 => decide (code.natAbs ≤ 200)
      | 1 => decide ((code - 262144).natAbs ≤ 524)
      | _ => decide ((code - 419430).natAbs ≤ 2097)
    let bad := d.sns.stBad || !good
    if d.sns.stDone < 2 then { d with sns := { d.sns with stDone := d.sns.stDone + 1, stBad := bad } }
    else
      let d := { d with sns := { d.sns with stPer := false, stDone := 0, stBad := false } }
      let d := ((d.finc SNS_AUX_TEST_ST_SEQ).fs SNS_AUX_TEST_FAIL (b2n bad)).fs SNS_AUX_TEST_REQ 0
      if bad then (d.fs SNS_STAT_AUX_TEST_FAULT 1).raise 27 else d

def execAuxSelftestConversionDone (code : BitVec 20) (s : State) : Host.Outcome State Fault Refusal :=
  s.run (auxSelftestConvDev code.toInt)

/-! ### Commands -/

def execSnsCaps (p : Path) (tag : Byte) (s : State) : Host.Outcome State Fault Refusal :=
  s.run fun d => d.runCmd 0x200 p tag (capsCmd [0x20030008])

/-- The reply of `SNS_READ`: value, flags, timestamp. -/
def snsReply (v : Int) (flags : Nat) (ts : Nat) (deg : Bool) : Res :=
  .reply .ok (leBytes 4 (uval 32 v) ++ leBytes 4 flags ++ leBytes 6 ts ++ leBytes 2 (b2n deg))

/-- `SNS_READ` (R94). -/
def snsReadCmd (c : Cmd) (d : Dev) : Res × Dev :=
  let kind := byteAt c.payload 0
  let i := byteAt c.payload 1
  let count := match kind with
    | 0 => 24 | 1 => 24 | 2 => 8 | 3 => 16 | _ => 0
  if c.payload.length ≠ 2 ∨ count ≤ i then (.st .range, d)
  else match kind with
    | 0 =>
      let m := (vget d.sns.sd i).cf
      if d.fb SNS_SD_n_CFG_EN i && d.fb SNS_SD_n_FILT_CF_EN i then
        (snsReply (d.fg SNS_CF_n_LO_VAL i) (d.word (0x20030110 + 0x20 * i)) m.ts m.deg, d)
      else (.st .state, d)
    | 1 =>
      if d.fb SNS_SD_n_CFG_EN i && d.fb SNS_SD_n_FILT_PF_EN i then
        (snsReply (d.fgS SNS_PF_n_VAL i) (b2n d.deg * 2 ^ 15) d.clk.ticks d.deg, d)
      else (.st .state, d)
    | 2 =>
      let m := (vget d.sns.mtr i).mb
      if d.fbit SNS_MTR_CTRL_EN i then (snsReply (d.fg SNS_MTR_n_LO_VAL i) (d.word (0x20030544 + 8 * i)) m.ts m.deg, d)
      else (.st .state, d)
    | _ =>
      let m := vget d.sns.aux i
      if d.auxOn i then
        (snsReply (d.fgS SNS_AUX_n_RES_CODE i) (d.word (0x200306C0 + 4 * i) / 2 ^ 20 * 2 ^ 20) m.ts m.deg, d)
      else (.st .state, d)

def execSnsRead (p : Path) (tag : Byte) (s : State) : Host.Outcome State Fault Refusal :=
  s.run fun d => d.runCmd 0x201 p tag snsReadCmd

/-- `SNS_TEST` (R94): 0 where the test starts at once. A self-test whose first conversion has run is no pending request any longer
(log entry 96's choice). -/
def snsTestCmd (c : Cmd) (d : Dev) : Res × Dev :=
  let t := byteAt c.payload 0
  let cancel := byteAt c.payload 1
  let r := fun (n : Nat) (d : Dev) => (Res.reply .ok (leBytes 1 n), d)
  if c.payload.length ≠ 2 ∨ t = 0 ∨ 3 < t ∨ 1 < cancel then (.st .range, d)
  else if (t = 1 ∧ d.fb SNS_MTR_CTRL_EN = false) ∨ (t ≠ 1 ∧ d.fb SNS_AUX_CTRL_EN = false) then (.st .state, d)
  else if t = 1 then
    if cancel = 1 then
      if d.fb SNS_MTR_ROT_REQ then r 2 ((d.fs SNS_MTR_ROT_REQ 0).fs SNS_STAT_MTR_CAL_PENDING 0) else r 3 d
    else if d.fb SNS_MTR_ROT_REQ then r 1 d
    else let d := d.rotRequest; r (d.fg SNS_MTR_ROT_REQ) d
  else if t = 2 then
    if cancel = 1 then
      if d.fb SNS_AUX_TEST_REQ && d.sns.stDone == 0 then r 2 (d.fs SNS_AUX_TEST_REQ 0) else r 3 d
    else if d.stDue then r 1 d
    else
      let e := (d.fs SNS_AUX_TEST_REQ 1).auxIdle d
      r (b2n (e.auxPick != some 16)) e
  else if cancel = 1 then
    if d.sns.owReq = [] then r 3 d else r 2 { d with sns := { d.sns with owReq := [] } }
  else if d.sns.owReq ≠ [] then r 1 d
  else
    let e := d.owAsk
    r (b2n (d.auxPick.isSome || !(e.sns.owReq.any fun n => e.auxPick == some n))) e

def execSnsTest (p : Path) (tag : Byte) (s : State) : Host.Outcome State Fault Refusal :=
  s.run fun d => d.runCmd 0x202 p tag snsTestCmd

end Sys2Proof.Machine
end

