-- ==== Sys2Proof/Machine/PwmEvents.lean ====
section
/-! DEFINITION. The PWM unit's events, registers and commands (R96 to R122): carrier starts and centres, edges, dead time,
delay-line calibration, force groups, carrier alignment. -/
namespace Sys2Proof.Machine

namespace Dev

/-! ### Carrier alignment (R120, R121, R315) -/

/-- The group is aligned with other controllers. -/
def cgAligned (d : Dev) (g : Nat) : Bool := d.fb PWM_ALIGN_CTRL_EN && d.fbit PWM_ALIGN_CTRL_CG_MASK g

/-- A marker of group `g` with a count leaves on lane `l`, where it is up, at its next character boundary (R315): less than a character
of 16 ticks after the carrier start, which is open (log entry 39). -/
def markOn (d : Dev) (g count l : Nat) : Dev :=
  if d.laneUp l then
    let f := d.fresh
    let off := f.1 % 1024
    { f.2 with tx := f.2.tx ++ [.ordered l 3 (32 * g + 4 * count + off / 256) (off % 256)] }
  else d

/-- The leader's marker at a carrier start of group `g`, on both lanes (R315). -/
def sendMark (d : Dev) (g : Nat) : Dev :=
  if d.fg SYS_ROLE_PAR_MODE == 1 && d.cgAligned g then
    let n := (vget d.pwm.cg g).mark
    let d := { d with pwm := { d.pwm with cg := vset d.pwm.cg g { vget d.pwm.cg g with mark := (n + 1) % 8 } } }
    (List.range 2).foldl (fun d l => d.markOn g n l) d
  else d

/-- `ALIGNED` reads 1 on a leader with `EN` set; it does not outlast `EN`. -/
def showAligned (d : Dev) : Dev :=
  if d.fg SYS_ROLE_PAR_MODE = 1 then d.fs PWM_ALIGN_STAT_ALIGNED (d.fg PWM_ALIGN_CTRL_EN)
  else if d.fb PWM_ALIGN_CTRL_EN && d.fg SYS_ROLE_PAR_MODE == 2 then d
  else
    let d := d.fs PWM_ALIGN_STAT_ALIGNED 0
    let f := fun (x : CGrp) => { x with okRun := 0 }
    { d with pwm := { d.pwm with cg := vmap f d.pwm.cg } }

/-- Alignment is lost (R121). -/
def alignLoss (d : Dev) : Dev :=
  let d := ((d.fs PWM_ALIGN_STAT_ALIGNED 0).fs PWM_ALIGN_STAT_LOST 1).raise 10
  let h := d.classHit 3 d.pwm.alOcc
  let f := fun (x : CGrp) => { x with okRun := 0 }
  let d := { d with pwm := { d.pwm with alOcc := h.1, cg := vmap f d.pwm.cg } }
  if d.fb PWM_ALIGN_CTRL_LOSS_ACT then
    ((List.range 24).filter fun n => d.cgAligned (d.legGrp n) && d.fb PWM_LEG_n_CTRL_EN n).foldl
      (fun d n => d.updLeg n fun x => { x with stopAtStart := true }) d
  else d

/-! ### Carrier starts (R97, R115) -/

/-- The carrier start of group `g`, when its instant has come: the last `PER` written is loaded (R97), a leader sends its marker
(R120), a follower notes a period without one. -/
def cgRoll (d : Dev) (g : Nat) : Dev :=
  let x := vget d.pwm.cg g
  if d.cgRuns g && decide (x.next ≤ d.clk.ticks) then
    let per := d.fg PWM_CG_g_PER_PER g
    let roll := fun (x : CGrp) =>
      { x with on := true, start := x.next, per := per, next := x.next + d.cgTicks g per
               okRun := if x.noMark = 0 then x.okRun else 0, noMark := x.noMark + 1 }
    (d.updCg g roll).sendMark g
  else d

/-- The carrier starts of the present tick, after its accesses (R423). -/
def cgRollAll (d : Dev) : Dev := (List.range 8).foldl cgRoll d

/-- The carrier start of an enabled leg. -/
def legCarrierStart (d : Dev) (n : Nat) : Dev :=
  let x := d.leg n
  if x.stopAtStart then (d.legStop n).tryRelease n
  else
    let load := x.starting || d.fg PWM_LEG_n_CTRL_LOAD n % 2 == 1
    let d := if load then d.loadCompares n else d
    let d := (d.fs PWM_LEG_n_STAT_RUN 1 n).updLeg n fun x => { x with starting := false }
    let d := if d.mayRelease n then d.releaseLeg n else d
    let g := d.legGrp n
    let d := ((d.beginPeriod n g (vget d.pwm.cg g).per).legDrive n).filterSync n false
    if load then d.lpTriggers n else d

/-! ### Force groups (R117) -/

/-- The codes of the force group of leg `n` in effect. -/
def forceOf (d : Dev) (n : Nat) : Nat × Nat :=
  let g := d.fg PWM_LEG_n_CTRL_FGRP n
  if g < 8 then vget d.pwm.forceEff g else (0, 0)

/-- A force write: it takes effect 8 ticks later (R117). -/
def forceWrite (d : Dev) (g : Nat) : Dev :=
  { d with pwm := { d.pwm with forceTf := vset d.pwm.forceTf g (some (d.clk.ticks + 8)) } }

/-- Leg `n` takes its codes. -/
def forceLeg (d : Dev) (n : Nat) : Dev :=
  let c := d.forceOf n
  (d.updLeg n fun x => { x with fH := c.1, fL := c.2, fPend := none }).legDrive n

/-- Tf of group `g` has come. -/
def forceGroup (d : Dev) (g : Nat) : Dev :=
  let c := (d.fg PWM_FORCE_g_H_CODE g, d.fg PWM_FORCE_g_L_CODE g)
  let d := { d with pwm := { d.pwm with forceTf := vset d.pwm.forceTf g none, forceEff := vset d.pwm.forceEff g c } }
  ((List.range 24).filter fun n => d.fg PWM_LEG_n_CTRL_FGRP n == g && (d.leg n).fPend.isNone).foldl forceLeg d

/-! ### Shadows (R111) -/

/-- A firmware write of a shadow has been stored: it is pending, and too late for a load point whose cutoff has passed. One that
completes behind a cutoff holds back the whole shadow, with an earlier write in time for it (log entry 97's choice). -/
def shadowWritten (d : Dev) (n : Nat) : Dev :=
  (d.fs PWM_LEG_n_LPS_SH_PEND 1 n).updLeg n fun x => { x with shAt := d.clk.ticks }

/-- `PWM_SHLOCK` has been written: a shadow whose bit is cleared waits for the next load point whose cutoff follows (R111). -/
def lockWritten (d d0 : Dev) : Dev :=
  ((List.range 24).filter fun n => d0.fbit PWM_SHLOCK_LOCK n && !d.fbit PWM_SHLOCK_LOCK n).foldl
    (fun d n => d.updLeg n fun x => { x with shAt := d.clk.ticks }) d

/-! ### PWM registers -/

/-- A carrier group has an enabled member. -/
def cgBusy (d : Dev) (g : Nat) : Bool := (d.cgLegs g).any fun n => d.fb PWM_LEG_n_CTRL_EN n

/-- Writes refused by the state (R96, R97, R111, R114 to R116). -/
def statePWM (d : Dev) (b n w : Nat) : Bool :=
  let en := d.fb PWM_LEG_n_CTRL_EN n
  if b = 0x20020030 then d.fb PWM_ALIGN_CTRL_EN && PWM_ALIGN_CTRL_CG_MASK.of w != d.fg PWM_ALIGN_CTRL_CG_MASK
  else if b = 0x20020040 then
    (PWM_CG_g_CFG_RUN.of w == 1 && !d.fb PWM_CG_g_CFG_RUN n && d.fb CLK_PLL_STAT_PWM_HOLD) ||
    (d.cgBusy n && ((PWM_CG_g_CFG_RUN.of w == 0 && d.fb PWM_CG_g_CFG_RUN n) ||
      PWM_CG_g_CFG_PRESC.of w != d.fg PWM_CG_g_CFG_PRESC n || PWM_CG_g_CFG_MODE.of w != d.fg PWM_CG_g_CFG_MODE n))
  else if b = 0x20020044 then
    (d.cgLegs n).any fun m => d.fb PWM_LEG_n_CTRL_EN m && decide (d.cgTicks n (PWM_CG_g_PER_PER.of w) ≤ d.fg PWM_LEG_n_PHS_PHS m)
  else if b = 0x20020200 then
    (en && (PWM_LEG_n_CTRL_SRC.of w != d.fg PWM_LEG_n_CTRL_SRC n || PWM_LEG_n_CTRL_LOAD.of w != d.fg PWM_LEG_n_CTRL_LOAD n ||
      PWM_LEG_n_CTRL_SAFE.of w != d.fg PWM_LEG_n_CTRL_SAFE n || PWM_LEG_n_CTRL_FGRP.of w != d.fg PWM_LEG_n_CTRL_FGRP n ||
      PWM_LEG_n_CTRL_CGRP.of w != d.fg PWM_LEG_n_CTRL_CGRP n)) ||
    (!en && PWM_LEG_n_CTRL_EN.of w == 1 && !d.canStart n (PWM_LEG_n_CTRL_CGRP.of w))
  else if b = 0x20020208 then en && PWM_LEG_n_PHS_PHS.of w != d.fg PWM_LEG_n_PHS_PHS n
  else if b = 0x2002020C ∨ b = 0x20020210 then d.fb PWM_LEG_n_CTRL_SRC n
  else false

/-- A clear of `DL_COARSE` is refused while the last calibration failed (R106). -/
def refusedPWM (d : Dev) (b lo : Nat) : Bool := b == 0x20020020 && lo == 30 && !d.fb PWM_DLCAL_CAL_OK

/-- What a W1C clear does besides clearing. -/
def clearedPWM (d : Dev) (b n lo : Nat) : Dev :=
  if b = 0x20020218 ∧ lo = 7 then d.fs PWM_LEG_n_STAT_ILK_CNT 0 n else d

/-- `RUN` of group `g` has been written (R96). -/
def cgRunWritten (d d0 : Dev) (g : Nat) : Dev :=
  if d.fb PWM_CG_g_CFG_RUN g && !d0.fb PWM_CG_g_CFG_RUN g then
    if d.fb PWM_CG_g_CFG_TT_START g then (d.fs PWM_CG_g_CNT_WAIT 1 g).updCg g fun _ => {} else d.cgStart g (d.clk.ticks + 1)
  else if !d.fb PWM_CG_g_CFG_RUN g && d0.fb PWM_CG_g_CFG_RUN g then
    (d.cgLegs g).foldl releaseNow ((d.fs PWM_CG_g_CNT_WAIT 0 g).updCg g fun _ => {})
  else d

/-- `PWM_LEG_n_CTRL` has been written (R114 to R117). -/
def legCtrlWritten (d d0 : Dev) (n : Nat) : Dev :=
  let en := d.fb PWM_LEG_n_CTRL_EN n
  let was := d0.fb PWM_LEG_n_CTRL_EN n
  let d := if d.fg PWM_LEG_n_CTRL_FGRP n = d0.fg PWM_LEG_n_CTRL_FGRP n then d
    else d.updLeg n fun x => { x with fPend := some (d.clk.ticks + 8) }
  if en && !was then d.legStart n
  else if !en && was then (d.fs PWM_LEG_n_CTRL_EN 1 n).legStop n
  else d

/-- What a write does after it is stored. -/
def afterPWM (d d0 : Dev) (b n _w : Nat) : Dev :=
  if b = 0x20020030 then d.showAligned
  else if b = 0x20020040 then d.cgRunWritten d0 n
  else if b = 0x20020014 then d.lockWritten d0
  else if b = 0x200200C0 then d.forceWrite n
  else if b = 0x20020200 then d.legCtrlWritten d0 n
  else if b = 0x2002020C ∨ b = 0x20020210 then d.shadowWritten n
  else d

end Dev

/-! ### Events -/

/-- A leg's carrier start, `PHS` ticks after its group's (R97): also the release of a tripped leg (R133). -/
def carrierStartDev (n : Nat) (d : Dev) : Dev :=
  let d := d.cgRoll (d.legGrp n)
  if !d.cgRuns (d.legGrp n) || d.csNext n != d.clk.ticks then d
  else if d.fb PWM_LEG_n_CTRL_EN n then d.legCarrierStart n else d.tryRelease n

def execCarrierStart (n : Fin 24) (s : State) : Host.Outcome State Fault Refusal := s.run (carrierStartDev n)

/-- A leg's carrier centre (R97, R113). -/
def carrierCentreDev (n : Nat) (d : Dev) : Dev :=
  if !d.fb PWM_LEG_n_CTRL_EN n || !d.cgRuns (d.legGrp n) || !(d.leg n).mid || d.centreAt n != d.clk.ticks then d
  else
    let d := d.updLeg n fun x => { x with mid := false }
    let load := decide (2 ≤ d.fg PWM_LEG_n_CTRL_LOAD n)
    let d := if load then ((d.loadCompares n).centreLoad n).legDrive n else d
    let d := d.filterSync n true
    if load then d.lpTriggers n else d

def execCarrierCentre (n : Fin 24) (s : State) : Host.Outcome State Fault Refusal := s.run (carrierCentreDev n)

/-- The reference rises or falls in the tick of its placed instant, at its sub-tick position (R98, R104). -/
def compareEdgeDev (n : Nat) (rising : Bool) (d : Dev) : Dev :=
  let x := d.leg n
  let here := fun q => decide (x.at_ + q / 64 = d.clk.ticks)
  if rising && x.rise && here x.cyc.riseQ then
    (d.updLeg n fun x => { x with r := true, rise := false }).legDrive n (x.cyc.riseQ % 64)
  else if !rising && !x.rise && x.fall && here x.cyc.fallQ then
    (d.updLeg n fun x => { x with r := false, fall := false }).legDrive n (x.cyc.fallQ % 64)
  else d

def execCompareEdge (n : Fin 24) (rising : Bool) (s : State) : Host.Outcome State Fault Refusal :=
  s.run (compareEdgeDev n rising)

/-- A delayed turn-on takes place where its dead time has passed, at its sub-tick position (R101). -/
def deadTimeDev (n : Nat) (d : Dev) : Dev :=
  if ((d.leg n).onH || (d.leg n).onL) && decide (d.turnOnAt n / 64 ≤ d.clk.ticks) then
    d.legDrive n (d.turnOnAt n - 64 * d.clk.ticks)
  else d

def execDeadTimeExpiry (n : Fin 24) (s : State) : Host.Outcome State Fault Refusal := s.run (deadTimeDev n)

/-- The replica line is compared with a tick: the error in taps and the step of the trim, 0 none, 1 up, 2 down (R105, R106). -/
def delayCalDev (err : Int) (step : Nat) (d : Dev) : Dev :=
  if d.fb CLK_PLL_STAT_FALLBACK then d
  else
    let t := d.fg PWM_DLCAL_TRIM
    let t := match step with
      | 1 => min 255 (t + 1)
      | 2 => t - 1
      | _ => t
    let fail := decide (2 < err.natAbs) || t == 0 || t == 255
    let d := ((d.fs PWM_DLCAL_TRIM t).fsS PWM_DLCAL_DL_ERR (clampI (-128) 127 err)).finc PWM_DLCAL_CAL_SEQ
    let d := d.fs PWM_DLCAL_CAL_OK (b2n !fail)
    if fail then
      let d := (d.fs PWM_DLCAL_DL_FAULT 1).raise 9
      let h := d.classHit 2 d.pwm.dlOcc
      let d := { d with pwm := { d.pwm with dlOcc := h.1 } }
      if h.2 then d.fs PWM_DLCAL_DL_COARSE 1 else d
    else d

def execDelayLineCalibration (err : Int) (step : Fin 3) (s : State) : Host.Outcome State Fault Refusal :=
  s.run (delayCalDev err step)

/-- Tf (R117): of a force group, or of the legs whose `FGRP` was changed. -/
def forceEffectDev (g : Option (Fin 8)) (d : Dev) : Dev :=
  if d.fb CLK_PLL_STAT_FALLBACK then d
  else match g with
    | some g =>
      match vget d.pwm.forceTf g with
      | some t => if t ≤ d.clk.ticks then d.forceGroup g else d
      | none => d
    | none =>
      ((List.range 24).filter fun n => match (d.leg n).fPend with
        | some t => decide (t ≤ d.clk.ticks)
        | none => false).foldl Dev.forceLeg d

def execForceTakesEffect (g : Option (Fin 8)) (s : State) : Host.Outcome State Fault Refusal := s.run (forceEffectDev g)

/-- A marker arrives. Every node but the leader sends it on, on the other lane (R315; log entry 39). A follower takes the offset `off` of
its own carrier start of group `g` behind the leader's, in 1/64 ticks (R120). -/
def markerDev (m : MarkIn) (off : Int) (d : Dev) : Dev :=
  let g := m.group.val
  let d := if d.laneUp m.lane && d.fg SYS_ROLE_PAR_MODE != 1 then d.markOn g m.count.toNat (1 - m.lane) else d
  let d := d.cgRoll g
  if d.fg SYS_ROLE_PAR_MODE ≠ 2 ∨ d.cgAligned g = false ∨ d.cgRuns g = false ∨ (vget d.pwm.cg g).on = false then d
  else
    let d := d.fsS PWM_ALIGN_STAT_OFFSET (clampI (-32767) 32767 off)
    let st : Int := d.fg PWM_ALIGN_CTRL_STEP
    let cor := clampI (-st) st (roundDiv off 64)
    let d := d.updCg g fun x =>
      { x with next := ((x.next : Int) - cor).toNat, noMark := 0, okRun := if off.natAbs * 10 ≤ 1024 then min (x.okRun + 1) 16 else 0 }
    if d.fb PWM_ALIGN_STAT_ALIGNED then
      if d.fg PWM_ALIGN_CTRL_LOSS_WIN * 512 < off.natAbs then d.alignLoss else d
    else if (bitsOf 8 (d.fg PWM_ALIGN_CTRL_CG_MASK)).all (fun h => (vget d.pwm.cg h).okRun == 16) then
      d.fs PWM_ALIGN_STAT_ALIGNED 1
    else d

def execMarkerReceived (m : MarkIn) (off : Int) (s : State) : Host.Outcome State Fault Refusal := s.runIf (markerDev m off)

/-- A masked group has begun `LOSS_PER` carrier periods, and one more, since its last marker (R121). -/
def Dev.markerLost (d : Dev) : Bool :=
  (bitsOf 8 (d.fg PWM_ALIGN_CTRL_CG_MASK)).any fun g => decide (d.fg PWM_ALIGN_CTRL_LOSS_PER < (vget d.pwm.cg g).noMark)

/-- No marker for `LOSS_PER` carrier periods (R121). -/
def markerTimeoutDev (d : Dev) : Dev :=
  let d := d.cgRollAll
  if d.fg SYS_ROLE_PAR_MODE = 2 ∧ d.fb PWM_ALIGN_CTRL_EN ∧ d.fb PWM_ALIGN_STAT_ALIGNED ∧ d.markerLost then d.alignLoss else d

def execMarkerTimeout (s : State) : Host.Outcome State Fault Refusal := s.run markerTimeoutDev

/-! ### Commands (R122) -/

def execPwmCaps (p : Path) (tag : Byte) (s : State) : Host.Outcome State Fault Refusal :=
  s.run fun d => d.runCmd 0x100 p tag (capsCmd [0x20020008])

/-- `PWM_START`: every named leg, or none. A named leg that is enabled already stays as it is (log entry 97's choice). -/
def pwmStartCmd (c : Cmd) (d : Dev) : Res × Dev :=
  let m := leAt c.payload 0 4
  if c.payload.length ≠ 4 ∨ 2 ^ 24 ≤ m then (.st .range, d)
  else
    let l := (bitsOf 24 m).filter fun n => !d.fb PWM_LEG_n_CTRL_EN n
    if l.all fun n => d.canStart n (d.legGrp n) then (.st .ok, l.foldl Dev.legStart d) else (.st .state, d)

def execPwmStart (p : Path) (tag : Byte) (s : State) : Host.Outcome State Fault Refusal :=
  s.run fun d => d.runCmd 0x101 p tag pwmStartCmd

/-- `PWM_STOP`. -/
def pwmStopCmd (c : Cmd) (d : Dev) : Res × Dev :=
  let m := leAt c.payload 0 4
  if c.payload.length ≠ 4 ∨ 2 ^ 24 ≤ m then (.st .range, d)
  else (.st .ok, (bitsOf 24 m).foldl Dev.legStop d)

def execPwmStop (p : Path) (tag : Byte) (s : State) : Host.Outcome State Fault Refusal :=
  s.run fun d => d.runCmd 0x102 p tag pwmStopCmd

/-- `PWM_FORCE`: the reply is the timebase at Tf. -/
def pwmForceCmd (c : Cmd) (d : Dev) : Res × Dev :=
  let g := byteAt c.payload 0
  let v := byteAt c.payload 1
  if c.payload.length ≠ 2 ∨ 7 < g ∨ 16 ≤ v ∨ v % 4 = 3 ∨ v / 4 = 3 then (.st .range, d)
  else if d.fb CLK_PLL_STAT_PWM_HOLD then (.st .state, d)
  else
    (.reply .ok (leBytes 6 (d.clk.ticks + 8)),
      ((d.fs PWM_FORCE_g_H_CODE (v % 4) g).fs PWM_FORCE_g_L_CODE (v / 4) g).forceWrite g)

def execPwmForce (p : Path) (tag : Byte) (s : State) : Host.Outcome State Fault Refusal :=
  s.run fun d => d.runCmd 0x103 p tag pwmForceCmd

/-- Write the shadows of the legs of a list from the command's values. -/
def setShadows (d : Dev) (l : List Byte) : List Nat → Dev
  | [] => d
  | n :: t =>
    setShadows (((d.fs PWM_LEG_n_CMPA_CMP (leAt l 0 4) n).fs PWM_LEG_n_CMPB_CMP (leAt l 4 4) n).shadowWritten n) (l.drop 8) t

/-- `PWM_SET`. -/
def pwmSetCmd (c : Cmd) (d : Dev) : Res × Dev :=
  let m := leAt c.payload 0 4
  let l := bitsOf 24 m
  let v := c.payload.drop 4
  if c.payload.length ≠ 4 + 8 * l.length ∨ 2 ^ 24 ≤ m ∨ (List.range (2 * l.length)).any (fun i => 2 ^ 26 ≤ leAt v (4 * i) 4) then
    (.st .range, d)
  else if l.any (fun n => d.fb PWM_LEG_n_CTRL_SRC n) then (.st .state, d)
  else (.st .ok, setShadows d v l)

def execPwmSet (p : Path) (tag : Byte) (s : State) : Host.Outcome State Fault Refusal :=
  s.run fun d => d.runCmd 0x104 p tag pwmSetCmd

end Sys2Proof.Machine
end

