-- ==== Sys2Proof/Machine/Rings.lean ====
section
/-! DEFINITION. Descriptor rings of the network engines (R299, R301, R302). -/
namespace Sys2Proof.Machine

namespace Dev

/-- Address of descriptor `i` of ring `r` (R299). -/
def descAt (d : Dev) (r i : Nat) : Nat := 16 * d.fg NET_RING_r_BASE_BASE r + 16 * i

/-- The descriptor after `i`. -/
def ringNext (d : Dev) (r i : Nat) : Nat := if i + 1 < d.fg NET_RING_r_CFG_SIZE r then i + 1 else 0

/-- The ring runs: engines and ring enabled, not stopped by `OWN_ERR`. -/
def ringOn (d : Dev) (r : Nat) : Bool := d.fb NET_CTRL_EN && d.fb NET_RING_r_CFG_EN r && !d.fb NET_RING_r_HEAD_OWN_ERR r

/-- Word `k` of a descriptor. -/
def descWord (d : Dev) (r i k : Nat) : Nat := leNat (d.rdN (d.descAt r i + 4 * k) 4)

/-- Write a descriptor back in one write (R299). -/
def descPut (d : Dev) (r i w0 w1 w2 w3 : Nat) : Dev :=
  d.wrN (d.descAt r i) (leBytes 4 w0 ++ leBytes 4 w1 ++ leBytes 4 w2 ++ leBytes 4 w3)

/-- How the descriptors of a frame are found. -/
inductive Chain where
  /-- the indexes, and the one after them -/
  | full (l : List Nat) (next : Nat)
  /-- the ring ends at `TAIL` first -/
  | short
  /-- a descriptor with `OWN` at 0 -/
  | notOwned
  /-- more than eight descriptors: those eight, and the one after them -/
  | long (l : List Nat) (next : Nat)
  deriving DecidableEq, Repr

/-- Empty receive buffers for `need` bytes, from descriptor `i`, at most `fuel` of them (R299, R301). -/
def rxChain (d : Dev) (r : Nat) : Nat → Nat → Nat → List Nat → Chain
  | 0, i, _, l => .long l i
  | fuel + 1, i, need, l =>
    if i = d.fg NET_RING_r_TAIL_TAIL r then .short
    else
      let w := d.descWord r i 0
      if w < 2 ^ 31 then .notOwned
      else if need ≤ w % 65536 then .full (l ++ [i]) (d.ringNext r i)
      else rxChain d r fuel (d.ringNext r i) (need - w % 65536) (l ++ [i])

/-- Store a frame into receive buffers and write their descriptors back (R301). `flags` holds bits 28 to 16 of word 0. -/
def rxStore (d : Dev) (r flags w2 w3 : Nat) : Bool → List Byte → List Nat → Dev
  | _, _, [] => d
  | first, bytes, i :: t =>
    let cap := d.descWord r i 0 % 65536
    let a := d.descWord r i 1
    let part := bytes.take cap
    let bad := !(List.range part.length).all fun k => d.ramAt (a + k)
    let w0 := b2n first * 2 ^ 30 + b2n t.isEmpty * 2 ^ 29 + flags + b2n bad * 2 ^ 24 + part.length
    rxStore ((d.wrN a part).descPut r i w0 a w2 w3) r flags w2 w3 false (bytes.drop cap) t

/-- A frame that finds no buffer is dropped (R302). -/
def rxDrop (d : Dev) (r : Nat) : Dev := (d.fcnt NET_RING_r_CNT_DROP_CNT NET_RING_r_CNT_CNT_OVF r).raise 90 r

/-- Deliver a frame to receive ring `r` (R299, R301, R302): `flags` the descriptor's bits 28 to 16, `w2` and `w3` its last
words. -/
def ringDeliver (d : Dev) (r flags w2 w3 : Nat) (bytes : List Byte) : Dev :=
  if !d.ringOn r then d.rxDrop r
  else match d.rxChain r 8 (d.fg NET_RING_r_HEAD_HEAD r) bytes.length [] with
    | .full l next => ((d.rxStore r flags w2 w3 true bytes l).fs NET_RING_r_HEAD_HEAD next r).finc NET_RING_r_CNT_FRAMES r
    | .notOwned => (d.fs NET_RING_r_HEAD_OWN_ERR 1 r).rxDrop r
    | _ => d.rxDrop r

end Dev
end Sys2Proof.Machine
end

