-- ==== Sys2Proof/Machine/Neriq.lean ====
section
/-! DEFINITION. The Neriq Link (R309 to R316). -/
namespace Sys2Proof.Machine

namespace Dev

/-- Lane `l` changes beyond its registers. -/
def updNLane (d : Dev) (l : Nat) (f : NLane → NLane) : Dev :=
  { d with nql := { d.nql with lane := vset d.nql.lane l (f (vget d.nql.lane l)) } }

/-- Lane `l` is enabled. -/
def laneEn (d : Dev) (l : Nat) : Bool := d.fb NQL_CTRL_EN && (if l = 0 then d.fb NQL_CTRL_L0_EN else d.fb NQL_CTRL_L1_EN)

/-- Some lane is `UP`. -/
def linkUp (d : Dev) : Bool := d.laneUp 0 || d.laneUp 1

/-- Every present node is reached in both directions (`NQL_STAT.RING_CLOSED`). -/
def showRing (d : Dev) : Dev :=
  let m := d.fg NQL_STAT_NODES
  d.fs NQL_STAT_RING_CLOSED (b2n (m != 0 && (bitsOf 16 m).all fun n => (vget d.nql.node n).lanes == 3))

/-- What lane `l` hands to the peer. -/
def sendSet (d : Dev) (l kind a b : Nat) : Dev := { d with tx := d.tx ++ [.ordered l kind a b] }

/-- The next `PING` of lane `l` (R314). -/
def sendPing (d : Dev) (l : Nat) : Dev :=
  let n := ((vget d.nql.lane l).ping + 1) % 256
  (d.updNLane l fun x => { x with ping := n }).sendSet l 1 n 0

/-- Sixteen of them (R313). -/
def sendPings (d : Dev) (l : Nat) : Dev := (List.range 16).foldl (fun d _ => d.sendPing l) d

/-- A frame's layout (R310): destination, type, class, sequence, payload. -/
def nqlFrame (d : Dev) (dst type cls : Nat) (payload : List Byte) : List Byte :=
  let h := leBytes 1 type ++ leBytes 1 dst ++ leBytes 1 (d.fg NQL_CTRL_NODE) ++ leBytes 1 (16 * cls + 15) ++ leBytes 2 payload.length ++
    leBytes 2 d.nql.seq ++ payload
  h ++ leBytes 4 (crc32c h)

/-- The next frame of this source leaves on the lanes of a list. -/
def frameOn (d : Dev) (lanes : List Nat) (dst type cls : Nat) (payload : List Byte) : Dev :=
  { d with tx := d.tx ++ lanes.map fun l => .nql l (d.nqlFrame dst type cls payload)
           nql := { d.nql with seq := (d.nql.seq + 1) % 65536 } }

/-- The lanes a frame takes of those that are `UP` (R312): a broadcast both, a unicast the one with fewer hops to its node, as the
node's last `CAP` on each lane shows them; lane 0 where they are equal (log entry 74). -/
def lanesTo (d : Dev) (dst : Nat) : List Nat :=
  let up := (List.range 2).filter d.laneUp
  if dst = 0xFF ∨ up.length < 2 then up
  else if vget (vget d.nql.node dst).hops 0 < vget (vget d.nql.node dst).hops 1 then [1] else [0]

/-- The next frame of this source, on the lanes it takes (R312). -/
def frameOut (d : Dev) (dst type cls : Nat) (payload : List Byte) : Dev := d.frameOn (d.lanesTo dst) dst type cls payload

/-- The feature bit a frame type needs (R311, R313). -/
def featBit (type : Nat) : Option Nat :=
  match type with
  | 0x10 => some 1 | 0x12 => some 2 | 0x11 => some 3 | 0x20 => some 4 | 0x21 => some 4 | 0x30 => some 5 | 0x40 => some 6
  | _ => none

/-- Send a frame where a lane is `UP`; a unicast frame only to a node that declares the feature (R312, R313). -/
def nqlTx (d : Dev) (dst type cls : Nat) (payload : List Byte) : Dev :=
  let takes := dst == 0xFF || (match featBit type with
    | none => true
    | some b => (vget d.nql.node dst).feat.testBit b)
  if d.linkUp && takes then d.frameOut dst type cls payload else d

/-- The `CAP` payload (R313). -/
def capPayload (d : Dev) : List Byte :=
  [1, 1] ++ leBytes 2 0x0960 ++ leBytes 1 (d.fg SYS_ID_STEP) ++ leBytes 1 (d.fg NQL_CTRL_NODE) ++ leBytes 2 0xFF ++
    leBytes 2 512 ++ leBytes 6 0

/-- Lane `l` enters a state (R313). Below `DELAY` no measured delay stands; a lane that is not `UP` reaches no node. -/
def laneGo (d : Dev) (l st : Nat) : Dev :=
  let d := d.fs NQL_LANE_l_STAT_STATE st l
  let d := if st < 3 then (d.fs NQL_LANE_l_DLY_VALID 0 l).updNLane l fun x => { x with dly := [], ovfRun := 0 } else d
  let d := if st = 5 then d
    else
      let node := vmap (fun x => { x with lanes := clrBit x.lanes l, hops := vset x.hops l 0 }) d.nql.node
      ({ d with nql := { d.nql with node := node } } : Dev).showRing
  match st with
  | 2 => (d.fcnt NQL_LANE_l_STAT_TRAIN_CNT NQL_LANE_l_STAT_CNT_OVF l).sendSet l 0 (d.fg NQL_CTRL_NODE) l
  | 3 => d.sendPings l
  | 4 => d.frameOn [l] 0xFF 0x01 2 d.capPayload
  | _ => d

/-- An `UP` lane is lost (R313, R314). -/
def laneLost (d : Dev) (l : Nat) : Dev := (d.laneGo l 1).raise 98 l

/-- A node is heard on lane `l` by its `CAP`, with `hops` left (R312, R313). -/
def nodeHeard (d : Dev) (l src hops feat : Nat) : Dev :=
  let x := vget d.nql.node src
  let y : NNode := { capAt := d.clk.ticks, feat := feat, lanes := setBit x.lanes l, hops := vset x.hops l hops }
  let d := { d with nql := { d.nql with node := vset d.nql.node src y } }
  (d.fsBit NQL_STAT_NODES src true).showRing

/-- The frame (source, sequence) has not been seen among the last 64 (R312); it is remembered. -/
def frameNew (d : Dev) (src seq : Nat) : Bool × Dev :=
  if d.nql.seen.contains (src, seq) then (false, d)
  else (true, { d with nql := { d.nql with seen := ((src, seq) :: d.nql.seen).take 64 } })

/-! ### Registers -/

/-- `NODE` changes only while `EN` is 0. -/
def stateNQL (d : Dev) (b _n w : Nat) : Bool :=
  b == 0x20110000 && d.fb NQL_CTRL_EN && NQL_CTRL_NODE.of w != d.fg NQL_CTRL_NODE

/-- What a W1C clear does besides clearing. -/
def clearedNQL (d : Dev) (b n lo : Nat) : Dev :=
  if b = 0x20110010 ∧ lo = 27 then
    ((d.fs NQL_LANE_l_STAT_CODE_CNT 0 n).fs NQL_LANE_l_STAT_CRC_CNT 0 n).fs NQL_LANE_l_STAT_TRAIN_CNT 0 n
  else d

/-- Enabled lanes leave `DOWN`, disabled ones enter it (R313). -/
def afterNQL (d : Dev) (b : Nat) : Dev :=
  if b = 0x20110000 then
    [0, 1].foldl (fun d l =>
      if d.laneEn l then (if d.fg NQL_LANE_l_STAT_STATE l = 0 then d.laneGo l 1 else d)
      else if d.fg NQL_LANE_l_STAT_STATE l ≠ 0 then (d.laneGo l 0).fs NQL_LANE_l_STAT_NOSIG 0 l else d) d
  else d

end Dev

/-! ### Lane events (R313, R314) -/

/-- 64 consecutive valid `IDLE`. -/
def laneSyncDev (l : Nat) (d : Dev) : Dev :=
  if d.fg NQL_LANE_l_STAT_STATE l = 1 then (d.laneGo l 2).fs NQL_LANE_l_STAT_NOSIG 0 l else d

def execLaneSyncAchieved (l : Fin 2) (s : State) : Host.Outcome State Fault Refusal := s.runIf (laneSyncDev l)

/-- 10 ms without signal. -/
def laneNosigDev (l : Nat) (d : Dev) : Dev :=
  if d.fg NQL_LANE_l_STAT_STATE l = 1 then d.fs NQL_LANE_l_STAT_NOSIG 1 l else d

def execLaneNosigTimeout (l : Fin 2) (s : State) : Host.Outcome State Fault Refusal := s.runIf (laneNosigDev l)

/-- 16 `TS` received and sent since: `DELAY`, or a conflict of node numbers. -/
def laneTrainedDev (l peer : Nat) (d : Dev) : Dev :=
  if d.fg NQL_LANE_l_STAT_STATE l ≠ 2 then d
  else if peer = d.fg NQL_CTRL_NODE then (d.fs NQL_STAT_CONFLICT 1).raise 99 l
  else (d.fs NQL_LANE_l_DLY_PEER peer l).laneGo l 3

def execLaneTrained (l : Fin 2) (peer : Fin 16) (s : State) : Host.Outcome State Fault Refusal :=
  s.runIf (laneTrainedDev l peer)

/-- A `PING` is answered (R314): `residual` the time from its arrival to the start of the `ECHO`. -/
def pingReceivedDev (l num residual : Nat) (d : Dev) : Dev :=
  if 2 ≤ d.fg NQL_LANE_l_STAT_STATE l then d.sendSet l 2 num residual else d

def execPingReceived (l : Fin 2) (num : Byte) (residual : BitVec 16) (s : State) : Host.Outcome State Fault Refusal :=
  s.runIf (pingReceivedDev l num.toNat residual.toNat)

/-- An `ECHO` arrives (R313, R314): residual and round trip in 1/64 tick. -/
def echoReceivedDev (l residual rt : Nat) (d : Dev) : Dev :=
  let st := d.fg NQL_LANE_l_STAT_STATE l
  if st < 3 ∨ 5 < st then d
  else
    let v := (rt - residual) / 2
    let x := vget d.nql.lane l
    if 2 ^ 26 ≤ v then
      let d := d.fs NQL_LANE_l_DLY_DLY_OVF 1 l
      if st = 5 ∧ 16 ≤ x.ovfRun + 1 then d.laneLost l
      else
        let d := d.updNLane l fun x => { x with ovfRun := if st = 5 then x.ovfRun + 1 else 0 }
        if st = 3 then d.sendPing l else d
    else
      let list := (v :: x.dly).take 16
      let d := (d.fs NQL_LANE_l_DLY_DLY_OVF 0 l).updNLane l fun x => { x with dly := list, ovfRun := 0 }
      let d := d.fs NQL_LANE_l_DLY_DLY (list.sum / list.length) l
      if list.length < 16 then d
      else
        let d := d.fs NQL_LANE_l_DLY_VALID 1 l
        if st ≠ 3 then d
        else if list.foldl max 0 - list.foldl min v ≤ 64 then d.laneGo l 4
        else d.sendPing l

def execEchoReceived (l : Fin 2) (_num : Byte) (residual : BitVec 16) (roundTrip : Nat) (s : State) :
    Host.Outcome State Fault Refusal :=
  s.runIf (echoReceivedDev l residual.toNat roundTrip)

/-- Every 1 ms in `UP`. -/
def execPingTimer (l : Fin 2) (s : State) : Host.Outcome State Fault Refusal :=
  s.runIf fun d => if d.laneUp l then d.sendPing l else d

/-- A `CAP` arrives on lane `l`. -/
def capReceivedDev (l src hops : Nat) (p : List Byte) (d : Dev) : Dev :=
  if src = d.fg NQL_CTRL_NODE ∨ p.length ≠ 16 then d
  else if d.fg NQL_LANE_l_STAT_STATE l = 5 then d.nodeHeard l src hops (leAt p 6 2)
  else if d.fg NQL_LANE_l_STAT_STATE l = 4 ∧ src = d.fg NQL_LANE_l_DLY_PEER l then
    if byteAt p 1 ≤ min 1 (byteAt p 0) ∧ 1 ≤ min 1 (byteAt p 0) then
      ((d.laneGo l 5).raise 97 l).nodeHeard l src hops (leAt p 6 2)
    else d.raise 99 l
  else d

def execCapFrameReceived (l : Fin 2) (src : NqlFrom) (payload : List Byte) (s : State) : Host.Outcome State Fault Refusal :=
  s.runIf (capReceivedDev l src.node src.hops payload)

/-- Every 1 s while a lane is `UP`. -/
def execCapBroadcastTimer (s : State) : Host.Outcome State Fault Refusal :=
  s.runIf fun d => if d.linkUp then d.frameOut 0xFF 0x01 2 d.capPayload else d

/-- No `CAP` of a node for 3 s. -/
def nodeTimeoutDev (n : Nat) (d : Dev) : Dev :=
  if d.fbit NQL_STAT_NODES n && decide ((vget d.nql.node n).capAt + 3000 * Dev.msTicks ≤ d.clk.ticks) then
    let d := { d with nql := { d.nql with node := vset d.nql.node n {} } }
    (d.fsBit NQL_STAT_NODES n false).showRing
  else d

def execNodePresenceTimeout (n : Fin 16) (s : State) : Host.Outcome State Fault Refusal := s.run (nodeTimeoutDev n)

/-- 16 code errors within 1 ms, or alignment lost. -/
def execLaneErrorBurst (l : Fin 2) (s : State) : Host.Outcome State Fault Refusal :=
  s.runIf fun d => if d.laneUp l then d.laneLost l else d

/-- A frame with a bad CRC or a code error is discarded and counted (R310). -/
def nqlFrameBadDev (l : Nat) (code : Bool) (d : Dev) : Dev :=
  if d.laneUp l then
    (if code then d.fcnt NQL_LANE_l_STAT_CODE_CNT NQL_LANE_l_STAT_CNT_OVF l
     else d.fcnt NQL_LANE_l_STAT_CRC_CNT NQL_LANE_l_STAT_CNT_OVF l)
  else d

def execNqlFrameBad (l : Fin 2) (code : Bool) (s : State) : Host.Outcome State Fault Refusal := s.runIf (nqlFrameBadDev l code)

/-! ### Frames (R310 to R312) -/

/-- Frame types of R311. -/
def typeKnown (t : Nat) : Bool := [0x01, 0x10, 0x11, 0x12, 0x20, 0x21, 0x30, 0x40].contains t

/-- A frame's layout is sound (R310). -/
def nqlFrameOk (f : List Byte) : Bool :=
  decide (12 ≤ f.length) && decide (leAt f 4 2 + 12 = f.length) &&
  decide (leAt f (f.length - 4) 4 = crc32c (f.take (f.length - 4)))

/-- A frame that goes on, on the other lane, with one hop less and its CRC anew. -/
def rehop (f : List Byte) : List Byte :=
  let g := f.take 3 ++ leBytes 1 (byteAt f 3 - 1) ++ (f.take (f.length - 4)).drop 4
  g ++ leBytes 4 (crc32c g)

/-- A frame arrives on lane `l` and goes on (R312). -/
def nqlForwardDev (l : Nat) (f : List Byte) (d : Dev) : Dev :=
  if !d.laneUp l then d
  else if !nqlFrameOk f then nqlFrameBadDev l false d
  else if byteAt f 2 = d.fg NQL_CTRL_NODE ∨ byteAt f 1 = d.fg NQL_CTRL_NODE ∨ byteAt f 3 % 16 ≤ 1 then d
  else
    let d := if typeKnown (byteAt f 0) then d else d.fsat NQL_STAT_UNK_CNT
    if d.laneUp (1 - l) then { d with tx := d.tx ++ [.fwd (1 - l) (byteAt f 3 % 16 - 1) (rehop f)] } else d

def execNqlFrameForward (l : Fin 2) (frame : List Byte) (s : State) : Host.Outcome State Fault Refusal :=
  s.runIf (nqlForwardDev l frame)

/-- A `DATA` frame is delivered to `RX_RING` with class 0xFE (R301, R311). -/
def nqlDataDev (l src seq : Nat) (p : List Byte) (d : Dev) : Dev :=
  if !d.laneUp l || src == d.fg NQL_CTRL_NODE then d
  else
    let r := d.frameNew src seq
    if r.1 then r.2.ringDeliver (r.2.fg NQL_CTRL_RX_RING) (0xFE * 65536) src 0 p else r.2

def execNqlDataFrameReceived (l : Fin 2) (src : Fin 16) (seq : BitVec 16) (payload : List Byte) (s : State) :
    Host.Outcome State Fault Refusal :=
  s.runIf (nqlDataDev l src seq.toNat payload)

/-- The oldest queued `DATA` frame leaves when a lane is free; it is part of what an idle step does. -/
def Dev.nqlDrain (d : Dev) : Dev :=
  match d.nql.dataQ with
  | [] => d
  | (dst, p) :: t =>
    if d.linkUp then ({ d with nql := { d.nql with dataQ := t } } : Dev).nqlTx dst 0x40 2 p else d

/-! ### Commands (R316) -/

def execNqlCaps (p : Path) (tag : Byte) (s : State) : Host.Outcome State Fault Refusal :=
  s.run fun d => d.runCmd 0x800 p tag (capsCmd [0x200B0008, 0x20110008])

def execNetStatus (p : Path) (tag : Byte) (s : State) : Host.Outcome State Fault Refusal :=
  s.run fun d => d.runCmd 0x801 p tag
    (capsCmd [0x200B0104, 0x200B0204, 0x200B0404, 0x20110004, 0x20110010, 0x20110020, 0x20120004])

def execNqlStatus (p : Path) (tag : Byte) (s : State) : Host.Outcome State Fault Refusal :=
  s.run fun d => d.runCmd 0x806 p tag (capsCmd [0x20110004, 0x20110010, 0x20110014, 0x20110020, 0x20110024])

/-- `NQL_SEND`. -/
def nqlSendCmd (c : Cmd) (d : Dev) : Res × Dev :=
  let dst := byteAt c.payload 0
  if c.payload.length < 2 ∨ 513 < c.payload.length ∨ (15 < dst ∧ dst ≠ 0xFF) then (.st .range, d)
  else if !d.linkUp then (.st .state, d)
  else if 16 ≤ d.nql.dataQ.length then (.st .busy, d)
  else (.st .ok, { d with nql := { d.nql with dataQ := d.nql.dataQ ++ [(dst, c.payload.drop 1)] } })

def execNqlSend (p : Path) (tag : Byte) (s : State) : Host.Outcome State Fault Refusal :=
  s.run fun d => d.runCmd 0x807 p tag nqlSendCmd

end Sys2Proof.Machine
end

