-- ==== Sys2Proof/Machine/Trig.lean ====
section
/-! DEFINITION. The trigonometry of the grid measurements (R173, R176, R191), in integers: cosines and sines in 2^-60, the transform of
one cycle of samples, sequence components. The spec gives the quantities and not their arithmetic; these round far below the
resolution of every register and data word they end in (log entry 100). -/
namespace Sys2Proof.Machine

/-- The series 1 − x²/a₁ (1 − x²/a₂ (…)) in 2^-60, over the products of successive integers `a`. -/
def trigSeries (x2 : Int) : List Nat → Int
  | [] => 2 ^ 60
  | a :: l => 2 ^ 60 - x2 * trigSeries x2 l / (2 ^ 60 * a : Nat)

/-- Cosine and sine, in 2^-60, of `p`/`q` of a turn. -/
def cosSin (p q : Nat) : Int × Int :=
  let x : Int := 7244019458077122842 * (4 * p % q : Nat) / (4 * q : Nat)
  let x2 := x * x / 2 ^ 60
  let c := trigSeries x2 ((List.range 13).map fun i => (2 * i + 1) * (2 * i + 2))
  let s := x * trigSeries x2 ((List.range 13).map fun i => (2 * i + 2) * (2 * i + 3)) / 2 ^ 60
  match 4 * p / q % 4 with
  | 0 => (c, s)
  | 1 => (-s, c)
  | 2 => (-c, -s)
  | _ => (s, -c)

/-- Samples, newest first, against a rotation by `c1`, `s1` for each step back in time, from the phasor `c`, `s` on. -/
def dftFrom (c1 s1 : Int) : Int → Int → List Int → Int × Int
  | _, _, [] => (0, 0)
  | c, s, x :: l =>
    let r := dftFrom c1 s1 ((c * c1 - s * s1) / 2 ^ 60) ((s * c1 + c * s1) / 2 ^ 60) l
    (r.1 + x * c, r.2 + x * s)

/-- The transform of the last `n` samples, newest first, at the nominal frequency: `n`/2 times the fundamental's phasor at the newest
sample, in 2^-60 of a sample's unit. -/
def dft (n : Nat) (l : List Int) : Int × Int :=
  let r := cosSin 1 n
  dftFrom r.1 r.2 (2 ^ 60) 0 l

/-- 6 × 2^60 times the positive-sequence phasor of three phasors; the negative-sequence one with the last two exchanged. -/
def seqSum (a b c : Int × Int) : Int × Int :=
  let h : Int := 1996918623117814388
  ((2 * a.1 - b.1 - c.1) * 2 ^ 60 - h * (b.2 - c.2), (2 * a.2 - b.2 - c.2) * 2 ^ 60 + h * (b.1 - c.1))

/-- The phasor turned back by an angle, in 2^-60 of its unit. -/
def turnBack (z cs : Int × Int) : Int × Int := (z.1 * cs.1 + z.2 * cs.2, z.2 * cs.1 - z.1 * cs.2)

/-- √2 × |z| × `num`/`den`, rounded to nearest and limited to 16 bits (R172). -/
def magCode (z : Int × Int) (num den : Nat) : Nat :=
  min 0xFFFF ((root (8 * (z.1 * z.1 + z.2 * z.2).toNat * num ^ 2 / den ^ 2) + 1) / 2)

end Sys2Proof.Machine
end

