-- ==== Sys2Proof/Machine/TripEvents.lean ====
section
/-! DEFINITION. The trip logic's events, registers and commands (R124 to R138). -/
namespace Sys2Proof.Machine

namespace Dev

/-- Switch named by input `n`: 0 high, 1 low, 2 whole leg. -/
def inSw (d : Dev) (n : Nat) : Nat := d.fg TRP_IN_n_CFG_SW n

/-- The active, unblanked input `n` acts on its leg (R124). -/
def inputActs (d : Dev) (n : Nat) : Dev :=
  let d := d.fsBit TRP_IN_SEEN_SEEN n true
  if d.fb TRP_IN_n_CFG_EN n then d.activate (d.fg TRP_IN_n_CFG_LEG n) n (d.inSw n) else d

/-- A source of leg `n` has gone (R133). -/
def sourceGone (d : Dev) (n : Nat) : Dev := (d.noteInactive n).releaseNow n

/-- The filtered level of input `n` takes a new value (R125). -/
def setInput (d : Dev) (n : Nat) (act : Bool) : Dev :=
  if d.fbit TRP_IN_STAT_ACT n = act then d
  else
    let d := d.fsBit TRP_IN_STAT_ACT n act
    if act then (if d.blanked n then d else d.inputActs n)
    else if d.fb TRP_IN_n_CFG_EN n then d.sourceGone (d.fg TRP_IN_n_CFG_LEG n) else d

/-! ### TRP registers -/

/-- Combinations out of range: `DESAT` with the whole leg. -/
def rangeTRP (_d : Dev) (b _n w : Nat) : Bool :=
  b == 0x20040100 && TRP_IN_n_CFG_DESAT.of w == 1 && TRP_IN_n_CFG_SW.of w == 2

/-- Some leg of a list has `EN` at 1. -/
def anyOn (d : Dev) (l : List Nat) : Bool := l.any fun n => d.fb PWM_LEG_n_CTRL_EN n

/-- Another enabled group than `k` shares a leg with a mask (R130). -/
def grpClash (d : Dev) (k mask : Nat) : Bool :=
  (List.range 4).any fun j => j != k && d.fb TRP_GRP_k_CFG_EN j && Nat.land (d.fg TRP_GRP_k_MASK_LEGS j) mask != 0

/-- Writes refused by the state (R130, R134, R138). -/
def stateTRP (d : Dev) (b n w : Nat) : Bool :=
  if b = 0x20040018 then !(d.clearLegs (TRP_CLR_LEGS.of w)).1
  else if b = 0x20040100 then
    (TRP_IN_n_CFG_EN.of w != d.fg TRP_IN_n_CFG_EN n || TRP_IN_n_CFG_POL.of w != d.fg TRP_IN_n_CFG_POL n ||
      TRP_IN_n_CFG_DESAT.of w != d.fg TRP_IN_n_CFG_DESAT n || TRP_IN_n_CFG_SW.of w != d.fg TRP_IN_n_CFG_SW n ||
      TRP_IN_n_CFG_LEG.of w != d.fg TRP_IN_n_CFG_LEG n || TRP_IN_n_CFG_FILT.of w != d.fg TRP_IN_n_CFG_FILT n) &&
    d.anyOn [d.fg TRP_IN_n_CFG_LEG n, TRP_IN_n_CFG_LEG.of w]
  else if b = 0x20040200 then
    (TRP_CMP_m_CFG_EN.of w != d.fg TRP_CMP_m_CFG_EN n || TRP_CMP_m_CFG_SIDE.of w != d.fg TRP_CMP_m_CFG_SIDE n ||
      TRP_CMP_m_CFG_LEGS.of w != d.fg TRP_CMP_m_CFG_LEGS n) &&
    d.anyOn (bitsOf 24 (d.fg TRP_CMP_m_CFG_LEGS n) ++ bitsOf 24 (TRP_CMP_m_CFG_LEGS.of w))
  else if b = 0x20040300 then
    (TRP_LEG_n_CFG_CLS.of w != d.fg TRP_LEG_n_CFG_CLS n || TRP_LEG_n_CFG_BLANK_L.of w != d.fg TRP_LEG_n_CFG_BLANK_L n ||
      TRP_LEG_n_CFG_BLANK_H.of w != d.fg TRP_LEG_n_CFG_BLANK_H n) && d.anyOn [n]
  else if b = 0x20040400 then
    (TRP_CLS_k_LIMIT.of w != d.fg TRP_CLS_k_LIMIT n || TRP_CLS_k_HOLDOFF.of w != d.fg TRP_CLS_k_HOLDOFF n ||
      TRP_CLS_k_WINDOW.of w != d.fg TRP_CLS_k_WINDOW n) &&
    d.anyOn ((List.range 24).filter fun m => d.fg TRP_LEG_n_CFG_CLS m == n)
  else if b = 0x20040480 then
    (TRP_GRP_k_MASK_LEGS.of w != d.fg TRP_GRP_k_MASK_LEGS n &&
      d.anyOn (bitsOf 24 (d.fg TRP_GRP_k_MASK_LEGS n) ++ bitsOf 24 (TRP_GRP_k_MASK_LEGS.of w))) ||
    (d.fb TRP_GRP_k_CFG_EN n && d.grpClash n (TRP_GRP_k_MASK_LEGS.of w))
  else if b = 0x20040484 then
    ((TRP_GRP_k_CFG_EN.of w != d.fg TRP_GRP_k_CFG_EN n || TRP_GRP_k_CFG_COINC.of w != d.fg TRP_GRP_k_CFG_COINC n) &&
      d.anyOn (bitsOf 24 (d.fg TRP_GRP_k_MASK_LEGS n))) ||
    (TRP_GRP_k_CFG_EN.of w == 1 && d.grpClash n (d.fg TRP_GRP_k_MASK_LEGS n))
  else false

/-- What a refused write leaves: a refused clear is recorded and raises `EV_3` (R134). -/
def refusedFxTRP (d : Dev) (b w : Nat) : Dev := if b = 0x20040018 then (d.clearLegs (TRP_CLR_LEGS.of w)).2 else d

/-- What a W1C clear does besides clearing. -/
def clearedTRP (d : Dev) (b n lo : Nat) : Dev :=
  if b = 0x20040304 ∧ lo = 15 then d.fs TRP_LEG_n_STAT_TRIP_CNT 0 n else d

/-- Input `n` has a new setup: a source newly enabled acts, one that has gone is noted. The pin keeps its level. A blanking in progress
ends where the input is no longer a `DESAT` input of the switch that started it (R127). -/
def inCfgWritten (d d0 : Dev) (n : Nat) : Dev :=
  let act := d.fbit TRP_IN_STAT_ACT n != (d.fg TRP_IN_n_CFG_POL n != d0.fg TRP_IN_n_CFG_POL n)
  let d := d.fsBit TRP_IN_STAT_ACT n act
  let keeps := d.fb TRP_IN_n_CFG_DESAT n && d.fg TRP_IN_n_CFG_LEG n == d0.fg TRP_IN_n_CFG_LEG n &&
    d.fg TRP_IN_n_CFG_SW n == d0.fg TRP_IN_n_CFG_SW n
  let ended := d.blanked n && !keeps
  let d := if ended then { d with trp := { d.trp with blank := d.trp.blank.filter (·.1 != n) } } else d
  let old := d0.fg TRP_IN_n_CFG_LEG n
  let was := d0.fb TRP_IN_n_CFG_EN n && d0.fbit TRP_IN_STAT_ACT n
  let now := d.fb TRP_IN_n_CFG_EN n && act
  let d := if was && !(now && d.fg TRP_IN_n_CFG_LEG n == old) then d.sourceGone old else d
  if now && (ended || !(was && d.fg TRP_IN_n_CFG_LEG n == old)) && !d.blanked n then d.inputActs n
  else if act && (ended || !d0.fbit TRP_IN_STAT_ACT n) && !d.blanked n then d.fsBit TRP_IN_SEEN_SEEN n true
  else d

/-- Comparator trip `m` has a new setup. -/
def cmpCfgWritten (d d0 : Dev) (m : Nat) : Dev :=
  if d.fbit SNS_CMP_STAT_OUT m then
    let on := fun (d : Dev) (n : Nat) => d.fb TRP_CMP_m_CFG_EN m && d.fbit TRP_CMP_m_CFG_LEGS n m
    let d := ((List.range 24).filter fun n => on d n && !on d0 n).foldl (fun d n => d.activate n (0x20 + m) (d.cmpSw m)) d
    ((List.range 24).filter fun n => on d0 n && !on d n).foldl sourceGone d
  else d

/-- What a write does after it is stored. -/
def afterTRP (d d0 : Dev) (b n w : Nat) : Dev :=
  if b = 0x20040018 then (d.clearLegs (TRP_CLR_LEGS.of w)).2
  else if b = 0x2004001C then d.softTrip (TRP_SWTRIP_LEGS.of w)
  else if b = 0x20040100 then d.inCfgWritten d0 n
  else if b = 0x20040200 then d.cmpCfgWritten d0 n
  else if b = 0x20040400 then
    ((List.range 24).filter fun m => d.fg TRP_LEG_n_CFG_CLS m == n).foldl (fun d m => d.updTLeg m fun x => { x with occ := [] }) d
  else d

end Dev

/-! ### Events -/

/-- The filtered level of a `TRIP_n` pin changes (R125). -/
def execTripInputFiltered (n : Fin 24) (high : Bool) (s : State) : Host.Outcome State Fault Refusal :=
  s.run fun d => d.setInput n (high != d.fb TRP_IN_n_CFG_POL n)

/-- The blanking of an input ends (R127). -/
def blankingEndDev (n : Nat) (d : Dev) : Dev :=
  if !(d.trp.blank.any fun x => x.1 == n && decide (x.2 ≤ d.clk.ticks)) then d
  else
    let d := { d with trp := { d.trp with blank := d.trp.blank.filter (·.1 != n) } }
    if d.fbit TRP_IN_STAT_ACT n then
      let leg := d.fg TRP_IN_n_CFG_LEG n
      let d := if d.fb TRP_IN_n_CFG_EN n then (d.fs TRP_LEG_n_STAT_BLANK_FLT 1 leg).raise 13 leg else d
      d.inputActs n
    else d

def execBlankingEnd (n : Fin 24) (s : State) : Host.Outcome State Fault Refusal := s.run (blankingEndDev n)

/-- The reaction of a tripped leg reaches its safe state, a dead time after it began (R128, R130). -/
def tripSafeStateDev (n : Nat) (d : Dev) : Dev :=
  match (d.tleg n).react with
  | some r => if r.until_ ≤ d.clk.ticks then d.reactEnd n else d
  | none => d

def execTripSafeState (n : Fin 24) (s : State) : Host.Outcome State Fault Refusal := s.run (tripSafeStateDev n)

/-- The hold-off of a leg whose carrier group does not run has expired (R133). -/
def execHoldoffExpiry (n : Fin 24) (s : State) : Host.Outcome State Fault Refusal := s.run fun d => d.releaseNow n

/-! ### Commands (R136) -/

def execTrpCaps (p : Path) (tag : Byte) (s : State) : Host.Outcome State Fault Refusal :=
  s.run fun d => d.runCmd 0x140 p tag (capsCmd [0x20040008])

def execTrpStatus (p : Path) (tag : Byte) (s : State) : Host.Outcome State Fault Refusal :=
  s.run fun d => d.runCmd 0x141 p tag
    (capsCmd ([0x20040004, 0x20040010, 0x20040014] ++ (List.range 24).map fun n => 0x20040304 + 8 * n))

/-- `TRP_CLEAR`. -/
def trpClearCmd (c : Cmd) (d : Dev) : Res × Dev :=
  let m := leAt c.payload 0 4
  if c.payload.length ≠ 4 ∨ 2 ^ 24 ≤ m then (.st .range, d)
  else
    let r := d.clearLegs m
    (.st (if r.1 then .ok else .state), r.2)

def execTrpClear (p : Path) (tag : Byte) (s : State) : Host.Outcome State Fault Refusal :=
  s.run fun d => d.runCmd 0x142 p tag trpClearCmd

/-- `TRP_SOFT`. -/
def trpSoftCmd (c : Cmd) (d : Dev) : Res × Dev :=
  let m := leAt c.payload 0 4
  if c.payload.length ≠ 4 ∨ 2 ^ 24 ≤ m then (.st .range, d) else (.st .ok, d.softTrip m)

def execTrpSoft (p : Path) (tag : Byte) (s : State) : Host.Outcome State Fault Refusal :=
  s.run fun d => d.runCmd 0x143 p tag trpSoftCmd

end Sys2Proof.Machine
end

