-- ==== Sys2Proof/Machine/Grid.lean ====
section
/-! DEFINITION. The grid functions (R172 to R199). -/
namespace Sys2Proof.Machine

namespace Dev

/-- GRD's hidden state changes. -/
def updGrd (d : Dev) (f : Grd → Grd) : Dev := { d with grd := f d.grd }

/-- Nominal cycle in samples: N (R173). -/
def grdN (d : Dev) : Nat := if d.fb GRD_CTRL_NOM_F then 133 else 160

/-- The device is a follower of a parallel group (R28). -/
def follower (d : Dev) : Bool := d.fg SYS_ROLE_PAR_MODE == 2

/-- The device leads a parallel group (R28). -/
def leader (d : Dev) : Bool := d.fg SYS_ROLE_PAR_MODE == 1

/-- Metering channel of quantity `q`: VA, VB, VC, IA, IB, IC, IN (R172). -/
def grdCh (d : Dev) (q : Nat) : Nat := d.fg GRD_CH_MAP / 8 ^ q % 8

/-- The grid functions run: `EN` is 1, and the device is no follower (R28, R177). -/
def grdRuns (d : Dev) : Bool := d.fb GRD_CTRL_EN && !d.follower

/-- Timebase of the newest metering sample delivered on a configured channel (R173). -/
def grdTs (d : Dev) : Nat := (List.range 7).foldl (fun t q => max t (vget d.sns.mtr (d.grdCh q)).mb.ts) 0

/-- A connected state (R178). -/
def connected (d : Dev) : Bool := decide (3 ≤ d.fg GRD_STAT_STATE) && decide (d.fg GRD_STAT_STATE ≤ 7)

/-- A running state (R178). -/
def running (d : Dev) : Bool := decide (5 ≤ d.fg GRD_STAT_STATE) && decide (d.fg GRD_STAT_STATE ≤ 7)

/-- Every leg of `GRD_LEGS` runs. -/
def gridLegsRun (d : Dev) : Bool := (bitsOf 24 (d.fg GRD_LEGS_LEGS)).all d.legRuns

/-- `RC_PEND` follows its condition (R183). -/
def showPend (d : Dev) : Dev :=
  let st := d.fg GRD_STAT_STATE
  d.fs GRD_STAT_RC_PEND (b2n (d.fb GRD_CTRL_EN && (st == 1 || st == 2) && !d.fb GRD_STAT_LOCKOUT &&
    (d.fb GRD_CTRL_RC_AUTO || d.grd.rcAsked)))

/-- GRD enters a state; outside the two open states no window counts as met. -/
def grdGo (d : Dev) (st : Nat) : Dev :=
  let d := d.grdState st
  let d := if st = 1 ∨ st = 2 then d else d.fs GRD_STAT_RC_MET 0
  d.showPend

/-- An occurrence of the grid-disconnection class (R184). -/
def grdCount (d : Dev) : Dev :=
  let h := d.classHit 6 d.grd.occ
  let d := d.updGrd fun x => { x with occ := h.1 }
  if h.2 && !d.fb GRD_STAT_LOCKOUT then ((d.fs GRD_STAT_LOCKOUT 1).raise 57).showPend else d

/-! ### Publication (R176, R177) -/

/-- Flags of word 11. -/
def pubFlags (d : Dev) : Nat :=
  b2n (d.fb GRD_STAT_TRK_LOCK) + 2 * b2n d.grd.deg + 4 * b2n (d.fb GRD_ISL_STAT_SUSPECT) + 8 * b2n (d.fg GRD_STAT_STATE == 7)

/-- The sixteen words (R176). -/
def pubWords (d : Dev) : List (BitVec 32) :=
  [mkW (d.fg GRD_STAT_STATE) 23] ++ (d.grd.meas ++ List.replicate 6 zeroW).take 6 ++
  [Q.toW ⟨d.grd.demand, 2 ^ 26⟩, Q.toW ⟨d.grd.ceil, 2 ^ 46⟩, Q.toW ⟨d.grd.probe, 2 ^ 14⟩,
   mkW (d.grd.k % 2 ^ 23) 23, mkW (d.pubFlags) 23] ++ List.replicate 4 0

/-- Write sixteen words to the publication area, as one step. -/
def pubWrite (d : Dev) (l : List (BitVec 32)) : Dev :=
  if d.fb GRD_PUB_EN then
    (List.range 16).foldl (fun d i => d.coopPut 2 (d.fg GRD_PUB_BASE + i) (l.getD i 0)) d
  else d

/-- Publish; a leader sends the publication to its followers, with a trip demand (R177). -/
def publish (d : Dev) (trip : Bool) : Dev :=
  let l := d.pubWords
  let d := d.pubWrite l
  if d.leader then
    d.nqlTx 0xFF 0x10 0 (leBytes 4 d.grd.k ++ leBytes 1 (d.fg GRD_STAT_STATE) ++ leBytes 1 (b2n trip) ++ leBytes 2 0 ++
      l.flatMap fun w => leBytes 4 w.toNat)
  else d

/-! ### Disconnection and the contactors (R179, R180, R183) -/

/-- The contactors are verified open while GRD disconnects (R180). -/
def openDone (d : Dev) : Dev :=
  if d.fg GRD_STAT_STATE = 8 ∧ d.grd.rep = 1 then
    (d.updGrd fun x => { x with demOpen := false }).grdGo (if d.grd.islSet then 2 else 1)
  else d

/-- The decision to disconnect (R179) as far as state 8, which is published next: `plain` asks for no lighting island, `count`
counts an occurrence (R184). -/
def disconnect (d : Dev) (plain count : Bool) : Dev :=
  if !d.connected then d
  else
    let island := d.fb GRD_CTRL_LI_EN && !plain
    let d := d.updGrd fun x => { x with islSet := island, demClose := false, demOpen := x.rep != 1, demAt := d.clk.ticks, rcAsked := false }
    let d := d.grdGo 8
    let d := d.softTrip (d.fg GRD_LEGS_LEGS)
    let d := if island then d.grdMasks true else d.softTrip (d.fg GRD_DCLEGS_LEGS)
    if count then d.grdCount else d

/-- A close that the supervisor refuses or does not report in time (R183). -/
def closeFail (d : Dev) : Dev :=
  if d.fg GRD_STAT_STATE ≠ 3 then d
  else
    let d := d.updGrd fun x => { x with demClose := false }
    let d := ((d.fs GRD_STAT_CONTACT_FAIL 1).raise 56).grdCount
    (d.updGrd fun x => { x with unmetAt := d.clk.ticks }).grdGo d.grd.retState

/-- GRD demands the contactors closed (R183). -/
def closeStart (d : Dev) : Dev :=
  let st := d.fg GRD_STAT_STATE
  let d := d.updGrd fun x => { x with demClose := true, demOpen := false, demAt := d.clk.ticks, retState := st }
  d.grdGo 3

/-- The reconnection delay has passed with the windows met, from the later of the verified-open report and the last sample at which
they were not met (R183). -/
def reconnectDue (d : Dev) : Bool :=
  d.fb GRD_STAT_RC_PEND && d.fb GRD_STAT_RC_MET && d.grd.rep == 1 &&
    decide (max d.grd.openAt d.grd.unmetAt + d.fg GRD_RC_T_RC_DELAY * 1000 * msTicks ≤ d.clk.ticks)

/-! ### The work on one sample (R173 to R195) -/

/-- Measurement is declared lost (R175): the windows count as not met. -/
def measLost (d : Dev) : Dev :=
  if d.fb GRD_STAT_MEAS_LOST then d
  else
    let d := ((d.fs GRD_STAT_MEAS_LOST 1).raise 58).fs GRD_STAT_RC_MET 0
    (d.updGrd fun x => { x with unmetAt := d.clk.ticks, goodRun := 0 }).disconnect false true

/-- A fraction of non-negative value, rounded to nearest and limited to 16 bits. -/
def code16 (n d : Nat) : Nat := if d = 0 then 0xFFFF else min 0xFFFF ((2 * n + d) / (2 * d))

/-- What the transforms and the monitor tracker give at one sample (R173): phase and sequence magnitudes and the largest phase
current in uQ2.14 pu, `FREQ` in µHz, the tracker's angle with its cosine and sine in 2^-60, whether its angle error lies within 5
degrees. -/
structure GridMeas where
  ma : Nat
  mb : Nat
  mc : Nat
  vpos : Nat
  vneg : Nat
  imax : Nat
  uhz : Nat
  ang : Nat
  cs : Int × Int
  angOk : Bool
  deriving DecidableEq, Repr

/-- The last `n` samples of quantity `q`, newest first (R173). -/
def gridWin (d : Dev) (n q : Nat) : List Int :=
  let c := d.grdCh q
  let h := (vget d.sns.mtr c).hist.take n
  h ++ (List.range (n - h.length)).map fun i => sval 32 (Config.noSample c (h.length + i)).toNat

/-- The angle error of the tracker lies within ±5° (R173): a phasor turned back by the tracker's angle; tan 5° in 10^-10. -/
def angleOk (z : Int × Int) : Bool := decide (0 < z.1) && decide (z.2.natAbs * 10 ^ 10 ≤ z.1.natAbs * 874886635)

/-- The sliding transforms and the monitor tracker at a sample (R172, R173). The mean of fewer than `N` tracker frequencies is a free
value. -/
def gridMeas (d : Dev) : GridMeas × Dev :=
  let n := d.grdN
  let sv := 10 * d.fg GRD_SCALE_V_SCALE
  let dv := n * d.fg GRD_NOM_VNOM * 2 ^ 93
  let si := 10 * d.fg GRD_SCALE_I_SCALE
  let di := n * d.fg GRD_NOM_IRATED * 2 ^ 93
  let a := dft n (d.gridWin n 0)
  let b := dft n (d.gridWin n 1)
  let c := dft n (d.gridWin n 2)
  let pos := seqSum a b c
  let t := Config.tracker (d.fg GRD_TRK_BW) n d.grd.trk pos.1 pos.2
  let cs := cosSin t.2.2.toNat (2 ^ 32)
  let hz := (t.2.1 :: d.grd.trkHz).take n
  let fr := if hz.length = n then ((roundDiv hz.sum n).toNat, d) else d.fresh
  ({ ma := magCode a sv dv, mb := magCode b sv dv, mc := magCode c sv dv, vpos := magCode pos sv (6 * 2 ^ 60 * dv),
     vneg := magCode (seqSum a c b) sv (6 * 2 ^ 60 * dv),
     imax := ((List.range 3).map fun q => magCode (dft n (d.gridWin n (q + 3))) si di).foldl max 0,
     uhz := fr.1, ang := t.2.2.toNat, cs := cs, angOk := angleOk (turnBack pos cs) },
   fr.2.updGrd fun x => { x with trk := t.1, trkHz := hz })

/-- `ROCOF` in mHz/s where the history reaches back far enough (R173): from frequencies in µHz, over `ROC_WIN` × `N` samples. -/
def rocofOf (d : Dev) (now : Nat) : Option Int :=
  let w := d.fg GRD_TRK_ROC_WIN * d.grdN
  match d.grd.freqs[w - 1]? with
  | none => none
  | some f => some (clampI (-32767) 32767 (roundDiv (((now : Int) - f) * 8) w))

/-- The measured registers take the sample's values (R173). Before the history reaches back over `ROC_WIN` the rate of
change is a free value. -/
def grdMeasure (d : Dev) (m : GridMeas) : Dev :=
  let mags := [m.ma, m.mb, m.mc]
  let lo := mags.foldl min 0xFFFF
  let hi := mags.foldl max 0
  let un := if m.vpos * 20 < 16384 then 0xFFFF else code16 (m.vneg * 16384) m.vpos
  let fcode := (min 65535 ((m.uhz + 500) / 1000 - 10000))
  let r := match d.rocofOf m.uhz with
    | some r => (r, d)
    | none => (clampI (-32767) 32767 (sval 16 d.fresh.1), d.fresh.2)
  let d := r.2
  let d := (((d.fs GRD_MEAS_V_VMIN lo).fs GRD_MEAS_V_VMAX hi).fs GRD_MEAS_SEQ_VPOS m.vpos).fs GRD_MEAS_SEQ_VNEG m.vneg
  let d := (((d.fs GRD_MEAS_F_FREQ fcode).fsS GRD_MEAS_F_ROCOF r.1).fs GRD_MEAS_ANG_ANG m.ang).fs GRD_MEAS_UNB_UNBAL un
  let ts := d.grdTs
  let words := [Q.toW ⟨m.cs.1, 2 ^ 60⟩, Q.toW ⟨m.cs.2, 2 ^ 60⟩, Q.toW ⟨m.uhz, 10 ^ 6⟩, Q.toW ⟨m.vpos, 2 ^ 14⟩,
    Q.toW ⟨m.vneg, 2 ^ 14⟩, Q.toW ⟨r.1, 1000⟩]
  let deg := (List.range 7).any fun q => (vget d.sns.mtr (d.grdCh q)).mb.ts == ts && d.fb SNS_MTR_n_HI_DEGRADED (d.grdCh q)
  let f := fun (x : Grd) => { x with
    k := ts / 100000, ts := ts, deg := deg, meas := words,
    freqs := (m.uhz :: x.freqs).take 8001, v3sum := x.v3sum + hi, v3n := x.v3n + 1,
    trkRun := if m.angOk then x.trkRun + 1 else 0 }
  (d.finc GRD_MEAS_CNT_SEQ).updGrd f

/-- Lock, and the loss and return of measurement (R173, R175). A sample is good where every configured channel has delivered it, no
voltage channel carries `OVL` and the tracker is locked. -/
def grdHealth (d : Dev) (m : GridMeas) : Dev :=
  let n := d.grdN
  let lock := decide (40000000 ≤ m.uhz) && decide (m.uhz ≤ 70000000) && decide (2 * n ≤ d.grd.trkRun)
  let d := d.fs GRD_STAT_TRK_LOCK (b2n lock)
  let came := fun (q : Nat) => (vget d.sns.mtr (d.grdCh q)).mb.ts == d.grd.ts
  let ovl := fun (q : Nat) => d.fb SNS_MTR_n_HI_OVL (d.grdCh q)
  let runs : Vector Nat 3 := Vector.ofFn fun q =>
    if !came q.val then vget d.grd.ovlRun q.val else if ovl q.val then vget d.grd.ovlRun q.val + 1 else 0
  let un := if !lock && decide (8192 ≤ m.vpos) then d.grd.unlockRun + 1 else 0
  let good := if lock && (List.range 7).all came && !(ovl 0 || ovl 1 || ovl 2) then d.grd.goodRun + 1 else 0
  let d := d.updGrd fun x => { x with ovlRun := runs, unlockRun := un, goodRun := good }
  if runs.toList.any (fun r => decide (8 ≤ r)) || decide (2 * n ≤ un) then d.measLost
  else if decide (4 * n ≤ good) then d.fs GRD_STAT_MEAS_LOST 0
  else d

/-- The reconnection windows at a sample (R183). -/
def grdWindows (d : Dev) : Dev :=
  let st := d.fg GRD_STAT_STATE
  let met := (st == 1 || st == 2) && !d.fb GRD_STAT_MEAS_LOST && decide (d.fg GRD_RC_V_RC_VLO ≤ d.fg GRD_MEAS_V_VMIN) &&
    decide (d.fg GRD_MEAS_V_VMAX ≤ d.fg GRD_RC_V_RC_VHI) && decide (d.fg GRD_RC_F_RC_FLO ≤ d.fg GRD_MEAS_F_FREQ) &&
    decide (d.fg GRD_MEAS_F_FREQ ≤ d.fg GRD_RC_F_RC_FHI)
  (d.fs GRD_STAT_RC_MET (b2n met)).updGrd fun x => { x with unmetAt := if met then x.unmetAt else d.clk.ticks }

/-- A grid leg that runs where it must not (R182). -/
def grdBlock (d : Dev) : Dev :=
  let st := d.fg GRD_STAT_STATE
  if (st == 1 || st == 2 || st == 3 || st == 8 || st == 9) && (bitsOf 24 (d.fg GRD_LEGS_LEGS)).any d.legRuns then
    (d.softTrip (d.fg GRD_LEGS_LEGS)).raise 62
  else d

/-- The quantity a stage watches (R185). -/
def stageQty (d : Dev) (k : Nat) : Int :=
  match d.fg GRD_STG_k_CFG_QTY k with
  | 0 => d.fg GRD_MEAS_V_VMIN
  | 1 => d.fg GRD_MEAS_V_VMAX
  | 2 => d.fg GRD_MEAS_UNB_V10
  | 3 => d.fg GRD_MEAS_SEQ_VPOS
  | 4 => d.fg GRD_MEAS_UNB_UNBAL
  | 5 => d.fg GRD_MEAS_F_FREQ
  | _ => d.fgS GRD_MEAS_F_ROCOF

/-- Evaluate stage `k` (R185). -/
def stageEval (d : Dev) (k : Nat) : Dev :=
  let x := vget d.grd.stg k
  let put := fun (d : Dev) (y : Stage) =>
    (d.updGrd fun g => { g with stg := vset g.stg k y }).fsBit GRD_STG_STAT_PICKUP k y.pick.isSome
  if !d.fb GRD_STG_k_CFG_EN k then put d {}
  else
    let v := d.stageQty k
    let thr : Int := if d.fg GRD_STG_k_CFG_QTY k = 6 then d.fgS GRD_STG_k_CFG_THR k else d.fg GRD_STG_k_CFG_THR k
    let h : Int := 16 * d.fg GRD_STG_k_CFG_HYST k
    let under := d.fb GRD_STG_k_CFG_DIR k
    let ovr := if under then decide (v < thr) else decide (thr < v)
    let out := if under then decide (thr + h ≤ v) else decide (v ≤ thr - h)
    let pick := match x.pick with
      | some t => if out then none else some t
      | none => if ovr then some d.grd.ts else none
    match pick with
    | none => put d {}
    | some t =>
      let oper := x.oper || decide (t + d.fg GRD_STG_k_LIM_TIME k * msTicks ≤ d.grd.ts)
      let d := put d { pick := pick, oper := oper }
      if oper && !x.oper then (d.fsBit GRD_STG_STAT_OPER_SEEN k true).raise 49 k else d

/-- A stage with `ACT` = 0b01 operates. -/
def stageTrips (d : Dev) : Bool :=
  (List.range 16).any fun k => d.fg GRD_STG_k_CFG_ACT k == 1 && (vget d.grd.stg k).oper

/-- The stages that are evaluated at every sample, or at a 3 s update (R185). -/
def stages (d : Dev) (v10 : Bool) : Dev :=
  ((List.range 16).filter fun k => (d.fg GRD_STG_k_CFG_QTY k == 2) == v10).foldl stageEval d

/-- The region of a sample (R187): 5, 6 or 7, with the hysteresis of the region `now` (0: none). -/
def regionOf (d : Dev) (now : Nat) : Nat :=
  let lo : Int := d.fg GRD_MEAS_V_VMIN
  let hi : Int := d.fg GRD_MEAS_V_VMAX
  let f : Int := d.fg GRD_MEAS_F_FREQ
  let outV := fun (a b : Nat) (h : Nat) => decide (lo < (a : Int) + h) || decide ((b : Int) - h < hi)
  let hV := fun (r : Nat) => if now = r then d.fg GRD_RT_HYST_V_HYST else 0
  let hF : Nat := if now = 6 then d.fg GRD_RT_HYST_F_HYST else 0
  if outV (d.fg GRD_RT_MC_MC_LO) (d.fg GRD_RT_MC_MC_HI) (hV 7) then 7
  else if outV (d.fg GRD_RT_V_CONT_LO) (d.fg GRD_RT_V_CONT_HI) (hV 6) ||
    decide (f < (d.fg GRD_RT_F_CONT_FLO : Int) + hF) || decide ((d.fg GRD_RT_F_CONT_FHI : Int) - hF < f) then 6
  else 5

/-- Enter a region (R183, R187). -/
def enterRegion (d : Dev) (r : Nat) : Dev :=
  let st := d.fg GRD_STAT_STATE
  if st = r then d
  else
    let d := d.grdGo r
    let d := if r = 5 ∧ st = 4 then d.updGrd fun x => { x with ramp := some d.clk.ticks } else d
    if r = 7 then d.raise 52 else if r = 6 then d.raise 53 else d

/-- `READY` and the running states at a sample (R181, R187, R188). -/
def grdRegion (d : Dev) (m : GridMeas) : Dev :=
  let st := d.fg GRD_STAT_STATE
  if st = 4 then (if d.gridLegsRun then (d.grdMasks false).enterRegion (d.regionOf 0) else d)
  else if d.running then
    let d := d.enterRegion (d.regionOf st)
    if d.fg GRD_STAT_STATE = 7 ∧ m.imax < d.fg GRD_CEASE_CEASE_I then d.updGrd fun x => { x with ceaseAt := none } else d
  else d

/-- A passive indication in a mode (R190): suspect, or declare. -/
def passive (d : Dev) (mode : Nat) (ind : Bool) : Dev × Bool :=
  if ind && mode == 1 then
    let d := if d.fb GRD_ISL_STAT_SUSPECT then d else ((d.fs GRD_ISL_STAT_SUSPECT 1).fs GRD_ISL_STAT_SUSP_SEEN 1).raise 51
    (d.updGrd fun x => { x with suspAt := d.clk.ticks }, false)
  else (d, ind && mode == 2)

/-- The ROCOF indicator at a sample (R190). -/
def rocofStep (d : Dev) : Dev × Bool :=
  let ovr := d.running && decide ((d.fg GRD_ISL_PAS_ROC_TH : Int) < (d.fgS GRD_MEAS_F_ROCOF).natAbs)
  let since := if ovr then some (d.grd.rocSince.getD d.grd.ts) else none
  let d := d.updGrd fun x => { x with rocSince := since }
  let ind := match since with
    | none => false
    | some t => decide (t + d.fg GRD_ISL_PAS_ROC_T * msTicks ≤ d.grd.ts)
  d.passive (d.fg GRD_ISL_CFG_ROC_MODE) ind

/-- The vector shift exceeds its threshold (R190): angles in 2^-32 turns, frequencies in µHz. -/
def vectorShift (d : Dev) (ang : Nat) : Bool :=
  let n := d.grdN
  let fs := (d.grd.freqs.drop n).take (4 * n)
  match d.grd.angs[n - 1]? with
  | none => false
  | some a0 =>
    if fs.length < 4 * n then false
    else
      let one : Int := 2 ^ 32 * 10 ^ 12 * (4 * n : Nat)
      let x : Int := ((ang : Int) - a0) * (10 ^ 12 * (4 * n : Nat)) - (fs.sum * n * 125 : Nat) * 2 ^ 32
      let y := x % one
      let z := if 2 * y ≤ one then y else one - y
      decide ((d.fg GRD_ISL_VS_VS_TH : Int) * one < z * 36000)

/-- The vector shift indicator at a sample (R190). -/
def shiftStep (d : Dev) (ang : Nat) : Dev × Bool :=
  let ind := d.running && d.vectorShift ang
  let d := d.updGrd fun x => { x with angs := (ang :: x.angs).take 161 }
  d.passive (d.fg GRD_ISL_CFG_VS_MODE) ind

/-- Chips in a window: PLEN (R191). -/
def probeLen (d : Dev) : Nat := 4 * 2 ^ d.fg GRD_PROBE_CFG_PLEN

/-- Samples in a chip (R191). -/
def chipLen (d : Dev) : Nat := (d.fg GRD_PROBE_CFG_CHIP + 1) * d.grdN

/-- Chip sign s_j (R191). -/
def chipSign (d : Dev) (j : Nat) : Int := if d.fbit GRD_PROBE_CFG_PATTERN (j % d.probeLen) then 1 else -1

/-- The probe amplitude demanded (R191). -/
def probeAmp (d : Dev) : Nat := if d.fb GRD_ISL_STAT_SUSPECT then d.fg GRD_PROBE_AMP_AMP_SUSP else d.fg GRD_PROBE_AMP_AMP_IDLE

/-- The estimate over the last PLEN chips (R191): `j` the chip that has just ended. Answers whether an active indication
arises. -/
def estimate (d : Dev) (j : Nat) : Dev × Bool :=
  let p := d.probeLen
  let win := (d.grd.chips.take p).zip ((List.range p).map fun i => d.chipSign (j - i))
  if win.length < p then (d, false)
  else
    let sum := fun (f : Chip → Int) => (win.map fun w => w.2 * f w.1).sum
    let v := (sum Chip.vRe) ^ 2 + (sum Chip.vIm) ^ 2
    let i := (sum Chip.iRe) ^ 2 + (sum Chip.iIm) ^ 2
    let z := if i ≤ 0 then 0xFFFF else min 0xFFFF ((root (4 * 2 ^ 24 * v.toNat / i.toNat) + 1) / 2)
    let valid := decide (((p * d.probeAmp * 2 ^ 16 : Nat) : Int) ^ 2 ≤ 4 * i) && win.all fun w => w.1.ok
    let run := if valid && decide (d.fg GRD_PROBE_ZTH_ZTH < z) then d.grd.confRun + 1 else 0
    let d := ((d.fs GRD_PROBE_STAT_Z_EST z).finc GRD_PROBE_STAT_UPD_SEQ).fs GRD_PROBE_STAT_VALID (b2n valid)
    let d := if valid then d.fs GRD_ISL_STAT_ACT_INVALID 0 else d
    (d.updGrd fun x => { x with confRun := run, invN := if valid then 0 else x.invN }, run == d.fg GRD_PROBE_CFG_CONFIRM)

/-- The negative-sequence phasor of one sample of three quantities from `q` on, turned back by the tracker's angle `cs` (R191): 3 × 2^120
times it over a whole number of cycles, in units of a sample. -/
def negSample (d : Dev) (q : Nat) (cs : Int × Int) : Int × Int :=
  let x := fun i => ((d.gridWin 1 (q + i)).headD 0, (0 : Int))
  turnBack (seqSum (x 0) (x 2) (x 1)) cs

/-- The mean phasor of a chip of `l` samples in 2^-30 pu (R172, R191): from the sum of its samples. -/
def chipMean (z : Int × Int) (scale nom l : Nat) : Int × Int :=
  let f := fun (x : Int) => roundDiv (x * (20 * scale : Nat)) (3 * l * nom * 2 ^ 138)
  (f z.1, f z.2)

/-- The active layer at a sample (R191, R192). -/
def activeStep (d : Dev) (m : GridMeas) : Dev × Bool :=
  let st := d.fg GRD_STAT_STATE
  let ok := d.grd.chipOk && (st == 5 || st == 6)
  let n := d.grd.chipN + 1
  let legs := d.fb GRD_ISL_CFG_ACT_EN && (st == 5 || st == 6) && d.gridLegsRun && !d.fb GRD_PROBE_STAT_VALID
  let inv := if legs then d.grd.invN + 1 else if st = 7 then d.grd.invN else 0
  let v := d.negSample 0 m.cs
  let i := d.negSample 3 m.cs
  let v := (d.grd.chipV.1 + v.1, d.grd.chipV.2 + v.2)
  let i := (d.grd.chipI.1 + i.1, d.grd.chipI.2 + i.2)
  if n % d.chipLen = 0 then
    let v := chipMean v (d.fg GRD_SCALE_V_SCALE) (d.fg GRD_NOM_VNOM) d.chipLen
    let i := chipMean i (d.fg GRD_SCALE_I_SCALE) (d.fg GRD_NOM_IRATED) d.chipLen
    let chip : Chip := { vRe := v.1, vIm := v.2, iRe := i.1, iIm := i.2, ok := ok }
    let d := d.updGrd fun x => { x with
      chipN := n, chipOk := true, invN := inv, chips := (chip :: x.chips).take 16, chipV := (0, 0), chipI := (0, 0) }
    if d.fb GRD_ISL_CFG_ACT_EN then d.estimate (n / d.chipLen - 1) else (d, false)
  else (d.updGrd fun x => { x with chipN := n, chipOk := ok, invN := inv, chipV := v, chipI := i }, false)

/-- The cooperative layer at a sample (R194): an indication arises. -/
def coopStep (d : Dev) : Dev × Bool :=
  let n := ((List.range 8).filter fun i => d.fbit GRD_COOP_STAT_VALID i && d.fbit GRD_COOP_STAT_DIVERGE i).length
  let ind := d.fb GRD_ISL_CFG_COOP_EN && decide (d.fg GRD_COOP_CFG_MIN_PEERS ≤ n)
  let was := d.grd.coopInd
  (d.updGrd fun x => { x with coopInd := ind }, ind && !was)

/-- An island is declared (R195), by the layers of a mask. -/
def declare (d : Dev) (by4 : Nat) : Dev :=
  let d := ((d.fs GRD_ISL_STAT_BY by4).finc GRD_ISL_STAT_DECL_SEQ).fs GRD_ISL_STAT_DECL_SEEN 1
  (d.updGrd fun x => { x with declared := true }).raise 50

/-- Reactive demand, active ceiling and probe of a sample (R188, R189, R191). The reference before any sample in `NORMAL` is
a free value. -/
def grdDemand (d : Dev) (vpos : Nat) : Dev :=
  let st := d.fg GRD_STAT_STATE
  let d := if st = 5 then d.updGrd fun x => { x with vrefs := (vpos :: x.vrefs).take 480000 } else d
  let imax := d.fg GRD_DRC_LIM_IMAX
  let lim : Int := d.fg GRD_DRC_LIM_IQ_MAX * 2 ^ 12
  let r : Int × Dev :=
    if st = 6 ∧ d.fb GRD_CTRL_DRC_EN then
      let l := d.grd.vrefs
      let fr := d.fresh
      let vr : Nat × Dev := if l = [] then (fr.1 % 2 ^ 16 * 2 ^ 16, fr.2) else (l.sum * 2 ^ 16 / l.length, d)
      let dv : Int := (vr.1 : Int) - vpos * 2 ^ 16
      let db : Int := d.fg GRD_DRC_DB * 2 ^ 16
      let x := if db < dv then dv - db else if dv < -db then dv + db else 0
      (clampI (-lim) lim (roundDiv (x * d.fg GRD_DRC_K) (2 ^ 16)), vr.2)
    else (0, d)
  let dem := r.1
  let d := r.2
  let sq : Int := (((imax * 2 ^ 12 : Nat) : Int) ^ 2 - dem ^ 2) * 2 ^ 40
  let ceil := if st = 5 ∨ st = 6 then root sq.toNat else 0
  let probe : Int := if d.fb GRD_ISL_CFG_ACT_EN ∧ (st = 5 ∨ st = 6) then d.chipSign (d.grd.chipN / d.chipLen) * d.probeAmp else 0
  d.updGrd fun x => { x with demand := dem, ceil := ceil, probe := probe }

/-- The islanding layers at a sample, and what the sample decides (R190 to R196). -/
def grdDecide (d : Dev) (m : GridMeas) : Dev :=
  let r := d.rocofStep
  let v := r.1.shiftStep m.ang
  let a := v.1.activeStep m
  let c := a.1.coopStep
  let mask := b2n r.2 + 2 * b2n v.2 + 4 * b2n a.2 + 8 * b2n c.2
  let d := c.1
  let isl := d.running && mask != 0
  let d := if isl then d.declare mask else d
  if isl || d.stageTrips then d.disconnect false true else d

/-- Everything GRD does on one sample. -/
def grdSample (d : Dev) : Dev :=
  let was := d.connected
  let r := d.gridMeas
  let m := r.1
  let d := ((r.2.grdMeasure m).grdHealth m).grdWindows.grdBlock
  let d := ((d.stages false).grdRegion m).grdDecide m
  let d := d.grdDemand m.vpos
  (d.publish (was && !d.connected)).openDone

/-- The publication of a disconnect decided between samples (R176, R179): of state 8, with the trip demand. -/
def publishTrip (d : Dev) : Dev := ((d.grdDemand 0).publish true).openDone

/-! ### The functions start and stop (R177, R178, R199) -/

/-- The grid functions start, in the state that the contactor report gives (R178); with neither report, which `EN` is refused with,
they wait in `OFF` for one. -/
def grdStart (d : Dev) : Dev :=
  let g := d.grd
  let fresh : Grd := {
    k := g.k, ts := g.ts, deg := g.deg, rep := g.rep, openAt := g.openAt, occ := g.occ, coopSeq := g.coopSeq,
    trk := g.trk, pubAt := g.pubAt, leadState := g.leadState, v3At := d.clk.ticks, unmetAt := d.clk.ticks }
  let d := ({ d with grd := fresh } : Dev).fs GRD_STG_STAT_PICKUP 0
  let d := ((d.fs GRD_STAT_MEAS_LOST 0).fs GRD_COOP_STAT_VALID 0).fs GRD_COOP_STAT_DIVERGE 0
  let d := ((d.fs GRD_ISL_STAT_SUSPECT 0).fs GRD_ISL_STAT_ACT_INVALID 0).fs GRD_PROBE_STAT_VALID 0
  if g.rep = 0 then d else d.grdGo (if g.rep = 2 then 4 else if d.fb GRD_CTRL_LI_EN then 2 else 1)

/-- The grid functions stop (R199). -/
def grdStop (d : Dev) : Dev := (d.updGrd fun x => { x with demOpen := false, demClose := false, rcAsked := false }).grdGo 0

/-- `SYS_ROLE` has been written (R28, R177): only a leader's or a standalone device's functions run; a follower waits for publications
from then on. -/
def grdRole (d d0 : Dev) : Dev :=
  let d := if d.follower && !d0.follower then d.updGrd fun x => { x with pubAt := d.clk.ticks, pubLost := false } else d
  if d.grdRuns && !d0.grdRuns then d.grdStart else if d0.grdRuns && !d.grdRuns then d.grdStop else d

/-- The safety supervisor's report of the grid contactors changes (R256): 0 neither way, 1 verified open, 2 verified
closed. -/
def grdReport (d : Dev) (r : Nat) : Dev :=
  let d := d.updGrd fun x => { x with rep := r, openAt := if r = 1 then d.clk.ticks else x.openAt }
  if !d.grdRuns then d
  else if d.fg GRD_STAT_STATE = 0 then (if r = 0 then d else d.grdStart)
  else if r = 1 then d.openDone
  else if r = 2 ∧ d.fg GRD_STAT_STATE = 3 then
    let d := d.updGrd fun x => { x with rcAsked := false, declared := false }
    (d.grdGo 4).raise 54
  else d

/-- The supervisor opens the contactors on its own (R179): not counted. -/
def grdOpened (d : Dev) : Dev := if d.connected then (d.disconnect false false).publishTrip else d

/-! ### Registers (R191, R192, R199) -/

/-- The active bound in ms (R192). -/
def bound (plen confirm chip n : Nat) : Nat := ((plen + confirm) * chip * n * 250 + 675 + 1999) / 2000

/-- Combinations out of range. -/
def rangeGRD (d : Dev) (b _n w : Nat) : Bool :=
  if b = 0x20060000 then
    decide (2000 < bound d.probeLen (d.fg GRD_PROBE_CFG_CONFIRM) (d.fg GRD_PROBE_CFG_CHIP + 1)
      (if GRD_CTRL_NOM_F.of w = 1 then 133 else 160))
  else if b = 0x20060024 then Nat.land (GRD_DCLEGS_LEGS.of w) (d.fg GRD_LEGS_LEGS) != 0
  else if b = 0x20060094 then decide (GRD_DRC_LIM_IMAX.of w < GRD_DRC_LIM_IQ_MAX.of w)
  else if b = 0x20060210 then
    let p := 4 * 2 ^ GRD_PROBE_CFG_PLEN.of w
    (bitsOf p (GRD_PROBE_CFG_PATTERN.of w)).length * 2 != p ||
    decide (2000 < bound p (GRD_PROBE_CFG_CONFIRM.of w) (GRD_PROBE_CFG_CHIP.of w + 1) d.grdN)
  else if b = 0x20060264 then GRD_PEER_n_CFG_PATH.of w == 0 && decide (15 < GRD_PEER_n_CFG_LINK.of w)
  else false

/-- Writes refused by the state (R178, R199). -/
def stateGRD (d : Dev) (b _n w : Nat) : Bool :=
  if b = 0x20060000 then
    if d.fb GRD_CTRL_EN then
      GRD_CTRL_NOM_F.of w != d.fg GRD_CTRL_NOM_F || (GRD_CTRL_EN.of w == 0 && decide (3 ≤ d.fg GRD_STAT_STATE))
    else GRD_CTRL_EN.of w == 1 &&
      (d.grd.rep == 0 || (List.range 7).any (fun q => !d.fbit SNS_MTR_CTRL_EN (d.grdCh q)) ||
       !d.fb GRD_NOM_IRATED || !d.fb GRD_NOM_VNOM || !d.fb GRD_SCALE_V_SCALE || !d.fb GRD_SCALE_I_SCALE)
  else false

/-- Registers that may change only while `EN` is 0 (R199). -/
def lockedGRD (d : Dev) (b : Nat) : Bool :=
  d.fb GRD_CTRL_EN &&
    [0x20060010, 0x20060014, 0x20060018, 0x2006001C, 0x20060020, 0x20060024, 0x20060028, 0x2006002C, 0x20060210, 0x20060240,
     0x20060248, 0x20060260, 0x20060264, 0x20060310].contains b

/-- What a write does after it is stored. -/
def afterGRD (d d0 : Dev) (b _n _w : Nat) : Dev :=
  if b = 0x20060210 then
    d.fs GRD_ISL_BOUND_BOUND (bound d.probeLen (d.fg GRD_PROBE_CFG_CONFIRM) (d.fg GRD_PROBE_CFG_CHIP + 1) d.grdN)
  else if b = 0x20060000 then
    let d := d.fs GRD_ISL_BOUND_BOUND (bound d.probeLen (d.fg GRD_PROBE_CFG_CONFIRM) (d.fg GRD_PROBE_CFG_CHIP + 1) d.grdN)
    if d.grdRuns && !d0.grdRuns then d.grdStart
    else if d0.grdRuns && !d.grdRuns then d.grdStop
    else d.showPend
  else d

end Dev

/-! ### Events -/

/-- GRD works on sample `k`, the one last delivered (R174). -/
def gridSampleDev (k : Nat) (d : Dev) : Dev :=
  if !d.grdRuns || d.grdTs != 100000 * k || decide (d.grdTs ≤ d.grd.ts) then d else d.grdSample

/-- A configured channel delivers no sample for 375 µs (R175). -/
def measTimeoutDev (d : Dev) : Dev :=
  if d.grdRuns && (List.range 7).any (fun q => decide ((vget d.sns.mtr (d.grdCh q)).mb.ts + 550000 ≤ d.clk.ticks)) &&
     !d.fb GRD_STAT_MEAS_LOST then
    if d.connected then d.measLost.publishTrip else d.measLost
  else d

/-- The end of a 3 s interval (R173, R185). -/
def v10UpdateDev (d : Dev) : Dev :=
  if !d.grdRuns || d.grd.v3n == 0 || decide (d.grd.ts + 100000 < d.grd.v3At + 3000 * Dev.msTicks) then d
  else
    let l := (d.grd.v3sum * 256 / d.grd.v3n :: d.grd.v10).take 200
    let at2 := d.grd.v3At + 3000 * Dev.msTicks
    let d := d.updGrd fun x => { x with v10 := l, v3sum := 0, v3n := 0, v3At := at2 }
    let d := (d.fs GRD_MEAS_UNB_V10 (Dev.code16 l.sum (256 * l.length))).stages true
    if d.stageTrips && d.connected then (d.disconnect false true).publishTrip else d

/-- The current has not fallen below `CEASE_I` within `CEASE_T` (R188). -/
def ceaseTimeoutDev (d : Dev) : Dev :=
  match d.grd.ceaseAt with
  | none => d
  | some t =>
    if d.fg GRD_STAT_STATE = 7 ∧ t + d.fg GRD_CEASE_CEASE_T * Dev.msTicks ≤ d.clk.ticks then
      (((d.fs GRD_STAT_CEASE_FAIL 1).raise 59).disconnect false true).publishTrip
    else d

/-- `SUSP_HOLD` s after the latest indication (R190). -/
def suspectExpiryDev (d : Dev) : Dev :=
  if d.grd.suspAt + d.fg GRD_ISL_CFG_SUSP_HOLD * 1000 * Dev.msTicks ≤ d.clk.ticks then d.fs GRD_ISL_STAT_SUSPECT 0 else d

def execSuspectHoldExpiry (s : State) : Host.Outcome State Fault Refusal := s.run suspectExpiryDev

/-- The estimate has stayed invalid longer than the bound (R192). -/
def actInvalidDev (d : Dev) : Dev :=
  if d.grdRuns && !d.fb GRD_ISL_STAT_ACT_INVALID && decide (8 * d.fg GRD_ISL_BOUND_BOUND < d.grd.invN) then
    let d := (d.fs GRD_ISL_STAT_ACT_INVALID 1).raise 60
    if d.fb GRD_CTRL_ACT_INV_DISC && d.connected then (d.disconnect false true).publishTrip else d
  else d

/-- No verified-open report within `OPEN_TMO` (R180). -/
def openTimeoutDev (d : Dev) : Dev :=
  if d.fg GRD_STAT_STATE = 8 ∧ d.grd.rep ≠ 1 ∧ d.grd.demAt + d.fg GRD_CONTACT_OPEN_TMO * Dev.msTicks ≤ d.clk.ticks then
    let d := d.softTrip (d.fg GRD_DCLEGS_LEGS)
    (((d.fs GRD_STAT_CONTACT_FAIL 1).raise 56).grdGo 9).grdCount
  else d

def execContactorOpenTimeout (s : State) : Host.Outcome State Fault Refusal := s.run openTimeoutDev

/-- No verified-closed report within `CLOSE_TMO` (R183). -/
def closeTimeoutDev (d : Dev) : Dev :=
  if d.grd.demAt + d.fg GRD_CONTACT_CLOSE_TMO * Dev.msTicks ≤ d.clk.ticks then d.closeFail else d

/-- The windows have been met for `RC_DELAY` (R183). -/
def reconnectExpiryDev (d : Dev) : Dev := if d.reconnectDue then d.closeStart else d

/-- The enter-service ramp ends (R183). -/
def rampEndDev (d : Dev) : Dev :=
  match d.grd.ramp with
  | none => d
  | some t =>
    if t + d.fg GRD_RC_T_ES_RAMP * 1000 * Dev.msTicks ≤ d.clk.ticks then (d.updGrd fun x => { x with ramp := none }).raise 55
    else d

def execEnterServiceRampEnd (s : State) : Host.Outcome State Fault Refusal := s.run rampEndDev

/-- The leader's publication reaches a follower (R177). -/
def pubReceivedDev (trip : Bool) (l : List W32) (d : Dev) : Dev :=
  if !d.follower then d
  else
    let st := (l.getD 0 0).toNat / 256 % 16
    let d := (d.updGrd fun x => { x with pubAt := d.clk.ticks, pubLost := false, leadState := st }).pubWrite l
    if trip then d.softTrip (Nat.lor (d.fg GRD_LEGS_LEGS) (d.fg GRD_DCLEGS_LEGS)) else d

def execGrdPubFrameReceived (trip : Bool) (words : List W32) (s : State) : Host.Outcome State Fault Refusal :=
  s.runIf (pubReceivedDev trip words)

/-- Three sample periods without a publication (R177). -/
def pubLossDev (d : Dev) : Dev :=
  if d.follower && !d.grd.pubLost && decide (d.grd.pubAt + 300000 ≤ d.clk.ticks) then
    ((d.updGrd fun x => { x with pubLost := true }).softTrip (d.fg GRD_LEGS_LEGS)).raise 58
  else d

def execPublicationLoss (s : State) : Host.Outcome State Fault Refusal := s.run pubLossDev

/-! ### Cooperative layer (R193, R194) -/

namespace Dev

/-- θ at a PTP instant (R193): the angle extrapolated from the last sample at `FREQ`, less the nominal rotation. -/
def theta (d : Dev) (ns : Nat) : Nat :=
  let f : Int := d.fg GRD_MEAS_F_FREQ + 10000
  let nom : Int := if d.fb GRD_CTRL_NOM_F then 60 else 50
  let x : Int := (f * (d.clk.ticks - d.grd.ts : Nat) * 125 - nom * ns * 10 ^ 5) * 2 ^ 32
  uval 32 ((d.fg GRD_MEAS_ANG_ANG : Int) + roundDiv x (10 ^ 14))

/-- Present PTP time in units of 2^-28 ns. -/
def ptpUnits (d : Dev) : Nat := (d.clk.ptpSec * 10 ^ 9 + d.clk.ptpNs) * 2 ^ 28 + d.clk.ptpFrac

/-- A multiple of `PER` ms of PTP time has been reached at the present tick (R193). -/
def coopInstant (d : Dev) : Bool :=
  decide (d.ptpUnits % (d.fg GRD_COOP_CFG_PER * 10 ^ 6 * 2 ^ 28) < d.advance * d.fg CLK_PTP_INC_INC)

/-- Send a phasor record to an enabled peer (R193). -/
def coopSend (d : Dev) (l : List Byte) (n : Nat) : Dev :=
  if !d.fb GRD_PEER_n_CFG_EN n then d
  else if d.fb GRD_PEER_n_CFG_PATH n then d.sessSend (d.fg GRD_PEER_n_CFG_LINK n) 3 l
  else d.nqlTx (d.fg GRD_PEER_n_CFG_LINK n) 0x12 1 l

/-- A signed difference of angles in 2^-32 turns, reduced to half a turn. -/
def angDiff (a b : Int) : Int := sval 32 (uval 32 (a - b))

end Dev

/-- At a multiple of `PER` a record is taken and handed out (R193). -/
def coopTimerDev (d : Dev) : Dev :=
  if !d.grdRuns || !d.fb GRD_ISL_CFG_COOP_EN || !d.coopInstant then d
  else
    let per := d.fg GRD_COOP_CFG_PER * 10 ^ 6
    let total := d.ptpUnits / 2 ^ 28 / per * per
    let sec := total / 10 ^ 9
    let ns := total % 10 ^ 9
    let valid := d.fb CLK_PTP_CTRL_TIME_VALID
    let deg := d.deg || d.grd.deg
    let th := d.theta ns
    let fl := b2n valid + 2 * b2n d.running + 4 * b2n deg + 8 * b2n d.grd.declared
    let l := leBytes 1 1 ++ leBytes 1 fl ++ leBytes 2 d.grd.coopSeq ++ leBytes 4 (d.fg GRD_COOP_ID_ID) ++ leBytes 6 sec ++
      leBytes 4 ns ++ leBytes 4 th ++ leBytes 2 (d.fg GRD_MEAS_SEQ_VPOS) ++ leBytes 2 (d.fg GRD_MEAS_F_FREQ) ++
      leBytes 2 (d.fg GRD_MEAS_F_ROCOF) ++ leBytes 4 0
    let r : CoopRec := { sec := sec, ns := ns, valid := valid, deg := deg, theta := th }
    let d := d.updGrd fun x => { x with coopSeq := (x.coopSeq + 1) % 65536, localRec := (r :: x.localRec).take 32 }
    (List.range 8).foldl (fun d n => d.coopSend l n) d

def execCoopRecordTimer (s : State) : Host.Outcome State Fault Refusal := s.run coopTimerDev

/-- A valid record of peer `n` (R194): its difference from the local angle, `th`. -/
def coopValid (d : Dev) (n : Nat) (th : Int) (own : CoopRec) : Dev :=
  let p := vget d.grd.peer n
  let delta := Dev.angDiff own.theta th
  let base := p.base.getD (delta * 2 ^ 16)
  let off := Dev.angDiff delta (roundDiv base (2 ^ 16))
  let beyond := decide ((d.fg GRD_COOP_TH_ANG_TH * 2 ^ 32 : Nat) < off.natAbs * 36000)
  let run := if beyond then p.run + 1 else 0
  let div := decide (d.fg GRD_COOP_CFG_CONF ≤ run)
  let step := roundDiv (off * 2 ^ 16 * d.fg GRD_COOP_CFG_PER) (1000 * d.fg GRD_COOP_CFG_BASE_TC)
  let base2 := if div then base else sval 48 (uval 48 (base + step))
  let q : Peer := { last := d.clk.ticks, base := some base2, run := run }
  let d := d.updGrd fun x => { x with peer := vset x.peer n q }
  (d.fsBit GRD_COOP_STAT_VALID n true).fsBit GRD_COOP_STAT_DIVERGE n div

/-- A phasor record arrives (R193): checks, then the comparison. -/
def coopReceive (l : List Byte) (d : Dev) : Dev :=
  let fl := byteAt l 1
  let sec := leAt l 8 6
  let ns := leAt l 14 4
  let at2 : Int := (sec * 10 ^ 9 + ns : Nat)
  let now : Int := (d.ptpUnits / 2 ^ 28 : Nat)
  let late := decide ((2 * d.fg GRD_COOP_CFG_PER * 10 ^ 6 : Nat) < now - at2)
  match (List.range 8).find? fun n => d.fb GRD_PEER_n_CFG_EN n && d.fg GRD_PEER_n_ID_ID n == leAt l 4 4,
        d.grd.localRec.find? fun r => r.sec == sec && r.ns == ns with
  | some n, some own =>
    if d.grdRuns && d.fb GRD_ISL_CFG_COOP_EN && l.length == 32 && decide (1 ≤ byteAt l 0) &&
       fl.testBit 0 && fl.testBit 1 && !fl.testBit 2 && !fl.testBit 3 && !late && own.valid && !own.deg
    then coopValid d n (leAt l 18 4) own else d
  | _, _ => d

def execCoopRecordReceived (l : List Byte) (s : State) : Host.Outcome State Fault Refusal := s.runIf (coopReceive l)

/-- No valid record of peer `n` for 3 × `PER` (R193). -/
def coopTimeoutDev (n : Nat) (d : Dev) : Dev :=
  let p := vget d.grd.peer n
  if d.fbit GRD_COOP_STAT_VALID n && decide (p.last + 3 * d.fg GRD_COOP_CFG_PER * Dev.msTicks < d.clk.ticks) then
    let d := d.updGrd fun x => { x with peer := vset x.peer n { p with run := 0 } }
    (((d.fsBit GRD_COOP_STAT_VALID n false).fsBit GRD_COOP_STAT_DIVERGE n false).fsBit GRD_COOP_STAT_LOST_SEEN n true).raise 61 n
  else d

def execCoopPeerTimeout (n : Fin 8) (s : State) : Host.Outcome State Fault Refusal := s.run (coopTimeoutDev n)

/-! ### Commands (R197) -/

def execGrdCaps (p : Path) (tag : Byte) (s : State) : Host.Outcome State Fault Refusal :=
  s.run fun d => d.runCmd 0x400 p tag (capsCmd [0x20060008])

/-- `GRD_STATUS`: under version 3 with the island, probe, cooperative and stage words. -/
def grdStatusCmd (c : Cmd) (d : Dev) : Res × Dev :=
  if c.payload ≠ [] then (.st .range, d)
  else
    let a := d.words [0x20060004, 0x20060040, 0x20060044, 0x20060048, 0x2006004C, 0x20060050] ++ leBytes 6 d.grd.ts ++
      leBytes 1 (b2n d.grd.deg) ++ leBytes 1 0
    (.reply .ok (if c.ver = 3 then a ++ d.words [0x20060220, 0x20060224, 0x2006024C, 0x20060180] else a), d)

def execGrdStatus (p : Path) (tag : Byte) (s : State) : Host.Outcome State Fault Refusal :=
  s.run fun d => d.runCmd 0x401 p tag grdStatusCmd

/-- `GRD_RECONNECT`. -/
def grdReconnectCmd (c : Cmd) (d : Dev) : Res × Dev :=
  let x := byteAt c.payload 0
  let st := d.fg GRD_STAT_STATE
  if c.payload.length ≠ 1 ∨ 1 < x then (.st .range, d)
  else if (st ≠ 1 ∧ st ≠ 2) ∨ d.fb GRD_STAT_LOCKOUT then (.st .state, d)
  else if x = 1 then
    if d.grd.rcAsked then (.reply .ok [2], (d.updGrd fun x => { x with rcAsked := false }).showPend) else (.reply .ok [3], d)
  else
    let d := (d.updGrd fun x => { x with rcAsked := true }).showPend
    if d.reconnectDue then (.reply .ok [0], d.closeStart) else (.reply .ok [1], d)

/-- `GRD_DISCONNECT`. -/
def grdDisconnectCmd (c : Cmd) (d : Dev) : Res × Dev :=
  let x := byteAt c.payload 0
  if c.payload.length ≠ 1 ∨ 1 < x then (.st .range, d)
  else if !d.connected then (.st .state, d)
  else (.st .ok, (d.disconnect (x == 1) false).publishTrip)

/-- `GRD_CLEAR`. -/
def grdClearCmd (c : Cmd) (d : Dev) : Res × Dev :=
  let x := byteAt c.payload 0
  if c.payload.length ≠ 1 ∨ 3 < x then (.st .range, d)
  else if x.testBit 1 && d.grd.rep != 1 then (.st .state, d)
  else
    let d := if x.testBit 0 then ((d.fs GRD_STAT_LOCKOUT 0).updGrd fun g => { g with occ := [] }).showPend else d
    let d := if x.testBit 1 && d.fg GRD_STAT_STATE == 9 then
      (d.updGrd fun g => { g with demOpen := false }).grdGo 1 else d
    (.st .ok, d)

def execGrdClear (p : Path) (tag : Byte) (s : State) : Host.Outcome State Fault Refusal :=
  s.run fun d => d.runCmd 0x404 p tag grdClearCmd

end Sys2Proof.Machine
end

