-- ==== Sys2Proof/Machine/Tally.lean ====
section
/-! DEFINITION. Tallyman, the revenue meter: booking, intervals, the ledger, saves and restores, calibration and
seal (R222 to R245). -/
namespace Sys2Proof.Machine

namespace Dev

/-! ### Time, flags -/

/-- The real-time clock's count at tick `t`, not later than now (R233). -/
def rtcAt (d : Dev) (t : Nat) : Nat :=
  (d.aon.rtc * 800000000 + d.aon.frac - (d.clk.ticks - t) * 32768) / 800000000

/-- Tallyman meters: enabled, and not on a follower, where it stays idle (R28, R222). -/
def talRuns (d : Dev) : Bool := d.fb TAL_CTRL_EN && d.notFollower

/-- Flag `i` of R234 is set in the open interval, if there is one. -/
def talFlag (d : Dev) (i : Nat) : Dev := if d.talRuns then d.fsBit TAL_INT_CUR_FLAGS i true else d

/-- A sample set marks the open interval with flag `i`: the first such set of the interval is an event (R230). -/
def talMark (d : Dev) (i : Nat) : Dev :=
  let e := d.talFlag i
  if d.tal.marked then e else ({ e with tal := { e.tal with marked := true } } : Dev).raise 79

/-- The domain goes to fallback, and with it the metering clock: the open interval is degraded (R57). -/
def talFallback (d : Dev) : Dev := d.talFlag 0

/-- A PTP step marks the open interval (R231). -/
def talTimeStep (d : Dev) : Dev := d.talFlag 5

/-- `n` bytes that are free values. -/
def freshBytes : Nat → Dev → List Byte × Dev
  | 0, d => ([], d)
  | n + 1, d =>
    let f := d.fresh
    let r := freshBytes n f.2
    (BitVec.ofNat 8 f.1 :: r.1, r.2)

/-! ### Log records (R235) -/

/-- Sequence of the open interval (R233). -/
def talOpenSeq (d : Dev) : Nat := (d.fg TAL_LED_INT_SEQ + 1) % 2 ^ 32

/-- A log record is written: type, flags, clocks A, B and C, duration, and what bytes 40 to 59 hold. -/
def talLog (d : Dev) (ty fl a b c dur : Nat) (extra : Nat := 0) : Dev :=
  let seq := (d.fg TAL_LED_LOGSEQ_SEQ + 1) % 2 ^ 32
  let body := leBytes 4 seq ++ leBytes 1 ty ++ leBytes 1 fl ++ leBytes 2 0 ++ leBytes 8 a ++ leBytes 8 b ++ leBytes 8 c ++
    leBytes 4 d.talOpenSeq ++ leBytes 4 (min dur 0xFFFFFFFF) ++ leBytes 20 extra
  (d.wrMN (0x2000 + 64 * (seq % 128)) (body ++ leBytes 4 (crc32c body))).fs TAL_LED_LOGSEQ_SEQ seq

/-- A ledger write at an offset has failed twice (R236, R239). -/
def talWriteFail (d : Dev) (off : Nat) : Dev :=
  ((d.fs TAL_STAT_LEDGER_FAULT 1).raise 75).talLog 9 0 d.aon.rtc 0 0 0 off

/-! ### Saves (R233, R236) -/

/-- The bytes of a totals copy. -/
def totalsCopy (d : Dev) (seq flags : Nat) : List Byte :=
  let tot := (List.range 24).flatMap fun i =>
    let t := vget d.tal.tot i
    leBytes 8 t.val ++ leBytes 1 t.wrap ++ leBytes 3 0 ++ leBytes 4 t.res
  let body := leBytes 4 0x314C4154 ++ leBytes 4 seq ++ leBytes 6 d.tal.untilTb ++ leBytes 2 flags ++ leBytes 8 d.tal.untilRtc ++
    leBytes 4 d.talOpenSeq ++ leBytes 4 (d.fg TAL_INT_CUR_FLAGS + 2 ^ 16 * d.fg TAL_INT_CUR_MISS) ++ tot ++
    (List.range 24).flatMap fun i => leBytes 8 (vget d.tal.start i)
  body ++ leBytes 4 (crc32c body)

/-- Whether a write to the ledger that no row judges verifies, at the first or the second attempt (R236): the spec leaves it to
the memory. -/
def talVerify (d : Dev) : Bool × Dev :=
  let f := d.fresh
  (f.1.testBit 0, f.2)

/-- Both writes of the copy at an offset have failed: the effects of R236, with contents that the spec does not give. -/
def talFailed (d : Dev) (off n : Nat) : Dev :=
  let f := d.freshBytes n
  let d := (f.2.wrMN off f.1).talWriteFail off
  let h := d.classHit 8 d.tal.occ
  let d := { d with tal := { d.tal with occ := h.1 } }
  if h.2 then d.fs TAL_STAT_LEDGER_LATCH 1 else d

/-- A save with its flags; `ok` is false where both writes of the copy fail, which leaves the copy with contents that
the spec does not give (R236). -/
def talSave (d : Dev) (flags : Nat) (ok : Bool) : Dev :=
  let seq := (d.fg TAL_LED_SAVE_SEQ + 1) % 2 ^ 32
  let off := 0x1000 + 0x800 * (seq % 2)
  let d := d.fs TAL_LED_SAVE_SEQ seq
  if ok then
    let d := d.wrMN off (d.totalsCopy seq flags)
    { d with tal := { d.tal with saveBad := false } }
  else ({ d with tal := { d.tal with saveBad := true } } : Dev).talFailed off 612

/-! ### Intervals (R231, R232, R234) -/

/-- Minutes of an interval. -/
def intMinutes (d : Dev) : Nat :=
  match d.fg TAL_CTRL_INT_LEN with
  | 0 => 1 | 1 => 5 | 2 => 10 | 3 => 15 | 4 => 30 | _ => 60

/-- The oldest sequence the ring holds when `n` is the newest (R232). -/
def oldestOf (n : Nat) : Nat := if 7936 ≤ n then n - 7935 else min n 1

/-- Value `i` of the open interval: the change of total `i`, modulo 10^15. -/
def intValue (d : Dev) (i : Nat) : Nat := ((vget d.tal.tot i).val + 10 ^ 15 - vget d.tal.start i) % 10 ^ 15

/-- The totals an interval record holds, in its order (R234). -/
def recOrder : List Nat := [18, 19, 20, 21, 22, 23, 0, 6, 12, 1, 7, 13]

/-- The open interval closes: PTP seconds at its start and covered seconds as given (R234); a new one is not opened yet. -/
def talCloseAt (d : Dev) (startSec covered : Nat) : Dev :=
  let seq := d.talOpenSeq
  let d := if d.fb TAL_STAT_LEDGER_LATCH then d.fsBit TAL_INT_CUR_FLAGS 8 true else d
  let vals := recOrder.map d.intValue
  let d := if vals.any fun v => decide (0xFFFFFFFF < v) then d.fsBit TAL_INT_CUR_FLAGS 9 true else d
  let body := leBytes 6 startSec ++ leBytes 2 (d.fg TAL_INT_CUR_FLAGS) ++ leBytes 2 (min 65535 covered) ++
    leBytes 2 (d.fg TAL_INT_CUR_MISS) ++ vals.flatMap fun v => leBytes 4 (min v 0xFFFFFFFF)
  let off := 0x4000 + 64 * (seq % 7936)
  let d := (d.wrMN (off + 4) body).wrMN off (leBytes 4 seq)
  ((d.fs TAL_LED_INT_SEQ seq).fs TAL_LED_OLD_SEQ (oldestOf seq)).raise 72

/-- An interval opens; in fallback it is degraded from the start (R57). -/
def talOpen (d : Dev) (short : Bool) : Dev :=
  let d := ((d.fs TAL_INT_CUR_FLAGS (d.fg CLK_PLL_STAT_FALLBACK)).fs TAL_INT_CUR_MISS 0).fsBit TAL_INT_CUR_FLAGS 3 short
  { d with tal := { d.tal with start := Vector.ofFn fun n => d.tal.tot[n].val, startSec := d.clk.ptpSec, startTb := d.clk.ticks, strobes := 0,
                               marked := false } }

/-- The open interval closes with all that this device measured of it. -/
def talClose (d : Dev) : Dev := d.talCloseAt d.tal.startSec ((d.clk.ticks - d.tal.startTb) / 800000000)

/-- The strobe counted as number `n` of the interval is a boundary (R231). -/
def atBoundary (d : Dev) (n : Nat) : Bool :=
  if d.fb CLK_PTP_CTRL_TIME_VALID then
    let len := 60 * d.intMinutes
    decide ((d.tal.startSec / len + 1) * len ≤ d.clk.ptpSec)
  else decide (60 * d.intMinutes ≤ n)

/-- A strobe falls at this tick (R65). -/
def strobeDue (d : Dev) : Bool :=
  if d.fb CLK_PTP_CTRL_TIME_VALID then d.justCarried else decide (d.tal.startTb ≠ d.clk.ticks ∧ d.clk.lastStrobe + 800000000 ≤ d.clk.ticks)

/-- A time trigger closes the open interval (R231). Where it coincides with a boundary there is one close, flagged
`SHORT` only if the interval is short (R242). -/
def talBoundary (d : Dev) : Dev :=
  if !d.talRuns || d.tal.startTb == d.clk.ticks then d
  else
    let d := if d.strobeDue && d.atBoundary (d.tal.strobes + 1) then d else d.talFlag 3
    d.talClose.talOpen false

/-! ### Booking (R223 to R229, R241) -/

/-- Round a quotient to nearest, halves away from zero. -/
def nearestDiv (a b : Nat) : Nat := (2 * a + b) / (2 * b)

/-- Energy in 2^-32 mWh of a power in 2^-184 W over one sample (R228). -/
def energyOf (p : Int) : Nat := nearestDiv p.natAbs (28800 * 2 ^ 152)

/-- Quadrant 0 to 3 of active and reactive power (R227). -/
def quadrant (p q : Int) : Nat :=
  if 0 ≤ q then (if 0 ≤ p then 0 else 1) else if p < 0 then 2 else 3

/-- `e` units are booked to total `i` at the instant `ts`, degraded where `dg` (R229, R241). -/
def bookTo (d : Dev) (ts : Nat) (dg : Bool) (i e : Nat) : Dev :=
  let t := vget d.tal.tot i
  let sum := t.val * 2 ^ 32 + t.res + e
  let v := sum / 2 ^ 32
  let wraps := decide (10 ^ 15 ≤ v)
  let t2 : Tot := { val := v % 10 ^ 15, res := sum % 2 ^ 32, wrap := (t.wrap + v / 10 ^ 15) % 256 }
  let d := { d with tal := { d.tal with tot := vset d.tal.tot i t2 } }
  let n := if d.fb TAL_PULSE_EN && d.fg TAL_PULSE_TOT == i then v / d.fg TAL_PULSE_CONST - t.val / d.fg TAL_PULSE_CONST else 0
  let evs := List.replicate n ({ num := 77, ts := ts, deg := dg } : Evt)
  let d := { d with evt := { d.evt with inflight := d.evt.inflight ++ evs } }
  if wraps then ((d.raise 76).talFlag 10).talLog 6 0 d.aon.rtc 0 0 0 i else d

/-- Powers are booked into set `s` (R228). -/
def bookSet (d : Dev) (ts : Nat) (dg : Bool) (s : Nat) (p q : Int) : Dev :=
  (d.bookTo ts dg (6 * s + if 0 ≤ p then 0 else 1) (energyOf p)).bookTo ts dg (6 * s + 2 + quadrant p q) (energyOf q)

/-- The metering channel that carries quantity `q`: VA, VB, VC, IA, IB, IC, IN (R223). -/
def talChan (d : Dev) (q : Nat) : Nat := d.fg TAL_CH_MAP / 8 ^ q % 8

/-- A channel's value in 2^-77 V or A (R223). -/
def talValue (d : Dev) (c : Nat) (val : Int) : Int :=
  (val - d.fgS TAL_CH_n_OFS_OFS c) * d.fg TAL_CH_n_GAIN_GAIN c * d.fg TAL_CH_n_SCALE_SCALE c

/-- The eight coefficients, in 2^-40, of the fractional-delay filter for a raw `PH` (R224): the last six are free, the second
gives the delay of `PH` × 2^-16 of a sample period, the first the gain, within 0.001 % of 1. That the delay and the gain are
held at low frequency, on eight taps, is log entry 62's reading. -/
def delayTaps (ph : Nat) : List Int :=
  let free := (List.range 6).map fun j => sval 40 (Config.delayTap ph (j + 2)).toNat
  let lim : Int := 2 ^ 40 / 100000
  let gain : Int := 2 ^ 40 + clampI (-lim) lim (sval 40 (Config.delayGain ph).toNat)
  let moment := ((List.range 6).map fun (j : Nat) => (j + 2 : Int) * free.getD j 0).sum
  let c1 := Int.tdiv (sval 16 ph * gain) (2 ^ 16) - moment
  (gain - c1 - free.sum) :: c1 :: free

/-- The newest of a list of currents, delayed by a raw `PH` (R224); without a delay it is the current itself. -/
def delayed (ph : Nat) (l : List Int) : Int :=
  if ph = 0 then l.headD 0 else ((delayTaps ph).zipWith (· * ·) l).sum / 2 ^ 40

/-- The period of VA in 2^-16 sets: the distance of its last two rises through zero; a nominal cycle before there are two
(R225). -/
def vaPeriod (d : Dev) (nominal : Nat) : Nat :=
  match d.tal.rises with
  | a :: b :: _ => max 1 (a - b)
  | _ => nominal * 65536

/-- VA of set `k` joins the search for its rises through zero (R225), placed between the two sets by their values (log entry
62). -/
def vaRise (d : Dev) (k : Nat) (va : Int) : Dev :=
  let l := match d.tal.lastVa with
    | some p => if p < 0 ∧ 0 ≤ va then
        ((k - 1) * 65536 + (p.natAbs * 65536 / (p.natAbs + va.natAbs))) :: d.tal.rises.take 1 else d.tal.rises
    | none => d.tal.rises
  { d with tal := { d.tal with lastVa := some va, rises := l } }

/-- The integrator of phase `p` takes its voltage (R225). -/
def integrate (d : Dev) (p : Nat) (v : Int) : Dev :=
  let s := vget d.tal.integ p
  let shed := s * (Config.dcBlock.toNat : Nat) / 2 ^ 32
  { d with tal := { d.tal with integ := vset d.tal.integ p (s - shed + v) } }

/-- 2π in 2^-50. -/
def twoPi : Int := 7074237752028440

/-- Sets of a nominal cycle (R226). -/
def cycleSets (d : Dev) : Nat := if d.fb TAL_CTRL_NOM_F then 133 else 160

/-- The phase's one-cycle RMS current, over the squares held, lies below `I_START` (R226). -/
def creeping (d : Dev) (sq : List Nat) : Bool :=
  let l := sq.take d.cycleSets
  d.fb TAL_CREEP_I_START && decide (10000 * l.sum < d.fg TAL_CREEP_I_START ^ 2 * l.length * 2 ^ 154)

/-- The voltage of phase `p` shifted by 90°: the integrator scaled by the fundamental angular frequency, 2π over the period in
sets (R225). -/
def shifted (d : Dev) (p : Nat) : Int :=
  vget d.tal.integ p * twoPi * 2 ^ 16 / (2 ^ 50 * (d.vaPeriod d.cycleSets : Nat))

/-- Phase `p` of a set: its voltage and current give the active and the reactive power (R224 to R226). -/
def talPhase (d : Dev) (p : Nat) (v i : Int) : (Int × Int) × Dev :=
  let sq := (i.natAbs ^ 2 :: vget d.tal.sq p).take 160
  let cur := (i :: vget d.tal.cur p).take 8
  let d := ({ d with tal := { d.tal with sq := vset d.tal.sq p sq, cur := vset d.tal.cur p cur } } : Dev).integrate p v
  let j := delayed (d.fg TAL_CH_n_PH_PH (d.talChan (3 + p))) cur
  if d.creeping sq then ((0, 0), d)
  else ((v * j * d.fg TAL_PH_p_KP_KP p, d.shifted p * j * d.fg TAL_PH_p_KQ_KQ p), d)

/-- The set joins the sums of the present second (R245). -/
def talLive (d : Dev) (v i : List Int) (pq : List (Int × Int)) : Dev :=
  let sv : Vector Nat 3 := Vector.ofFn fun n => d.tal.sumV[n] + (v.getD n.val 0).natAbs ^ 2
  let si : Vector Nat 4 := Vector.ofFn fun n => d.tal.sumI[n] + (i.getD n.val 0).natAbs ^ 2
  let sp : Vector Int 3 := Vector.ofFn fun n => d.tal.sumP[n] + (pq.getD n.val (0, 0)).1
  let sq : Vector Int 3 := Vector.ofFn fun n => d.tal.sumQ[n] + (pq.getD n.val (0, 0)).2
  { d with tal := { d.tal with liveN := d.tal.liveN + 1, sumV := sv, sumI := si, sumP := sp, sumQ := sq } }

/-- Sets already booked that follow the oldest outstanding one are passed over. -/
def talSettle : Nat → Nat → List Nat → Nat × List Nat
  | 0, e, got => (e, got)
  | n + 1, e, got => if got.contains e then talSettle n (e + 1) (got.filter (· != e)) else (e, got)

/-- Set `k` is dealt with. -/
def talDone (d : Dev) (k : Nat) : Dev :=
  let got := d.tal.got ++ [k]
  let r := talSettle got.length d.tal.expect got
  { d with tal := { d.tal with expect := r.1, got := r.2 } }

/-- A complete set of samples is booked (R228, R230). -/
def talBook (d : Dev) (k : Nat) (val : Nat → Int) (dg ov : Bool) : Dev :=
  let x := fun q => d.talValue (d.talChan q) (val (d.talChan q))
  let v := [x 0, x 1, x 2]
  let i := [x 3, x 4, x 5, x 6]
  let a := (d.vaRise k (x 0)).talPhase 0 (x 0) (x 3)
  let b := a.2.talPhase 1 (x 1) (x 4)
  let c := b.2.talPhase 2 (x 2) (x 5)
  let pq := [a.1, b.1, c.1]
  let ts := 100000 * k
  let d := c.2
  let d := { d with tal := { d.tal with untilTb := (ts + 100000) % 2 ^ 48, untilRtc := d.rtcAt (ts + 100000), sets := d.tal.sets + 1 } }
  let d := (List.range 3).foldl (fun d p =>
    let z := pq.getD p (0, 0)
    let d := d.bookSet ts dg p z.1 z.2
    if d.fb TAL_CTRL_TOT_MODE then d.bookSet ts dg 3 z.1 z.2 else d) d
  let d := if d.fb TAL_CTRL_TOT_MODE then d
    else d.bookSet ts dg 3 (pq.map (·.1)).sum (pq.map (·.2)).sum
  let d := if dg then d.talMark 0 else d
  let d := if ov then d.talMark 7 else d
  (d.talLive v i pq).talDone k

/-- Set `k` is missing (R230). -/
def talMissing (d : Dev) (k : Nat) : Dev := ((d.fsat TAL_INT_CUR_MISS).talMark 1).talDone k

/-- Samples of a mapped channel that its mailbox's sequence shows as replaced since the last read (R17, R230). -/
def replaced (d : Dev) (c : Nat) : Nat :=
  match vget d.tal.seqs c with
  | some s => (d.fg SNS_MTR_n_HI_SEQ c + 255 - s) % 256
  | none => 0

/-- The sequences of the mailboxes are read with the set's samples: sets with a replaced sample are missing (R230). -/
def talRead (d : Dev) (k : Nat) (chans : List Nat) : Dev :=
  let n := (chans.map d.replaced).foldl max 0
  let d := ((List.range n).map (k - n + ·)).foldl (fun d j =>
    if decide (j < d.tal.expect) || d.tal.got.contains j || decide (k ≤ j) then d else d.talMissing j) d
  { d with tal := { d.tal with seqs := chans.foldl (fun v c => vset v c (some (d.fg SNS_MTR_n_HI_SEQ c))) d.tal.seqs } }

/-- Sample set `k` reaches Tallyman: booked where every mapped channel delivered (R230). -/
def talSet (d : Dev) (k : Nat) (l : List MtrSample) : Dev :=
  let chans := (List.range 7).map d.talChan
  let d := if d.talRuns then d.talRead k (chans.filter fun c => l.any (·.ch == c)) else d
  if !d.talRuns || decide (k < d.tal.expect) || !chans.all (fun c => l.any (·.ch == c)) then d
  else
    let m := l.filter fun s => chans.contains s.ch
    let val := fun c => match l.find? (·.ch == c) with
      | some s => s.val
      | none => 0
    d.talBook k val (m.any (·.deg)) (m.any (·.ovl))

/-! ### Live registers (R245) -/

/-- A quotient of which the spec gives no rounding: the value below it, or the next one. -/
def roundFree (d : Dev) (x : Int) : Int × Dev :=
  let f := d.fresh
  (x + (f.1 % 2 : Nat), f.2)

/-- RMS of a sum of squares (2^-154) over `n` sets, in thousandths, rounded down. -/
def rmsMilli (sum n : Nat) : Nat := root (sum * 10 ^ 6 / n) / 2 ^ 77

/-- A live register takes a value. -/
def livePut (d : Dev) (F : Fld) (n : Nat) (x : Int) : Dev :=
  let r := d.roundFree x
  r.2.fsS F r.1 n

/-- The live registers take the values of the second that ends. -/
def talShow (d : Dev) : Dev :=
  let t := d.tal
  let n := max 1 t.liveN
  let d := (List.range 3).foldl (fun d p => d.livePut TAL_VRMS_p_V p (rmsMilli (vget t.sumV p) n)) d
  let d := (List.range 4).foldl (fun d p => d.livePut TAL_IRMS_q_I p (rmsMilli (vget t.sumI p) n)) d
  let d := (List.range 3).foldl (fun d p => d.livePut TAL_P_p_P p (10 * vget t.sumP p / (n * 2 ^ 184 : Nat))) d
  let d := (List.range 3).foldl (fun d p => d.livePut TAL_Q_p_Q p (10 * vget t.sumQ p / (n * 2 ^ 184 : Nat))) d
  let d := (d.livePut TAL_FREQ_FREQ 0 (min 65534 (8000000 * 65536 / d.vaPeriod d.cycleSets : Nat))).finc TAL_FREQ_SEQ
  { d with tal := { d.tal with liveN := 0, sumV := Vector.replicate 3 0, sumI := Vector.replicate 4 0,
                               sumP := Vector.replicate 3 0, sumQ := Vector.replicate 3 0 } }

/-! ### The configuration copies (R240) -/

/-- Words of the configuration in the order of a copy. -/
def cfgRegs : List (Fld × Nat) :=
  [(TAL_CH_MAP, 0), (TAL_CREEP_I_START, 0)] ++
  ((List.range 8).flatMap fun n => [(TAL_CH_n_SCALE_SCALE, n), (TAL_CH_n_GAIN_GAIN, n), (TAL_CH_n_OFS_OFS, n), (TAL_CH_n_PH_PH, n)]) ++
  ((List.range 3).flatMap fun p => [(TAL_PH_p_KP_KP, p), (TAL_PH_p_KQ_KQ, p)]) ++
  [(TAL_CTRL_TOT_MODE, 0), (TAL_CTRL_NOM_F, 0), (TAL_CTRL_INT_LEN, 0), (TAL_SEAL_SEALED, 0), (TAL_SEAL_BREAK_CNT, 0),
   (TAL_SEAL_BREAK_OVF, 0), (TAL_LED_GAP_GAP_CNT, 0), (TAL_LED_GAP_GAP_OVF, 0)]

/-- The next configuration copy is written under the verify rule of R236: sequence, the words, CRC-32C (the layout is the
model's). -/
def cfgSave (d : Dev) : Dev :=
  let seq := (d.tal.cfgSeq + 1) % 2 ^ 32
  let body := leBytes 4 seq ++ cfgRegs.flatMap fun r => leBytes 4 (d.fg r.1 r.2)
  let bytes := body ++ leBytes 4 (crc32c body)
  let off := 0x800 * (seq % 2)
  let v := d.talVerify
  let d := { v.2 with tal := { v.2.tal with cfgSeq := seq } }
  if v.1 then d.wrMN off bytes else d.talFailed off bytes.length

/-- Bytes of a configuration copy before its CRC. -/
def cfgLen : Nat := 4 + 4 * cfgRegs.length

/-- Configuration copy `i` is valid. -/
def cfgOk (d : Dev) (i : Nat) : Bool :=
  let l := d.rdMN (0x800 * i) cfgLen
  leNat (d.rdMN (0x800 * i + cfgLen) 4) == crc32c l

/-- Sequence `a` is later than `b`, modulo 2^32 (R239). -/
def later (a b : Nat) : Bool := decide (0 < (a + 2 ^ 32 - b) % 2 ^ 32 ∧ (a + 2 ^ 32 - b) % 2 ^ 32 < 2 ^ 31)

/-- Of two copies, the valid one with the later sequence. -/
def newer (ok0 ok1 : Bool) (s0 s1 : Nat) : Option Nat :=
  match ok0, ok1 with
  | true, true => some (if later s1 s0 then 1 else 0)
  | true, false => some 0
  | false, true => some 1
  | false, false => none

/-- The sequence a configuration or totals copy holds. -/
def seqAt (d : Dev) (off : Nat) : Nat := leNat (d.rdMN off 4)

/-- The configuration is loaded from the newer valid copy (R240). -/
def cfgLoad (d : Dev) : Dev :=
  match newer (d.cfgOk 0) (d.cfgOk 1) (d.seqAt 0) (d.seqAt 0x800) with
  | none => d
  | some i =>
    let w := d.rdMN (0x800 * i + 4) (4 * cfgRegs.length)
    let d := (cfgRegs.zip (List.range cfgRegs.length)).foldl (fun d r => d.fs r.1.1 (leAt w (4 * r.2) 4) r.1.2) d
    { d with tal := { d.tal with cfgSeq := d.seqAt (0x800 * i) } }

/-! ### Restore (R238, R239, R242) -/

/-- Totals copy `i` is valid (R239). -/
def totOk (d : Dev) (i : Nat) : Bool :=
  let l := d.rdMN (0x1000 + 0x800 * i) 608
  leAt l 0 4 == 0x314C4154 && leNat (d.rdMN (0x1000 + 0x800 * i + 608) 4) == crc32c l

/-- The totals and the open interval of copy `i` are taken. -/
def totTake (d : Dev) (i : Nat) : Dev :=
  let l := d.rdMN (0x1000 + 0x800 * i) 608
  let tot : Vector Tot 24 := Vector.ofFn fun n =>
    { val := leAt l (32 + 16 * n.val) 8, wrap := leAt l (40 + 16 * n.val) 1, res := leAt l (44 + 16 * n.val) 4 }
  let start : Vector Nat 24 := Vector.ofFn fun n => leAt l (416 + 8 * n.val) 8
  let newest := (leAt l 24 4 + 2 ^ 32 - 1) % 2 ^ 32
  let d := ((d.fs TAL_LED_SAVE_SEQ (leAt l 4 4)).fs TAL_LED_INT_SEQ newest).fs TAL_LED_OLD_SEQ (oldestOf newest)
  { d with tal := { d.tal with tot := tot, start := start, untilTb := leAt l 8 6, untilRtc := leAt l 16 8 } }

/-- The newest valid log record's sequence (0 with none). -/
def logNewest (d : Dev) : Nat :=
  (List.range 128).foldl (fun s i =>
    let l := d.rdMN (0x2000 + 64 * i) 64
    if leAt l 60 4 == crc32c (l.take 60) && (s == 0 || later (leAt l 0 4) s) then leAt l 0 4 else s) 0

/-- What Tallyman's registers show when the device leaves reset (R240, R245). -/
def talLoad (d : Dev) : Dev :=
  let d := d.cfgLoad
  let d := match newer (d.totOk 0) (d.totOk 1) (d.seqAt 0x1004) (d.seqAt 0x1804) with
    | some i => d.totTake i
    | none => d
  d.fs TAL_LED_LOGSEQ_SEQ d.logNewest

/-- Both totals copies are invalid (R239). -/
def talLost (d : Dev) : Dev :=
  let d := { d with tal := { d.tal with tot := Vector.replicate 24 {}, start := Vector.replicate 24 0 } }
  if d.cfgOk 0 || d.cfgOk 1 then ((d.fs TAL_STAT_LEDGER_LATCH 1).talLog 9 0 d.aon.rtc 0 0 0 0x1000).raise 75
  else d.fs TAL_STAT_BLANK 1

/-- The gap since copy `i` is recorded (R238). -/
def talGap (d : Dev) (i : Nat) (lost : Bool) : Dev :=
  let l := d.rdMN (0x1000 + 0x800 * i) 32
  let stop := d.fg AON_STOP_LO_C + 2 ^ 32 * d.fg AON_STOP_HI_C
  let fl := (if leAt l 14 2 % 2 = 1 then 1 else 2) + if lost then 4 else 0
  let d := d.talLog 2 fl d.tal.untilRtc stop d.aon.rtc (if lost then 0xFFFFFFFF else stop - d.tal.untilRtc)
  let d := if (leAt l 14 2).testBit 1 then d
    else
      let d := ((d.fs TAL_INT_CUR_FLAGS (leAt l 28 2)).fs TAL_INT_CUR_MISS (leAt l 30 2))
      let d := (d.fsBit TAL_INT_CUR_FLAGS 2 true).fsBit TAL_INT_CUR_FLAGS 3 true
      let f := d.fresh
      let g := f.2.fresh
      g.2.talCloseAt f.1 (g.1 % 65536)
  ((d.fcnt TAL_LED_GAP_GAP_CNT TAL_LED_GAP_GAP_OVF).cfgSave).raise 74

/-- The first set to be delivered from now on. -/
def nextSet (d : Dev) : Nat :=
  match d.sns.inFlight with
  | x :: _ => x.k
  | [] => (d.clk.ticks + 99999) / 100000

/-- Metering starts with nothing measured. -/
def talFresh (d : Dev) : Dev :=
  let e := d.nextSet
  let t := { d.tal with wasOn := true, expect := e, got := [], sq := Vector.replicate 3 [], cur := Vector.replicate 3 [],
                        integ := Vector.replicate 3 0, lastVa := none, rises := [], seqs := Vector.replicate 8 none }
  let t := { t with liveN := 0, sumV := Vector.replicate 3 0, sumI := Vector.replicate 4 0, sumP := Vector.replicate 3 0, sumQ := Vector.replicate 3 0 }
  { d with tal := t }

/-- `EN` is set (R231, R238, R239, R242). -/
def talEnable (d : Dev) : Dev :=
  let first := !d.tal.wasOn
  let d := d.talFresh
  let onBoundary := d.fb CLK_PTP_CTRL_TIME_VALID && d.justCarried && d.clk.ptpSec % (60 * d.intMinutes) == 0
  match newer (d.totOk 0) (d.totOk 1) (d.seqAt 0x1004) (d.seqAt 0x1804) with
  | none => (d.talLost.talLog 8 0 d.aon.rtc 0 0 0xFFFFFFFF).talOpen !onBoundary
  | some i =>
    let d := d.totTake i
    let old := !(d.totOk (1 - i)) && later (d.seqAt (0x1004 + 0x800 * (1 - i))) (d.seqAt (0x1004 + 0x800 * i))
    let d := if old then (d.fs TAL_STAT_RESTORED_OLD 1).talLog 5 0 d.tal.untilRtc 0 0 0 else d
    let lost := !d.fb AON_STAT_STOP_VALID
    let stop := d.fg AON_STOP_LO_C + 2 ^ 32 * d.fg AON_STOP_HI_C
    if (lost && first) || (!lost && decide (d.tal.untilRtc < stop)) then (d.talGap i lost).talOpen true
    else
      let off := (leNat (d.rdMN (0x100E + 0x800 * i) 2)).testBit 1
      (d.talLog 8 0 d.aon.rtc 0 0 (if off then d.aon.rtc - d.tal.untilRtc else 0xFFFFFFFF)).talOpen !onBoundary

/-- `EN` is cleared (R242): `d0` still meters. -/
def talDisable (d0 : Dev) : Dev :=
  let v := (((d0.talFlag 3).talFlag 11).talClose.talOpen false).talVerify
  let d := v.2
  (d.talSave 2 v.1).talLog 7 0 d.tal.untilRtc 0 0 0

/-! ### TAL registers (R240) -/

/-- The written word changes a configuration field of `TAL_CTRL`. -/
def ctrlChanges (d : Dev) (w : Nat) : Bool :=
  TAL_CTRL_TOT_MODE.of w != d.fg TAL_CTRL_TOT_MODE || TAL_CTRL_NOM_F.of w != d.fg TAL_CTRL_NOM_F ||
  TAL_CTRL_INT_LEN.of w != d.fg TAL_CTRL_INT_LEN

/-- Register array `b` holds configuration that the seal protects, as does `TAL_CTRL` where its fields change. -/
def talConfig (d : Dev) (b w : Nat) : Bool :=
  b == 0x20080010 || b == 0x20080014 || (decide (0x20080100 ≤ b) && decide (b ≤ 0x20080204)) || (b == 0x20080000 && d.ctrlChanges w)

/-- Writes that the seal refuses: checked first (R240). -/
def authTAL (d : Dev) (b _n w : Nat) : Bool := d.fb TAL_SEAL_SEALED && d.talConfig b w

/-- Writes refused by the state (R222, R240). -/
def stateTAL (d : Dev) (b _n w : Nat) : Bool :=
  (d.fb TAL_CTRL_EN && ((b == 0x20080010 && TAL_CH_MAP.of w != d.fg TAL_CH_MAP) || (b == 0x20080000 && d.ctrlChanges w))) ||
  (b == 0x20080000 && TAL_CTRL_EN.of w == 1 && !d.fb TAL_CTRL_EN && d.fg SYS_ROLE_PAR_MODE == 2)

/-- A clear of `LEDGER_LATCH` is refused while the last save failed (R236). -/
def refusedTAL (d : Dev) (b lo : Nat) : Bool := b == 0x20080004 && lo == 6 && d.tal.saveBad

/-- The seal is set (R240). -/
def talSeal (d : Dev) : Dev :=
  if d.fb TAL_SEAL_SEALED then d else ((d.fs TAL_SEAL_SEALED 1).cfgSave).talLog 4 0 d.aon.rtc 0 0 0

/-- `SYS_ROLE` has been written: a device that is a follower no longer meters again, from the next set (R28). -/
def talRole (d d0 : Dev) : Dev := if d.talRuns && !d0.talRuns then d.talFresh else d

/-- What a write does after it is stored: `d0` is the device before it. -/
def afterTAL (d d0 : Dev) (b _n w : Nat) : Dev :=
  let d := if d0.talConfig b w then d.cfgSave.talFlag 6 else d
  if b = 0x20080000 then
    if d.fb TAL_CTRL_EN ∧ d0.fb TAL_CTRL_EN = false then d.talEnable
    else if d.fb TAL_CTRL_EN = false ∧ d0.fb TAL_CTRL_EN ∧ d0.talRuns then (d.fs TAL_CTRL_EN 1).talDisable.fs TAL_CTRL_EN 0
    else d
  else if b = 0x20080614 ∧ TAL_SEAL_SEAL.of w = 1 then (d.fs TAL_SEAL_SEAL 0).talSeal
  else d

end Dev

/-! ### Events -/

/-- Sample `s` is written into its mailbox (R17, R81, R82). -/
def mtrPost (d : Dev) (s : MtrSample) : Dev :=
  let n := s.ch
  let d := (((d.fsS SNS_MTR_n_LO_VAL s.val n).fs SNS_MTR_n_HI_CONV s.conv n).fs SNS_MTR_n_HI_DEGRADED (b2n s.deg) n).fs
    SNS_MTR_n_HI_OVL (b2n s.ovl) n
  let d := ((d.fs SNS_MTR_n_HI_X1_PATH (b2n s.x1) n).fs SNS_MTR_n_HI_HANDOVER (b2n s.handover) n).fs SNS_MTR_n_HI_GAIN s.gain n
  let d := (d.finc SNS_MTR_n_HI_SEQ n).updMtr n fun x =>
    { x with mb := { ts := 100000 * s.k, deg := s.deg, writes := x.mb.writes + 1 }, hist := (s.val :: x.hist).take 160 }
  d.mailbox 2 n

/-- The oldest sample set is delivered 312.5 µs after the instant it represents (R81), and Tallyman books it (R228); not where the next
set replaces a sample of a mapped channel in its mailbox before Tallyman has read it (R17, R230). -/
def deliveryDev (d : Dev) : Dev :=
  match d.sns.inFlight with
  | [] => d
  | x :: _ =>
    if d.clk.ticks < 100000 * x.k + 250000 then d
    else
      let l := d.sns.inFlight.filter (·.k == x.k)
      let d := { d with sns := { d.sns with inFlight := d.sns.inFlight.filter (·.k != x.k) } }
      let d := l.foldl mtrPost d
      if l.all fun y => y.read || !((List.range 7).map d.talChan).contains y.ch then d.talSet x.k l else d

def execMeteringSampleDelivery (s : State) : Host.Outcome State Fault Refusal := s.runTal deliveryDev

/-- The oldest outstanding set is 375 µs overdue: it is missing (R230). -/
def missingSetDev (d : Dev) : Dev :=
  if !d.talRuns || decide (d.clk.ticks < 100000 * d.tal.expect + 550000) then d
  else d.talMissing d.tal.expect

def execMissingSetTimeout (s : State) : Host.Outcome State Fault Refusal := s.run missingSetDev

/-- The one-second strobe (R65): live registers, the boundary of R231, the save of R236. -/
def strobeDev (ok : Bool) (d : Dev) : Dev :=
  let due := if d.fb CLK_PTP_CTRL_TIME_VALID then d.justCarried else decide (d.clk.lastStrobe + 800000000 ≤ d.clk.ticks)
  if !due then d
  else
    let d := { d with clk := { d.clk with lastStrobe := d.clk.ticks } }
    if !d.talRuns then d
    else
      let d := if d.fb CLK_PTP_CTRL_TIME_VALID then d else d.talFlag 4
      let fresh := d.tal.startTb == d.clk.ticks
      let d := if fresh then d else { d with tal := { d.tal with strobes := d.tal.strobes + 1 } }
      let d := d.talShow
      let d := if !fresh && d.atBoundary d.tal.strobes then d.talClose.talOpen false else d
      d.talSave 0 ok

def execOneSecondStrobe (ok : Bool) (s : State) : Host.Outcome State Fault Refusal := s.runTal (strobeDev ok)

/-- A flush: the save of R236 with flag bit 0 (R237). -/
def Dev.talFlush (d : Dev) (ok : Bool) : Dev :=
  if !d.talRuns then d
  else
    let first := !d.tal.flushed
    let d := d.talSave 1 ok
    let d := { d with tal := { d.tal with flushed := true, flushAt := d.clk.ticks } }
    if first then (d.talLog 1 0 d.tal.untilRtc d.aon.rtc 0 0).raise 73 else d

/-- `PFAIL_SENSE` falls (R237). -/
def pfailFallDev (ok : Bool) (d : Dev) : Dev :=
  if d.fb TAL_STAT_PF_ACTIVE then d
  else
    let d := { d.fs TAL_STAT_PF_ACTIVE 1 with tal := { d.tal with flushed := false, flushAt := d.clk.ticks } }
    d.talFlush ok

def execPfailFall (ok : Bool) (s : State) : Host.Outcome State Fault Refusal := s.runTal (pfailFallDev ok)

/-- Another millisecond of `PF_ACTIVE` (R237). -/
def pfFlushDev (ok : Bool) (d : Dev) : Dev :=
  if d.fb TAL_STAT_PF_ACTIVE && decide (d.tal.flushAt + Dev.msTicks ≤ d.clk.ticks) then d.talFlush ok else d

def execPfFlushTimer (ok : Bool) (s : State) : Host.Outcome State Fault Refusal := s.runTal (pfFlushDev ok)

/-- `PFAIL_SENSE` rises (R237). -/
def execPfailRise (s : State) : Host.Outcome State Fault Refusal := s.run fun d => d.fs TAL_STAT_PF_ACTIVE 0

/-- 60 s after a challenge (R243). -/
def talNonceExpiryDev (d : Dev) : Dev :=
  if d.tal.nonce.isSome && decide (d.tal.nonceAt + 60000 * Dev.msTicks ≤ d.clk.ticks) then
    { d with tal := { d.tal with nonce := none } } else d

def execTalNonceExpiry (s : State) : Host.Outcome State Fault Refusal := s.run talNonceExpiryDev

/-! ### Commands (R243) -/

def execTalCaps (p : Path) (tag : Byte) (s : State) : Host.Outcome State Fault Refusal :=
  s.run fun d => d.runCmd 0x600 p tag (capsCmd [0x20080008])

def execTalStatus (p : Path) (tag : Byte) (s : State) : Host.Outcome State Fault Refusal :=
  s.run fun d => d.runCmd 0x601 p tag
    (capsCmd ([0x20080004, 0x20080620, 0x20080600, 0x20080604, 0x20080608] ++ (List.range 48).map fun i => 0x20080400 + 4 * i))

/-- `TAL_READ_INT`. -/
def talReadIntCmd (c : Cmd) (d : Dev) : Res × Dev :=
  let n := leAt c.payload 4 2
  let old := d.fg TAL_LED_OLD_SEQ
  let off := (leAt c.payload 0 4 + 2 ^ 32 - old) % 2 ^ 32
  let held := (d.fg TAL_LED_INT_SEQ + 2 ^ 32 - old) % 2 ^ 32 + 1
  if c.payload.length ≠ 6 ∨ n = 0 ∨ 64 < n ∨ old = 0 ∨ held < off + n then (.st .range, d)
  else (.reply .ok ((List.range n).flatMap fun i => d.rdMN (0x4000 + 64 * ((leAt c.payload 0 4 + i) % 2 ^ 32 % 7936)) 64), d)

def execTalReadInt (p : Path) (tag : Byte) (s : State) : Host.Outcome State Fault Refusal :=
  s.run fun d => d.runCmd 0x602 p tag talReadIntCmd

/-- `TAL_CHALLENGE`: the nonce is a free value. -/
def talChallengeCmd (c : Cmd) (d : Dev) : Res × Dev :=
  if c.payload ≠ [] then (.st .range, d)
  else
    let f := d.freshBytes 16
    (.reply .ok f.1, { f.2 with tal := { f.2.tal with nonce := some f.1, nonceAt := d.clk.ticks } })

def execTalChallenge (p : Path) (tag : Byte) (s : State) : Host.Outcome State Fault Refusal :=
  s.run fun d => d.runCmd 0x603 p tag talChallengeCmd

/-- `TAL_UNSEAL` (R240). -/
def talUnsealCmd (c : Cmd) (d : Dev) : Res × Dev :=
  if c.payload.length ≠ 64 then (.st .range, d)
  else if !d.fb TAL_SEAL_SEALED then (.st .state, d)
  else
    match d.tal.nonce with
    | none => (.st .auth, d)
    | some n =>
      let msg := n ++ leBytes 4 (d.fg TAL_LED_SAVE_SEQ) ++ leBytes 2 (d.fg TAL_SEAL_BREAK_CNT)
      let d := { d with tal := { d.tal with nonce := none } }
      if Config.signatureOk d.sys.running.metKey msg c.payload then
        let d := ((d.fs TAL_SEAL_SEALED 0).fcnt TAL_SEAL_BREAK_CNT TAL_SEAL_BREAK_OVF).cfgSave
        (.st .ok, ((d.talLog 3 0 d.aon.rtc 0 0 0).talFlag 6).raise 78)
      else (.st .auth, d)

def execTalUnseal (p : Path) (tag : Byte) (s : State) : Host.Outcome State Fault Refusal :=
  s.runTal fun d => d.runCmd 0x604 p tag talUnsealCmd

/-- `TAL_CLEAR` (R236). -/
def talClearCmd (c : Cmd) (d : Dev) : Res × Dev :=
  if c.payload ≠ [] then (.st .range, d)
  else if d.tal.saveBad then (.st .state, d)
  else (.st .ok, d.fs TAL_STAT_LEDGER_LATCH 0)

def execTalClear (p : Path) (tag : Byte) (s : State) : Host.Outcome State Fault Refusal :=
  s.run fun d => d.runCmd 0x605 p tag talClearCmd

end Sys2Proof.Machine
end

