-- ==== Sys2Proof/Machine/Clk.lean ====
section
/-! DEFINITION. Reference monitor, PLL, timebase and PTP clock (R48 to R67). -/
namespace Sys2Proof.Machine

namespace Dev

/-! ### Acquisition (R53, R54) -/

/-- The acquisition in progress changes. -/
def setAcq (d : Dev) (a : Option Acq) : Dev := { d with clk := { d.clk with acq := a } }

/-- No band qualifies: acquisition stops (R53). -/
def acqFail (d : Dev) : Dev := (((d.setAcq none).fs CLK_PLL_STAT_ACQ 0).fs CLK_PLL_STAT_NO_BAND 1).raise 121

/-- The band's measured frequency qualifies (R53). -/
def bandOk (d : Dev) (b : Nat) : Bool := decide (3160 ≤ d.fg CLK_BAND_n_F_MEAS b) && decide (d.fg CLK_BAND_n_F_MEAS b ≤ 3240)

/-- Distance of a band from 3,200 MHz. -/
def bandOff (d : Dev) (b : Nat) : Nat := ((d.fg CLK_BAND_n_F_MEAS b : Int) - 3200).natAbs

/-- The best of a list of bands: the closest, the lowest index among equals (R53). -/
def bestBand (d : Dev) : List Nat → Option Nat
  | [] => none
  | b :: t => match bestBand d t with
    | none => some b
    | some c => if d.bandOff b ≤ d.bandOff c then some b else some c

/-- The loop closes on the best qualifying band already measured, or acquisition fails (R53, R54). -/
def acqChoose (d : Dev) (a : Acq) : Dev :=
  match d.bestBand ((List.range 32).filter fun b => a.measured.contains b && !a.disq.contains b && d.bandOk b) with
  | some b => d.setAcq (some { a with phase := .loop b })
  | none => d.acqFail

/-- Step 2 of R53 goes on with the lowest valid entry from `b` that is not excluded. -/
def acqScan (d : Dev) (a : Acq) (b : Nat) : Dev :=
  match (List.range 32).find? fun i => decide (b ≤ i) && d.fb CLK_BAND_n_VALID i && !a.disq.contains i with
  | some i => d.setAcq (some { a with phase := .scan i })
  | none => d.acqChoose a

/-- An acquisition starts with the reference good (R53). -/
def acqStart (d : Dev) (byEn : Bool) : Dev :=
  let d := d.fs CLK_PLL_STAT_ACQ 1
  let a : Acq := { byEn := byEn }
  if d.fb CLK_PLL_STAT_BAND_VALID then d.setAcq (some { a with phase := .measLast (d.fg CLK_PLL_STAT_BAND) })
  else d.acqScan a 0

/-- An acquisition starts, or waits for the reference to be good (R53, R58). Whether one that a loss of lock left waiting
starts is decided when the reference is good. -/
def acquire (d : Dev) (byEn : Bool) : Dev :=
  if d.fb CLK_REF_STAT_REF_OK then d.acqStart byEn else d.setAcq (some { byEn := byEn, phase := .waitRef })

/-! ### Fallback and loss of lock (R55 to R58, R60) -/

/-- `PWM_HOLD` is set: every leg is in its safe state, which ends the reactions in progress, and a leg whose release waited for a
carrier start is released now, since no group runs (R57, R128, R133). -/
def holdAll (d : Dev) : Dev :=
  let d := (List.range 24).foldl (fun d n => if (d.tleg n).react.isSome then d.reactEnd n else d) d.pwmHold
  (List.range 24).foldl releaseNow d

/-- The clocked edge domain goes to fallback: the hold, the clocks, the flags (R56, R60). -/
def toFallback (d : Dev) : Dev :=
  let d := if d.fb CLK_PLL_STAT_FALLBACK then d else d.sdckShift
  let d := d.holdAll.talFallback
  let d := (((d.fs CLK_PLL_STAT_FALLBACK 1).fs SNS_STAT_CLK_FALLBACK 1).fs CLK_PLL_STAT_LOCKED 0).fs CLK_PLL_STAT_ACQ 0
  let d := (d.fs CLK_TB_HI_DEGRADED 1).setAcq none
  let d := if d.clk.refPresent then d
    else (List.range 4).foldl (fun d k => d.fs SNS_SDCK_k_RUNNING 0 k) (d.fs CLK_PLL_STAT_HOLDOVER 1)
  d.auxClockStop

/-- The loss-of-lock decision (R56), and the acquisition that follows it (R58). -/
def lossOfLock (d : Dev) : Dev :=
  let d := d.toFallback
  let d := ((d.fs CLK_PLL_STAT_LOL 1).fcnt CLK_PLL_STAT_LOL_CNT CLK_PLL_STAT_LOL_OVF).raise 120
  if d.fb CLK_PLL_CTRL_EN && (d.fb CLK_PLL_CTRL_AUTO_RELOCK || !d.fb CLK_REF_STAT_REF_OK) then d.acquire false else d

/-- An acquisition past the wait for the reference runs. -/
def acquiring (d : Dev) : Bool :=
  match d.clk.acq with
  | none => false
  | some a => a.phase != .waitRef

/-- The reference monitor declares a fault (R48): once in an episode it is an event and a loss of lock. -/
def refFault (d : Dev) : Dev :=
  if d.fb CLK_REF_STAT_REF_OK then
    let d := { d.fs CLK_REF_STAT_REF_OK 0 with clk := { d.clk with episode := true } }
    let d := d.raise 122
    if d.fb CLK_PLL_STAT_LOCKED || d.acquiring then d.lossOfLock else d
  else d

/-- The reference is good (R49): an acquisition that waits for it starts; after a loss of lock only with `AUTO_RELOCK` at 1
(R58). -/
def refGood (d : Dev) : Dev :=
  if d.fb CLK_REF_STAT_REF_OK then d
  else
    let d := { d.fs CLK_REF_STAT_REF_OK 1 with clk := { d.clk with episode := false } }
    match d.clk.acq with
    | some a =>
      if a.phase ≠ .waitRef then d
      else if a.byEn || d.fb CLK_PLL_CTRL_AUTO_RELOCK then d.acqStart a.byEn
      else d.setAcq none
    | none => d

/-- Lock is declared on band `b` (R54, R58). -/
def lock (d : Dev) (b : Nat) : Dev :=
  let d := ((((d.setAcq none).fs CLK_PLL_STAT_LOCKED 1).fs CLK_PLL_STAT_ACQ 0).fs CLK_PLL_STAT_BAND b).fs CLK_PLL_STAT_BAND_VALID 1
  let d := (((d.fs CLK_PLL_STAT_FALLBACK 0).fs CLK_PLL_STAT_HOLDOVER 0).fs SNS_STAT_CLK_FALLBACK 0).fs CLK_TB_HI_DEGRADED 0
  d.sdckShift.auxResume

/-! ### Capture (R67) -/

/-- A capture of timebase and PTP time. -/
def capture (d : Dev) : Dev :=
  let d := if d.clk.snapUnread then d.fs CLK_SNAP_CTRL_OVERRUN 1 else d
  let d := (((d.finc CLK_SNAP_CTRL_SEQ).fs CLK_SNAP_TB_LO_TB d.clk.ticks).fs CLK_SNAP_TB_HI_TB (d.clk.ticks / 2 ^ 32)).fs
    CLK_SNAP_TB_HI_DEGRADED (b2n d.deg)
  let d := ((d.fs CLK_SNAP_SEC_LO_SEC d.clk.ptpSec).fs CLK_SNAP_SEC_HI_SEC (d.clk.ptpSec / 2 ^ 32)).fs CLK_SNAP_NS_NS d.clk.ptpNs
  { d with clk := { d.clk with snapUnread := true } }

/-! ### Time triggers (R68) -/

/-- PTP time has reached or passed the target of trigger `n`. -/
def ttrigDue (d : Dev) (n : Nat) : Bool :=
  let s := d.clk.ptpSec % 2 ^ 32
  let t := d.fg CLK_TTRIG_n_SEC_SEC n
  decide (t < s) || (t == s && decide (d.fg CLK_TTRIG_n_NS_NS n ≤ d.clk.ptpNs))

/-- The step of the present tick carried PTP time past the target of trigger `n` (R68). -/
def ttrigLate (d : Dev) (n : Nat) : Bool := d.clk.stepped.testBit n

/-- Trigger `n` fires (R68); `late` marks a step past its target. -/
def ttrigFire (d : Dev) (n : Nat) (late : Bool) : Dev :=
  let d := ((d.fs CLK_TTRIG_n_CTRL_ARM 0 n).fs CLK_TTRIG_n_CTRL_FIRED 1 n).raise 124 n
  let d := if late then d.fs CLK_TTRIG_n_CTRL_LATE 1 n else d
  match d.fg CLK_TTRIG_n_CTRL_TARGET n with
  | 1 =>
    if d.fb CLK_PLL_STAT_PWM_HOLD then d.fs CLK_TTRIG_n_CTRL_LATE 1 n
    else (List.range 8).foldl (fun d g =>
      if d.fb PWM_CG_g_CFG_RUN g && d.fb PWM_CG_g_CNT_WAIT g then d.cgStart g d.clk.ticks else d) d
  | 2 => d.talBoundary
  | 3 => d.capture
  | _ => d

/-- PTP time is to be stepped at the next tick (R64). -/
def ptpStep (d : Dev) (ns : Int) : Dev := { d with clk := { d.clk with ofs := some (d.clk.ofs.getD 0 + ns) } }

/-- PTP time has gone beyond the target of trigger `n` (R68). -/
def ttrigPassed (d : Dev) (n : Nat) : Bool :=
  let s := d.clk.ptpSec % 2 ^ 32
  let t := d.fg CLK_TTRIG_n_SEC_SEC n
  decide (t < s) || (t == s && decide (d.fg CLK_TTRIG_n_NS_NS n < d.clk.ptpNs))

/-- The step that waits for this tick is added to PTP time (R64). A forward step notes the armed triggers that it carries PTP
time past: they fire late at this tick (R68). -/
def ptpApply (d : Dev) : Dev :=
  match d.clk.ofs with
  | none => d
  | some ns =>
    let e := (({ d with clk := { d.clk with ofs := none } } : Dev).ptpAdd (ns * 2 ^ 28)).talTimeStep
    let l := (List.range 4).filter fun n => decide (0 < ns) && d.fb CLK_TTRIG_n_CTRL_ARM n && !d.ttrigDue n && e.ttrigPassed n
    { e with clk := { e.clk with stepped := l.foldl setBit 0 } }

/-- The captures asked by `SW` that are due at the present tick (R67): they are made after its accesses (R423). -/
def swCaptures (d : Dev) : Dev :=
  (d.clk.snapAt.filter fun t => decide (t ≤ d.clk.ticks)).foldl (fun d _ => d.capture)
    { d with clk := { d.clk with snapAt := d.clk.snapAt.filter fun t => decide (d.clk.ticks < t) } }

/-! ### CLK registers -/

/-- `UNLOCK_WIN` must exceed `LOCK_WIN`. -/
def rangeCLK (_d : Dev) (b _n w : Nat) : Bool :=
  b == 0x20010000 && decide (CLK_PLL_CTRL_UNLOCK_WIN.of w ≤ CLK_PLL_CTRL_LOCK_WIN.of w)

/-- Writes refused by the state (R52, R60). -/
def stateCLK (d : Dev) (b _n w : Nat) : Bool :=
  if b = 0x20010000 then
    d.fb CLK_PLL_CTRL_EN && (CLK_PLL_CTRL_BW.of w != d.fg CLK_PLL_CTRL_BW ||
      CLK_PLL_CTRL_LOCK_WIN.of w != d.fg CLK_PLL_CTRL_LOCK_WIN || CLK_PLL_CTRL_UNLOCK_WIN.of w != d.fg CLK_PLL_CTRL_UNLOCK_WIN ||
      (CLK_PLL_CTRL_EN.of w == 0 && (List.range 24).any fun n => d.fb PWM_LEG_n_CTRL_EN n))
  else false

/-- `PWM_HOLD` clears only when locked and not in fallback (R59). -/
def refusedCLK (d : Dev) (b lo : Nat) : Bool :=
  b == 0x20010004 && lo == 6 && (!d.fb CLK_PLL_STAT_LOCKED || d.fb CLK_PLL_STAT_FALLBACK)

/-- A refused clear of `PWM_HOLD` is recorded (R59). -/
def refusedFxCLK (d : Dev) : Dev := d.fs CLK_PLL_STAT_HOLD_CLR_REFUSED 1

/-- What a W1C clear does besides clearing. -/
def clearedCLK (d : Dev) (b lo : Nat) : Dev :=
  if b = 0x20010004 ∧ lo = 24 then d.fs CLK_PLL_STAT_LOL_CNT 0
  else if b = 0x20010004 ∧ lo = 6 then (List.range 24).foldl (fun d n => d.legDrive n) d
  else d

/-- What a write does after it is stored. -/
def afterCLK (d d0 : Dev) (b _n w : Nat) : Dev :=
  if b = 0x20010000 then
    if d.fb CLK_PLL_CTRL_EN ∧ d0.fb CLK_PLL_CTRL_EN = false then d.acquire true
    else if d.fb CLK_PLL_CTRL_EN = false ∧ d0.fb CLK_PLL_CTRL_EN then d.toFallback
    else d
  else if b = 0x20010300 then
    if d.fb CLK_PTP_CTRL_PPS_EN && d.fb CLK_PTP_CTRL_TIME_VALID then d
    else { d with clk := { d.clk with ppsHigh := false } }
  else if b = 0x20010340 then
    if CLK_SNAP_CTRL_SW.of w = 1 then { d with clk := { d.clk with snapAt := d.clk.snapAt ++ [d.clk.ticks + 1] } } else d
  else d

end Dev

/-! ### Events -/

/-- No reference edge for 25 ns to 35 ns (R48). -/
def missingEdgeDev (d : Dev) : Dev :=
  let d := { d.fs CLK_REF_STAT_REF_MISSING 1 with clk := { d.clk with refPresent := false, missFired := true } }
  let d := d.refFault
  if d.fb CLK_PLL_STAT_FALLBACK then
    (List.range 4).foldl (fun d k => d.fs SNS_SDCK_k_RUNNING 0 k) (d.fs CLK_PLL_STAT_HOLDOVER 1)
  else d

def execMissingEdgeDetect (s : State) : Host.Outcome State Fault Refusal := s.run missingEdgeDev

/-- A count over 32 crystal periods ends (R48, R49). -/
def frequencyCountDev (n : Nat) (d : Dev) : Dev :=
  if d.fb CLK_REF_STAT_XT_CHECK_OFF then d
  else
    let d := d.fs CLK_REF_STAT_REF_CNT n
    let missed := d.clk.missFired
    let d := { d with clk := { d.clk with missFired := !d.clk.refPresent } }
    if n < 97168 ∨ 98144 < n then (d.fs CLK_REF_STAT_REF_FREQ_BAD 1).refFault
    else if missed then d
    else d.refGood

def execFrequencyCount (n : BitVec 20) (s : State) : Host.Outcome State Fault Refusal := s.run (frequencyCountDev n.toNat)

/-- 1 ms without a firing while the crystal does not run (R49). -/
def refGoodTimeoutDev (d : Dev) : Dev :=
  if d.fb CLK_REF_STAT_XT_CHECK_OFF && d.clk.refPresent then d.refGood else d

def execRefGoodTimeout (s : State) : Host.Outcome State Fault Refusal := s.run refGoodTimeoutDev

/-- Reference edges arrive again: stopped converter and modulator clocks restart (R50, R69). -/
def referenceReturnDev (d : Dev) : Dev :=
  if d.clk.refPresent then d
  else
    let d := { d.fs CLK_PLL_STAT_HOLDOVER 0 with clk := { d.clk with refPresent := true } }
    let d := (List.range 4).foldl (fun d k => if d.fb SNS_SDCK_k_EN k then d.sdckStart k else d) d
    (((List.range 24).filter fun n => d.sdRuns n && d.fb SNS_SD_n_FILT_CF_EN n).foldl Dev.cfRestart d).rotTry

def execReferenceReturn (s : State) : Host.Outcome State Fault Refusal := s.run referenceReturnDev

/-- A 10 µs measurement of a band ends (R53). -/
def bandMeasureDev (mhz : Nat) (d : Dev) : Dev :=
  match d.clk.acq with
  | none => d
  | some a =>
    match a.phase with
    | .measLast b =>
      let d := d.fs CLK_BAND_n_F_MEAS mhz b
      if d.bandOk b then d.setAcq (some { a with phase := .loop b }) else d.acqScan a 0
    | .scan b => (d.fs CLK_BAND_n_F_MEAS mhz b).acqScan { a with measured := a.measured ++ [b] } (b + 1)
    | _ => d

def execBandMeasureDone (mhz : BitVec 12) (s : State) : Host.Outcome State Fault Refusal := s.run (bandMeasureDev mhz.toNat)

/-- 256 consecutive cycles within `LOCK_WIN` (R54). -/
def lockDeclaredDev (d : Dev) : Dev :=
  match d.clk.acq with
  | none => d
  | some a =>
    match a.phase with
    | .loop b => d.lock b
    | _ => d

def execLockDeclared (s : State) : Host.Outcome State Fault Refusal := s.run lockDeclaredDev

/-- 50 µs without lock (R54). -/
def lockTimeoutDev (d : Dev) : Dev :=
  match d.clk.acq with
  | none => d
  | some a =>
    match a.phase with
    | .loop b =>
      let a := { a with disq := a.disq ++ [b] }
      if a.measured = [] then d.acqScan a 0 else d.acqChoose a
    | _ => d

def execLockAttemptTimeout (s : State) : Host.Outcome State Fault Refusal := s.run lockTimeoutDev

/-- A loss of lock that is not a reference fault (R56). -/
def lossOfLockDev (d : Dev) : Dev := if d.fb CLK_PLL_STAT_LOCKED then d.lossOfLock else d

def execLossOfLock (s : State) : Host.Outcome State Fault Refusal := s.run lossOfLockDev

/-- PTP nanoseconds carry into seconds (R66). -/
def ppsRiseDev (d : Dev) : Dev :=
  if d.fb CLK_PTP_CTRL_PPS_EN && d.fb CLK_PTP_CTRL_TIME_VALID && d.justCarried then
    { d with clk := { d.clk with ppsHigh := true, ppsRise := d.ptpNow } }
  else d

def execPpsRise (s : State) : Host.Outcome State Fault Refusal := s.run ppsRiseDev

/-- `PPS_WIDTH` ms of PTP time after the rise (R66). -/
def ppsFallDev (d : Dev) : Dev :=
  if d.clk.ppsRise + d.fg CLK_PTP_CTRL_PPS_WIDTH * 10 ^ 6 * 2 ^ 28 ≤ d.ptpNow then { d with clk := { d.clk with ppsHigh := false } }
  else d

def execPpsFall (s : State) : Host.Outcome State Fault Refusal := s.run ppsFallDev

/-- An edge on `PTP_CAP` of the polarity `CAP_EDGE` names (R67). -/
def ptpCapEdgeDev (d : Dev) : Dev := if d.fb CLK_SNAP_CTRL_CAP_EN then d.capture else d

def execPtpCapEdge (s : State) : Host.Outcome State Fault Refusal := s.run ptpCapEdgeDev

/-- PTP time reaches or passes the target of an armed trigger (R68); late where a step of this tick carried it past. -/
def timeTriggerDev (n : Nat) (d : Dev) : Dev :=
  if d.fb CLK_TTRIG_n_CTRL_ARM n && d.ttrigDue n then d.ttrigFire n (d.ttrigLate n) else d

def execTimeTriggerFire (n : Fin 4) (s : State) : Host.Outcome State Fault Refusal := s.runTal (timeTriggerDev n)

end Sys2Proof.Machine
end

