-- ==== Sys2Proof/Machine/CoopDecode.lean ====
section
/-! DEFINITION. Cooper's instruction words (R144, R145, R147): the instruction a word spells, or none where the word is
illegal. -/
namespace Sys2Proof.Machine

/-- Cooper's instructions with the fields each opcode names. -/
inductive Ins where
  | mac (acc c s : Nat)
  | msu (acc c s : Nat)
  | macx (acc xa n : Nat)
  | msux (acc xa n : Nat)
  | macs (acc xa n : Nat)
  | mulx (acc xa xb : Nat)
  | addx (acc xa : Nat)
  | subx (acc xa : Nat)
  | clr (acc : Nat)
  | shx (acc k : Nat)
  | lim (acc n : Nat)
  | rnd (xa acc : Nat)
  | sta (acc k n : Nat)
  | nrm (acc k n : Nat)
  | ldx (xa n : Nat)
  | ldxc (xa n : Nat)
  | stx (xa n : Nat)
  | movx (xa xb : Nat)
  | dly (k n : Nat)
  | minx (xa xb : Nat)
  | maxx (xa xb : Nat)
  | lds (xa kind idx : Nat)
  | wsmp (k kind idx : Nat)
  | chk (xa xb n : Nat)
  | spec
  | tent (xa xb leg : Nat)
  | commit (legs : Nat)
  | cancel (legs : Nat)
  | br (cond target : Nat)
  | rpt (cnt ci si : Nat)
  | gpost (xa : Nat)
  | gsel (xa g : Nat)
  | wreq (xa n : Nat)
  | trc (xa c : Nat)
  | trig
  | evt (code : Nat)
  | nop
  | stop
  deriving DecidableEq, Repr

/-- The number of sources of a kind of `LDS` (R146). -/
def kindCount (kind : Nat) : Nat :=
  match kind with
  | 0 => 24 | 1 => 24 | 2 => 8 | 3 => 16 | 4 => 16 | _ => 0

/-- An instruction if its condition of legality holds. -/
def legalIf (b : Bool) (i : Ins) : Option Ins := if b then some i else none

/-- The instruction of a word (R144, R145). -/
def decodeCoop (w : Nat) : Option Ins :=
  let acc := w / 2 ^ 24 % 4
  let xa := w / 2 ^ 21 % 8
  let xb := w / 2 ^ 18 % 8
  let k := w / 2 ^ 12 % 64
  let c := w / 2 ^ 12 % 4096
  let n := w % 4096
  let kind := n / 256
  let idx := n % 32
  match w / 2 ^ 26 with
  | 0x01 => some (.mac acc c n)
  | 0x02 => some (.msu acc c n)
  | 0x03 => some (.macx acc xa n)
  | 0x04 => some (.msux acc xa n)
  | 0x05 => some (.macs acc xa n)
  | 0x06 => some (.mulx acc xa xb)
  | 0x07 => some (.addx acc xa)
  | 0x08 => some (.subx acc xa)
  | 0x09 => some (.clr acc)
  | 0x0A => some (.shx acc k)
  | 0x0B => some (.lim acc n)
  | 0x0C => some (.rnd xa acc)
  | 0x0D => some (.sta acc k n)
  | 0x0E => some (.nrm acc k n)
  | 0x10 => some (.ldx xa n)
  | 0x11 => some (.ldxc xa n)
  | 0x12 => some (.stx xa n)
  | 0x13 => some (.movx xa xb)
  | 0x14 => legalIf (decide (2 ≤ k) && decide (k ≤ 16)) (.dly k n)
  | 0x15 => some (.minx xa xb)
  | 0x16 => some (.maxx xa xb)
  | 0x18 => legalIf (decide (idx < kindCount kind)) (.lds xa kind idx)
  | 0x19 => legalIf (k != 0 && (kind == 0 || kind == 2 || kind == 3) && decide (idx < kindCount kind)) (.wsmp k kind idx)
  | 0x1A => some (.chk xa xb n)
  | 0x1C => legalIf (w % 2 ^ 26 == 0) .spec
  | 0x1D => some (.tent xa xb idx)
  | 0x1E => legalIf (acc == 0) (.commit (w % 2 ^ 24))
  | 0x1F => legalIf (acc == 0) (.cancel (w % 2 ^ 24))
  | 0x20 => legalIf (w / 2 ^ 14 % 256 == 0 && decide (w / 2 ^ 22 % 16 ≤ 0xA)) (.br (w / 2 ^ 22 % 16) (w % 2 ^ 14))
  | 0x21 => legalIf (acc == 0 && w / 256 % 256 == 0) (.rpt (w / 2 ^ 16 % 256) (w / 16 % 16) (w % 16))
  | 0x24 => some (.gpost xa)
  | 0x25 => some (.gsel xa (n % 16))
  | 0x26 => some (.wreq xa idx)
  | 0x28 => some (.trc xa (n % 4))
  | 0x29 => legalIf (w % 2 ^ 26 == 0) .trig
  | 0x2A => some (.evt (n % 256))
  | 0x3E => some .nop
  | 0x3F => some .stop
  | _ => none

/-- `RPT` may precede the instruction (R147). -/
def Ins.repeatable : Ins → Bool
  | .mac .. | .msu .. | .macx .. | .msux .. | .macs .. | .ldx .. | .ldxc .. | .stx .. => true
  | _ => false

end Sys2Proof.Machine
end

