-- ==== Sys2Proof/Machine/CoopRun.lean ====
section
/-! DEFINITION. How Cooper executes (R144 to R150): whose turn it is on a lane, the fetch, the memories as an execution sees
them, the store buffer, what every instruction does alike. -/
namespace Sys2Proof.Machine

/-- What an instruction leaves: the device, the steps it took, and the fault cause, 0 for none (R156). -/
structure Ran where
  dev : Dev
  steps : Nat := 1
  cause : Nat := 0

namespace Dev

/-! ### Lanes (R149) -/

/-- Slot `s` comes before slot `t` on its lane. -/
def slotBefore (d : Dev) (s t : Nat) : Bool :=
  let p := d.fg CEN_SLOT_s_CFG_PRIO s
  let q := d.fg CEN_SLOT_s_CFG_PRIO t
  let x := d.slot s
  let y := d.slot t
  decide (q < p) || (p == q && (decide (x.readyAt < y.readyAt) || (x.readyAt == y.readyAt &&
    (decide (x.readyN < y.readyN) || (x.readyN == y.readyN && decide (s ≤ t))))))

/-- The slot of a list that runs at an instruction boundary. -/
def pickOf (d : Dev) : List Nat → Option Nat
  | [] => none
  | s :: t => match pickOf d t with
    | none => some s
    | some u => if d.slotBefore s u then some s else some u

/-- The ready slot that lane `l` runs (R149). -/
def pick (d : Dev) (l : Nat) : Option Nat :=
  d.pickOf ((List.range 64).filter fun s => d.fg CEN_SLOT_s_CFG_LANE s == l && d.fg CEN_SLOT_s_STAT_STATE s == 2)

/-- Slot `s` has its lane, and R149 leaves it there. -/
def coopTurn (d : Dev) (s : Nat) : Bool :=
  let l := d.fg CEN_SLOT_s_CFG_LANE s
  (vget d.cen.lane l).cur == some s && d.pick l == some s

/-! ### Memories as an execution sees them (R144, R150, R163) -/

/-- The coefficient at an offset: fault cause, word, and the effect of the read. -/
def rdC (d : Dev) (s off : Nat) : Nat × BitVec 32 × Dev :=
  let a := (d.slot s).cb + off
  if 8192 ≤ a then (4, 0, d)
  else if d.coopBad 1 a then (5, 0, d)
  else (0, normW (d.coopRaw 1 a), d.coopTouch 1 a)

/-- The buffered word at an address. -/
def inBuf (a : Nat) : List (Nat × BitVec 32) → Option (BitVec 32)
  | [] => none
  | (b, w) :: t => if a = b then some w else inBuf a t

/-- The state word at an offset; the slot's own buffer comes first. -/
def rdS (d : Dev) (s off : Nat) : Nat × BitVec 32 × Dev :=
  let a := (d.slot s).sb + off
  if 32768 ≤ a then (4, 0, d)
  else match inBuf a (d.slot s).buf with
    | some w => (0, normW w, d)
    | none =>
      if d.coopBad 2 a then (5, 0, d) else (0, normW (d.coopRaw 2 a), d.coopTouch 2 a)

/-- Buffer a store: a second store to a word reuses its entry, a 65th word is a fault (R150). -/
def stS (d : Dev) (s off : Nat) (w : BitVec 32) : Nat × Dev :=
  let a := (d.slot s).sb + off
  let buf := (d.slot s).buf
  if 32768 ≤ a then (4, d)
  else if (inBuf a buf).isSome then (0, d.updSlot s fun x => { x with buf := x.buf.map fun e => if e.1 = a then (a, w) else e })
  else if 64 ≤ buf.length then (3, d)
  else (0, d.updSlot s fun x => { x with buf := x.buf ++ [(a, w)] })

/-- Buffer stores at successive offsets. -/
def stAll (d : Dev) (s off : Nat) : List (BitVec 32) → Nat × Dev
  | [] => (0, d)
  | w :: t =>
    let r := d.stS s off w
    if r.1 ≠ 0 then r else stAll r.2 s (off + 1) t

/-- Offset advance of the running repetition, for coefficients and for state (R147). -/
def repC (d : Dev) (s : Nat) : Nat := (d.slot s).repI * (d.slot s).repCI
def repS (d : Dev) (s : Nat) : Nat := (d.slot s).repI * (d.slot s).repSI

/-! ### Registers and accumulators of a slot -/

/-- Register `X`i. -/
def xr (d : Dev) (s i : Nat) : BitVec 32 := vget (d.slot s).x i

/-- Write register `X`i. -/
def setX (d : Dev) (s i : Nat) (w : BitVec 32) : Dev := d.updSlot s fun x => { x with x := vset x.x i w }

/-- Accumulator `A`i. -/
def ac (d : Dev) (s i : Nat) : Accu := vget (d.slot s).acc i

/-- Write accumulator `A`i. -/
def setA (d : Dev) (s i : Nat) (a : Accu) : Dev := d.updSlot s fun x => { x with acc := vset x.acc i a }

/-- `SAT` is sticky. -/
def satIf (d : Dev) (s : Nat) (b : Bool) : Dev := if b then d.updSlot s fun x => { x with fSAT := true } else d

/-- Add a contribution to an accumulator (R142). -/
def accum (d : Dev) (s i : Nat) (c : Int × Int) : Ran :=
  let r := (d.ac s i).add c.1 c.2
  { dev := (d.setA s i r.1).satIf s r.2.2, steps := r.2.1 }

/-- The slot's speculative window is open. -/
def inWindow (d : Dev) (s : Nat) : Bool := (d.slot s).spec.isSome

/-- A leg mask names only legs in `LEGS` (R152). -/
def legsOk (d : Dev) (s mask : Nat) : Bool :=
  (bitsOf 24 mask).all (d.fbit CEN_SLOT_s_LEGS_LEGS · s)

/-! ### One instruction -/

/-- The instruction that slot `s` is about to execute; none where it cannot be fetched or is illegal. -/
def coopFetch (d : Dev) (s : Nat) : Option Ins :=
  let pc := (d.slot s).pc
  if pc < 16384 && !d.coopBad 0 pc then decodeCoop (d.coopRaw 0 pc).toNat else none

/-- Steps are counted for the execution and for the lane (R145, R170). -/
def countSteps (d : Dev) (s n : Nat) : Dev :=
  let l := d.fg CEN_SLOT_s_CFG_LANE s
  let d := d.updSlot s fun x => { x with steps := x.steps + n }
  let lane := vget d.cen.lane l
  { d with cen := { d.cen with lane := vset d.cen.lane l { lane with steps := lane.steps + n } } }

/-- The instruction is over: the repeat count or the program counter moves on (R147). -/
def coopAdvance (d : Dev) (s : Nat) : Dev :=
  d.updSlot s fun x =>
    match x.repLeft with
    | some (n + 2) => { x with repLeft := some (n + 1), repI := x.repI + 1 }
    | _ => { x with repLeft := none, repI := 0, pc := x.pc + 1 }

/-- Slot `s` executes instruction `i` if it is its turn and `i` is the instruction at its program counter; then its program
counter moves on. -/
def coopDo (d : Dev) (s : Nat) (i : Ins) (f : Dev → Ran) : Dev :=
  if d.coopTurn s && d.coopFetch s == some i then
    let r := f (d.coopTouch 0 (d.slot s).pc)
    let d := r.dev.countSteps s r.steps
    if r.cause ≠ 0 then d.slotFault s r.cause else d.coopAdvance s
  else d

/-- The same for an instruction that moves the program counter itself. -/
def coopJump (d : Dev) (s : Nat) (i : Ins) (f : Dev → Ran) : Dev :=
  if d.coopTurn s && d.coopFetch s == some i then
    let r := f (d.coopTouch 0 (d.slot s).pc)
    let d := r.dev.countSteps s r.steps
    if r.cause ≠ 0 then d.slotFault s r.cause else d
  else d

/-- A branch condition of R147. -/
def coopCond (x : Slot) (c : Nat) : Bool :=
  match c with
  | 0x0 => true
  | 0x1 => x.fT | 0x2 => !x.fT
  | 0x3 => x.fL | 0x4 => !x.fL
  | 0x5 => x.fINV | 0x6 => !x.fINV
  | 0x7 => x.fN | 0x8 => !x.fN
  | 0x9 => x.fSAT | 0xA => !x.fSAT
  | _ => false

end Dev
end Sys2Proof.Machine
end

