-- ==== Sys2Proof/Machine/CoopInstr.lean ====
section
/-! DEFINITION. Cooper's instructions (R142 to R147, R152, R153, R158, R159, R164, R425): one meaning each. A command names the
slot and the instruction with its fields; it has an effect where that slot has its lane and that instruction is the one
at its program counter. -/
namespace Sys2Proof.Machine

namespace Dev

/-- Accumulate a product of a word read from memory and a second word; `sgn` is 1 or -1. -/
def accMem (s acc : Nat) (sgn : Int) (r : Nat × BitVec 32 × Dev) (other : BitVec 32) : Ran :=
  if r.1 ≠ 0 then { dev := r.2.2, cause := r.1 }
  else
    let p := prodW r.2.1 other
    r.2.2.accum s acc (sgn * p.1, p.2)

/-- `MAC` and `MSU` (R145). -/
def coMac (sgn : Int) (s acc c n : Nat) (d : Dev) : Ran :=
  let a := d.rdC s (c + d.repC s)
  if a.1 ≠ 0 then { dev := a.2.2, cause := a.1 }
  else accMem s acc sgn (a.2.2.rdS s (n + d.repS s)) a.2.1

/-- `MACX` and `MSUX` (R145). -/
def coMacx (sgn : Int) (s acc xa n : Nat) (d : Dev) : Ran := accMem s acc sgn (d.rdC s (n + d.repC s)) (d.xr s xa)

/-- `MACS` (R145). -/
def coMacs (s acc xa n : Nat) (d : Dev) : Ran := accMem s acc 1 (d.rdS s (n + d.repS s)) (d.xr s xa)

/-- `MULX` (R145). -/
def coMulx (s acc xa xb : Nat) (d : Dev) : Ran := d.accum s acc (prodW (d.xr s xa) (d.xr s xb))

/-- `ADDX` and `SUBX` (R142). -/
def coAddx (sgn : Int) (s acc xa : Nat) (d : Dev) : Ran :=
  let c := singleW (d.xr s xa)
  d.accum s acc (sgn * c.1, c.2)

/-- `CLR`. -/
def coClr (s acc : Nat) (d : Dev) : Ran := { dev := d.setA s acc {} }

/-- `SHX` (R425). -/
def coShx (s acc k : Nat) (d : Dev) : Ran :=
  let r := (d.ac s acc).shx (sval 6 k)
  { dev := (d.setA s acc r.1).satIf s r.2 }

/-- `LIM` (R145). -/
def coLim (s acc n : Nat) (d : Dev) : Ran :=
  let lo := d.rdC s n
  if lo.1 ≠ 0 then { dev := lo.2.2, steps := 2, cause := lo.1 }
  else
    let hi := lo.2.2.rdC s (n + 1)
    let d := hi.2.2
    if hi.1 ≠ 0 then { dev := d, steps := 2, cause := hi.1 }
    else
      let r := (d.ac s acc).lim lo.2.1 hi.2.1
      let d := d.setA s acc r.1
      { dev := if r.2 then d.updSlot s fun x => { x with fL := true } else d, steps := 2 }

/-- `RND` (R143). -/
def coRnd (s xa acc : Nat) (d : Dev) : Ran :=
  let r := (d.ac s acc).q.rnd
  let d := (d.setX s xa (mkW r.1 r.2.1)).satIf s r.2.2
  { dev := d.updSlot s fun x => { x with fN := decide (r.1 < 0) } }

/-- `STA` (R143). -/
def coSta (s acc k n : Nat) (d : Dev) : Ran :=
  let w := (d.ac s acc).q.sta (sval 6 k)
  let r := (d.satIf s w.2).stS s n w.1
  { dev := r.2, cause := r.1 }

/-- `NRM` (R143). -/
def coNrm (s acc k n : Nat) (d : Dev) : Ran :=
  let w := nrmW ((List.range (acc + 1)).map (d.ac s)) (sval 6 k)
  let r := (d.satIf s w.2).stAll s n w.1
  { dev := r.2, steps := acc + 2, cause := r.1 }

/-- `LDX` and `LDXC` (R145). -/
def coLd (s xa : Nat) (r : Nat × BitVec 32 × Dev) : Ran :=
  if r.1 ≠ 0 then { dev := r.2.2, cause := r.1 } else { dev := r.2.2.setX s xa r.2.1 }

/-- `STX` (R150). -/
def coStx (s xa n : Nat) (d : Dev) : Ran :=
  let r := d.stS s (n + d.repS s) (d.xr s xa)
  { dev := r.2, cause := r.1 }

/-- One move of `DLY` after another, from the last word down. -/
def dlyMoves (s n : Nat) : Nat → Dev → Nat × Dev
  | 0, d => (0, d)
  | i + 1, d =>
    let r := d.rdS s (n + i)
    if r.1 ≠ 0 then (r.1, r.2.2)
    else
      let w := r.2.2.stS s (n + i + 1) r.2.1
      if w.1 ≠ 0 then w else dlyMoves s n i w.2

/-- `DLY` (R145). -/
def coDly (s k n : Nat) (d : Dev) : Ran :=
  let r := dlyMoves s n (k - 1) d
  { dev := r.2, steps := k - 1, cause := r.1 }

/-- `MINX` and `MAXX`: `XB` replaces `XA` if it is smaller, or larger. -/
def coPick (s xa xb : Nat) (lower : Bool) (d : Dev) : Ran :=
  let a := d.xr s xa
  let b := d.xr s xb
  { dev := if (if lower then decide (wv b < wv a) else decide (wv a < wv b)) then d.setX s xa b else d }

/-- The sample of a kind and index, and whether it sets `INV` (R146). -/
def sample (d : Dev) (kind i : Nat) : BitVec 32 × Bool :=
  match kind with
  | 0 =>
    if d.fb SNS_SD_n_CFG_EN i && d.fb SNS_SD_n_FILT_CF_EN i then
      (mkW (d.fgS SNS_CF_n_LO_VAL i) 0, d.fb SNS_CF_n_HI_INVALID i || d.fb SNS_CF_n_HI_REALIGN i)
    else (zeroW, true)
  | 1 =>
    if d.fb SNS_SD_n_CFG_EN i && d.fb SNS_SD_n_FILT_PF_EN i then (mkW (d.fgS SNS_PF_n_VAL i * 256) 0, false)
    else (zeroW, true)
  | 2 =>
    if d.mtrOn i then (Q.toW ⟨d.fgS SNS_MTR_n_LO_VAL i, 2 ^ 31⟩, d.fb SNS_MTR_n_HI_OVL i) else (zeroW, true)
  | 3 =>
    if d.auxOn i then
      (mkW (d.fgS SNS_AUX_n_RES_CODE i * 16) 0,
        !d.fb SNS_AUX_n_RES_SETTLED i || d.fb SNS_AUX_n_RES_OPEN i || d.fb SNS_AUX_n_RES_RANGE i)
    else (zeroW, true)
  | _ => if d.fb CEN_GRP_g_CFG_EN i then (normW (BitVec.ofNat 32 (d.fg CEN_GRP_g_OUT_VAL i)), false) else (zeroW, true)

/-- `LDS` (R146). -/
def coLds (s xa kind i : Nat) (d : Dev) : Ran :=
  let r := d.sample kind i
  let d := d.setX s xa r.1
  { dev := if r.2 then d.updSlot s fun x => { x with fINV := true } else d, steps := 2 }

/-- `WSMP`: the slot goes on at once where the writes have already come, else it is suspended (R145): it leaves state running, and its
candidate and its correction go (R158, R161). -/
def coWsmp (s k kind i : Nat) (d : Dev) : Ran :=
  if k ≤ d.mbSince s kind i then { dev := d }
  else
    { dev := (((d.updSlot s fun x => { x with wait := some { kind := kind, idx := i, count := k } }).fs CEN_SLOT_s_STAT_STATE 3 s).offLane
        s).dropSlot s }

/-- `CHK` (R145). -/
def coChk (s xa xb n : Nat) (d : Dev) : Ran :=
  let r := d.rdC s n
  let d := r.2.2
  if r.1 ≠ 0 then { dev := d, steps := 2, cause := r.1 }
  else
    let t := decide ((wv (d.xr s xa) - wv (d.xr s xb)).natAbs ≤ wv r.2.1)
    { dev := d.updSlot s fun x => { x with fT := t }, steps := 2 }

/-- `SPEC`: a window inside a window is illegal (R152). -/
def coSpec (s : Nat) (d : Dev) : Ran :=
  if d.inWindow s then { dev := d, cause := 1 } else { dev := d.updSlot s fun x => { x with spec := some x.buf } }

/-- `TENT` (R152). -/
def coTent (s xa xb leg : Nat) (d : Dev) : Ran :=
  if !d.fbit CEN_SLOT_s_LEGS_LEGS leg s then { dev := d, steps := 2, cause := 7 }
  else
    let a := tentCount (d.xr s xa)
    let b := tentCount (d.xr s xb)
    let d := d.satIf s (a.2 || b.2)
    if d.fb PWM_LEG_n_CTRL_SRC leg then
      let seq := d.nextLp leg
      let d := d.updLeg leg fun x => { x with tent := some { a := a.1, b := b.1, seq := seq, slot := s } }
      { dev := d.trcSource 1 leg a.1 23 true (some s) (some leg), steps := 2 }
    else { dev := d, steps := 2 }

/-- `COMMIT`: the token sets out for the load-point logic; the window closes and keeps its stores (R152). -/
def coCommit (s legs : Nat) (d : Dev) : Ran :=
  if !d.legsOk s legs then { dev := d, cause := 7 }
  else
    let l := bitsOf 24 legs
    let pair := fun (n : Nat) => (d.leg n).tent
    let t : Token := { slot := s, exec := (d.slot s).exec, legs := l.map fun n => (n, ((pair n).map (·.seq)).getD (d.nextLp n), pair n) }
    let d := d.trcOutcome s l 1 (d.outcomeLp l)
    let d := d.dropTents l fun _ => true
    let d := { d with cen := { d.cen with tokens := d.cen.tokens ++ [t] } }
    { dev := d.updSlot s fun x => { x with spec := none } }

/-- The uncommitted pairs of the legs, whichever slot wrote them, and the stores since `SPEC` are discarded; the window closes (R152). -/
def coopCancel (d : Dev) (s : Nat) (l : List Nat) : Dev :=
  let d := d.trcOutcome s l 2 (d.outcomeLp l)
  (d.dropTents l fun _ => true).updSlot s fun x =>
    match x.spec with
    | some b => { x with buf := b, spec := none }
    | none => x

/-- `CANCEL` (R152). -/
def coCancel (s legs : Nat) (d : Dev) : Ran :=
  if !d.legsOk s legs then { dev := d, cause := 7 } else { dev := d.coopCancel s (bitsOf 24 legs) }

/-- `BR` (R147). -/
def coBr (s cond target : Nat) (d : Dev) : Ran :=
  if coopCond (d.slot s) cond then { dev := d.updSlot s fun x => { x with pc := target }, steps := 2 }
  else { dev := d.updSlot s fun x => { x with pc := x.pc + 1 } }

/-- `RPT`: an illegal successor is a fault (R147). -/
def coRpt (s cnt ci si : Nat) (d : Dev) : Ran :=
  let pc := (d.slot s).pc + 1
  if 16384 ≤ pc then { dev := d, cause := 4 }
  else if d.coopBad 0 pc then { dev := d, cause := 5 }
  else if ((decodeCoop (d.coopRaw 0 pc).toNat).map Ins.repeatable).getD false then
    { dev := d.updSlot s fun x => { x with pc := pc, repLeft := some (cnt + 1), repCI := ci, repSI := si, repI := 0 } }
  else { dev := d, cause := 1 }

/-- An instruction that acts only on committed results is a fault inside a window (R153). -/
def outside (s steps : Nat) (f : Dev → Dev) (d : Dev) : Ran :=
  if d.inWindow s then { dev := d, steps := steps, cause := 2 } else { dev := f d, steps := steps }

/-- `EVT` (R145). -/
def progEvent (s code : Nat) (d : Dev) : Dev :=
  let d := if d.cen.evUnread then d.fs CEN_EVCODE_OVERRUN 1 else d
  { ((d.fs CEN_EVCODE_SLOT s).fs CEN_EVCODE_CODE code).raise 44 s with cen := { d.cen with evUnread := true } }

/-- `TRC` (R164): the value carries the speculative tag inside a window (R153). -/
def coTrc (s xa c : Nat) (d : Dev) : Ran :=
  let w := d.xr s xa
  let sp := d.inWindow s
  { dev := if d.fg CEN_TRC_c_CFG_SRC c = 0 then d.trcValue c (uval 24 (wm w)) (uval 6 (we w)) sp (some s) none else d }

/-- The execution of slot `s` ends: the store buffer goes to state memory in one step (R150). -/
def endExecution (d : Dev) (s : Nat) : Dev :=
  let x := d.slot s
  let d := x.buf.foldl (fun d e => d.coopPut 2 e.1 e.2) d
  let d := d.fs CEN_SLOT_s_RUN_LAST_STEPS (min 65535 x.steps) s
  let d := if d.fg CEN_SLOT_s_RUN_MAX_STEPS s < x.steps then d.fs CEN_SLOT_s_RUN_MAX_STEPS (min 65535 x.steps) s else d
  let d := if x.fSAT && !d.fb CEN_SLOT_s_STAT_SAT_SEEN s then (d.fs CEN_SLOT_s_STAT_SAT_SEEN 1 s).raise 33 s else d
  let d := ((d.fs CEN_SLOT_s_STAT_STATE 1 s).updSlot s fun x => { x with active := false, buf := [], repLeft := none }).offLane s
  d.triggerFabric (d.slotsOf 3 fun v => v % 64 == s)

/-- `END` (R150, R152). -/
def coEnd (s : Nat) (d : Dev) : Dev :=
  if d.coopTurn s && d.coopFetch s == some .stop then
    let d := d.coopTouch 0 (d.slot s).pc
    let d := if d.inWindow s then d.coopCancel s (bitsOf 24 (d.fg CEN_SLOT_s_LEGS_LEGS s)) else d
    (d.countSteps s (1 + ((d.slot s).buf.length + 3) / 4)).endExecution s
  else d

/-- An instruction that cannot be executed (R156). -/
def coIllegal (s : Nat) (d : Dev) : Dev :=
  let pc := (d.slot s).pc
  if !d.coopTurn s then d
  else if 16384 ≤ pc then d.slotFault s 4
  else if d.coopBad 0 pc then d.slotFault s 5
  else if (decodeCoop (d.coopRaw 0 pc).toNat).isNone then (d.coopTouch 0 pc).slotFault s 1
  else d

/-- A lane takes the slot that R149 names. -/
def coDispatch (l : Nat) (d : Dev) : Dev :=
  let p := d.pick l
  let lane := vget d.cen.lane l
  if p.isSome && lane.cur != p then { d with cen := { d.cen with lane := vset d.cen.lane l { lane with cur := p } } } else d

end Dev

def execMac (sl : Fin 64) (acc : Fin 4) (c n : BitVec 12) (s : State) : Host.Outcome State Fault Refusal :=
  s.run fun d => d.coopDo sl (.mac acc c.toNat n.toNat) (Dev.coMac 1 sl acc c.toNat n.toNat)

def execMsu (sl : Fin 64) (acc : Fin 4) (c n : BitVec 12) (s : State) : Host.Outcome State Fault Refusal :=
  s.run fun d => d.coopDo sl (.msu acc c.toNat n.toNat) (Dev.coMac (-1) sl acc c.toNat n.toNat)

def execMacx (sl : Fin 64) (acc : Fin 4) (xa : Fin 8) (n : BitVec 12) (s : State) : Host.Outcome State Fault Refusal :=
  s.run fun d => d.coopDo sl (.macx acc xa n.toNat) (Dev.coMacx 1 sl acc xa n.toNat)

def execMsux (sl : Fin 64) (acc : Fin 4) (xa : Fin 8) (n : BitVec 12) (s : State) : Host.Outcome State Fault Refusal :=
  s.run fun d => d.coopDo sl (.msux acc xa n.toNat) (Dev.coMacx (-1) sl acc xa n.toNat)

def execMacs (sl : Fin 64) (acc : Fin 4) (xa : Fin 8) (n : BitVec 12) (s : State) : Host.Outcome State Fault Refusal :=
  s.run fun d => d.coopDo sl (.macs acc xa n.toNat) (Dev.coMacs sl acc xa n.toNat)

def execMulx (sl : Fin 64) (acc : Fin 4) (xa xb : Fin 8) (s : State) : Host.Outcome State Fault Refusal :=
  s.run fun d => d.coopDo sl (.mulx acc xa xb) (Dev.coMulx sl acc xa xb)

def execAddx (sl : Fin 64) (acc : Fin 4) (xa : Fin 8) (s : State) : Host.Outcome State Fault Refusal :=
  s.run fun d => d.coopDo sl (.addx acc xa) (Dev.coAddx 1 sl acc xa)

def execSubx (sl : Fin 64) (acc : Fin 4) (xa : Fin 8) (s : State) : Host.Outcome State Fault Refusal :=
  s.run fun d => d.coopDo sl (.subx acc xa) (Dev.coAddx (-1) sl acc xa)

def execClr (sl : Fin 64) (acc : Fin 4) (s : State) : Host.Outcome State Fault Refusal :=
  s.run fun d => d.coopDo sl (.clr acc) (Dev.coClr sl acc)

def execShx (sl : Fin 64) (acc : Fin 4) (k : BitVec 6) (s : State) : Host.Outcome State Fault Refusal :=
  s.run fun d => d.coopDo sl (.shx acc k.toNat) (Dev.coShx sl acc k.toNat)

def execLim (sl : Fin 64) (acc : Fin 4) (n : BitVec 12) (s : State) : Host.Outcome State Fault Refusal :=
  s.run fun d => d.coopDo sl (.lim acc n.toNat) (Dev.coLim sl acc n.toNat)

def execRnd (sl : Fin 64) (xa : Fin 8) (acc : Fin 4) (s : State) : Host.Outcome State Fault Refusal :=
  s.run fun d => d.coopDo sl (.rnd xa acc) (Dev.coRnd sl xa acc)

def execSta (sl : Fin 64) (acc : Fin 4) (k : BitVec 6) (n : BitVec 12) (s : State) : Host.Outcome State Fault Refusal :=
  s.run fun d => d.coopDo sl (.sta acc k.toNat n.toNat) (Dev.coSta sl acc k.toNat n.toNat)

def execNrm (sl : Fin 64) (acc : Fin 4) (k : BitVec 6) (n : BitVec 12) (s : State) : Host.Outcome State Fault Refusal :=
  s.run fun d => d.coopDo sl (.nrm acc k.toNat n.toNat) (Dev.coNrm sl acc k.toNat n.toNat)

def execLdx (sl : Fin 64) (xa : Fin 8) (n : BitVec 12) (s : State) : Host.Outcome State Fault Refusal :=
  s.run fun d => d.coopDo sl (.ldx xa n.toNat) fun d => Dev.coLd sl xa (d.rdS sl (n.toNat + d.repS sl))

def execLdxc (sl : Fin 64) (xa : Fin 8) (n : BitVec 12) (s : State) : Host.Outcome State Fault Refusal :=
  s.run fun d => d.coopDo sl (.ldxc xa n.toNat) fun d => Dev.coLd sl xa (d.rdC sl (n.toNat + d.repC sl))

def execStx (sl : Fin 64) (xa : Fin 8) (n : BitVec 12) (s : State) : Host.Outcome State Fault Refusal :=
  s.run fun d => d.coopDo sl (.stx xa n.toNat) (Dev.coStx sl xa n.toNat)

def execMovx (sl : Fin 64) (xa xb : Fin 8) (s : State) : Host.Outcome State Fault Refusal :=
  s.run fun d => d.coopDo sl (.movx xa xb) fun d => { dev := d.setX sl xa (d.xr sl xb) }

def execDly (sl : Fin 64) (k : BitVec 6) (n : BitVec 12) (s : State) : Host.Outcome State Fault Refusal :=
  s.run fun d => d.coopDo sl (.dly k.toNat n.toNat) (Dev.coDly sl k.toNat n.toNat)

def execMinx (sl : Fin 64) (xa xb : Fin 8) (s : State) : Host.Outcome State Fault Refusal :=
  s.run fun d => d.coopDo sl (.minx xa xb) (Dev.coPick sl xa xb true)

def execMaxx (sl : Fin 64) (xa xb : Fin 8) (s : State) : Host.Outcome State Fault Refusal :=
  s.run fun d => d.coopDo sl (.maxx xa xb) (Dev.coPick sl xa xb false)

def execLds (sl : Fin 64) (xa : Fin 8) (kind : Fin 5) (i : Fin 32) (s : State) : Host.Outcome State Fault Refusal :=
  s.run fun d => d.coopDo sl (.lds xa kind i) (Dev.coLds sl xa kind i)

def execWsmp (sl : Fin 64) (k : BitVec 6) (kind : Fin 5) (i : Fin 32) (s : State) : Host.Outcome State Fault Refusal :=
  s.run fun d => d.coopDo sl (.wsmp k.toNat kind i) (Dev.coWsmp sl k.toNat kind i)

def execChk (sl : Fin 64) (xa xb : Fin 8) (n : BitVec 12) (s : State) : Host.Outcome State Fault Refusal :=
  s.run fun d => d.coopDo sl (.chk xa xb n.toNat) (Dev.coChk sl xa xb n.toNat)

def execSpec (sl : Fin 64) (s : State) : Host.Outcome State Fault Refusal :=
  s.run fun d => d.coopDo sl .spec (Dev.coSpec sl)

def execTent (sl : Fin 64) (xa xb : Fin 8) (leg : Fin 32) (s : State) : Host.Outcome State Fault Refusal :=
  s.run fun d => d.coopDo sl (.tent xa xb leg) (Dev.coTent sl xa xb leg)

def execCommit (sl : Fin 64) (legs : BitVec 24) (s : State) : Host.Outcome State Fault Refusal :=
  s.run fun d => d.coopDo sl (.commit legs.toNat) (Dev.coCommit sl legs.toNat)

def execCancel (sl : Fin 64) (legs : BitVec 24) (s : State) : Host.Outcome State Fault Refusal :=
  s.run fun d => d.coopDo sl (.cancel legs.toNat) (Dev.coCancel sl legs.toNat)

def execBr (sl : Fin 64) (cond : Fin 11) (target : BitVec 14) (s : State) : Host.Outcome State Fault Refusal :=
  s.run fun d => d.coopJump sl (.br cond target.toNat) (Dev.coBr sl cond target.toNat)

def execRpt (sl : Fin 64) (cnt : BitVec 8) (ci si : BitVec 4) (s : State) : Host.Outcome State Fault Refusal :=
  s.run fun d => d.coopJump sl (.rpt cnt.toNat ci.toNat si.toNat) (Dev.coRpt sl cnt.toNat ci.toNat si.toNat)

def execGpost (sl : Fin 64) (xa : Fin 8) (s : State) : Host.Outcome State Fault Refusal :=
  s.run fun d => d.coopDo sl (.gpost xa) (Dev.outside sl 1 fun d => d.gpost sl (d.xr sl xa))

def execGsel (sl : Fin 64) (xa : Fin 8) (g : Fin 16) (s : State) : Host.Outcome State Fault Refusal :=
  s.run fun d => d.coopDo sl (.gsel xa g) (Dev.outside sl 4 fun d =>
    let r := d.gsel sl g
    r.2.setX sl xa r.1)

def execTrc (sl : Fin 64) (xa : Fin 8) (c : Fin 4) (s : State) : Host.Outcome State Fault Refusal :=
  s.run fun d => d.coopDo sl (.trc xa c) (Dev.coTrc sl xa c)

def execTrig (sl : Fin 64) (s : State) : Host.Outcome State Fault Refusal :=
  s.run fun d => d.coopDo sl .trig fun d => { dev := d.trcTrigger }

def execEvt (sl : Fin 64) (code : Byte) (s : State) : Host.Outcome State Fault Refusal :=
  s.run fun d => d.coopDo sl (.evt code.toNat) (Dev.outside sl 1 (Dev.progEvent sl code.toNat))

def execNop (sl : Fin 64) (s : State) : Host.Outcome State Fault Refusal :=
  s.run fun d => d.coopDo sl .nop fun d => { dev := d }

def execEndExec (sl : Fin 64) (s : State) : Host.Outcome State Fault Refusal := s.run (Dev.coEnd sl)

def execIllegalInstruction (sl : Fin 64) (s : State) : Host.Outcome State Fault Refusal := s.run (Dev.coIllegal sl)

def execSlotDispatch (l : Fin 4) (s : State) : Host.Outcome State Fault Refusal := s.run (Dev.coDispatch l)

end Sys2Proof.Machine
end

