-- ==== Sys2Proof/Machine/CoopCtl.lean ====
section
/-! DEFINITION. Cooper's slots as firmware sees them (R170, R171), the self-test (R162), the block's registers and its
commands (R168). -/
namespace Sys2Proof.Machine

namespace Dev

/-! ### Enabling slots (R171) -/

/-- A trigger source is admitted for a trigger type (R148). -/
def trgOk (type v : Nat) : Bool :=
  match type with
  | 0 => decide (v < 24)
  | 1 =>
    let kind := v / 256
    v / 32 % 8 == 0 && (kind == 0 || kind == 2 || kind == 3) && decide (v % 32 < kindCount kind)
  | 2 => decide (10 ≤ v)
  | 3 => decide (v < 64)
  | _ => true

/-- Slot `s` cannot be enabled with these settings, while the slots of a list are being enabled with it (R171). -/
def enableBad (d : Dev) (s lane : Nat) (legcommit : Bool) (others : List Nat) : Bool :=
  !d.fb CEN_CTRL_EN || d.fb CEN_SLOT_s_STAT_FAULT s || d.fbit CEN_TEST_LATCH lane ||
  (legcommit && (List.range 64).any fun t =>
    t != s && (d.fb CEN_SLOT_s_CFG_EN t || others.contains t) && d.fb CEN_SLOT_s_CFG_LEGCOMMIT t &&
    Nat.land (d.fg CEN_SLOT_s_LEGS_LEGS t) (d.fg CEN_SLOT_s_LEGS_LEGS s) != 0)

/-- The lowest slot that is not enabled (R162). -/
def idleSlot (d : Dev) : Option Nat := (List.range 64).find? fun s => !d.fb CEN_SLOT_s_CFG_EN s

/-- Change lane `l`. -/
def updLane (d : Dev) (l : Nat) (f : Lane → Lane) : Dev :=
  { d with cen := { d.cen with lane := vset d.cen.lane l (f (vget d.cen.lane l)) } }

/-- Pending self-tests borrow an idle slot's context (R162). -/
def testStart (d : Dev) : Dev :=
  let f := fun (l : Lane) => if l.testPend && l.testSlot.isNone then { l with testSlot := d.idleSlot } else l
  { d with cen := { d.cen with lane := vmap f d.cen.lane } }

/-- `EN` of slot `s` is set (R148, R162): it waits for its trigger; a self-test in its context is abandoned and pends again. What
its executions have counted stays with their numbers. -/
def slotEnable (d : Dev) (s : Nat) : Dev :=
  let d := (d.fs CEN_SLOT_s_CFG_EN 1 s).fs CEN_SLOT_s_STAT_STATE 1 s
  let x := d.slot s
  let d := d.setSlot s { trgOrigin := d.clk.ticks, occ := x.occ, exec := x.exec, missed := x.missed, missedOld := x.missedOld }
  let f := fun (l : Lane) => if l.testSlot = some s then { l with testSlot := none } else l
  ({ d with cen := { d.cen with lane := vmap f d.cen.lane } } : Dev).testStart

/-- A self-test of every lane is asked for. -/
def testAsk (d : Dev) : Dev :=
  ({ d with cen := { d.cen with lane := vmap (fun l => { l with testPend := true }) d.cen.lane } } : Dev).testStart

/-! ### CEN registers -/

/-- Combinations out of range: a trigger source that does not fit the trigger type (R171). -/
def rangeCEN (d : Dev) (b n w : Nat) : Bool :=
  if b = 0x2005010C then !trgOk (d.fg CEN_SLOT_s_CFG_TRG_TYPE n) (CEN_SLOT_s_TRG_SRC.of w)
  else if b = 0x20050100 then
    CEN_SLOT_s_CFG_EN.of w == 1 && !d.fb CEN_SLOT_s_CFG_EN n && !trgOk (CEN_SLOT_s_CFG_TRG_TYPE.of w) (d.fg CEN_SLOT_s_TRG_SRC n)
  else d.rangeTRC b n w

/-- Writes refused by the state (R158, R170, R171). -/
def stateCEN (d : Dev) (b n w : Nat) : Bool :=
  let en := d.fb CEN_SLOT_s_CFG_EN n
  if b = 0x20050000 then
    CEN_CTRL_EN.of w == 0 && d.fb CEN_CTRL_EN && (List.range 64).any fun s => d.fb CEN_SLOT_s_CFG_EN s
  else if b = 0x20050100 then
    (en && (CEN_SLOT_s_CFG_LEGCOMMIT.of w != d.fg CEN_SLOT_s_CFG_LEGCOMMIT n || CEN_SLOT_s_CFG_LANE.of w != d.fg CEN_SLOT_s_CFG_LANE n ||
      CEN_SLOT_s_CFG_PRIO.of w != d.fg CEN_SLOT_s_CFG_PRIO n || CEN_SLOT_s_CFG_TRG_TYPE.of w != d.fg CEN_SLOT_s_CFG_TRG_TYPE n)) ||
    (!en && CEN_SLOT_s_CFG_EN.of w == 1 &&
      d.enableBad n (CEN_SLOT_s_CFG_LANE.of w) (CEN_SLOT_s_CFG_LEGCOMMIT.of w == 1) [])
  else if b = 0x2005010C then en && CEN_SLOT_s_TRG_SRC.of w != d.fg CEN_SLOT_s_TRG_SRC n
  else if b = 0x20050110 then en && CEN_SLOT_s_LEGS_LEGS.of w != d.fg CEN_SLOT_s_LEGS_LEGS n
  else if b = 0x20050114 then
    en && (CEN_SLOT_s_TRK_TEN.of w != d.fg CEN_SLOT_s_TRK_TEN n || CEN_SLOT_s_TRK_KB.of w != d.fg CEN_SLOT_s_TRK_KB n ||
      CEN_SLOT_s_TRK_INT.of w != d.fg CEN_SLOT_s_TRK_INT n)
  else d.stateGRP b n w || d.stateTRC b n w

/-- A clear of a lane's latch is refused until a later self-test has passed (R162). -/
def refusedCEN (d : Dev) (b lo w : Nat) : Bool :=
  b == 0x20050020 && lo == 20 && (bitsOf 4 (CEN_TEST_LATCH.of w)).any fun l =>
    d.fbit CEN_TEST_LATCH l && !(vget d.cen.lane l).passedSince

/-- What a W1C clear does besides clearing. -/
def clearedCEN (d : Dev) (b n lo : Nat) : Dev :=
  if b = 0x20050118 ∧ lo = 15 then d.fs CEN_SLOT_s_STAT_MISS_CNT 0 n
  else if b = 0x20050118 ∧ lo = 13 then (if d.fg CEN_SLOT_s_STAT_STATE n = 4 then d.fs CEN_SLOT_s_STAT_STATE 0 n else d)
  else if b = 0x20050024 ∧ lo = 23 then d.fs CEN_MEMERR_CE_CNT 0
  else d

/-- What a write does after it is stored. -/
def afterCEN (d d0 : Dev) (b n w : Nat) : Dev :=
  if b = 0x20050100 then
    if d.fb CEN_SLOT_s_CFG_EN n && !d0.fb CEN_SLOT_s_CFG_EN n then d.slotEnable n
    else if !d.fb CEN_SLOT_s_CFG_EN n && d0.fb CEN_SLOT_s_CFG_EN n then (d.slotDisable n).testStart
    else d
  else if b = 0x20050020 then (if CEN_TEST_REQ.of w = 1 then d.testAsk else d)
  else if 0x20050A00 ≤ b ∧ b < 0x20050C00 then d.afterGRP d0 b n w
  else d.afterTRC d0 b n w

end Dev

/-! ### Self-test (R162) -/

/-- The self-test period has elapsed. -/
def coopTestDueDev (d : Dev) : Dev := if d.fb CEN_CTRL_EN && d.fb CEN_CTRL_ST_PER then d.testAsk else d

def execCooperSelftestDue (s : State) : Host.Outcome State Fault Refusal := s.run coopTestDueDev

/-- A lane's self-test completes; `pass` tells whether its signature matched. -/
def coopTestDoneDev (l : Nat) (pass : Bool) (d : Dev) : Dev :=
  let d := d.testStart
  let lane := vget d.cen.lane l
  if !lane.testPend || lane.testSlot.isNone then d
  else
    let d := d.updLane l fun x => { x with testPend := false, testSlot := none, passedSince := x.passedSince || pass }
    let d := ((d.finc CEN_TEST_ST_SEQ).fsBit CEN_TEST_FAIL l !pass).raise 39 l
    let d := if d.cen.lane.toList.any (·.testPend) then d else d.fs CEN_TEST_REQ 0
    if pass then d
    else
      let d := (d.fs CEN_STAT_TEST_FAULT 1).raise 38 l
      let h := d.classHit 5 lane.occ
      let d := d.updLane l fun x => { x with occ := h.1 }
      if h.2 then
        let d := d.updLane l fun x => { x with passedSince := false }
        ((List.range 64).filter fun s => d.fg CEN_SLOT_s_CFG_LANE s == l).foldl (fun d s => d.slotFault s 8)
          (d.fsBit CEN_TEST_LATCH l true)
      else d

def execCooperSelftestComplete (l : Fin 4) (pass : Bool) (s : State) : Host.Outcome State Fault Refusal :=
  s.run (coopTestDoneDev l pass)

/-! ### Commands (R168) -/

def execCenCaps (p : Path) (tag : Byte) (s : State) : Host.Outcome State Fault Refusal :=
  s.run fun d => d.runCmd 0x300 p tag (capsCmd [0x20050008])

/-- Words from bytes. -/
def wordsOf : Nat → List Byte → List (BitVec 32)
  | 0, _ => []
  | n + 1, l => BitVec.ofNat 32 (leAt l 0 4) :: wordsOf n (l.drop 4)

/-- Store successive words of a Cooper memory. -/
def Dev.coopPutAll (d : Dev) (region a : Nat) : List (BitVec 32) → Dev
  | [] => d
  | w :: t => Dev.coopPutAll (d.coopPut region a w) region (a + 1) t

/-- `CEN_WRITE`. -/
def cenWriteCmd (c : Cmd) (d : Dev) : Res × Dev :=
  let r := byteAt c.payload 0
  let a := leAt c.payload 2 2
  let n := (c.payload.length - 4) / 4
  if c.payload.length < 4 ∨ c.payload.length % 4 ≠ 0 ∨ 2 < r ∨ byteAt c.payload 1 ≠ 0 ∨ Dev.coopWords r < a + n ∨
     (r = 2 ∧ 64 < n) then (.st .range, d)
  else (.st .ok, d.coopPutAll r a (wordsOf n (c.payload.drop 4)))

def execCenWrite (p : Path) (tag : Byte) (s : State) : Host.Outcome State Fault Refusal :=
  s.run fun d => d.runCmd 0x301 p tag cenWriteCmd

/-- A host read of a Cooper memory word (R163): the raw word, with `MEM_UE` set where it cannot be corrected. -/
def Dev.coopHostRead (d : Dev) (region a : Nat) : BitVec 32 × Dev :=
  if d.coopBad region a then (d.coopRaw region a, d.fs CEN_STAT_MEM_UE 1)
  else (d.coopRaw region a, d.coopTouch region a)

/-- Read successive words. -/
def Dev.coopHostReadN (d : Dev) (region a : Nat) : Nat → List Byte × Dev
  | 0 => ([], d)
  | n + 1 =>
    let r := d.coopHostRead region a
    let t := Dev.coopHostReadN r.2 region (a + 1) n
    (leBytes 4 r.1.toNat ++ t.1, t.2)

/-- `CEN_READ`. -/
def cenReadCmd (c : Cmd) (d : Dev) : Res × Dev :=
  let r := byteAt c.payload 0
  let a := leAt c.payload 2 2
  let n := leAt c.payload 4 2
  if c.payload.length ≠ 6 ∨ 2 < r ∨ byteAt c.payload 1 ≠ 0 ∨ n = 0 ∨ 1024 < n ∨ Dev.coopWords r < a + n then (.st .range, d)
  else
    let x := d.coopHostReadN r a n
    (.reply .ok x.1, x.2)

def execCenRead (p : Path) (tag : Byte) (s : State) : Host.Outcome State Fault Refusal :=
  s.run fun d => d.runCmd 0x302 p tag cenReadCmd

/-- The slots of a command's mask. -/
def maskSlots (c : Cmd) : List Nat := bitsOf 64 (leAt c.payload 0 8)

/-- `CEN_START`: every named slot is enabled, or none (R171). -/
def cenStartCmd (c : Cmd) (d : Dev) : Res × Dev :=
  let l := (maskSlots c).filter fun s => !d.fb CEN_SLOT_s_CFG_EN s
  if c.payload.length ≠ 8 then (.st .range, d)
  else if l.any fun s => d.enableBad s (d.fg CEN_SLOT_s_CFG_LANE s) (d.fb CEN_SLOT_s_CFG_LEGCOMMIT s) l ||
      !Dev.trgOk (d.fg CEN_SLOT_s_CFG_TRG_TYPE s) (d.fg CEN_SLOT_s_TRG_SRC s) then (.st .state, d)
  else (.st .ok, l.foldl Dev.slotEnable d)

def execCenStart (p : Path) (tag : Byte) (s : State) : Host.Outcome State Fault Refusal :=
  s.run fun d => d.runCmd 0x303 p tag cenStartCmd

/-- `CEN_STOP` (R151). -/
def cenStopCmd (c : Cmd) (d : Dev) : Res × Dev :=
  if c.payload.length ≠ 8 then (.st .range, d)
  else (.st .ok, (((maskSlots c).filter fun s => d.fb CEN_SLOT_s_CFG_EN s).foldl Dev.slotDisable d).testStart)

def execCenStop (p : Path) (tag : Byte) (s : State) : Host.Outcome State Fault Refusal :=
  s.run fun d => d.runCmd 0x304 p tag cenStopCmd

/-- `CEN_KICK` (R148): the named slots that wait start. -/
def cenKickCmd (c : Cmd) (d : Dev) : Res × Dev :=
  let l := (maskSlots c).filter fun s => d.fb CEN_SLOT_s_CFG_EN s && d.fg CEN_SLOT_s_STAT_STATE s == 1
  if c.payload.length ≠ 8 then (.st .range, d)
  else (.reply .ok (leBytes 8 (l.foldl (fun m s => m + 2 ^ s) 0)), d.triggerFabric l)

def execCenKick (p : Path) (tag : Byte) (s : State) : Host.Outcome State Fault Refusal :=
  s.run fun d => d.runCmd 0x305 p tag cenKickCmd

/-- `CEN_CLEAR`. -/
def cenClearCmd (c : Cmd) (d : Dev) : Res × Dev :=
  if c.payload.length ≠ 8 then (.st .range, d)
  else (.st .ok, (maskSlots c).foldl (fun d s => (d.fs CEN_SLOT_s_STAT_FAULT 0 s).clearedCEN 0x20050118 s 13) d)

def execCenClear (p : Path) (tag : Byte) (s : State) : Host.Outcome State Fault Refusal :=
  s.run fun d => d.runCmd 0x306 p tag cenClearCmd

/-- `CEN_STATUS`. -/
def execCenStatus (p : Path) (tag : Byte) (s : State) : Host.Outcome State Fault Refusal :=
  s.run fun d => d.runCmd 0x308 p tag
    (capsCmd (0x20050004 :: (List.range 64).map fun s => 0x20050118 + 0x20 * s))

/-- `CEN_SELFTEST`. -/
def cenSelftestCmd (c : Cmd) (d : Dev) : Res × Dev :=
  let r := fun (n : Nat) (d : Dev) => (Res.reply .ok (leBytes 1 n), d)
  let waiting := fun (d : Dev) => d.cen.lane.toList.any fun l => l.testPend && l.testSlot.isNone
  if c.payload.length ≠ 1 ∨ 1 < byteAt c.payload 0 then (.st .range, d)
  else if byteAt c.payload 0 = 1 then
    if waiting d then
      let f := fun (l : Lane) => if l.testSlot.isNone then { l with testPend := false } else l
      let d : Dev := { d with cen := { d.cen with lane := vmap f d.cen.lane } }
      r 2 (if d.cen.lane.toList.any (·.testPend) then d else d.fs CEN_TEST_REQ 0)
    else r 3 d
  else if d.cen.lane.toList.any (·.testPend) then r 1 d
  else
    let d := (d.fs CEN_TEST_REQ 1).testAsk
    r (b2n (waiting d)) d

def execCenSelftest (p : Path) (tag : Byte) (s : State) : Host.Outcome State Fault Refusal :=
  s.run fun d => d.runCmd 0x309 p tag cenSelftestCmd

end Sys2Proof.Machine
end

