-- ==== Sys2Proof/Machine/Ethernet.lean ====
section
/-! DEFINITION. The Ethernet ports, their rings, the PTP timestamps and servo, the session contexts and the key store
(R294 to R306). -/
namespace Sys2Proof.Machine

namespace Dev

/-! ### Timestamps (R297) -/

/-- The timestamp of now: the PTP time of the tick, refined within it by a phase the spec leaves open, and corrected by
`dly` tenths of a nanosecond; in nanoseconds. -/
def phyStamp (d : Dev) (dly : Int) : Nat × Dev :=
  let f := d.fresh
  let t : Int := (d.ptpUnits + f.1 % max 1 (d.advance * d.fg CLK_PTP_INC_INC) : Nat) + dly * 2 ^ 28 / 10
  ((t / 2 ^ 28).toNat, f.2)

/-- Word 3 of a descriptor for a timestamp (R300). -/
def stampWord (ns : Nat) : Nat := ns / 10 ^ 9 % 4 * 2 ^ 30 + ns % 10 ^ 9

/-! ### The servo (R298) -/

/-- `LOCKED` takes a value; a change is an event. -/
def servoLock (d : Dev) (b : Bool) : Dev :=
  if d.fb NET_PTP_STAT_LOCKED == b then d else (d.fs NET_PTP_STAT_LOCKED (b2n b)).raise 102

/-- The servo's clock changes. -/
def updPtp (d : Dev) (f : Ptp → Ptp) : Dev := { d with net := { d.net with ptp := f d.net.ptp } }

/-- `CLK_PTP_INC` under the proportional-integral law, kept within its field's range (R63, R298). -/
def servoInc (d : Dev) (ofs acc : Int) : Nat :=
  let law := ofs * 2 ^ (15 - d.fg NET_PTP_CFG_KP) + acc * 2 ^ (15 - d.fg NET_PTP_CFG_KI)
  (clampI 0x13FAE148 0x14051EB8 ((d.net.ptp.base.getD (d.fg CLK_PTP_INC_INC) : Nat) - law * Config.servoUnit.toNat / 2 ^ 32)).toNat

/-- An offset from the master, in ns, steers PTP time: beyond `STEP_TH` it steps it away, else the law sets the rate (R298). -/
def servoSteer (d : Dev) (ofs : Int) : Dev :=
  if d.fg NET_PTP_CFG_STEP_TH * 1000 < ofs.natAbs then
    (d.updPtp fun q => { q with req := none, sync := none, peer := none }).ptpStep (-ofs)
  else
    let acc := d.net.ptp.acc + ofs
    let base := d.net.ptp.base.getD (d.fg CLK_PTP_INC_INC)
    (d.updPtp fun q => { q with acc := acc, base := some base }).fs CLK_PTP_INC_INC (d.servoInc ofs acc)

/-- The servo has an offset from its master, in ns (R298). -/
def servoOffset (d : Dev) (ofs : Int) : Dev :=
  let good := decide (ofs.natAbs ≤ d.fg NET_PTP_CFG_LOCK_TH)
  let inR := if good then min 16 (d.net.inRun + 1) else 0
  let outR := if good then 0 else min 4 (d.net.outRun + 1)
  let d := { d with net := { d.net with inRun := inR, outRun := outR } }
  let d := (d.fsS NET_PTP_STAT_OFFSET (clampI (-8388607) 8388607 ofs)).servoSteer ofs
  if inR = 16 then d.servoLock true else if outR = 4 then d.servoLock false else d

/-! ### The servo's messages (R298; IEEE 1588-2019) -/

/-- A timestamp of a message, in ns. -/
def msgTime (m : List Byte) : Nat := beAt m 34 6 * 10 ^ 9 + beAt m 40 4

/-- A time as a message carries it. -/
def msgStamp (ns : Nat) : List Byte := beBytes 6 (ns / 10 ^ 9) ++ beBytes 4 (ns % 10 ^ 9)

/-- The correction field, in ns. -/
def msgCorr (m : List Byte) : Int := sval 64 (beAt m 8 8) / 2 ^ 16

/-- The port identity of the clock: its MAC address widened, and the port's number. -/
def ownPtpId (d : Dev) (x : Nat) : List Byte := (d.ownMac x).take 3 ++ [0xFF, 0xFE] ++ (d.ownMac x).drop 3 ++ beBytes 2 (x + 1)

/-- A message of this clock: its type and flags, the domain, correction and sequence it answers or opens, its body. -/
def ptpMsg (d : Dev) (x type flags domain : Nat) (corr : List Byte) (seq : Nat) (body : List Byte) : List Byte :=
  leBytes 1 type ++ [2] ++ beBytes 2 (34 + body.length) ++ leBytes 1 domain ++ [0] ++ leBytes 1 flags ++ [0] ++ corr ++
    [0, 0, 0, 0] ++ d.ownPtpId x ++ beBytes 2 seq ++ (if type = 1 then [1] else [5]) ++ [0x7F] ++ body

/-- Send a message of this clock the way the frame `l` came: on layer 2, or over UDP. Answers the departure's timestamp. -/
def ptpTx (d : Dev) (x : Nat) (p : Parsed) (l : List Byte) (mac port : Nat) (m : List Byte) : Nat × Dev :=
  let t := d.phyStamp (d.fg NET_PORT_x_DLY_TX_DLY x)
  if p.udp.isNone then
    (t.1, t.2.frameTx x (beBytes 6 mac ++ d.ownMac x ++ (l.drop 12).take (p.l3 - 12) ++ m))
  else
    let f := t.2.fresh
    let h : UdpHead := {
      dst := if p.v4 then beBytes 6 0x01005E000181 else beBytes 6 0x333300000181, src := d.ownMac x, tci := p.tci,
      v6 := !p.v4, ipSrc := if p.v4 then d.ownIp4 x else d.ownIp6 x,
      ipDst := if p.v4 then [224, 0, 1, 129] else [0xFF, 0x0E] ++ List.replicate 12 0 ++ [0x01, 0x81], sport := port, dport := port }
    (t.1, f.2.frameTx x (udpFrame h f.1 m))

/-- The dataset of one master is better than another's: the rank of the grandmaster, then the way to it. -/
def betterMaster (a b : PtpMaster) : Bool :=
  if a.rank % 2 ^ 64 = b.rank % 2 ^ 64 then
    decide (a.steps < b.steps) || (a.steps == b.steps && decide (beNat a.port < beNat b.port))
  else decide (a.rank < b.rank)

/-- A master qualifies: two `Announce` messages within four of its intervals, the last within three. -/
def masterFit (now : Nat) (q : PtpMaster) : Bool :=
  match q.seen with
  | a :: b :: _ => decide (now ≤ b + 4 * q.wait) && decide (now ≤ a + 3 * q.wait) && decide (q.steps < 255)
  | _ => false

/-- The best of the masters that qualify. -/
def bestMaster (now : Nat) (l : List PtpMaster) : Option PtpMaster :=
  (l.filter (masterFit now)).foldl (fun b q =>
    match b with
    | none => some q
    | some c => if betterMaster q c then some q else b) none

/-- The engines choose the master again (R298); a change of it starts the exchanges anew. -/
def ptpChoose (d : Dev) : Dev :=
  let b := (bestMaster d.clk.ticks d.net.ptp.masters).map (·.port)
  let d := d.fs NET_PTP_STAT_MASTER_SEEN (b2n b.isSome)
  if b = d.net.ptp.best then d
  else d.updPtp fun q => { q with best := b, sync := none, req := none, peer := none, path := none }

/-- An `Announce` is heard. -/
def ptpAnnounce (d : Dev) (m : List Byte) : Dev :=
  let id := (m.drop 20).take 10
  let old := d.net.ptp.masters.find? fun q => q.port == id
  let k := sval 8 (byteAt m 33)
  let w := if k < 0 then 800000000 / 2 ^ k.natAbs else 800000000 * 2 ^ k.natAbs
  let q : PtpMaster := {
    port := id, rank := beAt m 47 14, steps := beAt m 61 2, wait := w,
    seen := (d.clk.ticks :: (old.map (·.seen)).getD []).take 2 }
  (d.updPtp fun z => { z with masters := q :: z.masters.filter fun q => q.port != id && decide (d.clk.ticks ≤ q.seen.headD 0 + 4 * q.wait) }).ptpChoose

/-- A `Sync` is complete: `t1` its departure, `t2` its arrival, in ns. The clock asks for the delay again. -/
def ptpSynced (d : Dev) (x : Nat) (p : Parsed) (l m : List Byte) (t1 t2 : Nat) (corr : Int) : Dev :=
  let ms : Int := (t2 : Int) - t1 - corr
  let d := d.updPtp fun q => { q with ms := ms, sync := none }
  let power := d.fb NET_PTP_CFG_PROF
  let n := d.net.ptp.seq
  let z := List.replicate 8 (0 : Byte)
  let s := if power then
      d.ptpTx x p l 0x0180C200000E 319 (d.ptpMsg x 2 0 (byteAt m 4) z n (List.replicate 20 0))
    else d.ptpTx x p l 0x011B19000000 319 (d.ptpMsg x 1 0 (byteAt m 4) z n (List.replicate 10 0))
  let d := s.2.updPtp fun q => { q with seq := (n + 1) % 65536, req := some (n, s.1) }
  match d.net.ptp.path with
  | some y => d.servoOffset (ms - y)
  | none => d

/-- A peer asks for the delay: the clock answers in two steps. -/
def ptpPeerAsk (d : Dev) (x : Nat) (p : Parsed) (l m : List Byte) (t : Nat) : Dev :=
  let who := (m.drop 20).take 10
  let n := beAt m 30 2
  let s := d.ptpTx x p l 0x0180C200000E 319 (d.ptpMsg x 3 2 (byteAt m 4) (List.replicate 8 0) n (msgStamp t ++ who))
  (s.2.ptpTx x p l 0x0180C200000E 320 (s.2.ptpMsg x 10 0 (byteAt m 4) ((m.drop 8).take 8) n (msgStamp s.1 ++ who))).2

/-- A message of the port that the servo runs on; `t` the timestamp of its arrival, in ns (R298). -/
def ptpHeard (d : Dev) (x : Nat) (p : Parsed) (l m : List Byte) (t : Nat) : Dev :=
  let q := d.net.ptp
  let power := d.fb NET_PTP_CFG_PROF
  let master := q.best == some ((m.drop 20).take 10)
  let own := (m.drop 44).take 10 == d.ownPtpId x
  let seq := beAt m 30 2
  if byteAt m 1 % 16 ≠ 2 ∨ (power = true ∧ p.udp.isSome = true) then d
  else match byteAt m 0 % 16 with
    | 11 => d.ptpAnnounce m
    | 0 =>
      if !master then d
      else if (byteAt m 6).testBit 1 then d.updPtp fun q => { q with sync := some (seq, t, msgCorr m) }
      else d.ptpSynced x p l m (msgTime m) t (msgCorr m)
    | 8 =>
      match q.sync with
      | some (n, t2, c) => if master && n == seq then d.ptpSynced x p l m (msgTime m) t2 (c + msgCorr m) else d
      | none => d
    | 9 =>
      match q.req with
      | some (n, t3) =>
        if !power && master && own && n == seq then
          d.updPtp fun q => { q with req := none, path := some ((q.ms + ((msgTime m : Int) - t3 - msgCorr m)) / 2) }
        else d
      | none => d
    | 2 => if power then d.ptpPeerAsk x p l m t else d
    | 3 =>
      match q.req with
      | some (n, t1) =>
        if !(power && own && n == seq) then d
        else if (byteAt m 6).testBit 1 then d.updPtp fun q => { q with peer := some (n, t, msgTime m, msgCorr m) }
        else d.updPtp fun q => { q with req := none, path := some (((t : Int) - t1 - msgCorr m) / 2) }
      | none => d
    | 10 =>
      match q.peer, q.req with
      | some (n, t4, t2, c), some (k, t1) =>
        if power && own && n == seq && k == seq then
          d.updPtp fun q => { q with req := none, peer := none, path := some (((t4 : Int) - t1 - ((msgTime m : Int) - t2) - c - msgCorr m) / 2) }
        else d
      | _, _ => d
    | _ => d

/-! ### Sending -/

/-- The descriptors of the frame at the head of transmit ring `r`, from descriptor `i` to `EOP` (R299). -/
def txChain (d : Dev) (r : Nat) : Nat → Nat → List Nat → Chain
  | 0, i, l => .long l i
  | fuel + 1, i, l =>
    if i = d.fg NET_RING_r_TAIL_TAIL r then .short
    else
      let w := d.descWord r i 0
      if w < 2 ^ 31 then .notOwned
      else if w.testBit 29 then .full (l ++ [i]) (d.ringNext r i)
      else txChain d r fuel (d.ringNext r i) (l ++ [i])

/-- The frame at the head of transmit ring `r`. -/
def txFrame (d : Dev) (r : Nat) : Chain := d.txChain r 8 (d.fg NET_RING_r_HEAD_HEAD r) []

/-- Port and queue of the frame at the head of transmit ring `r`: the ring's own; a session frame's are its context's (R300). -/
def txLane (d : Dev) (r : Nat) : Nat × Nat :=
  let i := d.fg NET_RING_r_HEAD_HEAD r
  let s := d.descWord r i 2 % 128
  if (d.descWord r i 0).testBit 24 then (d.sessPort s, d.fg NET_CTX_s_0_TXQ s)
  else (d.fg NET_RING_r_CFG_PORT r, d.fg NET_RING_r_CFG_QUEUE r)

/-- A ring has a whole frame to send on port `x`, queue `q`. -/
def txReady (d : Dev) (x q r : Nat) : Bool :=
  d.ringOn r && d.txLane r == (x, q) &&
  match d.txFrame r with
  | .full _ _ => true
  | .long _ _ => true
  | _ => false

/-- Rings of a port that reach a descriptor with `OWN` at 0 stop (R299). -/
def txStops (d : Dev) (x : Nat) : Dev :=
  (List.range 16).foldl (fun d r =>
    if d.ringOn r && (d.txLane r).1 == x && d.txFrame r == .notOwned then d.fs NET_RING_r_HEAD_OWN_ERR 1 r else d) d

/-- The next ring of a list after `last`, round-robin. -/
def nextRing (last : Nat) (l : List Nat) : Option Nat :=
  match l.find? fun r => decide (last < r) with
  | some r => some r
  | none => l.head?

/-- The highest of the queues below `n` with a frame, and the ring whose turn it is (R295). -/
def txChoose (d : Dev) (x : Nat) : Nat → Option (Nat × Nat)
  | 0 => none
  | q + 1 => match nextRing (vget d.net.rr (8 * x + q)) ((List.range 16).filter (d.txReady x q)) with
    | some r => some (q, r)
    | none => txChoose d x q

/-- A port that sends nothing takes up the next frame. -/
def txPick (d : Dev) (x : Nat) : Dev :=
  if !d.fb NET_CTRL_EN || !d.fb NET_PORT_x_CFG_EN x then d
  else
    let d := d.txStops x
    let busy := match vget d.net.txCur x with
      | some r => d.ringOn r
      | none => false
    if busy then d
    else
      match d.txChoose x 8 with
      | none => { d with net := { d.net with txCur := vset d.net.txCur x none } }
      | some (q, r) =>
        let n := { d.net with txCur := vset d.net.txCur x (some r), rr := vset d.net.rr (8 * x + q) r }
        { d with net := n }

/-- The bytes a frame's descriptors name. -/
def txGather (d : Dev) (r : Nat) (l : List Nat) : List Byte :=
  l.flatMap fun i => d.rdN (d.descWord r i 1) (d.descWord r i 0 % 65536)

/-- A buffer of the frame lies outside memory, or holds an uncorrectable error. -/
def txBad (d : Dev) (r : Nat) (l : List Nat) : Bool :=
  l.any fun i =>
    let a := d.descWord r i 1
    let n := d.descWord r i 0 % 65536
    !(List.range n).all (fun k => d.ramAt (a + k)) || d.ueIn a n

/-- Write the frame's descriptors back (R300). -/
def txWriteBack (d : Dev) (r status stamp : Nat) (l : List Nat) : Dev :=
  l.foldl (fun d i =>
    let w := d.descWord r i 0
    let w0 := w % 2 ^ 31 / 2 ^ 23 * 2 ^ 23 + status * 2 ^ 16 + w % 65536
    let d := d.descPut r i w0 (d.descWord r i 1) (d.descWord r i 2) (if w.testBit 28 then stamp else d.descWord r i 3)
    if w.testBit 23 then d.raise 91 r else d) d

/-- A frame as it leaves (R296, R297, R300): tag, checksums, origin timestamp. -/
def txBuild (l : List Byte) (w0 w2 ns : Nat) : List Byte :=
  let l := if w0.testBit 25 then l.take 12 ++ beBytes 2 0x8100 ++ beBytes 2 (w2 / 65536) ++ l.drop 12 else l
  let l := if w0.testBit 26 then putSums l else l
  let p := parse l
  match ptpAt p l with
  | some o =>
    if w0.testBit 27 && byteAt l o % 16 == 0 then
      let m := putAt l (o + 34) (beBytes 6 (ns / 10 ^ 9) ++ beBytes 4 (ns % 10 ^ 9))
      if p.udp.isSome && (w0.testBit 26 || beAt l (o - 2) 2 != 0) then putUdpSum m else m
    else l
  | none => l

/-- The frame of ring `r` on port `x` leaves, or fails (R300). -/
def txSend (d : Dev) (x r : Nat) (l : List Nat) (long : Bool) : Nat × Nat × Dev :=
  let i := l.headD 0
  let w0 := d.descWord r i 0
  let w2 := d.descWord r i 2
  let s := w2 % 128
  let bytes := d.txGather r l
  let sess := w0.testBit 24
  if !d.fb NET_PORT_x_STAT_LINK x then (1, 0, d)
  else if sess && !d.sessReady s then (2, 0, d.sessSend s 5 bytes)
  else if long || (if sess then d.sessLong s bytes.length else decide (2044 < bytes.length + if w0.testBit 25 then 4 else 0)) then (3, 0, d)
  else if d.txBad r l then (4, 0, d)
  else if sess then (0, 0, d.sessSend s 5 bytes)
  else
    let t := d.phyStamp (d.fg NET_PORT_x_DLY_TX_DLY x)
    let m := txBuild bytes w0 w2 t.1
    let w3 := if d.fb NET_PORT_x_CFG_PTP_EN x && ptpEvent (parse m) m then stampWord t.1 else 0
    (0, w3, t.2.frameTx x m)

/-- The frame that port `x` is sending is complete. -/
def txComplete (d : Dev) (x : Nat) : Dev :=
  match vget d.net.txCur x with
  | none => d
  | some r =>
    let free := { d with net := { d.net with txCur := vset d.net.txCur x none } }
    if d.clk.ticks < vget d.net.pause x then d
    else if !d.ringOn r then free.txPick x
    else
      let go := fun (l : List Nat) (next : Nat) (long : Bool) =>
        let z := free.txSend x r l long
        let d := z.2.2.txWriteBack r z.1 z.2.1 l
        ((d.fs NET_RING_r_HEAD_HEAD next r).finc NET_RING_r_CNT_FRAMES r).txPick x
      match d.txFrame r with
      | .full l next => go l next false
      | .long l next => go l next true
      | .notOwned => (free.fs NET_RING_r_HEAD_OWN_ERR 1 r).txPick x
      | .short => free.txPick x

/-! ### Receiving (R294 to R297, R302) -/

/-- The port accepts a frame to this address (R295). -/
def macFilter (d : Dev) (x : Nat) (dst : List Byte) : Bool :=
  dst == d.ownMac x || dst == List.replicate 6 0xFF ||
  (d.fb NET_PORT_x_CFG_PTP_EN x && (dst == beBytes 6 0x011B19000000 || dst == beBytes 6 0x0180C200000E))

/-- The answer to an ARP request for the port's own address (R296). -/
def arpAnswer (d : Dev) (x : Nat) (p : Parsed) (l : List Byte) : Option (List Byte) :=
  let own := d.ownIp4 x
  if p.etype = 0x0806 ∧ beAt l (p.l3 + 6) 2 = 1 ∧ (l.drop (p.l3 + 24)).take 4 = own ∧ d.fg NET_PORT_x_IP4_ADDR x ≠ 0 then
    some ((l.drop 6).take 6 ++ d.ownMac x ++ (l.drop 12).take (p.l3 - 12) ++ (l.drop p.l3).take 6 ++ beBytes 2 2 ++
      d.ownMac x ++ own ++ (l.drop (p.l3 + 8)).take 10)
  else none

/-- The answer to an ICMPv6 neighbour solicitation for the port's own address (R296). -/
def ndAnswer (d : Dev) (x : Nat) (p : Parsed) (l : List Byte) : Option (List Byte) :=
  let own := d.ownIp6 x
  let o := p.l3
  if p.etype = 0x86DD ∧ byteAt l (o + 6) = 58 ∧ byteAt l (o + 40) = 135 ∧ (l.drop (o + 48)).take 16 = own ∧
      own ≠ List.replicate 16 0 then
    let dst := (l.drop (o + 8)).take 16
    let body := [136, 0, 0, 0, 0x60, 0, 0, 0] ++ own ++ [2, 1] ++ d.ownMac x
    let c := 65535 - fold16 (sum16 own + sum16 dst + 58 + body.length + sum16 body)
    some ((l.drop 6).take 6 ++ d.ownMac x ++ (l.drop 12).take (o - 12) ++ [0x60, 0, 0, 0] ++ beBytes 2 body.length ++ [58, 255] ++
      own ++ dst ++ putAt body 2 (beBytes 2 c))
  else none

/-- The frame is session traffic: UDP to the local port of an enabled context of the port (R302, R305). -/
def isSession (d : Dev) (x : Nat) (p : Parsed) (l : List Byte) : Bool :=
  match p.udp with
  | none => false
  | some (o, _) => (List.range 128).any fun s =>
      d.fb NET_CTX_s_0_EN s && d.fg NET_CTX_s_0_PORT s == x && d.fg NET_CTX_s_1_LPORT s == beAt l (o + 2) 2

/-- Ring `r` matches the frame (R302). -/
def ringMatch (d : Dev) (x : Nat) (p : Parsed) (l : List Byte) (r : Nat) : Bool :=
  let v := d.fg NET_RING_r_MATCH_VALUE r
  d.fb NET_RING_r_CFG_EN r && d.fbit NET_RING_r_MATCH_PORTS x r &&
  match d.fg NET_RING_r_MATCH_KIND r with
  | 0 => p.etype == v
  | 1 => match p.udp with
    | some (o, _) => beAt l (o + 2) 2 == v
    | none => false
  | _ => match p.tci with
    | some t => t % 4096 == v
    | none => false

/-- Deliver a frame to the rings (R301, R302): `w3` its timestamp, if it has one. -/
def frameDeliver (d : Dev) (x : Nat) (p : Parsed) (l : List Byte) (w3 : Option Nat) : Dev :=
  let strip := d.fb NET_PORT_x_CFG_STRIP x && p.tci.isSome
  let bytes := if strip then l.take 12 ++ l.drop 16 else l
  let tci := if strip then p.tci.getD 0 else 0
  let prio := match p.tci with
    | some t => t / 8192
    | none => d.fg NET_PORT_x_CFG_DEF_PRIO x
  let w2 := tci * 65536 + x * 32768 + prio * 4096
  let fl := fun (cls : Nat) => b2n w3.isSome * 2 ^ 28 + b2n (csumOk p l) * 2 ^ 27 + b2n strip * 2 ^ 26 + cls * 2 ^ 16
  match ((List.range 16).map (· + 16)).find? (d.ringMatch x p l) with
  | some r => d.ringDeliver r (fl r) w2 (w3.getD 0) bytes
  | none =>
    if d.fb NET_CTRL_DEF_EN then d.ringDeliver (d.fg NET_CTRL_DEF_RING) (fl 0xFF) w2 (w3.getD 0) bytes else d

/-- Ticks of `q` pause quanta of 512 bit times (R294). -/
def pauseTicks (d : Dev) (x q : Nat) : Nat :=
  let f := match d.fg NET_PORT_x_STAT_SPEED x with
    | 0 => 100 | 1 => 10 | _ => 1
  (q * 4096 * f + 9) / 10

/-- The port's receive buffer has taken a frame: with `PAUSE_TX` at 1 a PAUSE frame leaves where the buffer is above three quarters full
(R294). `fill` says so, with the quanta that the frame asks for, which the rule leaves open. -/
def pauseSend (d : Dev) (x : Nat) (fill : Option (BitVec 16)) : Dev :=
  match fill with
  | none => d
  | some q =>
    if d.fb NET_PORT_x_CFG_PAUSE_TX x then
      d.frameTx x (beBytes 6 0x0180C2000001 ++ d.ownMac x ++ beBytes 2 0x8808 ++ beBytes 2 1 ++ beBytes 2 q.toNat)
    else d

/-! ### Sessions and keys (R304, R306) -/

/-- A session is enabled (R303, R305, R289). -/
def sessEnable (d : Dev) (s : Nat) : Dev :=
  let n := { d.net with seen := vset d.net.seen s [] }
  let h := { d.hst with sver := vset d.hst.sver s 1 }
  ({ d with net := n, hst := h } : Dev).fs NET_SESS_s_STAT_TX_EXH 0 s

/-- Slot `k` is named by an enabled session (R306). -/
def keyNamed (d : Dev) (k : Nat) : Bool :=
  (List.range 128).any fun s => d.fb NET_CTX_s_0_EN s && (d.fg NET_CTX_s_10_KEY0 s == k || d.fg NET_CTX_s_10_KEY1 s == k)

/-- Slot `k` takes a key, or none. -/
def keyPut (d : Dev) (k : Nat) (key : Option (List Byte)) : Dev :=
  ({ d with net := { d.net with key := vset d.net.key k key } } : Dev).fsBit NET_KEY_VALID_k_VALID (k % 32) key.isSome (k / 32)

/-- The register fields of a session context: base of its word, in the order of R304. -/
def ctxWords (s : Nat) : List Nat := (List.range 16).map fun k => 0x200B8000 + 64 * s + 4 * k

/-- The path may use key commands (R306). -/
def keyPath (d : Dev) : Path → Bool
  | .host => true
  | .sess s => d.fb NET_CTX_s_0_KEYMGMT s

/-! ### Registers (R318) -/

/-- Combinations out of range: a ring beyond memory, `TAIL` beyond `SIZE`. -/
def rangeNET (d : Dev) (b n w : Nat) : Bool :=
  if b = 0x200B1000 then !d.placed (16 * NET_RING_r_BASE_BASE.of w) (16 * d.fg NET_RING_r_CFG_SIZE n)
  else if b = 0x200B1004 then
    NET_RING_r_CFG_EN.of w == 1 && !d.placed (16 * d.fg NET_RING_r_BASE_BASE n) (16 * NET_RING_r_CFG_SIZE.of w)
  else if b = 0x200B100C then decide (d.fg NET_RING_r_CFG_SIZE n ≤ NET_RING_r_TAIL_TAIL.of w)
  else false

/-- A word of a session context, which stands still while the context is enabled (R304). -/
def lockedNET (d : Dev) (b n : Nat) : Bool := decide (0x200B8000 ≤ b) && d.fb NET_CTX_s_0_EN n

/-- Writes refused by the state (R306, R318). -/
def stateNET (d : Dev) (b n w : Nat) : Bool :=
  if b = 0x200B0010 then d.fb NET_CTRL_EN && NET_IBUF_BLK.of w != d.fg NET_IBUF_BLK
  else if b = 0x200B0100 then
    d.fb NET_PORT_x_CFG_EN n && ([NET_PORT_x_CFG_PTP_EN, NET_PORT_x_CFG_PAUSE_RX, NET_PORT_x_CFG_PAUSE_TX, NET_PORT_x_CFG_STRIP,
      NET_PORT_x_CFG_RESP, NET_PORT_x_CFG_DEF_PRIO].any fun F => F.of w != d.fg F n)
  else if b = 0x200B1000 then d.fb NET_RING_r_CFG_EN n && NET_RING_r_BASE_BASE.of w != d.fg NET_RING_r_BASE_BASE n
  else if b = 0x200B1004 then
    d.fb NET_RING_r_CFG_EN n && ([NET_RING_r_CFG_PORT, NET_RING_r_CFG_QUEUE, NET_RING_r_CFG_SIZE].any fun F => F.of w != d.fg F n)
  else if b = 0x200B0520 then d.keyNamed (NET_KEY_CTRL_SLOT.of w)
  else false

/-- What a W1C clear does besides clearing. -/
def clearedNET (d : Dev) (b n lo : Nat) : Dev :=
  if b = 0x200B0104 ∧ lo = 1 then (d.fs NET_PORT_x_STAT_LONG_CNT 0 n).fs NET_PORT_x_STAT_FCS_CNT 0 n
  else if b = 0x200B1014 ∧ lo = 23 then d.fs NET_RING_r_CNT_DROP_CNT 0 n
  else if b = 0x200B4000 ∧ lo = 0 then
    ((d.fs NET_SESS_s_STAT_AUTH_CNT 0 n).fs NET_SESS_s_STAT_REPLAY_CNT 0 n).fs NET_SESS_s_STAT_TYPE_CNT 0 n
  else if b = 0x200B1008 ∧ lo = 31 then (d.txPick 0).txPick 1
  else d

/-- What a write does after it is stored. -/
def afterNET (d d0 : Dev) (b n w : Nat) : Dev :=
  if b = 0x200B0520 then
    let k := NET_KEY_CTRL_SLOT.of w
    let d := (d.fs NET_KEY_CTRL_OP 0).fs NET_KEY_CTRL_SLOT 0
    if NET_KEY_CTRL_OP.of w = 1 then
      let key := (List.range 8).flatMap fun i => leBytes 4 (d.fg NET_KEY_DATA_k_KEY i)
      (List.range 8).foldl (fun d i => d.fs NET_KEY_DATA_k_KEY 0 i) (d.keyPut k (some key))
    else d.keyPut k none
  else if b = 0x200B8000 then
    if d.fb NET_CTX_s_0_EN n && !d0.fb NET_CTX_s_0_EN n then d.sessEnable n else d
  else if b = 0x200B0400 then
    if [NET_PTP_CFG_SERVO, NET_PTP_CFG_PROF, NET_PTP_CFG_PORT].any (fun F => d.fg F != d0.fg F) then
      ({ d with net := { d.net with ptp := {}, inRun := 0, outRun := 0 } } : Dev).fs NET_PTP_STAT_MASTER_SEEN 0
    else d
  else if b = 0x200B0000 ∨ b = 0x200B0100 ∨ b = 0x200B1004 ∨ b = 0x200B100C then (d.txPick 0).txPick 1
  else d

end Dev

/-! ### Events -/

/-- A port's link goes up or down (R294). -/
def ethLinkDev (x : Nat) (up half : Bool) (speed : Nat) (d : Dev) : Dev :=
  let was := d.fb NET_PORT_x_STAT_LINK x
  let now := up && !half && d.fb NET_CTRL_EN && d.fb NET_PORT_x_CFG_EN x
  let d := (d.fs NET_PORT_x_STAT_HALF (b2n (up && half)) x).fs NET_PORT_x_STAT_LINK (b2n now) x
  let d := if up then d.fs NET_PORT_x_STAT_SPEED speed x else d
  let d := if was && !now then d.fs NET_PORT_x_STAT_LINK_SEEN 1 x else d
  if was == now then d else d.raise 88 x

def execEthLinkChange (x : Fin 2) (up half : Bool) (speed : Fin 3) (s : State) : Host.Outcome State Fault Refusal :=
  s.runIf (ethLinkDev x up half speed)

/-- A frame arrives, with its check sequence; `fill` as in `Dev.pauseSend` (R294 to R298, R302). -/
def ethFrameDev (x : Nat) (frame : List Byte) (fill : Option (BitVec 16)) (d : Dev) : Dev :=
  let n := frame.length
  let l := frame.take (n - 4)
  if !d.fb NET_CTRL_EN || !d.fb NET_PORT_x_CFG_EN x || !d.fb NET_PORT_x_STAT_LINK x || decide (n < 64) then d
  else if 2048 < n then d.fcnt NET_PORT_x_STAT_LONG_CNT NET_PORT_x_STAT_CNT_OVF x
  else if leAt frame (n - 4) 4 ≠ fcs l then d.fcnt NET_PORT_x_STAT_FCS_CNT NET_PORT_x_STAT_CNT_OVF x
  else if beAt l 12 2 = 0x8808 then
    if d.fb NET_PORT_x_CFG_PAUSE_RX x && beAt l 14 2 == 1 && (l.take 6 == beBytes 6 0x0180C2000001 || l.take 6 == d.ownMac x) then
      { d with net := { d.net with pause := vset d.net.pause x (d.clk.ticks + d.pauseTicks x (beAt l 16 2)) } }
    else d
  else if !d.macFilter x (l.take 6) then d
  else
    let d := d.pauseSend x fill
    let p := parse l
    let answer := if d.fb NET_PORT_x_CFG_RESP x then (d.arpAnswer x p l).or (d.ndAnswer x p l) else none
    let d := match answer with
      | some a => d.frameTx x a
      | none => d
    let ev := d.fb NET_PORT_x_CFG_PTP_EN x && ptpEvent p l
    let t := d.phyStamp (-(d.fg NET_PORT_x_DLY_RX_DLY x : Int))
    let d := if ev then t.2 else d
    let d := match ptpOn [319, 320] p l with
      | some o =>
        if d.fb NET_PTP_CFG_SERVO && d.fb NET_PORT_x_CFG_PTP_EN x && d.fg NET_PTP_CFG_PORT == x then d.ptpHeard x p l (l.drop o) t.1 else d
      | none => d
    if d.isSession x p l then d else d.frameDeliver x p l (if ev then some (Dev.stampWord t.1) else none)

def execEthFrameReceived (x : Fin 2) (frame : List Byte) (fill : Option (BitVec 16)) (s : State) : Host.Outcome State Fault Refusal :=
  s.runTal (Dev.clocked (ethFrameDev x frame fill))

/-- The frame that a port is sending has left (R295, R300). -/
def execTxFrameComplete (x : Fin 2) (s : State) : Host.Outcome State Fault Refusal := s.runIf fun d => d.txComplete x

/-! ### Commands (R306, R316) -/

/-- A context written by `NET_SESS_OPEN` has an admitted encoding (R304). -/
def ctxOk (l : List Byte) : Bool :=
  byteAt l 0 / 64 == 0 && decide (byteAt l 1 ≤ 4) && decide (16 ≤ byteAt l 2) && decide (byteAt l 2 ≤ 31) &&
  byteAt l 3 / 8 == 0 && decide (byteAt l 40 ≤ 127) && decide (byteAt l 41 ≤ 127) && decide (byteAt l 42 ≤ 1) && byteAt l 43 == 0 &&
  (byteAt l 0 / 4 % 2 == 1 || leAt l 20 12 == 0)

/-- The words of a context as register fields. -/
def ctxFields : List Fld :=
  [NET_CTX_s_0_PORT, NET_CTX_s_0_IPV6, NET_CTX_s_0_CMD, NET_CTX_s_0_KEYMGMT, NET_CTX_s_0_VLAN, NET_CTX_s_0_DEST, NET_CTX_s_0_RING,
   NET_CTX_s_0_TXQ, NET_CTX_s_1_TCI, NET_CTX_s_1_LPORT, NET_CTX_s_2_RPORT, NET_CTX_s_2_RMAC01, NET_CTX_s_3_RMAC25,
   NET_CTX_s_4_RIP0, NET_CTX_s_5_RIP1, NET_CTX_s_6_RIP2, NET_CTX_s_7_RIP3, NET_CTX_s_8_LTAG, NET_CTX_s_9_RTAG, NET_CTX_s_10_KEY0,
   NET_CTX_s_10_KEY1, NET_CTX_s_10_TXPH, NET_CTX_s_11_SALT, NET_CTX_s_12_TXNUM_LO, NET_CTX_s_13_TXNUM_HI, NET_CTX_s_14_RXNUM_LO,
   NET_CTX_s_15_RXNUM_HI]

/-- `NET_SESS_OPEN`. -/
def sessOpenCmd (c : Cmd) (d : Dev) : Res × Dev :=
  let s := byteAt c.payload 0
  let l := c.payload.drop 4
  if c.payload.length ≠ 68 ∨ 127 < s ∨ leAt c.payload 1 3 ≠ 0 ∨ ctxOk l = false then (.st .range, d)
  else if d.fb NET_CTX_s_0_EN s then (.st .state, d)
  else
    let d := ctxFields.foldl (fun d F => d.fs F (F.of (leAt l ((F.base - 0x200B8000) % 64) 4)) s) d
    (.st .ok, (d.fs NET_CTX_s_0_EN 1 s).sessEnable s)

def execNetSessOpen (p : Path) (tag : Byte) (s : State) : Host.Outcome State Fault Refusal :=
  s.run fun d => d.runCmd 0x802 p tag sessOpenCmd

/-- The path is that of session `s`. -/
def onSess (p : Path) (s : Nat) : Bool :=
  match p with
  | .host => false
  | .sess k => k.val == s

/-- `NET_SESS_CLOSE`: the session's outstanding commands are abandoned without reply. -/
def sessCloseCmd (c : Cmd) (d : Dev) : Res × Dev :=
  let s := byteAt c.payload 0
  if c.payload.length ≠ 1 ∨ 127 < s then (.st .range, d)
  else
    let d := d.fs NET_CTX_s_0_EN 0 s
    let h := { d.hst with outst := d.hst.outst.filter (fun c => !onSess c.path s), sver := vset d.hst.sver s 1 }
    (.st .ok, ({ d with hst := h } : Dev).showOutst)

def execNetSessClose (p : Path) (tag : Byte) (s : State) : Host.Outcome State Fault Refusal :=
  s.run fun d => d.runCmd 0x803 p tag sessCloseCmd

/-- `NET_KEY_LOAD` (R306). -/
def keyLoadCmd (c : Cmd) (d : Dev) : Res × Dev :=
  let k := byteAt c.payload 0
  let op := byteAt c.payload 1
  if 127 < k ∨ 1 < op ∨ leAt c.payload 2 2 ≠ 0 ∨ c.payload.length ≠ (if op = 0 then 36 else 4) then (.st .range, d)
  else if !d.keyPath c.path then (.st .auth, d)
  else if d.keyNamed k then (.st .state, d)
  else (.st .ok, d.keyPut k (if op = 0 then some (c.payload.drop 4) else none))

def execNetKeyLoad (p : Path) (tag : Byte) (s : State) : Host.Outcome State Fault Refusal :=
  s.run fun d => d.runCmd 0x804 p tag keyLoadCmd

/-- `NET_REKEY`: the slot is named in the inactive phase, and the phase switches. -/
def rekeyCmd (c : Cmd) (d : Dev) : Res × Dev :=
  let s := byteAt c.payload 0
  let k := byteAt c.payload 1
  if c.payload.length ≠ 2 ∨ 127 < s ∨ 127 < k then (.st .range, d)
  else if !d.keyPath c.path then (.st .auth, d)
  else if (vget d.net.key k).isNone then (.st .state, d)
  else
    let ph := d.fg NET_CTX_s_10_TXPH s
    let d := if ph = 0 then d.fs NET_CTX_s_10_KEY1 k s else d.fs NET_CTX_s_10_KEY0 k s
    (.st .ok, d.fs NET_CTX_s_10_TXPH (1 - ph) s)

def execNetRekey (p : Path) (tag : Byte) (s : State) : Host.Outcome State Fault Refusal :=
  s.run fun d => d.runCmd 0x805 p tag rekeyCmd

end Sys2Proof.Machine
end

