-- ==== Sys2Proof/Machine/Weigh.lean ====
section
/-! DEFINITION. Weighmaster: requests, caps, arbitration, energy levels, bursts, parallel groups (R200 to R211). -/
namespace Sys2Proof.Machine

namespace Dev

/-- Weighmaster's hidden state changes. -/
def updWgh (d : Dev) (f : Wgh → Wgh) : Dev := { d with wgh := f d.wgh }

/-- Requester `r` beyond its registers. -/
def rq (d : Dev) (r : Nat) : Req := vget d.wgh.req r

/-- Requester `r` changes. -/
def updReq (d : Dev) (r : Nat) (f : Req → Req) : Dev := d.updWgh fun x => { x with req := vset x.req r (f (vget x.req r)) }

/-- Weighmaster arbitrates (R205, R210). -/
def wghRuns (d : Dev) : Bool := d.fb WGH_CTRL_EN && !d.follower

/-- Enabled requesters. -/
def reqs (d : Dev) : List Nat := (List.range 32).filter fun r => d.fb WGH_REQ_r_CFG_EN r

/-- The requester is a sink. -/
def isSink (d : Dev) (r : Nat) : Bool := d.fb WGH_REQ_r_CFG_KIND r

/-- A data word in kW, or kWh, as tenths: rounded down and limited to 0 … 65,535 (R202, R203). -/
def tenths (w : BitVec 32) : Nat := (clampI 0 65535 (wv w * 10 / 2 ^ 55)).toNat

/-- `WREQ` (R203): requester `n`'s request. -/
def wreq (d : Dev) (n : Nat) (w : BitVec 32) : Dev :=
  if d.fb WGH_REQ_r_CFG_EN n then d.updReq n fun x => { x with req := tenths w, reqAt := some d.clk.ticks, stale := false } else d

/-- The grid state the caps and levels go by: a follower takes the leader's (R177). -/
def gridState (d : Dev) : Nat := if d.follower then d.grd.leadState else d.fg GRD_STAT_STATE

/-- Grid-connected, for Weighmaster (R204, R207). -/
def gridOn (d : Dev) : Bool := d.gridState == 5 || d.gridState == 6

/-! ### Caps and levels (R202 to R204, R207) -/

/-- Requester `r` is stale at this instant (R203). -/
def staleNow (d : Dev) (r : Nat) : Bool :=
  match (d.rq r).reqAt with
  | none => true
  | some t => decide (t + d.fg WGH_CTRL_STALE * 80000 < d.clk.ticks)

/-- The cap of requester `r` (R204); a leader applies no zone cap to another member's requester (R210). -/
def capOf (d : Dev) (r : Nat) : Nat :=
  let lim := d.fg WGH_REQ_r_LIM_LIM r
  let e := d.fg WGH_SUPPLY_E
  let zone := if d.fb WGH_REQ_r_CFG_ZONE_EN r && !(d.leader && d.fb WGH_REQ_r_CFG_NODE r) then
    lim * d.fg THM_ZONE_z_STAT_FRAC (d.fg WGH_REQ_r_CFG_ZONE r) / 32768 else lim
  let grid := if d.fb WGH_REQ_r_CFG_GRID r then
    (if !d.gridOn then 0 else match d.grd.ramp with
      | some t => min lim (lim * (d.clk.ticks - t) / (d.fg GRD_RC_T_ES_RAMP * 1000 * msTicks))
      | none => lim) else lim
  let chg := if d.fb WGH_REQ_r_CFG_BATCHG r && !d.fb THM_STAT_CHG_OK then 0 else lim
  let low := d.fb WGH_CTRL_SOC_EN && (decide (e ≤ d.fg WGH_ENERGY_CUTOFF) || (d.gridOn && decide (e ≤ d.fg WGH_ENERGY_FLOOR)))
  let dis := if d.fb WGH_REQ_r_CFG_BATDIS r && (!d.fb THM_STAT_DIS_OK || low) then 0 else lim
  min (min zone grid) (min chg dis)

/-- E at a cutoff (R202), and the supply level (R207). -/
def supplyStep (d : Dev) : Dev :=
  let soc := d.fb WGH_CTRL_SOC_EN
  let e := if soc then tenths (d.coopRaw 2 (d.fg WGH_CTRL_SOC_ADDR)) else 0
  let lv := d.fg WGH_SUPPLY_LEVEL
  let h := 10 * d.fg WGH_SUPPLY_E_HYST
  let isl := !d.gridOn
  let co := d.fg WGH_ENERGY_CUTOFF
  let fl := d.fg WGH_ENERGY_FLOOR
  let next :=
    if !soc then 0
    else if lv ≠ 2 ∧ isl ∧ e ≤ co then 2
    else if lv = 0 ∧ isl ∧ e ≤ fl then 1
    else if lv ≠ 0 ∧ (fl + h ≤ e ∨ isl = false) then 0
    else if lv = 2 ∧ co + h ≤ e then 1
    else lv
  let d := (d.fs WGH_SUPPLY_E e).fs WGH_SUPPLY_LEVEL next
  if next = lv then d else d.raise 69 next

/-! ### Bursts (R208, R209, R211) -/

/-- The reply payload of a burst (R218). -/
def burstBytes (b : Burst) : List Byte := leBytes 2 b.granted ++ leBytes 2 (b.dp - b.granted) ++ leBytes 1 (min 255 b.incs)

/-- The running burst ends; what is left of it is refused. -/
def burstEnd (d : Dev) (b : Burst) (st : St) : Dev :=
  let refused := b.granted < b.dp
  let res := (b.req, b.q0.getD 0 + b.granted, d.clk.ticks + d.fg WGH_BURST_CFG_STAGGER_T * msTicks)
  let d := d.updWgh fun x => { x with burst := none, reserve := if b.q0.isSome then x.reserve ++ [res] else x.reserve }
  let d := (d.fs WGH_BURST_STAT_ACTIVE 0).finc WGH_BURST_STAT_SEQ
  let d := if refused then (d.fs WGH_BURST_STAT_REFUSED_SEEN 1).raise 68 b.req else d
  match b.cmd with
  | some (p, tag) => d.complete p tag st (burstBytes b)
  | none => d.updWgh fun x => { x with lmpGranted := b.granted, lmpDone := true, lmpRefused := decide refused }

/-- The sum over a list. -/
def sumOf (l : List Nat) (f : Nat → Nat) : Nat := (l.map f).sum

/-- The running burst at a cutoff (R208): `req` and `eff` the requests before and after caps. -/
def burstStep (d : Dev) (req eff : Nat → Nat) : Dev :=
  match d.wgh.burst with
  | none => d
  | some b =>
    if b.q0.isSome && decide (d.clk.ticks < b.lastInc + d.fg WGH_BURST_CFG_STAGGER_T * msTicks) then d
    else
      let q0 := b.q0.getD (req b.req)
      let srcs := d.reqs.filter fun r => !d.isSink r
      let ess := d.reqs.filter fun r => d.isSink r && d.fb WGH_REQ_r_CFG_ESS r
      let l : Int := sumOf ess fun r => if r = b.req then max (req r) (q0 + b.granted) else req r
      let gi : Int := if d.gridOn then sumOf (srcs.filter fun r => d.fb WGH_REQ_r_CFG_GRID r) eff else 0
      let plain := sumOf (srcs.filter fun r => !d.fb WGH_REQ_r_CFG_GRID r && !d.fb WGH_REQ_r_CFG_BATDIS r) eff
      let pvc : Int := (d.fg WGH_BURST_CFG_PV_CREDIT * plain / 16 : Nat)
      let be : Int := ((d.fg WGH_SUPPLY_E - d.fg WGH_ENERGY_FLOOR) * 3600 / b.t : Nat) + pvc + gi - l
      let bp : Int := (sumOf srcs eff : Nat) - l
      let top : Int := min (b.dp - b.granted) (d.fg WGH_BURST_CFG_STEP_MAX)
      let raw := min top (min be bp)
      let limited := decide (min be bp < top)
      let inc := if raw < 10 then 0 else raw.toNat
      let b2 := { b with granted := b.granted + inc, incs := if inc = 0 then b.incs else b.incs + 1, q0 := some q0, lastInc := d.clk.ticks }
      let d := (d.fs WGH_BURST_STAT_GRANTED b2.granted).updWgh fun x => { x with burst := some b2 }
      let d := if b.cmd = none then d.updWgh fun x => { x with lmpGranted := b2.granted } else d
      if limited || inc == 0 || b2.granted == b.dp then d.burstEnd b2 .ok else d

/-- A burst is requested (R208): it runs from now on. -/
def burstStart (d : Dev) (r dp t : Nat) (cmd : Option (Path × Nat)) : Dev :=
  let b : Burst := { req := r, dp := dp, t := t, cmd := cmd }
  let d := (d.fs WGH_BURST_STAT_ACTIVE 1).fs WGH_BURST_STAT_GRANTED 0
  let d := d.updWgh fun x => { x with burst := some b }
  if cmd = none then d.updWgh fun x => { x with lmpGranted := 0, lmpDone := false, lmpRefused := false } else d

/-- What the arbitration counts as requester `r`'s request (R209). -/
def reserved (d : Dev) (r : Nat) (q : Nat) : Nat :=
  let q := match d.wgh.burst with
    | some b => if b.req = r then (match b.q0 with
      | some q0 => max q (q0 + b.granted)
      | none => q) else q
    | none => q
  (d.wgh.reserve.filter fun x => x.1 == r && decide (d.clk.ticks < x.2.2)).foldl (fun q x => max q x.2.1) q

/-! ### Arbitration (R205) -/

/-- The partner of requester `r` where their pair is in effect. -/
def pairOf (d : Dev) (r : Nat) : Option Nat :=
  let p := d.fg WGH_REQ_r_CFG_PAIR r
  if d.fb WGH_REQ_r_CFG_PAIR_EN r && d.fb WGH_REQ_r_CFG_EN r && d.fb WGH_REQ_r_CFG_EN p && d.isSink p != d.isSink r &&
     d.fb WGH_REQ_r_CFG_PAIR_EN p && d.fg WGH_REQ_r_CFG_PAIR p == r then some p else none

/-- Requesters in descending `PRIO`, ascending index among equals. -/
def byPrio (d : Dev) (l : List Nat) : List Nat :=
  (List.range 16).reverse.flatMap fun p => l.filter fun r => d.fg WGH_REQ_r_CFG_PRIO r == p

/-- One sink draws from the sources: `want` still wanted; answers what is left of the wish and the offers. -/
def draw (pair : Option Nat) : List Nat → Nat → (Nat → Nat) → Nat × (Nat → Nat)
  | [], want, offer => (want, offer)
  | s :: t, want, offer =>
    if pair = some s then draw pair t want offer
    else
      let x := min want (offer s)
      draw pair t (want - x) fun i => if i = s then offer s - x else offer i

/-- The sinks in turn (R205 step 1): the room left, the offers, the grants. -/
def serve (d : Dev) (eff : Nat → Nat) (srcs : List Nat) : List Nat → Nat → (Nat → Nat) → (Nat → Nat) → (Nat → Nat) × (Nat → Nat)
  | [], _, offer, g => (offer, g)
  | k :: t, room, offer, g =>
    let want := min (eff k) room
    let r := draw (d.pairOf k) srcs want offer
    let got := want - r.1
    serve d eff srcs t (room - got) r.2 fun i => if i = k then got else g i

/-- Grants of all requesters after netting (R205 steps 1 to 3). -/
def grants (d : Dev) (eff : Nat → Nat) : List Nat :=
  let srcs := d.byPrio (d.reqs.filter fun r => !d.isSink r)
  let sinks := d.byPrio (d.reqs.filter d.isSink)
  let r := serve d eff srcs sinks (d.fg WGH_LINK_PMAX) eff fun _ => 0
  let g := fun i => if srcs.contains i then eff i - r.1 i else r.2 i
  (List.range 32).map fun i =>
    match d.pairOf i with
    | some p => g i - min (g i) (g p)
    | none => g i

/-- The ceilings a leader sends its followers (R210, R311): `WGH_CEIL`, with the ticks to the boundary. -/
def ceilFrames (d : Dev) : Dev :=
  if !d.leader then d
  else
    let l := d.reqs.map fun r => (r, (d.rq r).ceil)
    let parts := if 30 < l.length then 2 else 1
    let body := fun (k : Nat) => (l.drop (30 * k)).take 30
    let left := (80000 - d.clk.ticks % 80000) % 80000
    (List.range parts).foldl (fun d k =>
      d.nqlTx 0xFF 0x21 0 (leBytes 4 left ++ leBytes 1 (parts * 16 + k) ++ leBytes 1 (body k).length ++
        (body k).flatMap fun x => leBytes 1 x.1 ++ leBytes 2 x.2)) d

/-- Everything done at a request cutoff (R202 to R209). -/
def cutoffStep (d : Dev) : Dev :=
  let before := (d.word 0x20070018, d.word 0x20070024)
  let d := d.reqs.foldl (fun d r =>
    if d.staleNow r && !(d.rq r).stale then (d.updReq r fun x => { x with stale := true }).raise 70 r else d) d
  let d := d.supplyStep
  let caps := (List.range 32).map d.capOf
  let cap := fun r => caps.getD r 0
  let raw := (List.range 32).map fun r => if (d.rq r).stale || !d.fb WGH_REQ_r_CFG_EN r then 0 else (d.rq r).req
  let req := fun r => raw.getD r 0
  let d := d.burstStep req fun r => min (req r) (cap r)
  let effs := (List.range 32).map fun r =>
    if (d.rq r).stale || !d.fb WGH_REQ_r_CFG_EN r then 0 else min (d.reserved r (req r)) (cap r)
  let gs := d.grants fun r => effs.getD r 0
  let bad := d.reqs.any fun r => d.fb WGH_REQ_r_CFG_PAIR_EN r && (d.pairOf r).isNone
  let d := (List.range 32).foldl (fun d r =>
    let g := gs.getD r 0
    let on := d.fb WGH_REQ_r_CFG_EN r
    let c := if (d.rq r).stale || !on then 0 else min (cap r) (g + d.fg WGH_REQ_r_LIM_HEAD r)
    let capped := on && decide (cap r < d.fg WGH_REQ_r_LIM_LIM r)
    let sc := d.fg WGH_REQ_r_SCALE_SCALE r
    d.updReq r fun x => { x with late := x.stale && on, capped := capped, shown := req r, grant := g, ceil := c, scale := sc }) d
  (d.updWgh fun x => { x with arb := true, pairBad := bad, before := before }).ceilFrames

/-- Write a ceiling in 0.1 kW to the group of requester `r`, in the group's units (R206): `scale` the word that gives them. -/
def putCeil (d : Dev) (r c scale : Nat) : Dev :=
  if d.fb WGH_REQ_r_CFG_GRP_EN r then
    let w := Q.toW ⟨wv (BitVec.ofNat 32 scale) * c, 10 * 2 ^ 55⟩
    d.fs CEN_GRP_g_CEIL_VAL w.toNat (d.fg WGH_REQ_r_CFG_GRP r)
  else d

/-- The groups named by enabled requesters (R211). -/
def namedGroups (d : Dev) : Nat :=
  (d.reqs.filter fun r => d.fb WGH_REQ_r_CFG_GRP_EN r).foldl (fun m r => setBit m (d.fg WGH_REQ_r_CFG_GRP r)) 0

/-- Everything done at a grant boundary (R206, R211). -/
def boundaryStep (d : Dev) : Dev :=
  let d : Dev := match d.wgh.release with
    | some m => (bitsOf 16 m).foldl (fun (d : Dev) g => d.fs CEN_GRP_g_CEIL_VAL 0x7FFFFF1F g) (d.updWgh fun x => { x with release := none })
    | none => d
  if d.wgh.arb && d.wghRuns then
    let d := d.reqs.foldl (fun d r => d.putCeil r (d.rq r).ceil (d.rq r).scale) d
    let d := (List.range 32).foldl (fun d r => (d.fs WGH_REQ_r_STAT_REQ (d.rq r).shown r).fs WGH_REQ_r_STAT_GRANT (d.rq r).grant r) d
    let d := (d.fs WGH_STALE_STALE (maskOf 32 fun r => (d.rq r).late)).fs WGH_CAPPED_CAPPED
      (maskOf 32 fun r => (d.rq r).capped)
    ((d.fs WGH_STAT_PAIR_BAD (b2n d.wgh.pairBad)).finc WGH_STAT_SEQ).updWgh fun x => { x with arb := false }
  else d.updWgh fun x => { x with arb := false }

/-! ### Registers (R220) -/

/-- Combinations out of range. -/
def rangeWGH (d : Dev) (b n w : Nat) : Bool :=
  if b = 0x20070014 then
    decide (WGH_ENERGY_FLOOR.of w ≤ WGH_ENERGY_CUTOFF.of w) && !(WGH_ENERGY_FLOOR.of w == 0 && WGH_ENERGY_CUTOFF.of w == 0)
  else if b = 0x20070100 then
    let sink := WGH_REQ_r_CFG_KIND.of w == 1
    (!sink && (WGH_REQ_r_CFG_ESS.of w == 1 || WGH_REQ_r_CFG_BATCHG.of w == 1)) ||
    (sink && WGH_REQ_r_CFG_BATDIS.of w == 1) ||
    (WGH_REQ_r_CFG_EN.of w == 1 && WGH_REQ_r_CFG_GRP_EN.of w == 1 &&
      d.reqs.any fun r => r != n && d.fb WGH_REQ_r_CFG_GRP_EN r && d.fg WGH_REQ_r_CFG_GRP r == WGH_REQ_r_CFG_GRP.of w)
  else false

/-- The fields of `WGH_REQ_r_CFG` that may change only while `EN` is 0 (R220). -/
def wghSetup : List Fld := [WGH_REQ_r_CFG_EN, WGH_REQ_r_CFG_KIND, WGH_REQ_r_CFG_ESS, WGH_REQ_r_CFG_GRID, WGH_REQ_r_CFG_BATCHG,
  WGH_REQ_r_CFG_BATDIS, WGH_REQ_r_CFG_GRP_EN, WGH_REQ_r_CFG_GRP, WGH_REQ_r_CFG_PAIR_EN, WGH_REQ_r_CFG_NODE, WGH_REQ_r_CFG_PAIR,
  WGH_REQ_r_CFG_ZONE_EN, WGH_REQ_r_CFG_ZONE]

/-- Writes refused while `EN` is 1. -/
def stateWGH (d : Dev) (b n w : Nat) : Bool :=
  d.fb WGH_CTRL_EN && (
    if b = 0x20070000 then
      WGH_CTRL_SOC_EN.of w != d.fg WGH_CTRL_SOC_EN || WGH_CTRL_SOC_ADDR.of w != d.fg WGH_CTRL_SOC_ADDR
    else b == 0x20070100 && wghSetup.any fun F => F.of w != d.fg F n)

/-- What a write does after it is stored (R211). -/
def afterWGH (d d0 : Dev) (b _n _w : Nat) : Dev :=
  if b = 0x20070000 ∧ d.fb WGH_CTRL_EN = false ∧ d0.fb WGH_CTRL_EN then
    let d := match d.wgh.burst with
      | some b => d.burstEnd b .ok
      | none => d
    d.updWgh fun x => { x with arb := false, release := some d.namedGroups }
  else d

end Dev

/-! ### Events -/

def execWreq (sl : Fin 64) (xa : Fin 8) (n : Fin 32) (s : State) : Host.Outcome State Fault Refusal :=
  s.run fun d => d.coopDo sl (.wreq xa n) (Dev.outside sl 1 fun d => d.wreq n (d.xr sl xa))

/-- A request cutoff: 20,000 ticks before a boundary (R203). A follower only reads its energy word (R202, R210). -/
def requestCutoffDev (d : Dev) : Dev :=
  let t := d.clk.ticks % 80000
  if !d.fb WGH_CTRL_EN || d.wgh.arb || decide (t < 60000) || decide (60000 + d.advance ≤ t) then d
  else if d.follower then d.supplyStep else d.cutoffStep

def execRequestCutoff (s : State) : Host.Outcome State Fault Refusal := s.run requestCutoffDev

/-- A grant boundary: a whole multiple of 80,000 ticks (R203). -/
def grantBoundaryDev (d : Dev) : Dev := if d.clk.ticks % 80000 < d.advance then d.boundaryStep else d

/-- Reservations whose time has passed lapse (R209). -/
def reservationLapseDev (d : Dev) : Dev :=
  d.updWgh fun x => { x with reserve := x.reserve.filter fun r => decide (d.clk.ticks < r.2.2) }

def execBurstReservationLapse (s : State) : Host.Outcome State Fault Refusal := s.run reservationLapseDev

/-- A follower forwards its requests, limited by its own caps (R210). -/
def forwardDev (d : Dev) : Dev :=
  if !d.fb WGH_CTRL_EN || !d.follower then d
  else
    let l := (d.reqs.filter fun r => !d.staleNow r).map fun r => (r, min (d.rq r).req (d.capOf r))
    let frames := if 30 < l.length then [l.take 30, l.drop 30] else [l]
    frames.foldl (fun d f =>
      d.nqlTx 0xFF 0x20 0 (leBytes 1 (d.fg SYS_ROLE_PAR_POS) ++ leBytes 1 f.length ++
        f.flatMap fun x => leBytes 1 x.1 ++ leBytes 2 x.2)) d

def execFollowerRequestForward (s : State) : Host.Outcome State Fault Refusal := s.run forwardDev

/-- A follower's requests reach the leader (R210). -/
def wghReqDev (pos : Nat) (l : List (Nat × Nat)) (d : Dev) : Dev :=
  if !d.wghRuns || !d.leader then d
  else l.foldl (fun d x =>
    if d.fb WGH_REQ_r_CFG_EN x.1 && d.fg WGH_REQ_r_CFG_NODE x.1 == pos && pos != 0 && decide (x.1 < 32) then
      d.updReq x.1 fun q => { q with req := x.2 % 65536, reqAt := some d.clk.ticks, stale := false }
    else d) d

def execWghReqFrameReceived (pos : Fin 4) (l : List (Nat × Nat)) (s : State) : Host.Outcome State Fault Refusal :=
  s.runIf (wghReqDev pos l)

/-- A part of the leader's ceilings reaches a follower (R210). -/
def wghCeilDev (parts part : Nat) (l : List (Nat × Nat)) (d : Dev) : Dev :=
  if !d.fb WGH_CTRL_EN || !d.follower then d
  else d.updWgh fun x => { x with rx := x.rx ++ l.take 30, rxParts := part :: x.rxParts, rxOf := parts }

def execWghCeilFrameReceived (parts : Fin 3) (part : Fin 2) (l : List (Nat × Nat)) (s : State) :
    Host.Outcome State Fault Refusal :=
  s.runIf (wghCeilDev parts part l)

/-- The leader's boundary at a follower (R210). -/
def followerCeilDev (d : Dev) : Dev :=
  if !d.fb WGH_CTRL_EN || !d.follower then d
  else
    let w := d.wgh
    let whole := !w.rxParts.isEmpty && (List.range w.rxOf).all w.rxParts.contains
    let miss := if whole then 0 else min 3 (w.rxMiss + 1)
    let d := if whole || decide (w.rxMiss < 3) then
      w.rx.foldl (fun d x => if d.fb WGH_REQ_r_CFG_EN x.1 && decide (x.1 < 32) then d.putCeil x.1 x.2 (d.fg WGH_REQ_r_SCALE_SCALE x.1) else d) d else d
    let d := d.updWgh fun x => { x with rx := [], rxParts := [], rxMiss := miss }
    if miss = 3 ∧ w.rxMiss < 3 then ((d.reqs.foldl (fun d r => d.putCeil r 0 (d.fg WGH_REQ_r_SCALE_SCALE r)) d).fs WGH_STAT_PAR_LOST 1).raise 71 else d

def execFollowerCeilingWrite (s : State) : Host.Outcome State Fault Refusal := s.run followerCeilDev

/-! ### Commands (R218) -/

def execWghCaps (p : Path) (tag : Byte) (s : State) : Host.Outcome State Fault Refusal :=
  s.run fun d => d.runCmd 0x500 p tag (capsCmd [0x20070008])

/-- `WGH_STATUS`: all from the arbitration last published, also while a later one waits for its boundary. -/
def wghStatusCmd (c : Cmd) (d : Dev) : Res × Dev :=
  let now := if d.wgh.arb then d.wgh.before else (d.word 0x20070018, d.word 0x20070024)
  if c.payload ≠ [] then (.st .range, d)
  else
    (.reply .ok (d.words [0x20070004] ++ leBytes 4 now.1 ++ d.words [0x20070030, 0x20070034] ++ leBytes 4 now.2 ++
      d.words ((List.range 32).map fun r => 0x2007010C + 16 * r)), d)

def execWghStatus (p : Path) (tag : Byte) (s : State) : Host.Outcome State Fault Refusal :=
  s.run fun d => d.runCmd 0x501 p tag wghStatusCmd

/-- `WGH_BURST`. -/
def wghBurstCmd (c : Cmd) (d : Dev) : Res × Dev :=
  let r := byteAt c.payload 0
  let x := byteAt c.payload 1
  let dp := leAt c.payload 2 2
  let t := leAt c.payload 4 2
  if c.payload.length ≠ 6 ∨ 1 < x then (.st .range, d)
  else if x = 1 then
    match d.wgh.burst with
    | none => (.st .state, d)
    | some b => (.st .ok, d.burstEnd b .aborted)
  else if 31 < r ∨ dp = 0 ∨ t = 0 ∨ d.fb WGH_REQ_r_CFG_EN r = false ∨ d.isSink r = false ∨ d.fb WGH_REQ_r_CFG_ESS r = false then
    (.st .range, d)
  else if !d.wghRuns then (.st .state, d)
  else if d.wgh.burst.isSome then (.st .busy, d)
  else (.owed, d.burstStart r dp t (some (c.path, c.tag)))

def execWghBurst (p : Path) (tag : Byte) (s : State) : Host.Outcome State Fault Refusal :=
  s.run fun d => d.runCmd 0x502 p tag wghBurstCmd

end Sys2Proof.Machine
end

