-- ==== Sys2Proof/Machine/LampDir.lean ====
section
/-! DEFINITION. Lamplighter's directory, its index, local time and schedules, the levels of endpoints, and the messages
between hubs (R319 to R322, R331, R333 to R335, R339 to R341). An entry is its 128 bytes, as R320 lays them out. -/
namespace Sys2Proof.Machine

/-- Bytes `i` to `i + n - 1` of an entry replaced by a number. -/
def eput (e : List Byte) (i n v : Nat) : List Byte := putAt e i (leBytes n v)

/-- Bit `b` of byte `i` of an entry, read and written. -/
def ebit (e : List Byte) (i b : Nat) : Bool := (byteAt e i).testBit b
def esetBit (e : List Byte) (i b : Nat) (v : Bool) : List Byte := eput e i 1 (putBit (byteAt e i) b v)

/-- Identity, and the range it lies in (R341). -/
def idOf (e : List Byte) : List Byte := e.take 8
def rangeOf (id : List Byte) : Nat := crc32c id / 2 ^ 24

/-- Lists of at most `k` of the elements, in order. -/
def chunks {α : Type} (k : Nat) : Nat → List α → List (List α)
  | 0, _ => []
  | _, [] => []
  | f + 1, l => l.take k :: chunks k f (l.drop k)

namespace Dev

/-- Change Lamplighter's state. -/
def updLmp (d : Dev) (f : Lmp → Lmp) : Dev := { d with lmp := f d.lmp }

/-- Lamplighter runs. -/
def lmpOn (d : Dev) : Bool := d.fb LMP_CTRL_EN && d.notFollower

/-! ### Messages between hubs (R339) -/

/-- An LMP message. -/
def lmpMsg (d : Dev) (type count : Nat) (payload : List Byte) : List Byte :=
  [1] ++ leBytes 1 type ++ leBytes 2 (d.fg LMP_HUB_HUB_ID) ++ leBytes 1 (d.fg SYS_ROLE_STAT_DIR_ACTIVE) ++ leBytes 1 count ++
    leBytes 2 (d.fg LMP_HUB_DISTRICT) ++ payload

/-- Send a message to peer `k`, if it is enabled. -/
def lmpSend (d : Dev) (k type count : Nat) (payload : List Byte) : Dev :=
  let l := d.fg LMP_PEER_k_CFG_LINK k
  if !d.fb LMP_PEER_k_CFG_EN k then d
  else if d.fb LMP_PEER_k_CFG_PATH k then d.sessSend l 4 (d.lmpMsg type count payload)
  else d.nqlTx l 0x30 2 (d.lmpMsg type count payload)

/-- The enabled peers. -/
def peers (d : Dev) : List Nat := (List.range 16).filter fun k => d.fb LMP_PEER_k_CFG_EN k

/-- A message of a type whose count the spec does not define: a free value (log entry 3). -/
def lmpSendAll (d : Dev) (type : Nat) (payload : List Byte) : Dev :=
  let f := d.fresh
  d.peers.foldl (fun d k => d.lmpSend k type (f.1 % 256) payload) f.2

/-- Request ranges of peer `k` (R341). -/
def pullSend (d : Dev) (k : Nat) (rs : List Nat) : Dev :=
  let rs := rs.filter fun r => !d.lmp.pulls.contains (k, r)
  let d := (chunks 64 rs.length rs).foldl (fun d l => d.lmpSend k 3 l.length (l.flatMap (leBytes 2))) d
  d.updLmp fun x => { x with pulls := x.pulls ++ rs.map fun r => (k, r) }

/-! ### Entries (R320, R321) -/

/-- The bytes of entry `n`. -/
def rawE (d : Dev) (n : Nat) : List Byte := d.rdN (d.dirAt n) 128

/-- Entry `n`; none where it is damaged. -/
def ent (d : Dev) (n : Nat) : Option (List Byte) :=
  let e := d.rawE n
  if leAt e 124 4 == crc32c (e.take 124) && !d.ueIn (d.dirAt n) 128 then some e else none

/-- Write entry `n` with its CRC. -/
def wrE (d : Dev) (n : Nat) (e : List Byte) : Dev :=
  let b := e.take 124
  (d.wrN (d.dirAt n) (b ++ leBytes 4 (crc32c b))).updLmp fun x => { x with damaged := x.damaged.filter (· != n) }

/-- The engine meets entry `n` damaged: counted once, its range requested of the peers (R321). -/
def touch (d : Dev) (n : Nat) : Dev :=
  if (d.ent n).isSome ∨ d.lmp.damaged.contains n = true ∨ d.lmp.used.contains n = false then d
  else
    let d := d.updLmp fun x => { x with damaged := x.damaged ++ [n] }
    let d := (d.fcnt LMP_DIR_STAT_DAMAGE_CNT LMP_DIR_STAT_CNT_OVF).raise 110 n
    let r := rangeOf (idOf (d.rawE n))
    if d.lmpOn && d.fb LMP_CTRL_REPL_EN then d.peers.foldl (fun d k => d.pullSend k [r]) d else d

/-- This hub serves the entry (R321). -/
def serves (d : Dev) (e : List Byte) : Bool :=
  d.lmpOn && leAt e 12 2 == d.fg LMP_HUB_HUB_ID && !ebit e 56 7

/-- Entry `n`, where it is served. -/
def servedE (d : Dev) (n : Nat) : Option (List Byte) :=
  if d.lmp.used.contains n then (d.ent n).filter d.serves else none

/-- The entries served. -/
def servedAll (d : Dev) : List Nat := d.lmp.used.filter fun n => (d.servedE n).isSome

/-- Address of slot `s` of the index, and its word. -/
def slotAt (d : Dev) (s : Nat) : Nat := 1048576 * d.fg LMP_DIR_BASE_BASE + 33554432 + 4 * (s % 524288)
def idxWord (d : Dev) (s : Nat) : Nat := leNat (d.rdN (d.slotAt s) 4)

/-- Linear probing: the slot and the entry number of an identity. -/
def probe (d : Dev) (id : List Byte) : Nat → Nat → Option (Nat × Nat)
  | 0, _ => none
  | f + 1, s =>
    let w := d.idxWord s
    if w = 0 then none
    else if w ≠ 0xFFFFFFFF ∧ d.rdN (d.dirAt (w - 1)) 8 = id then some (s % 524288, w - 1)
    else probe d id f (s + 1)

/-- Entry number of an identity. -/
def lookup (d : Dev) (id : List Byte) : Option (Nat × Nat) := d.probe id 524288 (crc32c id % 524288)

/-- The first slot empty or removed. -/
def probeFree (d : Dev) : Nat → Nat → Option Nat
  | 0, _ => none
  | f + 1, s => if d.idxWord s = 0 ∨ d.idxWord s = 0xFFFFFFFF then some s else probeFree d f (s + 1)

/-- The lowest number not in use (log entry 46). -/
def freeNum (used : List Nat) : Nat → Nat
  | n => used.foldl (fun n u => if u = n then n + 1 else n) n

/-- Put a new entry into the directory; none where all are in use. -/
def newE (d : Dev) (e : List Byte) : Option Nat × Dev :=
  let n := freeNum d.lmp.used 0
  if 262144 ≤ n then (none, (d.fs LMP_STAT_DIR_FULL 1).raise 110 n)
  else
    let d := match d.probeFree 524288 (crc32c (idOf e) % 524288) with
      | some s => d.wrN (d.slotAt s) (leBytes 4 (n + 1))
      | none => d
    let d := d.updLmp fun x => { x with used := (x.used.filter (· < n)) ++ n :: x.used.filter (n < ·) }
    (some n, d.wrE n e)

/-- Entry `n` becomes free (R321). -/
def freeE (d : Dev) (n : Nat) : Dev :=
  let d := match d.lookup (idOf (d.rawE n)) with
    | some (s, _) => d.wrN (d.slotAt s) (leBytes 4 0xFFFFFFFF)
    | none => d
  (d.wrE n (List.replicate 124 0)).updLmp fun x => { x with used := x.used.filter (· != n) }

/-- Entries in use, as the directory holds them; one of which nothing has been written since the DRAM lost its contents
counts as not in use (log entry 58). -/
def scanDir (d : Dev) : Dev :=
  let lo := d.dirAt 0
  let m := (memLand (d.lost, d.mem) d.out).2
  let ns := m.filterMap fun c => if lo ≤ c.1 ∧ c.1 < lo + 33554432 ∧ (c.1 - lo) % 128 < 8 then some ((c.1 - lo) / 128) else none
  d.updLmp fun x => { x with used := ns.eraseReps, damaged := [] }

/-- The hub holds the entry, in its role in effect or the one it takes over (R340, R342). -/
def holds (d : Dev) (e : List Byte) : Bool :=
  let r := max (d.fg SYS_ROLE_STAT_DIR_ACTIVE) (d.lmp.takeover.getD 0)
  r == 2 || (r == 1 && leAt e 14 2 == d.fg LMP_HUB_DISTRICT) || leAt e 12 2 == d.fg LMP_HUB_HUB_ID

/-- Peer `k` holds the entry. -/
def peerHolds (d : Dev) (k : Nat) (e : List Byte) : Bool :=
  let r := vget d.lmp.peerRole k
  r == 2 || (r == 1 && leAt e 14 2 == vget d.lmp.peerDist k) || leAt e 12 2 == d.fg LMP_PEER_k_CFG_HUB_ID k

/-- Send the entry to the enabled peers that hold it (R340). -/
def publishE (d : Dev) (n : Nat) : Dev :=
  match d.ent n with
  | none => d
  | some e =>
    if d.lmpOn && d.fb LMP_CTRL_REPL_EN then
      d.peers.foldl (fun d k => if d.peerHolds k e then d.lmpSend k 1 1 e else d) d
    else d

/-- A configuration change of entry `n` made on this hub: the slot of its role moves on (R340). -/
def putConf (d : Dev) (n : Nat) (e : List Byte) : Dev :=
  let s := 32 + 8 * min 2 (d.fg SYS_ROLE_STAT_DIR_ACTIVE)
  let e := eput (eput (eput e s 2 (d.fg LMP_HUB_HUB_ID)) (s + 2) 2 0) (s + 4) 4 (min (2 ^ 32 - 1) (leAt e (s + 4) 4 + 1))
  (d.wrE n e).publishE n

/-- The slot a configuration change would move on is saturated (R395). -/
def slotFull (d : Dev) (e : List Byte) : Bool := leAt e (36 + 8 * min 2 (d.fg SYS_ROLE_STAT_DIR_ACTIVE)) 4 == 2 ^ 32 - 1

/-- The status part without its counter and CRC. -/
def statBytes (e : List Byte) : List Byte := (e.drop 64).take 24 ++ (e.drop 92).take 32

/-- A change of entry `n` in its status part: the counter moves on; peers hear at most once in 60 s, of fault bits at once
(R329, R340). -/
def putStat (d : Dev) (n : Nat) (e : List Byte) : Dev :=
  let o := d.rawE n
  if statBytes o = statBytes e then (if o.take 64 = e.take 64 then d else d.wrE n e)
  else
    let d := d.wrE n (eput e 88 4 (leAt e 88 4 + 1))
    let recent := d.lmp.statAt.any fun x => x.1 == n && decide (d.clk.ticks < x.2 + 60000 * msTicks)
    if leAt o 84 4 = leAt e 84 4 ∧ recent = true then d
    else (d.publishE n).updLmp fun x => { x with statAt := (x.statAt.filter (·.1 != n)) ++ [(n, d.clk.ticks)] }

/-! ### Local time, the sun and schedules (R322, R333 to R335) -/

/-- Local time in seconds since 1970-01-01. -/
def localSec (d : Dev) : Option Nat := d.utc.map fun u => ((u : Int) + 60 * d.fgS LMP_TZ_TZ).toNat

/-- Local minute. -/
def localMin (d : Dev) : Option Nat := d.localSec.map (· / 60)

/-- Dawn and dusk of a day. -/
def sunOf (d : Dev) (day : Nat) : Option (Fin 1440) × Option (Fin 1440) :=
  Config.sun day (d.fg LMP_GEO_LAT) (d.fg LMP_GEO_LON) (d.fg LMP_ZEN_ZENITH) (d.fg LMP_TZ_TZ)

/-- Dawn and dusk are computed for the present local date. -/
def sunShow (d : Dev) : Dev :=
  match d.localMin with
  | none => d
  | some m =>
    let s := d.sunOf (m / 1440)
    (d.fs LMP_SUN_DAWN (match s.1 with
      | some x => x.val
      | none => 0xFFFF)).fs LMP_SUN_DUSK (match s.2 with
      | some x => x.val
      | none => 0xFFFF)

/-- The minute of a step on a day, where it applies (R334). -/
def stepMin (d : Dev) (day w : Nat) : Option Nat :=
  let at_ : Option Int :=
    if w / 2 ^ 30 = 0 then some (w / 4096 % 2048 : Nat)
    else if w / 2 ^ 30 = 1 then (d.sunOf day).2.map fun x => (x.val : Int) + sval 11 (w / 4096)
    else (d.sunOf day).1.map fun x => (x.val : Int) + sval 11 (w / 4096)
  if (w / 2 ^ 23).testBit ((day + 3) % 7) then at_.bind fun t => if 0 ≤ t ∧ t < 1440 then some t.toNat else none else none

/-- Address of schedule `s`; its steps before the end of the list (R333). -/
def schedAt (d : Dev) (s : Nat) : Nat := 524288 * d.fg LMP_SCHED_BASE_BASE + 128 * s
def schedOf (d : Dev) (s : Nat) : List Nat :=
  ((List.range 32).map fun i => leNat (d.rdN (d.schedAt s + 4 * i) 4)).takeWhile fun w => w / 2 ^ 30 != 3

/-- The applicable step with the latest minute up to `m`; among equals the later in the list. -/
def latest (d : Dev) (day m : Nat) (l : List Nat) : Option (Nat × Nat) :=
  l.foldl (fun (b : Option (Nat × Nat)) w => match d.stepMin day w with
    | none => b
    | some t => if t ≤ m ∧ (match b with
        | none => true
        | some x => decide (x.1 ≤ t)) = true then some (t, w) else b) none

/-- Level and fade time of a schedule at a local minute (R334). -/
def schedLevel (d : Dev) (s m : Nat) : Nat × Nat :=
  let l := d.schedOf s
  match (d.latest (m / 1440) (m % 1440) l).or (d.latest (m / 1440 - 1) 1439 l) with
  | some x => (x.2 % 256, x.2 / 256 % 16)
  | none => (0, 0)

/-- A step of the schedule applies after minute `a` and up to minute `b`. -/
def stepWithin (d : Dev) (s a b : Nat) : Bool :=
  (List.range (min 8 (b / 1440 - a / 1440 + 1))).any fun i =>
    let day := b / 1440 - i
    (d.schedOf s).any fun w => match d.stepMin day w with
      | some t => decide (a < day * 1440 + t) && decide (day * 1440 + t ≤ b)
      | none => false

/-- Local minute of the earliest next step of the schedule, today or tomorrow. -/
def nextStep (d : Dev) (s m : Nat) : Option Nat :=
  let c := [m / 1440, m / 1440 + 1].flatMap fun day => (d.schedOf s).filterMap fun w =>
    (d.stepMin day w).bind fun t => if m < day * 1440 + t then some (day * 1440 + t) else none
  c.min?

/-! ### The level of an endpoint (R331) -/

/-- Target level and fade time. While local time has never been evaluated, an endpoint with a schedule keeps its level (R322). -/
def goalOf (d : Dev) (e : List Byte) : Nat × Nat :=
  let s := leAt e 18 2
  let base :=
    if byteAt e 72 ≠ 255 then (byteAt e 72, 0)
    else if 4095 < s then (0, 0)
    else match d.lmp.minute with
      | none => (byteAt e 70, 0)
      | some m => d.schedLevel s m
  let lv := if 1 ≤ d.lmp.supply then min base.1 (byteAt e 28) else base.1
  (if ebit e 56 2 then 0 else lv, base.2)

end Dev
end Sys2Proof.Machine
end

