-- ==== Sys2Proof/Machine/LampTxn.lean ====
section
/-! DEFINITION. Lamplighter's transactions, PLC ports, batches and bursts, evaluations of levels (R323 to R332, R336 to
R338). -/
namespace Sys2Proof.Machine

/-- The first element that satisfies `p`, and the list without it. -/
def takeOut {α : Type} (p : α → Bool) : List α → Option (α × List α)
  | [] => none
  | a :: t => if p a then some (a, t) else (takeOut p t).map fun r => (r.1, a :: r.2)

namespace Dev

/-- Change PLC port `p` beyond its registers. -/
def updLPort (d : Dev) (p : Nat) (f : LPort → LPort) : Dev :=
  d.updLmp fun x => { x with port := vset x.port p (f (vget x.port p)) }

/-- The port runs, and is up. -/
def portOn (d : Dev) (p : Nat) : Bool := d.lmpOn && d.fb LMP_PORT_p_CFG_EN p
def portUp (d : Dev) (p : Nat) : Bool := d.portOn p && d.fg LMP_PORT_p_STAT_STATE p == 2

/-- A modem frame's layout (R324); its CRC goes least significant byte first (log entry 55). -/
def plmFrame (type seq : Nat) (payload : List Byte) : List Byte :=
  let b := leBytes 2 (payload.length + 2) ++ leBytes 1 type ++ leBytes 1 seq ++ payload
  [0xA5] ++ b ++ leBytes 2 (crc16 b)

/-- The frame leaves for the modem with the next sequence number (R324). -/
def plmOut (d : Dev) (p type : Nat) (payload : List Byte) : Dev :=
  let q := (vget d.lmp.port p).seq
  let d := d.updLPort p fun x => { x with seq := (q + 1) % 256 }
  { d with tx := d.tx ++ [.plm p (plmFrame type q payload)] }

/-- Send a frame to the modem; in UART mode it waits until `PLM_p_CTS_N` is low (R323). -/
def plmSend (d : Dev) (p type : Nat) (payload : List Byte) : Dev :=
  if d.fb LMP_PORT_p_CFG_MODE p ∨ (vget d.lmp.port p).cts = true then d.plmOut p type payload
  else d.updLPort p fun x => { x with q := x.q ++ [(type, payload)] }

/-- The waiting frames leave. -/
def plmFlush (d : Dev) (p : Nat) : Dev :=
  let l := (vget d.lmp.port p).q
  l.foldl (fun d f => d.plmOut p f.1 f.2) (d.updLPort p fun x => { x with q := [] })

/-! ### The end of a transaction (R329, R332, R344) -/

/-- One member of a group command has ended; the last one ends the command (R332). -/
def groupMember (d : Dev) (g : Nat) (ok : Bool) : Dev :=
  match takeOut (fun r => r.id == g) d.lmp.groups with
  | none => d
  | some (r, rest) =>
    let r := { r with left := r.left - 1, done := r.done + b2n ok, failed := r.failed + b2n (!ok) }
    if r.left = 0 then
      let d := (d.updLmp fun x => { x with groups := rest }).raise 107 0
      match r.owner with
      | some (p, t) => d.complete p t .ok (leBytes 2 r.done ++ leBytes 2 r.failed)
      | none => d
    else
      let gs := d.lmp.groups.map fun q => if q.id == g then r else q
      d.updLmp fun x => { x with groups := gs }

/-- Tell one who waits: the level now, or a status for a failure. -/
def tell (d : Dev) (o : Owner) (level : Option Nat) (st : St) : Dev :=
  match o with
  | .none => d
  | .cmd p t => match level with
    | some l => d.complete p t .ok (leBytes 1 l)
    | none => d.complete p t st []
  | .group g => d.groupMember g level.isSome

/-- Tell all of them. -/
def tellAll (d : Dev) (l : List Owner) (level : Option Nat) (st : St) : Dev := l.foldl (fun d o => d.tell o level st) d

/-- Entry `n` is no longer commanded: what waits for it has failed, and it leaves its batch. -/
def purge (d : Dev) (n : Nat) : Dev :=
  let own := (d.lmp.txns.filter (·.entry == n)).flatMap (·.owners) ++ (d.lmp.waits.filter (·.1 == n)).map (·.2)
  let bs := d.lmp.batches.map fun b => { b with items := b.items.filter (·.1 != n) }
  (d.updLmp fun x => { x with txns := x.txns.filter (·.entry != n), waits := x.waits.filter (·.1 != n), batches := bs }).tellAll own none .timeout

/-- Entry `n` where it is not served any more. -/
def purgeUnserved (d : Dev) (n : Nat) : Dev := if (d.servedE n).isSome then d else d.purge n

/-! ### Queueing (R328, R329) -/

/-- Queue a transaction. -/
def qTxn (d : Dev) (cls n : Nat) (req : LReq) (own : List Owner) : Dev :=
  d.updLmp fun x => { x with txns := x.txns ++ [{ cls := cls, entry := n, req := req, owners := own }] }

/-- Queue a `HELLO` unless one waits. -/
def qHello (d : Dev) (n : Nat) : Dev :=
  if d.lmp.txns.any fun t => t.entry == n && t.req == .hello then d else d.qTxn 2 n .hello []

/-- Queue a `SET` for those who wait for the endpoint. -/
def qSet (d : Dev) (cls n level fade : Nat) : Dev :=
  let own := (d.lmp.waits.filter (·.1 == n)).map (·.2)
  (d.updLmp fun x => { x with waits := x.waits.filter (·.1 != n) }).qTxn cls n (.set level fade) own

/-- The endpoint leaves every batch. -/
def leaveBatch (d : Dev) (n : Nat) : Dev :=
  let bs := d.lmp.batches.map fun b => { b with items := b.items.filter (·.1 != n) }
  d.updLmp fun x => { x with batches := bs }

/-- The endpoint's rise waits in a batch. -/
def inBatch (d : Dev) (n : Nat) : Bool := d.lmp.batches.any fun b => b.items.any (·.1 == n)

/-- An endpoint is commanded to a level; its deferral ends where that is its target (R331, R337). -/
def command (d : Dev) (cls n level fade : Nat) (e : List Byte) : Dev :=
  let e := if (d.goalOf e).1 ≤ level then esetBit e 56 1 false else e
  (d.putStat n (eput e 70 1 level)).qSet cls n level fade

/-! ### Batches and bursts (R336, R337) -/

/-- Descending shed priority, then ascending entry number. -/
def inOrder (d : Dev) (l : List (Nat × Nat × Nat)) : List (Nat × Nat × Nat) :=
  [3, 2, 1, 0].flatMap fun k => l.filter fun x => byteAt (d.rawE x.1) 17 % 4 == k

/-- The rise of one endpoint, in 1/200 W. -/
def riseOf (d : Dev) (x : Nat × Nat × Nat) : Nat :=
  let e := d.rawE x.1
  leAt e 30 2 * (x.2.1 - byteAt e 70)

/-- One endpoint of a batch is released. -/
def releaseOne (d : Dev) (cls : Nat) (x : Nat × Nat × Nat) : Dev :=
  match d.servedE x.1 with
  | some e => d.command cls x.1 x.2.1 x.2.2 e
  | none => d.purge x.1

/-- Seconds from now to the earliest next step of the batch's schedules or end of an override, 60 to 65,535 (R336). -/
def batchTime (d : Dev) (l : List (Nat × Nat × Nat)) : Nat :=
  match d.utc, d.localSec with
  | some u, some ls =>
    let ends := l.flatMap fun x =>
      let e := d.rawE x.1
      let s := leAt e 18 2
      let step := if 4095 < s then none else (d.nextStep s (ls / 60)).map fun m => 60 * m - ls
      let ex := leAt e 74 6
      step.toList ++ (if byteAt e 72 ≠ 255 ∧ ex ≠ 0 ∧ ex ≠ 2 ^ 48 - 1 then [ex - u] else [])
    max 60 (min 65535 (ends.min?.getD 65535))
  | _, _ => 65535

/-- The rises of one evaluation: sent at once, or made a batch that waits for its burst. -/
def formBatch (d : Dev) (cls : Nat) (l : List (Nat × Nat × Nat)) : Dev :=
  let l := d.inOrder l
  let dp := ((l.map d.riseOf).sum + 19999) / 20000
  if l = [] then d
  else if dp < d.fg LMP_BURST_BURST_MIN ∨ d.fb LMP_BURST_EN = false then l.foldl (fun d x => d.releaseOne cls x) d
  else
    let t := d.batchTime l
    d.updLmp fun x => { x with batches := x.batches ++ [{ items := l, dp := min 65535 dp, dur := t }] }

/-- Release endpoints in order while their rise stays within the grant, in 1/200 W. -/
def releaseUpTo (d : Dev) (grant : Nat) : Nat → List (Nat × Nat × Nat) → Nat × List (Nat × Nat × Nat) × Dev
  | sum, [] => (sum, [], d)
  | sum, x :: t =>
    let r := d.riseOf x
    if sum + r ≤ grant then releaseUpTo (d.releaseOne 1 x) grant (sum + r) t else (sum, x :: t, d)

/-- The endpoint's rise is deferred; it keeps its commanded level. -/
def defer (d : Dev) (n : Nat) : Dev :=
  match d.servedE n with
  | some e => d.putStat n (esetBit e 56 1 true)
  | none => d.purge n

/-- The first batch is over: what it still holds is deferred. -/
def batchOver (d : Dev) (l : List (Nat × Nat × Nat)) : Dev :=
  l.foldl (fun d x => d.defer x.1) (d.updLmp fun x => { x with batches := x.batches.drop 1 })

/-- The first batch moves on: its burst is requested (R208), what the burst has granted releases endpoints, and at the
burst's end the rest is deferred. -/
def pump : Nat → Dev → Dev
  | 0, d => d
  | k + 1, d =>
    match d.lmp.batches with
    | [] => d
    | b :: t =>
      let r := d.fg LMP_BURST_REQ
      if b.asked then
        let x := d.releaseUpTo (20000 * d.wgh.lmpGranted) b.released b.items
        let b2 := { b with items := x.2.1, released := x.1 }
        let d := x.2.2.updLmp fun y => { y with batches := b2 :: t }
        if d.wgh.lmpDone then pump k (d.batchOver x.2.1) else d
      else if b.items = [] then pump k (d.batchOver [])
      else if !d.wghRuns || !d.fb WGH_REQ_r_CFG_EN r || !d.isSink r || !d.fb WGH_REQ_r_CFG_ESS r then pump k (d.batchOver b.items)
      else if d.wgh.burst.isSome then d
      else
        let b2 := { b with asked := true }
        (d.updLmp fun y => { y with batches := b2 :: t }).burstStart r b.dp b.dur none

/-- Bursts go on. -/
def runBursts (d : Dev) : Dev := pump (2 * d.lmp.batches.length + 1) d

/-! ### Evaluations (R331, R336) -/

/-- Evaluate one entry: a fall is commanded, a rise is gathered. `force`: a command names the endpoint, so a `SET` goes out
whatever its level. -/
def evalOne (cls : Nat) (force : Bool) (acc : Dev × List (Nat × Nat × Nat)) (n : Nat) : Dev × List (Nat × Nat × Nat) :=
  let d := acc.1
  match d.servedE n with
  | none => (d.touch n, acc.2)
  | some e =>
    let g := d.goalOf e
    let c := byteAt e 70
    if ebit e 87 6 then acc
    else if c < g.1 then
      if d.inBatch n then
        let bs := d.lmp.batches.map fun b => { b with items := b.items.map fun x => if x.1 == n then (n, g.1, g.2) else x }
        (d.updLmp fun x => { x with batches := bs }, acc.2)
      else if ebit e 56 1 && !force then acc
      else (d, acc.2 ++ [(n, g.1, g.2)])
    else if g.1 < c ∨ force = true then ((d.leaveBatch n).command cls n g.1 g.2 e, acc.2)
    else ((d.leaveBatch n).putStat n (esetBit e 56 1 false), acc.2)

/-- One evaluation of entries: the falls in class `cls`, the rises in one batch. -/
def evaluate (d : Dev) (cls : Nat) (force : Bool) (ns : List Nat) : Dev :=
  let r := ns.foldl (evalOne cls force) (d, [])
  (r.1.formBatch cls r.2).runBursts

/-- Evaluate the entries this hub serves. -/
def evalServed (d : Dev) (cls : Nat) : Dev := d.evaluate cls false d.lmp.used

/-- An entry has changed: it is evaluated again (R334), and where it is served without a profile it is greeted (R328). -/
def entryChanged (d : Dev) (n : Nat) : Dev :=
  match d.servedE n with
  | none => d.purge n
  | some e => (if byteAt e 16 = 0 ∧ ebit e 87 6 = false then d.qHello n else d).evaluate 1 false [n]

/-! ### Transactions on their way (R327, R329) -/

/-- The message of a transaction. -/
def reqMsg (t : Txn) (prof : Nat) : List Byte :=
  match t.req with
  | .hello => [1, 1] ++ leBytes 2 t.num ++ [2, 1]
  | .poll => leBytes 1 (max 1 prof) ++ [2] ++ leBytes 2 t.num
  | .set l f => leBytes 1 (max 1 prof) ++ [3] ++ leBytes 2 t.num ++ leBytes 1 l ++ leBytes 1 (if prof = 2 then f else 0)

/-- Send the request of a transaction (R325, R339). -/
def txnSend (d : Dev) (t : Txn) : Dev :=
  let e := d.rawE t.entry
  let m := reqMsg t (byteAt e 16)
  if t.path % 8 < 4 then d.plmSend (t.path % 4) 1 (leBytes 2 t.num ++ leBytes 2 (leAt e 8 2) ++ m)
  else
    let f := d.fresh
    f.2.sessSend (d.fg LMP_GW_g_SESSION (t.path / 16)) 4 (d.lmpMsg 6 (f.1 % 256) (idOf e ++ m))

/-- Transactions outstanding on a path. -/
def outOn (d : Dev) (path : Nat) : Nat :=
  (d.lmp.txns.filter fun t => t.sent && (if path % 8 < 4 then t.path % 8 == path % 8 else t.path == path)).length

/-- A waiting transaction may start: its port's rate and window allow (R329). -/
def txnMayStart (d : Dev) (t : Txn) : Bool :=
  match d.servedE t.entry with
  | none => false
  | some e =>
    let path := byteAt e 11
    let p := path % 8
    !t.sent &&
    if p < 4 then
      d.portUp p && decide (d.outOn path < d.fg LMP_PORT_p_CFG_WIN p) &&
        decide (((vget d.lmp.port p).starts.filter fun x => d.clk.ticks < x + 1000 * msTicks).length < d.fg LMP_PORT_p_CFG_RATE p)
    else p == 4 && d.fb LMP_GW_g_EN (path / 16) && d.fb NET_CTX_s_0_EN (d.fg LMP_GW_g_SESSION (path / 16)) && decide (d.outOn path < 16)

/-- The next transaction starts: the highest class first, in order of arrival. -/
def txnStart (d : Dev) : Dev :=
  let pick := fun c => takeOut (fun (t : Txn) => t.cls == c && d.txnMayStart t) d.lmp.txns
  match ((pick 0).or (pick 1)).or ((pick 2).or (pick 3)) with
  | none => d
  | some (t, rest) =>
    let t := { t with sent := true, num := d.lmp.txnNum, tries := 0, path := byteAt (d.rawE t.entry) 11 }
    let p := t.path % 8
    let now := d.clk.ticks
    let d := d.updLmp fun x => { x with txns := rest ++ [t], txnNum := (x.txnNum + 1) % 65536 }
    let d := if p < 4 then
        (d.finc LMP_PORT_p_CNT_TXN p).updLPort p fun x => { x with starts := (x.starts.filter fun y => now < y + 1000 * msTicks) ++ [now] }
      else d
    d.txnSend t

/-- A transaction has failed every attempt (R329). -/
def txnFailed (d : Dev) (t : Txn) : Dev :=
  let d := d.updLmp fun x => { x with txns := x.txns.filter fun y => !(y.sent && y.num == t.num) }
  let d := if t.path % 8 < 4 then d.fcnt LMP_PORT_p_CNT_FAIL_CNT LMP_PORT_p_STAT_CNT_OVF (t.path % 4) else d
  let d := match d.ent t.entry with
    | none => d.touch t.entry
    | some e =>
      let n := min 255 (byteAt e 73 + 1)
      let e := eput e 73 1 n
      if n = d.fg LMP_POLL_FAIL_LIM then ((d.putStat t.entry (esetBit e 87 7 true)).raise 104 t.entry) else d.putStat t.entry e
  d.tellAll t.owners none .timeout

/-- No reply within `RESP_TMO`: sent again, or failed. -/
def txnTimeout (d : Dev) (num : Nat) : Dev :=
  match d.lmp.txns.find? fun t => t.sent && t.num == num with
  | none => d
  | some t =>
    if t.tries < d.fg LMP_POLL_RETRY then
      let l := d.lmp.txns.map fun y => if y.sent && y.num == num then { y with tries := y.tries + 1 } else y
      (d.updLmp fun x => { x with txns := l }).txnSend t
    else d.txnFailed t

/-- A reply ends its transaction: failures are forgotten, the last-seen time is noted, `f` sets what the reply carries. Answers
the entry as it is then (R328, R329). -/
def txnReply (d : Dev) (num ver : Nat) (is : LReq → Bool) (level : Option Nat) (f : List Byte → List Byte) : Dev :=
  match takeOut (fun (t : Txn) => t.sent && t.num == num && is t.req) d.lmp.txns with
  | none => d
  | some (t, rest) =>
    let d := d.updLmp fun x => { x with txns := rest }
    match d.ent t.entry with
    | none => (d.touch t.entry).tellAll t.owners none .timeout
    | some e =>
      let seen := match d.utc with
        | some u => eput e 64 6 u
        | none => e
      let e2 := f (esetBit (eput seen 73 1 0) 87 7 false)
      let d := d.putStat t.entry e2
      let d := if leAt e 84 3 = 0 ∧ leAt e2 84 3 ≠ 0 then d.raise 111 t.entry else d
      let d := if t.req ≠ .hello ∧ ver ≠ byteAt e 16 then d.qHello t.entry else d
      d.tellAll t.owners level .timeout

/-- `STATUS` (R329). `last` is the time since the last reply. -/
def onStatus (d : Dev) (num ver level faults energy : Nat) : Dev :=
  d.txnReply num ver (· == .poll) (some level) fun e =>
    let o := match d.lmp.txns.find? fun t => t.sent && t.num == num with
      | some t => leAt (d.rawE t.entry) 64 6
      | none => 0
    let dt := if o = 0 then 0 else leAt e 64 6 - o
    let wh := if ver = 2 then energy else leAt e 80 4 + leAt e 30 2 * level * dt / 720000
    let e := eput (eput (eput e 71 1 level) 84 3 faults) 80 4 wh
    if level = byteAt e 70 then esetBit e 87 5 false else e

/-- `ACK` (R329). -/
def onAck (d : Dev) (num ver level : Nat) : Dev :=
  d.txnReply num ver (fun r => match r with
    | .set _ _ => true
    | _ => false) (some level) fun e => esetBit (eput e 71 1 level) 87 5 (level != byteAt e 70)

/-- `HELLO_RSP` (R328): the highest profile within both ranges. -/
def onHello (d : Dev) (num hi lo rated : Nat) : Dev :=
  match d.lmp.txns.find? fun t => t.sent && t.num == num && t.req == .hello with
  | none => d
  | some t =>
    let p := min 2 hi
    let common := decide (max 1 lo ≤ p)
    let d := d.txnReply num 0 (· == .hello) none fun e => esetBit e 87 6 (!common)
    match d.ent t.entry with
    | none => d
    | some e =>
      let e2 := eput e 16 1 (if common then p else 0)
      let e2 := if leAt e2 30 2 = 0 then eput e2 30 2 rated else e2
      let d := if e2 = e then d else d.putConf t.entry e2
      match d.servedE t.entry with
      | some _ => d.evaluate 1 false [t.entry]
      | none => d

/-! ### PLC ports (R326) -/

/-- The port starts: a network start request. -/
def portStart (d : Dev) (p : Nat) : Dev :=
  if d.portOn p then
    ((d.fs LMP_PORT_p_STAT_STATE 1 p).updLPort p fun x => { x with miss := 0 }).plmSend p 8 (leBytes 2 (d.fg LMP_PORT_p_PAN_PAN p))
  else d

/-- Transactions in flight on the port have failed; level changes among them are sent again when it is up (R326, R343). -/
def portFail (d : Dev) (p : Nat) : Dev :=
  let l := d.lmp.txns.filter fun t => t.sent && t.path % 8 == p
  let again := (l.filter fun t => t.req != .hello && t.req != .poll).map (·.entry)
  (l.foldl (fun d t => d.txnFailed t) d).updLmp fun x => { x with again := x.again ++ again }

/-- The port goes down: its modem is held in reset. -/
def portDown (d : Dev) (p : Nat) : Dev :=
  let d := ((d.fs LMP_PORT_p_STAT_STATE 3 p).fs LMP_PORT_p_STAT_DOWN_SEEN 1 p).raise 106 p
  (d.updLPort p fun x => { x with rst := true, miss := 0 }).portFail p

/-- The port is off. -/
def portOff (d : Dev) (p : Nat) : Dev :=
  ((d.fs LMP_PORT_p_STAT_STATE 0 p).updLPort p fun x => { x with rst := false, miss := 0, q := [] }).portFail p

/-- Send the commanded level again to the entries whose transactions the port took down. -/
def sendAgain (d : Dev) (p : Nat) : Dev :=
  let mine := d.lmp.again.filter fun n => byteAt (d.rawE n) 11 % 8 == p
  mine.eraseDups.foldl (fun d n => match d.servedE n with
    | some e => d.qSet 1 n (byteAt e 70) 0
    | none => d) (d.updLmp fun x => { x with again := x.again.filter fun n => !mine.contains n })

/-- A network start confirm. -/
def startConfirm (d : Dev) (p status : Nat) : Dev :=
  if !d.portOn p then d
  else if status = 0 then (d.fs LMP_PORT_p_STAT_STATE 2 p).sendAgain p
  else d.portDown p

end Dev
end Sys2Proof.Machine
end

