-- ==== Sys2Proof/Machine/Lamplighter.lean ====
section
/-! DEFINITION. Lamplighter: replication between hubs, directory roles, commands and registers (R319, R339 to R346), and the
commands of its rows. -/
namespace Sys2Proof.Machine

/-- Slot `k` of a version vector: counter and writer. -/
def slotCnt (e : List Byte) (k : Nat) : Nat := leAt e (36 + 8 * k) 4
def slotWriter (e : List Byte) (k : Nat) : Nat := leAt e (32 + 8 * k) 2

/-- The vector of `a` is higher than that of `b` in some slot. -/
def someHigher (a b : List Byte) : Bool := [0, 1, 2].any fun k => decide (slotCnt b k < slotCnt a k)

/-- Of two parts each higher somewhere, `a` wins (R340). -/
def wins (a b : List Byte) : Bool :=
  if slotCnt a 2 ≠ slotCnt b 2 then decide (slotCnt b 2 < slotCnt a 2)
  else if slotCnt a 1 ≠ slotCnt b 1 then decide (slotCnt b 1 < slotCnt a 1)
  else if slotCnt a 0 ≠ slotCnt b 0 then decide (slotCnt b 0 < slotCnt a 0)
  else decide (slotWriter b 2 < slotWriter a 2)

/-- The slot-by-slot maximum of two vectors, in the configuration part of `e`. -/
def maxVector (a b e : List Byte) : List Byte :=
  [0, 1, 2].foldl (fun e k => putAt e (32 + 8 * k) (((if slotCnt a k < slotCnt b k then b else a).drop (32 + 8 * k)).take 8)) e

/-- The configuration part that results, and whether there is a conflict (R340). -/
def mergeConf (l r : List Byte) : List Byte × Bool :=
  if someHigher r l && someHigher l r then (esetBit (maxVector l r ((if wins r l then r else l).take 64)) 56 0 true, true)
  else if someHigher r l then (r.take 64, false)
  else (l.take 64, false)

/-- Serial comparison modulo 2^32. -/
def serialHigher (a b : Nat) : Bool := decide (0 < (a + 2 ^ 32 - b) % 2 ^ 32 ∧ (a + 2 ^ 32 - b) % 2 ^ 32 < 2 ^ 31)

namespace Dev

/-! ### Replication (R340, R341) -/

/-- A received entry is merged. -/
def mergeIn (d : Dev) (k : Nat) (b : List Byte) : Dev :=
  if b.length ≠ 128 ∨ leAt b 124 4 ≠ crc32c (b.take 124) ∨ leAt b 0 8 = 0 then d
  else
    let id := idOf b
    let d := d.updLmp fun x => { x with pulls := x.pulls.filter (· != (k, rangeOf id)) }
    if !d.holds b then d
    else match d.lookup id with
      | none =>
        match d.newE b with
        | (some n, d) => d.entryChanged n
        | (none, d) => d
      | some (_, n) =>
        match d.ent n with
        | none => ((d.touch n).wrE n b).entryChanged n
        | some l =>
          let m := mergeConf l b
          let conf := if d.serves l then esetBit (esetBit m.1 56 1 (ebit l 56 1)) 56 2 (ebit l 56 2) else m.1
          let d := if m.2 then (d.fcnt LMP_REPL_STAT_CONFLICT_CNT LMP_REPL_STAT_CNT_OVF).raise 108 n else d
          let stat := if serialHigher (leAt b 88 4) (leAt l 88 4) then b.drop 64 else l.drop 64
          if conf ++ stat.take 60 = l.take 124 then d else (d.wrE n (conf ++ stat)).entryChanged n

/-- The entries both this hub and peer `k` hold, in a range. -/
def common (d : Dev) (k r : Nat) : List (List Byte) :=
  (d.lmp.used.filterMap d.ent).filter fun e => rangeOf (idOf e) == r && d.holds e && d.peerHolds k e

/-- The digest of entries (R341). -/
def digest (l : List (List Byte)) : Nat :=
  l.foldl (fun x e => Nat.xor x (crc32c (idOf e ++ (e.drop 32).take 24 ++ (e.drop 88).take 4))) 0

/-- The digests of all ranges go to peer `k`. -/
def sendDigests (d : Dev) (k : Nat) : Dev :=
  (chunks 40 256 (List.range 256)).foldl (fun d l => d.lmpSend k 2 l.length (l.flatMap fun r =>
    let c := d.common k r
    leBytes 2 r ++ leBytes 2 c.length ++ leBytes 4 (digest c))) d

/-- Digests received: ranges that differ are requested, ranges that agree no longer are. -/
def digestIn (d : Dev) (k : Nat) (l : List (Nat × Nat × Nat)) : Dev :=
  let l := l.filter fun x => x.1 < 256
  let same := fun (x : Nat × Nat × Nat) => digest (d.common k x.1) == x.2.2
  let ok := (l.filter same).map (·.1)
  let bad := (l.filter fun x => !same x).map (·.1)
  (d.updLmp fun x => { x with pulls := x.pulls.filter fun p => !(p.1 == k && ok.contains p.2) }).pullSend k bad

/-- A request for ranges is answered with the entries both hold. -/
def pullIn (d : Dev) (k : Nat) (rs : List Nat) : Dev :=
  let es := rs.flatMap fun r => d.common k r
  (chunks 3 es.length es).foldl (fun d l => d.lmpSend k 1 l.length l.flatten) d

/-! ### Masters (R342) -/

/-- The takeover's pulls have finished. -/
def takeoverEnd (d : Dev) : Dev :=
  match d.lmp.takeover with
  | none => d
  | some r =>
    ((d.updLmp fun x => { x with takeover := none, pulls := [] }).fs SYS_ROLE_STAT_DIR_ACTIVE r).fs LMP_EPOCH_EPOCH d.lmp.takeEpoch |>.raise 109 r

/-- A takeover of the role that `DIR_ROLE` names: a higher epoch, and every range of the new scope is pulled. -/
def takeoverStart (d : Dev) : Dev :=
  let r := d.fg SYS_ROLE_DIR_ROLE
  if d.lmpOn ∧ r ≠ 0 ∧ r ≠ d.fg SYS_ROLE_STAT_DIR_ACTIVE ∧ d.lmp.takeover ≠ some r then
    let d := d.updLmp fun x => { x with takeover := some r, takeEpoch := min (2 ^ 32 - 1) (vget x.epoch r + 1) }
    let d := d.peers.foldl (fun d k => d.pullSend k (List.range 256)) d
    if d.lmp.pulls = [] then d.takeoverEnd else d
  else d

/-- The master role is handed back. -/
def handBack (d : Dev) : Dev :=
  if d.fb SYS_ROLE_STAT_DIR_ACTIVE then ((d.fs SYS_ROLE_STAT_DIR_ACTIVE 0).fs LMP_EPOCH_EPOCH 0).raise 109 0 else d

/-- `DIR_ROLE` has changed from `old` (R342, R343). -/
def dirRoleChanged (d : Dev) (old : Nat) : Dev :=
  let r := d.fg SYS_ROLE_DIR_ROLE
  if r = old then d
  else
    let d := d.updLmp fun x => { x with takeover := none }
    let d := if r < d.fg SYS_ROLE_STAT_DIR_ACTIVE then d.handBack else d
    if d.fb LMP_MASTER_STANDBY then d else d.takeoverStart

/-- A `BEAT` is heard. -/
def beatIn (d : Dev) (role district hub epoch : Nat) : Dev :=
  let now := d.clk.ticks
  let scope := decide (role ≠ 1) || district == d.fg LMP_HUB_DISTRICT
  let d := d.updLmp fun x => { x with epoch := vset x.epoch role (max (vget x.epoch role) epoch)
                                      beatAt := if scope then vset x.beatAt role (some now) else x.beatAt }
  let own := d.fg LMP_EPOCH_EPOCH
  if role ≠ 0 ∧ role = d.fg SYS_ROLE_STAT_DIR_ACTIVE ∧ scope = true ∧ (own < epoch ∨ (own = epoch ∧ hub < d.fg LMP_HUB_HUB_ID)) then d.handBack
  else d

/-- No `BEAT` of the role has been heard for `FAIL_T`. -/
def silent (d : Dev) : Bool :=
  match vget d.lmp.beatAt (d.fg SYS_ROLE_DIR_ROLE) with
  | none => true
  | some t => decide (t + d.fg LMP_MASTER_FAIL_T * 1000 * msTicks ≤ d.clk.ticks)

/-! ### Commands on levels (R331, R332) -/

/-- The expiry an override's duration gives (R344). Without valid time a finite one is a free value (log entry 3). -/
def expiryOf (d : Dev) (dur : Nat) : Nat × Dev :=
  if dur = 0 then (0, d) else if dur = 0xFFFF then (2 ^ 48 - 1, d)
  else match d.utc with
    | some u => ((u + 60 * dur) % 2 ^ 48, d)
    | none =>
      let f := d.fresh
      (f.1 % 2 ^ 48, f.2)

/-- Set or release an override. -/
def override (d : Dev) (n level dur : Nat) : Dev :=
  match d.ent n with
  | none => d
  | some e =>
    let x := d.expiryOf (if level = 255 then 0xFFFF else dur)
    x.2.putStat n (eput (eput e 72 1 level) 74 6 x.1)

/-- The members of a group: served endpoints that list it and may be commanded. -/
def lampMembers (d : Dev) (g : Nat) : List Nat :=
  d.servedAll.filter fun n =>
    let e := d.rawE n
    [20, 22, 24, 26].any (fun i => leAt e i 2 == g) && !ebit e 87 6

/-- Execute a group command on members. -/
def groupRun (d : Dev) (ns : List Nat) (level dur : Nat) (owner : Option (Path × Nat)) : Dev :=
  let g := d.lmp.groupNum
  let run : GroupRun := { id := g, owner := owner, left := ns.length }
  let w := ns.map fun n => (n, Owner.group g)
  let d := d.updLmp fun x => { x with groups := x.groups ++ [run], groupNum := g + 1, waits := x.waits ++ w }
  (ns.foldl (fun d n => d.override n level dur) d).evaluate 0 true ns

/-- A level is in range (R320, R344). -/
def levelOk (l : Nat) : Bool := decide (l ≤ 200) || l == 255

/-- A forwarded group command (R332). -/
def groupIn (d : Dev) (b : List Byte) : Dev :=
  let ns := d.lampMembers (leAt b 0 2)
  if b.length ≠ 6 ∨ leAt b 0 2 = 0 ∨ levelOk (byteAt b 2) = false ∨ 8192 < ns.length ∨ 4 ≤ d.lmp.groups.length then d
  else if ns = [] then d.raise 107
  else d.groupRun ns (byteAt b 2) (leAt b 4 2) none

/-! ### Messages received -/

/-- A message from peer `k` is taken: the peer is enabled and has been heard (R346). -/
def fromPeer (d : Dev) (k role district : Nat) (f : Dev → Dev) : Dev :=
  if d.lmpOn && d.fb LMP_PEER_k_CFG_EN k then
    let now := d.clk.ticks
    f (d.updLmp fun x => { x with peerAt := vset x.peerAt k (some now), peerRole := vset x.peerRole k role, peerDist := vset x.peerDist k district })
  else d

/-- An endpoint message (R327). -/
def endpointIn (d : Dev) (m : List Byte) : Dev :=
  let num := leAt m 2 2
  let ver := byteAt m 0
  match byteAt m 1 with
  | 0x81 => if 8 ≤ m.length then d.onHello num (byteAt m 4) (byteAt m 5) (leAt m 6 2) else d
  | 0x82 => if 8 ≤ m.length then d.onStatus num ver (byteAt m 4) (leAt m 5 3) (leAt m 8 4) else d
  | 0x83 => if 6 ≤ m.length then d.onAck num ver (byteAt m 5) else d
  | _ => d

/-- An endpoint message through gateway `g`: it answers a transaction sent there for the endpoint (R339). -/
def gatewayIn (d : Dev) (g : Nat) (eui m : List Byte) : Dev :=
  if d.lmpOn && d.fb LMP_GW_g_EN g && d.lmp.txns.any (fun t => t.sent && t.num == leAt m 2 2 && t.path == 16 * g + 4 && idOf (d.rawE t.entry) == eui) then
    d.endpointIn m
  else d

/-- The enabled peer on a path, with the hub number it declares. -/
def peerOn (d : Dev) (path link hub : Nat) : Option Nat :=
  d.peers.find? fun k => d.fg LMP_PEER_k_CFG_PATH k == path && d.fg LMP_PEER_k_CFG_LINK k == link && d.fg LMP_PEER_k_CFG_HUB_ID k == hub

/-- A message of R339 that arrives on a link; one whose form is wrong is ignored. -/
def lmpIn (d : Dev) (path link : Nat) (b : List Byte) : Dev :=
  let p := b.drop 8
  let cnt := byteAt b 5
  let role := byteAt b 4 % 4
  let dist := leAt b 6 2
  let hub := leAt b 2 2
  if b.length < 8 ∨ 520 < b.length ∨ byteAt b 0 ≠ 1 then d
  else if byteAt b 1 = 6 then
    match (List.range 16).find? fun g => d.fb LMP_GW_g_EN g && path == 1 && d.fg LMP_GW_g_SESSION g == link with
    | some g => d.gatewayIn g (p.take 8) (p.drop 8)
    | none => d
  else match d.peerOn path link hub with
    | none => d
    | some k => d.fromPeer k role dist fun d =>
      match byteAt b 1 with
      | 1 => if 1 ≤ cnt ∧ cnt ≤ 3 ∧ p.length = 128 * cnt ∧ d.fb LMP_CTRL_REPL_EN = true then (chunks 128 3 p).foldl (fun d e => d.mergeIn k e) d else d
      | 2 => if 1 ≤ cnt ∧ cnt ≤ 40 ∧ p.length = 8 * cnt ∧ d.fb LMP_CTRL_REPL_EN = true then
          d.digestIn k ((chunks 8 40 p).map fun x => (leAt x 0 2, leAt x 2 2, leAt x 4 4)) else d
      | 3 => if 1 ≤ cnt ∧ cnt ≤ 64 ∧ p.length = 2 * cnt ∧ d.fb LMP_CTRL_REPL_EN = true then d.pullIn k ((chunks 2 64 p).map leNat) else d
      | 4 => if p.length = 4 then d.beatIn role dist hub (leNat p) else d
      | 5 => d.groupIn p
      | _ => d

/-! ### Registers (R319, R346) -/

/-- Lamplighter starts: the directory is taken up, its ports start, its roles are taken. -/
def lmpEnable (d : Dev) : Dev :=
  let d := (d.scanDir).sunShow
  let d := (List.range 4).foldl (fun d p => d.portStart p) d
  if d.fb LMP_MASTER_STANDBY then d else d.takeoverStart

/-- Lamplighter stops: what was under way has failed. -/
def lmpDisable (d : Dev) : Dev :=
  let d := match d.wgh.burst with
    | some b => if b.cmd = none then d.burstEnd b .ok else d
    | none => d
  let d := (List.range 4).foldl (fun d p => d.portOff p) d
  let own := d.lmp.txns.flatMap (·.owners) ++ d.lmp.waits.map (·.2)
  let d := (d.updLmp fun x => { x with txns := [], waits := [], batches := [], again := [], takeover := none, pulls := [], supply := 0 }).tellAll own none .timeout
  d.handBack

/-- `SYS_ROLE` has been written: a device that becomes a follower stops its Lamplighter, one that no longer is one starts it where
it is enabled (R28). -/
def lmpRole (d d0 : Dev) : Dev :=
  if d.lmpOn && !d0.lmpOn then d.lmpEnable
  else if d0.lmpOn && !d.lmpOn then
    ((d.fs SYS_ROLE_PAR_MODE (d0.fg SYS_ROLE_PAR_MODE)).lmpDisable).fs SYS_ROLE_PAR_MODE (d.fg SYS_ROLE_PAR_MODE)
  else d

/-- Encodings of `LMP` registers that depend on other settings. -/
def rangeLMP (d : Dev) (b n w : Nat) : Bool :=
  match b with
  | 0x200C0000 => LMP_CTRL_EN.of w == 1 && !d.fb LMP_HUB_HUB_ID
  | 0x200C0014 => !(decide (0x80000000 ≤ LMP_DIR_BASE_BASE.of w * 1048576) && d.placed (LMP_DIR_BASE_BASE.of w * 1048576) 35651584)
  | 0x200C001C => !(decide (0x80000000 ≤ LMP_SCHED_BASE_BASE.of w * 524288) && d.placed (LMP_SCHED_BASE_BASE.of w * 524288) 524288)
  | 0x200C0034 =>
    let r := LMP_BURST_REQ.of w
    LMP_BURST_EN.of w == 1 && !(d.fb WGH_REQ_r_CFG_EN r && d.isSink r && d.fb WGH_REQ_r_CFG_ESS r)
  | 0x200C0100 => LMP_PEER_k_CFG_PATH.of w == 0 && decide (15 < LMP_PEER_k_CFG_LINK.of w)
  | 0x200C0180 => LMP_GW_g_EN.of w == 1 && decide (d.fg NET_CTX_s_0_DEST (LMP_GW_g_SESSION.of w) ≠ 4)
  | _ => n != n

/-- Writes refused in the present state. -/
def stateLMP (d : Dev) (b n w : Nat) : Bool :=
  match b with
  | 0x200C0000 => LMP_CTRL_EN.of w == 1 && !d.fb LMP_CTRL_EN && d.follower
  | 0x200C0200 =>
    let same := [LMP_PORT_p_CFG_MODE, LMP_PORT_p_CFG_BAUD, LMP_PORT_p_CFG_SCK, LMP_PORT_p_CFG_WIN, LMP_PORT_p_CFG_RATE].all fun F => F.of w == d.fg F n
    d.fb LMP_CTRL_EN && d.fb LMP_PORT_p_CFG_EN n && !same
  | _ => false

/-- Registers that may change only while the engine, or their own enable with it, is off. -/
def lockedLMP (d : Dev) (b n : Nat) : Bool :=
  match b with
  | 0x200C0010 | 0x200C0014 | 0x200C001C => d.fb LMP_CTRL_EN
  | 0x200C0204 => d.fb LMP_CTRL_EN && d.fb LMP_PORT_p_CFG_EN n
  | 0x200C0100 => d.fb LMP_CTRL_EN && d.fb LMP_PEER_k_CFG_EN n
  | 0x200C0180 => d.fb LMP_CTRL_EN && d.fb LMP_GW_g_EN n
  | _ => false

/-- Clearing an overflow flag sets its counters to 0. -/
def clearedLMP (d : Dev) (b n lo : Nat) : Dev :=
  match b, lo with
  | 0x200C0018, 23 => d.fs LMP_DIR_STAT_DAMAGE_CNT 0
  | 0x200C0048, 23 => d.fs LMP_REPL_STAT_CONFLICT_CNT 0
  | 0x200C0208, 28 => (d.fs LMP_PORT_p_STAT_CRC_CNT 0 n).fs LMP_PORT_p_CNT_FAIL_CNT 0 n
  | _, _ => d

/-- What a write to an `LMP` register does beyond the field it sets. -/
def afterLMP (d d0 : Dev) (b n : Nat) : Dev :=
  match b with
  | 0x200C0000 =>
    if d.lmpOn && !d0.lmpOn then d.lmpEnable
    else if d0.lmpOn && !d.lmpOn then
      (d0.lmpDisable).fs LMP_CTRL_EN 0 |>.fs LMP_CTRL_REPL_EN (d.fg LMP_CTRL_REPL_EN) |>.fs LMP_CTRL_POLL_EN (d.fg LMP_CTRL_POLL_EN)
        |>.fs LMP_CTRL_SCHED_EN (d.fg LMP_CTRL_SCHED_EN)
    else d
  | 0x200C0014 => d.scanDir
  | 0x200C0020 | 0x200C0024 | 0x200C002C => if d.lmpOn then d.sunShow else d
  | 0x200C0040 => if d.fb LMP_MASTER_STANDBY then d else d.takeoverStart
  | 0x200C0200 =>
    if d.lmpOn && d.fb LMP_PORT_p_CFG_EN n && !d0.fb LMP_PORT_p_CFG_EN n then d.portStart n
    else if d0.fb LMP_PORT_p_CFG_EN n && !d.fb LMP_PORT_p_CFG_EN n then d.portOff n
    else d
  | _ => d

end Dev

/-! ## The rows -/

/-- A row acts while Lamplighter runs. -/
def lampRow (f : Dev → Dev) (d : Dev) : Dev := if d.lmpOn then f d else d

/-! ### Modems -/

def execNetworkStartConfirm (p : Fin 4) (status : Byte) (s : State) : Host.Outcome State Fault Refusal :=
  s.run fun d => d.startConfirm p.val status.toNat

/-- `ADP-DATA.confirm`: the modem reports what became of a message. The transaction ends with its reply or its timeouts only
(R329), so nothing changes. -/
def execDataConfirm (_p : Fin 4) (_handle : BitVec 16) (_status : Byte) (s : State) : Host.Outcome State Fault Refusal := s.run id

/-- An entry of a joining endpoint (log entry 47): the fields the rule does not give are at their neutral values. -/
def joinEntry (d : Dev) (p : Nat) (eui short : Nat) : List Byte :=
  let e := List.replicate 124 (0 : Byte)
  let e := eput (eput (eput (eput e 0 8 eui) 8 2 short) 11 1 p) 12 2 (d.fg LMP_HUB_HUB_ID)
  let e := eput (eput e 14 2 (d.fg LMP_HUB_DISTRICT)) 18 2 0xFFFF
  eput (eput e 72 1 255) 74 6 (2 ^ 48 - 1)

/-- A join notification (R326). -/
def joinDev (p eui short : Nat) (d : Dev) : Dev :=
  if !d.portOn p ∨ eui = 0 then d
  else match d.lookup (leBytes 8 eui) with
    | some (_, n) =>
      match d.ent n with
      | none => d.touch n
      | some e => (d.putConf n (eput e 8 2 short)).entryChanged n
    | none =>
      match d.newE (joinEntry d p eui short) with
      | (none, d) => d
      | (some n, d) => ((d.putConf n (d.rawE n)).raise 105 n).entryChanged n

def execJoinNotification (p : Fin 4) (eui : BitVec 64) (short : BitVec 16) (s : State) : Host.Outcome State Fault Refusal :=
  s.run (joinDev p.val eui.toNat short.toNat)

/-- A leave notification (R326). -/
def leaveDev (p eui : Nat) (d : Dev) : Dev :=
  if !d.portOn p then d
  else match d.lookup (leBytes 8 eui) with
    | none => d
    | some (_, n) =>
      match d.ent n with
      | none => d.touch n
      | some e => d.putConf n (eput e 8 2 0xFFFF)

def execLeaveNotification (p : Fin 4) (eui : BitVec 64) (_short : BitVec 16) (s : State) : Host.Outcome State Fault Refusal :=
  s.run (leaveDev p.val eui.toNat)

def execGetConfirm (p : Fin 4) (s : State) : Host.Outcome State Fault Refusal :=
  s.run fun d => d.updLPort p.val fun x => { x with miss := 0 }

def execModemRestart (p : Fin 4) (s : State) : Host.Outcome State Fault Refusal := s.run fun d => d.portStart p.val

def execPlcFrameBad (p : Fin 4) (s : State) : Host.Outcome State Fault Refusal :=
  s.run fun d => d.fcnt LMP_PORT_p_STAT_CRC_CNT LMP_PORT_p_STAT_CNT_OVF p.val

/-- The keep-alive of an up port (R326). -/
def keepaliveDev (p : Nat) (d : Dev) : Dev :=
  if !d.portUp p then d
  else if 3 ≤ (vget d.lmp.port p).miss then d.portDown p
  else (d.updLPort p fun x => { x with miss := x.miss + 1 }).plmSend p 6 (leBytes 2 0)

def execPlcKeepaliveTimer (p : Fin 4) (s : State) : Host.Outcome State Fault Refusal := s.run (keepaliveDev p.val)

/-- The modem's reset ends, and the port starts again (R326). -/
def plcResetDev (p : Nat) (d : Dev) : Dev :=
  if (vget d.lmp.port p).rst then (d.updLPort p fun x => { x with rst := false }).portStart p else d

def execPlcResetTimer (p : Fin 4) (s : State) : Host.Outcome State Fault Refusal := s.run (plcResetDev p.val)

/-- A modem's handshake line (R323): in UART mode the device may send; in SPI mode the device clocks a transfer, in which it
has nothing of its own to send. -/
def handshakeDev (p : Nat) (d : Dev) : Dev :=
  if d.fb LMP_PORT_p_CFG_MODE p then d else (d.updLPort p fun x => { x with cts := true }).plmFlush p

def execModemHandshakeLine (p : Fin 4) (s : State) : Host.Outcome State Fault Refusal := s.run (handshakeDev p.val)

/-! ### Endpoints and transactions -/

def execEndpointHelloRsp (num : BitVec 16) (_ver hi lo : Byte) (rated : BitVec 16) (s : State) : Host.Outcome State Fault Refusal :=
  s.run (lampRow fun d => d.onHello num.toNat hi.toNat lo.toNat rated.toNat)

def execEndpointStatus (num : BitVec 16) (ver level : Byte) (faults : BitVec 24) (energy : W32) (_power : BitVec 16) (s : State) :
    Host.Outcome State Fault Refusal :=
  s.run (lampRow fun d => d.onStatus num.toNat ver.toNat level.toNat faults.toNat energy.toNat)

def execEndpointAck (num : BitVec 16) (ver _result level : Byte) (s : State) : Host.Outcome State Fault Refusal :=
  s.run (lampRow fun d => d.onAck num.toNat ver.toNat level.toNat)

def execTransactionStart (s : State) : Host.Outcome State Fault Refusal := s.run (lampRow Dev.txnStart)

def execTransactionResponseTimeout (num : BitVec 16) (s : State) : Host.Outcome State Fault Refusal :=
  s.run (lampRow fun d => d.txnTimeout num.toNat)

/-- A poll falls due (R330). An endpoint without a profile is greeted again (R328). -/
def pollDev (n : Nat) (d : Dev) : Dev :=
  match d.servedE n with
  | none => d.touch n
  | some e =>
    let d := if byteAt e 16 = 0 ∧ ebit e 87 6 = false then d.qHello n else d
    if d.fb LMP_CTRL_POLL_EN then d.qTxn 3 n .poll [] else d

def execPollDue (entry : Fin 262144) (s : State) : Host.Outcome State Fault Refusal := s.run (lampRow (pollDev entry.val))

/-! ### Schedules, overrides, deferred endpoints, supply -/

/-- Overrides until the next step end where a step lies in the minutes passed (R331). -/
def endOverrides (d : Dev) (a b : Nat) : Dev :=
  d.servedAll.foldl (fun d n =>
    let e := d.rawE n
    if byteAt e 72 ≠ 255 ∧ leAt e 74 6 = 0 ∧ leAt e 18 2 ≤ 4095 ∧ d.stepWithin (leAt e 18 2) a b = true then d.override n 255 0 else d) d

/-- A local minute boundary (R322, R334, R335): a minute already passed is not evaluated a second time. -/
def minuteDev (d : Dev) : Dev :=
  match d.localMin with
  | none => d
  | some m =>
    let last := d.lmp.minute.getD (m - 1)
    let d := if m / 1440 ≠ last / 1440 ∨ d.lmp.minute = none then d.sunShow else d
    if d.fb LMP_CTRL_SCHED_EN = false ∨ m ≤ last then d
    else ((endOverrides d last m).updLmp fun x => { x with minute := some m }).evalServed 1

def execLocalMinuteBoundary (s : State) : Host.Outcome State Fault Refusal := s.run (lampRow minuteDev)

/-- An override reaches its expiry (R331). -/
def overrideExpiryDev (n : Nat) (d : Dev) : Dev :=
  match d.servedE n, d.utc with
  | some e, some u =>
    let x := leAt e 74 6
    if byteAt e 72 ≠ 255 ∧ x ≠ 0 ∧ x ≠ 2 ^ 48 - 1 ∧ x ≤ u then (d.override n 255 0).evaluate 1 false [n] else d
  | _, _ => d

def execOverrideExpiry (entry : Fin 262144) (s : State) : Host.Outcome State Fault Refusal :=
  s.run (lampRow (overrideExpiryDev entry.val))

/-- The deferred endpoints form a batch: first to their minimum level, then to their target (R337). -/
def deferredDev (d : Dev) : Dev :=
  let r := d.lmp.used.foldl (fun (acc : Dev × List (Nat × Nat × Nat)) n =>
    let d := acc.1
    match d.servedE n with
    | none => acc
    | some e =>
      let g := d.goalOf e
      let c := byteAt e 70
      let low := min g.1 (byteAt e 28)
      if ebit e 56 1 = false ∨ d.inBatch n = true then acc
      else if g.1 ≤ c then (d.putStat n (esetBit e 56 1 false), acc.2)
      else (d, acc.2 ++ [(n, if c < low then low else g.1, g.2)])) (d, [])
  (r.1.formBatch 1 r.2).runBursts

def execDeferredRetryTimer (s : State) : Host.Outcome State Fault Refusal := s.run (lampRow deferredDev)

/-- The lit load in 1/200 W (R338). -/
def litLoad (d : Dev) : Nat := (d.servedAll.map fun n => leAt (d.rawE n) 30 2 * byteAt (d.rawE n) 70).sum

/-- Shed endpoints in order until the lit load no longer exceeds the grant (R338). -/
def shedLoop (grant : Nat) : List Nat → Dev → Dev
  | [], d => d
  | n :: t, d =>
    if litLoad d ≤ grant then d
    else
      let e := esetBit (d.rawE n) 56 2 true
      let d := if byteAt e 70 = 0 then d.putStat n e else (d.leaveBatch n).command 0 n 0 0 e
      shedLoop grant t d

/-- Lowest shed priority first, and within it the highest entry number; those not shed yet. -/
def shedOrder (d : Dev) : List Nat :=
  [0, 1, 2, 3].flatMap fun k => (d.servedAll.filter fun n => byteAt (d.rawE n) 17 % 4 == k && !ebit (d.rawE n) 56 2).reverse

/-- The supply level is read (R338, R343). -/
def supplyDev (d : Dev) : Dev :=
  let new := d.fg WGH_SUPPLY_LEVEL
  let old := d.lmp.supply
  let d :=
    if new = old then d
    else
      let d := d.updLmp fun x => { x with supply := new }
      let d := match d.wgh.burst with
        | some b => if b.cmd = none ∧ old < new then (d.burstEnd b .ok).runBursts else d
        | none => d
      let d := if new < 2 then d.servedAll.foldl (fun d n => d.putStat n (esetBit (d.rawE n) 56 2 false)) d else d
      d.evalServed 0
  if new = 2 then shedLoop (20000 * d.fg WGH_REQ_r_STAT_GRANT (d.fg LMP_BURST_REQ)) (shedOrder d) d else d

def execSupplyLevelPoll (s : State) : Host.Outcome State Fault Refusal := s.run (lampRow supplyDev)

/-- A grant boundary (R206); Lamplighter's burst goes on (R336). -/
def execGrantBoundary (s : State) : Host.Outcome State Fault Refusal :=
  s.run fun d => lampRow Dev.runBursts (grantBoundaryDev d)

/-! ### Messages between hubs -/

def execLmpUpdateReceived (peer : Fin 16) (role : Fin 4) (district : BitVec 16) (entries : List (List Byte)) (s : State) :
    Host.Outcome State Fault Refusal :=
  s.run fun d => d.fromPeer peer.val role.val district.toNat fun d =>
    if d.fb LMP_CTRL_REPL_EN then (entries.take 3).foldl (fun d e => d.mergeIn peer.val e) d else d

def execLmpDigestReceived (peer : Fin 16) (role : Fin 4) (district : BitVec 16) (ranges : List (Nat × Nat × Nat)) (s : State) :
    Host.Outcome State Fault Refusal :=
  s.run fun d => d.fromPeer peer.val role.val district.toNat fun d =>
    if d.fb LMP_CTRL_REPL_EN then d.digestIn peer.val (ranges.take 40) else d

def execLmpPullReceived (peer : Fin 16) (role : Fin 4) (district : BitVec 16) (ranges : List Nat) (s : State) :
    Host.Outcome State Fault Refusal :=
  s.run fun d => d.fromPeer peer.val role.val district.toNat fun d =>
    if d.fb LMP_CTRL_REPL_EN then d.pullIn peer.val (ranges.take 64) else d

def execLmpBeatReceived (peer : Fin 16) (role : Fin 4) (district hub : BitVec 16) (epoch : W32) (s : State) :
    Host.Outcome State Fault Refusal :=
  s.run fun d => d.fromPeer peer.val role.val district.toNat fun d => d.beatIn role.val district.toNat hub.toNat epoch.toNat

def execLmpGroupReceived (peer : Fin 16) (role : Fin 4) (district : BitVec 16) (payload : List Byte) (s : State) :
    Host.Outcome State Fault Refusal :=
  s.run fun d => d.fromPeer peer.val role.val district.toNat fun d => d.groupIn payload

def execLmpEndpointReceived (g : Fin 16) (eui : BitVec 64) (msg : List Byte) (s : State) : Host.Outcome State Fault Refusal :=
  s.run fun d => d.gatewayIn g.val (leBytes 8 eui.toNat) msg

/-- Every 60 s digests go to each peer (R341). -/
def digestDev (d : Dev) : Dev :=
  if d.fb LMP_CTRL_REPL_EN then d.peers.foldl (fun d k => d.sendDigests k) d else d

def execDigestTimer (s : State) : Host.Outcome State Fault Refusal := s.run (lampRow digestDev)

/-- A master's `BEAT` (R342). -/
def beatDev (d : Dev) : Dev :=
  if d.fb SYS_ROLE_STAT_DIR_ACTIVE then d.lmpSendAll 4 (leBytes 4 (d.fg LMP_EPOCH_EPOCH)) else d

def execBeatTimer (s : State) : Host.Outcome State Fault Refusal := s.run (lampRow beatDev)

def execMasterSilenceTimeout (s : State) : Host.Outcome State Fault Refusal :=
  s.run (lampRow fun d => if d.silent then d.takeoverStart else d)

def execTakeoverComplete (s : State) : Host.Outcome State Fault Refusal := s.run (lampRow Dev.takeoverEnd)

/-- A deleted entry is freed (R321). -/
def entryFreeDev (n : Nat) (d : Dev) : Dev :=
  match d.ent n with
  | none => d.touch n
  | some e => if d.lmp.used.contains n ∧ ebit e 56 7 = true then (d.purge n).freeE n else d

def execEntryFreeTimer (entry : Fin 262144) (s : State) : Host.Outcome State Fault Refusal := s.run (entryFreeDev entry.val)

/-! ### Commands (R344) -/

def execLmpCaps (p : Path) (tag : Byte) (s : State) : Host.Outcome State Fault Refusal :=
  s.run fun d => d.runCmd 0x900 p tag (capsCmd [0x200C0008])

def execLmpStatus (p : Path) (tag : Byte) (s : State) : Host.Outcome State Fault Refusal :=
  s.run fun d => d.runCmd 0x901 p tag
    (capsCmd [0x200C0004, 0x200C0018, 0x200C0028, 0x200C0048, 0x200C0208, 0x200C0218, 0x200C0228, 0x200C0238])

/-- `LMP_ENTRY_READ`. -/
def entryReadCmd (c : Cmd) (d : Dev) : Res × Dev :=
  let b := c.payload
  let n := if byteAt b 0 = 0 then (d.lookup ((b.drop 4).take 8)).map (·.2)
    else if d.lmp.used.contains (leAt b 4 8) then some (leAt b 4 8) else none
  if b.length ≠ 12 ∨ 1 < byteAt b 0 ∨ leAt b 1 3 ≠ 0 then (.st .range, d)
  else match n with
    | none => (.st .range, d)
    | some n => match d.ent n with
      | none => (.st .fault, d.touch n)
      | some e => (.reply .ok (leBytes 4 n ++ e), d)

def execLmpEntryRead (p : Path) (tag : Byte) (s : State) : Host.Outcome State Fault Refusal :=
  s.run fun d => d.runCmd 0x902 p tag entryReadCmd

/-- The first 32 bytes of an entry are in range (R320). -/
def entryOk (b : List Byte) : Bool :=
  b.length == 32 && leAt b 0 8 != 0 && decide (byteAt b 11 % 8 ≤ 4) && !ebit b 11 3 && decide (byteAt b 16 ≤ 2) &&
  decide (byteAt b 17 < 4) && (decide (leAt b 18 2 ≤ 4095) || leAt b 18 2 == 0xFFFF) && decide (byteAt b 28 ≤ 200) && byteAt b 29 == 0

/-- `LMP_ENTRY_WRITE`. -/
def entryWriteCmd (c : Cmd) (d : Dev) : Res × Dev :=
  let b := c.payload
  let fresh := eput (eput (b ++ List.replicate 92 0) 72 1 255) 74 6 (2 ^ 48 - 1)
  let done := fun (n : Nat) (d : Dev) (e : List Byte) => (Res.reply .ok (leBytes 4 n), (d.putConf n e).entryChanged n)
  if !entryOk b then (.st .range, d)
  else match d.lookup (idOf b) with
    | some (_, n) =>
      match d.ent n with
      | none => done n (d.touch n) fresh
      | some e =>
        if d.slotFull e then (.st .nospace, d)
        else if ebit e 56 7 then done n d (eput (b ++ (e.drop 32).take 24 ++ fresh.drop 56) 88 4 (leAt e 88 4 + 1))
        else done n d (b ++ e.drop 32)
    | none =>
      match d.newE fresh with
      | (none, d) => (.st .nospace, d)
      | (some n, d) => done n d fresh

def execLmpEntryWrite (p : Path) (tag : Byte) (s : State) : Host.Outcome State Fault Refusal :=
  s.run fun d => d.runCmd 0x903 p tag entryWriteCmd

/-- `LMP_ENTRY_DELETE`. -/
def entryDeleteCmd (c : Cmd) (d : Dev) : Res × Dev :=
  match d.lookup c.payload with
  | none => (.st .range, d)
  | some (_, n) =>
    if c.payload.length ≠ 8 then (.st .range, d)
    else match d.ent n with
      | none => (.st .range, d.touch n)
      | some e => if d.slotFull e then (.st .nospace, d) else (.st .ok, (d.putConf n (esetBit e 56 7 true)).purge n)

def execLmpEntryDelete (p : Path) (tag : Byte) (s : State) : Host.Outcome State Fault Refusal :=
  s.run fun d => d.runCmd 0x904 p tag entryDeleteCmd

/-- A step is within its ranges (R333). -/
def stepOk (w : Nat) : Bool :=
  match w / 2 ^ 30 with
  | 3 => true
  | 0 => decide (w / 4096 % 2048 ≤ 1439) && decide (w % 256 ≤ 200)
  | _ => decide ((sval 11 (w / 4096)).natAbs ≤ 720) && decide (w % 256 ≤ 200)

/-- `LMP_SCHED_WRITE`: the schedule's other words end the list (log entry 48). -/
def schedWriteCmd (c : Cmd) (d : Dev) : Res × Dev :=
  let b := c.payload
  let k := (b.length - 4) / 4
  let ws := (List.range k).map fun i => leAt b (4 + 4 * i) 4
  if b.length ≠ 4 + 4 * k ∨ k < 1 ∨ 32 < k ∨ 4095 < leAt b 0 2 ∨ leAt b 2 2 ≠ 0 ∨ ws.all stepOk = false then (.st .range, d)
  else
    let d := d.wrN (d.schedAt (leAt b 0 2)) ((ws ++ List.replicate (32 - k) 0xC0000000).flatMap (leBytes 4))
    (.st .ok, if d.lmpOn ∧ d.fb LMP_CTRL_SCHED_EN = true then d.evaluate 1 false (d.lmp.used.filter fun n => leAt (d.rawE n) 18 2 == leAt b 0 2) else d)

def execLmpSchedWrite (p : Path) (tag : Byte) (s : State) : Host.Outcome State Fault Refusal :=
  s.run fun d => d.runCmd 0x905 p tag schedWriteCmd

/-- `LMP_SET`. -/
def lmpSetCmd (c : Cmd) (d : Dev) : Res × Dev :=
  let b := c.payload
  let lv := byteAt b 8
  if b.length ≠ 12 ∨ byteAt b 9 ≠ 0 ∨ Dev.levelOk lv = false then (.st .range, d)
  else match d.lookup (b.take 8) with
    | none => (.st .state, d)
    | some (_, n) =>
      match d.servedE n with
      | none => (.st .state, d.touch n)
      | some e =>
        if ebit e 87 6 then (.st .state, d)
        else
          let d := d.updLmp fun x => { x with waits := x.waits ++ [(n, .cmd c.path c.tag)] }
          (.owed, (d.override n lv (leAt b 10 2)).evaluate 0 true [n])

def execLmpSet (p : Path) (tag : Byte) (s : State) : Host.Outcome State Fault Refusal :=
  s.run fun d => d.runCmd 0x906 p tag lmpSetCmd

/-- `LMP_GROUP` (R332). -/
def lmpGroupCmd (c : Cmd) (d : Dev) : Res × Dev :=
  let b := c.payload
  let ns := d.lampMembers (leAt b 0 2)
  if b.length ≠ 6 ∨ leAt b 0 2 = 0 ∨ Dev.levelOk (byteAt b 2) = false ∨ 1 < byteAt b 3 ∨ 8192 < ns.length then (.st .range, d)
  else if 4 ≤ d.lmp.groups.length then (.st .busy, d)
  else
    let d := if byteAt b 3 = 1 ∧ d.lmpOn = true then d.lmpSendAll 5 b else d
    if ns = [] then (.reply .ok (leBytes 4 0), d.raise 107)
    else (.owed, d.groupRun ns (byteAt b 2) (leAt b 4 2) (some (c.path, c.tag)))

def execLmpGroup (p : Path) (tag : Byte) (s : State) : Host.Outcome State Fault Refusal :=
  s.run fun d => d.runCmd 0x907 p tag lmpGroupCmd

end Sys2Proof.Machine
end

