-- ==== Sys2Proof/Machine/Safety.lean ====
section
/-! DEFINITION. The safety supervisor: inputs, functions, connection checks, faults, restart, safety PDUs (R246 to
R269). -/
namespace Sys2Proof.Machine

namespace Dev

/-! ### Parts of the state -/

/-- Function `f` changes. -/
def updFn (d : Dev) (f : Nat) (g : SFn → SFn) : Dev :=
  { d with saf := { d.saf with fn := vset d.saf.fn f (g (vget d.saf.fn f)) } }

/-- Input `n` changes. -/
def updIn (d : Dev) (n : Nat) (g : SIn → SIn) : Dev :=
  { d with saf := { d.saf with inp := vset d.saf.inp n (g (vget d.saf.inp n)) } }

/-- Connection `c` changes. -/
def updConn (d : Dev) (c : Nat) (g : SConn → SConn) : Dev :=
  { d with saf := { d.saf with conn := vset d.saf.conn c (g (vget d.saf.conn c)) } }

/-- Bank 3 is valid (R44). -/
def bank3 (d : Dev) : Bool := d.fg SYS_IOBANK_BANK_3 != 0 && d.fg SYS_IOBANK_BANK_3 != 3

/-- The supervisor has a valid configuration. -/
def safOn (d : Dev) : Bool := !d.fb SAF_STAT_UNCONFIG

/-- Both outputs of function `f` are low, or high. -/
def outsLow (d : Dev) (f : Nat) : Bool := !d.saf.cmd.testBit (2 * f) && !d.saf.cmd.testBit (2 * f + 1)
def outsHigh (d : Dev) (f : Nat) : Bool := d.saf.cmd.testBit (2 * f) && d.saf.cmd.testBit (2 * f + 1)

/-- Level of mirror pin `i` of function `f` (0 A, 1 B). -/
def mirror (d : Dev) (f i : Nat) : Bool := d.fbit SAF_RLY_STAT_FB (2 * f + i)

/-! ### Fault classes (R249) -/

/-- An occurrence of class `k`: the occurrences kept, and whether it is lasting. -/
def safHit (d : Dev) (k : Nat) (occ : List Nat) : List Nat × Bool :=
  let l := window d.clk.ticks (d.fg SAF_CLS_k_WINDOW k) occ
  (l, decide (d.fg SAF_CLS_k_LIMIT k ≤ l.length))

/-- It is counted, and latched where it is lasting. -/
def safCount (d : Dev) (k : Nat) (lasting : Bool) : Dev :=
  let d := d.fcnt SAF_FLT_k_CNT SAF_FLT_k_CNT_OVF k
  if lasting then ((d.fs SAF_FLT_k_LATCHED 1 k).fs SAF_STAT_LATCH_ANY 1).raise 85 else d

/-- The state of the channels follows (R278). -/
def showChan (d : Dev) : Dev :=
  let st := if d.saf.latch then 3 else if d.fb SAF_STAT_SAFE_ALL || !d.safOn then 2 else 1
  ((d.fs SAF_CHAN_A_STATE st).fs SAF_CHAN_B_STATE st).fs SAF_STAT_RUN (b2n (st == 1))

/-- A cross-comparison fault has not recovered (R248). -/
def crossHeld (d : Dev) : Bool :=
  d.saf.latch || d.fb SAF_CHAN_XC_DIFF || d.fb SAF_CHAN_PARTNER_LOST || d.fb SAF_CHAN_TIME_BAD || d.fb SAF_CHAN_B_XT_FAIL

/-- The flags of a cross-comparison fault that has recovered (R246, R248). -/
def crossClear (d : Dev) : Dev :=
  (((d.fs SAF_CHAN_XC_DIFF 0).fs SAF_CHAN_PARTNER_LOST 0).fs SAF_CHAN_TIME_BAD 0).fs SAF_CHAN_B_XT_FAIL 0

/-- The supervisor leaves its safe state where no cross-comparison fault is left and a configuration is loaded (R248, R270). -/
def safRelease (d : Dev) : Dev := if d.crossHeld || !d.safOn then d else (d.fs SAF_STAT_SAFE_ALL 0).showChan

/-! ### Reports (R256) -/

/-- The supervisor's reports of function `f` lapse where the pins no longer bear them out. -/
def safReports (d : Dev) (f : Nat) : Dev :=
  let x := vget d.saf.fn f
  let o := x.openV && d.outsLow f && d.mirror f 0 && d.mirror f 1 && d.bank3
  let c := x.closedV && d.outsHigh f && !d.mirror f 0 && !d.mirror f 1 && d.bank3
  let d1 := d.updFn f fun y => { y with openV := o, closedV := c }
  if f = 0 ∧ ((x.openV ∧ o = false) ∨ (x.closedV ∧ c = false)) then d1.grdReport 0 else d1

/-- Output `i` (0 to 3) takes a level. -/
def setOut (d : Dev) (i : Nat) (b : Bool) : Dev :=
  ({ d with saf := { d.saf with cmd := putBit d.saf.cmd i b } } : Dev).safReports (i / 2)

/-! ### Inputs (R250) -/

/-- Accepted level of a contact of input `n` (0 A, 1 B) in a channel's view. -/
def contact (d : Dev) (ch n c : Nat) : Bool :=
  if ch = 0 then d.fbit SAF_IN_RAW_A_VIEW (2 * n + c) else d.fbit SAF_IN_RAW_B_VIEW (2 * n + c)

/-- The channel sees the permit pattern of input `n`, or its demand pattern. -/
def permitPat (d : Dev) (ch n : Nat) : Bool :=
  d.contact ch n 0 && (d.contact ch n 1 != d.fb SAF_IN_n_CFG_TYPE n)
def demandPat (d : Dev) (ch n : Nat) : Bool :=
  !d.contact ch n 0 && (d.contact ch n 1 == d.fb SAF_IN_n_CFG_TYPE n)

/-- The channel sees a disagreement. -/
def disagrees (d : Dev) (ch n : Nat) : Bool := !d.permitPat ch n && !d.demandPat ch n

/-- Input `n` permits, as the channel decides. -/
def inPermits (d : Dev) (ch n : Nat) : Bool :=
  d.fb SAF_IN_n_CFG_EN n && d.bank3 && d.permitPat ch n && !d.fbit SAF_IN_STAT_FAULT n

/-- The permits of both channels show in `SAF_IN_STAT`. -/
def showPermit (d : Dev) : Dev := d.fs SAF_IN_STAT_PERMIT (maskOf 8 fun n => d.inPermits 0 n && d.inPermits 1 n)

/-! ### Conditions and the safe state (R255, R258) -/

/-- Connection `c` permits (R267). -/
def connPermits (d : Dev) (c : Nat) : Bool := d.fb SAF_CONN_c_STAT_VALID c && (vget d.saf.conn c).acts.testBit 0

/-- Cause codes of the conditions of function `f` that fail as the channel decides. An acknowledge input never demands (R254);
transfer-trip and lockout act on the grid function only (R278). -/
def failing (d : Dev) (f ch : Nat) : List Nat :=
  ((List.range 8).filter fun n => d.fbit SAF_FUNC_f_CFG_IN n f && d.fg SAF_IN_n_CFG_ROLE n != 1 && !d.inPermits ch n).map (0x10 + ·) ++
  (((List.range 8).filter fun c => d.fbit SAF_FUNC_f_CFG_CONN c f && !d.connPermits c).map (0x20 + ·)) ++
  (if f == 0 && d.fb SAF_FUNC_f_CFG_TT_EN f && d.fb SAF_STAT_TT then [0x30] else []) ++
  (if f == 0 && d.fb SAF_FUNC_f_CFG_LO_EN f && d.fb SAF_STAT_LOCKOUT then [0x31] else []) ++
  (if (vget d.saf.fn f).latch then [0x40] else []) ++
  (if d.fb SAF_STAT_SAFE_ALL then [0x50] else []) ++
  (if d.bank3 then [] else [0x51]) ++
  (if f == 0 && !d.grd.demClose then [0x60] else []) ++
  (if d.safOn then [] else [0x61]) ++
  (if d.fb SAF_ROLE_FOLLOWER then [0x62] else [])

/-- The conditions of function `f` hold in both channels. -/
def condHold (d : Dev) (f : Nat) : Bool :=
  d.fb SAF_FUNC_f_CFG_EN f && (d.failing f 0).isEmpty && (d.failing f 1).isEmpty

/-- Function `f` leaves closing or energised for its safe state: opening until it is verified open; `EV_80`. -/
def fnSafe (d : Dev) (f : Nat) : Dev :=
  let x := vget d.saf.fn f
  let st := if x.openV then 0 else 3
  (d.updFn f fun y => { y with st := st, phase := 0, acked := false, pulse := 0 }).raise 80

/-- Both outputs of function `f` go low. -/
def outsOff (d : Dev) (f : Nat) : Dev := (d.setOut (2 * f) false).setOut (2 * f + 1) false

/-- Function `f` takes its safe state with both outputs (R248, R257, R260). -/
def fnDrop (d : Dev) (f : Nat) : Dev :=
  let st := (vget d.saf.fn f).st
  if st = 1 ∨ st = 2 then (d.outsOff f).fnSafe f else d.outsOff f

/-- The input sampling interval of a channel in ticks, rounded up (R246). -/
def sampleTicks (ch : Nat) : Nat := if ch = 0 then 80000 else 73243

/-- A further condition that fails in the sampling interval of the first records the higher code (R255). GRD's demand, which an opening
itself withdraws, is none. -/
def causeMore (d : Dev) (f ch : Nat) (l : List Nat) : Dev :=
  let x := vget d.saf.fn f
  match x.causeAt with
  | none => d
  | some t =>
    if d.clk.ticks < t + sampleTicks ch then d.updFn f fun y => { y with cause := (l.filter (· != 0x60)).foldl max y.cause } else d

/-- A channel evaluates function `f`: a failing condition drives its own output low, and the function takes its safe
state (R255, R258). An opening that GRD did not ask for is the supervisor's own. -/
def fnEval (d : Dev) (f ch : Nat) : Dev :=
  match d.failing f ch with
  | [] => d
  | a :: l =>
    let code := l.foldl max a
    let st := (vget d.saf.fn f).st
    if st = 1 ∨ st = 2 then
      let d := (d.updFn f fun y => { y with cause := code, causeAt := some d.clk.ticks }).setOut (2 * f + ch) false
      let d := d.fnSafe f
      if f = 0 ∧ code ≠ 0x60 then d.grdOpened else d
    else
      let d := if d.saf.cmd.testBit (2 * f + ch) then d.setOut (2 * f + ch) false else d
      (d.causeMore f ch (a :: l)).updFn f fun y => { y with acked := false }

/-- Both channels evaluate both functions. -/
def safEval (d : Dev) : Dev :=
  let d := d.showPermit
  (((d.fnEval 0 0).fnEval 0 1).fnEval 1 0).fnEval 1 1

/-! ### Faults -/

/-- The supervisor's safe state: relay outputs low; the test-pulse outputs are low with `SAFE_ALL`, and a pulse ends (R248). -/
def safAllOff (d : Dev) : Dev :=
  let til := Vector.ofFn fun c : Fin 2 => if d.saf.tpLow.testBit c then d.clk.ticks + 160000 else vget d.saf.tpUntil c
  let d := ({ d with saf := { d.saf with tpLow := 0, tpUntil := til } } : Dev).safEval
  (d.outsOff 0).outsOff 1

/-- A cross-comparison fault (R247, R248). -/
def crossFault (d : Dev) : Dev :=
  let h := d.safHit 0 d.saf.occ
  let s := { d.saf with occ := h.1, latch := d.saf.latch || h.2, agreeRun := 0 }
  let d := ({ d with saf := s } : Dev).safCount 0 h.2
  let d := ((d.fs SAF_CHAN_XC_SEEN 1).fs SAF_STAT_SAFE_ALL 1).raise 84
  (d.safAllOff).showChan

/-- Input `n` has a discrepancy or test-pulse fault (R251, R252). -/
def inFault (d : Dev) (n : Nat) : Dev :=
  let h := d.safHit 1 (vget d.saf.inp n).occ
  let d := (d.fsBit SAF_IN_STAT_FAULT n true).fsBit SAF_IN_STAT_DISC_SEEN n true
  let d := d.updIn n fun x => { x with occ := h.1, latch := x.latch || h.2, seenDem := false, permitAt := none, held := none }
  ((d.raise 81 n).safCount 1 h.2).safEval

/-- A fault of the relay pair of function `f`, recorded in flag `F` (R257, R259, R260); one that latches is the cause of the safe state
it brings (R255). -/
def relayFault (d : Dev) (f : Nat) (F : Fld) : Dev :=
  let h := d.safHit 2 (vget d.saf.fn f).occ
  let was := (vget d.saf.fn f).st
  let cause := h.2 && (was == 1 || was == 2)
  let d := d.updFn f fun x => { x with
    occ := h.1, latch := x.latch || h.2, bad := setBit x.bad F.lo, cause := if cause then 0x40 else x.cause,
    causeAt := if cause then some d.clk.ticks else x.causeAt }
  let d := (((d.fs F 1).raise 83).safCount 2 h.2).fnDrop f
  if f = 0 ∧ (was = 1 ∨ was = 2) then (if was = 1 then d.closeFail else d.grdOpened) else d

/-- The connection check of function `f` fails (R257). -/
def checkFail (d : Dev) (f : Nat) : Dev := d.relayFault f SAF_RLY_STAT_CHK_FAIL

/-- Function `f` has a feedback fault (R260). -/
def feedbackFault (d : Dev) (f : Nat) : Dev := d.relayFault f SAF_RLY_STAT_FB_FAIL

/-! ### Restart (R254, R262) -/

/-- Function `f` waits, and its conditions hold: an acknowledge takes effect. -/
def ackable (d : Dev) (f : Nat) : Bool := d.safState f == 4 && d.condHold f

/-- A restart acknowledge of function `f`. -/
def fnAck (d : Dev) (f : Nat) : Dev := if d.ackable f then d.updFn f fun x => { x with acked := true } else d

/-! ### PDU connections (R263 to R268) -/

/-- Paths of a connection: kind and link. -/
def connPath (d : Dev) (c i : Nat) : Nat × Nat :=
  if i = 0 then (d.fg SAF_CONN_c_PATH_P1_KIND c, d.fg SAF_CONN_c_PATH_P1_LINK c)
  else (d.fg SAF_CONN_c_PATH_P2_KIND c, d.fg SAF_CONN_c_PATH_P2_LINK c)

/-- PTP time as a PDU timestamp (R263). -/
def pduStamp (d : Dev) : Nat := (d.clk.ptpSec * 10000 + d.clk.ptpNs / 100000) % 2 ^ 32

/-- Latest two copies of one sequence, one from each path. -/
def latestPair : List (Nat × Nat × List Byte) → Option (List Byte × List Byte)
  | [] => none
  | a :: t => match t.find? fun b => b.2.1 == a.2.1 && b.1 != a.1 with
    | some b => some (a.2.2, b.2.2)
    | none => latestPair t

/-- `VALID` follows (R266). -/
def showConn (d : Dev) (c : Nat) : Dev :=
  let x := vget d.saf.conn c
  let p := d.connPath c 0
  let q := d.connPath c 1
  d.fs SAF_CONN_c_STAT_VALID (b2n (d.fb SAF_CONN_c_CFG_EN c && !d.fb SAF_CONN_c_CFG_DIR c && p.1 != q.1 &&
    d.fb SAF_CONN_c_STAT_P1_OK c && d.fb SAF_CONN_c_STAT_P2_OK c && !x.mism && !x.latch)) c

/-- Connection `c` is lost, or its copies differ: flag `F` (R266). -/
def connFault (d : Dev) (c : Nat) (F : Fld) : Dev :=
  let h := d.safHit 3 (vget d.saf.conn c).occ
  let d := d.updConn c fun x => { x with occ := h.1, latch := x.latch || h.2 }
  (((d.fs F 1 c).raise 82 c).safCount 3 h.2).showConn c

/-- Transfer-trip and lockout in effect (R267). -/
def showTT (d : Dev) : Dev :=
  let any := fun b => (List.range 8).any fun c =>
    d.fb SAF_CONN_c_CFG_EN c && !d.fb SAF_CONN_c_CFG_DIR c && (vget d.saf.conn c).acts.testBit b
  (d.fs SAF_STAT_TT (b2n (any 1))).fs SAF_STAT_LOCKOUT (b2n (any 2))

/-- The copy passes the checks of R264 and R265 on path `i`. -/
def pduPasses (d : Dev) (c i : Nat) (pdu : List Byte) : Bool :=
  let x := vget d.saf.conn c
  let seq := leAt pdu 2 2
  let last := if i = 0 then x.last1 else x.last2
  let age := sval 32 ((d.pduStamp + 2 ^ 32 - leAt pdu 4 4) % 2 ^ 32)
  pdu.length == 20 && leAt pdu 16 4 == fcs (leBytes 4 (d.fg SAF_CONN_c_ID_ID c) ++ pdu.take 16) &&
  byteAt pdu 0 == d.fg SAF_CONN_c_CFG_VER c &&
  (match last with
    | none => true
    | some l => decide (1 ≤ (seq + 65536 - l) % 65536) && decide ((seq + 65536 - l) % 65536 ≤ d.fg SAF_CONN_c_CFG_SEQ_WIN c)) &&
  (!d.fb SAF_CONN_c_CFG_AGE_CHK c ||
    (d.fb CLK_PTP_CTRL_TIME_VALID && decide (-10 ≤ age) && decide (age ≤ 10 * (d.fg SAF_CONN_c_TIME_EXP_T c : Int))))

/-- Flags that govern after a copy of sequence `seq` (R267, R273): of two copies of one sequence the demand acts. -/
def pduFlags (d : Dev) (c seq fl : Nat) : Option Nat :=
  match (vget d.saf.conn c).newest with
  | none => some fl
  | some n =>
    if n = seq then
      let old := (vget d.saf.conn c).acts
      some (Nat.lor (Nat.land (Nat.land old fl) 1) (Nat.land (Nat.lor old fl) 14))
    else if (seq + 65536 - n) % 65536 < 32768 then some fl
    else none

/-- A copy is accepted on path `i` of connection `c` (R266, R267). -/
def pduAccept (d : Dev) (c i : Nat) (pdu : List Byte) : Dev :=
  let x := vget d.saf.conn c
  let seq := leAt pdu 2 2
  let body := pdu.take 16
  let differs := x.copies.any fun y => y.1 != i && y.2.1 == seq && y.2.2 != body
  let copies := ((i, seq, body) :: x.copies).take 32
  let agree := match latestPair copies with
    | some p => p.1 == p.2
    | none => false
  let own := byteAt pdu 1 % 16
  let flags := d.pduFlags c seq own
  let old := x.acts
  let d := d.fs (if i = 0 then SAF_CONN_c_STAT_P1_OK else SAF_CONN_c_STAT_P2_OK) 1 c
  let d := d.updConn c fun y =>
    let y := if i = 0 then { y with last1 := some seq } else { y with last2 := some seq }
    { y with copies := copies, mism := (y.mism && !agree) || differs }
  let d := match flags with
    | none => d
    | some fl =>
      let d := (d.fs SAF_CONN_c_STAT_FLAGS own c).fs SAF_CONN_c_STAT_LAST_SEQ seq c
      let d := d.updConn c fun y => { y with newest := some seq, acts := fl }
      if Nat.land fl 6 != Nat.land (Nat.land old fl) 6 then d.raise 87 c else d
  let d := if differs then d.connFault c SAF_CONN_c_STAT_MISMATCH_SEEN else d
  (d.showConn c).showTT.safEval

/-- A PDU copy from a path (R265): kind 0 `ETH_A`, 1 `ETH_B`, 2 Neriq Link, and session or node. -/
def pduReceive (d : Dev) (kind link : Nat) (pdu : List Byte) : Dev :=
  if !d.safOn then d
  else (List.range 16).foldl (fun d j =>
    let c := j / 2
    let i := j % 2
    if d.fb SAF_CONN_c_CFG_EN c && !d.fb SAF_CONN_c_CFG_DIR c && d.connPath c i == (kind, link) && d.pduPasses c i pdu then
      d.pduAccept c i pdu
    else d) d

/-- The PDU that connection `c` sends next (R263, R268). -/
def pduOut (d : Dev) (c : Nat) : List Byte :=
  let safe := d.fb SAF_STAT_SAFE_ALL
  let permit := !safe && (bitsOf 8 (d.fg SAF_CONN_c_CFG_TX_IN c)).all fun n => d.fbit SAF_IN_STAT_PERMIT n
  let fns := b2n (d.safState 0 == 2) + 2 * b2n (d.safState 1 == 2)
  let body := [1] ++ leBytes 1 (b2n permit + 8 * b2n safe) ++ leBytes 2 (vget d.saf.conn c).txSeq ++ leBytes 4 d.pduStamp ++
    leBytes 1 fns ++ leBytes 1 (vget d.saf.fn 0).cause ++ leBytes 6 0
  body ++ leBytes 4 (fcs (leBytes 4 (d.fg SAF_CONN_c_ID_ID c) ++ body))

/-- A PDU leaves on a path. -/
def pduSendOn (d : Dev) (p : Nat × Nat) (pdu : List Byte) : Dev :=
  if p.1 = 2 then d.nqlTx p.2 0x11 0 pdu else d.sessSend p.2 2 pdu

end Dev

/-! ### Events of the inputs (R250 to R254) -/

/-- A new level acts on input `n`: recovery of a fault (R251), a press (R254), whose time is that of the permit pattern alone. -/
def Dev.inNews (d : Dev) (n : Nat) : Dev :=
  let per := d.permitPat 0 n && d.permitPat 1 n
  let dem := d.demandPat 0 n && d.demandPat 1 n
  let x := vget d.saf.inp n
  let fault := d.fbit SAF_IN_STAT_FAULT n
  let d := if fault && dem then d.updIn n fun y => { y with seenDem := true } else d
  let d := if fault && per && x.seenDem && !x.latch then d.fsBit SAF_IN_STAT_FAULT n false else d
  let held := match x.permitAt with
    | some t => some (d.clk.ticks - t)
    | none => x.held
  if per then (if x.permitAt.isSome then d else d.updIn n fun y => { y with permitAt := some d.clk.ticks, held := none })
  else if dem then
    let d1 := d.updIn n fun y => { y with permitAt := none, held := none }
    match held with
    | some held =>
      if d.fg SAF_IN_n_CFG_ROLE n = 1 ∧ fault = false ∧ 100 * Dev.msTicks ≤ held ∧ held ≤ 5000 * Dev.msTicks then
        ((d1.fsBit SAF_IN_STAT_ACK_SEEN n true).fnAck 0).fnAck 1
      else d1
    | none => d1
  else d.updIn n fun y => { y with permitAt := none, held := held }

/-- A channel accepts a new level of a contact (R250): channel and contact 0 for A, 1 for B. -/
def inputAcceptedDev (ch n c : Nat) (level : Bool) (d : Dev) : Dev :=
  let masked := d.fb SAF_TP_CFG_EN && d.fb SAF_IN_n_CFG_TP_EN n &&
    (d.saf.tpLow.testBit c || decide (d.clk.ticks < vget d.saf.tpUntil c))
  if !d.bank3 || !d.safOn || !d.fb SAF_IN_n_CFG_EN n || masked then d
  else
    let d := if ch = 0 then d.fsBit SAF_IN_RAW_A_VIEW (2 * n + c) level else d.fsBit SAF_IN_RAW_B_VIEW (2 * n + c) level
    let d := d.inNews n
    ((d.showPermit).fnEval 0 ch).fnEval 1 ch

def execSafetyInputAccepted (ch : Fin 2) (n : Fin 8) (c : Fin 2) (level : Bool) (s : State) : Host.Outcome State Fault Refusal :=
  s.runSaf (inputAcceptedDev ch n c level)

/-- A disagreement of input `n` outlasts `DISC_T` (R251). -/
def discrepancyDev (n : Nat) (d : Dev) : Dev :=
  if d.safOn && d.fb SAF_IN_n_CFG_EN n && !d.fbit SAF_IN_STAT_FAULT n && (d.disagrees 0 n || d.disagrees 1 n) then d.inFault n else d

def execDiscrepancyTimeout (n : Fin 8) (s : State) : Host.Outcome State Fault Refusal := s.runSaf (discrepancyDev n)

/-- A test-pulse output goes low (R252); never both. -/
def testPulseStartDev (src : Nat) (d : Dev) : Dev :=
  if d.safOn && d.fb SAF_TP_CFG_EN && !d.fb SAF_STAT_SAFE_ALL && d.saf.tpLow == 0 then
    { d with saf := { d.saf with tpLow := setBit 0 src } }
  else d

def execTestPulseStart (src : Fin 2) (s : State) : Host.Outcome State Fault Refusal := s.runSaf (testPulseStartDev src)

/-- 100 µs into a pulse the contact that its source feeds reads as given (R252). -/
def testPulseCheckDev (src n : Nat) (level : Bool) (d : Dev) : Dev :=
  if d.saf.tpLow.testBit src && !d.fb SAF_STAT_SAFE_ALL && d.fb SAF_IN_n_CFG_EN n && d.fb SAF_IN_n_CFG_TP_EN n && level &&
    !d.fbit SAF_IN_STAT_FAULT n then d.inFault n else d

def execTestPulseCheck (src : Fin 2) (n : Fin 8) (level : Bool) (s : State) : Host.Outcome State Fault Refusal :=
  s.runSaf (testPulseCheckDev src n level)

/-- A test pulse ends (R252): its contacts are ignored for 200 µs more. -/
def testPulseEndDev (src : Nat) (d : Dev) : Dev :=
  if d.saf.tpLow.testBit src && !d.fb SAF_STAT_SAFE_ALL then
    { d with saf := { d.saf with tpLow := 0, tpUntil := vset d.saf.tpUntil src (d.clk.ticks + 160000) } }
  else d

def execTestPulseEnd (src : Fin 2) (s : State) : Host.Outcome State Fault Refusal := s.runSaf (testPulseEndDev src)

/-! ### Cross-comparison (R246 to R248) -/

/-- Items of the two vectors that the model holds for each channel differ. -/
def Dev.viewsDiffer (d : Dev) : Bool :=
  (List.range 8).any (fun n => d.inPermits 0 n != d.inPermits 1 n) ||
  [0, 1].any fun f => (vget d.saf.fn f).st == 2 && !d.outsHigh f

/-- A function that has left closing or energised has both outputs low once the channels have exchanged vectors. -/
def Dev.fnFollow (d : Dev) (f : Nat) : Dev :=
  let st := (vget d.saf.fn f).st
  if st = 0 ∨ st = 3 then d.outsOff f else d

/-- The DC check goes on with channel A's readback, which comes within 1 ms (R257): `got` it has come with an exchange. -/
def Dev.dcSecond (d : Dev) (got : Bool) : Dev :=
  let x := vget d.saf.fn 1
  if x.phase ≠ 3 then d
  else if x.stepAt + 800000 < d.clk.ticks then d.checkFail 1
  else if got then (d.setOut 3 true).updFn 1 fun x => { x with phase := 4 }
  else d

/-- A mirror that changed while it was ignored, and still reads so afterwards, has changed without its output (R259, R260). -/
def Dev.mirrorsJudged (d : Dev) (f : Nat) : Dev :=
  let x := vget d.saf.fn f
  if x.st == 2 && x.pulse == 0 && decide (x.quiet ≤ d.clk.ticks) && (d.mirror f 0 || d.mirror f 1) then (d.safReports f).feedbackFault f else d

/-- An exchange in which an item differs (R247): the third in a row is a fault. -/
def Dev.vectorsDiffer (d : Dev) : Dev :=
  let n := d.saf.diffRun + 1
  let d := { d with saf := { d.saf with diffRun := min 3 n, agreeRun := 0 } }
  let d := ((d.fnFollow 0).fnFollow 1).dcSecond false
  if n = 3 then (d.fs SAF_CHAN_XC_DIFF 1).crossFault else d

/-- An exchange in which the vectors agree: the hundredth in a row ends a fault that has not latched (R248). -/
def Dev.vectorsAgree (d : Dev) : Dev :=
  let n := min 100 (d.saf.agreeRun + 1)
  let d := { d with saf := { d.saf with diffRun := 0, agreeRun := n } }
  let d := ((d.fnFollow 0).fnFollow 1).dcSecond true
  if n == 100 && d.fb SAF_STAT_SAFE_ALL && !d.saf.latch then d.crossClear.safRelease else d

/-- An exchange of vectors (R247): `differ` where an item differs that the model does not hold for each channel. -/
def vectorExchangeDev (differ : Bool) (d : Dev) : Dev :=
  if !d.fb AON_STAT_XT_OK then d
  else
    let d := ((d.finc SAF_CHAN_XC_SEQ).mirrorsJudged 0).mirrorsJudged 1
    if differ || d.viewsDiffer then d.vectorsDiffer else d.vectorsAgree

def execStateVectorExchange (differ : Bool) (s : State) : Host.Outcome State Fault Refusal := s.runSaf (vectorExchangeDev differ)

/-- No vector for 3 ms (R247). -/
def vectorTimeoutDev (d : Dev) : Dev := (d.fs SAF_CHAN_PARTNER_LOST 1).crossFault

def execPartnerVectorTimeout (s : State) : Host.Outcome State Fault Refusal := s.runSaf vectorTimeoutDev

/-- Vectors of the partner within 100 ms of the channel's own time (R247). -/
def exchangeRateDev (n : Nat) (d : Dev) : Dev :=
  if n < 95 ∨ 105 < n then (d.fs SAF_CHAN_TIME_BAD 1).crossFault else d

def execExchangeRateCheck (n : Byte) (s : State) : Host.Outcome State Fault Refusal := s.runSaf (exchangeRateDev n.toNat)

/-- Channel B sees no crystal edge for 100 µs (R246). -/
def crystalLossBDev (d : Dev) : Dev :=
  if d.fb SAF_CHAN_B_XT_FAIL then d
  else
    (((d.setOut 1 false).setOut 3 false).fs SAF_CHAN_B_XT_FAIL 1).crossFault

def execBCrystalLoss (s : State) : Host.Outcome State Fault Refusal := s.runSaf crystalLossBDev

/-! ### The connection check, feedback and off-pulses (R256 to R261) -/

/-- A verified-open function whose conditions hold, and whose restart rule is met, starts its check (R257, R262). -/
def checkStartDev (f : Nat) (d : Dev) : Dev :=
  let x := vget d.saf.fn f
  if x.st = 0 ∧ x.openV ∧ d.condHold f ∧ d.safWaits f = false ∧ d.safLatched f = false ∧ (f = 1 ∨ d.fb SAF_RLY_STAT_WELD_BUSY = false) then
    d.updFn f fun y => { y with st := 1, phase := 1 }
  else d

def execConnectionCheckStart (f : Fin 2) (s : State) : Host.Outcome State Fault Refusal := s.runSaf (checkStartDev f)

/-- A `CHK_T` interval of the check ends (R257): the next output is driven. -/
def checkTimerDev (f : Nat) (d : Dev) : Dev :=
  let x := vget d.saf.fn f
  if x.st ≠ 1 then d
  else if x.phase = 1 then (d.setOut (2 * f) true).updFn f fun y => { y with phase := 2 }
  else if x.phase = 2 ∧ f = 1 then
    if d.relayPins.testBit 2 then d.updFn f fun y => { y with phase := 3, stepAt := d.clk.ticks } else d.checkFail f
  else d

def execCheckTimerExpiry (f : Fin 2) (s : State) : Host.Outcome State Fault Refusal := s.runSaf (checkTimerDev f)

/-- A mirror of function `f` has changed during its check (R257). -/
def Dev.mirrorInCheck (d : Dev) (f : Nat) : Dev :=
  let a := d.mirror f 0
  let b := d.mirror f 1
  match (vget d.saf.fn f).phase with
  | 2 =>
    if f = 0 ∧ a = false ∧ b = true then (d.setOut 1 true).updFn 0 fun y => { y with phase := 4 }
    else if a ∧ b then d else d.checkFail f
  | 4 => if a = false ∧ b = false then d.updFn f fun y => { y with phase := 5 }
         else if f = 0 ∧ a then d.checkFail f else d
  | _ => d.checkFail f

/-- A mirror contact pin takes a level (R256, R257, R260); the first reading since reset is no change. -/
def mirrorDev (f i : Nat) (level : Bool) (d : Dev) : Dev :=
  if !d.bank3 || d.mirror f i == level then d
  else
    let x := vget d.saf.fn f
    let d := (d.fsBit SAF_RLY_STAT_FB (2 * f + i) level).updFn f fun y => { y with seen := setBit y.seen i }
    let ignored := x.pulse != 0 || decide (d.clk.ticks < x.quiet)
    if ignored && x.st == 2 then d
    else
      let d := d.safReports f
      if f = 0 ∧ d.fb SAF_RLY_STAT_WELD_BUSY then { d with saf := { d.saf with weldBad := true } }
      else if x.st = 1 then d.mirrorInCheck f
      else if x.st = 2 ∨ (x.st = 0 ∧ x.seen.testBit i) then d.feedbackFault f
      else d

def execMirrorFeedbackChange (f i : Fin 2) (level : Bool) (s : State) : Host.Outcome State Fault Refusal :=
  s.runSaf (mirrorDev f i level)

/-- An expected feedback does not arrive within `FB_TMO` (R257, R258). -/
def feedbackTimeoutDev (f : Nat) (d : Dev) : Dev :=
  let x := vget d.saf.fn f
  if x.st = 1 ∧ ((x.phase = 2 ∧ f = 0) ∨ x.phase = 4) then d.checkFail f
  else if x.st = 1 ∧ f = 1 ∧ x.phase = 3 then d.dcSecond false
  else if x.st = 3 then (d.updFn f fun y => { y with st := 0 }).feedbackFault f
  else d

def execFeedbackTimeout (f : Fin 2) (s : State) : Host.Outcome State Fault Refusal := s.runSaf (feedbackTimeoutDev f)

/-- Outputs and mirrors have agreed for `CHK_T` (R256): verified open, or verified closed. -/
def relayVerifiedDev (f : Nat) (d : Dev) : Dev :=
  let x := vget d.saf.fn f
  if !d.bank3 then d
  else if d.outsLow f && d.mirror f 0 && d.mirror f 1 then
    if x.openV then d
    else
      let st := if x.st = 3 then 0 else x.st
      let d := d.updFn f fun y => { y with openV := true, st := st, bad := 0 }
      if f = 0 then d.grdReport 1 else d
  else if d.outsHigh f && !d.mirror f 0 && !d.mirror f 1 then
    if x.closedV then d
    else
      let d := d.updFn f fun y => if y.st = 1 then { y with closedV := true, st := 2, phase := 0, cause := 255, causeAt := none } else { y with closedV := true }
      if f = 0 then d.grdReport 2 else d
  else d

def execRelayVerified (f : Fin 2) (s : State) : Host.Outcome State Fault Refusal := s.runSaf (relayVerifiedDev f)

/-- `SFB_1_A` and `SFB_1_B` disagree for more than 10 ms (R260). -/
def feedbackDisagreeDev (d : Dev) : Dev :=
  if d.bank3 && d.mirror 1 0 != d.mirror 1 1 then d.feedbackFault 1 else d

def execFeedbackDisagreeTimeout (s : State) : Host.Outcome State Fault Refusal := s.runSaf feedbackDisagreeDev

/-- The off-pulse of a channel's output has failed (R259). -/
def Dev.offPulseFault (d : Dev) (f : Nat) : Dev := d.relayFault f SAF_RLY_STAT_OP_FAIL

/-- A channel drives its high output low; `low` its readback within 50 µs (R259). -/
def offPulseStartDev (f ch : Nat) (low : Bool) (d : Dev) : Dev :=
  if (vget d.saf.fn f).st ≠ 2 ∨ d.saf.cmd.testBit (2 * f + ch) = false then d
  else if low then d.updFn f fun x => { x with pulse := setBit x.pulse ch, quiet := d.clk.ticks + 240000 + 8000000 }
  else d.offPulseFault f

def execOffPulseStart (f ch : Fin 2) (low : Bool) (s : State) : Host.Outcome State Fault Refusal :=
  s.runSaf (offPulseStartDev f ch low)

/-- The off-pulse ends; `high` its readback within 50 µs (R259). -/
def offPulseEndDev (f ch : Nat) (high : Bool) (d : Dev) : Dev :=
  if !(vget d.saf.fn f).pulse.testBit ch then d
  else
    let d := d.updFn f fun x => { x with pulse := clrBit x.pulse ch, quiet := d.clk.ticks + 8000000 }
    if high then d else d.offPulseFault f

def execOffPulseEnd (f ch : Fin 2) (high : Bool) (s : State) : Host.Outcome State Fault Refusal :=
  s.runSaf (offPulseEndDev f ch high)

/-- A requested weld test ends after 100 ms (R261). -/
def weldEndDev (d : Dev) : Dev :=
  if !d.fb SAF_RLY_STAT_WELD_BUSY then d
  else
    let bad := d.saf.weldBad
    let cmd := d.saf.weldCmd
    let d := { d.fs SAF_RLY_STAT_WELD_BUSY 0 with saf := { d.saf with weldBad := false, weldCmd := none } }
    let d := if bad then d.checkFail 0 else d
    match cmd with
    | some c => d.complete c.1 c.2 (if bad then .fault else .ok) []
    | none => d

def execWeldTestEnd (s : State) : Host.Outcome State Fault Refusal := s.runSaf weldEndDev

/-! ### Events of the PDU connections -/

/-- A PDU copy enters a receive ring (R265). -/
def execSafetyPduReceived (kind : Fin 3) (link : Fin 128) (pdu : List Byte) (s : State) : Host.Outcome State Fault Refusal :=
  s.runSaf (Dev.clocked fun d => d.pduReceive kind link pdu)

/-- A path has accepted no copy within `EXP_T` (R266). -/
def pduTimeoutDev (c i : Nat) (d : Dev) : Dev :=
  let F := if i = 0 then SAF_CONN_c_STAT_P1_OK else SAF_CONN_c_STAT_P2_OK
  if !d.fb F c then d
  else
    let was := d.fb SAF_CONN_c_STAT_VALID c
    let d := d.fs F 0 c
    let d := if was then d.connFault c SAF_CONN_c_STAT_LOST_SEEN else d.fs SAF_CONN_c_STAT_LOST_SEEN 1 c
    (d.showConn c).safEval

def execPduExpectationTimeout (c : Fin 8) (i : Fin 2) (s : State) : Host.Outcome State Fault Refusal := s.runSaf (pduTimeoutDev c i)

/-- A send connection sends its PDU on both paths (R268); not where channel B's recomputed CRC disagrees (R264). -/
def pduSendDev (c : Nat) (agree : Bool) (d : Dev) : Dev :=
  if !agree || !d.safOn || !d.fb SAF_CONN_c_CFG_EN c || !d.fb SAF_CONN_c_CFG_DIR c then d
  else
    let pdu := d.pduOut c
    let seq := (vget d.saf.conn c).txSeq
    let d := (d.pduSendOn (d.connPath c 0) pdu).pduSendOn (d.connPath c 1) pdu
    (d.fs SAF_CONN_c_STAT_LAST_SEQ seq c).updConn c fun x => { x with txSeq := (seq + 1) % 65536 }

def execPduSendTimer (x : PduSend) (s : State) : Host.Outcome State Fault Refusal := s.runSaf (pduSendDev x.conn x.agree)

end Sys2Proof.Machine
end

