-- ==== Sys2Proof/Machine/Unlock.lean ====
section
/-! DEFINITION. The safety supervisor's configuration, the signed unlock sequence and its commands (R270 to R278). -/
namespace Sys2Proof.Machine

namespace Dev

/-! ### The configuration record (R270) -/

/-- The word that a record holds for the register at offset `0x100 + 4 i`. -/
def recWord (l : List Byte) (i : Nat) : Nat := leAt l (12 + 4 * i) 4

/-- Registers whose images a record holds, by their place in it. -/
def recRegs : List (Nat × Reg × Nat) :=
  (List.range 192).filterMap fun i => (findReg (0x20090100 + 4 * i)).map fun r => (i, r.1, r.2)

/-- Fields of a record that have limits, with the least and the greatest value (R278). -/
def recLimits : List (Fld × Nat × Nat × Nat) :=
  [(SAF_IN_n_CFG_ROLE, 8, 0, 1), (SAF_IN_n_CFG_DISC_T, 8, 1, 1000), (SAF_TP_CFG_TP_W, 1, 1, 10), (SAF_TP_CFG_TP_PER, 1, 10, 1000),
   (SAF_RLY_CFG_FB_TMO, 1, 10, 500), (SAF_RLY_CFG_CHK_T, 1, 20, 255), (SAF_CLS_k_LIMIT, 4, 1, 255), (SAF_CLS_k_WINDOW, 4, 1, 60000),
   (SAF_CONN_c_CFG_SEQ_WIN, 8, 1, 15), (SAF_CONN_c_CFG_VER, 8, 1, 1), (SAF_CONN_c_PATH_P1_KIND, 8, 0, 2),
   (SAF_CONN_c_PATH_P2_KIND, 8, 0, 2), (SAF_CONN_c_TIME_EXP_T, 8, 5, 500), (SAF_CONN_c_TIME_TX_PER, 8, 1, 250)]

/-- The value that a record gives field `F` of register `n` of its array. -/
def recFld (l : List Byte) (F : Fld) (n : Nat) : Nat := F.of (recWord l ((F.base + F.stride * n - 0x20090100) / 4))

/-- No bit of the record lies outside its registers' fields. -/
def recReserved (l : List Byte) : Bool :=
  (List.range 192).all fun i =>
    let w := recWord l i
    match findReg (0x20090100 + 4 * i) with
    | none => w == 0
    | some r => w == (r.1.flds.map fun s => s.fld.of w * 2 ^ s.fld.lo).sum

/-- The record's encodings are admitted (R270, R278). -/
def recOk (l : List Byte) : Bool :=
  leAt l 8 4 == 0 && recReserved l &&
  (recLimits.all fun x => (List.range x.2.1).all fun n =>
    decide (x.2.2.1 ≤ recFld l x.1 n) && decide (recFld l x.1 n ≤ x.2.2.2)) &&
  (List.range 8).all fun c =>
    let k1 := recFld l SAF_CONN_c_PATH_P1_KIND c
    let k2 := recFld l SAF_CONN_c_PATH_P2_KIND c
    k1 != k2 && (k1 != 2 || decide (recFld l SAF_CONN_c_PATH_P1_LINK c < 16)) &&
    (k2 != 2 || decide (recFld l SAF_CONN_c_PATH_P2_LINK c < 16)) &&
    decide (recFld l SAF_CONN_c_TIME_TX_PER c < recFld l SAF_CONN_c_TIME_EXP_T c)

/-- Magic and CRC of a record are right. -/
def recSound (l : List Byte) : Bool :=
  l.length == 784 && leAt l 0 4 == 0x47464353 && leAt l 780 4 == crc32c (l.take 780)

/-- The registers take the images of a record. -/
def recImages (d : Dev) (l : List Byte) : Dev :=
  recRegs.foldl (fun d x => x.2.1.flds.foldl (fun d s => d.fs s.fld (s.fld.of (recWord l x.1)) x.2.2) d) d

/-- A connection that a configuration gives another identity, direction or path has accepted nothing yet; the flags that act, and its
faults, stay (R266, R267). -/
def connAfresh (d d0 : Dev) (c : Nat) : Dev :=
  let same := (List.range 3).all fun i => d.word (0x20090200 + 16 * c + 4 * i) == d0.word (0x20090200 + 16 * c + 4 * i)
  if same then d.showConn c
  else
    let d := (d.fs SAF_CONN_c_STAT_P1_OK 0 c).fs SAF_CONN_c_STAT_P2_OK 0 c
    (d.updConn c fun x => { x with last1 := none, last2 := none, copies := [], newest := none, mism := false }).showConn c

/-- A configuration is loaded (R270, R271): a restart acknowledge given before it is void. -/
def recLoad (d0 : Dev) (l : List Byte) : Dev :=
  let d := d0.recImages l
  let d := ((d.fs SAF_CFG_ID_ID (leAt l 780 4)).fs SAF_CFG_SEQ_SEQ (leAt l 4 4)).fs SAF_STAT_UNCONFIG 0
  let d := (List.range 8).foldl (fun d c => d.connAfresh d0 c) d
  let role := d.fb SAF_ROLE_FOLLOWER
  let d := [0, 1].foldl (fun d f => d.updFn f fun x => { x with acked := false, cause := if role then 0x62 else x.cause }) d
  (d.showTT.showPermit).showChan

/-! ### The unlock sequence (R271, R272) -/

/-- The nonce that is valid, as bytes. -/
def nonceBytes (d : Dev) : List Byte := (List.range 4).flatMap fun k => leBytes 4 (d.fg SAF_UL_NONCE_k_NONCE k)

/-- The nonce is consumed. -/
def nonceClear (d : Dev) : Dev :=
  let d := (List.range 4).foldl (fun d k => d.fs SAF_UL_NONCE_k_NONCE 0 k) d
  { d with saf := { d.saf with nonce := false } }

/-- A challenge: the nonce is a free value. -/
def challenge (d : Dev) : Dev :=
  let f := d.freshBytes 16
  let d := (List.range 4).foldl (fun d k => d.fs SAF_UL_NONCE_k_NONCE (leAt f.1 (4 * k) 4) k) f.2
  { d with saf := { d.saf with nonce := true, nonceAt := d.clk.ticks } }

/-- A request has its outcome: `RESULT`, `UL_SEQ`, the command's reply. -/
def unlockEnd (d : Dev) (u : Unlock) (result : Nat) (st : St) : Dev :=
  let d := { d with saf := { d.saf with unl := none } }
  let d := (d.fs SAF_UL_STAT_RESULT result).finc SAF_UL_STAT_UL_SEQ
  match u.cmd with
  | some c => d.complete c.1 c.2 st []
  | none => d

/-- A refusal for authentication: the third within 10 minutes locks (R272). -/
def authRefused (d : Dev) : Dev :=
  let l := window d.clk.ticks 600000 d.saf.refusals
  let d := { d with saf := { d.saf with refusals := l } }
  if 3 ≤ l.length then d.fs SAF_STAT_UL_LOCK 1 else d

/-- A request is made (R271): each channel copies the record. While `UL_LOCK` is 1 it is refused without verification. -/
def unlockStart (d : Dev) (u : Unlock) (addr : Nat) : Dev :=
  if d.fb SAF_STAT_UL_LOCK then d.unlockEnd u 3 .auth
  else
    let v := { u with record := if u.op = 1 then d.rdN addr 784 else [] }
    { d.fs SAF_UL_STAT_RESULT 1 with saf := { d.saf with unl := some v } }

/-- A latched fault still has its cause active (R271). -/
def latchActive (d : Dev) : Bool :=
  (d.saf.latch && decide (d.saf.agreeRun < 100)) ||
  (List.range 8).any (fun n => (vget d.saf.inp n).latch && (d.disagrees 0 n || d.disagrees 1 n)) ||
  [0, 1].any (fun f => (vget d.saf.fn f).latch && !(vget d.saf.fn f).openV) ||
  (List.range 8).any fun c => (vget d.saf.conn c).latch &&
    !(d.fb SAF_CONN_c_STAT_P1_OK c && d.fb SAF_CONN_c_STAT_P2_OK c && !(vget d.saf.conn c).mism)

/-- The acknowledge of faults: latches, sticky bits and counts are cleared (R249, R271). -/
def faultAck (d : Dev) : Dev :=
  let s := d.saf
  let x := s.latch
  let inp := vmap (fun y => { y with latch := false, occ := [] }) s.inp
  let fn := vmap (fun y => { y with latch := false, occ := [] }) s.fn
  let conn := vmap (fun y => { y with latch := false, occ := [] }) s.conn
  let held := fun n => d.disagrees 0 n || d.disagrees 1 n
  let keep := maskOf 8 fun n => d.fbit SAF_IN_STAT_FAULT n && (held n || !(vget s.inp n).latch)
  let d := { d with saf := { s with latch := false, occ := [], inp := inp, fn := fn, conn := conn } }
  let d := ((d.fs SAF_IN_STAT_FAULT keep).fs SAF_IN_STAT_DISC_SEEN keep).fs SAF_IN_STAT_ACK_SEEN 0
  let bad := Nat.lor (vget s.fn 0).bad (vget s.fn 1).bad
  let d := [SAF_RLY_STAT_OP_FAIL, SAF_RLY_STAT_FB_FAIL, SAF_RLY_STAT_CHK_FAIL].foldl (fun d F => if bad.testBit F.lo then d else d.fs F 0) d
  let d := if d.fb SAF_CHAN_XC_DIFF || d.fb SAF_CHAN_PARTNER_LOST || d.fb SAF_CHAN_TIME_BAD || d.fb SAF_CHAN_B_XT_FAIL then
      (if x then d.fs SAF_CHAN_XC_SEEN 0 else d) else d.fs SAF_CHAN_XC_SEEN 0
  let d := if x then d.crossClear.safRelease else d
  let d := (List.range 8).foldl (fun d c =>
    let d := if (vget d.saf.conn c).mism then d else d.fs SAF_CONN_c_STAT_MISMATCH_SEEN 0 c
    (if d.fb SAF_CONN_c_STAT_P1_OK c && d.fb SAF_CONN_c_STAT_P2_OK c then d.fs SAF_CONN_c_STAT_LOST_SEEN 0 c else d).showConn c) d
  let d := (List.range 4).foldl (fun d k => ((d.fs SAF_FLT_k_CNT 0 k).fs SAF_FLT_k_CNT_OVF 0 k).fs SAF_FLT_k_LATCHED 0 k) d
  ((d.fs SAF_STAT_LATCH_ANY 0).showChan).safEval

/-- A function is verified open and in its safe state. -/
def fnRests (d : Dev) (f : Nat) : Bool := (vget d.saf.fn f).st == 0 && (vget d.saf.fn f).openV

/-- A request whose signature both channels accept takes effect, or is refused (R271); `storeBad` where the stores
disagree after writing. -/
def unlockApply (d : Dev) (u : Unlock) (storeBad : Bool) : Dev :=
  match u.op with
  | 1 =>
    if !recSound u.record || !recOk u.record || decide (leAt u.record 4 4 ≤ d.fg SAF_CFG_SEQ_SEQ) then d.unlockEnd u 5 .range
    else if !(d.fnRests 0 && d.fnRests 1) || d.connected || d.fb SAF_RLY_STAT_WELD_BUSY then d.unlockEnd u 4 .state
    else if storeBad then d.unlockEnd u 6 .fault
    else
      let d := { d with saf := { d.saf with storeA := u.record, storeB := u.record } }
      (((d.recLoad u.record).safRelease).raise 86).unlockEnd u 2 .ok
  | 2 => if d.latchActive then d.unlockEnd u 4 .state else (d.faultAck).unlockEnd u 2 .ok
  | _ =>
    let l := [0, 1].filter u.fmask.testBit
    if l.all d.ackable && decide (u.fmask < 4) then (l.foldl fnAck d).unlockEnd u 2 .ok else d.unlockEnd u 4 .state

/-! ### SAF registers -/

/-- The written word of `SAF_UL_CTRL` carries the key. -/
def ulKey (w : Nat) : Bool := SAF_UL_CTRL_KEY.of w == 0xC5

/-- Out of range: `OP` above 3; an address outside SRAM or not aligned, but while `UL_LOCK` is 1 (R272). -/
def rangeSAF (d : Dev) (b _n w : Nat) : Bool :=
  b == 0x20090410 && ulKey w &&
    (decide (3 < SAF_UL_CTRL_OP.of w) || (!d.fb SAF_STAT_UL_LOCK && SAF_UL_CTRL_OP.of w == 1 && !recAt (d.fg SAF_UL_ADDR_ADDR)))
where
  /-- A record can stand at the address: in SRAM, aligned to 4 bytes. -/
  recAt (a : Nat) : Bool := a % 4 == 0 && decide (0x04000000 ≤ a) && decide (a + 784 ≤ 0x04400000)

/-- A request while one is being verified. -/
def stateSAF (d : Dev) (b _n w : Nat) : Bool :=
  b == 0x20090410 && ulKey w && SAF_UL_CTRL_OP.of w != 0 && d.saf.unl.isSome

/-- What a write of `SAF_UL_CTRL` does (R271); without the key it is ignored. -/
def afterSAF (d : Dev) (b _n w : Nat) : Dev :=
  if b ≠ 0x20090410 then d
  else
    let d := ((d.fs SAF_UL_CTRL_KEY 0).fs SAF_UL_CTRL_FMASK 0).fs SAF_UL_CTRL_OP 0
    if !ulKey w then d
    else if SAF_UL_CTRL_OP.of w = 0 then (if d.fb SAF_STAT_UL_LOCK then d else d.challenge)
    else
      let sig := (List.range 16).flatMap fun k => leBytes 4 (d.fg SAF_UL_SIG_k_SIG k)
      d.unlockStart { op := SAF_UL_CTRL_OP.of w, fmask := SAF_UL_CTRL_FMASK.of w, sig := sig } (d.fg SAF_UL_ADDR_ADDR)

end Dev

/-! ### Events -/

/-- Both channels finish verifying a request (R271). -/
def unlockVerifyDev (storeBad : Bool) (d : Dev) : Dev :=
  match d.saf.unl with
  | none => d
  | some u =>
    let msg := d.nonceBytes ++ leBytes 1 u.op ++ leBytes 1 u.fmask ++ leBytes 4 (d.fg SAF_CFG_SEQ_SEQ) ++ u.record
    let ok := d.saf.nonce && Config.signatureOk d.sys.running.safeKey msg u.sig
    let d := d.nonceClear
    if ok then d.unlockApply u storeBad else (d.authRefused).unlockEnd u 3 .auth

def execUnlockVerifyComplete (storeBad : Bool) (s : State) : Host.Outcome State Fault Refusal := s.runSaf (unlockVerifyDev storeBad)

/-- 60 s after a challenge (R271). -/
def safNonceExpiryDev (d : Dev) : Dev :=
  if d.saf.nonce && d.saf.unl.isNone && decide (d.saf.nonceAt + 60000 * Dev.msTicks ≤ d.clk.ticks) then d.nonceClear else d

def execSafNonceExpiry (s : State) : Host.Outcome State Fault Refusal := s.runSaf safNonceExpiryDev

/-- Both channels finish loading and comparing their stores (R270). -/
def configLoadedDev (d : Dev) : Dev :=
  if !d.fb SAF_STAT_UNCONFIG then d
  else if Dev.recSound d.saf.storeA && Dev.recSound d.saf.storeB && leAt d.saf.storeA 780 4 == leAt d.saf.storeB 780 4 then
    (d.recLoad d.saf.storeA).safRelease
  else d.showChan

def execSafetyConfigLoaded (s : State) : Host.Outcome State Fault Refusal := s.runSaf configLoadedDev

/-! ### Commands (R276) -/

def execSafCaps (p : Path) (tag : Byte) (s : State) : Host.Outcome State Fault Refusal :=
  s.run fun d => d.runCmd 0x700 p tag (capsCmd [0x20090008])

def execSafStatus (p : Path) (tag : Byte) (s : State) : Host.Outcome State Fault Refusal :=
  s.run fun d => d.runCmd 0x701 p tag
    (capsCmd ([0x20090000, 0x20090010, 0x20090014, 0x20090018, 0x2009001C, 0x20090020] ++
      (List.range 8).map (fun c => 0x20090040 + 4 * c) ++ (List.range 4).map (fun k => 0x20090080 + 4 * k) ++ [0x200900C0, 0x200900C4]))

/-- `SAF_READ_CFG`. -/
def safReadCfgCmd (c : Cmd) (d : Dev) : Res × Dev :=
  let ch := byteAt c.payload 0
  if c.payload.length ≠ 1 ∨ 1 < ch then (.st .range, d)
  else if d.fb SAF_STAT_UNCONFIG then (.st .state, d)
  else (.reply .ok (if ch = 0 then d.saf.storeA else d.saf.storeB), d)

def execSafReadCfg (p : Path) (tag : Byte) (s : State) : Host.Outcome State Fault Refusal :=
  s.run fun d => d.runCmd 0x702 p tag safReadCfgCmd

/-- `SAF_CHALLENGE`. -/
def safChallengeCmd (c : Cmd) (d : Dev) : Res × Dev :=
  if c.payload ≠ [] then (.st .range, d)
  else if d.fb SAF_STAT_UL_LOCK then (.st .auth, d)
  else
    let d := d.challenge
    (.reply .ok d.nonceBytes, d)

def execSafChallenge (p : Path) (tag : Byte) (s : State) : Host.Outcome State Fault Refusal :=
  s.runSaf fun d => d.runCmd 0x703 p tag safChallengeCmd

/-- `SAF_UNLOCK` (R271). -/
def safUnlockCmd (c : Cmd) (d : Dev) : Res × Dev :=
  let op := byteAt c.payload 0
  let a := leAt c.payload 4 4
  if d.fb SAF_STAT_UL_LOCK then (.st .auth, (d.fs SAF_UL_STAT_RESULT 3).finc SAF_UL_STAT_UL_SEQ)
  else if c.payload.length ≠ 72 ∨ op = 0 ∨ 3 < op ∨ leAt c.payload 2 2 ≠ 0 ∨
      (op = 1 ∧ Dev.rangeSAF.recAt a = false) ∨ (op ≠ 1 ∧ a ≠ 0) then (.st .range, d)
  else if d.saf.unl.isSome then (.st .busy, d)
  else (.owed, d.unlockStart { op := op, fmask := byteAt c.payload 1, sig := c.payload.drop 8, cmd := some (c.path, c.tag) } a)

def execSafUnlock (p : Path) (tag : Byte) (s : State) : Host.Outcome State Fault Refusal :=
  s.runSaf fun d => d.runCmd 0x704 p tag safUnlockCmd

/-- `SAF_WELDTEST` (R261). -/
def safWeldCmd (c : Cmd) (d : Dev) : Res × Dev :=
  if c.payload ≠ [] then (.st .range, d)
  else if !d.fnRests 0 || d.grd.demClose || d.fb SAF_RLY_STAT_WELD_BUSY then (.st .state, d)
  else
    let d := d.fs SAF_RLY_STAT_WELD_BUSY 1
    (.owed, { d with saf := { d.saf with weldBad := false, weldCmd := some (c.path, c.tag) } })

def execSafWeldtest (p : Path) (tag : Byte) (s : State) : Host.Outcome State Fault Refusal :=
  s.runSaf fun d => d.runCmd 0x705 p tag safWeldCmd

/-! ### Events of the grid functions on which the supervisor acts (R255, cause 0x60) -/

/-- GRD completes its evaluation of a sample. -/
def execGridSampleDecision (k : Nat) (s : State) : Host.Outcome State Fault Refusal := s.runSaf fun d => (gridSampleDev k d).safEval

def execMeasChannelTimeout (s : State) : Host.Outcome State Fault Refusal := s.runSaf fun d => (measTimeoutDev d).safEval

def execV10Update (s : State) : Host.Outcome State Fault Refusal := s.runSaf fun d => (v10UpdateDev d).safEval

def execCeaseTimeout (s : State) : Host.Outcome State Fault Refusal := s.runSaf fun d => (ceaseTimeoutDev d).safEval

def execActInvalidTimeout (s : State) : Host.Outcome State Fault Refusal := s.runSaf fun d => (actInvalidDev d).safEval

def execContactorCloseTimeout (s : State) : Host.Outcome State Fault Refusal := s.runSaf fun d => (closeTimeoutDev d).safEval

def execReconnectDelayExpiry (s : State) : Host.Outcome State Fault Refusal := s.runSaf fun d => (reconnectExpiryDev d).safEval

def execGrdReconnect (p : Path) (tag : Byte) (s : State) : Host.Outcome State Fault Refusal :=
  s.runSaf fun d => (d.runCmd 0x402 p tag grdReconnectCmd).safEval

def execGrdDisconnect (p : Path) (tag : Byte) (s : State) : Host.Outcome State Fault Refusal :=
  s.runSaf fun d => (d.runCmd 0x403 p tag grdDisconnectCmd).safEval

end Sys2Proof.Machine
end

