-- ==== Sys2Proof/Machine/Deliver.lean ====
section
/-! DEFINITION. Received session packets: checks, authentication, delivery (R303 to R305). -/
namespace Sys2Proof.Machine
namespace Dev

/-- The enabled context of a port, a local UDP port and a tag (R305 check 1). -/
def sessOf (d : Dev) (x port tag : Nat) : Option Nat :=
  (List.range 128).find? fun s => d.fb NET_CTX_s_0_EN s && d.fg NET_CTX_s_0_PORT s == x && d.fg NET_CTX_s_1_LPORT s == port &&
    d.fg NET_CTX_s_8_LTAG s == tag

/-- Highest authenticated packet number of a session. -/
def rxNum (d : Dev) (s : Nat) : Nat := d.fg NET_CTX_s_14_RXNUM_LO s + 2 ^ 32 * d.fg NET_CTX_s_15_RXNUM_HI s

/-- The packet number passes the replay window (R305 check 2). -/
def notReplay (d : Dev) (s n : Nat) : Bool := decide (d.rxNum s < n + 64) && !(vget d.net.seen s).contains n

/-- A packet number is authenticated: the window moves (R305). -/
def numSeen (d : Dev) (s n : Nat) : Dev :=
  let hi := max (d.rxNum s) n
  let d := { d with net := { d.net with seen := vset d.net.seen s (((vget d.net.seen s) ++ [n]).filter fun x => hi < x + 64) } }
  (d.fs NET_CTX_s_14_RXNUM_LO hi s).fs NET_CTX_s_15_RXNUM_HI (hi / 2 ^ 32) s

/-- The plaintext of a session packet, where its tag verifies with the key slot of its phase (R303). -/
def sessPlain (d : Dev) (s : Nat) (pkt : List Byte) : Option (List Byte) :=
  let slot := if (byteAt pkt 1).testBit 4 then d.fg NET_CTX_s_10_KEY1 s else d.fg NET_CTX_s_10_KEY0 s
  match vget d.net.key slot with
  | none => none
  | some k =>
    let n := pkt.length - 32
    Config.gcmOpen k (leBytes 4 (d.fg NET_CTX_s_11_SALT s) ++ (pkt.drop 8).take 8) (pkt.take 16) ((pkt.drop 16).take n) (pkt.drop (16 + n))

/-- The plaintext goes where the context sends its type (R304). -/
def sessDeliver (d : Dev) (x s type : Nat) (p : List Byte) : Dev :=
  match d.fg NET_CTX_s_0_DEST s, type with
  | 1, 0 | 1, 1 =>
    if d.fb NET_CTX_s_0_CMD s && d.fb HST_CFG_ETH_CMD then d.acceptCmd (.sess (Fin.ofNat 128 s)) p
    else d.fcnt NET_SESS_s_STAT_TYPE_CNT NET_SESS_s_STAT_CNT_OVF s
  | 2, 2 => d.pduReceive x s p
  | 3, 3 => coopReceive p d
  | 4, 4 => if d.lmpOn then d.lmpIn 1 s p else d
  | 0, 4 | 0, 5 =>
    let r := d.fg NET_CTX_s_0_RING s
    d.ringDeliver r (2 ^ 25 + r * 65536) (x * 32768 + s) 0 p
  | _, _ => d.fcnt NET_SESS_s_STAT_TYPE_CNT NET_SESS_s_STAT_CNT_OVF s

/-- A session packet arrives on port `x` for a UDP port (R305). -/
def sessReceive (d : Dev) (x port : Nat) (pkt : List Byte) : Dev :=
  if pkt.length < 32 ∨ byteAt pkt 0 ≠ 1 ∨ 32 ≤ byteAt pkt 1 ∨ leAt pkt 2 2 ≠ 0 ∨ d.fb NET_CTRL_EN = false then d
  else match d.sessOf x port (leAt pkt 4 4) with
    | none => d
    | some s =>
      let n := leAt pkt 8 8
      if !d.notReplay s n then (d.fcnt NET_SESS_s_STAT_REPLAY_CNT NET_SESS_s_STAT_CNT_OVF s).raise 93 s
      else match d.sessPlain s pkt with
        | none => (d.fcnt NET_SESS_s_STAT_AUTH_CNT NET_SESS_s_STAT_CNT_OVF s).raise 92 s
        | some p => (d.numSeen s n).sessDeliver x s (byteAt pkt 1 % 16) p

end Dev

def execSessionPacketReceived (x : Fin 2) (port : BitVec 16) (pkt : List Byte) (s : State) : Host.Outcome State Fault Refusal :=
  s.runAll (Dev.clocked fun d => d.sessReceive x.val port.toNat pkt)

end Sys2Proof.Machine
end

