-- ==== Sys2Proof/Machine/Thermal.lean ====
section
/-! DEFINITION. The thermal manager (R212 to R216, R221). -/
namespace Sys2Proof.Machine

namespace Dev

/-- Summary bits of `THM_STAT`. -/
def showThm (d : Dev) : Dev :=
  let st := fun z => d.fg THM_ZONE_z_STAT_STATE z
  let d := (d.fs THM_STAT_LATCH_ANY (b2n (d.fb THM_SNS_STAT_LATCH))).fs THM_STAT_DROP_ANY (b2n (d.fb THM_SNS_STAT_DROP))
  (d.fs THM_STAT_ENF_ANY (b2n ((List.range 8).any fun z => decide (2 ≤ st z)))).fs THM_STAT_REQ_ANY
    (b2n ((List.range 8).any fun z => st z == 1))

/-- Code and temperature of point `p` of curve `c`. -/
def curvePt (d : Dev) (c p : Nat) : Int × Int := (d.fgS THM_CURVE_c_p_CODE (16 * c + p), d.fgS THM_CURVE_c_p_TEMP (16 * c + p))

/-- The points of a curve: those taken while `CODE` strictly rises (R212). -/
def rising : Int × Int → List (Int × Int) → List (Int × Int)
  | a, [] => [a]
  | a, b :: t => if a.1 < b.1 then a :: rising b t else [a]

/-- Interpolate between the points that bracket a code; none outside them. -/
def interp (x : Int) : List (Int × Int) → Option Int
  | a :: b :: t =>
    if x < a.1 then none
    else if x ≤ b.1 then some (a.2 + (b.2 - a.2) * (x - a.1) / (b.1 - a.1))
    else interp x (b :: t)
  | _ => none

/-- The temperature a curve gives for a code (R212). -/
def curveTemp (d : Dev) (c : Nat) (x : Int) : Option Int :=
  interp x (rising (d.curvePt c 0) ((List.range 15).map fun p => d.curvePt c (p + 1)))

/-- Valid sensors of zone `z`. -/
def zoneSensors (d : Dev) (z : Nat) : List Nat :=
  (List.range 16).filter fun k => d.fb THM_SNS_k_CFG_EN k && d.fb THM_SNS_k_VAL_VALID k && d.fbit THM_SNS_k_CFG_ZONES z k

/-- A field of `THM_ZONE_z_CFG`, and one of `THM_ZONE_z_LIM`, as the last reading found it (R221). -/
def zoneCfg (d : Dev) (F : Fld) (z : Nat) : Nat := F.of (vget d.thm.cfg z).1
def zoneLim (d : Dev) (F : Fld) (z : Nat) : Nat := F.of (vget d.thm.cfg z).2

/-- The zone settings of a reading (R221). -/
def takeZones (d : Dev) : Dev :=
  { d with thm := { d.thm with cfg := Vector.ofFn fun z => (d.word (0x20100200 + 16 * z.val), d.word (0x20100204 + 16 * z.val)) } }

/-- The target fraction of zone `z` at a temperature (R215). -/
def derate (d : Dev) (z : Nat) (t : Int) : Nat :=
  let td : Int := 10 * ((d.zoneLim THM_ZONE_z_LIM_T_D z : Int) - 64)
  let tm : Int := 10 * ((d.zoneLim THM_ZONE_z_LIM_T_MAX z : Int) - 64)
  let mn : Int := d.zoneCfg THM_ZONE_z_CFG_MIN_FRAC z
  if t ≤ td then 32768
  else if tm ≤ t then mn.toNat
  else ((32768 * (tm - td) - (32768 - mn) * (t - td)) / (tm - td)).toNat

/-- The zone's grace time starts or ends. -/
def setGrace (d : Dev) (z : Nat) (g : Option Nat) : Dev := { d with thm := { d.thm with grace := vset d.thm.grace z g } }

/-- `STATE` and `FRAC` of zone `z`. -/
def setZone (d : Dev) (z st frac : Nat) : Dev := (d.fs THM_ZONE_z_STAT_STATE st z).fs THM_ZONE_z_STAT_FRAC frac z

/-- Zone `z` enters enforce from request (R215). -/
def enforce (d : Dev) (z : Nat) : Dev :=
  (((d.setGrace z none).setZone z 2 (d.derate z (d.fgS THM_ZONE_z_TEMP_TMAX z)))).raise 65 z

/-- The rules of enforce (R215). -/
def enforced (d : Dev) (z : Nat) : Dev :=
  let t := d.fgS THM_ZONE_z_TEMP_TMAX z
  let fr := d.fg THM_ZONE_z_STAT_FRAC z
  let f := d.derate z t
  let g := d.derate z (t + d.zoneLim THM_ZONE_z_LIM_HYST z)
  let n := if f < fr then f else if fr < g then g else fr
  d.setZone z (if n = 32768 then 0 else 2) n

/-- Evaluate zone `z` at a reading (R214, R215). -/
def zoneEval (d : Dev) (z : Nat) : Dev :=
  let temps := (d.zoneSensors z).map fun k => d.fgS THM_SNS_k_VAL_TEMP k
  let d := match temps with
    | [] => (d.fs THM_ZONE_z_TEMP_TMAX 0x8000 z).fs THM_ZONE_z_TEMP_TMIN 0x8000 z
    | t :: l => (d.fsS THM_ZONE_z_TEMP_TMAX (l.foldl max t) z).fsS THM_ZONE_z_TEMP_TMIN (l.foldl min t) z
  if d.zoneCfg THM_ZONE_z_CFG_EN z = 0 then (d.setGrace z none).setZone z 0 32768
  else if temps = [] then
    if d.fg THM_ZONE_z_STAT_STATE z = 3 then d.fs THM_ZONE_z_STAT_FRAC (d.zoneCfg THM_ZONE_z_CFG_MIN_FRAC z) z
    else ((d.setGrace z none).setZone z 3 (d.zoneCfg THM_ZONE_z_CFG_MIN_FRAC z)).raise 65 z
  else
    let t := d.fgS THM_ZONE_z_TEMP_TMAX z
    let crit := decide (10 * ((d.zoneLim THM_ZONE_z_LIM_T_CRIT z : Int) - 64) ≤ t)
    match d.fg THM_ZONE_z_STAT_STATE z with
    | 0 =>
      if d.derate z t < 32768 then
        let d := ((d.fs THM_ZONE_z_STAT_STATE 1 z).setGrace z (some d.clk.ticks)).raise 64 z
        if crit then d.enforce z else d
      else d
    | 1 =>
      if d.derate z t = 32768 then (d.fs THM_ZONE_z_STAT_STATE 0 z).setGrace z none
      else if crit then d.enforce z else d
    | _ => d.enforced z

/-- A battery window takes a new value (R216): `chg` the charge window. -/
def setWindow (d : Dev) (F : Fld) (k : Nat) (isOpen : Bool) : Dev :=
  if d.fb F && !isOpen then ((d.fs F 0).fs THM_STAT_BAT_WIN_SEEN 1).raise 67 k else d.fs F (b2n isOpen)

/-- One battery window at a reading (R216): limits in °C. -/
def windowEval (d : Dev) (F LO HI : Fld) (k : Nat) : Dev :=
  let z := d.fg THM_BAT_CFG_ZONE
  let h : Int := d.fg THM_BAT_CFG_HYST
  let lo := 10 * d.fgS LO
  let hi := 10 * d.fgS HI
  let tmax := d.fgS THM_ZONE_z_TEMP_TMAX z
  let tmin := d.fgS THM_ZONE_z_TEMP_TMIN z
  if !d.fb THM_CTRL_EN || !d.fb THM_BAT_CFG_EN || (d.zoneSensors z).isEmpty then d.setWindow F k false
  else if d.fb F then d.setWindow F k (!(decide (tmin < lo) || decide (hi < tmax)))
  else d.setWindow F k (decide (lo + h ≤ tmin) && decide (tmax ≤ hi - h))

/-- Both windows. -/
def windowsEval (d : Dev) : Dev :=
  (d.windowEval THM_STAT_CHG_OK THM_BAT_WIN_CHG_LO THM_BAT_WIN_CHG_HI 0).windowEval THM_STAT_DIS_OK THM_BAT_WIN_DIS_LO THM_BAT_WIN_DIS_HI 1

/-- What follows every reading. -/
def thmEval (d : Dev) : Dev := (((List.range 8).foldl zoneEval d.takeZones).windowsEval).showThm

/-- Sensor slot `k` changes beyond its registers. -/
def updTSns (d : Dev) (k : Nat) (f : TSns → TSns) : Dev :=
  { d with thm := { d.thm with sns := vset d.thm.sns k (f (vget d.thm.sns k)) } }

/-- A reading of sensor slot `k` (R213): a temperature, or none where it is invalid. -/
def thmReading (d : Dev) (k : Nat) (t : Option Int) : Dev :=
  let d := d.finc THM_SNS_k_VAL_SEQ k
  match t with
  | none =>
    let x := vget d.thm.sns k
    let h := d.classHit 7 x.occ
    let first := !d.fbit THM_SNS_STAT_DROP k
    let d := (d.updTSns k fun y => { y with okRun := 0, bad := true, occ := h.1 }).fsBit THM_SNS_STAT_DROP k true
    let d := if h.2 then d.fsBit THM_SNS_STAT_LATCH k true else d
    let d := d.fs THM_SNS_k_VAL_VALID 0 k
    (if first then d.raise 66 k else d).thmEval
  | some t =>
    let n := (vget d.thm.sns k).okRun + 1
    let d := (d.fsS THM_SNS_k_VAL_TEMP t k).updTSns k fun y => { y with okRun := n, bad := false }
    let back := d.fbit THM_SNS_STAT_DROP k && !d.fbit THM_SNS_STAT_LATCH k && decide (3 ≤ n)
    let d := if back then d.fsBit THM_SNS_STAT_DROP k false else d
    (d.fs THM_SNS_k_VAL_VALID (b2n !(d.fbit THM_SNS_STAT_DROP k)) k).thmEval

/-- Slots that read auxiliary input `n`. -/
def slotsOfAux (d : Dev) (n : Nat) : List Nat :=
  (List.range 16).filter fun k => d.fb THM_SNS_k_CFG_EN k && !d.fb THM_SNS_k_CFG_SRC k && d.fg THM_SNS_k_CFG_AX k == n

/-- A new auxiliary result of input `n` reaches the sensors that read it (R212). -/
def thmAux (d : Dev) (n : Nat) : Dev :=
  if !d.fb THM_CTRL_EN || !d.fb SNS_AUX_n_RES_SETTLED n then d
  else
    let bad := d.fb SNS_AUX_n_RES_OPEN n || d.fb SNS_AUX_n_RES_RANGE n
    let code := sval 16 (d.fg SNS_AUX_n_RES_CODE n / 16)
    (d.slotsOfAux n).foldl (fun d k =>
      d.thmReading k (if bad then none else d.curveTemp (d.fg THM_SNS_k_CFG_CURVE k) code)) d

/-- Once in each auxiliary scan (R212): the die sensors are read, slots whose channel is disabled have an invalid
reading. With no slot enabled no reading comes, and the zones are evaluated here. -/
def thmScan (d : Dev) (die : Int) : Dev :=
  if !d.fb THM_CTRL_EN then d
  else if (List.range 16).all fun k => !d.fb THM_SNS_k_CFG_EN k then d.thmEval
  else (List.range 16).foldl (fun d k =>
    if !d.fb THM_SNS_k_CFG_EN k then d
    else if d.fb THM_SNS_k_CFG_SRC k then d.thmReading k (some die)
    else if d.auxOn (d.fg THM_SNS_k_CFG_AX k) then d
    else d.thmReading k none) d

/-! ### Registers (R221) -/

/-- Combinations out of range. -/
def rangeTHM (_d : Dev) (b _n w : Nat) : Bool :=
  if b = 0x20100204 then
    decide (THM_ZONE_z_LIM_T_MAX.of w ≤ THM_ZONE_z_LIM_T_D.of w) || decide (THM_ZONE_z_LIM_T_CRIT.of w < THM_ZONE_z_LIM_T_MAX.of w)
  else if b = 0x20100304 then
    decide (sval 8 (THM_BAT_WIN_DIS_HI.of w) ≤ sval 8 (THM_BAT_WIN_DIS_LO.of w)) ||
    decide (sval 8 (THM_BAT_WIN_CHG_HI.of w) ≤ sval 8 (THM_BAT_WIN_CHG_LO.of w))
  else false

/-- Registers that may change only while `EN` is 0. -/
def lockedTHM (d : Dev) (b : Nat) : Bool := d.fb THM_CTRL_EN && [0x20100100, 0x20100400, 0x20100300].contains b

/-- A latched sensor whose reading is invalid cannot be cleared (R213): `w` the bits named. -/
def refusedTHM (d : Dev) (b lo w : Nat) : Bool :=
  b == 0x20100180 && lo == 16 &&
    (bitsOf 16 w).any fun k => d.fbit THM_SNS_STAT_LATCH k && (vget d.thm.sns k).bad

/-- A cleared latch: the sensor returns after three consecutive valid readings (R213). -/
def clearedTHM (d : Dev) (b lo : Nat) : Dev :=
  if b = 0x20100180 ∧ lo = 16 then
    let d := (List.range 16).foldl (fun d k =>
      if d.fbit THM_SNS_STAT_DROP k && !d.fbit THM_SNS_STAT_LATCH k && decide (3 ≤ (vget d.thm.sns k).okRun) then
        (d.fsBit THM_SNS_STAT_DROP k false).fs THM_SNS_k_VAL_VALID 1 k else d) d
    d.showThm
  else d

/-- What a write does after it is stored. A manager that is off enforces nothing; one that starts has no valid sensor yet, so that its
enabled zones are in state 3 (R214, R215). -/
def afterTHM (d d0 : Dev) (b _n _w : Nat) : Dev :=
  if b = 0x20100000 ∧ d.fb THM_CTRL_EN ≠ d0.fb THM_CTRL_EN then
    let d := (List.range 8).foldl (fun d z =>
      (((d.setGrace z none).setZone z 0 32768).fs THM_ZONE_z_TEMP_TMAX 0x8000 z).fs THM_ZONE_z_TEMP_TMIN 0x8000 z) d
    let d := (List.range 16).foldl (fun d k =>
      (d.fs THM_SNS_k_VAL_VALID 0 k).updTSns k fun y => { y with okRun := 0, bad := false }) d
    let d := d.fs THM_SNS_STAT_DROP (d.fg THM_SNS_STAT_LATCH)
    if d.fb THM_CTRL_EN then d.thmEval else d.windowsEval.showThm
  else if b = 0x20100300 then d.windowsEval
  else d

end Dev

/-- A zone's grace time expires (R215). -/
def graceExpiryDev (z : Nat) (d : Dev) : Dev :=
  match vget d.thm.grace z with
  | none => d
  | some t =>
    if d.fg THM_ZONE_z_STAT_STATE z = 1 ∧ t + d.zoneCfg THM_ZONE_z_CFG_GRACE z * 100 * Dev.msTicks ≤ d.clk.ticks then
      (d.enforce z).showThm
    else d

def execGraceExpiry (z : Fin 8) (s : State) : Host.Outcome State Fault Refusal := s.run (graceExpiryDev z)

def execThmCaps (p : Path) (tag : Byte) (s : State) : Host.Outcome State Fault Refusal :=
  s.run fun d => d.runCmd 0x580 p tag (capsCmd [0x20100008])

def execThmStatus (p : Path) (tag : Byte) (s : State) : Host.Outcome State Fault Refusal :=
  s.run fun d => d.runCmd 0x581 p tag
    (capsCmd ([0x20100004, 0x20100180] ++ (List.range 8).map (fun z => 0x20100208 + 16 * z) ++
      (List.range 8).map (fun z => 0x2010020C + 16 * z) ++ (List.range 16).map fun k => 0x20100104 + 8 * k))

end Sys2Proof.Machine
end

