-- ==== Sys2Proof/Machine/Reset.lean ====
section
/-! DEFINITION. Supplies, I/O banks, reset and its sources, the watchdog (R36, R43 to R46, R375 to R382). -/
namespace Sys2Proof.Machine
namespace Dev

/-- The fields of a register file that a reset keeps: `AON`, the detected banks and supplies; a warm reset keeps the causes
and `UL_LOCK` as well (R380). -/
def keptRegs (warm : Bool) (l : List (Nat × Nat)) : List (Nat × Nat) :=
  l.filter fun c =>
    let a := c.1 / 32
    let b := c.1 % 32
    (decide (0x200D0000 ≤ a) && decide (a < 0x200E0000)) ||
    (a == 0x20000060 && decide (b < 12)) || (a == 0x20000064 && decide (b < 6)) ||
    (a == 0x20000020 && b == SYS_BOOT_STAT_SVN_FUSED.lo) ||
    (warm && ((a == 0x20000010 && decide (b < 4)) || (a == SAF_STAT_UL_LOCK.base && b == SAF_STAT_UL_LOCK.lo)))

/-- Every block takes its reset state (R380). -/
def devReset (warm : Bool) (d : Dev) : Dev :=
  let dram := warm && d.fb SYS_PWRSTAT_VDD_DRAM_OK && d.fb SYS_PWRSTAT_VDDQ_DRAM_OK
  let cen : Cen := if warm then { imem := d.cen.imem, cmem := d.cen.cmem, smem := d.cen.smem, lostAt := d.cen.lostAt, ue := d.cen.ue, ce := d.cen.ce }
    else { lostAt := some d.free }
  let saf : Saf := { storeA := d.saf.storeA, storeB := d.saf.storeB, refusals := if warm then d.saf.refusals else [] }
  let sys : Sys := { phase := d.sys.phase, vddCore := d.sys.vddCore, coreBack := d.sys.coreBack, secured := d.sys.secured,
                     detected := d.sys.detected, bootSel := d.sys.bootSel, testEn := d.sys.testEn, revoked := d.sys.revoked, warmCause := d.sys.warmCause }
  let drc : Drc := if dram then { ue := d.drc.ue, selfRefresh := d.drc.selfRefresh } else {}
  let r : Dev := { regs := keptRegs warm d.regs, clk := { refPresent := d.clk.refPresent }, cen := cen, saf := saf, sys := sys, drc := drc,
                   evt := { held := d.evt.held }, aon := d.aon, mem := d.mem, mram := d.mram, out := d.out, outM := d.outM,
                   tx := d.tx, lost := d.lost, free := d.free + 1 }
  let r := r.lose (if warm then 0x043C0000 else 0x04000000) 0x04400000
  let r := if dram then r else r.lose 0x80000000 0x100000000
  (r.fs SYS_BOOT_STAT_SECURED (b2n d.sys.secured)).fs CLK_REF_STAT_XT_CHECK_OFF (1 - d.fg AON_STAT_XT_OK)

/-- The boot sources that `BOOT_SEL` names (R38), and the state the ROM reaches after its tests (R386). -/
def bootSources (d : Dev) (sel : Nat) : Dev :=
  let l := match sel with
    | 1 => [2]
    | 2 => [0, 1, 2]
    | _ => [0, 1]
  ({ d with sys := { d.sys with bootSel := sel, sources := l } } : Dev).fs SYS_BOOT_STAT_STATE (if sel = 1 then 2 else 0)

/-- The fabric answers again: held Nightwatch events are raised with the present timestamp (R355). -/
def raiseHeld (d : Dev) : Dev :=
  let l := d.evt.held.map fun e => { e with ts := d.clk.ticks, deg := d.deg }
  { d with evt := { d.evt with held := [], inflight := d.evt.inflight ++ l } }

/-- Field of a bank's state, and the banks in a class. -/
def bankFld : Nat → Fld
  | 0 => SYS_IOBANK_BANK_0 | 1 => SYS_IOBANK_BANK_1 | 2 => SYS_IOBANK_BANK_2 | 3 => SYS_IOBANK_BANK_3
  | 4 => SYS_IOBANK_BANK_4 | _ => SYS_IOBANK_BANK_5

/-- The bank is valid: it has a class (R43). -/
def bankOk (d : Dev) (b : Nat) : Bool := d.fg (bankFld b) == 1 || d.fg (bankFld b) == 2

/-- Bank 3 ceases to be valid: inputs read open, feedback unknown, relay outputs off (R44). -/
def bank3Lost (d : Dev) : Dev :=
  let d := (d.fs SAF_STAT_BANK3 1)
  let d := (List.range 8).foldl (fun d n =>
    (((d.fsBit SAF_IN_RAW_A_VIEW (2 * n) false).fsBit SAF_IN_RAW_A_VIEW (2 * n + 1) false).fsBit SAF_IN_RAW_B_VIEW (2 * n) false).fsBit
      SAF_IN_RAW_B_VIEW (2 * n + 1) false) d
  let d := { d with saf := { d.saf with cmd := 0, fn := vmap (fun x => { x with seen := 0 }) d.saf.fn } }
  ((d.safReports 0).safReports 1).safEval

/-- The banks' states at the release of reset: the valid ones have been detected (R45); the rules for banks 0, 1 and 3 that are not valid
act (R44, R131). -/
def banksUp (d : Dev) : Dev :=
  let d := { d with sys := { d.sys with detected := ((List.range 6).filter d.bankOk).foldl setBit 0 } }
  let d := d.bankTrip
  if d.bank3 then d else d.bank3Lost

/-- The internal reset ends: the device comes up (R377). -/
def comeUp (d : Dev) (sel : Nat) : Dev :=
  let d := { d with sys := { d.sys with phase := .run } }
  let back := d.sys.coreBack
  let d := if back then ({ d with sys := { d.sys with coreBack := false } } : Dev).wakeCause else d
  (((d.bootSources sel).talLoad).raiseHeld).banksUp

/-- The supplies that hold power-on reset, and bank 2, are valid (R375). -/
def powerOk (d : Dev) : Bool :=
  d.sys.vddCore && d.fb SYS_PWRSTAT_VDD_PLL_OK && d.fb SYS_PWRSTAT_VDDA_OK && d.fg SYS_IOBANK_BANK_2 != 0 && d.fg SYS_IOBANK_BANK_2 != 3

/-- Power-on reset is entered and held. -/
def porEnter (d : Dev) : Dev := ({ d with sys := { d.sys with phase := .hold } } : Dev).devReset false

/-- A warm reset is requested (R379): outputs clamped, Tallyman flushed, the DRAM in self-refresh, the stop stamp taken. -/
def warmRequest (d : Dev) (cause : Nat) : Dev :=
  let v := d.talVerify
  let d := v.2.talFlush v.1
  let d := if d.fb DRC_STAT_READY then { d with drc := { d.drc with selfRefresh := true } } else d
  let d := d.stopStamp
  { d with sys := { d.sys with phase := .warm, warmCause := cause } }

/-- Some leg is enabled (R382). -/
def legEnabled (d : Dev) : Bool := (List.range 24).any fun n => d.fb PWM_LEG_n_CTRL_EN n

/-- A bank takes a state; a change is reported, but for the bank's first detection (R43, R45, R46), and acts on legs and safety
functions (R44, R131). -/
def bankSet (d : Dev) (b st : Nat) : Dev :=
  let old := d.fg (bankFld b)
  if old = st then d
  else
    let d := (d.fs (bankFld b) st)
    if d.sys.phase ≠ .run then d
    else
    let first := d.bankOk b && !d.sys.detected.testBit b
    let d := if first then { d with sys := { d.sys with detected := setBit d.sys.detected b } }
      else (d.fsBit SYS_IOBANK_BANK_CHG b true).raise 123 b
    if b ≤ 1 then (d.bankTrip).bankBack
    else if b = 3 then (if d.bank3 then (d.fs SAF_STAT_BANK3 0).safEval else d.bank3Lost)
    else d

/-- The OK bit of a monitored supply. -/
def okFld : Nat → Fld
  | 0 => SYS_PWRSTAT_VDD_PLL_OK | 1 => SYS_PWRSTAT_VDDA_OK | 2 => SYS_PWRSTAT_VDD_DRAM_OK | 3 => SYS_PWRSTAT_VDDQ_DRAM_OK
  | 4 => SYS_PWRSTAT_VBAT_OK | _ => SYS_PWRSTAT_VDRV_OK

end Dev

/-- `VDD_CORE` falls below its threshold (R36, R351, R375). -/
def vddCoreFallDev (d : Dev) : Dev :=
  if !d.sys.vddCore then d
  else
    let d := (d.stopStamp).bsCoreDown
    ({ d with sys := { d.sys with vddCore := false, coreBack := false }, aon := { d.aon with first := false } } : Dev).porEnter

def execVddCoreFall (s : State) : Host.Outcome State Fault Refusal := s.runRst vddCoreFallDev

/-- `VDD_PLL` or `VDDA` falls below its valid threshold (R375): a device reset while `VDD_CORE` stays valid, so a stop stamp
is taken (R351), unless reset is already held. -/
def supplyFallDev (k : Nat) (d : Dev) : Dev :=
  if !d.fb (Dev.okFld k) then d
  else
    let d := if d.sys.phase = .hold then d else d.stopStamp
    (d.fs (Dev.okFld k) 0).porEnter

def execSupplyFallPor (k : Fin 2) (s : State) : Host.Outcome State Fault Refusal := s.runRst (supplyFallDev k.val)

/-- Reset is released (R375, R377): only where the supplies and bank 2 are valid, and `TEST_EN` is low (R37). -/
def resetReleaseDev (bootSel : Nat) (d : Dev) : Dev :=
  if d.sys.phase = .hold ∧ d.powerOk = true ∧ d.sys.testEn = false then d.comeUp bootSel else d

def execResetRelease (bootSel : Fin 4) (s : State) : Host.Outcome State Fault Refusal := s.runRst (resetReleaseDev bootSel.val)

/-- A bank takes a class (R43). Bank 3 treats 1.8 V as invalid. -/
def bankValidDev (b : Nat) (v33 : Bool) (d : Dev) : Dev := d.bankSet b (if v33 then 2 else if b = 3 then 3 else 1)

def execBankValidDetect (b : Fin 6) (v33 : Bool) (s : State) : Host.Outcome State Fault Refusal := s.runRst (bankValidDev b.val v33)

/-- A bank is not valid (R43). -/
def bankInvalidDev (b : Nat) (unpowered : Bool) (d : Dev) : Dev := d.bankSet b (if unpowered then 0 else 3)

def execBankInvalid (b : Fin 6) (unpowered : Bool) (s : State) : Host.Outcome State Fault Refusal := s.runRst (bankInvalidDev b.val unpowered)

/-- A monitored supply leaves its range (R401): its OK bit and its sticky bit. The rules that act on it apply: reset for
`VDD_PLL` and `VDDA` (R375), the contents of the DRAM (R380), the pump (R370). -/
def supplyDropDev (k : Nat) (d : Dev) : Dev :=
  if k < 2 then supplyFallDev k d
  else if k = 5 then vdrvLossDev d
  else if !d.fb (Dev.okFld k) then d
  else
    let d := (d.fs (Dev.okFld k) 0).dropSeen k
    if k = 2 ∨ k = 3 then d.lose 0x80000000 0x100000000 else d

def execSupplyMonitorDrop (k : Fin 6) (s : State) : Host.Outcome State Fault Refusal := s.runRst (supplyDropDev k.val)

/-- A supply is valid (R375, R401): `k` as the bits of `SYS_PWRSTAT.OK`, 6 for `VDD_CORE`, whose return ends a black-start
qualify or kick (R357). -/
def supplyValidDev (k : Nat) (d : Dev) : Dev :=
  if k = 6 then
    if d.sys.vddCore then d else ({ d with sys := { d.sys with vddCore := true, coreBack := true } } : Dev).bsCoreUp
  else if k = 5 then vdrvReturnDev d
  else d.fs (Dev.okFld k) 1

def execSupplyValid (k : Fin 7) (s : State) : Host.Outcome State Fault Refusal := s.runRst (supplyValidDev k.val)

/-- `RESET_N` held low (R378). -/
def execResetPin (s : State) : Host.Outcome State Fault Refusal := s.runAll fun d => d.warmRequest 1

/-- The internal reset of a warm reset, and the boot that follows (R379, R380): `BOOT_SEL` is sampled as it is released (R38),
whatever the pins show then, and with `TEST_EN` high the device stays in reset (R37). -/
def warmAssertDev (d : Dev) : Dev :=
  if d.sys.phase ≠ .warm then d
  else
    let c := d.sys.warmCause
    let F := if c = 1 then SYS_RST_CAUSE_PIN else if c = 2 then SYS_RST_CAUSE_SW else SYS_RST_CAUSE_WDT
    let d := ((d.devReset true).fs F 1).fs SYS_RST_CAUSE_LAST c
    if d.sys.testEn then { d with sys := { d.sys with phase := .hold } } else d.fresh.2.comeUp (d.fresh.1 % 4)

def execWarmResetAssert (s : State) : Host.Outcome State Fault Refusal := s.runRst warmAssertDev

/-- The watchdog's time has passed: its own oscillator may run 3 % fast (R381). -/
def Dev.wdtDue (d : Dev) : Bool :=
  d.fb SYS_WDT_EN && decide (d.sys.wdtFrom * 103 + d.fg SYS_WDT_TIMEOUT * Dev.msTicks * 100 ≤ d.clk.ticks * 103)

/-- The watchdog expires (R381). With `ACTION` 0 it starts counting again too (log entry 60). -/
def watchdogExpiryDev (d : Dev) : Dev :=
  if !d.wdtDue then d
  else
    let r := { d with sys := { d.sys with wdtFrom := d.clk.ticks } }
    match d.fg SYS_WDT_ACTION with
    | 0 => r.raise 127
    | 1 => ((r.raise 127).softTrip 0xFFFFFF).safEval
    | _ => d.warmRequest 3

def execWatchdogExpiry (s : State) : Host.Outcome State Fault Refusal := s.runAll watchdogExpiryDev

/-- The lifecycle fuse is programmed once, over JTAG (R387); `SECURED` shows it after the next reset. -/
def fuseDev (d : Dev) : Dev := { d with sys := { d.sys with secured := true } }

def execLifecycleFuseProgram (s : State) : Host.Outcome State Fault Refusal := s.run fuseDev

/-! ### Commands (R396) -/

/-- `SYS_RESET`: the request follows the reply (R382). -/
def sysResetCmd (c : Cmd) (d : Dev) : Res × Dev :=
  if c.payload.length ≠ 1 ∨ 1 < byteAt c.payload 0 then (.st .range, d)
  else if d.legEnabled && byteAt c.payload 0 == 0 then (.st .state, d)
  else (.st .ok, { d with sys := { d.sys with rstOwed := some (c.path, c.tag) } })

/-- A reset that `SYS_RESET` asked for follows its reply, or its completion where `NOREPLY` suppresses the reply (R287, R382). -/
def Dev.resetFollows (d : Dev) (p : Path) (tag : Nat) : Dev :=
  if d.sys.rstOwed = some (p, tag) ∧ (d.findCmd p tag).isNone then
    ({ d with sys := { d.sys with rstOwed := none } } : Dev).warmRequest 2
  else d

def execSysReset (p : Path) (tag : Byte) (s : State) : Host.Outcome State Fault Refusal :=
  s.runAll fun d => (d.runCmd 0x040 p tag sysResetCmd).resetFollows p tag.toNat

/-- `BOOT_STATUS`. -/
def bootStatusCmd (c : Cmd) (d : Dev) : Res × Dev :=
  if c.payload ≠ [] then (.st .range, d)
  else (.reply .ok (d.words [0x20000020, 0x20000010] ++ leBytes 4 d.sys.running.seq ++ leBytes 4 d.sys.running.svn), d)

def execBootStatus (p : Path) (tag : Byte) (s : State) : Host.Outcome State Fault Refusal :=
  s.run fun d => d.runCmd 0x041 p tag bootStatusCmd

/-- `SVN_ADVANCE`. -/
def svnAdvanceCmd (c : Cmd) (d : Dev) : Res × Dev :=
  let v := leAt c.payload 0 4
  if c.path ≠ .host then (.st .auth, d)
  else if c.payload.length ≠ 4 ∨ v ≠ d.sys.running.svn ∨ v ≤ d.fg SYS_BOOT_STAT_SVN_FUSED then (.st .range, d)
  else (.st .ok, d.fs SYS_BOOT_STAT_SVN_FUSED v)

def execSvnAdvance (p : Path) (tag : Byte) (s : State) : Host.Outcome State Fault Refusal :=
  s.run fun d => d.runCmd 0x043 p tag svnAdvanceCmd

end Sys2Proof.Machine
end

