-- ==== Sys2Proof/Machine/SnsEvents.lean ====
section
/-! DEFINITION. The auxiliary scan (R88 to R91). -/
namespace Sys2Proof.Machine

namespace Dev

/-- A scan ends (R88, R90, R212). -/
def scanEnd (d : Dev) (die : Int) : Dev :=
  let d := ({ d with sns := { d.sns with scanning := false, auxFrom := d.clk.ticks } } : Dev).raise 24
  let d := if d.sns.scanLong then d.fs SNS_STAT_AUX_OVERRUN 1 else d
  let n := d.sns.owScans + 1
  let every := d.sns.owEvery
  let due := decide (every ≠ 0) && decide (every ≤ n)
  let d := { d with sns := { d.sns with owScans := if due then 0 else n } }
  (if due then d.owFallDue else d).thmScan die

/-- The result of auxiliary input `n` (R88 to R91). -/
def auxResult (d : Dev) (n : Nat) (code : Nat) : Dev :=
  let c16 := sval 16 (code / 16)
  let bad := decide (c16 < d.fgS SNS_AUX_n_LIM_LO n) || decide (d.fgS SNS_AUX_n_LIM_HI n < c16)
  let d := ((d.finc SNS_AUX_n_RES_SEQ n).fs SNS_AUX_n_RES_SETTLED (b2n !d.sns.refChanged) n).fs SNS_AUX_n_RES_OPEN
    (b2n (d.fbit SNS_AUX_STAT_OW n)) n
  let d := ((d.fs SNS_AUX_n_RES_RANGE (b2n bad) n).fs SNS_AUX_n_RES_DEGRADED (b2n d.deg) n).fs SNS_AUX_n_RES_CODE code n
  let was := d.fbit SNS_AUX_RNG_RNG n
  let d := d.fsBit SNS_AUX_RNG_RNG n bad
  let d := if bad then d.fsBit SNS_AUX_RNG_RNG_SEEN n true else d
  let d := if bad && !was then d.raise 26 n else d
  let m := vget d.sns.aux n
  let mb : Mbox := { ts := d.clk.ticks, deg := d.deg, writes := m.writes + 1 }
  let d := { d with sns := { d.sns with aux := vset d.sns.aux n mb } }
  (d.mailbox 3 n).thmAux n

end Dev

/-- A scan start, `SCAN_PER` after the one before, or at the end of a scan that has lasted longer (R88, R91). The settings written
since the last one now apply; with `EN` at 0 no scan runs. A scan without channels reads only the die sensors, at its next
conversion. -/
def auxScanStartDev (d : Dev) : Dev :=
  if d.sns.scanning || d.convStopped || (d.sns.auxEn && decide (d.clk.ticks < d.sns.scanNext)) then d
  else
    let en := d.fb SNS_AUX_CTRL_EN
    let ch : Vector AuxCh 16 := Vector.ofFn fun n => ⟨d.auxOn n, d.fb SNS_AUX_n_CFG_OW_EN n, d.fg SNS_AUX_n_CFG_SETTLE n⟩
    let l := if en then (List.range 16).filter fun n => (vget ch n).slot else []
    let us := (l.map fun n => (vget ch n).settle + 500).sum
    let ref := d.fb SNS_AUX_CTRL_REF_EXT
    let t := if d.due d.sns.scanNext then d.sns.scanNext else d.clk.ticks
    { d with sns := { d.sns with
        auxEn := en, owEvery := d.fg SNS_AUX_CTRL_OW_EVERY, stEvery := d.fg SNS_AUX_CTRL_ST_PER, auxCh := ch,
        scanning := en, scanLeft := l, scanLong := decide (d.fg SNS_AUX_CTRL_SCAN_PER * 1000 < us),
        refChanged := ref != d.sns.refExt, refExt := ref,
        scanNext := t + d.fg SNS_AUX_CTRL_SCAN_PER * Dev.msTicks, auxFrom := t } }

def execAuxScanStart (s : State) : Host.Outcome State Fault Refusal := s.run auxScanStartDev

/-- The conversion of the scan's next channel ends; with the last one the scan ends (R88). `die` is the on-die junction
temperature in 0.1 °C. -/
def auxConversionDev (code : Nat) (die : Int) (d : Dev) : Dev :=
  if !d.sns.scanning || d.convStopped then d
  else match d.sns.scanLeft with
    | [] => d.scanEnd die
    | n :: t =>
      if !d.auxEnded (d.auxSlot n) then d
      else
        let d := ({ d with sns := { d.sns with scanLeft := t, auxFrom := d.clk.ticks } } : Dev).auxResult n code
        if t = [] then d.scanEnd die else d

def execAuxConversionDone (code : BitVec 20) (die : BitVec 16) (s : State) : Host.Outcome State Fault Refusal :=
  s.run (auxConversionDev code.toNat die.toInt)

end Sys2Proof.Machine
end

