-- ==== Sys2Proof/Machine/RegAccess.lean ====
section
/-! DEFINITION. An access to a register (R6 to R13, R20, R29, R291): which writes are refused and with what status, what
a write stores and does, two-word quantities, what a read returns and does. -/
namespace Sys2Proof.Machine
namespace Dev

/-! ### The blocks `SYS` and `HST` -/

/-- Combinations of `SYS_ROLE` out of range (R29). -/
def rangeSYS (_d : Dev) (b _n w : Nat) : Bool :=
  if b = 0x20000040 then
    let size := SYS_ROLE_PAR_SIZE.of w
    let pos := SYS_ROLE_PAR_POS.of w
    match SYS_ROLE_PAR_MODE.of w with
    | 0 => size != 0 || pos != 0
    | 1 => pos != 0 || size == 0
    | _ => pos == 0 || decide (size < pos)
  else false

/-- A written word of `SYS_RST_CTRL` requests a reset: key and `RST`. -/
def rstAsked (w : Nat) : Bool := SYS_RST_CTRL_KEY.of w == 0xD1 && SYS_RST_CTRL_RST.of w == 1

/-- Writes to `SYS` refused by the state (R29, R381, R382). -/
def stateSYS (d : Dev) (b _n w : Nat) : Bool :=
  if b = 0x20000040 then
    (SYS_ROLE_PAR_MODE.of w != d.fg SYS_ROLE_PAR_MODE || SYS_ROLE_PAR_SIZE.of w != d.fg SYS_ROLE_PAR_SIZE ||
      SYS_ROLE_PAR_POS.of w != d.fg SYS_ROLE_PAR_POS) && d.legEnabled
  else if b = 0x20000030 then
    d.fb SYS_WDT_EN && (SYS_WDT_EN.of w != d.fg SYS_WDT_EN || SYS_WDT_ACTION.of w != d.fg SYS_WDT_ACTION ||
      SYS_WDT_TIMEOUT.of w != d.fg SYS_WDT_TIMEOUT)
  else if b = 0x20000014 then rstAsked w && SYS_RST_CTRL_FORCE.of w == 0 && d.legEnabled
  else false

/-- What a write to `SYS` does after it is stored: the roles (R29), the watchdog (R381), a software reset (R382), a fault
class (R394). -/
def afterSYS (d d0 : Dev) (b n w : Nat) : Dev :=
  if b = 0x20000040 then
    let d := (((d.showAligned).grdRole d0).talRole d0).lmpRole d0
    if d.fg SYS_ROLE_DIR_ROLE = d0.fg SYS_ROLE_DIR_ROLE then d else d.dirRoleChanged (d0.fg SYS_ROLE_DIR_ROLE)
  else if b = 0x20000030 then
    if d.fb SYS_WDT_EN && !d0.fb SYS_WDT_EN then { d with sys := { d.sys with wdtFrom := d.clk.ticks } } else d
  else if b = 0x20000034 then
    if SYS_WDT_KICK_KEY.of w = 0xC3 ∧ d.fb SYS_WDT_EN then { d with sys := { d.sys with wdtFrom := d.clk.ticks } } else d
  else if b = 0x20000014 then (if rstAsked w then d.warmRequest 2 else d)
  else d.afterFCLS b n

/-- `HST_BUF` changes only while no command is outstanding. -/
def stateHST (d : Dev) (b _n w : Nat) : Bool :=
  b == 0x200A0020 && d.hst.outst != [] && HST_BUF_BLK.of w != d.fg HST_BUF_BLK

/-- What a W1C clear in `HST` does besides clearing. -/
def clearedHST (d : Dev) (b lo : Nat) : Dev := if b = 0x200A0004 ∧ lo = 7 then d.fs HST_STAT_FRAME_CNT 0 else d

/-! ### The rules of all blocks, by block -/

/-- Combinations of values out of range. -/
def rangeReg (d : Dev) (b n w : Nat) : Bool :=
  match b / 65536 with
  | 0x2000 => d.rangeSYS b n w
  | 0x2001 => d.rangeCLK b n w
  | 0x2003 => d.rangeSNS b n w
  | 0x2004 => d.rangeTRP b n w
  | 0x2005 => d.rangeCEN b n w
  | 0x2006 => d.rangeGRD b n w
  | 0x2007 => d.rangeWGH b n w
  | 0x2009 => d.rangeSAF b n w
  | 0x200B => d.rangeNET b n w
  | 0x200C => d.rangeLMP b n w
  | 0x200D => d.rangeAON b n w
  | 0x200E => d.rangeAUX b n w
  | 0x200F => d.rangeEVT b n w
  | 0x2010 => d.rangeTHM b n w
  | _ => false

/-- Writes refused by the state. -/
def stateReg (d : Dev) (b n w : Nat) : Bool :=
  match b / 65536 with
  | 0x2000 => d.stateSYS b n w
  | 0x2001 => d.stateCLK b n w
  | 0x2002 => d.statePWM b n w
  | 0x2003 => d.stateSNS b n w
  | 0x2004 => d.stateTRP b n w
  | 0x2005 => d.stateCEN b n w
  | 0x2006 => d.stateGRD b n w
  | 0x2007 => d.stateWGH b n w
  | 0x2008 => d.stateTAL b n w
  | 0x2009 => d.stateSAF b n w
  | 0x200A => d.stateHST b n w
  | 0x200B => d.stateNET b n w
  | 0x200C => d.stateLMP b n w
  | 0x200E => d.stateAUX b n w
  | 0x200F => d.stateEVT b n w
  | 0x2011 => d.stateNQL b n w
  | 0x2012 => d.stateDRC b n w
  | _ => false

/-- The register may not change in the present state: all its fields are protected. -/
def lockedReg (d : Dev) (b n : Nat) : Bool :=
  match b / 65536 with
  | 0x2001 => b == 0x20010100 && d.fb CLK_PLL_CTRL_EN
  | 0x2006 => d.lockedGRD b
  | 0x200B => d.lockedNET b n
  | 0x200C => d.lockedLMP b n
  | 0x2010 => d.lockedTHM b
  | _ => false

/-- The written word changes a field of register `n` of `r` (R8). -/
def rwChanges (d : Dev) (r : Reg) (n w : Nat) : Bool := r.flds.any fun s => s.acc == .RW && s.fld.of w != d.fg s.fld n

/-- A rule refuses the clear of bit `i` of the W1C field at `lo` (R6). -/
def refusedBit (d : Dev) (b n lo i : Nat) : Bool :=
  match b / 65536 with
  | 0x2001 => d.refusedCLK b lo
  | 0x2002 => d.refusedPWM b lo
  | 0x2003 => d.refusedSNS b n lo
  | 0x2005 => d.refusedCEN b lo (2 ^ (lo + i))
  | 0x2008 => d.refusedTAL b lo
  | 0x200D => d.refusedAON b lo
  | 0x200E => d.refusedAUX b lo
  | 0x2010 => d.refusedTHM b lo (2 ^ i)
  | _ => false

/-- What a W1C clear does besides clearing. -/
def clearedReg (d : Dev) (b n lo : Nat) : Dev :=
  match b / 65536 with
  | 0x2001 => d.clearedCLK b lo
  | 0x2002 => d.clearedPWM b n lo
  | 0x2003 => d.clearedSNS b n lo
  | 0x2004 => d.clearedTRP b n lo
  | 0x2005 => d.clearedCEN b n lo
  | 0x200A => d.clearedHST b lo
  | 0x200B => d.clearedNET b n lo
  | 0x200C => d.clearedLMP b n lo
  | 0x200D => d.clearedAON b lo
  | 0x200E => d.clearedAUX b lo
  | 0x200F => d.clearedEVT b lo
  | 0x2010 => d.clearedTHM b lo
  | 0x2011 => d.clearedNQL b n lo
  | 0x2012 => d.clearedDRC b lo
  | _ => d

/-- What a write does after it is stored; `d0` is the device before it. -/
def afterReg (d d0 : Dev) (b n w : Nat) : Dev :=
  match b / 65536 with
  | 0x2000 => d.afterSYS d0 b n w
  | 0x2001 => d.afterCLK d0 b n w
  | 0x2002 => d.afterPWM d0 b n w
  | 0x2003 => d.afterSNS d0 b n w
  | 0x2004 => d.afterTRP d0 b n w
  | 0x2005 => d.afterCEN d0 b n w
  | 0x2006 => if b = 0x20060000 then (d.afterGRD d0 b n w).safEval else d.afterGRD d0 b n w
  | 0x2007 => d.afterWGH d0 b n w
  | 0x2008 => d.afterTAL d0 b n w
  | 0x2009 => d.afterSAF b n w
  | 0x200B => d.afterNET d0 b n w
  | 0x200C => d.afterLMP d0 b n
  | 0x200D => d.afterAON d0 b n w
  | 0x200E => d.afterAUX d0 b n w
  | 0x200F => d.afterEVT d0 b n w
  | 0x2010 => d.afterTHM d0 b n w
  | 0x2011 => d.afterNQL b
  | 0x2012 => d.afterDRC d0 b n w
  | _ => d

/-! ### Writing one register -/

/-- Bits that are set in a W1C field and that a word names. -/
def w1cNamed (d : Dev) (n w : Nat) (s : FldSpec) : List Nat :=
  (bitsOf s.fld.len (s.fld.of w)).filter fun i => d.fbit s.fld i n

/-- Those among them that no rule holds. -/
def w1cBits (d : Dev) (b n w : Nat) (s : FldSpec) : List Nat :=
  (d.w1cNamed n w s).filter fun i => !d.refusedBit b n s.fld.lo i

/-- A rule refuses to clear a W1C bit that the word names. -/
def w1cHeld (d : Dev) (b n w : Nat) (s : FldSpec) : Bool :=
  s.acc == .W1C && (d.w1cNamed n w s).any fun i => d.refusedBit b n s.fld.lo i

/-- Write-only words that stay until an operation uses them: key staging, the unlock request's address and signature. -/
def staged (b : Nat) : Bool := b == 0x200B0500 || b == 0x20090414 || b == 0x20090420

/-- A word's effect on one field (R6); `d0` is the device before the write. -/
def storeFld (d0 : Dev) (b n w : Nat) (d : Dev) (s : FldSpec) : Dev :=
  match s.acc with
  | .RW => d.fs s.fld (s.fld.of w) n
  | .W1S => d.fs s.fld (Nat.lor (d.fg s.fld n) (s.fld.of w)) n
  | .WO => if staged b then d.fs s.fld (s.fld.of w) n else d
  | .W1C =>
    let new := (d0.w1cBits b n w s).foldl clrBit (d.fg s.fld n)
    if new = d.fg s.fld n then d else (d.fs s.fld new n).clearedReg b n s.fld.lo
  | _ => d

/-- Some field is given an encoding it does not admit (R8). -/
def badEncoding (r : Reg) (w : Nat) : Bool :=
  r.flds.any fun s => (s.acc == .RW || s.acc == .WO) && !s.legal.ok (s.fld.of w)

/-- The write is refused for want of authority: a sealed register of Tallyman (R240). -/
def authReg (d : Dev) (b n w : Nat) : Bool := b / 65536 == 0x2008 && d.authTAL b n w

/-- The bits of a written word that belong to fields which a write can reach; the others are ignored (R6, R7). -/
def reached (r : Reg) (w : Nat) : Nat :=
  r.flds.foldl (fun m s => match s.acc with
    | .RO | .RC => m
    | _ => m + s.fld.of w * 2 ^ s.fld.lo) 0

/-- Write a word to register `n` of an array (R6, R7, R8): authority, encodings and state are checked in this order and
refuse the whole write; a W1C bit that a rule holds refuses itself alone. -/
def writeReg (d : Dev) (r : Reg) (n word : Nat) : St × Dev :=
  let b := r.base
  let w := reached r word
  if d.authReg b n w then (.auth, d)
  else if badEncoding r w || d.rangeReg b n w then (.range, d)
  else if d.stateReg b n w || (d.lockedReg b n && d.rwChanges r n w) then (.state, if b / 65536 = 0x2004 then d.refusedFxTRP b w else d)
  else
    let held := r.flds.any (d.w1cHeld b n w)
    let e := r.flds.foldl (d.storeFld b n w) d
    let e := if held && b == 0x20010004 then e.refusedFxCLK else e
    (if held then .state else .ok, e.afterReg d b n w)

/-! ### Two-word quantities (R12, R13) -/

/-- Holding register of a block on a path. -/
def holdIx (acc : Acc) (a : Nat) : Nat := 2 * blockNum a + (match acc with | .mm => 0 | .ce => 1)

/-- The holding register an access uses. -/
def holdOf (d : Dev) (acc : Acc) (a : Nat) : Hold := vget d.hst.hold (holdIx acc a)

/-- Change it. -/
def setHold (d : Dev) (acc : Acc) (a : Nat) (h : Hold) : Dev :=
  { d with hst := { d.hst with hold := vset d.hst.hold (holdIx acc a) h } }

/-- Bases of the `_LO` words that can be read; each `_HI` word stands 4 above. -/
def readPairs : List Nat :=
  [0x20010200, 0x20010344, 0x2001034C, 0x2003010C, 0x20030540, 0x20080400, 0x200B0108, 0x200D0010, 0x200D0028]

/-- Bases of the `_LO` words that can be written. -/
def writePairs : List Nat := [0x20010308, 0x200B0108, 0x200D0018]

/-- Sequence number of the quantity whose `_LO` word is register `n` of base `b`: hardware updates modulo 256 (R12). -/
def pairSeq (d : Dev) (b n : Nat) : Nat :=
  (match b with
  | 0x20010200 => d.clk.tbAdv
  | 0x20010344 | 0x2001034C => d.fg CLK_SNAP_CTRL_SEQ
  | 0x2003010C => d.fg SNS_CF_n_HI_SEQ n
  | 0x20030540 => d.fg SNS_MTR_n_HI_SEQ n
  | 0x20080400 => d.tal.sets
  | 0x200D0010 => d.aon.rtcSeq
  | 0x200D0028 => d.aon.stopSeq
  | _ => 0) % 256

/-- The value a written pair commits: the held `_LO`, else the current one, 0 for a write-only pair (R13). -/
def pairLo (d : Dev) (acc : Acc) (b lo : Nat) : Nat :=
  match (d.holdOf acc lo).wlo.find? fun h => h.1 == lo with
  | some h => h.2
  | none => if b = 0x200B0108 then d.word lo else 0

/-- A `_HI` write uses up the `_LO` held on its path. -/
def dropLo (d : Dev) (acc : Acc) (lo : Nat) : Dev :=
  let h := d.holdOf acc lo
  d.setHold acc lo { h with wlo := h.wlo.filter fun x => x.1 != lo }

/-- Hold a `_LO` word. -/
def holdLo (d : Dev) (acc : Acc) (lo w : Nat) : Dev :=
  let h := d.holdOf acc lo
  d.setHold acc lo { h with wlo := (lo, w) :: h.wlo.filter fun x => x.1 != lo }

/-- Both words of a pair take effect in one instant (R13): the PTP step (R64), the real-time clock (R349), a port's MAC
address. -/
def commitPair (d : Dev) (b n lo hi : Nat) : Dev :=
  if b = 0x20010308 then d.ptpStep (sval 64 (lo + 2 ^ 32 * hi))
  else if b = 0x200D0018 then d.rtcCommit (lo + 2 ^ 32 * hi)
  else (d.fs NET_PORT_x_MAC_LO_MAC lo n).fs NET_PORT_x_MAC_HI_MAC (NET_PORT_x_MAC_HI_MAC.of hi) n

/-! ### The accesses -/

/-- The address is one of the unlock registers of `SAF` (R10, R271). -/
def unlockAddr (a : Nat) : Bool := decide (0x20090400 ≤ a) && decide (a < 0x20090464)

/-- The address lies in `AON`, and Nightwatch does not answer (R20, R347). -/
def aonDead (d : Dev) (a : Nat) : Bool := a / 65536 == 0x200D && !d.aon.alive

/-- Write a word to register space on a path (R6 to R13): the status a register command gets, and the effect. Where
Nightwatch does not answer the access does not complete. -/
def regWrite (d : Dev) (acc : Acc) (a w : Nat) : St × Dev :=
  if a % 4 ≠ 0 then (.ok, d)
  else if d.aonDead a then (.timeout, d)
  else if a / 65536 = 0x2009 ∧ unlockAddr a = false then (.auth, d)
  else
    match findReg a with
    | none => (.ok, d)
    | some (r, n) =>
      if writePairs.contains r.base then (.ok, d.holdLo acc a w)
      else if writePairs.contains (r.base - 4) then
        (.ok, (d.commitPair (r.base - 4) n (d.pairLo acc (r.base - 4) (a - 4)) w).dropLo acc (a - 4))
      else d.writeReg r n w

/-- What a read does besides returning the word: a `_LO` read fills the holding register (R12), an RC field clears (R6), a
capture or a program event code counts as read (R67, R145). -/
def readFx (d : Dev) (acc : Acc) (a : Nat) (r : Reg) (n : Nat) : Dev :=
  let d := if readPairs.contains r.base then
      d.setHold acc a { d.holdOf acc a with lo := a, hi := d.word (a + 4), seq := d.pairSeq r.base n }
    else d
  let d := r.flds.foldl (fun d s => if s.acc = .RC then d.fs s.fld 0 n else d) d
  if r.base = 0x20010354 then { d with clk := { d.clk with snapUnread := false } }
  else if r.base = 0x2005000C then { d with cen := { d.cen with evUnread := false } }
  else d

/-- The word a read on a path returns (R7, R12). -/
def readWord (d : Dev) (acc : Acc) (a : Nat) : Nat :=
  if a % 4 ≠ 0 ∨ d.aonDead a = true then 0
  else
    match findReg a with
    | none => 0
    | some (r, n) =>
      let h := d.holdOf acc a
      if a % 65536 = 0xFFFC then h.seq
      else if readPairs.contains (r.base - 4) && h.lo == a - 4 then h.hi
      else d.wordOf r n

/-- Read a word of register space on a path: the word, and the effect. -/
def regRead (d : Dev) (acc : Acc) (a : Nat) : Nat × Dev :=
  let v := d.readWord acc a
  let d := { d with hst := { d.hst with lastRead := v } }
  if a % 4 ≠ 0 ∨ d.aonDead a = true then (v, d)
  else
    match findReg a with
    | none => (v, d)
    | some (r, n) => (v, d.readFx acc a r n)

end Dev
end Sys2Proof.Machine
end

