-- ==== Sys2Proof/Machine/HostPort.lean ====
section
/-! DEFINITION. The host port and the system commands (R279 to R293), memory-mapped access (R9, R21, R30 to R32). -/
namespace Sys2Proof.Machine
namespace Dev

/-! ### The Cooper region (R139, R140) -/

/-- The address lies in the Cooper region. -/
def inCoop (a : Nat) : Bool := decide (0x10000000 ≤ a) && decide (a < 0x10100000)

/-- Memory and word number of an address of the Cooper region. -/
def coopAt (a : Nat) : Option (Nat × Nat) :=
  if 0x10000000 ≤ a ∧ a < 0x10010000 then some (0, (a - 0x10000000) / 4)
  else if 0x10020000 ≤ a ∧ a < 0x10028000 then some (1, (a - 0x10020000) / 4)
  else if 0x10040000 ≤ a ∧ a < 0x10060000 then some (2, (a - 0x10040000) / 4)
  else none

/-- A word of Scrivener's on-chip buffers; 0 at reserved addresses. -/
def traceWord (d : Dev) (a : Nat) : Nat :=
  if 0x10080000 ≤ a ∧ a < 0x10100000 then
    let o := a - 0x10080000
    (spGet (o % 0x20000 / 8) 0 (vget d.cen.trc (o / 0x20000)).buf).toNat / 2 ^ (8 * (o % 8)) % 2 ^ 32
  else 0

/-- Read an aligned word of the Cooper region: the word, whether it could not be corrected, the effect (R163). -/
def coopWordRead (d : Dev) (a : Nat) : Nat × Bool × Dev :=
  match coopAt a with
  | some (r, w) => ((d.coopRaw r w).toNat, d.coopBad r w, (d.coopHostRead r w).2)
  | none => (d.traceWord a, false, d)

/-- Write an aligned word of the Cooper region; elsewhere than in its memories it is ignored. -/
def coopWordWrite (d : Dev) (a w : Nat) : Dev :=
  match coopAt a with
  | some (r, i) => d.coopPut r i (BitVec.ofNat 32 w)
  | none => d

/-! ### Memory-mapped access -/

/-- One byte of a memory region as the host port reads it: the boot ROM and unmapped addresses read 0 (R9, R31). -/
def hostByte (d : Dev) (a : Nat) : Byte :=
  if 0x08000000 ≤ a ∧ a < 0x08080000 then d.rdM8 (a - 0x08000000) else d.rd8 a

/-- `n` bytes of memory regions. -/
def hostBytes (d : Dev) (a : Nat) : Nat → List Byte
  | 0 => []
  | n + 1 => d.hostByte a :: hostBytes d (a + 1) n

/-- Read words of the Cooper region while the host clocks them. -/
def coopStream (d : Dev) (a : Nat) : Nat → List Byte × Dev
  | 0 => ([], d)
  | n + 1 =>
    let x := if inCoop a then d.coopWordRead a else (0, false, d)
    let t := coopStream x.2.2 (a + 4) n
    (leBytes 4 x.1 ++ t.1, t.2)

/-- Write words of register space or of the Cooper region in ascending order; bytes short of a word are ignored (R9). -/
def hostWords (d : Dev) (a : Nat) : Nat → List Byte → Dev
  | 0, _ => d
  | n + 1, l =>
    let w := leAt l 0 4
    let d := if inRegs a then (d.regWrite .mm a w).2 else if inCoop a then d.coopWordWrite a w else d
    hostWords d (a + 4) n (l.drop 4)

/-- A memory-mapped write of bytes (R9, R31, R32). -/
def hostPut (d : Dev) (a : Nat) (l : List Byte) : Dev :=
  if inRegs a || inCoop a then (if a % 4 = 0 then d.hostWords a (l.length / 4) l else d) else d.wrN a l

/-! ### Transactions (R280 to R283) -/

/-- Data bytes in the posted-write buffer. -/
def postedBytes (d : Dev) : Nat := (d.hst.posted.map fun x => x.2.length).sum

/-- Bytes in the command buffer. -/
def cmdBytes (d : Dev) : Nat := (d.hst.outst.map fun c => c.payload.length + 16).sum

/-- The status byte (R280). -/
def statusByte (d : Dev) : Nat :=
  b2n d.hst.posted.isEmpty + 2 * b2n (decide (d.postedBytes ≤ 256)) + 4 * b2n (decide (d.cmdBytes + 16400 ≤ 65536)) +
  8 * b2n (!d.hst.replies.isEmpty) + 16 * b2n d.hirq +
  32 * b2n (d.fb HST_STAT_RD_TMO || d.fb HST_STAT_WR_OVF || d.fb HST_STAT_BAD_INSTR || d.fb HST_STAT_FRAME_ERR) + 128

/-- The bytes the device drives. -/
def drive (d : Dev) (l : List Byte) : Dev := { d with hst := { d.hst with drove := l } }

end Dev

/-- `WRITE` (R282). -/
def hostWriteDev (a : Nat) (data : List Byte) (d : Dev) : Dev :=
  if 512 < d.postedBytes + data.length then ((d.fs HST_STAT_WR_OVF 1).fs HST_IRQ_WOVF 1).raise 101
  else { d with hst := { d.hst with posted := d.hst.posted ++ [(a, data)] } }

def execHostWrite (addr : W32) (data : List Byte) (s : State) : Host.Outcome State Fault Refusal :=
  s.run (hostWriteDev addr.toNat data)

/-- The oldest posted write is performed (R282). -/
def postedPerformDev (d : Dev) : Dev :=
  match d.hst.posted with
  | [] => d
  | x :: t => ({ d with hst := { d.hst with posted := t } } : Dev).hostPut x.1 x.2

def execPostedWritePerform (s : State) : Host.Outcome State Fault Refusal := s.runAll postedPerformDev

/-- The read data is not ready within 20 µs (R281). -/
def readTimeoutDev (d : Dev) : Dev := (d.fs HST_STAT_RD_TMO 1).drive (leBytes 1 0xE1)

/-- `READ` (R281): the start byte and the bytes the host clocks. Register space delivers one word, accessed once. -/
def hostReadDev (a len : Nat) (d : Dev) : Dev :=
  if inRegs a then
    if d.aonDead a then readTimeoutDev d
    else
      let r := d.regRead .mm a
      r.2.drive (leBytes 1 0x5A ++ (leBytes 4 r.1 ++ List.replicate (len - 4) 0).take len)
  else if Dev.inCoop a then
    if a % 4 ≠ 0 then d.drive (leBytes 1 0x5A ++ List.replicate len 0)
    else
      let r := d.coopStream a ((len + 3) / 4)
      r.2.drive (leBytes 1 0x5A ++ r.1.take len)
  else d.drive (leBytes 1 0x5A ++ d.hostBytes a len)

def execHostRead (addr : W32) (len : Nat) (s : State) : Host.Outcome State Fault Refusal := s.run (hostReadDev addr.toNat len)

def execHostReadTimeout (_addr : W32) (s : State) : Host.Outcome State Fault Refusal := s.run readTimeoutDev

/-- `STATUS` (R280). -/
def execHostStatus (s : State) : Host.Outcome State Fault Refusal := s.run fun d => d.drive (leBytes 1 d.statusByte)

/-- `CMD` (R280). -/
def execHostCmd (pkt : List Byte) (s : State) : Host.Outcome State Fault Refusal := s.run fun d => d.acceptCmd .host pkt

/-- `REPLY` (R280): the length and the oldest waiting packet, which leaves. -/
def hostReplyDev (d : Dev) : Dev :=
  match d.hst.replies with
  | [] => d.drive (leBytes 2 0)
  | p :: t => (({ d with hst := { d.hst with replies := t } } : Dev).fs HST_IRQ_REPLY (b2n !t.isEmpty)).drive (leBytes 2 p.length ++ p)

def execHostReply (s : State) : Host.Outcome State Fault Refusal := s.run hostReplyDev

/-- Any other instruction byte (R280). -/
def badInstrDev (b : Nat) (d : Dev) : Dev := if [0x02, 0x0B, 0x05, 0x10, 0x11].contains b then d else d.fs HST_STAT_BAD_INSTR 1

def execHostBadInstruction (b : Byte) (s : State) : Host.Outcome State Fault Refusal := s.run (badInstrDev b.toNat)

/-! ### The life of a command (R288, R292) -/

def execCommandStart (p : Path) (tag : Byte) (s : State) : Host.Outcome State Fault Refusal := s.run fun d => d.startCmd p tag.toNat

/-- A reply leaves; a reset that `SYS_RESET` asked for follows it (R382). -/
def replyReleaseDev (p : Path) (tag : Nat) (d : Dev) : Dev :=
  (d.releaseReply p tag).resetFollows p tag

def execReplyRelease (p : Path) (tag : Byte) (s : State) : Host.Outcome State Fault Refusal := s.runAll (replyReleaseDev p tag.toNat)

/-- An access has not completed 1 ms after it was issued (R292): it is not performed, and its command ends. -/
def accessTimeoutDev (p : Path) (tag : Nat) (d : Dev) : Dev :=
  match d.findCmd p tag with
  | none => d
  | some c =>
    if c.started && c.done.isNone && (([3, 4, 5, 6, 8].contains c.op && !c.ran) || d.hst.slow.contains (p, tag)) then
      ({ d with hst := { d.hst with slow := d.hst.slow.filter fun x => x != (p, tag) } } : Dev).complete p tag .timeout []
    else d

def execAccessTimeout (p : Path) (tag : Byte) (s : State) : Host.Outcome State Fault Refusal := s.run (accessTimeoutDev p tag.toNat)

/-! ### System commands (R289 to R292) -/

/-- `SYS_NOP`. -/
def sysNopCmd (c : Cmd) (d : Dev) : Res × Dev :=
  if 256 < c.payload.length then (.st .range, d) else (.reply .ok c.payload, d)

def execSysNop (p : Path) (tag : Byte) (s : State) : Host.Outcome State Fault Refusal := s.run fun d => d.runCmd 0 p tag sysNopCmd

/-- `HELLO`: the highest version within the host's offer and 1 to 3 (R289). -/
def helloCmd (c : Cmd) (d : Dev) : Res × Dev :=
  let hi := min (byteAt c.payload 0) 3
  let lo := max (byteAt c.payload 1) 1
  if c.payload.length ≠ 2 then (.st .range, d)
  else if hi < lo then (.st .version, d)
  else
    let d := d.setPathVer c.path hi
    (.reply .ok (leBytes 2 hi ++ leBytes 2 16384 ++ d.words [0x20000000, 0x200A0008]), d)

def execHello (p : Path) (tag : Byte) (s : State) : Host.Outcome State Fault Refusal := s.run fun d => d.runCmd 1 p tag helloCmd

def execSysCaps (p : Path) (tag : Byte) (s : State) : Host.Outcome State Fault Refusal :=
  s.run fun d => d.runCmd 2 p tag (capsCmd [0x20000000, 0x200A0008])

namespace Dev

/-- `n` words from `a` are aligned and lie in register space or in the Cooper region (R291). -/
def regSpan (a n : Nat) : Bool :=
  a % 4 == 0 && ((decide (0x20000000 ≤ a) && decide (a + 4 * n ≤ 0x20130000)) ||
    (decide (0x10000000 ≤ a) && decide (a + 4 * n ≤ 0x10100000)))

/-- Read a word for a register command. -/
def cmdRead (d : Dev) (a : Nat) : St × Nat × Dev :=
  if inCoop a then
    let r := d.coopWordRead a
    (if r.2.1 then .fault else .ok, r.1, r.2.2)
  else if d.aonDead a then (.timeout, 0, d)
  else
    let r := d.regRead .ce a
    (.ok, r.1, r.2)

/-- Write a word for a register command. -/
def cmdWrite (d : Dev) (a w : Nat) : St × Dev := if inCoop a then (.ok, d.coopWordWrite a w) else d.regWrite .ce a w

/-- Read words in ascending order, each once, to the first that fails. -/
def cmdReadN (d : Dev) (a : Nat) : Nat → St × List Byte × Dev
  | 0 => (.ok, [], d)
  | n + 1 =>
    match d.cmdRead a with
    | (.ok, v, d') =>
      let t := cmdReadN d' (a + 4) n
      (t.1, leBytes 4 v ++ t.2.1, t.2.2)
    | (st, _, d') => (st, [], d')

/-- Write words in ascending order, to the first that is refused: the status, the words written, the effect. -/
def cmdWriteN (d : Dev) (a : Nat) : Nat → List Byte → St × Nat × Dev
  | 0, _ => (.ok, 0, d)
  | n + 1, l =>
    match d.cmdWrite a (leAt l 0 4) with
    | (.ok, d') =>
      let t := cmdWriteN d' (a + 4) n (l.drop 4)
      (t.1, t.2.1 + 1, t.2.2)
    | (st, d') => (st, 0, d')

/-- `n` bytes from `a` lie in one memory region: 1 SRAM, 2 the ledger, 3 usable fitted DRAM; 0 elsewhere (R30, R31, R308). -/
def memKind (d : Dev) (a n : Nat) : Nat :=
  if 0x04000000 ≤ a ∧ a + n ≤ 0x04400000 then 1
  else if 0x08000000 ≤ a ∧ a + n ≤ 0x08080000 then 2
  else if 0x80000000 ≤ a ∧ a + n ≤ 0x80000000 + d.dramUsable then 3
  else 0

end Dev

/-- `REG_READ`. -/
def regReadCmd (c : Cmd) (d : Dev) : Res × Dev :=
  let a := leAt c.payload 0 4
  let n := leAt c.payload 4 2
  if c.payload.length ≠ 6 ∨ n = 0 ∨ 256 < n ∨ Dev.regSpan a n = false then (.st .range, d)
  else
    match d.cmdReadN a n with
    | (.ok, l, d') => (.reply .ok l, d')
    | (.timeout, _, d') => d'.accessSlow c
    | (st, _, d') => (.st st, d')

def execRegReadCmd (p : Path) (tag : Byte) (s : State) : Host.Outcome State Fault Refusal := s.run fun d => d.runCmd 3 p tag regReadCmd

/-- `REG_WRITE`: the count of words written goes with every status a word gives. -/
def regWriteCmd (c : Cmd) (d : Dev) : Res × Dev :=
  let a := leAt c.payload 0 4
  let n := (c.payload.length - 4) / 4
  if c.payload.length < 8 ∨ c.payload.length % 4 ≠ 0 ∨ 256 < n ∨ Dev.regSpan a n = false then (.st .range, d)
  else
    match d.cmdWriteN a n (c.payload.drop 4) with
    | (.timeout, _, d') => d'.accessSlow c
    | (st, k, d') => (.reply st (leBytes 2 k), d')

def execRegWriteCmd (p : Path) (tag : Byte) (s : State) : Host.Outcome State Fault Refusal := s.runAll fun d => d.runCmd 4 p tag regWriteCmd

/-- `MEM_READ`. -/
def memReadCmd (c : Cmd) (d : Dev) : Res × Dev :=
  let a := leAt c.payload 0 4
  let n := leAt c.payload 4 4
  let k := d.memKind a n
  if c.payload.length ≠ 8 ∨ n = 0 ∨ 32768 < n ∨ k = 0 then (.st .range, d)
  else if k = 3 ∧ d.fb DRC_STAT_READY = false then (.st .state, d)
  else if k = 3 ∧ d.ueIn a n then (.st .fault, d)
  else (.reply .ok (d.hostBytes a n), d)

def execMemReadCmd (p : Path) (tag : Byte) (s : State) : Host.Outcome State Fault Refusal := s.run fun d => d.runCmd 5 p tag memReadCmd

/-- A write to a memory region (R291, R307). -/
def Dev.memWrite (d : Dev) (a : Nat) (l : List Byte) : St × Dev :=
  match d.memKind a l.length with
  | 0 => (.range, d)
  | 2 => (.auth, d)
  | k => if k = 3 ∧ d.fb DRC_STAT_READY = false then (.state, d) else (.ok, d.wrN a l)

/-- `MEM_WRITE`: before boot is done only to SRAM (R386). -/
def memWriteCmd (c : Cmd) (d : Dev) : Res × Dev :=
  let a := leAt c.payload 0 4
  let l := c.payload.drop 4
  let k := d.memKind a l.length
  if l.length = 0 ∨ 16376 < l.length ∨ k = 0 then (.st .range, d)
  else if d.fg SYS_BOOT_STAT_STATE ≠ 4 ∧ k ≠ 1 then (.st .state, d)
  else
    let r := d.memWrite a l
    (.st r.1, r.2)

def execMemWriteCmd (p : Path) (tag : Byte) (s : State) : Host.Outcome State Fault Refusal := s.run fun d => d.runCmd 6 p tag memWriteCmd

/-- `HST_ABORT`. -/
def hstAbortCmd (c : Cmd) (d : Dev) : Res × Dev :=
  let t := byteAt c.payload 0
  if c.payload.length ≠ 1 then (.st .range, d)
  else
    match d.findCmd c.path t with
    | none => (.reply .ok (leBytes 1 2), d)
    | some x =>
      if x.started || x.done.isSome then (.reply .ok (leBytes 1 1), d)
      else (.reply .ok (leBytes 1 0), d.complete c.path t .aborted [])

def execHstAbort (p : Path) (tag : Byte) (s : State) : Host.Outcome State Fault Refusal := s.run fun d => d.runCmd 7 p tag hstAbortCmd

/-- `REG_MODIFY`: read, then write (read & ¬mask) | (value & mask) on the same port with no access in between. -/
def regModifyCmd (c : Cmd) (d : Dev) : Res × Dev :=
  let a := leAt c.payload 0 4
  let mask := leAt c.payload 4 4
  let value := leAt c.payload 8 4
  if c.payload.length ≠ 12 ∨ Dev.regSpan a 1 = false then (.st .range, d)
  else
    match d.cmdRead a with
    | (.ok, v, d') =>
      match d'.cmdWrite a (Nat.lor (v - Nat.land v mask) (Nat.land value mask)) with
      | (.ok, e) => (.reply .ok (leBytes 4 v), e)
      | (st, e) => (.st st, e)
    | (.timeout, _, d') => d'.accessSlow c
    | (st, _, d') => (.st st, d')

def execRegModify (p : Path) (tag : Byte) (s : State) : Host.Outcome State Fault Refusal := s.runAll fun d => d.runCmd 8 p tag regModifyCmd

end Sys2Proof.Machine
end

