-- ==== Sys2Proof/Machine/Boot.lean ====
section
/-! DEFINITION. Secure boot (R383 to R386): the attempts, the records, the host image. What hashes and signatures
give comes with the command. -/
namespace Sys2Proof.Machine
namespace Dev

/-- The magic of a header is correct. -/
def magicOk (h : List Byte) : Bool := leAt h 0 4 == 0x4F544C43

/-- The header's contents (R383). -/
def imageOf (h : List Byte) : Image :=
  { seq := leAt h 12 4, svn := leAt h 8 4, slot := byteAt h 20, metKey := (h.drop 88).take 64,
    safeKey := (h.drop 152).take 64, debug := (byteAt h 21).testBit 0 }

/-- The cause for which an image is refused in the first pass (R384), as `SYS_BOOT_STAT.FAIL`; 0 where it is not. A wrong version counts as
no valid magic (log entry 25). -/
def imageFault (d : Dev) (h : List Byte) (keyOk sigOk bodyOk : Bool) : Nat :=
  if !magicOk h || leAt h 4 4 != 1 then 3
  else if !keyOk || decide (3 < byteAt h 20) || d.sys.revoked.testBit (byteAt h 20) then 4
  else if !sigOk then 5
  else if leAt h 8 4 < d.fg SYS_BOOT_STAT_SVN_FUSED then 7
  else if !bodyOk || decide (8388608 < leAt h 16 4) || leAt h 16 4 % 4 != 0 then 6
  else 0

/-- An attempt at a source has failed: the next source, the host port, or none (R386). -/
def attemptFail (d : Dev) (srcs : List Nat) (code : Nat) : Dev :=
  let l := d.sys.sources.filter fun k => !srcs.contains k
  let st := if l.any (· < 2) then 1 else if l.contains 2 then 2 else 5
  (({ d with sys := { d.sys with sources := l, image := none, written := [], imgAt := 0, imgLen := 0 } } : Dev).fs SYS_BOOT_STAT_FAIL
    code).fs SYS_BOOT_STAT_STATE st |>.fs SYS_BOOT_STAT_SRC 0

/-- The first pass has succeeded: the records are applied; Cooper tests its lanes (R388). -/
def attemptPass (d : Dev) (src : Nat) (h : List Byte) : Dev :=
  let img := imageOf h
  (({ d with sys := { d.sys with image := some img, written := [] } } : Dev).fs SYS_BOOT_STAT_STATE 3).fs SYS_BOOT_STAT_SRC
    (src + 1) |>.testAsk

/-- The source whose image is being applied. -/
def bootSrc (d : Dev) : Nat := d.fg SYS_BOOT_STAT_SRC - 1

/-- Records are being applied. -/
def applying (d : Dev) : Bool := d.fg SYS_BOOT_STAT_STATE == 3 && d.sys.image.isSome

/-- `n` bytes from `a` share an address with `lo` to `hi`. -/
def meets (a n lo hi : Nat) : Bool := decide (a < hi) && decide (lo < a + n)

/-- A record may not address `SAF`, `NET_KEY_*`, the ledger, the top 256 KiB of SRAM, or the image itself (R385). -/
def recordBarred (d : Dev) (a n : Nat) : Bool :=
  meets a n 0x20090000 0x200A0000 || meets a n 0x200B0500 0x200B0540 || meets a n 0x08000000 0x08080000 ||
  meets a n 0x043C0000 0x04400000 || (d.sys.imgLen != 0 && meets a n d.sys.imgAt (d.sys.imgAt + d.sys.imgLen))

/-- Words as bytes. -/
def wordBytes (l : List W32) : List Byte := l.flatMap fun w => leBytes 4 w.toNat

/-- The registers of block `k` that its reset state does not give: reset and boot state, supplies, host status, `AON`. -/
def bootKept (k off : Nat) : Bool :=
  match k with
  | 0x2000 => off == 0x10 || off == 0x20 || off == 0x60 || off == 0x64
  | 0x200A => off == 0x04 || off == 0x10
  | 0x200D => true
  | _ => false

/-- Block `k` returns to its reset state (R384). The timebase runs on. -/
def blockReset (d : Dev) (k : Nat) : Dev :=
  let regs := d.regs.filter fun c => c.1 / 32 / 65536 != k || bootKept k (c.1 / 32 % 65536)
  let d := { d with regs := regs }
  match k with
  | 0x2001 => ({ d with clk := { refPresent := d.clk.refPresent, ticks := d.clk.ticks, tbAdv := d.clk.tbAdv } } : Dev).fs
      CLK_REF_STAT_XT_CHECK_OFF (1 - d.fg AON_STAT_XT_OK)
  | 0x2002 => { d with pwm := {} }
  | 0x2003 => { d with sns := {} }
  | 0x2004 => { d with trp := {} }
  | 0x2005 => { d with cen := { imem := d.cen.imem, cmem := d.cen.cmem, smem := d.cen.smem, lostAt := d.cen.lostAt, ue := d.cen.ue, ce := d.cen.ce } }
  | 0x2006 => ({ d with grd := {} } : Dev).safEval
  | 0x2007 => { d with wgh := {} }
  | 0x2008 => ({ d with tal := {} } : Dev).talLoad
  | 0x200B => { d with net := {} }
  | 0x200C => { d with lmp := {} }
  | 0x200E => { d with aux := {} }
  | 0x200F => { d with evt := { held := d.evt.held } }
  | 0x2010 => { d with thm := {} }
  | 0x2011 => { d with nql := {} }
  | 0x2012 => d.dramOff
  | _ => d

end Dev

/-- 100 ms without `REF_OK`: the attempt fails (R386). -/
def bootRefTimeoutDev (d : Dev) : Dev :=
  match d.sys.sources with
  | k :: _ => if d.fg SYS_BOOT_STAT_STATE ≤ 1 ∧ k < 2 ∧ d.fb CLK_REF_STAT_REF_OK = false then d.attemptFail [k] 2 else d
  | [] => d

def execBootRefTimeout (s : State) : Host.Outcome State Fault Refusal := s.runAll bootRefTimeoutDev

/-- The slots left to try whose header has the magic, the higher image sequence first; slot A first where they are equal. -/
def Dev.slotOrder (d : Dev) (a b : List Byte) : List Nat :=
  let l := d.sys.sources.filter fun k => k < 2 && Dev.magicOk (if k = 0 then a else b)
  if l = [0, 1] ∧ leAt a 12 4 < leAt b 12 4 then [1, 0] else l

/-- An attempt at a flash slot (R384, R386): header and first pass. -/
def bootSlotDev (a b : List Byte) (keyOk sigOk bodyOk : Bool) (d : Dev) : Dev :=
  if 1 < d.fg SYS_BOOT_STAT_STATE ∨ d.fb CLK_REF_STAT_REF_OK = false ∨ d.sys.sources.any (· < 2) = false then d
  else
    match d.slotOrder a b with
    | [] => d.attemptFail [0, 1] 3
    | k :: _ =>
      let h := if k = 0 then a else b
      let f := d.imageFault h keyOk sigOk bodyOk
      if f = 0 then d.attemptPass k h else d.attemptFail [k] f

def execBootSlotAttempt (hdrA hdrB : List Byte) (keyOk sigOk bodyOk : Bool) (s : State) : Host.Outcome State Fault Refusal :=
  s.run (bootSlotDev hdrA hdrB keyOk sigOk bodyOk)

/-- `BOOT_IMAGE` (R386, R396). -/
def bootImageCmd (keyOk sigOk bodyOk : Bool) (c : Cmd) (d : Dev) : Res × Dev :=
  let a := leAt c.payload 0 4
  if c.payload.length ≠ 4 ∨ a % 4 ≠ 0 ∨ a < 0x04000000 ∨ 0x043C0000 < a + 320 then (.st .range, d)
  else if d.fg SYS_BOOT_STAT_STATE ≠ 2 then (.st .state, d)
  else
    let h := d.rdN a 320
    let f := d.imageFault h keyOk sigOk (bodyOk && decide (a + 320 + leAt h 16 4 ≤ 0x043C0000))
    if f = 0 then
      (.st .ok, { d.attemptPass 2 h with sys := { (d.attemptPass 2 h).sys with imgAt := a, imgLen := 320 + leAt h 16 4 } })
    else (.st (if f = 3 ∨ f = 6 then .range else .auth), d.attemptFail [2] f)

def execBootImage (p : Path) (tag : Byte) (keyOk sigOk bodyOk : Bool) (s : State) : Host.Outcome State Fault Refusal :=
  s.run fun d => d.runCmd 0x042 p tag (bootImageCmd keyOk sigOk bodyOk)

/-- A record of kind 0x00 (R385). -/
def bootWriteDev (a : Nat) (l : List W32) (d : Dev) : Dev :=
  if d.applying = false ∨ l = [] ∨ 16384 < l.length then d
  else if d.recordBarred a (4 * l.length) then d.attemptFail [d.bootSrc] 8
  else
    let r := if inRegs a || Dev.inCoop a then
        (if Dev.regSpan a l.length then ((d.cmdWriteN a l.length (Dev.wordBytes l)).1, (d.cmdWriteN a l.length (Dev.wordBytes l)).2.2)
         else (.range, d))
      else d.memWrite a (Dev.wordBytes l)
    let k := a / 65536
    let e := r.2
    let e := { e with sys := { e.sys with written := if e.sys.written.contains k then e.sys.written else e.sys.written ++ [k] } }
    if r.1 = .ok then e else e.attemptFail [d.bootSrc] 8

def execBootRecordWrite (addr : W32) (words : List W32) (s : State) : Host.Outcome State Fault Refusal :=
  s.runAll (bootWriteDev addr.toNat words)

/-- A record of kind 0x02 ends (R385): the register matches, or the wait has timed out. -/
def bootWaitDev (a mask value : Nat) (d : Dev) : Dev :=
  if !d.applying then d
  else if d.recordBarred a 4 || !Dev.regSpan a 1 then d.attemptFail [d.bootSrc] 8
  else
    let r := d.cmdRead a
    if r.1 = .ok ∧ Nat.land r.2.1 mask = value then r.2.2 else r.2.2.attemptFail [d.bootSrc] 8

def execBootRecordWait (addr mask value : W32) (s : State) : Host.Outcome State Fault Refusal :=
  s.runAll (bootWaitDev addr.toNat mask.toNat value.toNat)

/-- The end record (R384, R385): boot is done and the ROM's part of SRAM is open (R26), or the passes disagree and every block written returns to its reset state. -/
def bootEndDev (hashOk : Bool) (d : Dev) : Dev :=
  match d.sys.image with
  | none => d
  | some img =>
    if !d.applying then d
    else if hashOk then
      let d := { d with sys := { d.sys with running := img, image := none, written := [], imgAt := 0, imgLen := 0 } }
      let d := d.lose 0x043C0000 0x04400000
      ((d.fs SYS_BOOT_STAT_STATE 4).fs SYS_BOOT_STAT_KEY_SLOT img.slot).fs SYS_BOOT_STAT_DEBUG (b2n img.debug)
    else (d.sys.written.foldl Dev.blockReset d).attemptFail [d.bootSrc] 9

def execBootRecordEnd (hashOk : Bool) (s : State) : Host.Outcome State Fault Refusal := s.runAll (bootEndDev hashOk)

end Sys2Proof.Machine
end

