-- ==== Sys2Proof/Machine/RegRows.lean ====
section
/-! DEFINITION. The rows that are an access to one register: each is the access (R6, R8) with the register it names, and acts
where the written word, or the register, is of the kind the row describes. -/
namespace Sys2Proof.Machine

/-- The written word sets an enable that is 0, or clears one that is 1. -/
def rises (F : Fld) (n w : Nat) (d : Dev) : Bool := F.of w == 1 && !d.fb F n
def falls (F : Fld) (n w : Nat) (d : Dev) : Bool := F.of w == 0 && d.fb F n

/-- Address of the register that holds field `F` of index `n`. -/
def Fld.at (F : Fld) (n : Nat := 0) : Nat := F.base + F.stride * n

/-- A write of the word `w` to the register at `a`, where `p` holds. -/
def wrIf (p : Dev → Bool) (acc : Acc) (a w : Nat) (d : Dev) : Dev := if p d then (d.regWrite acc a w).2 else d

/-- A read of the register at `a`, where `p` holds. -/
def rdIf (p : Dev → Bool) (acc : Acc) (a : Nat) (d : Dev) : Dev := if p d then (d.regRead acc a).2 else d

/-- The row's condition is in the written word alone. -/
def always (_ : Dev) : Bool := true

/-- The register at an address satisfies `p`. -/
def regIs (a : Nat) (p : Reg → Bool) : Bool :=
  match findReg a with
  | some (r, _) => p r
  | none => false

/-! ### Any register -/

/-- A register write (R6, R8): the whole rule, with what the register does. -/
def execRegisterWrite (a : Acc) (addr val : W32) (s : State) : Host.Outcome State Fault Refusal :=
  s.runAll (wrIf always a addr.toNat val.toNat)

/-- A `_LO` read (R12). -/
def execLoReadSnapshot (a : Acc) (addr : W32) (s : State) : Host.Outcome State Fault Refusal :=
  s.run (rdIf (fun _ => regIs addr.toNat fun r => Dev.readPairs.contains r.base) a addr.toNat)

/-- A `_LO` write (R13). -/
def execLoWriteHold (a : Acc) (addr val : W32) (s : State) : Host.Outcome State Fault Refusal :=
  s.run (wrIf (fun _ => regIs addr.toNat fun r => Dev.writePairs.contains r.base) a addr.toNat val.toNat)

/-- A `_HI` write (R13). -/
def execHiWriteCommit (a : Acc) (addr val : W32) (s : State) : Host.Outcome State Fault Refusal :=
  s.runTal (wrIf (fun _ => regIs addr.toNat fun r => Dev.writePairs.contains (r.base - 4)) a addr.toNat val.toNat)

/-- A read of a register with an RC field (R6). -/
def execRcFieldRead (a : Acc) (addr : W32) (s : State) : Host.Outcome State Fault Refusal :=
  s.run (rdIf (fun _ => regIs addr.toNat fun r => r.flds.any (·.acc == .RC)) a addr.toNat)

/-- An access through the Nightwatch bridge completes (R20). -/
def execAonBridgeAccess (a : Acc) (write : Bool) (addr val : W32) (s : State) : Host.Outcome State Fault Refusal :=
  s.run (if write then wrIf (fun _ => addr.toNat / 65536 == 0x200D) a addr.toNat val.toNat else rdIf (fun _ => addr.toNat / 65536 == 0x200D) a addr.toNat)

/-- A write of 1 to a W1C field (R6, R395). -/
def execW1cClear (a : Acc) (addr val : W32) (s : State) : Host.Outcome State Fault Refusal :=
  s.runAll (wrIf (fun _ => regIs addr.toNat fun r => r.flds.any fun f => f.acc == .W1C && f.fld.of val.toNat != 0) a addr.toNat val.toNat)

/-! ### Clocks and time -/

/-- `CLK_PLL_CTRL.EN` is set (R53). -/
def execPllEnable (a : Acc) (val : W32) (s : State) : Host.Outcome State Fault Refusal :=
  s.run (wrIf (rises CLK_PLL_CTRL_EN 0 val.toNat) a (CLK_PLL_CTRL_EN.at 0) val.toNat)

/-- `CLK_PLL_CTRL.EN` is cleared (R60). -/
def execPllDisable (a : Acc) (val : W32) (s : State) : Host.Outcome State Fault Refusal :=
  s.run (wrIf (falls CLK_PLL_CTRL_EN 0 val.toNat) a (CLK_PLL_CTRL_EN.at 0) val.toNat)

/-- A write of 1 to `PWM_HOLD` (R59). -/
def execPwmHoldRelease (a : Acc) (val : W32) (s : State) : Host.Outcome State Fault Refusal :=
  s.run (wrIf (fun _ => CLK_PLL_STAT_PWM_HOLD.of val.toNat == 1) a (CLK_PLL_STAT_PWM_HOLD.at 0) val.toNat)

/-- A write of `CLK_PTP_OFS_HI` (R64). -/
def execPtpStep (a : Acc) (val : W32) (s : State) : Host.Outcome State Fault Refusal :=
  s.runTal (wrIf always a (CLK_PTP_OFS_HI_OFS.at 0) val.toNat)

/-- A write of 1 to `CLK_SNAP_CTRL.SW` (R67). -/
def execSnapSwCapture (a : Acc) (val : W32) (s : State) : Host.Outcome State Fault Refusal :=
  s.run (wrIf (fun _ => CLK_SNAP_CTRL_SW.of val.toNat == 1) a (CLK_SNAP_CTRL_SW.at 0) val.toNat)

/-- A read of `CLK_SNAP_NS` (R67). -/
def execSnapNsRead (a : Acc) (s : State) : Host.Outcome State Fault Refusal :=
  s.run (rdIf always a (CLK_SNAP_NS_NS.at 0))

/-! ### Sensing -/

/-- `SNS_SDCK_k.EN` is set (R69). -/
def execSdckStart (a : Acc) (k : Fin 4) (val : W32) (s : State) : Host.Outcome State Fault Refusal :=
  s.run (wrIf (rises SNS_SDCK_k_EN k.val val.toNat) a (SNS_SDCK_k_EN.at k.val) val.toNat)

/-- `SNS_SDCK_k.EN` is cleared (R69). -/
def execSdckStop (a : Acc) (k : Fin 4) (val : W32) (s : State) : Host.Outcome State Fault Refusal :=
  s.run (wrIf (falls SNS_SDCK_k_EN k.val val.toNat) a (SNS_SDCK_k_EN.at k.val) val.toNat)

/-- `CF_EN` is set, or `CF_OSR` changes while it is (R75). -/
def execControlFilterRestart (a : Acc) (n : Fin 24) (val : W32) (s : State) : Host.Outcome State Fault Refusal :=
  s.run (wrIf (fun _ => SNS_SD_n_FILT_CF_EN.of val.toNat == 1) a (SNS_SD_n_FILT_CF_EN.at n.val) val.toNat)

/-- A write of 1 to `SNS_MTR_ROT.REQ` (R87). -/
def execMtrRotationRequest (a : Acc) (s : State) : Host.Outcome State Fault Refusal :=
  s.run (wrIf always a (SNS_MTR_ROT_REQ.at 0) (2 ^ SNS_MTR_ROT_REQ.lo))

/-- A write of 1 to `SNS_AUX_TEST.REQ` (R92). -/
def execAuxSelftestRequest (a : Acc) (s : State) : Host.Outcome State Fault Refusal :=
  s.run (wrIf always a (SNS_AUX_TEST_REQ.at 0) (2 ^ SNS_AUX_TEST_REQ.lo))

/-! ### PWM -/

/-- `RUN` of a carrier group is set (R96). -/
def execCarrierGroupRun (a : Acc) (g : Fin 8) (val : W32) (s : State) : Host.Outcome State Fault Refusal :=
  s.run (wrIf (rises PWM_CG_g_CFG_RUN g.val val.toNat) a (PWM_CG_g_CFG_RUN.at g.val) val.toNat)

/-- A write of `CMPA` or `CMPB` (R111). -/
def execShadowWrite (a : Acc) (n : Fin 24) (cmpB : Bool) (val : W32) (s : State) : Host.Outcome State Fault Refusal :=
  s.run (wrIf always a (if cmpB then PWM_LEG_n_CMPB_CMP.at n.val else PWM_LEG_n_CMPA_CMP.at n.val) val.toNat)

/-- A write of `PWM_SHLOCK` (R111). -/
def execShlockWrite (a : Acc) (val : W32) (s : State) : Host.Outcome State Fault Refusal :=
  s.run (wrIf always a (PWM_SHLOCK_LOCK.at 0) val.toNat)

/-- A leg's `EN` is set (R115). -/
def execLegStart (a : Acc) (n : Fin 24) (val : W32) (s : State) : Host.Outcome State Fault Refusal :=
  s.run (wrIf (rises PWM_LEG_n_CTRL_EN n.val val.toNat) a (PWM_LEG_n_CTRL_EN.at n.val) val.toNat)

/-- A leg's `EN` is cleared (R116). -/
def execLegStop (a : Acc) (n : Fin 24) (val : W32) (s : State) : Host.Outcome State Fault Refusal :=
  s.run (wrIf (falls PWM_LEG_n_CTRL_EN n.val val.toNat) a (PWM_LEG_n_CTRL_EN.at n.val) val.toNat)

/-- A write of `PWM_FORCE_g` (R117). -/
def execForceWrite (a : Acc) (g : Fin 8) (val : W32) (s : State) : Host.Outcome State Fault Refusal :=
  s.run (wrIf always a (PWM_FORCE_g_H_CODE.at g.val) val.toNat)

/-! ### Trips -/

/-- A write of `TRP_CLR` (R134). -/
def execTripClearWrite (a : Acc) (val : W32) (s : State) : Host.Outcome State Fault Refusal :=
  s.run (wrIf always a (TRP_CLR_LEGS.at 0) val.toNat)

/-- A write of `TRP_SWTRIP` (R131). -/
def execSoftwareTripWrite (a : Acc) (val : W32) (s : State) : Host.Outcome State Fault Refusal :=
  s.run (wrIf always a (TRP_SWTRIP_LEGS.at 0) val.toNat)

/-- A write of `TRP_CLS_k` (R132). -/
def execTripClassWrite (a : Acc) (k : Fin 8) (val : W32) (s : State) : Host.Outcome State Fault Refusal :=
  s.run (wrIf always a (TRP_CLS_k_LIMIT.at k.val) val.toNat)

/-! ### Cooper and Scrivener -/

/-- A slot's `EN` is set (R171). -/
def execSlotEnable (a : Acc) (sl : Fin 64) (val : W32) (s : State) : Host.Outcome State Fault Refusal :=
  s.run (wrIf (rises CEN_SLOT_s_CFG_EN sl.val val.toNat) a (CEN_SLOT_s_CFG_EN.at sl.val) val.toNat)

/-- A slot's `EN` is cleared (R151). -/
def execSlotDisable (a : Acc) (sl : Fin 64) (val : W32) (s : State) : Host.Outcome State Fault Refusal :=
  s.run (wrIf (falls CEN_SLOT_s_CFG_EN sl.val val.toNat) a (CEN_SLOT_s_CFG_EN.at sl.val) val.toNat)

/-- A write of 1 to `CEN_TEST.REQ` (R162). -/
def execCooperSelftestRequest (a : Acc) (s : State) : Host.Outcome State Fault Refusal :=
  s.run (wrIf always a (CEN_TEST_REQ.at 0) (2 ^ CEN_TEST_REQ.lo))

/-- A read of `CEN_EVCODE` (R145). -/
def execEvcodeRead (a : Acc) (s : State) : Host.Outcome State Fault Refusal :=
  s.run (rdIf always a (CEN_EVCODE_CODE.at 0))

/-- `CEN_TRC_CTRL.ARM` is set (R166). -/
def execScrivenerArm (a : Acc) (val : W32) (s : State) : Host.Outcome State Fault Refusal :=
  s.run (wrIf (rises CEN_TRC_CTRL_ARM 0 val.toNat) a (CEN_TRC_CTRL_ARM.at 0) val.toNat)

/-- `CEN_TRC_CTRL.ARM` is cleared (R166). -/
def execScrivenerDisarm (a : Acc) (val : W32) (s : State) : Host.Outcome State Fault Refusal :=
  s.run (wrIf (falls CEN_TRC_CTRL_ARM 0 val.toNat) a (CEN_TRC_CTRL_ARM.at 0) val.toNat)

/-- A write of 1 to `CEN_TRC_CTRL.SWTRIG` (R166). -/
def execScrivenerSwtrig (a : Acc) (val : W32) (s : State) : Host.Outcome State Fault Refusal :=
  s.run (wrIf (fun _ => CEN_TRC_CTRL_SWTRIG.of val.toNat == 1) a (CEN_TRC_CTRL_SWTRIG.at 0) val.toNat)

/-! ### Grid, Weighmaster, Tallyman -/

/-- `GRD_CTRL.EN` is set (R178). -/
def execGridEnable (a : Acc) (val : W32) (s : State) : Host.Outcome State Fault Refusal :=
  s.runSaf (wrIf (rises GRD_CTRL_EN 0 val.toNat) a (GRD_CTRL_EN.at 0) val.toNat)

/-- `GRD_CTRL.EN` is cleared (R199). -/
def execGridDisable (a : Acc) (val : W32) (s : State) : Host.Outcome State Fault Refusal :=
  s.runSaf (wrIf (falls GRD_CTRL_EN 0 val.toNat) a (GRD_CTRL_EN.at 0) val.toNat)

/-- `WGH_CTRL.EN` is cleared (R211). -/
def execWeighmasterDisable (a : Acc) (val : W32) (s : State) : Host.Outcome State Fault Refusal :=
  s.run (wrIf (falls WGH_CTRL_EN 0 val.toNat) a (WGH_CTRL_EN.at 0) val.toNat)

/-- `TAL_CTRL.EN` is set (R238). -/
def execTallymanEnable (a : Acc) (val : W32) (s : State) : Host.Outcome State Fault Refusal :=
  s.runTal (wrIf (rises TAL_CTRL_EN 0 val.toNat) a (TAL_CTRL_EN.at 0) val.toNat)

/-- `TAL_CTRL.EN` is cleared (R242). -/
def execTallymanDisable (a : Acc) (val : W32) (s : State) : Host.Outcome State Fault Refusal :=
  s.runTal (wrIf (falls TAL_CTRL_EN 0 val.toNat) a (TAL_CTRL_EN.at 0) val.toNat)

/-- A write to a configuration register of Tallyman (R240). -/
def execTalConfigWrite (a : Acc) (addr val : W32) (s : State) : Host.Outcome State Fault Refusal :=
  s.runTal (wrIf (fun d => regIs addr.toNat fun r => d.talConfig r.base val.toNat) a addr.toNat val.toNat)

/-- A write of 1 to `TAL_SEAL.SEAL` (R240). -/
def execTalSealWrite (a : Acc) (val : W32) (s : State) : Host.Outcome State Fault Refusal :=
  s.runTal (wrIf (fun _ => TAL_SEAL_SEAL.of val.toNat == 1) a (TAL_SEAL_SEAL.at 0) val.toNat)

/-! ### Safety unlock (R271) -/

/-- `SAF_UL_CTRL` with `OP` 0 and the key: a new nonce. -/
def execSafUlChallenge (a : Acc) (val : W32) (s : State) : Host.Outcome State Fault Refusal :=
  s.runSaf (wrIf (fun _ => Dev.ulKey val.toNat && SAF_UL_CTRL_OP.of val.toNat == 0) a (SAF_UL_CTRL_OP.at 0) val.toNat)

/-- `SAF_UL_CTRL` with `OP` 1 and the key: a configuration change is requested. -/
def execSafUlConfig (a : Acc) (val : W32) (s : State) : Host.Outcome State Fault Refusal :=
  s.runSaf (wrIf (fun _ => Dev.ulKey val.toNat && SAF_UL_CTRL_OP.of val.toNat == 1) a (SAF_UL_CTRL_OP.at 0) val.toNat)

/-- `SAF_UL_CTRL` with `OP` 2 and the key: an acknowledge of faults is requested. -/
def execSafUlFaultAck (a : Acc) (val : W32) (s : State) : Host.Outcome State Fault Refusal :=
  s.runSaf (wrIf (fun _ => Dev.ulKey val.toNat && SAF_UL_CTRL_OP.of val.toNat == 2) a (SAF_UL_CTRL_OP.at 0) val.toNat)

/-- `SAF_UL_CTRL` with `OP` 3 and the key: a restart acknowledge is requested. -/
def execSafUlRestartAck (a : Acc) (val : W32) (s : State) : Host.Outcome State Fault Refusal :=
  s.runSaf (wrIf (fun _ => Dev.ulKey val.toNat && SAF_UL_CTRL_OP.of val.toNat == 3) a (SAF_UL_CTRL_OP.at 0) val.toNat)

/-! ### Networks, DRAM, Neriq Link, Lamplighter -/

/-- A ring's `TAIL` is written (R299). -/
def execRingTailWrite (a : Acc) (r : Fin 32) (val : W32) (s : State) : Host.Outcome State Fault Refusal :=
  s.run (wrIf always a (NET_RING_r_TAIL_TAIL.at r.val) val.toNat)

/-- `NET_KEY_CTRL` with `OP` 1 (R306). -/
def execKeyLoadWrite (a : Acc) (slot : Fin 128) (s : State) : Host.Outcome State Fault Refusal :=
  s.run (wrIf always a (NET_KEY_CTRL_OP.at 0) (2 ^ NET_KEY_CTRL_OP.lo + slot.val * 2 ^ NET_KEY_CTRL_SLOT.lo))

/-- `NET_KEY_CTRL` with `OP` 2 (R306). -/
def execKeyEraseWrite (a : Acc) (slot : Fin 128) (s : State) : Host.Outcome State Fault Refusal :=
  s.run (wrIf always a (NET_KEY_CTRL_OP.at 0) (2 * 2 ^ NET_KEY_CTRL_OP.lo + slot.val * 2 ^ NET_KEY_CTRL_SLOT.lo))

/-- `DRC_CTRL.EN` is set (R307). -/
def execDrcEnable (a : Acc) (val : W32) (s : State) : Host.Outcome State Fault Refusal :=
  s.run (wrIf (rises DRC_CTRL_EN 0 val.toNat) a (DRC_CTRL_EN.at 0) val.toNat)

/-- The link and its lanes are enabled (R313). -/
def execNqlEnable (a : Acc) (val : W32) (s : State) : Host.Outcome State Fault Refusal :=
  s.run (wrIf (fun _ => NQL_CTRL_EN.of val.toNat == 1) a (NQL_CTRL_EN.at 0) val.toNat)

/-- A PLC port is enabled (R326). -/
def execPlcPortEnable (a : Acc) (p : Fin 4) (val : W32) (s : State) : Host.Outcome State Fault Refusal :=
  s.run (wrIf (rises LMP_PORT_p_CFG_EN p.val val.toNat) a (LMP_PORT_p_CFG_EN.at p.val) val.toNat)

/-- `SYS_ROLE.DIR_ROLE` changes (R342). -/
def execDirRoleWrite (a : Acc) (val : W32) (s : State) : Host.Outcome State Fault Refusal :=
  s.run (wrIf (fun d => SYS_ROLE_DIR_ROLE.of val.toNat != d.fg SYS_ROLE_DIR_ROLE) a (SYS_ROLE_DIR_ROLE.at 0) val.toNat)

/-! ### Nightwatch and auxiliaries -/

/-- A write of `AON_RTC_SET_HI` (R349). -/
def execRtcSet (a : Acc) (hi : W32) (s : State) : Host.Outcome State Fault Refusal :=
  s.run (wrIf always a (AON_RTC_SET_HI_C.at 0) hi.toNat)

/-- `AUX_BK_CTRL.EN` is set (R361), with the output voltage the ramp starts from. -/
def execBuckEnable (a : Acc) (val : W32) (vfb : Nat) (s : State) : Host.Outcome State Fault Refusal :=
  s.run (fun d => wrIf (rises AUX_BK_CTRL_EN 0 val.toNat) a (AUX_BK_CTRL_EN.at 0) val.toNat (d.setVfb vfb))

/-- A write of `VSET` (R363). -/
def execBuckVsetWrite (a : Acc) (val : W32) (s : State) : Host.Outcome State Fault Refusal :=
  s.run (wrIf always a (AUX_BK_VSET_VSET.at 0) val.toNat)

/-- A write of 1 to the buck's `LATCHED` (R361), with the output voltage the ramp starts from. -/
def execBuckLatchClear (a : Acc) (vfb : Nat) (s : State) : Host.Outcome State Fault Refusal :=
  s.run (fun d => wrIf always a (AUX_BK_STAT_LATCHED.at 0) (2 ^ AUX_BK_STAT_LATCHED.lo) (d.setVfb vfb))

/-- `AUX_PMP_CTRL.EN` is set (R367). -/
def execPumpEnable (a : Acc) (val : W32) (s : State) : Host.Outcome State Fault Refusal :=
  s.run (wrIf (rises AUX_PMP_CTRL_EN 0 val.toNat) a (AUX_PMP_CTRL_EN.at 0) val.toNat)

/-! ### Reset, watchdog, fault classes -/

/-- A write of `SYS_RST_CTRL` (R382). -/
def execSoftwareResetWrite (a : Acc) (val : W32) (s : State) : Host.Outcome State Fault Refusal :=
  s.runAll (wrIf always a (SYS_RST_CTRL_RST.at 0) val.toNat)

/-- A write of `SYS_WDT_KICK` (R381). -/
def execWatchdogKick (a : Acc) (val : W32) (s : State) : Host.Outcome State Fault Refusal :=
  s.run (wrIf always a (SYS_WDT_KICK_KEY.at 0) val.toNat)

/-- A write of `SYS_FCLS_k` (R394). -/
def execFaultClassWrite (a : Acc) (k : Fin 11) (val : W32) (s : State) : Host.Outcome State Fault Refusal :=
  s.run (wrIf always a (SYS_FCLS_k_LIMIT.at k.val) val.toNat)

end Sys2Proof.Machine
end

