-- ==== Sys2Proof/Machine/Dispatch.lean ====
section
/-! DEFINITION. Each command to its meaning, one arm each. -/
namespace Sys2Proof.Machine

def exec (i : Instr) (s : State) : Host.Outcome State Fault Refusal :=
  match i with
  | .registerWrite a addr val => Sys2Proof.Machine.execRegisterWrite a addr val s
  | .loReadSnapshot a addr => Sys2Proof.Machine.execLoReadSnapshot a addr s
  | .loWriteHold a addr val => Sys2Proof.Machine.execLoWriteHold a addr val s
  | .hiWriteCommit a addr val => Sys2Proof.Machine.execHiWriteCommit a addr val s
  | .rcFieldRead a addr => Sys2Proof.Machine.execRcFieldRead a addr s
  | .aonBridgeAccess a write addr val => Sys2Proof.Machine.execAonBridgeAccess a write addr val s
  | .vddCoreFall => Sys2Proof.Machine.execVddCoreFall s
  | .supplyFallPor k => Sys2Proof.Machine.execSupplyFallPor k s
  | .resetRelease bootSel => Sys2Proof.Machine.execResetRelease bootSel s
  | .bankValidDetect b v33 => Sys2Proof.Machine.execBankValidDetect b v33 s
  | .bankInvalid b unpowered => Sys2Proof.Machine.execBankInvalid b unpowered s
  | .supplyMonitorDrop k => Sys2Proof.Machine.execSupplyMonitorDrop k s
  | .missingEdgeDetect => Sys2Proof.Machine.execMissingEdgeDetect s
  | .frequencyCount n => Sys2Proof.Machine.execFrequencyCount n s
  | .refGoodTimeout => Sys2Proof.Machine.execRefGoodTimeout s
  | .referenceReturn => Sys2Proof.Machine.execReferenceReturn s
  | .pllEnable a val => Sys2Proof.Machine.execPllEnable a val s
  | .pllDisable a val => Sys2Proof.Machine.execPllDisable a val s
  | .bandMeasureDone mhz => Sys2Proof.Machine.execBandMeasureDone mhz s
  | .lockDeclared => Sys2Proof.Machine.execLockDeclared s
  | .lockAttemptTimeout => Sys2Proof.Machine.execLockAttemptTimeout s
  | .lossOfLock => Sys2Proof.Machine.execLossOfLock s
  | .pwmHoldRelease a val => Sys2Proof.Machine.execPwmHoldRelease a val s
  | .ptpStep a val => Sys2Proof.Machine.execPtpStep a val s
  | .ppsRise => Sys2Proof.Machine.execPpsRise s
  | .ppsFall => Sys2Proof.Machine.execPpsFall s
  | .oneSecondStrobe ok => Sys2Proof.Machine.execOneSecondStrobe ok s
  | .snapSwCapture a val => Sys2Proof.Machine.execSnapSwCapture a val s
  | .ptpCapEdge => Sys2Proof.Machine.execPtpCapEdge s
  | .snapNsRead a => Sys2Proof.Machine.execSnapNsRead a s
  | .timeTriggerFire n => Sys2Proof.Machine.execTimeTriggerFire n s
  | .sdckStart a k val => Sys2Proof.Machine.execSdckStart a k val s
  | .sdckStop a k val => Sys2Proof.Machine.execSdckStop a k val s
  | .inputStuck n => Sys2Proof.Machine.execInputStuck n s
  | .stuckRecovered n => Sys2Proof.Machine.execStuckRecovered n s
  | .controlFilterRestart a n val => Sys2Proof.Machine.execControlFilterRestart a n val s
  | .controlFilterDecimation n bits => Sys2Proof.Machine.execControlFilterDecimation n bits s
  | .comparatorAssert m bits => Sys2Proof.Machine.execComparatorAssert m bits s
  | .comparatorDeassert m bits => Sys2Proof.Machine.execComparatorDeassert m bits s
  | .meteringSample l => Sys2Proof.Machine.execMeteringSample l s
  | .meteringSampleDelivery => Sys2Proof.Machine.execMeteringSampleDelivery s
  | .rotationStepStart => Sys2Proof.Machine.execRotationStepStart s
  | .rotationHandover => Sys2Proof.Machine.execRotationHandover s
  | .rotationOffsetMeasured ofs => Sys2Proof.Machine.execRotationOffsetMeasured ofs s
  | .rotationCalComplete g1 g4 g16 g64 => Sys2Proof.Machine.execRotationCalComplete g1 g4 g16 g64 s
  | .mtrRotationRequest a => Sys2Proof.Machine.execMtrRotationRequest a s
  | .meteringInitialCalDone cal => Sys2Proof.Machine.execMeteringInitialCalDone cal s
  | .auxScanStart => Sys2Proof.Machine.execAuxScanStart s
  | .auxConversionDone code die => Sys2Proof.Machine.execAuxConversionDone code die s
  | .openWireConversionDone code => Sys2Proof.Machine.execOpenWireConversionDone code s
  | .auxSelftestDue => Sys2Proof.Machine.execAuxSelftestDue s
  | .auxSelftestRequest a => Sys2Proof.Machine.execAuxSelftestRequest a s
  | .auxSelftestConversionDone code => Sys2Proof.Machine.execAuxSelftestConversionDone code s
  | .snsCaps p tag => Sys2Proof.Machine.execSnsCaps p tag s
  | .snsRead p tag => Sys2Proof.Machine.execSnsRead p tag s
  | .snsTest p tag => Sys2Proof.Machine.execSnsTest p tag s
  | .carrierGroupRun a g val => Sys2Proof.Machine.execCarrierGroupRun a g val s
  | .carrierStart n => Sys2Proof.Machine.execCarrierStart n s
  | .carrierCentre n => Sys2Proof.Machine.execCarrierCentre n s
  | .commitCutoff n => Sys2Proof.Machine.execCommitCutoff n s
  | .compareEdge n rising => Sys2Proof.Machine.execCompareEdge n rising s
  | .deadTimeExpiry n => Sys2Proof.Machine.execDeadTimeExpiry n s
  | .delayLineCalibration err step => Sys2Proof.Machine.execDelayLineCalibration err step s
  | .shadowWrite a n cmpB val => Sys2Proof.Machine.execShadowWrite a n cmpB val s
  | .shlockWrite a val => Sys2Proof.Machine.execShlockWrite a val s
  | .commitTokenArrival => Sys2Proof.Machine.execCommitTokenArrival s
  | .legStart a n val => Sys2Proof.Machine.execLegStart a n val s
  | .legStop a n val => Sys2Proof.Machine.execLegStop a n val s
  | .forceWrite a g val => Sys2Proof.Machine.execForceWrite a g val s
  | .forceTakesEffect g => Sys2Proof.Machine.execForceTakesEffect g s
  | .markerReceived m off => Sys2Proof.Machine.execMarkerReceived m off s
  | .markerTimeout => Sys2Proof.Machine.execMarkerTimeout s
  | .pwmCaps p tag => Sys2Proof.Machine.execPwmCaps p tag s
  | .pwmStart p tag => Sys2Proof.Machine.execPwmStart p tag s
  | .pwmStop p tag => Sys2Proof.Machine.execPwmStop p tag s
  | .pwmForce p tag => Sys2Proof.Machine.execPwmForce p tag s
  | .pwmSet p tag => Sys2Proof.Machine.execPwmSet p tag s
  | .tripInputFiltered n high => Sys2Proof.Machine.execTripInputFiltered n high s
  | .blankingEnd n => Sys2Proof.Machine.execBlankingEnd n s
  | .tripSafeState n => Sys2Proof.Machine.execTripSafeState n s
  | .holdoffExpiry n => Sys2Proof.Machine.execHoldoffExpiry n s
  | .tripClearWrite a val => Sys2Proof.Machine.execTripClearWrite a val s
  | .softwareTripWrite a val => Sys2Proof.Machine.execSoftwareTripWrite a val s
  | .tripClassWrite a k val => Sys2Proof.Machine.execTripClassWrite a k val s
  | .trpCaps p tag => Sys2Proof.Machine.execTrpCaps p tag s
  | .trpStatus p tag => Sys2Proof.Machine.execTrpStatus p tag s
  | .trpClear p tag => Sys2Proof.Machine.execTrpClear p tag s
  | .trpSoft p tag => Sys2Proof.Machine.execTrpSoft p tag s
  | .mac sl acc c n => Sys2Proof.Machine.execMac sl acc c n s
  | .msu sl acc c n => Sys2Proof.Machine.execMsu sl acc c n s
  | .macx sl acc xa n => Sys2Proof.Machine.execMacx sl acc xa n s
  | .msux sl acc xa n => Sys2Proof.Machine.execMsux sl acc xa n s
  | .macs sl acc xa n => Sys2Proof.Machine.execMacs sl acc xa n s
  | .mulx sl acc xa xb => Sys2Proof.Machine.execMulx sl acc xa xb s
  | .addx sl acc xa => Sys2Proof.Machine.execAddx sl acc xa s
  | .subx sl acc xa => Sys2Proof.Machine.execSubx sl acc xa s
  | .clr sl acc => Sys2Proof.Machine.execClr sl acc s
  | .shx sl acc k => Sys2Proof.Machine.execShx sl acc k s
  | .lim sl acc n => Sys2Proof.Machine.execLim sl acc n s
  | .rnd sl xa acc => Sys2Proof.Machine.execRnd sl xa acc s
  | .sta sl acc k n => Sys2Proof.Machine.execSta sl acc k n s
  | .nrm sl acc k n => Sys2Proof.Machine.execNrm sl acc k n s
  | .ldx sl xa n => Sys2Proof.Machine.execLdx sl xa n s
  | .ldxc sl xa n => Sys2Proof.Machine.execLdxc sl xa n s
  | .stx sl xa n => Sys2Proof.Machine.execStx sl xa n s
  | .movx sl xa xb => Sys2Proof.Machine.execMovx sl xa xb s
  | .dly sl k n => Sys2Proof.Machine.execDly sl k n s
  | .minx sl xa xb => Sys2Proof.Machine.execMinx sl xa xb s
  | .maxx sl xa xb => Sys2Proof.Machine.execMaxx sl xa xb s
  | .lds sl xa kind idx => Sys2Proof.Machine.execLds sl xa kind idx s
  | .wsmp sl k kind idx => Sys2Proof.Machine.execWsmp sl k kind idx s
  | .chk sl xa xb n => Sys2Proof.Machine.execChk sl xa xb n s
  | .spec sl => Sys2Proof.Machine.execSpec sl s
  | .tent sl xa xb leg => Sys2Proof.Machine.execTent sl xa xb leg s
  | .commit sl legs => Sys2Proof.Machine.execCommit sl legs s
  | .cancel sl legs => Sys2Proof.Machine.execCancel sl legs s
  | .br sl cond target => Sys2Proof.Machine.execBr sl cond target s
  | .rpt sl cnt ci si => Sys2Proof.Machine.execRpt sl cnt ci si s
  | .gpost sl xa => Sys2Proof.Machine.execGpost sl xa s
  | .gsel sl xa g => Sys2Proof.Machine.execGsel sl xa g s
  | .wreq sl xa n => Sys2Proof.Machine.execWreq sl xa n s
  | .trc sl xa c => Sys2Proof.Machine.execTrc sl xa c s
  | .trig sl => Sys2Proof.Machine.execTrig sl s
  | .evt sl code => Sys2Proof.Machine.execEvt sl code s
  | .nop sl => Sys2Proof.Machine.execNop sl s
  | .endExec sl => Sys2Proof.Machine.execEndExec sl s
  | .illegalInstruction sl => Sys2Proof.Machine.execIllegalInstruction sl s
  | .slotTriggerTimer sl => Sys2Proof.Machine.execSlotTriggerTimer sl s
  | .slotDispatch l => Sys2Proof.Machine.execSlotDispatch l s
  | .slotEnable a sl val => Sys2Proof.Machine.execSlotEnable a sl val s
  | .slotDisable a sl val => Sys2Proof.Machine.execSlotDisable a sl val s
  | .cooperSelftestDue => Sys2Proof.Machine.execCooperSelftestDue s
  | .cooperSelftestRequest a => Sys2Proof.Machine.execCooperSelftestRequest a s
  | .cooperSelftestComplete l pass => Sys2Proof.Machine.execCooperSelftestComplete l pass s
  | .evcodeRead a => Sys2Proof.Machine.execEvcodeRead a s
  | .scrivenerArm a val => Sys2Proof.Machine.execScrivenerArm a val s
  | .scrivenerDisarm a val => Sys2Proof.Machine.execScrivenerDisarm a val s
  | .scrivenerSwtrig a val => Sys2Proof.Machine.execScrivenerSwtrig a val s
  | .scrivenerPostDone c => Sys2Proof.Machine.execScrivenerPostDone c s
  | .scrivenerTsWrap => Sys2Proof.Machine.execScrivenerTsWrap s
  | .cenCaps p tag => Sys2Proof.Machine.execCenCaps p tag s
  | .cenWrite p tag => Sys2Proof.Machine.execCenWrite p tag s
  | .cenRead p tag => Sys2Proof.Machine.execCenRead p tag s
  | .cenStart p tag => Sys2Proof.Machine.execCenStart p tag s
  | .cenStop p tag => Sys2Proof.Machine.execCenStop p tag s
  | .cenKick p tag => Sys2Proof.Machine.execCenKick p tag s
  | .cenClear p tag => Sys2Proof.Machine.execCenClear p tag s
  | .cenGroup p tag => Sys2Proof.Machine.execCenGroup p tag s
  | .cenStatus p tag => Sys2Proof.Machine.execCenStatus p tag s
  | .cenSelftest p tag => Sys2Proof.Machine.execCenSelftest p tag s
  | .trcCaps p tag => Sys2Proof.Machine.execTrcCaps p tag s
  | .trcArm p tag => Sys2Proof.Machine.execTrcArm p tag s
  | .trcTrigger p tag => Sys2Proof.Machine.execTrcTrigger p tag s
  | .trcRead p tag => Sys2Proof.Machine.execTrcRead p tag s
  | .trcStop p tag => Sys2Proof.Machine.execTrcStop p tag s
  | .gridEnable a val => Sys2Proof.Machine.execGridEnable a val s
  | .gridDisable a val => Sys2Proof.Machine.execGridDisable a val s
  | .gridSampleDecision k => Sys2Proof.Machine.execGridSampleDecision k s
  | .measChannelTimeout => Sys2Proof.Machine.execMeasChannelTimeout s
  | .v10Update => Sys2Proof.Machine.execV10Update s
  | .ceaseTimeout => Sys2Proof.Machine.execCeaseTimeout s
  | .suspectHoldExpiry => Sys2Proof.Machine.execSuspectHoldExpiry s
  | .actInvalidTimeout => Sys2Proof.Machine.execActInvalidTimeout s
  | .contactorOpenTimeout => Sys2Proof.Machine.execContactorOpenTimeout s
  | .contactorCloseTimeout => Sys2Proof.Machine.execContactorCloseTimeout s
  | .reconnectDelayExpiry => Sys2Proof.Machine.execReconnectDelayExpiry s
  | .enterServiceRampEnd => Sys2Proof.Machine.execEnterServiceRampEnd s
  | .grdPubFrameReceived trip words => Sys2Proof.Machine.execGrdPubFrameReceived trip words s
  | .publicationLoss => Sys2Proof.Machine.execPublicationLoss s
  | .coopRecordTimer => Sys2Proof.Machine.execCoopRecordTimer s
  | .coopRecordReceived l => Sys2Proof.Machine.execCoopRecordReceived l s
  | .coopPeerTimeout n => Sys2Proof.Machine.execCoopPeerTimeout n s
  | .grdCaps p tag => Sys2Proof.Machine.execGrdCaps p tag s
  | .grdStatus p tag => Sys2Proof.Machine.execGrdStatus p tag s
  | .grdReconnect p tag => Sys2Proof.Machine.execGrdReconnect p tag s
  | .grdDisconnect p tag => Sys2Proof.Machine.execGrdDisconnect p tag s
  | .grdClear p tag => Sys2Proof.Machine.execGrdClear p tag s
  | .requestCutoff => Sys2Proof.Machine.execRequestCutoff s
  | .grantBoundary => Sys2Proof.Machine.execGrantBoundary s
  | .burstReservationLapse => Sys2Proof.Machine.execBurstReservationLapse s
  | .weighmasterDisable a val => Sys2Proof.Machine.execWeighmasterDisable a val s
  | .followerRequestForward => Sys2Proof.Machine.execFollowerRequestForward s
  | .wghReqFrameReceived pos l => Sys2Proof.Machine.execWghReqFrameReceived pos l s
  | .wghCeilFrameReceived parts part l => Sys2Proof.Machine.execWghCeilFrameReceived parts part l s
  | .followerCeilingWrite => Sys2Proof.Machine.execFollowerCeilingWrite s
  | .graceExpiry z => Sys2Proof.Machine.execGraceExpiry z s
  | .wghCaps p tag => Sys2Proof.Machine.execWghCaps p tag s
  | .wghStatus p tag => Sys2Proof.Machine.execWghStatus p tag s
  | .wghBurst p tag => Sys2Proof.Machine.execWghBurst p tag s
  | .thmCaps p tag => Sys2Proof.Machine.execThmCaps p tag s
  | .thmStatus p tag => Sys2Proof.Machine.execThmStatus p tag s
  | .missingSetTimeout => Sys2Proof.Machine.execMissingSetTimeout s
  | .pfailFall ok => Sys2Proof.Machine.execPfailFall ok s
  | .pfFlushTimer ok => Sys2Proof.Machine.execPfFlushTimer ok s
  | .pfailRise => Sys2Proof.Machine.execPfailRise s
  | .tallymanEnable a val => Sys2Proof.Machine.execTallymanEnable a val s
  | .tallymanDisable a val => Sys2Proof.Machine.execTallymanDisable a val s
  | .talConfigWrite a addr val => Sys2Proof.Machine.execTalConfigWrite a addr val s
  | .talSealWrite a val => Sys2Proof.Machine.execTalSealWrite a val s
  | .talNonceExpiry => Sys2Proof.Machine.execTalNonceExpiry s
  | .talCaps p tag => Sys2Proof.Machine.execTalCaps p tag s
  | .talStatus p tag => Sys2Proof.Machine.execTalStatus p tag s
  | .talReadInt p tag => Sys2Proof.Machine.execTalReadInt p tag s
  | .talChallenge p tag => Sys2Proof.Machine.execTalChallenge p tag s
  | .talUnseal p tag => Sys2Proof.Machine.execTalUnseal p tag s
  | .talClear p tag => Sys2Proof.Machine.execTalClear p tag s
  | .safetyInputAccepted ch n c level => Sys2Proof.Machine.execSafetyInputAccepted ch n c level s
  | .discrepancyTimeout n => Sys2Proof.Machine.execDiscrepancyTimeout n s
  | .testPulseStart src => Sys2Proof.Machine.execTestPulseStart src s
  | .testPulseCheck src n level => Sys2Proof.Machine.execTestPulseCheck src n level s
  | .testPulseEnd src => Sys2Proof.Machine.execTestPulseEnd src s
  | .stateVectorExchange differ => Sys2Proof.Machine.execStateVectorExchange differ s
  | .partnerVectorTimeout => Sys2Proof.Machine.execPartnerVectorTimeout s
  | .exchangeRateCheck n => Sys2Proof.Machine.execExchangeRateCheck n s
  | .bCrystalLoss => Sys2Proof.Machine.execBCrystalLoss s
  | .connectionCheckStart f => Sys2Proof.Machine.execConnectionCheckStart f s
  | .checkTimerExpiry f => Sys2Proof.Machine.execCheckTimerExpiry f s
  | .mirrorFeedbackChange f idx level => Sys2Proof.Machine.execMirrorFeedbackChange f idx level s
  | .feedbackTimeout f => Sys2Proof.Machine.execFeedbackTimeout f s
  | .relayVerified f => Sys2Proof.Machine.execRelayVerified f s
  | .feedbackDisagreeTimeout => Sys2Proof.Machine.execFeedbackDisagreeTimeout s
  | .offPulseStart f ch low => Sys2Proof.Machine.execOffPulseStart f ch low s
  | .offPulseEnd f ch high => Sys2Proof.Machine.execOffPulseEnd f ch high s
  | .weldTestEnd => Sys2Proof.Machine.execWeldTestEnd s
  | .safetyPduReceived kind link pdu => Sys2Proof.Machine.execSafetyPduReceived kind link pdu s
  | .pduExpectationTimeout c idx => Sys2Proof.Machine.execPduExpectationTimeout c idx s
  | .pduSendTimer x => Sys2Proof.Machine.execPduSendTimer x s
  | .safUlChallenge a val => Sys2Proof.Machine.execSafUlChallenge a val s
  | .safUlConfig a val => Sys2Proof.Machine.execSafUlConfig a val s
  | .safUlFaultAck a val => Sys2Proof.Machine.execSafUlFaultAck a val s
  | .safUlRestartAck a val => Sys2Proof.Machine.execSafUlRestartAck a val s
  | .unlockVerifyComplete storeBad => Sys2Proof.Machine.execUnlockVerifyComplete storeBad s
  | .safNonceExpiry => Sys2Proof.Machine.execSafNonceExpiry s
  | .safCaps p tag => Sys2Proof.Machine.execSafCaps p tag s
  | .safStatus p tag => Sys2Proof.Machine.execSafStatus p tag s
  | .safReadCfg p tag => Sys2Proof.Machine.execSafReadCfg p tag s
  | .safChallenge p tag => Sys2Proof.Machine.execSafChallenge p tag s
  | .safUnlock p tag => Sys2Proof.Machine.execSafUnlock p tag s
  | .safWeldtest p tag => Sys2Proof.Machine.execSafWeldtest p tag s
  | .hostWrite addr data => Sys2Proof.Machine.execHostWrite addr data s
  | .postedWritePerform => Sys2Proof.Machine.execPostedWritePerform s
  | .hostRead addr len => Sys2Proof.Machine.execHostRead addr len s
  | .hostReadTimeout addr => Sys2Proof.Machine.execHostReadTimeout addr s
  | .hostStatus => Sys2Proof.Machine.execHostStatus s
  | .hostCmd pkt => Sys2Proof.Machine.execHostCmd pkt s
  | .hostReply => Sys2Proof.Machine.execHostReply s
  | .hostBadInstruction b => Sys2Proof.Machine.execHostBadInstruction b s
  | .commandStart p tag => Sys2Proof.Machine.execCommandStart p tag s
  | .replyRelease p tag => Sys2Proof.Machine.execReplyRelease p tag s
  | .accessTimeout p tag => Sys2Proof.Machine.execAccessTimeout p tag s
  | .sysNop p tag => Sys2Proof.Machine.execSysNop p tag s
  | .hello p tag => Sys2Proof.Machine.execHello p tag s
  | .sysCaps p tag => Sys2Proof.Machine.execSysCaps p tag s
  | .regReadCmd p tag => Sys2Proof.Machine.execRegReadCmd p tag s
  | .regWriteCmd p tag => Sys2Proof.Machine.execRegWriteCmd p tag s
  | .memReadCmd p tag => Sys2Proof.Machine.execMemReadCmd p tag s
  | .memWriteCmd p tag => Sys2Proof.Machine.execMemWriteCmd p tag s
  | .hstAbort p tag => Sys2Proof.Machine.execHstAbort p tag s
  | .regModify p tag => Sys2Proof.Machine.execRegModify p tag s
  | .ethLinkChange x up half speed => Sys2Proof.Machine.execEthLinkChange x up half speed s
  | .ethFrameReceived x frame fill => Sys2Proof.Machine.execEthFrameReceived x frame fill s
  | .ringTailWrite a r val => Sys2Proof.Machine.execRingTailWrite a r val s
  | .txFrameComplete x => Sys2Proof.Machine.execTxFrameComplete x s
  | .sessionPacketReceived x port pkt => Sys2Proof.Machine.execSessionPacketReceived x port pkt s
  | .keyLoadWrite a slot => Sys2Proof.Machine.execKeyLoadWrite a slot s
  | .keyEraseWrite a slot => Sys2Proof.Machine.execKeyEraseWrite a slot s
  | .drcEnable a val => Sys2Proof.Machine.execDrcEnable a val s
  | .dramTrainingComplete ok => Sys2Proof.Machine.execDramTrainingComplete ok s
  | .dramZqCalTimer => Sys2Proof.Machine.execDramZqCalTimer s
  | .dramDqsCheckTimer excess => Sys2Proof.Machine.execDramDqsCheckTimer excess s
  | .dramScrubPass ce ue => Sys2Proof.Machine.execDramScrubPass ce ue s
  | .nqlEnable a val => Sys2Proof.Machine.execNqlEnable a val s
  | .laneSyncAchieved l => Sys2Proof.Machine.execLaneSyncAchieved l s
  | .laneNosigTimeout l => Sys2Proof.Machine.execLaneNosigTimeout l s
  | .laneTrained l peer => Sys2Proof.Machine.execLaneTrained l peer s
  | .pingReceived l num residual => Sys2Proof.Machine.execPingReceived l num residual s
  | .echoReceived l num residual roundTrip => Sys2Proof.Machine.execEchoReceived l num residual roundTrip s
  | .pingTimer l => Sys2Proof.Machine.execPingTimer l s
  | .capFrameReceived l src payload => Sys2Proof.Machine.execCapFrameReceived l src payload s
  | .capBroadcastTimer => Sys2Proof.Machine.execCapBroadcastTimer s
  | .nodePresenceTimeout n => Sys2Proof.Machine.execNodePresenceTimeout n s
  | .laneErrorBurst l => Sys2Proof.Machine.execLaneErrorBurst l s
  | .nqlFrameForward l frame => Sys2Proof.Machine.execNqlFrameForward l frame s
  | .nqlDataFrameReceived l src seq payload => Sys2Proof.Machine.execNqlDataFrameReceived l src seq payload s
  | .nqlCaps p tag => Sys2Proof.Machine.execNqlCaps p tag s
  | .netStatus p tag => Sys2Proof.Machine.execNetStatus p tag s
  | .netSessOpen p tag => Sys2Proof.Machine.execNetSessOpen p tag s
  | .netSessClose p tag => Sys2Proof.Machine.execNetSessClose p tag s
  | .netKeyLoad p tag => Sys2Proof.Machine.execNetKeyLoad p tag s
  | .netRekey p tag => Sys2Proof.Machine.execNetRekey p tag s
  | .nqlStatus p tag => Sys2Proof.Machine.execNqlStatus p tag s
  | .nqlSend p tag => Sys2Proof.Machine.execNqlSend p tag s
  | .plcPortEnable a p val => Sys2Proof.Machine.execPlcPortEnable a p val s
  | .networkStartConfirm p status => Sys2Proof.Machine.execNetworkStartConfirm p status s
  | .dataConfirm p handle status => Sys2Proof.Machine.execDataConfirm p handle status s
  | .joinNotification p eui short => Sys2Proof.Machine.execJoinNotification p eui short s
  | .leaveNotification p eui short => Sys2Proof.Machine.execLeaveNotification p eui short s
  | .getConfirm p => Sys2Proof.Machine.execGetConfirm p s
  | .modemRestart p => Sys2Proof.Machine.execModemRestart p s
  | .plcFrameBad p => Sys2Proof.Machine.execPlcFrameBad p s
  | .plcKeepaliveTimer p => Sys2Proof.Machine.execPlcKeepaliveTimer p s
  | .plcResetTimer p => Sys2Proof.Machine.execPlcResetTimer p s
  | .endpointHelloRsp num ver hi lo rated => Sys2Proof.Machine.execEndpointHelloRsp num ver hi lo rated s
  | .endpointStatus num ver level faults energy power => Sys2Proof.Machine.execEndpointStatus num ver level faults energy power s
  | .endpointAck num ver result level => Sys2Proof.Machine.execEndpointAck num ver result level s
  | .transactionStart => Sys2Proof.Machine.execTransactionStart s
  | .transactionResponseTimeout num => Sys2Proof.Machine.execTransactionResponseTimeout num s
  | .pollDue entry => Sys2Proof.Machine.execPollDue entry s
  | .localMinuteBoundary => Sys2Proof.Machine.execLocalMinuteBoundary s
  | .overrideExpiry entry => Sys2Proof.Machine.execOverrideExpiry entry s
  | .deferredRetryTimer => Sys2Proof.Machine.execDeferredRetryTimer s
  | .supplyLevelPoll => Sys2Proof.Machine.execSupplyLevelPoll s
  | .lmpUpdateReceived peer role district entries => Sys2Proof.Machine.execLmpUpdateReceived peer role district entries s
  | .lmpDigestReceived peer role district ranges => Sys2Proof.Machine.execLmpDigestReceived peer role district ranges s
  | .lmpPullReceived peer role district ranges => Sys2Proof.Machine.execLmpPullReceived peer role district ranges s
  | .lmpBeatReceived peer role district hub epoch => Sys2Proof.Machine.execLmpBeatReceived peer role district hub epoch s
  | .lmpGroupReceived peer role district payload => Sys2Proof.Machine.execLmpGroupReceived peer role district payload s
  | .lmpEndpointReceived g eui msg => Sys2Proof.Machine.execLmpEndpointReceived g eui msg s
  | .digestTimer => Sys2Proof.Machine.execDigestTimer s
  | .beatTimer => Sys2Proof.Machine.execBeatTimer s
  | .masterSilenceTimeout => Sys2Proof.Machine.execMasterSilenceTimeout s
  | .takeoverComplete => Sys2Proof.Machine.execTakeoverComplete s
  | .dirRoleWrite a val => Sys2Proof.Machine.execDirRoleWrite a val s
  | .entryFreeTimer entry => Sys2Proof.Machine.execEntryFreeTimer entry s
  | .lmpCaps p tag => Sys2Proof.Machine.execLmpCaps p tag s
  | .lmpStatus p tag => Sys2Proof.Machine.execLmpStatus p tag s
  | .lmpEntryRead p tag => Sys2Proof.Machine.execLmpEntryRead p tag s
  | .lmpEntryWrite p tag => Sys2Proof.Machine.execLmpEntryWrite p tag s
  | .lmpEntryDelete p tag => Sys2Proof.Machine.execLmpEntryDelete p tag s
  | .lmpSchedWrite p tag => Sys2Proof.Machine.execLmpSchedWrite p tag s
  | .lmpSet p tag => Sys2Proof.Machine.execLmpSet p tag s
  | .lmpGroup p tag => Sys2Proof.Machine.execLmpGroup p tag s
  | .vbatFirstApplication => Sys2Proof.Machine.execVbatFirstApplication s
  | .vbatLoss => Sys2Proof.Machine.execVbatLoss s
  | .vbatSample mv => Sys2Proof.Machine.execVbatSample mv s
  | .rtcSet a hi => Sys2Proof.Machine.execRtcSet a hi s
  | .crystalLoss => Sys2Proof.Machine.execCrystalLoss s
  | .crystalRestart => Sys2Proof.Machine.execCrystalRestart s
  | .rtcTrimTimer => Sys2Proof.Machine.execRtcTrimTimer s
  | .rtcAlarm => Sys2Proof.Machine.execRtcAlarm s
  | .doorTamperSample doorLow tamperLow => Sys2Proof.Machine.execDoorTamperSample doorLow tamperLow s
  | .bsSample vhv bsfb vbat => Sys2Proof.Machine.execBsSample vhv bsfb vbat s
  | .kickPulse => Sys2Proof.Machine.execKickPulse s
  | .bsWakeTimeout => Sys2Proof.Machine.execBsWakeTimeout s
  | .bsRetryExpiry => Sys2Proof.Machine.execBsRetryExpiry s
  | .buckEnable a val vfb => Sys2Proof.Machine.execBuckEnable a val vfb s
  | .softStartEnd vfb => Sys2Proof.Machine.execSoftStartEnd vfb s
  | .hiccupEnd vfb => Sys2Proof.Machine.execHiccupEnd vfb s
  | .buckFaultDetect ilim vfb => Sys2Proof.Machine.execBuckFaultDetect ilim vfb s
  | .buckVsetWrite a val => Sys2Proof.Machine.execBuckVsetWrite a val s
  | .buckSlewDone vfb => Sys2Proof.Machine.execBuckSlewDone vfb s
  | .buckLatchClear a vfb => Sys2Proof.Machine.execBuckLatchClear a vfb s
  | .pgoodRelease vfb => Sys2Proof.Machine.execPgoodRelease vfb s
  | .pgoodLoss vfb => Sys2Proof.Machine.execPgoodLoss vfb s
  | .shedStart i0 i1 => Sys2Proof.Machine.execShedStart i0 i1 s
  | .shedSettleEnd abandon => Sys2Proof.Machine.execShedSettleEnd abandon s
  | .phaseReadd i0 => Sys2Proof.Machine.execPhaseReadd i0 s
  | .pumpEnable a val => Sys2Proof.Machine.execPumpEnable a val s
  | .prechargeEnd => Sys2Proof.Machine.execPrechargeEnd s
  | .hallCodeChange code => Sys2Proof.Machine.execHallCodeChange code s
  | .pumpDesat n => Sys2Proof.Machine.execPumpDesat n s
  | .pumpOvercurrent => Sys2Proof.Machine.execPumpOvercurrent s
  | .pumpBootstrapLow n => Sys2Proof.Machine.execPumpBootstrapLow n s
  | .pumpStallTimeout => Sys2Proof.Machine.execPumpStallTimeout s
  | .pumpRestartTimer => Sys2Proof.Machine.execPumpRestartTimer s
  | .vdrvLoss => Sys2Proof.Machine.execVdrvLoss s
  | .vdrvReturn => Sys2Proof.Machine.execVdrvReturn s
  | .auxCaps p tag => Sys2Proof.Machine.execAuxCaps p tag s
  | .aonTimeSet p tag => Sys2Proof.Machine.execAonTimeSet p tag s
  | .aonClear p tag => Sys2Proof.Machine.execAonClear p tag s
  | .auxBkSet p tag => Sys2Proof.Machine.execAuxBkSet p tag s
  | .auxStatus p tag => Sys2Proof.Machine.execAuxStatus p tag s
  | .resetPin => Sys2Proof.Machine.execResetPin s
  | .softwareResetWrite a val => Sys2Proof.Machine.execSoftwareResetWrite a val s
  | .warmResetAssert => Sys2Proof.Machine.execWarmResetAssert s
  | .watchdogKick a val => Sys2Proof.Machine.execWatchdogKick a val s
  | .watchdogExpiry => Sys2Proof.Machine.execWatchdogExpiry s
  | .bootRefTimeout => Sys2Proof.Machine.execBootRefTimeout s
  | .bootSlotAttempt hdrA hdrB keyOk sigOk bodyOk => Sys2Proof.Machine.execBootSlotAttempt hdrA hdrB keyOk sigOk bodyOk s
  | .bootRecordWrite addr words => Sys2Proof.Machine.execBootRecordWrite addr words s
  | .bootRecordWait addr mask value => Sys2Proof.Machine.execBootRecordWait addr mask value s
  | .bootRecordEnd hashOk => Sys2Proof.Machine.execBootRecordEnd hashOk s
  | .lifecycleFuseProgram => Sys2Proof.Machine.execLifecycleFuseProgram s
  | .eventArrival => Sys2Proof.Machine.execEventArrival s
  | .evtOutPulseStart n => Sys2Proof.Machine.execEvtOutPulseStart n s
  | .evtOutPulseEnd n => Sys2Proof.Machine.execEvtOutPulseEnd n s
  | .faultClassWrite a k val => Sys2Proof.Machine.execFaultClassWrite a k val s
  | .sysReset p tag => Sys2Proof.Machine.execSysReset p tag s
  | .bootStatus p tag => Sys2Proof.Machine.execBootStatus p tag s
  | .bootImage p tag keyOk sigOk bodyOk => Sys2Proof.Machine.execBootImage p tag keyOk sigOk bodyOk s
  | .svnAdvance p tag => Sys2Proof.Machine.execSvnAdvance p tag s
  | .evtRead p tag => Sys2Proof.Machine.execEvtRead p tag s
  | .evtPending p tag => Sys2Proof.Machine.execEvtPending p tag s
  | .evtClear p tag => Sys2Proof.Machine.execEvtClear p tag s
  | .w1cClear a addr val => Sys2Proof.Machine.execW1cClear a addr val s
  | .supplyValid k => Sys2Proof.Machine.execSupplyValid k s
  | .safetyConfigLoaded => Sys2Proof.Machine.execSafetyConfigLoaded s
  | .nqlFrameBad l code => Sys2Proof.Machine.execNqlFrameBad l code s
  | .modemHandshakeLine p => Sys2Proof.Machine.execModemHandshakeLine p s

end Sys2Proof.Machine
end

