-- ==== Sys2Proof/Machine/Tick.lean ====
section
/-! DEFINITION. What an idle step does in place of a command: one advance of the clocks and what they alone drive
(log entry 1). -/
namespace Sys2Proof.Machine
namespace Dev

/-- Ticks of the 800 MHz timebase in one period of the 32,768 Hz crystal, times 32,768 (R349). -/
def rtcUnit : Nat := 800000000

/-- `n` ticks pass on the real-time clock while its crystal runs (R349, R350). -/
def tickRtc (d : Dev) (n : Nat) : Dev :=
  if !d.aon.alive || !d.fb AON_STAT_XT_OK then d
  else
    let f := d.aon.frac + n * 32768
    if f < rtcUnit then { d with aon := { d.aon with frac := f } }
    else if 0 < d.aon.hold then { d with aon := { d.aon with frac := f - rtcUnit, hold := d.aon.hold - 1 } }
    else ({ d with aon := { d.aon with frac := f - rtcUnit } } : Dev).rtcAdd 1

/-- A whole millisecond of timebase has ended: each lane's steps are taken, and its count starts again (R170). -/
def laneLoads (d : Dev) : Dev :=
  { d with cen := { d.cen with lane := vmap (fun x => { x with loadNew := some x.steps, steps := 0 }) d.cen.lane } }

/-- The steps taken at the present tick are shown, after the tick's accesses (R423). -/
def laneShow (d : Dev) : Dev :=
  (List.range 4).foldl (fun d l =>
    match (vget d.cen.lane l).loadNew with
    | none => d
    | some n =>
      ({ d.fs CEN_LANE_l_STAT_LOAD (min n 1048575) l with
          cen := { d.cen with lane := vset d.cen.lane l { vget d.cen.lane l with loadNew := none } } } : Dev)) d

/-- One advance of the clocks. What the hardware owes the present tick comes first, behind the tick's accesses (R423): captures
asked by `SW`, the lanes' loads. Then the next tick begins: the timebase and PTP time with a step that waits for it (R61, R63,
R64), the real-time clock, the lanes' counts at a whole millisecond, the buck's period, a queued Neriq Link frame. While reset is held only the real-time clock runs, a tick at a time. -/
def idle (d : Dev) : Dev :=
  match d.sys.phase with
  | .hold => d.tickRtc 1
  | _ =>
    let n := d.advance
    let d := (d.swCaptures).laneShow.cgRollAll
    let e := ((d.tickClock).ptpApply).tickRtc n
    let e := if d.clk.ticks / msTicks = e.clk.ticks / msTicks then e else e.laneLoads
    e.buckPeriod.nqlDrain

end Dev
end Sys2Proof.Machine
end

