-- ==== Sys2Proof/Machine/Step.lean ====
section
/-! DEFINITION. One step of the machine: the command at the front of the queue, or an advance of the clocks. -/
namespace Sys2Proof.Machine

/-- Take the command at the front of the queue and run it; on an empty queue the clocks advance (log entry 1). -/
def step (s : State) : Host.Outcome State Fault Refusal :=
  match s.pending with
  | [] => s.lift false false Dev.idle
  | c :: t => exec c { s with pending := t }

/-- The machine with the command a word spells put at the front of its queue. -/
def State.withFetchWord (s : State) (nbits w : Nat) : State :=
  match decodeTableWord nbits w with
  | some c => { s with pending := c :: s.pending }
  | none => s

end Sys2Proof.Machine
end

