-- ==== Sys2Proof/Machine/Flags.lean ====
section
/-! DEFINITION. The status lines that follow from the state: reset output, host interrupt, DRAM reset. -/
namespace Sys2Proof.Machine
namespace Dev

/-- Level of `RST_OUT_N` (R377): low from the start of any reset until boot completes or fails. -/
def rstOutN (d : Dev) : Bool := d.sys.phase == .run && decide (4 ≤ d.fg SYS_BOOT_STAT_STATE)

/-- Level of `HIRQ_N` (R283). -/
def hirqN (d : Dev) : Bool := !d.hirq

/-- Level of `DDR_RESET_N` (R375): low until firmware sets `DRC_CTRL.EN`. -/
def ddrResetN (d : Dev) : Bool := d.fb DRC_CTRL_EN

end Dev
end Sys2Proof.Machine
end

