-- ==== Sys2Proof/Machine/Pins.lean ====
section
/-! DEFINITION. The output pins (R35, R36, R39, R43): the level of each as the state gives it. A pin of banks 0 to 5 takes its
reset state while the core has no power or reset is asserted, and is released while its bank is not valid. -/
namespace Sys2Proof.Machine

/-- What a pin does. -/
inductive Level where
  | low
  | high
  /-- high impedance: not driven, or an open-drain output released -/
  | z
  /-- its block clocks it, with a waveform that the state does not hold (log entry 99) -/
  | pulsing
  deriving DecidableEq, Repr

/-- Driven high where the condition holds, else low. -/
def Level.of (b : Bool) : Level := if b then .high else .low

/-- Open drain: pulled low where the condition holds, else released. -/
def Level.od (b : Bool) : Level := if b then .low else .z

namespace Dev

/-- `VDD_CORE` is valid and no reset is asserted: the clamp of R36 is released. -/
def coreOut (d : Dev) : Bool := d.sys.vddCore && d.sys.phase == .run

/-- An output of a bank with its reset state and the level that its block gives it (R35, R36, R43). -/
def pinOf (d : Dev) (bank : Nat) (rst lvl : Level) : Level :=
  if !d.bankOk bank then .z else if d.coreOut then lvl else rst

/-- `LEG_n_H` and `LEG_n_L`, on `VDD_IO_0`. -/
def pinLegH (d : Dev) (n : Nat) : Level := d.pinOf 0 .low (.of (d.leg n).outH)
def pinLegL (d : Dev) (n : Nat) : Level := d.pinOf 0 .low (.of (d.leg n).outL)

/-- `SDCK_k` (R69): high for the greater half of each period, low while it does not run. -/
def pinSdck (d : Dev) (k : Nat) : Level :=
  let div := d.fg SNS_SDCK_k_DIV k
  d.pinOf 1 .low (.of (d.fb SNS_SDCK_k_RUNNING k && decide ((d.clk.ticks - vget d.sns.sdck k) % (8 * div) < 8 * ((div + 1) / 2))))

/-- `HIRQ_N` and `RST_OUT_N`, open drain. -/
def pinHirqN (d : Dev) : Level := d.pinOf 2 .z (.od !d.hirqN)
def pinRstOutN (d : Dev) : Level := d.pinOf 2 .low (.od !d.rstOutN)

/-- `FL_RST_N`: the boot ROM releases it where it boots from flash; `FL_CS_N` and `FL_SCK` rest between flash commands (log
entry 99). -/
def pinFlRstN (d : Dev) : Level := d.pinOf 2 .low (.of (d.sys.bootSel != 1))
def pinFlCsN (d : Dev) : Level := d.pinOf 2 .high .high
def pinFlSck (d : Dev) : Level := d.pinOf 2 .low .low

/-- `STP_A` (0) and `STP_B` (1). -/
def pinStp (d : Dev) (c : Nat) : Level := d.pinOf 3 .low (.of (!d.saf.tpLow.testBit c && !d.fb SAF_STAT_SAFE_ALL))

/-- `SRD_0_A`, `SRD_0_B`, `SRD_1_A`, `SRD_1_B`. -/
def pinSrd (d : Dev) (i : Nat) : Level := d.pinOf 3 .low (.of (d.relayPins.testBit i))

/-- `DDR_RESET_N` and `DDR_CKE`, on `VDD_DRAM`. -/
def pinDdrResetN (d : Dev) : Level := if d.fb SYS_PWRSTAT_VDD_DRAM_OK then .of (d.coreOut && d.ddrResetN) else .z
def pinDdrCke (d : Dev) : Level :=
  if d.fb SYS_PWRSTAT_VDD_DRAM_OK then .of (d.coreOut && d.fb DRC_CTRL_EN && !d.drc.selfRefresh) else .z

/-- `BK_HG_n` and `BK_LG_n`: in soft start and regulation, from the first period in which VREF exceeds VFB, both phases switch, phase 1
where it is enabled and not shed. -/
def pinBk (d : Dev) (n : Nat) : Level :=
  let st := d.fg AUX_BK_STAT_STATE
  let on := (st == 1 || st == 2) && d.aux.bk.on && (n == 0 || (d.fb AUX_BK_CTRL_PH1_EN && !d.fb AUX_BK_STAT_SHED))
  d.pinOf 4 .low (if on then .pulsing else .low)

/-- `PGOOD_AUX`, open drain. -/
def pinPgood (d : Dev) : Level := d.pinOf 4 .low (.od !d.fb AUX_BK_STAT_PGOOD)

/-- `PMP_HG_n` and `PMP_LG_n`: of the chopping phase the high switch is chopped. -/
def pinPmpH (d : Dev) (n : Nat) : Level :=
  if !d.coreOut || !d.aux.pmp.hg.testBit n then .low else if d.aux.pmp.chop = some n then .pulsing else .high
def pinPmpL (d : Dev) (n : Nat) : Level :=
  if !d.coreOut then .low else if d.aux.pmp.chop = some n then .pulsing else .of (d.aux.pmp.lg.testBit n)

/-- `PLM_n_TXD` (MOSI) and `PLM_n_RTS_N` (SCK), between frames (R323, R35). -/
def pinPlmTxd (d : Dev) (_n : Nat) : Level := d.pinOf 4 .high .high
def pinPlmRts (d : Dev) (n : Nat) : Level := d.pinOf 4 .high (.of (!d.portOn n))

/-- `PLM_n_RST_N` (R323, R326). -/
def pinPlmRstN (d : Dev) (n : Nat) : Level :=
  d.pinOf 4 .low (.of (!d.fb LMP_PORT_p_CFG_RST n && !(vget d.lmp.port n).rst))

/-- `EVT_OUT_n` (R392). -/
def pinEvt (d : Dev) (n : Nat) : Level := d.pinOf 4 .low (.of (d.evtPin n))

/-- `TDO`: boundary scan lies outside the model. -/
def pinTdo (_d : Dev) : Level := .z

/-- `ETH_MDC` between management accesses, `ETH_A_RST_N` (0) and `ETH_B_RST_N` (1), `PTP_PPS`. -/
def pinMdc (d : Dev) : Level := d.pinOf 5 .low .low
def pinEthRstN (d : Dev) (x : Nat) : Level := d.pinOf 5 .low (.of (!d.fb NET_PORT_x_CFG_PHY_RST x))
def pinPps (d : Dev) : Level := d.pinOf 5 .low (.of d.clk.ppsHigh)

/-- `AON_WAKE` (R354) and `BS_DRV` (R357), on `VBAT_AON`. -/
def pinAonWake (d : Dev) : Level := .of (d.aon.alive && d.aonWake)
def pinBsDrv (d : Dev) : Level := if d.aon.alive && d.fg AON_BS_STAT_STATE == 2 then .pulsing else .low

end Dev
end Sys2Proof.Machine
end

