-- ==== Sys2Proof/Safety.lean ====
section
/-! DEFINITION. What a state keeps through every step, and the terms claims are stated in. -/
namespace Sys2Proof.Machine

/-- The memories are in canonical form and no write of an earlier step is under way. -/
def State.Inv (s : State) : Prop :=
  Memory.wf s.dev.lost s.dev.mem = true ∧ Memory.wf [] s.dev.mram = true ∧ s.dev.out = [] ∧ s.dev.outM = []

/-- The device is out of reset (R375, R379). -/
def State.up (s : State) : Prop := s.dev.sys.phase = .run

/-- The rows on which Tallyman acts, so that they may write its ledger (R32): metering, its seal and commands, power failure,
steps of PTP time, and the rows that can write any register or reset the device. -/
def ledgerRow : Instr → Bool
  | .registerWrite .. | .hiWriteCommit .. | .vddCoreFall .. | .supplyFallPor .. | .resetRelease .. | .bankValidDetect ..
  | .bankInvalid .. | .supplyMonitorDrop .. | .ptpStep .. | .oneSecondStrobe .. | .timeTriggerFire ..
  | .meteringSampleDelivery .. | .pfailFall .. | .pfFlushTimer .. | .tallymanEnable .. | .tallymanDisable ..
  | .talConfigWrite .. | .talSealWrite .. | .talUnseal .. | .postedWritePerform .. | .replyRelease .. | .regWriteCmd ..
  | .regModify .. | .ethFrameReceived .. | .sessionPacketReceived .. | .resetPin .. | .softwareResetWrite ..
  | .warmResetAssert .. | .watchdogExpiry .. | .bootRefTimeout .. | .bootRecordWrite .. | .bootRecordWait .. | .bootRecordEnd ..
  | .w1cClear .. | .supplyValid .. | .sysReset .. => true
  | _ => false

/-- The rows on which the safety supervisor acts (R22): its inputs, timers and commands, the grid functions' demands, and the rows that
can write any register or reset the device. -/
def supervisorRow : Instr → Bool
  | .registerWrite .. | .vddCoreFall .. | .supplyFallPor .. | .resetRelease .. | .bankValidDetect .. | .bankInvalid ..
  | .supplyMonitorDrop .. | .gridEnable .. | .gridDisable .. | .gridSampleDecision .. | .measChannelTimeout .. | .v10Update ..
  | .ceaseTimeout .. | .actInvalidTimeout .. | .contactorCloseTimeout .. | .reconnectDelayExpiry .. | .grdReconnect ..
  | .grdDisconnect .. | .safetyInputAccepted .. | .discrepancyTimeout .. | .testPulseStart .. | .testPulseCheck ..
  | .testPulseEnd .. | .stateVectorExchange .. | .partnerVectorTimeout .. | .exchangeRateCheck .. | .bCrystalLoss ..
  | .connectionCheckStart .. | .checkTimerExpiry .. | .mirrorFeedbackChange .. | .feedbackTimeout .. | .relayVerified ..
  | .feedbackDisagreeTimeout .. | .offPulseStart .. | .offPulseEnd .. | .weldTestEnd .. | .safetyPduReceived ..
  | .pduExpectationTimeout .. | .pduSendTimer .. | .safUlChallenge .. | .safUlConfig .. | .safUlFaultAck ..
  | .safUlRestartAck .. | .unlockVerifyComplete .. | .safNonceExpiry .. | .safChallenge .. | .safUnlock .. | .safWeldtest ..
  | .postedWritePerform .. | .replyRelease .. | .regWriteCmd .. | .regModify .. | .sessionPacketReceived .. | .resetPin ..
  | .softwareResetWrite .. | .warmResetAssert .. | .watchdogExpiry .. | .bootRefTimeout .. | .bootRecordWrite ..
  | .bootRecordWait .. | .bootRecordEnd .. | .w1cClear .. | .supplyValid .. | .safetyConfigLoaded ..
  | .sysReset .. => true
  | _ => false

/-- The rows that act whether or not the device is out of reset: supplies, banks, reset, Nightwatch (R20, R375, R379). -/
def actsInReset : Instr → Bool
  | .vddCoreFall .. | .supplyFallPor .. | .resetRelease .. | .bankValidDetect .. | .bankInvalid .. | .supplyMonitorDrop ..
  | .vbatFirstApplication .. | .vbatLoss .. | .vbatSample .. | .crystalLoss .. | .crystalRestart .. | .rtcTrimTimer ..
  | .rtcAlarm .. | .doorTamperSample .. | .bsSample .. | .kickPulse .. | .bsWakeTimeout .. | .bsRetryExpiry ..
  | .warmResetAssert .. | .supplyValid .. => true
  | _ => false

/-- The parts of the device: the register file, each block's own state, the memories, what has been handed to the interfaces. -/
inductive Part where
  | regs | clk | sns | pwm | trp | cen | grd | wgh | thm | tal | saf | sys
  | evt | hst | net | nql | drc | lmp | aon | aux | mem | mram | tx
  deriving DecidableEq, Repr

/-- A part of the device is as it was. -/
def Part.same (d e : Dev) : Part → Prop
  | .regs => e.regs = d.regs
  | .clk => e.clk = d.clk
  | .sns => e.sns = d.sns
  | .pwm => e.pwm = d.pwm
  | .trp => e.trp = d.trp
  | .cen => e.cen = d.cen
  | .grd => e.grd = d.grd
  | .wgh => e.wgh = d.wgh
  | .thm => e.thm = d.thm
  | .tal => e.tal = d.tal
  | .saf => e.saf = d.saf
  | .sys => e.sys = d.sys
  | .evt => e.evt = d.evt
  | .hst => e.hst = d.hst
  | .net => e.net = d.net
  | .nql => e.nql = d.nql
  | .drc => e.drc = d.drc
  | .lmp => e.lmp = d.lmp
  | .aon => e.aon = d.aon
  | .aux => e.aux = d.aux
  | .mem => e.mem = d.mem ∧ e.lost = d.lost
  | .mram => e.mram = d.mram
  | .tx => e.tx = d.tx

/-- For the rows of one block that reach no other: the parts they may change. -/
def touched : Instr → Option (List Part)
  | .ppsRise | .ppsFall | .ptpCapEdge | .refGoodTimeout | .bandMeasureDone .. | .lockAttemptTimeout => some [.regs, .clk, .evt]
  | .stuckRecovered .. | .rotationHandover | .rotationOffsetMeasured .. | .auxScanStart | .rotationStepStart | .auxSelftestDue
  | .meteringSample .. | .openWireConversionDone .. | .auxSelftestConversionDone .. => some [.regs, .sns, .evt]
  | .markerTimeout => some [.regs, .pwm, .evt, .tx]
  | .slotDispatch .. | .cooperSelftestDue | .scrivenerPostDone .. => some [.regs, .cen, .evt]
  | .suspectHoldExpiry | .enterServiceRampEnd | .coopPeerTimeout .. => some [.regs, .grd, .evt]
  | .burstReservationLapse | .wghReqFrameReceived .. | .wghCeilFrameReceived .. | .followerCeilingWrite | .graceExpiry .. => some [.regs, .wgh, .thm, .evt]
  | .talNonceExpiry | .missingSetTimeout | .pfailRise => some [.regs, .tal, .evt]
  | .testPulseStart .. | .testPulseEnd .. | .connectionCheckStart .. | .safNonceExpiry | .relayVerified .. => some [.regs, .saf, .grd, .evt]
  | .hostStatus | .commandStart .. | .accessTimeout .. | .hostBadInstruction .. | .hostReadTimeout .. | .hostReply
  | .hostWrite .. => some [.regs, .hst, .evt]
  | .trcRead .. | .talReadInt .. | .safReadCfg .. | .sysNop .. | .memReadCmd .. | .hstAbort .. | .cenClear .. | .talClear ..
  | .netSessClose .. | .netRekey .. | .svnAdvance .. | .evtRead .. | .evtClear .. | .sysCaps .. | .pwmCaps .. | .trpCaps ..
  | .snsCaps .. | .cenCaps .. | .trcCaps .. | .grdCaps .. | .wghCaps .. | .thmCaps .. | .talCaps .. | .safCaps ..
  | .nqlCaps .. | .lmpCaps .. | .auxCaps .. | .trpStatus .. | .cenStatus .. | .wghStatus .. | .thmStatus .. | .talStatus ..
  | .safStatus .. | .netStatus .. | .nqlStatus .. | .lmpStatus .. | .auxStatus .. => some [.regs, .hst]
  | .dramZqCalTimer | .dramDqsCheckTimer .. | .dramTrainingComplete .. | .dramScrubPass .. | .laneNosigTimeout ..
  | .nqlFrameBad .. | .pingReceived .. | .pingTimer .. | .capBroadcastTimer | .nodePresenceTimeout .. | .nqlFrameForward ..
  | .laneSyncAchieved .. | .laneTrained .. | .echoReceived .. | .laneErrorBurst .. | .ethLinkChange .. => some [.regs, .nql, .drc, .evt, .tx]
  | .dataConfirm .. | .getConfirm .. | .plcFrameBad .. | .modemHandshakeLine .. | .lmpBeatReceived .. | .takeoverComplete
  | .modemRestart .. | .plcResetTimer .. => some [.regs, .lmp, .evt, .tx]
  | .vbatFirstApplication | .vbatLoss | .vbatSample .. | .crystalLoss | .crystalRestart | .rtcTrimTimer | .rtcAlarm
  | .doorTamperSample .. | .bsSample .. | .kickPulse | .bsWakeTimeout | .bsRetryExpiry => some [.regs, .aon, .evt]
  | .hiccupEnd .. | .phaseReadd .. | .shedStart .. | .pumpRestartTimer | .vdrvLoss | .vdrvReturn | .pgoodRelease ..
  | .pgoodLoss .. | .prechargeEnd | .hallCodeChange .. | .pumpDesat .. | .pumpOvercurrent | .pumpBootstrapLow ..
  | .pumpStallTimeout | .buckSlewDone .. | .softStartEnd .. | .buckFaultDetect .. => some [.regs, .aux, .evt, .hst]
  | .evtOutPulseStart .. | .evtOutPulseEnd .. => some [.regs, .evt]
  | .lifecycleFuseProgram => some [.sys]
  | _ => none

/-- The machine whose device has become `e`: the writes of the step land in SRAM and DRAM; the ledger and the
supervisor are as they were. -/
def State.to (s : State) (e : Dev) : State := { s with dev := Dev.land false false s.dev e }

/-- The same where Tallyman acts: its writes land in the ledger (R32). -/
def State.toTal (s : State) (e : Dev) : State := { s with dev := Dev.land true false s.dev e }

/-- The same where the safety supervisor acts (R22). -/
def State.toSaf (s : State) (e : Dev) : State := { s with dev := Dev.land false true s.dev e }

/-- The same where both act. -/
def State.toAll (s : State) (e : Dev) : State := { s with dev := Dev.land true true s.dev e }

/-- A command of opcode `op` with a payload has started on a path under a tag, and its block has yet to execute it. -/
def Dev.started (d : Dev) (p : Path) (tag : Byte) (op : Nat) (payload : List Byte) : Prop :=
  ∃ c, d.startedCmd p tag.toNat op = some c ∧ c.payload = payload

/-- The machine whose device has become `e`, the command's reply standing with it (R288). -/
def State.answer (s : State) (e : Dev) (p : Path) (tag : Byte) (st : St) (bytes : List Byte) : State :=
  s.to (e.complete p tag.toNat st bytes)

/-- In `e` the command that was outstanding in `d` on a path under a tag has completed: its reply waits, or it is over where `NOREPLY`
suppresses the reply (R287). -/
def Dev.completed (d e : Dev) (p : Path) (tag : Byte) (st : St) (bytes : List Byte) : Prop :=
  if st = .ok ∧ d.noReply p tag.toNat = true then e.findCmd p tag.toNat = none
  else (e.findCmd p tag.toNat).map (·.done) = some (some (st, bytes))

/-- A write of the word `w` to the register at `a` is accepted (R8). -/
def Dev.accepts (d : Dev) (acc : Acc) (a w : Nat) : Prop := (d.regWrite acc a w).1 = .ok

/-- The slot has its lane and executes `i` next (R149). -/
def Dev.atIns (d : Dev) (sl : Nat) (i : Ins) : Prop := d.coopTurn sl = true ∧ d.coopFetch sl = some i

/-- The device once the slot's instruction has been fetched (R163: a single-bit error in it is corrected and counted). -/
def Dev.fetched (d : Dev) (sl : Nat) : Dev := d.coopTouch 0 (d.slot sl).pc

/-- The slot's instruction is over after `n` steps: they are counted, the program counter or the repeat moves on (R147). -/
def Dev.done (d : Dev) (sl n : Nat) : Dev := (d.countSteps sl n).coopAdvance sl

/-- The slot's instruction adds a contribution to accumulator `a` (R142) and is over. -/
def Dev.added (d : Dev) (sl a : Nat) (p ec : Int) : Dev :=
  let r := (d.ac sl a).add p ec
  ((d.setA sl a r.1).satIf sl r.2.2).done sl r.2.1

/-- The commit token of slot `sl` for legs `l` (R152): the execution that sends it, and with each leg the load point aimed at and the
uncommitted pair. -/
def Dev.tokenOf (d : Dev) (sl : Nat) (l : List Nat) : Token where
  slot := sl
  exec := (d.slot sl).exec
  legs := l.map fun n => (n, ((d.leg n).tent.map (·.seq)).getD (d.nextLp n), (d.leg n).tent)

end Sys2Proof.Machine
end

