-- ==== Sys2Proof/Certificates/Slice0/Obligations.lean ====
section
/-! DEFINITION. The statements for the provers: what each family of commands does, and what the whole machine keeps. -/

open Sys2Proof Sys2Proof.Machine

/-! ### Clocks and time (03) -/

/-- R48 to R50, R65 to R69: what a missing edge, a frequency count and the reference's return declare (the count window is 97,168 to
98,144); the PPS pin, captures and time triggers.
Where these rules leave a choice it is the model's (log entries 34 and 35). -/
def Obligations.ReferenceAndTime : Prop :=
  (∀ s : State, s.up → let d := s.dev
    (d.fb CLK_REF_STAT_REF_OK = true → d.fb CLK_PLL_STAT_LOCKED = true → ∃ t, exec .missingEdgeDetect s = .next t ∧
      t.dev.fg CLK_REF_STAT_REF_OK = 0 ∧ t.dev.fg CLK_REF_STAT_REF_MISSING = 1 ∧ t.dev.fg CLK_PLL_STAT_LOL = 1 ∧
      t.dev.fg CLK_PLL_STAT_PWM_HOLD = 1 ∧ t.dev.fg CLK_PLL_STAT_FALLBACK = 1 ∧ t.dev.fg CLK_PLL_STAT_LOCKED = 0) ∧
    (∀ n : BitVec 20, d.fb CLK_REF_STAT_XT_CHECK_OFF = false → (n.toNat < 97168 ∨ 98144 < n.toNat) → ∃ t, exec (.frequencyCount n) s = .next t ∧
      t.dev.fg CLK_REF_STAT_REF_CNT = n.toNat % 2 ^ CLK_REF_STAT_REF_CNT.len ∧ t.dev.fg CLK_REF_STAT_REF_FREQ_BAD = 1 ∧ t.dev.fg CLK_REF_STAT_REF_OK = 0) ∧
    (∀ n : BitVec 20, d.fb CLK_REF_STAT_XT_CHECK_OFF = false → 97168 ≤ n.toNat → n.toNat ≤ 98144 → d.clk.missFired = false →
      ∃ t, exec (.frequencyCount n) s = .next t ∧ t.dev.fg CLK_REF_STAT_REF_OK ≠ 0 ∧ t.dev.clk.missFired = !d.clk.refPresent) ∧
    (d.fb CLK_REF_STAT_XT_CHECK_OFF = true → d.clk.refPresent = true → ∃ t, exec .refGoodTimeout s = .next t ∧ t.dev.fg CLK_REF_STAT_REF_OK ≠ 0) ∧
    (d.clk.refPresent = false → ∃ t, exec .referenceReturn s = .next t ∧ t.dev.clk.refPresent = true ∧ t.dev.fg CLK_PLL_STAT_HOLDOVER = 0 ∧
      ∀ k : Fin 4, d.fb SNS_SDCK_k_EN k = true → t.dev.fg SNS_SDCK_k_RUNNING k = 1) ∧
    (d.fb CLK_PLL_STAT_LOCKED = true → ∃ t, exec .lossOfLock s = .next t ∧ t.dev.fg CLK_PLL_STAT_LOL = 1 ∧
      t.dev.fg CLK_PLL_STAT_PWM_HOLD = 1 ∧ t.dev.fg CLK_PLL_STAT_FALLBACK = 1 ∧ t.dev.fg CLK_PLL_STAT_LOCKED = 0 ∧
      t.dev.fg CLK_TB_HI_DEGRADED = 1 ∧ ∃ e ∈ t.dev.evt.inflight, e.num = 120)) ∧
  (∀ (s : State) (a : Acc), s.up → let d := s.dev
    (d.fb CLK_PTP_CTRL_PPS_EN = true → d.fb CLK_PTP_CTRL_TIME_VALID = true → d.justCarried = true →
      exec .ppsRise s = .next (s.to { d with clk := { d.clk with ppsHigh := true, ppsRise := d.ptpNow } })) ∧
    (exec .ppsFall s = .next (s.to (if d.clk.ppsRise + d.fg CLK_PTP_CTRL_PPS_WIDTH * 10 ^ 6 * 2 ^ 28 ≤ d.ptpNow then
      { d with clk := { d.clk with ppsHigh := false } } else d))) ∧
    (∀ val : W32, CLK_SNAP_CTRL_SW.of val.toNat = 1 → d.accepts a (CLK_SNAP_CTRL_SW.at 0) val.toNat → ∃ t, exec (.snapSwCapture a val) s = .next t ∧
      t.dev.clk.snapAt = d.clk.snapAt ++ [d.clk.ticks + 1] ∧ t.dev.clk.ticks = d.clk.ticks) ∧
    (d.clk.snapAt = [d.clk.ticks] → let c := d.swCaptures
      c.fg CLK_SNAP_TB_LO_TB = d.clk.ticks % 2 ^ 32 ∧ c.fg CLK_SNAP_NS_NS = d.clk.ptpNs % 2 ^ CLK_SNAP_NS_NS.len ∧
      c.fg CLK_SNAP_SEC_LO_SEC = d.clk.ptpSec % 2 ^ 32 ∧ c.clk.snapUnread = true ∧ c.clk.snapAt = []) ∧
    (d.fb CLK_SNAP_CTRL_CAP_EN = true → ∃ t, exec .ptpCapEdge s = .next t ∧ t.dev.fg CLK_SNAP_TB_LO_TB = d.clk.ticks % 2 ^ 32 ∧
      t.dev.fg CLK_SNAP_CTRL_SEQ = (d.fg CLK_SNAP_CTRL_SEQ + 1) % 2 ^ CLK_SNAP_CTRL_SEQ.len ∧ t.dev.clk.snapUnread = true) ∧
    (∃ t, exec (.snapNsRead a) s = .next t ∧ t.dev.clk.snapUnread = false ∧ t.dev.hst.lastRead = d.word (CLK_SNAP_NS_NS.at 0) ∧ t.dev.regs = d.regs) ∧
    (∀ n : Fin 4, d.fb CLK_TTRIG_n_CTRL_ARM n = true → d.ttrigDue n = true → d.fg CLK_TTRIG_n_CTRL_TARGET n = 0 →
      let e := ((d.fs CLK_TTRIG_n_CTRL_ARM 0 n).fs CLK_TTRIG_n_CTRL_FIRED 1 n).raise 124 n
      exec (.timeTriggerFire n) s = .next (s.toTal (if d.ttrigLate n then e.fs CLK_TTRIG_n_CTRL_LATE 1 n else e))) ∧
    (∀ val : W32, ∃ t, exec (.ptpStep a val) s = .next t ∧ t.dev.clk =
      { d.clk with ofs := some (d.clk.ofs.getD 0 + sval 64 (d.pairLo a 0x20010308 0x20010308 + 2 ^ 32 * val.toNat)) }) ∧
    (∀ ns, d.clk.ofs = some ns → let c := d.ptpApply.clk
      (c.ptpSec, c.ptpNs, c.ptpFrac) = (let e := d.ptpAdd (ns * 2 ^ 28); (e.clk.ptpSec, e.clk.ptpNs, e.clk.ptpFrac)) ∧ c.ofs = none ∧
      (ns ≤ 0 → c.stepped = 0) ∧ ∀ n : Fin 4, d.ttrigDue n = true → c.stepped.testBit n = false))

/-- R53, R54, R58 to R60: the PLL is enabled and disabled, bands are measured, a band locks or is given up, the hold is
released.
Where these rules leave a choice it is the model's (log entry 34). -/
def Obligations.PllAcquires : Prop :=
  ∀ (s : State) (a : Acc), s.up → let d := s.dev
    (∀ val : W32, CLK_PLL_CTRL_EN.of val.toNat = 1 → d.fb CLK_PLL_CTRL_EN = false → d.accepts a (CLK_PLL_CTRL_EN.at 0) val.toNat →
      d.fb CLK_REF_STAT_REF_OK = false → ∃ t, exec (.pllEnable a val) s = .next t ∧ t.dev.fg CLK_PLL_CTRL_EN = 1 ∧
        t.dev.clk.acq = some { byEn := true, phase := .waitRef }) ∧
    (∀ val : W32, CLK_PLL_CTRL_EN.of val.toNat = 1 → d.fb CLK_PLL_CTRL_EN = false → d.accepts a (CLK_PLL_CTRL_EN.at 0) val.toNat →
      d.fb CLK_REF_STAT_REF_OK = true → d.fb CLK_PLL_STAT_BAND_VALID = true → ∃ t, exec (.pllEnable a val) s = .next t ∧ t.dev.fg CLK_PLL_STAT_ACQ = 1 ∧
        t.dev.clk.acq = some { byEn := true, phase := .measLast (d.fg CLK_PLL_STAT_BAND) }) ∧
    (∀ val : W32, CLK_PLL_CTRL_EN.of val.toNat = 0 → d.fb CLK_PLL_CTRL_EN = true → d.accepts a (CLK_PLL_CTRL_EN.at 0) val.toNat →
      ∃ t, exec (.pllDisable a val) s = .next t ∧ t.dev.fg CLK_PLL_CTRL_EN = 0 ∧ t.dev.fg CLK_PLL_STAT_PWM_HOLD = 1 ∧
        t.dev.fg CLK_PLL_STAT_FALLBACK = 1 ∧ t.dev.fg CLK_PLL_STAT_LOCKED = 0 ∧ t.dev.clk.acq = none) ∧
    (∀ (mhz : BitVec 12) q b, d.clk.acq = some q → q.phase = .measLast b → b < 32 → 3160 ≤ mhz.toNat → mhz.toNat ≤ 3240 →
      ∃ t, exec (.bandMeasureDone mhz) s = .next t ∧ t.dev.fg CLK_BAND_n_F_MEAS b = mhz.toNat ∧ t.dev.clk.acq = some { q with phase := .loop b }) ∧
    (∀ q b, d.clk.acq = some q → q.phase = .loop b → b < 32 → ∃ t, exec .lockDeclared s = .next t ∧ t.dev.fg CLK_PLL_STAT_LOCKED = 1 ∧
      t.dev.fg CLK_PLL_STAT_BAND = b ∧ t.dev.fg CLK_PLL_STAT_BAND_VALID = 1 ∧ t.dev.fg CLK_PLL_STAT_FALLBACK = 0 ∧ t.dev.clk.acq = none) ∧
    (∀ q b, d.clk.acq = some q → q.phase = .loop b → q.measured ≠ [] →
      exec .lockAttemptTimeout s = .next (s.to (d.acqChoose { q with disq := q.disq ++ [b] }))) ∧
    (∀ q, d.clk.acq = some q → q.phase = .waitRef → d.fb CLK_REF_STAT_REF_OK = false → d.fb CLK_REF_STAT_XT_CHECK_OFF = true → d.clk.refPresent = true →
      d.fb CLK_PLL_STAT_BAND_VALID = true → ∃ t, exec .refGoodTimeout s = .next t ∧ t.dev.clk.acq =
        if q.byEn || d.fb CLK_PLL_CTRL_AUTO_RELOCK then some { byEn := q.byEn, phase := .measLast (d.fg CLK_PLL_STAT_BAND) } else none) ∧
    (∀ val : W32, CLK_PLL_STAT_PWM_HOLD.of val.toNat = 1 → CLK_PLL_STAT_HOLD_CLR_REFUSED.of val.toNat = 0 → d.fb CLK_PLL_STAT_PWM_HOLD = true →
      d.fb CLK_PLL_STAT_LOCKED = true → d.fb CLK_PLL_STAT_FALLBACK = false →
      ∃ t, exec (.pwmHoldRelease a val) s = .next t ∧ t.dev.fg CLK_PLL_STAT_PWM_HOLD = 0) ∧
    (∀ val : W32, CLK_PLL_STAT_PWM_HOLD.of val.toNat = 1 → d.fb CLK_PLL_STAT_PWM_HOLD = true → d.fb CLK_PLL_STAT_FALLBACK = true →
      ∃ t, exec (.pwmHoldRelease a val) s = .next t ∧ t.dev.fg CLK_PLL_STAT_PWM_HOLD ≠ 0 ∧ t.dev.fg CLK_PLL_STAT_HOLD_CLR_REFUSED = 1)

/-! ### Registers (00) -/

/-- R6 to R9, R13, R20: an access to any register: what an accepted write leaves (bits of no field that it reaches count for nothing), a write
without effect, the halves of a pair, a cleared bit,
a read that clears, an access through the Nightwatch bridge.
Where these rules leave a choice it is the model's (log entries 13, 15, 17 and 21). -/
def Obligations.RegisterAccess : Prop :=
  ∀ (s : State) (a : Acc) (addr val : W32) (r : Reg) (n : Nat), s.up → let d := s.dev
    findReg addr.toNat = some (r, n) → addr.toNat % 4 = 0 → d.aonDead addr.toNat = false →
    (addr.toNat / 65536 ≠ 0x2009 ∨ Dev.unlockAddr addr.toNat = true) →
    (∀ e w, Dev.writePairs.contains r.base = false → Dev.writePairs.contains (r.base - 4) = false → (d.writeReg r n val.toNat).1 = .ok →
      Dev.reached r val.toNat = w → (r.flds.foldl (d.storeFld r.base n w) d).afterReg d r.base n w = e →
      exec (.registerWrite a addr val) s = .next (s.toAll e) ∧
      ((r.flds.any fun f => f.acc == .W1C && f.fld.of val.toNat != 0) = true → exec (.w1cClear a addr val) s = .next (s.toAll e)) ∧
      (addr.toNat / 65536 = 0x200D → exec (.aonBridgeAccess a true addr val) s = .next (s.to e))) ∧
    (∀ w, Dev.writePairs.contains r.base = false → Dev.writePairs.contains (r.base - 4) = false → Dev.reached r val.toNat = w →
      d.authReg r.base n w = false → (Dev.badEncoding r w || d.rangeReg r.base n w) = true →
      exec (.registerWrite a addr val) s = .next (s.toAll d) ∧ d.regWrite a addr.toNat val.toNat = (.range, d)) ∧
    (Dev.writePairs.contains r.base = true →
      exec (.loWriteHold a addr val) s = .next (s.to (d.holdLo a addr.toNat val.toNat)) ∧
      (d.holdLo a addr.toNat val.toNat).regs = d.regs) ∧
    (Dev.writePairs.contains (r.base - 4) = true → exec (.hiWriteCommit a addr val) s = .next (s.toTal
      ((d.commitPair (r.base - 4) n (d.pairLo a (r.base - 4) (addr.toNat - 4)) val.toNat).dropLo a (addr.toNat - 4)))) ∧
    ((r.flds.any (·.acc == .RC)) = true → ∃ t, exec (.rcFieldRead a addr) s = .next t ∧ t.dev.hst.lastRead = d.readWord a addr.toNat ∧
      ∀ f ∈ r.flds, (f.acc = .RC → t.dev.fg f.fld n = 0) ∧ (f.acc = .RO → t.dev.fg f.fld n = d.fg f.fld n)) ∧
    (addr.toNat / 65536 = 0x200D → exec (.aonBridgeAccess a false addr val) s = .next (s.to (d.regRead a addr.toNat).2))

/-- R12: a `_LO` read copies the `_HI` word and the sequence number on its path; the next `_HI` read on that path returns the copy, whatever the
device has become, and the other path's holding register is as it was.
Where these rules leave a choice it is the model's (log entry 17). -/
def Obligations.SnapshotHolds : Prop :=
  ∀ (s : State) (a : Acc) (addr : W32) (r r' : Reg) (n n' : Nat), s.up → let d := s.dev
    findReg addr.toNat = some (r, n) → findReg (addr.toNat + 4) = some (r', n') → r'.base = r.base + 4 → addr.toNat % 4 = 0 →
    d.aonDead addr.toNat = false → Dev.readPairs.contains r.base = true →
    ∃ t hi, exec (.loReadSnapshot a addr) s = .next t ∧ hi = ({ d with hst := { d.hst with lastRead := d.readWord a addr.toNat } } : Dev).word (addr.toNat + 4) ∧
      (t.dev.holdOf a addr.toNat).lo = addr.toNat ∧ (t.dev.holdOf a addr.toNat).hi = hi ∧ (t.dev.holdOf a addr.toNat).seq = d.pairSeq r.base n ∧
      (∀ e : Dev, e.hst.hold = t.dev.hst.hold → e.aon.alive = true → (addr.toNat + 4) % 65536 ≠ 0xFFFC → e.readWord a (addr.toNat + 4) = hi) ∧
      (∀ b : Acc, b ≠ a → t.dev.holdOf b addr.toNat = d.holdOf b addr.toNat)

/-- R283: the host's interrupt line. -/
def Obligations.HostInterruptLine : Prop :=
  ∀ d : Dev, d.hirqN = false ↔
    (d.fb HST_IRQ_REPLY = true ∧ d.fbit HST_IRQ_MASK 0 = true) ∨ (d.fb HST_IRQ_WOVF = true ∧ d.fbit HST_IRQ_MASK 1 = true) ∨
    (d.fb HST_IRQ_FRAME = true ∧ d.fbit HST_IRQ_MASK 2 = true) ∨ (d.fb HST_IRQ_EVT = true ∧ d.fbit HST_IRQ_MASK 3 = true)
/-! ### Cooper's instructions (07) -/

/-- R142, R143, R145, R147, R425: the instructions that accumulate, each word being read before it is added, and `CLR`; the instructions that
scale, limit, convert and store accumulators. -/
def Obligations.CooperArithmetic : Prop :=
  (∀ (s : State) (sl : Fin 64) (a : Fin 4), s.up → let d := s.dev.fetched sl
    (∀ (c n : BitVec 12) w v d1 d2, s.dev.atIns sl (.mac a c.toNat n.toNat) →
      d.rdC sl (c.toNat + d.repC sl) = (0, w, d1) → d1.rdS sl (n.toNat + d.repS sl) = (0, v, d2) →
      exec (.mac sl a c n) s = .next (s.to (d2.added sl a (wm v * wm w) (we v + we w)))) ∧
    (∀ (c n : BitVec 12) w v d1 d2, s.dev.atIns sl (.msu a c.toNat n.toNat) →
      d.rdC sl (c.toNat + d.repC sl) = (0, w, d1) → d1.rdS sl (n.toNat + d.repS sl) = (0, v, d2) →
      exec (.msu sl a c n) s = .next (s.to (d2.added sl a (-(wm v * wm w)) (we v + we w)))) ∧
    (∀ (x : Fin 8) (n : BitVec 12) w d1, s.dev.atIns sl (.macx a x n.toNat) → d.rdC sl (n.toNat + d.repC sl) = (0, w, d1) →
      exec (.macx sl a x n) s = .next (s.to (d1.added sl a (wm w * wm (d.xr sl x)) (we w + we (d.xr sl x))))) ∧
    (∀ (x : Fin 8) (n : BitVec 12) w d1, s.dev.atIns sl (.msux a x n.toNat) → d.rdC sl (n.toNat + d.repC sl) = (0, w, d1) →
      exec (.msux sl a x n) s = .next (s.to (d1.added sl a (-(wm w * wm (d.xr sl x))) (we w + we (d.xr sl x))))) ∧
    (∀ (x : Fin 8) (n : BitVec 12) w d1, s.dev.atIns sl (.macs a x n.toNat) → d.rdS sl (n.toNat + d.repS sl) = (0, w, d1) →
      exec (.macs sl a x n) s = .next (s.to (d1.added sl a (wm w * wm (d.xr sl x)) (we w + we (d.xr sl x))))) ∧
    (∀ x y : Fin 8, s.dev.atIns sl (.mulx a x y) →
      exec (.mulx sl a x y) s = .next (s.to (d.added sl a (wm (d.xr sl x) * wm (d.xr sl y)) (we (d.xr sl x) + we (d.xr sl y))))) ∧
    (∀ x : Fin 8, s.dev.atIns sl (.addx a x) →
      exec (.addx sl a x) s = .next (s.to (d.added sl a (wm (d.xr sl x) * 2 ^ 23) (we (d.xr sl x))))) ∧
    (∀ x : Fin 8, s.dev.atIns sl (.subx a x) →
      exec (.subx sl a x) s = .next (s.to (d.added sl a (-(wm (d.xr sl x) * 2 ^ 23)) (we (d.xr sl x))))) ∧
    (s.dev.atIns sl (.clr a) → exec (.clr sl a) s = .next (s.to ((d.setA sl a {}).done sl 1)))) ∧
  (∀ (s : State) (sl : Fin 64) (a : Fin 4), s.up → let d := s.dev.fetched sl
    (∀ k : BitVec 6, s.dev.atIns sl (.shx a k.toNat) →
      exec (.shx sl a k) s = .next (s.to (((d.setA sl a ((d.ac sl a).shx k.toInt).1).satIf sl ((d.ac sl a).shx k.toInt).2).done sl 1))) ∧
    (∀ (n : BitVec 12) lo hi d1 d2 y ch, s.dev.atIns sl (.lim a n.toNat) → d.rdC sl n.toNat = (0, lo, d1) →
      d1.rdC sl (n.toNat + 1) = (0, hi, d2) → (d2.ac sl a).lim lo hi = (y, ch) →
      exec (.lim sl a n) s = .next (s.to ((if ch then (d2.setA sl a y).updSlot sl fun x => { x with fL := true }
        else d2.setA sl a y).done sl 2))) ∧
    (∀ (x : Fin 8) m e sat, s.dev.atIns sl (.rnd x a) → (d.ac sl a).q.rnd = (m, e, sat) →
      exec (.rnd sl x a) s = .next (s.to ((((d.setX sl x (mkW m e)).satIf sl sat).updSlot sl fun y =>
        { y with fN := decide (m < 0) }).done sl 1))) ∧
    (∀ (k : BitVec 6) (n : BitVec 12) w sat d1, s.dev.atIns sl (.sta a k.toNat n.toNat) → (d.ac sl a).q.sta k.toInt = (w, sat) →
      (d.satIf sl sat).stS sl n.toNat w = (0, d1) → exec (.sta sl a k n) s = .next (s.to (d1.done sl 1))) ∧
    (∀ (k : BitVec 6) (n : BitVec 12) l sat d1, s.dev.atIns sl (.nrm a k.toNat n.toNat) →
      nrmW ((List.range (a + 1)).map (d.ac sl)) k.toInt = (l, sat) → (d.satIf sl sat).stAll sl n.toNat l = (0, d1) → exec (.nrm sl a k n) s = .next (s.to (d1.done sl (a + 2)))))


/-- R143: a value that a word can hold with some exponent is rounded to a word that is normalised: its mantissa fills its 23
magnitude bits unless the exponent is the smallest, and it never needs the limit. -/
def Obligations.RndNormalises : Prop :=
  ∀ (v : Q) (e : Int), 0 < v.d → v.n ≠ 0 → v.expo = some e → e < 31 →
    v.rnd.2.2 = false ∧ v.rnd.1.natAbs < 2 ^ 23 ∧ (e = -32 ∨ 2 ^ 22 ≤ v.rnd.1.natAbs) ∧ (v.rnd.2.1 = e ∨ v.rnd.2.1 = e + 1)

/-- R145, R146, R150: the instructions that move words between registers and memories. -/
def Obligations.CooperMoves : Prop :=
  ∀ (s : State) (sl : Fin 64) (x : Fin 8), s.up → let d := s.dev.fetched sl
    (∀ (n : BitVec 12) w d1, s.dev.atIns sl (.ldx x n.toNat) → d.rdS sl (n.toNat + d.repS sl) = (0, w, d1) →
      exec (.ldx sl x n) s = .next (s.to ((d1.setX sl x w).done sl 1))) ∧
    (∀ (n : BitVec 12) w d1, s.dev.atIns sl (.ldxc x n.toNat) → d.rdC sl (n.toNat + d.repC sl) = (0, w, d1) →
      exec (.ldxc sl x n) s = .next (s.to ((d1.setX sl x w).done sl 1))) ∧
    (∀ (n : BitVec 12) d1, s.dev.atIns sl (.stx x n.toNat) → d.stS sl (n.toNat + d.repS sl) (d.xr sl x) = (0, d1) →
      exec (.stx sl x n) s = .next (s.to (d1.done sl 1))) ∧
    (∀ y : Fin 8, s.dev.atIns sl (.movx x y) → exec (.movx sl x y) s = .next (s.to ((d.setX sl x (d.xr sl y)).done sl 1))) ∧
    (∀ (n : BitVec 12) w d1 d2, s.dev.atIns sl (.dly 2 n.toNat) → d.rdS sl n.toNat = (0, w, d1) → d1.stS sl (n.toNat + 1) w = (0, d2) →
      exec (.dly sl 2 n) s = .next (s.to (d2.done sl 1))) ∧
    (∀ (k : BitVec 6) (n : BitVec 12) d1, s.dev.atIns sl (.dly k.toNat n.toNat) → Dev.dlyMoves sl n.toNat (k.toNat - 1) d = (0, d1) →
      exec (.dly sl k n) s = .next (s.to (d1.done sl (k.toNat - 1)))) ∧
    (∀ y : Fin 8, s.dev.atIns sl (.minx x y) → exec (.minx sl x y) s =
      .next (s.to ((if wv (d.xr sl y) < wv (d.xr sl x) then d.setX sl x (d.xr sl y) else d).done sl 1))) ∧
    (∀ y : Fin 8, s.dev.atIns sl (.maxx x y) → exec (.maxx sl x y) s =
      .next (s.to ((if wv (d.xr sl x) < wv (d.xr sl y) then d.setX sl x (d.xr sl y) else d).done sl 1))) ∧
    (∀ (kind : Fin 5) (i : Fin 32) w bad, s.dev.atIns sl (.lds x kind i) → d.sample kind i = (w, bad) → exec (.lds sl x kind i) s =
      .next (s.to ((if bad then (d.setX sl x w).updSlot sl fun y => { y with fINV := true } else d.setX sl x w).done sl 2))) ∧
    (∀ (y : Fin 8) (n : BitVec 12) w d1, s.dev.atIns sl (.chk x y n.toNat) → d.rdC sl n.toNat = (0, w, d1) →
      exec (.chk sl x y n) s = .next (s.to ((d1.updSlot sl fun z =>
        { z with fT := decide ((wv (d1.xr sl x) - wv (d1.xr sl y)).natAbs ≤ wv w) }).done sl 2)))

/-- R140, R147, R149, R152, R156, R158, R161: branches, the repeat, waiting, the speculative window, the illegal instruction, and the lane
that takes a slot; an access beyond a memory, a store beyond the store buffer, a leg that is not the slot's, fault their slot. -/
def Obligations.CooperFlow : Prop :=
  (∀ (s : State) (sl : Fin 64), s.up → let d := s.dev.fetched sl
    (∀ (c : Fin 11) (t : BitVec 14), s.dev.atIns sl (.br c t.toNat) →
      exec (.br sl c t) s = .next (s.to (if Dev.coopCond (d.slot sl) c then (d.updSlot sl fun x => { x with pc := t.toNat }).countSteps sl 2
        else (d.updSlot sl fun x => { x with pc := x.pc + 1 }).countSteps sl 1))) ∧
    (∀ (n : BitVec 8) (ci si : BitVec 4) i, s.dev.atIns sl (.rpt n.toNat ci.toNat si.toNat) → (d.slot sl).pc + 1 < 16384 →
      d.coopBad 0 ((d.slot sl).pc + 1) = false → decodeCoop (d.coopRaw 0 ((d.slot sl).pc + 1)).toNat = some i → i.repeatable = true →
      exec (.rpt sl n ci si) s = .next (s.to ((d.updSlot sl fun x => { x with
        pc := (d.slot sl).pc + 1, repLeft := some (n.toNat + 1), repCI := ci.toNat, repSI := si.toNat, repI := 0 }).countSteps sl 1))) ∧
    (s.dev.atIns sl .nop → exec (.nop sl) s = .next (s.to (d.done sl 1))) ∧
    (∀ (k : BitVec 6) (kind : Fin 5) (i : Fin 32), s.dev.atIns sl (.wsmp k.toNat kind i) → k.toNat ≤ d.mbSince sl kind i →
      exec (.wsmp sl k kind i) s = .next (s.to (d.done sl 1))) ∧
    (∀ (k : BitVec 6) (kind : Fin 5) (i : Fin 32), s.dev.atIns sl (.wsmp k.toNat kind i) → d.mbSince sl kind i < k.toNat →
      exec (.wsmp sl k kind i) s = .next (s.to (((((d.updSlot sl fun x => { x with wait := some { kind := kind, idx := i, count := k.toNat } }).fs
        CEN_SLOT_s_STAT_STATE 3 sl).offLane sl).dropSlot sl).done sl 1))) ∧
    (s.dev.atIns sl .spec → d.inWindow sl = false →
      exec (.spec sl) s = .next (s.to ((d.updSlot sl fun x => { x with spec := some x.buf }).done sl 1))) ∧
    (s.dev.coopTurn sl = true → (s.dev.slot sl).pc < 16384 → s.dev.coopBad 0 (s.dev.slot sl).pc = false →
      decodeCoop (s.dev.coopRaw 0 (s.dev.slot sl).pc).toNat = none →
      exec (.illegalInstruction sl) s = .next (s.to (d.slotFault sl 1))) ∧
    (∀ l : Fin 4, s.dev.pick l = some sl.val → (vget s.dev.cen.lane l).cur ≠ some sl.val →
      exec (.slotDispatch l) s = .next (s.to { s.dev with cen := { s.dev.cen with
        lane := vset s.dev.cen.lane l { vget s.dev.cen.lane l with cur := some sl.val } } })) ∧
    (s.dev.fg CEN_SLOT_s_CFG_EN sl = 1 → s.dev.fg CEN_SLOT_s_CFG_TRG_TYPE sl = 2 →
      (s.dev.slot sl).trgOrigin + s.dev.fg CEN_SLOT_s_TRG_SRC sl * 80 ≤ s.dev.clk.ticks →
      exec (.slotTriggerTimer sl) s = .next (s.to ((s.dev.updSlot sl fun x => { x with
        trgOrigin := (s.dev.slot sl).trgOrigin + s.dev.fg CEN_SLOT_s_TRG_SRC sl * 80 }).triggerAll [sl.val])))) ∧
  (∀ (s : State) (sl : Fin 64), s.up → let d := s.dev.fetched sl
    (∀ (x : Fin 8) (n : BitVec 12), s.dev.atIns sl (.ldx x n.toNat) → 32768 ≤ (d.slot sl).sb + (n.toNat + d.repS sl) →
      exec (.ldx sl x n) s = .next (s.to ((d.countSteps sl 1).slotFault sl 4))) ∧
    (∀ (x : Fin 8) (n : BitVec 12), s.dev.atIns sl (.ldxc x n.toNat) → 8192 ≤ (d.slot sl).cb + (n.toNat + d.repC sl) →
      exec (.ldxc sl x n) s = .next (s.to ((d.countSteps sl 1).slotFault sl 4))) ∧
    (∀ (x : Fin 8) (n : BitVec 12), s.dev.atIns sl (.stx x n.toNat) → (d.slot sl).sb + (n.toNat + d.repS sl) < 32768 →
      Dev.inBuf ((d.slot sl).sb + (n.toNat + d.repS sl)) (d.slot sl).buf = none → 64 ≤ (d.slot sl).buf.length →
      exec (.stx sl x n) s = .next (s.to ((d.countSteps sl 1).slotFault sl 3))) ∧
    (∀ (x y : Fin 8) (leg : Fin 32), s.dev.atIns sl (.tent x y leg) → d.fbit CEN_SLOT_s_LEGS_LEGS leg sl = false →
      exec (.tent sl x y leg) s = .next (s.to ((d.countSteps sl 2).slotFault sl 7))))

/-- R145, R150, R152, R153, R158, R159, R164, R166, R203: the instructions that act outside the slot, outside a speculative
window where R153 asks it, and the end of an execution without a window.
Where these rules leave a choice it is the model's (log entry 41). -/
def Obligations.CooperActs : Prop :=
  ∀ (s : State) (sl : Fin 64), s.up → let d := s.dev.fetched sl
    (∀ (x y : Fin 8) (leg : Fin 32) a b sa sb, s.dev.atIns sl (.tent x y leg) → d.fbit CEN_SLOT_s_LEGS_LEGS leg sl = true →
      d.fb PWM_LEG_n_CTRL_SRC leg = true → tentCount (d.xr sl x) = (a, sa) → tentCount (d.xr sl y) = (b, sb) →
      exec (.tent sl x y leg) s = .next (s.to ((((d.satIf sl (sa || sb)).updLeg leg fun z =>
        { z with tent := some { a := a, b := b, seq := (d.satIf sl (sa || sb)).nextLp leg, slot := sl } }).trcSource 1 leg a 23 true
        (some sl.val) (some leg.val)).done sl 2))) ∧
    (∀ (m : BitVec 24) l e, s.dev.atIns sl (.commit m.toNat) → d.legsOk sl m.toNat = true → bitsOf 24 m.toNat = l →
      (d.trcOutcome sl l 1 (d.outcomeLp l)).dropTents l (fun _ => true) = e →
      exec (.commit sl m) s = .next (s.to ((Dev.updSlot { e with cen := { e.cen with tokens := e.cen.tokens ++ [d.tokenOf sl l] } } sl
        fun x => { x with spec := none }).done sl 1))) ∧
    (∀ m : BitVec 24, s.dev.atIns sl (.cancel m.toNat) → d.legsOk sl m.toNat = true →
      exec (.cancel sl m) s = .next (s.to ((d.coopCancel sl (bitsOf 24 m.toNat)).done sl 1))) ∧
    (s.dev.atIns sl .stop → d.inWindow sl = false →
      exec (.endExec sl) s = .next (s.to ((d.countSteps sl (1 + ((d.slot sl).buf.length + 3) / 4)).endExecution sl))) ∧
    (∀ (x : Fin 8) (c : Fin 4), s.dev.atIns sl (.trc x c) → d.fg CEN_TRC_c_CFG_SRC c = 0 →
      exec (.trc sl x c) s = .next (s.to ((d.trcValue c (uval 24 (wm (d.xr sl x))) (uval 6 (we (d.xr sl x))) (d.inWindow sl)
        (some sl.val) none).done sl 1))) ∧
    (s.dev.atIns sl .trig → exec (.trig sl) s = .next (s.to (d.trcTrigger.done sl 1))) ∧
    (∀ c : Byte, s.dev.atIns sl (.evt c.toNat) → d.inWindow sl = false → d.cen.evUnread = false →
      exec (.evt sl c) s = .next (s.to (Dev.done { ((d.fs CEN_EVCODE_SLOT sl).fs CEN_EVCODE_CODE c.toNat).raise 44 sl with
        cen := { d.cen with evUnread := true } } sl 1))) ∧
    (∀ x : Fin 8, s.dev.atIns sl (.gpost x) → d.inWindow sl = false →
      exec (.gpost sl x) s = .next (s.to ((d.gpost sl (d.xr sl x)).done sl 1))) ∧
    (∀ (x : Fin 8) (g : Fin 16) w d1, s.dev.atIns sl (.gsel x g) → d.inWindow sl = false → d.gsel sl g = (w, d1) →
      exec (.gsel sl x g) s = .next (s.to ((d1.setX sl x w).done sl 4))) ∧
    (∀ (x : Fin 8) (n : Fin 32), s.dev.atIns sl (.wreq x n) → d.inWindow sl = false → d.fb WGH_REQ_r_CFG_EN n = true →
      exec (.wreq sl x n) s = .next (s.to ((d.updReq n fun y =>
        { y with req := Dev.tenths (d.xr sl x), reqAt := some d.clk.ticks, stale := false }).done sl 1)))


/-- R153: `GPOST`, `GSEL`, `WREQ` and `EVT` are illegal inside an open window and act on nothing outside their slot; a record made by `TRC` inside a
window carries the speculative tag (bit 33, R165). -/
def Obligations.WindowRule : Prop :=
  ∀ (s : State) (sl : Fin 64), s.up → let d := s.dev.fetched sl
    (∀ c : Byte, s.dev.atIns sl (.evt c.toNat) → d.inWindow sl = true →
      exec (.evt sl c) s = .next (s.to ((d.countSteps sl 1).slotFault sl 2))) ∧
    (∀ x : Fin 8, s.dev.atIns sl (.gpost x) → d.inWindow sl = true →
      exec (.gpost sl x) s = .next (s.to ((d.countSteps sl 1).slotFault sl 2))) ∧
    (∀ (x : Fin 8) (g : Fin 16), s.dev.atIns sl (.gsel x g) → d.inWindow sl = true →
      exec (.gsel sl x g) s = .next (s.to ((d.countSteps sl 4).slotFault sl 2))) ∧
    (∀ (x : Fin 8) (n : Fin 32), s.dev.atIns sl (.wreq x n) → d.inWindow sl = true →
      exec (.wreq sl x n) s = .next (s.to ((d.countSteps sl 1).slotFault sl 2))) ∧
    (∀ (x : Fin 8) (c : Fin 4), s.dev.atIns sl (.trc x c) → d.fg CEN_TRC_c_CFG_SRC c = 0 → d.inWindow sl = true →
      ∃ (r : BitVec 64) (e : Dev), r.getLsbD 33 = true ∧ d.trcPush c r = e ∧ exec (.trc sl x c) s = .next (s.to (Dev.done
        (if (vget e.cen.trc c).running then e.setTrc c { vget e.cen.trc c with specSlots := sl.val :: (vget e.cen.trc c).specSlots } else e) sl 1)))

/-- R145, R148, R151, R158, R162, R168, R171: Cooper by register (slots enabled and disabled, the self-test, the event code) and by command
(memories, slots, groups, the self-test).
Where these rules leave a choice it is the model's (log entry 41). -/
def Obligations.CooperControl : Prop :=
  (∀ (s : State) (a : Acc), s.up →
      (∀ (sl : Fin 64) (val : W32), CEN_SLOT_s_CFG_EN.of val.toNat = 1 → s.dev.fb CEN_SLOT_s_CFG_EN sl = false →
        s.dev.accepts a (CEN_SLOT_s_CFG_EN.at sl) val.toNat →
        ∃ t, exec (.slotEnable a sl val) s = .next t ∧ t.dev.fg CEN_SLOT_s_CFG_EN sl = 1 ∧ t.dev.fg CEN_SLOT_s_STAT_STATE sl = 1 ∧
          let x := s.dev.slot sl
          t.dev.slot sl = { trgOrigin := s.dev.clk.ticks, occ := x.occ, exec := x.exec, missed := x.missed, missedOld := x.missedOld }) ∧
      (∀ (sl : Fin 64) (val : W32), CEN_SLOT_s_CFG_EN.of val.toNat = 0 → s.dev.fb CEN_SLOT_s_CFG_EN sl = true →
        s.dev.fg CEN_SLOT_s_STAT_STATE sl ≠ 4 → s.dev.accepts a (CEN_SLOT_s_CFG_EN.at sl) val.toNat →
        ∃ t, exec (.slotDisable a sl val) s = .next t ∧ t.dev.fg CEN_SLOT_s_CFG_EN sl = 0 ∧ t.dev.fg CEN_SLOT_s_STAT_STATE sl = 0 ∧
          (t.dev.slot sl).active = false) ∧
      (∃ t, exec (.cooperSelftestRequest a) s = .next t ∧ t.dev.fg CEN_TEST_REQ = 1 ∧ ∀ l : Fin 4, (vget t.dev.cen.lane l).testPend = true) ∧
      (∃ t, exec (.evcodeRead a) s = .next t ∧ t.dev.cen.evUnread = false ∧ t.dev.hst.lastRead = s.dev.word (CEN_EVCODE_CODE.at 0) ∧
        t.dev.regs = s.dev.regs) ∧
      (s.dev.fb CEN_CTRL_EN = true → s.dev.fb CEN_CTRL_ST_PER = true →
        ∃ t, exec .cooperSelftestDue s = .next t ∧ (∀ l : Fin 4, (vget t.dev.cen.lane l).testPend = true) ∧ t.dev.regs = s.dev.regs) ∧
      (∀ (l : Fin 4) (n : Nat), (vget s.dev.cen.lane l).testPend = true → (vget s.dev.cen.lane l).testSlot = some n →
        ∃ t, exec (.cooperSelftestComplete l true) s = .next t ∧ (vget t.dev.cen.lane l).testPend = false ∧
          (vget t.dev.cen.lane l).testSlot = none ∧ (vget t.dev.cen.lane l).passedSince = true ∧
          t.dev.fg CEN_TEST_ST_SEQ = (s.dev.fg CEN_TEST_ST_SEQ + 1) % 2 ^ CEN_TEST_ST_SEQ.len ∧ (s.dev.raise 39 l).evt = t.dev.evt)) ∧
  (∀ (s : State) (p : Path) (tag : Byte) (b : List Byte), s.up → let d := s.dev
      (d.started p tag 0x301 b → 4 ≤ b.length → b.length % 4 = 0 → byteAt b 0 ≤ 2 → byteAt b 1 = 0 →
        leAt b 2 2 + (b.length - 4) / 4 ≤ Dev.coopWords (byteAt b 0) → (byteAt b 0 = 2 → (b.length - 4) / 4 ≤ 64) →
        exec (.cenWrite p tag) s =
          .next (s.answer (d.coopPutAll (byteAt b 0) (leAt b 2 2) (wordsOf ((b.length - 4) / 4) (b.drop 4))) p tag .ok [])) ∧
      (∀ l e, d.started p tag 0x302 b → b.length = 6 → byteAt b 0 ≤ 2 → byteAt b 1 = 0 → 1 ≤ leAt b 4 2 → leAt b 4 2 ≤ 1024 →
        leAt b 2 2 + leAt b 4 2 ≤ Dev.coopWords (byteAt b 0) → d.coopHostReadN (byteAt b 0) (leAt b 2 2) (leAt b 4 2) = (l, e) →
        exec (.cenRead p tag) s = .next (s.answer e p tag .ok l)) ∧
      (∀ l, d.started p tag 0x303 b → b.length = 8 → ((bitsOf 64 (leAt b 0 8)).filter fun n => !d.fb CEN_SLOT_s_CFG_EN n) = l →
        (∀ n ∈ l, d.enableBad n (d.fg CEN_SLOT_s_CFG_LANE n) (d.fb CEN_SLOT_s_CFG_LEGCOMMIT n) l = false ∧
          Dev.trgOk (d.fg CEN_SLOT_s_CFG_TRG_TYPE n) (d.fg CEN_SLOT_s_TRG_SRC n) = true) →
        exec (.cenStart p tag) s = .next (s.answer (l.foldl Dev.slotEnable d) p tag .ok [])) ∧
      (d.started p tag 0x304 b → b.length = 8 →
        exec (.cenStop p tag) s = .next (s.answer
          (((bitsOf 64 (leAt b 0 8)).filter fun n => d.fb CEN_SLOT_s_CFG_EN n).foldl Dev.slotDisable d).testStart p tag .ok [])) ∧
      (∀ l, d.started p tag 0x305 b → b.length = 8 →
        ((bitsOf 64 (leAt b 0 8)).filter fun n => d.fb CEN_SLOT_s_CFG_EN n && d.fg CEN_SLOT_s_STAT_STATE n == 1) = l →
        exec (.cenKick p tag) s = .next (s.answer (d.triggerFabric l) p tag .ok (leBytes 8 (l.foldl (fun m n => m + 2 ^ n) 0)))) ∧
      (d.started p tag 0x306 b → b.length = 8 → ∃ t, exec (.cenClear p tag) s = .next t ∧
        d.completed t.dev p tag .ok [] ∧
        ∀ n : Fin 64, (leAt b 0 8).testBit n → t.dev.fg CEN_SLOT_s_STAT_FAULT n = 0 ∧ t.dev.fg CEN_SLOT_s_STAT_STATE n ≠ 4) ∧
      (∀ m, d.started p tag 0x307 b → b.length = 2 → byteAt b 0 < 16 → d.fb CEN_GRP_g_CFG_EN (byteAt b 0) = true →
        d.withValid (byteAt b 0) (byteAt b 1) = m → d.membersOk (byteAt b 0) m.1 m.2 = true →
        exec (.cenGroup p tag) s = .next (s.answer (d.setMembers (byteAt b 0) m.1 m.2) p tag .ok [])) ∧
      (d.started p tag 0x309 [0] → (∀ l : Fin 4, (vget d.cen.lane l).testPend = false) → d.idleSlot ≠ none →
        exec (.cenSelftest p tag) s = .next (s.answer (d.fs CEN_TEST_REQ 1).testAsk p tag .ok [0])))


/-- R165 to R168: Scrivener's arming, triggers and stops, by register, by itself and by command.
Where these rules leave a choice it is the model's (log entry 42). -/
def Obligations.ScrivenerRuns : Prop :=
  ∀ (s : State) (a : Acc) (p : Path) (tag : Byte), s.up → let d := s.dev
    (∀ val : W32, CEN_TRC_CTRL_ARM.of val.toNat = 1 → CEN_TRC_CTRL_SWTRIG.of val.toNat = 0 → d.fb CEN_TRC_CTRL_ARM = false →
      d.accepts a (CEN_TRC_CTRL_ARM.at 0) val.toNat → ∃ t, exec (.scrivenerArm a val) s = .next t ∧
        t.dev.fg CEN_TRC_CTRL_ARM = 1 ∧ t.dev.fg CEN_TRC_STAT_TRIGGERED = 0 ∧ t.dev.fg CEN_TRC_STAT_DONE = 0 ∧
        ∀ c : Fin 4, d.fb CEN_TRC_c_CFG_EN c = true → (vget t.dev.cen.trc c).running = true ∧ (vget t.dev.cen.trc c).postLeft = none) ∧
    (∀ val : W32, CEN_TRC_CTRL_ARM.of val.toNat = 0 → CEN_TRC_CTRL_SWTRIG.of val.toNat = 0 → d.fb CEN_TRC_CTRL_ARM = true →
      d.accepts a (CEN_TRC_CTRL_ARM.at 0) val.toNat → ∃ t, exec (.scrivenerDisarm a val) s = .next t ∧
        t.dev.fg CEN_TRC_CTRL_ARM = 0 ∧ t.dev.fg CEN_TRC_STAT_RECORDING = 0 ∧ ∀ c : Fin 4, (vget t.dev.cen.trc c).running = false) ∧
    (∀ val : W32, CEN_TRC_CTRL_ARM.of val.toNat = 1 → CEN_TRC_CTRL_SWTRIG.of val.toNat = 1 → d.fb CEN_TRC_CTRL_ARM = true →
      d.fb CEN_TRC_STAT_TRIGGERED = false → d.accepts a (CEN_TRC_CTRL_ARM.at 0) val.toNat →
      ∃ t, exec (.scrivenerSwtrig a val) s = .next t ∧ t.dev.fg CEN_TRC_STAT_TRIGGERED = 1 ∧ t.dev.evt = (d.raise 40).evt ∧
        t.dev.fg CEN_TRC_STAT_TRIG_SEQ = (d.fg CEN_TRC_STAT_TRIG_SEQ + 1) % 2 ^ CEN_TRC_STAT_TRIG_SEQ.len) ∧
    (∀ c : Fin 4, (vget d.cen.trc c).running = true → (vget d.cen.trc c).postLeft = some 0 →
      (∀ o : Fin 4, o ≠ c → (vget d.cen.trc o).running = false ∨ d.fb CEN_TRC_c_CFG_STREAM o = true) →
      ∃ t, exec (.scrivenerPostDone c) s = .next t ∧ (vget t.dev.cen.trc c).running = false ∧ t.dev.fg CEN_TRC_STAT_DONE = 1 ∧
        t.dev.fg CEN_TRC_CTRL_ARM = 0 ∧ t.dev.evt = (d.raise 41).evt) ∧
    (d.trcTs = 0 → exec .scrivenerTsWrap s = .next (s.to ([0, 1, 2, 3].foldl (fun d c => d.trcPush c (d.trcRec (d.clk.ticks / 2 ^ 33 % 2 ^ 15) 0 false 2)) d))) ∧
    (∀ c : Fin 4, d.started p tag 0xB01 [] → d.fb CEN_TRC_c_CFG_EN c = true → d.fb CEN_TRC_CTRL_ARM = false →
      exec (.trcArm p tag) s = .next (s.answer d.trcArm p tag .ok [])) ∧
    (d.started p tag 0xB02 [] → d.fb CEN_TRC_CTRL_ARM = true → exec (.trcTrigger p tag) s = .next (s.answer d.trcTrigger p tag .ok [])) ∧
    (∀ b, d.started p tag 0xB03 b → b.length = 6 → byteAt b 1 = 0 → byteAt b 0 < 4 → 1 ≤ leAt b 4 2 → leAt b 4 2 ≤ 4096 →
      leAt b 2 2 + leAt b 4 2 ≤ 16384 →
      exec (.trcRead p tag) s = .next (s.answer d p tag .ok (d.trcRecords (byteAt b 0) (leAt b 2 2) (leAt b 4 2)))) ∧
    (d.started p tag 0xB04 [] → exec (.trcStop p tag) s = .next (s.answer d.trcDisarm p tag .ok []))

/-! ### The PWM unit and the trip logic (04) -/

/-- R96, R97, R115, R120, R121, R133: a carrier group starts or waits for its time trigger; its carrier start loads `PER`, and on a leader sends a
marker; the carrier start of an enabled leg, of one that is to stop, and of a leg that is off, each only at its instant; a centre loads where `LOAD`
says so. A marker measures the offset and moves the follower's next carrier start by at most `STEP` ticks; a loss sets `LOST` and raises `EV_10`.
Where these rules leave a choice it is the model's (log entry 39). -/
def Obligations.CarrierGroups : Prop :=
  (∀ (s : State) (a : Acc), s.up → let d := s.dev
    (∀ (g : Fin 8) (val : W32), PWM_CG_g_CFG_RUN.of val.toNat = 1 → d.fb PWM_CG_g_CFG_RUN g = false →
      d.accepts a (PWM_CG_g_CFG_RUN.at g) val.toNat → ∃ t, exec (.carrierGroupRun a g val) s = .next t ∧ t.dev.fg PWM_CG_g_CFG_RUN g = 1 ∧
        (PWM_CG_g_CFG_TT_START.of val.toNat = 1 → t.dev.fg PWM_CG_g_CNT_WAIT g = 1) ∧
        (PWM_CG_g_CFG_TT_START.of val.toNat = 0 → t.dev.fg PWM_CG_g_CNT_WAIT g = 0 ∧
          vget t.dev.pwm.cg g = { next := d.clk.ticks + 1 })) ∧
    (∀ (g : Fin 8) (x y : CGrp), d.cgRuns g = true → vget d.pwm.cg g = x → x.next ≤ d.clk.ticks → vget (d.cgRoll g).pwm.cg g = y →
      y.on = true ∧ y.start = x.next ∧ y.per = d.fg PWM_CG_g_PER_PER g ∧ y.next = x.next + d.cgTicks g (d.fg PWM_CG_g_PER_PER g) ∧
      y.noMark = x.noMark + 1 ∧ (d.cgRoll g).regs = d.regs ∧ (d.fg SYS_ROLE_PAR_MODE ≠ 1 → (d.cgRoll g).tx = d.tx)) ∧
    (∀ g : Fin 8, d.fg SYS_ROLE_PAR_MODE = 1 → d.cgAligned g = true → d.laneUp 0 = true → d.laneUp 1 = false →
      ∃ x < 1024, (d.sendMark g).tx = d.tx ++ [.ordered 0 3 (32 * g + 4 * (vget d.pwm.cg g).mark + x / 256) (x % 256)] ∧
        (vget (d.sendMark g).pwm.cg g).mark = ((vget d.pwm.cg g).mark + 1) % 8) ∧
    (∀ (n : Fin 24) (e : Dev), d.cgRoll (d.legGrp n) = e → e.cgRuns (e.legGrp n) = true →
      (e.csNext n ≠ e.clk.ticks → exec (.carrierStart n) s = .next (s.to e)) ∧
      (e.csNext n = e.clk.ticks → e.fb PWM_LEG_n_CTRL_EN n = true → (e.leg n).stopAtStart = true →
        exec (.carrierStart n) s = .next (s.to ((e.legStop n).tryRelease n))) ∧
      (e.csNext n = e.clk.ticks → e.fb PWM_LEG_n_CTRL_EN n = false → exec (.carrierStart n) s = .next (s.to (e.tryRelease n))) ∧
      (e.csNext n = e.clk.ticks → e.fb PWM_LEG_n_CTRL_EN n = true → (e.leg n).stopAtStart = false →
        ∀ (load : Bool) (f r : Dev), ((e.leg n).starting || e.fg PWM_LEG_n_CTRL_LOAD n % 2 == 1) = load →
        (((if load then e.loadCompares n else e).fs PWM_LEG_n_STAT_RUN 1 n).updLeg n fun x => { x with starting := false }) = f →
        (if f.mayRelease n then f.releaseLeg n else f) = r →
        ∀ q, ((r.beginPeriod n (r.legGrp n) (vget r.pwm.cg (r.legGrp n)).per).legDrive n).filterSync n false = q →
        exec (.carrierStart n) s = .next (s.to (if load then q.lpTriggers n else q)))) ∧
    (∀ (n : Fin 24) (e : Dev), d.fb PWM_LEG_n_CTRL_EN n = true → d.cgRuns (d.legGrp n) = true → (d.leg n).mid = true → d.centreAt n = d.clk.ticks →
      (d.updLeg n fun x => { x with mid := false }) = e →
      exec (.carrierCentre n) s = .next (s.to (if 2 ≤ d.fg PWM_LEG_n_CTRL_LOAD n
        then ((((e.loadCompares n).centreLoad n).legDrive n).filterSync n true).lpTriggers n else e.filterSync n true))) ∧
    (∀ n : Fin 24, d.centreAt n ≠ d.clk.ticks → exec (.carrierCentre n) s = .next (s.to d))) ∧
  (∀ s : State, s.up → let d := s.dev
    (∀ (m : MarkIn) (g : Fin 8) (off : Int) (x : CGrp), m.group = g → d.clk.refPresent = true → d.fg SYS_ROLE_PAR_MODE = 2 → d.cgAligned g = true → d.cgRuns g = true →
      vget (d.cgRoll g).pwm.cg g = x → x.on = true → -32767 ≤ off → off ≤ 32767 →
      d.fb PWM_ALIGN_STAT_ALIGNED = false → ∃ t, exec (.markerReceived m off) s = .next t ∧ t.dev.fgS PWM_ALIGN_STAT_OFFSET = off ∧
        (vget t.dev.pwm.cg g).next = ((x.next : Int) -
          clampI (-(d.fg PWM_ALIGN_CTRL_STEP : Int)) (d.fg PWM_ALIGN_CTRL_STEP) (roundDiv off 64)).toNat ∧
        (vget t.dev.pwm.cg g).noMark = 0 ∧ t.dev.evt = d.evt) ∧
    (∀ (m : MarkIn) (off : Int), d.clk.refPresent = true → d.fg SYS_ROLE_PAR_MODE = 0 → d.laneUp m.lane = true → d.laneUp (1 - m.lane) = true →
      d.cgRuns m.group = false → ∃ t, ∃ x < 1024, exec (.markerReceived m off) s = .next t ∧
        t.dev.tx = d.tx ++ [.ordered (1 - m.lane) 3 (32 * m.group + 4 * m.count.toNat + x / 256) (x % 256)] ∧ t.dev.regs = d.regs) ∧
    (∀ (m : MarkIn) (g : Fin 8) (off : Int), m.group = g → d.clk.refPresent = true → d.fg SYS_ROLE_PAR_MODE = 2 → d.cgAligned g = true → d.cgRuns g = true → (vget (d.cgRoll g).pwm.cg g).on = true →
      d.fb PWM_ALIGN_STAT_ALIGNED = true →
      d.fb PWM_ALIGN_CTRL_LOSS_ACT = false → d.fg PWM_ALIGN_CTRL_LOSS_WIN * 512 < off.natAbs → ∃ t, exec (.markerReceived m off) s = .next t ∧
        t.dev.fg PWM_ALIGN_STAT_ALIGNED = 0 ∧ t.dev.fg PWM_ALIGN_STAT_LOST = 1 ∧ t.dev.evt = (d.raise 10).evt ∧ t.dev.pwm.leg = d.pwm.leg) ∧
    (d.cgRollAll.markerLost = false → exec .markerTimeout s = .next (s.to d.cgRollAll)) ∧
    (d.fg SYS_ROLE_PAR_MODE = 2 → d.fb PWM_ALIGN_CTRL_EN = true → d.fb PWM_ALIGN_STAT_ALIGNED = true → d.fb PWM_ALIGN_CTRL_LOSS_ACT = true →
      d.cgRollAll.markerLost = true → ∃ t,
      exec .markerTimeout s = .next t ∧ t.dev.fg PWM_ALIGN_STAT_ALIGNED = 0 ∧ t.dev.fg PWM_ALIGN_STAT_LOST = 1 ∧ t.dev.evt = (d.raise 10).evt ∧
        ∀ n : Fin 24, d.cgAligned (d.legGrp n) = true → d.fb PWM_LEG_n_CTRL_EN n = true → (t.dev.leg n).stopAtStart = true))

/-- R18, R111, R112, R154: the cutoff lies 16 ticks before a load point; a token in time takes its slot off the list and commits its pair, a late
one sets `COMMIT_LATE`; a slot that has not committed misses as the load point passes; each load point raises `EV_34` once; shadows are written,
held, and loaded where they were complete before the cutoff.
Where these rules leave a choice it is the model's (log entry 39). -/
def Obligations.LoadPoints : Prop :=
  ∀ (s : State) (a : Acc), s.up → let d := s.dev
    (∀ n : Fin 24, d.pastCutoff n = ((d.leg n).cutoff || decide (d.lpNext n ≤ d.clk.ticks + 16)) ∧
      (d.fb PWM_LEG_n_CTRL_EN n = true → d.pastCutoff n = true → exec (.commitCutoff n) s = .next (s.to (d.updLeg n fun x => { x with cutoff := true }))) ∧
      (d.pastCutoff n = false → exec (.commitCutoff n) s = .next (s.to d))) ∧
    (∀ (n : Fin 24) sl x q, (d.leg n).expected = [(sl, x)] → ∃ e : Dev, d.judge n q = e.slotMiss sl x ∧ (e.leg n).expected = [] ∧
      (e.leg n).missSeq = some q ∧ e.fg PWM_LEG_n_STAT_COMMIT_MISS n = 1 ∧ e.evt = (d.raise 34 n).evt) ∧
    (∀ (n : Fin 24) sl x p l, d.cen.tokens = { slot := sl, exec := x, legs := [(n.val, d.nextLp n, some p)] } :: l → d.pastCutoff n = false →
      d.fb PWM_LEG_n_CTRL_SRC n = true → ∃ t, exec .commitTokenArrival s = .next t ∧ t.dev.cen.tokens = l ∧ (t.dev.leg n).comm = some p ∧
        (t.dev.leg n).lastA = p.a ∧ (t.dev.leg n).lastB = p.b ∧
        (t.dev.leg n).expected = (d.leg n).expected.filter (·.1 != sl) ∧ t.dev.regs = d.regs ∧ t.dev.evt = d.evt) ∧
    (∀ (n : Fin 24) sl x q p l, d.cen.tokens = { slot := sl, exec := x, legs := [(n.val, q, p)] } :: l → (q ≠ d.nextLp n ∨ d.pastCutoff n = true) →
      ∃ e : Dev, exec .commitTokenArrival s = .next (s.to (e.slotMiss sl x)) ∧ e.fg PWM_LEG_n_STAT_COMMIT_LATE n = 1 ∧
        e.evt = (if (d.leg n).missSeq = some q then d.evt else (d.raise 34 n).evt) ∧ (e.leg n).comm = (d.leg n).comm) ∧
    (∀ n : Fin 24, d.fb PWM_LEG_n_CTRL_SRC n = false → (d.leg n).expected = [] → d.fb PWM_LEG_n_LPS_SH_PEND n = true → d.fbit PWM_SHLOCK_LOCK n = false →
      ((d.leg n).shAt + 16 < d.clk.ticks → ((d.loadCompares n).leg n).cmpA = d.fg PWM_LEG_n_CMPA_CMP n ∧
        ((d.loadCompares n).leg n).cmpB = d.fg PWM_LEG_n_CMPB_CMP n ∧ (d.loadCompares n).fg PWM_LEG_n_LPS_SH_PEND n = 0) ∧
      (d.clk.ticks ≤ (d.leg n).shAt + 16 → ((d.loadCompares n).leg n).cmpA = (d.leg n).cmpA ∧ (d.loadCompares n).fb PWM_LEG_n_LPS_SH_PEND n = true)) ∧
    (∀ (n : Fin 24) (val : W32), d.accepts a (PWM_LEG_n_CMPA_CMP.at n) val.toNat → ∃ t, exec (.shadowWrite a n false val) s = .next t ∧
      t.dev.fg PWM_LEG_n_CMPA_CMP n = PWM_LEG_n_CMPA_CMP.of val.toNat ∧ t.dev.fg PWM_LEG_n_LPS_SH_PEND n = 1 ∧
      (t.dev.leg n).cmpA = (d.leg n).cmpA ∧ (t.dev.leg n).shAt = d.clk.ticks) ∧
    (∀ (n : Fin 24) (val : W32), d.fb PWM_LEG_n_CTRL_SRC n = true → ∃ t, exec (.shadowWrite a n true val) s = .next t ∧ t.dev.regs = d.regs) ∧
    (∀ val : W32, d.accepts a (PWM_SHLOCK_LOCK.at 0) val.toNat → ∃ t, exec (.shlockWrite a val) s = .next t ∧
      t.dev.fg PWM_SHLOCK_LOCK = PWM_SHLOCK_LOCK.of val.toNat ∧ ∀ n : Fin 24, t.dev.leg n =
        if d.fbit PWM_SHLOCK_LOCK n && !t.dev.fbit PWM_SHLOCK_LOCK n then { d.leg n with shAt := d.clk.ticks } else d.leg n)

/-- R98, R101, R105, R106, R115 to R117: edges of the reference, the dead time, the calibration of the delay line, starting and stopping a
leg, force codes 8 ticks after their write. -/
def Obligations.LegEdges : Prop :=
  ∀ (s : State) (a : Acc), s.up → let d := s.dev
    (∀ (n : Fin 24) (q : Nat), (d.leg n).rise = true → (d.leg n).cyc.riseQ = q →
      ((d.leg n).at_ + q / 64 = d.clk.ticks →
        exec (.compareEdge n true) s = .next (s.to ((d.updLeg n fun x => { x with r := true, rise := false }).legDrive n (q % 64)))) ∧
      ((d.leg n).at_ + q / 64 ≠ d.clk.ticks → exec (.compareEdge n true) s = .next (s.to d))) ∧
    (∀ (n : Fin 24) (q : Nat), (d.leg n).rise = false → (d.leg n).fall = true → (d.leg n).cyc.fallQ = q →
      ((d.leg n).at_ + q / 64 = d.clk.ticks →
        exec (.compareEdge n false) s = .next (s.to ((d.updLeg n fun x => { x with r := false, fall := false }).legDrive n (q % 64)))) ∧
      ((d.leg n).at_ + q / 64 ≠ d.clk.ticks → exec (.compareEdge n false) s = .next (s.to d))) ∧
    (∀ n : Fin 24, d.commands n = (true, false) → (d.leg n).ilk = false → d.overlaid n = false →
      (d.tleg n).react = none → (d.leg n).outH = false → (d.leg n).outL = false → (d.leg n).onH = true →
      ((d.leg n).fellL + 64 * d.deadH n < 64 * (d.clk.ticks + 1) → ∃ t, exec (.deadTimeExpiry n) s = .next t ∧ (t.dev.leg n).outH = true ∧
        (t.dev.leg n).onH = false ∧ (t.dev.leg n).outL = false ∧
        (64 * d.clk.ticks ≤ (d.leg n).fellL + 64 * d.deadH n → (t.dev.leg n).roseH = (d.leg n).fellL + 64 * d.deadH n)) ∧
      (64 * (d.clk.ticks + 1) ≤ (d.leg n).fellL + 64 * d.deadH n → exec (.deadTimeExpiry n) s = .next (s.to d))) ∧
    (∀ err : Int, d.fb CLK_PLL_STAT_FALLBACK = false → err.natAbs ≤ 2 → d.fg PWM_DLCAL_TRIM < 254 → ∃ t,
      exec (.delayLineCalibration err 1) s = .next t ∧ t.dev.fg PWM_DLCAL_TRIM = d.fg PWM_DLCAL_TRIM + 1 ∧ t.dev.fgS PWM_DLCAL_DL_ERR = err ∧
      t.dev.fg PWM_DLCAL_CAL_OK = 1 ∧ t.dev.fg PWM_DLCAL_CAL_SEQ = (d.fg PWM_DLCAL_CAL_SEQ + 1) % 2 ^ PWM_DLCAL_CAL_SEQ.len ∧ t.dev.evt = d.evt) ∧
    (∀ err : Int, d.fb CLK_PLL_STAT_FALLBACK = false → 2 < err.natAbs → ∃ t, exec (.delayLineCalibration err 0) s = .next t ∧
      t.dev.fg PWM_DLCAL_CAL_OK = 0 ∧ t.dev.fg PWM_DLCAL_DL_FAULT = 1 ∧ t.dev.evt = (d.raise 9).evt) ∧
    (∀ (g : Fin 8) (val : W32), d.accepts a (PWM_FORCE_g_H_CODE.at g) val.toNat → ∃ t, exec (.forceWrite a g val) s = .next t ∧
      t.dev.fg PWM_FORCE_g_H_CODE g = PWM_FORCE_g_H_CODE.of val.toNat ∧ t.dev.fg PWM_FORCE_g_L_CODE g = PWM_FORCE_g_L_CODE.of val.toNat ∧
      vget t.dev.pwm.forceTf g = some (d.clk.ticks + 8) ∧ t.dev.pwm.leg = d.pwm.leg) ∧
    (∀ (g : Fin 8) tf, d.fb CLK_PLL_STAT_FALLBACK = false → vget d.pwm.forceTf g = some tf → tf ≤ d.clk.ticks →
      exec (.forceTakesEffect (some g)) s = .next (s.to (d.forceGroup g))) ∧
    (∀ (n : Fin 24) (val : W32), PWM_LEG_n_CTRL_EN.of val.toNat = 1 → d.fb PWM_LEG_n_CTRL_EN n = false →
      d.accepts a (PWM_LEG_n_CTRL_EN.at n) val.toNat → ∃ t, exec (.legStart a n val) s = .next t ∧ t.dev.fg PWM_LEG_n_CTRL_EN n = 1 ∧
        (t.dev.leg n).starting = true ∧ t.dev.fg PWM_LEG_n_CARRY_CARRY n = 0 ∧ t.dev.fg PWM_LEG_n_STAT_RUN n = d.fg PWM_LEG_n_STAT_RUN n ∧
        (PWM_LEG_n_CTRL_SRC.of val.toNat = 1 → (t.dev.leg n).cmpA = (d.leg n).lastA ∧ (t.dev.leg n).cmpB = (d.leg n).lastB)) ∧
    (∀ (n : Fin 24) (val : W32), PWM_LEG_n_CTRL_EN.of val.toNat = 1 → d.fb PWM_LEG_n_CTRL_EN n = false → d.fb CLK_PLL_STAT_PWM_HOLD = true →
      ∃ t, exec (.legStart a n val) s = .next t ∧ t.dev.fg PWM_LEG_n_CTRL_EN n = 0 ∧ t.dev.pwm = d.pwm) ∧
    (∀ (n : Fin 24) (val : W32), PWM_LEG_n_CTRL_EN.of val.toNat = 0 → d.fb PWM_LEG_n_CTRL_EN n = true → (d.leg n).fH = 0 → (d.leg n).fL = 0 →
      PWM_LEG_n_CTRL_FGRP.of val.toNat = d.fg PWM_LEG_n_CTRL_FGRP n → d.accepts a (PWM_LEG_n_CTRL_EN.at n) val.toNat → ∃ t,
      exec (.legStop a n val) s = .next t ∧ t.dev.fg PWM_LEG_n_CTRL_EN n = 0 ∧ t.dev.fg PWM_LEG_n_STAT_RUN n = 0 ∧
        (t.dev.leg n).cH = false ∧ (t.dev.leg n).cL = false)


/-- R122, R134, R136: the PWM and trip commands, with every named leg or none. -/
def Obligations.LegCommands : Prop :=
  ∀ (s : State) (p : Path) (tag : Byte) (b : List Byte), s.up → let d := s.dev
    (∀ l, d.started p tag 0x101 b → b.length = 4 → leAt b 0 4 < 2 ^ 24 → ((bitsOf 24 (leAt b 0 4)).filter fun n => !d.fb PWM_LEG_n_CTRL_EN n) = l →
      (∀ n ∈ l, d.canStart n (d.legGrp n) = true) → exec (.pwmStart p tag) s = .next (s.answer (l.foldl Dev.legStart d) p tag .ok [])) ∧
    (d.started p tag 0x101 b → b.length = 4 → leAt b 0 4 < 2 ^ 24 →
      (∃ n ∈ bitsOf 24 (leAt b 0 4), d.fb PWM_LEG_n_CTRL_EN n = false ∧ d.canStart n (d.legGrp n) = false) →
      exec (.pwmStart p tag) s = .next (s.answer d p tag .state [])) ∧
    (d.started p tag 0x102 b → b.length = 4 → leAt b 0 4 < 2 ^ 24 →
      exec (.pwmStop p tag) s = .next (s.answer ((bitsOf 24 (leAt b 0 4)).foldl Dev.legStop d) p tag .ok [])) ∧
    (∀ g h l : Nat, d.started p tag 0x103 [BitVec.ofNat 8 g, BitVec.ofNat 8 (h + 4 * l)] → g < 8 → h < 3 → l < 3 → d.fb CLK_PLL_STAT_PWM_HOLD = false →
      exec (.pwmForce p tag) s = .next (s.answer (((d.fs PWM_FORCE_g_H_CODE h g).fs PWM_FORCE_g_L_CODE l g).forceWrite g) p tag .ok
        (leBytes 6 (d.clk.ticks + 8)))) ∧
    (∀ n : Fin 24, d.started p tag 0x104 b → b.length = 12 → leAt b 0 4 = 2 ^ n.val → leAt b 4 4 < 2 ^ 26 → leAt b 8 4 < 2 ^ 26 →
      d.fb PWM_LEG_n_CTRL_SRC n = false → exec (.pwmSet p tag) s = .next (s.answer
        (((d.fs PWM_LEG_n_CMPA_CMP (leAt b 4 4) n).fs PWM_LEG_n_CMPB_CMP (leAt b 8 4) n).shadowWritten n) p tag .ok [])) ∧
    (d.started p tag 0x142 b → b.length = 4 → leAt b 0 4 < 2 ^ 24 →
      exec (.trpClear p tag) s = .next (s.answer (d.clearLegs (leAt b 0 4)).2 p tag (if (d.clearLegs (leAt b 0 4)).1 then .ok else .state) [])) ∧
    (d.started p tag 0x143 b → b.length = 4 → leAt b 0 4 < 2 ^ 24 →
      exec (.trpSoft p tag) s = .next (s.answer (d.softTrip (leAt b 0 4)) p tag .ok []))

/-- R124 to R134: a filtered input, the end of its blanking, the end of a reaction, a release by hold-off, a clear, a software trip, a
class write.
Where these rules leave a choice it is the model's (log entry 38). -/
def Obligations.TripSources : Prop :=
  ∀ (s : State) (a : Acc), s.up → let d := s.dev
    (∀ (n : Fin 24) (high : Bool), d.fbit TRP_IN_STAT_ACT n = (high != d.fb TRP_IN_n_CFG_POL n) →
      exec (.tripInputFiltered n high) s = .next (s.to d)) ∧
    (∀ (n : Fin 24) (high : Bool), d.fbit TRP_IN_STAT_ACT n = false → high ≠ d.fb TRP_IN_n_CFG_POL n → d.blanked n = false →
      d.fb TRP_IN_n_CFG_EN n = true → exec (.tripInputFiltered n high) s = .next (s.to
        (((d.fsBit TRP_IN_STAT_ACT n true).fsBit TRP_IN_SEEN_SEEN n true).activate (d.fg TRP_IN_n_CFG_LEG n) n (d.fg TRP_IN_n_CFG_SW n)))) ∧
    (∀ n : Fin 24, (∀ x ∈ d.trp.blank, x.1 = n.val → d.clk.ticks < x.2) → exec (.blankingEnd n) s = .next (s.to d)) ∧
    (∀ (n : Fin 24) (t : Nat), (n.val, t) ∈ d.trp.blank → t ≤ d.clk.ticks → d.fbit TRP_IN_STAT_ACT n = false →
      exec (.blankingEnd n) s = .next (s.to { d with trp := { d.trp with blank := d.trp.blank.filter (·.1 != n.val) } })) ∧
    (∀ (n : Fin 24) (t : Nat), (n.val, t) ∈ d.trp.blank → t ≤ d.clk.ticks → d.fbit TRP_IN_STAT_ACT n = true → d.fb TRP_IN_n_CFG_EN n = true → ∃ e : Dev,
      exec (.blankingEnd n) s = .next (s.to (e.inputActs n)) ∧ e.fg TRP_LEG_n_STAT_BLANK_FLT (d.fg TRP_IN_n_CFG_LEG n) = 1 ∧
        e.evt = (d.raise 13 (d.fg TRP_IN_n_CFG_LEG n)).evt ∧ e.blanked n = false) ∧
    (∀ (n : Fin 24) (r : React), (d.tleg n).react = some r → d.clk.ticks < r.until_ → exec (.tripSafeState n) s = .next (s.to d)) ∧
    (∀ (n : Fin 24) (r : React), (d.tleg n).react = some r → r.until_ ≤ d.clk.ticks → d.trp.offWait = [] →
      exec (.tripSafeState n) s = .next (s.to ({ d.tripSafe n with trp := { (d.tripSafe n).trp with offWait := [] } } |>.releaseNow n))) ∧
    (∀ n : Fin 24, d.cgRuns (d.legGrp n) = false → d.fg TRP_LEG_n_STAT_STATE n = 1 → (d.tleg n).react = none → d.offPending n = false →
      d.srcActive n false = false → (d.tleg n).inactiveAt + d.fg TRP_CLS_k_HOLDOFF (d.fg TRP_LEG_n_CFG_CLS n) * 8000 ≤ d.clk.ticks →
      exec (.holdoffExpiry n) s = .next (s.to ((d.releaseLeg n).legDrive n))) ∧
    (∀ val : W32, (d.clearLegs (TRP_CLR_LEGS.of val.toNat)).1 = false → val.toNat < 2 ^ 24 → ∃ t, exec (.tripClearWrite a val) s = .next t ∧
      t.dev.fg TRP_STAT_CLR_REFUSED = 1 ∧ t.dev.evt = (d.raise 3).evt ∧ t.dev.trp = d.trp ∧ t.dev.pwm = d.pwm) ∧
    (∀ val : W32, (d.clearLegs (TRP_CLR_LEGS.of val.toNat)).1 = true → val.toNat < 2 ^ 24 →
      exec (.tripClearWrite a val) s = .next (s.to (d.clearLegs (TRP_CLR_LEGS.of val.toNat)).2)) ∧
    (∀ val : W32, val.toNat < 2 ^ 24 → exec (.softwareTripWrite a val) s = .next (s.to (d.softTrip val.toNat))) ∧
    (∀ (k : Fin 8) (val : W32), d.accepts a (TRP_CLS_k_LIMIT.at k) val.toNat → ∃ t, exec (.tripClassWrite a k val) s = .next t ∧
      t.dev.fg TRP_CLS_k_LIMIT k = TRP_CLS_k_LIMIT.of val.toNat ∧ t.dev.fg TRP_CLS_k_WINDOW k = TRP_CLS_k_WINDOW.of val.toNat ∧
      t.dev.fg TRP_CLS_k_HOLDOFF k = TRP_CLS_k_HOLDOFF.of val.toNat ∧
      ∀ n : Fin 24, (t.dev.tleg n).occ = if d.fg TRP_LEG_n_CFG_CLS n = k then [] else (d.tleg n).occ)

/-! ### Sensing (05) -/

/-- R69 to R78: modulator clocks, stuck inputs, the control filter's restart and its decimation, the comparators.
Where these rules leave a choice it is the model's (log entries 36 and 37). -/
def Obligations.SensingInputs : Prop :=
  ∀ (s : State) (a : Acc), s.up → let d := s.dev
    (∀ (k : Fin 4) (val : W32), SNS_SDCK_k_EN.of val.toNat = 1 → d.fb SNS_SDCK_k_EN k = false → d.accepts a (SNS_SDCK_k_EN.at k) val.toNat →
      ∃ t, exec (.sdckStart a k val) s = .next t ∧ t.dev.fg SNS_SDCK_k_EN k = 1 ∧ t.dev.fg SNS_SDCK_k_RUNNING k = b2n (!d.convStopped)) ∧
    (∀ (k : Fin 4) (val : W32), SNS_SDCK_k_EN.of val.toNat = 0 → d.fb SNS_SDCK_k_EN k = true → d.accepts a (SNS_SDCK_k_EN.at k) val.toNat →
      ∃ t, exec (.sdckStop a k val) s = .next t ∧ t.dev.fg SNS_SDCK_k_EN k = 0 ∧ t.dev.fg SNS_SDCK_k_RUNNING k = 0) ∧
    (∀ n : Fin 24, d.sdRuns n = true → d.fb SNS_SD_n_CFG_RUN n = true → d.fb SNS_SD_n_STAT_STUCK n = false → ∃ e : Dev,
      exec (.inputStuck n) s = .next (s.to e.holdStuck) ∧ e.fg SNS_SD_n_STAT_STUCK n = 1 ∧ e.fg SNS_SD_n_STAT_STUCK_SEEN n = 1 ∧
        (vget e.sns.sd n).occ = (d.classHit 0 (vget d.sns.sd n).occ).1 ∧
        if (d.classHit 0 (vget d.sns.sd n).occ).2 then e.fg SNS_SD_n_STAT_LATCHED n = 1 ∧ e.evt = ((d.raise 16 n).raise 17 n).evt
        else e.fg SNS_SD_n_STAT_LATCHED n = d.fg SNS_SD_n_STAT_LATCHED n ∧ e.evt = (d.raise 16 n).evt) ∧
    (∀ n : Fin 24, d.sdRuns n = true → exec (.stuckRecovered n) s = .next (s.to (d.fs SNS_SD_n_STAT_STUCK 0 n))) ∧
    (∀ (n : Fin 24) (val : W32), SNS_SD_n_FILT_CF_EN.of val.toNat = 1 → d.fb SNS_SD_n_FILT_CF_EN n = false →
      d.accepts a (SNS_SD_n_FILT_CF_EN.at n) val.toNat → ∃ t, exec (.controlFilterRestart a n val) s = .next t ∧
        vget t.dev.sns.sd n = { vget d.sns.sd n with fillLeft := 3, realignLeft := 0, nextDec := d.bitEdge n d.clk.ticks +
          (SNS_SD_n_FILT_CF_OSR.of val.toNat + 1) * d.bitTicks n }) ∧
    (∀ (n : Fin 24) bits, d.clk.ticks < (vget d.sns.sd n).nextDec → exec (.controlFilterDecimation n bits) s = .next (s.to d)) ∧
    (∀ (n : Fin 24) bits, d.sdRuns n = true → d.fb SNS_SD_n_FILT_CF_EN n = true → bits.length = 3 * d.cfOsr n - 2 → (vget d.sns.sd n).fillLeft = 0 →
      (vget d.sns.sd n).realignLeft = 0 → d.stuckHolds n = false → d.due (vget d.sns.sd n).nextDec = true → ∃ e : Dev, exec (.controlFilterDecimation n bits) s =
        .next (s.to ((e.trcSource 2 n (uval 24 (controlVal (d.cfOsr n) bits).1) 0 false none none).mailbox 0 n)) ∧
        e.fgS SNS_CF_n_LO_VAL n = (controlVal (d.cfOsr n) bits).1 ∧ e.fg SNS_CF_n_HI_SAT n = b2n (controlVal (d.cfOsr n) bits).2 ∧
        e.fg SNS_CF_n_HI_INVALID n = 0 ∧ e.fg SNS_CF_n_HI_REALIGN n = 0 ∧ e.fg SNS_CF_n_HI_DEGRADED n = b2n d.deg ∧
        e.fg SNS_CF_n_HI_SEQ n = (d.fg SNS_CF_n_HI_SEQ n + 1) % 2 ^ SNS_CF_n_HI_SEQ.len ∧ (vget e.sns.sd n).cf.ts = (vget d.sns.sd n).nextDec ∧
        (vget e.sns.sd n).nextDec = (vget d.sns.sd n).nextDec + d.cfOsr n * d.bitTicks n) ∧
    (∀ (n : Fin 24) (m : Fin 16) bits,
      let v := protVal (d.fg SNS_SD_n_FILT_PF_OSR n + 1) (d.fg SNS_SD_n_FILT_PF_ORD n) bits
      d.fg SNS_CMP_m_CFG_SRC m = n → d.bitDue n = true → d.fb SNS_CMP_m_CFG_EN m = true → (∀ o : Fin 16, o ≠ m → d.fb SNS_CMP_m_CFG_EN o = false) → d.sdRuns n = true → d.fb SNS_SD_n_FILT_PF_EN n = true →
      bits.length = d.fg SNS_SD_n_FILT_PF_ORD n * d.fg SNS_SD_n_FILT_PF_OSR n + 1 → d.cmpHeld m = false →
      (d.fbit SNS_CMP_STAT_OUT m = false → d.fb TRP_CMP_m_CFG_EN m = false → (d.fg SNS_CMP_m_CFG_MODE m).testBit 0 = true →
        sval 16 (d.fg SNS_CMP_m_LIM_HI m) < v → ∃ t, exec (.comparatorAssert n bits) s = .next t ∧ t.dev.fbit SNS_CMP_STAT_OUT m = true ∧
          t.dev.fgS SNS_PF_n_VAL n = v ∧ t.dev.fbit SNS_CMP_STAT_SEEN m = true ∧ t.dev.evt = (d.raise 19 m).evt ∧ vget t.dev.sns.cmpSide m = .high) ∧
      (d.fbit SNS_CMP_STAT_OUT m = true → d.fg SNS_CMP_m_CFG_MODE m = 1 → v ≤ sval 16 (d.fg SNS_CMP_m_LIM_HI m) - d.fg SNS_CMP_m_CFG_HYST m →
        ∃ t, exec (.comparatorDeassert n bits) s = .next t ∧ t.dev.fbit SNS_CMP_STAT_OUT m = false ∧ t.dev.evt = d.evt ∧ t.dev.pwm = d.pwm)) ∧
    (∀ (n : Fin 24) bits, let v := protVal (d.fg SNS_SD_n_FILT_PF_OSR n + 1) (d.fg SNS_SD_n_FILT_PF_ORD n) bits
      d.bitDue n = true → (∀ o : Fin 16, d.fb SNS_CMP_m_CFG_EN o = false) → d.sdRuns n = true → d.fb SNS_SD_n_FILT_PF_EN n = true →
      bits.length = d.fg SNS_SD_n_FILT_PF_ORD n * d.fg SNS_SD_n_FILT_PF_OSR n + 1 →
      exec (.comparatorAssert n bits) s = .next (s.to (d.fsS SNS_PF_n_VAL v n)) ∧
      exec (.comparatorDeassert n bits) s = .next (s.to (d.fsS SNS_PF_n_VAL v n)))

/-- R81 to R87, R388: metering samples and their delivery, the rotation of the spare converter, the start-up calibration.
Where these rules leave a choice it is the model's (log entry 43). -/
def Obligations.MeteringConverters : Prop :=
  ∀ (s : State) (a : Acc), s.up → let d := s.dev
    (∀ (c : Fin 8) (l : List MtrIn) i, l[c.val]? = some i → d.sns.mtrCalDone = true → d.convStopped = false → l.length = 8 → d.clk.ticks % 100000 = 0 →
      (d.sns.inFlight.any fun x => x.k == d.clk.ticks / 100000) = false → (List.range 8).filter d.mtrOn = [c.val] → d.fbit SNS_MTR_GAIN_AUTO c = false →
      Dev.peakOver i.pk (d.mtrFix c) 90 = false → Dev.peakOver i.pk 0 95 = false → ∃ t, exec (.meteringSample l) s = .next t ∧ t.dev.evt = d.evt ∧
        t.dev.sns.inFlight = d.sns.inFlight ++ [⟨d.clk.ticks / 100000, c,
          (d.corrected (vget d.sns.mtr c).conv (d.mtrFix c) i.rg).toInt * 2 ^ (8 - 2 * d.mtrFix c), d.mtrFix c, false, false,
          (vget d.sns.mtr c).handover, (vget d.sns.mtr c).conv, d.deg, i.read⟩]) ∧
    (∀ x e, d.sns.inFlight = [x] → 100000 * x.k + 250000 ≤ d.clk.ticks → mtrPost { d with sns := { d.sns with inFlight := [] } } x = e →
      exec .meteringSampleDelivery s = .next (s.toTal (if x.read || !((List.range 7).map e.talChan).contains x.ch then e.talSet x.k [x] else e))) ∧
    (d.rotReady = true → ∃ t, exec .rotationStepStart s = .next t ∧ t.dev.fg SNS_MTR_ROT_STEP_ACTIVE = 1 ∧ t.dev.fg SNS_MTR_ROT_REQ = 0 ∧
      t.dev.sns.rotLast = d.rotNext ∧
      t.dev.sns.rot = some { ch := d.rotNext, old := (vget d.sns.mtr d.rotNext).conv, spare := d.fg SNS_MTR_ROT_SPARE_CONV }) ∧
    (∀ r, d.sns.rot = some r → r.phase = .parallel → r.n < 64 → exec .rotationHandover s = .next (s.to d)) ∧
    (∀ r, d.sns.rot = some r → r.phase = .parallel → r.ch < 8 → 64 ≤ r.n → (vget d.sns.mtr r.ch).conv = r.old → ∃ t, exec .rotationHandover s = .next t ∧ (vget t.dev.sns.mtr r.ch).conv = r.spare ∧
      (vget t.dev.sns.mtr r.ch).handover = true ∧ t.dev.sns.rot = some { r with phase := .offset } ∧ t.dev.regs = d.regs) ∧
    (∀ r (o : BitVec 16), d.sns.rot = some r → r.phase = .offset → 320 ≤ r.n → ∃ t, exec (.rotationOffsetMeasured o) s = .next t ∧
      t.dev.sns.rot = some { r with phase := .gain, ofs := o } ∧ t.dev.regs = d.regs) ∧
    (∀ r (g1 g4 g16 g64 : Int), d.sns.rot = some r → r.phase = .gain → 1344 ≤ r.n → r.old < 8 → r.ofs.toInt.natAbs ≤ 2048 → d.fb SNS_MTR_ROT_REQ = false →
      g1.natAbs ≤ 5000 → g4.natAbs ≤ 5000 → g16.natAbs ≤ 5000 → g64.natAbs ≤ 5000 → ∃ t, exec (.rotationCalComplete g1 g4 g16 g64) s = .next t ∧
        t.dev.fg SNS_MTR_CONV_k_CAL_VALID r.old = 1 ∧ t.dev.fgS SNS_MTR_CONV_k_CAL_OFS r.old = r.ofs.toInt ∧
        t.dev.fg SNS_MTR_ROT_SPARE_CONV = (vget d.sns.mtr (d.fg SNS_MTR_CTRL_SPARE)).conv % 8 ∧ vget t.dev.sns.cor r.old = some ⟨r.ofs, g1, g4, g16, g64⟩ ∧
        t.dev.fg SNS_MTR_ROT_STEP_ACTIVE = 0 ∧ t.dev.sns.rot = none ∧ t.dev.evt = (d.raise 22 r.old).evt) ∧
    (∀ r (g1 g4 g16 g64 : Int), d.sns.rot = some r → r.phase = .gain → 1344 ≤ r.n → r.old < 8 → d.fb SNS_MTR_ROT_REQ = false → 5000 < g16.natAbs →
      ∃ t, exec (.rotationCalComplete g1 g4 g16 g64) s = .next t ∧ t.dev.fg SNS_MTR_CONV_k_CAL_FAIL r.old = 1 ∧ t.dev.fg SNS_STAT_MTR_CAL_FAULT = 1 ∧
        t.dev.sns.cor = d.sns.cor ∧ t.dev.evt = ((d.raise 23 r.old).raise 22 r.old).evt) ∧
    (d.rotReady = false → d.accepts a (SNS_MTR_ROT_REQ.at 0) (2 ^ SNS_MTR_ROT_REQ.lo) → ∃ t, exec (.mtrRotationRequest a) s = .next t ∧
      t.dev.fg SNS_MTR_ROT_REQ = 1 ∧ t.dev.fg SNS_STAT_MTR_CAL_PENDING = 1 ∧ t.dev.sns = d.sns) ∧
    (∀ cal : List ConvCal, d.sns.mtrCalDone = false → d.fb SNS_MTR_ROT_REQ = false → cal.length = 8 → (∀ x ∈ cal, x.ofs.toInt.natAbs ≤ 2048 ∧ x.g1.natAbs ≤ 5000 ∧ x.g4.natAbs ≤ 5000 ∧
        x.g16.natAbs ≤ 5000 ∧ x.g64.natAbs ≤ 5000) →
      ∃ t, exec (.meteringInitialCalDone cal) s = .next t ∧ t.dev.sns.mtrCalDone = true ∧ t.dev.evt = d.evt ∧
        ∀ k : Fin 8, t.dev.fg SNS_MTR_CONV_k_CAL_VALID k = 1)

/-- R88 to R94: the auxiliary scan, its results, open-wire and self-test conversions, and the sensing commands.
Where these rules leave a choice it is the model's (log entry 44). -/
def Obligations.AuxConverter : Prop :=
  ∀ (s : State) (a : Acc) (p : Path) (tag : Byte), s.up → let d := s.dev
    (d.fb SNS_AUX_CTRL_EN = true → d.sns.scanning = false → d.convStopped = false → (d.sns.auxEn = true → d.sns.scanNext ≤ d.clk.ticks) → ∃ t,
      exec .auxScanStart s = .next t ∧ t.dev.sns.scanning = true ∧ t.dev.sns.auxEn = true ∧
      t.dev.sns.scanLeft = (List.range 16).filter d.auxOn ∧ t.dev.sns.refExt = d.fb SNS_AUX_CTRL_REF_EXT ∧
      t.dev.sns.owEvery = d.fg SNS_AUX_CTRL_OW_EVERY ∧ t.dev.sns.stEvery = d.fg SNS_AUX_CTRL_ST_PER ∧
      (∀ n : Fin 16, vget t.dev.sns.auxCh n = ⟨d.auxOn n, d.fb SNS_AUX_n_CFG_OW_EN n, d.fg SNS_AUX_n_CFG_SETTLE n⟩) ∧ t.dev.regs = d.regs) ∧
    (d.sns.auxEn = true → d.clk.ticks < d.sns.scanNext → exec .auxScanStart s = .next (s.to d)) ∧
    (∀ (n m : Fin 16) l code die, d.sns.scanning = true → d.convStopped = false → d.sns.scanLeft = n.val :: m.val :: l →
      d.sns.auxFrom + d.auxSlot n * 800 ≤ d.clk.ticks → ∃ e : Dev,
      exec (.auxConversionDone code die) s = .next (s.to ((e.mailbox 3 n).thmAux n)) ∧ e.fg SNS_AUX_n_RES_CODE n = code.toNat ∧
        e.fg SNS_AUX_n_RES_SEQ n = (d.fg SNS_AUX_n_RES_SEQ n + 1) % 2 ^ SNS_AUX_n_RES_SEQ.len ∧ e.sns.scanLeft = m.val :: l ∧
        e.fg SNS_AUX_n_RES_RANGE n = b2n (decide (sval 16 (code.toNat / 16) < d.fgS SNS_AUX_n_LIM_LO n) || decide (d.fgS SNS_AUX_n_LIM_HI n < sval 16 (code.toNat / 16)))) ∧
    (∀ (n : Fin 16) code die, d.sns.scanning = true → d.convStopped = false → d.sns.scanLeft = [n.val] →
      d.sns.auxFrom + d.auxSlot n * 800 ≤ d.clk.ticks →
      exec (.auxConversionDone code die) s = .next (s.to (({ d with sns := { d.sns with scanLeft := [], auxFrom := d.clk.ticks } }.auxResult n code.toNat).scanEnd die.toInt))) ∧
    (∀ (n : Fin 16) (code : BitVec 20), d.auxPick = some n.val → d.sns.auxFrom + d.auxSlot n * 800 ≤ d.clk.ticks → ∃ t,
      exec (.openWireConversionDone code) s = .next t ∧ t.dev.sns.owDue = d.sns.owDue.filter (· != n.val) ∧
        t.dev.sns.owReq = d.sns.owReq.filter (· != n.val) ∧ t.dev.fbit SNS_AUX_STAT_OW n = decide (513803 ≤ code.toInt) ∧
        t.dev.evt = if 513803 ≤ code.toInt then (d.raise 25 n).evt else d.evt) ∧
    (∀ n : Nat, d.auxPick = some n → d.sns.auxEn = true ∧ d.sns.scanning = false ∧ d.convStopped = false ∧
      if n = 16 then d.stDue = true ∧ d.auxFits 600 = true ∧ ∀ m : Fin 16, d.owWaits m = true → d.auxFits (d.auxSlot m) = false
      else n < 16 ∧ d.owWaits n = true ∧ d.auxFits (d.auxSlot n) = true ∧ ∀ m : Fin 16, m.val < n → d.owWaits m = true → d.auxFits (d.auxSlot m) = false) ∧
    (d.sns.auxEn = true → d.sns.stEvery ≠ 0 → ∃ t, exec .auxSelftestDue s = .next t ∧ t.dev.sns.stPer = true ∧ t.dev.sns.stDone = d.sns.stDone ∧
      t.dev.regs = d.regs) ∧
    (d.accepts a (SNS_AUX_TEST_REQ.at 0) (2 ^ SNS_AUX_TEST_REQ.lo) → ∃ t, exec (.auxSelftestRequest a) s = .next t ∧ t.dev.stDue = true ∧
      t.dev.fg SNS_AUX_TEST_REQ = 1) ∧
    (∀ code : BitVec 20, d.auxPick = some 16 → d.sns.auxFrom + 600 * 800 ≤ d.clk.ticks →
      (d.sns.stDone = 0 → ∃ t, exec (.auxSelftestConversionDone code) s = .next t ∧ t.dev.sns.stDone = 1 ∧
        t.dev.sns.stBad = (d.sns.stBad || !decide (code.toInt.natAbs ≤ 200))) ∧
      (d.sns.stDone = 2 → d.sns.stBad = false → (code.toInt - 419430).natAbs ≤ 2097 → ∃ t, exec (.auxSelftestConversionDone code) s = .next t ∧
        t.dev.stDue = false ∧ t.dev.fg SNS_AUX_TEST_FAIL = 0 ∧ t.dev.fg SNS_AUX_TEST_REQ = 0 ∧
        t.dev.fg SNS_AUX_TEST_ST_SEQ = (d.fg SNS_AUX_TEST_ST_SEQ + 1) % 2 ^ SNS_AUX_TEST_ST_SEQ.len ∧ t.dev.evt = d.evt) ∧
      (d.sns.stDone = 2 → d.sns.stBad = true → ∃ t, exec (.auxSelftestConversionDone code) s = .next t ∧ t.dev.fg SNS_AUX_TEST_FAIL = 1 ∧
        t.dev.fg SNS_STAT_AUX_TEST_FAULT = 1 ∧ t.dev.evt = (d.raise 27).evt)) ∧
    (∀ i : Fin 24, d.started p tag 0x201 [0, BitVec.ofNat 8 i] → d.fb SNS_SD_n_CFG_EN i = true → d.fb SNS_SD_n_FILT_CF_EN i = true →
      exec (.snsRead p tag) s = .next (s.answer d p tag .ok (leBytes 4 (d.fg SNS_CF_n_LO_VAL i) ++ leBytes 4 (d.word (SNS_CF_n_HI_SEQ.at i)) ++
        leBytes 6 (vget d.sns.sd i).cf.ts ++ leBytes 2 (b2n (vget d.sns.sd i).cf.deg)))) ∧
    (∀ i : Fin 8, d.started p tag 0x201 [2, BitVec.ofNat 8 i] → d.fbit SNS_MTR_CTRL_EN i = true →
      exec (.snsRead p tag) s = .next (s.answer d p tag .ok (leBytes 4 (d.fg SNS_MTR_n_LO_VAL i) ++ leBytes 4 (d.word (SNS_MTR_n_HI_SEQ.at i)) ++
        leBytes 6 (vget d.sns.mtr i).mb.ts ++ leBytes 2 (b2n (vget d.sns.mtr i).mb.deg)))) ∧
    (∀ i : Fin 8, d.started p tag 0x201 [2, BitVec.ofNat 8 i] → d.fbit SNS_MTR_CTRL_EN i = false →
      exec (.snsRead p tag) s = .next (s.answer d p tag .state [])) ∧
    (d.started p tag 0x202 [1, 1] → d.fb SNS_MTR_CTRL_EN = true → d.fb SNS_MTR_ROT_REQ = true →
      exec (.snsTest p tag) s = .next (s.answer ((d.fs SNS_MTR_ROT_REQ 0).fs SNS_STAT_MTR_CAL_PENDING 0) p tag .ok [2])) ∧
    (d.started p tag 0x202 [3, 0] → d.fb SNS_AUX_CTRL_EN = true → d.sns.owReq = [] → ∀ e, d.owAsk = e →
      exec (.snsTest p tag) s = .next (s.answer e p tag .ok (leBytes 1 (b2n (d.auxPick.isSome || !(e.sns.owReq.any fun n => e.auxPick == some n)))))) ∧
    (d.started p tag 0x202 [3, 0] → d.fb SNS_AUX_CTRL_EN = true → d.sns.owReq ≠ [] → exec (.snsTest p tag) s = .next (s.answer d p tag .ok [1])) ∧
    (d.started p tag 0x202 [3, 1] → d.fb SNS_AUX_CTRL_EN = true → d.sns.owReq = [] → exec (.snsTest p tag) s = .next (s.answer d p tag .ok [3])) ∧
    (d.started p tag 0x202 [2, 0] → d.fb SNS_AUX_CTRL_EN = true → d.stDue = true → exec (.snsTest p tag) s = .next (s.answer d p tag .ok [1]))

/-! ### The grid functions (08) -/

/-- R174, R178, R183, R199: the grid functions start and stop, work on a sample in the order of R174, and demand the contactors.
Where these rules leave a choice it is the model's (log entries 79 and 83). -/
def Obligations.GridDecides : Prop :=
  ∀ (s : State) (a : Acc) (p : Path) (tag : Byte), s.up → let d := s.dev
    (∀ val : W32, GRD_CTRL_EN.of val.toNat = 1 → GRD_CTRL_LI_EN.of val.toNat = 0 → d.fb GRD_CTRL_EN = false → d.follower = false → d.accepts a (GRD_CTRL_EN.at 0) val.toNat →
      d.grd.rep = 1 → d.fg GRD_STAT_STATE = 0 → d.saf.cmd = 0 → (vget d.saf.fn 0).st = 0 → (vget d.saf.fn 1).st = 0 →
      ∃ t, exec (.gridEnable a val) s = .next t ∧ t.dev.fg GRD_CTRL_EN = 1 ∧ t.dev.fg GRD_STAT_STATE = 1 ∧ t.dev.evt = (d.raise 48).evt) ∧
    (∀ val : W32, GRD_CTRL_EN.of val.toNat = 0 → d.grdRuns = true → d.accepts a (GRD_CTRL_EN.at 0) val.toNat → d.fg GRD_STAT_STATE = 1 →
      d.saf.cmd = 0 → (vget d.saf.fn 0).st = 0 → (vget d.saf.fn 1).st = 0 → ∃ t, exec (.gridDisable a val) s = .next t ∧
        t.dev.fg GRD_CTRL_EN = 0 ∧ t.dev.fg GRD_STAT_STATE = 0 ∧ t.dev.grd.demOpen = false ∧ t.dev.evt = (d.raise 48).evt) ∧
    (∀ k m d1 e f, d.grdRuns = true → d.grdTs = 100000 * k → d.grd.ts < d.grdTs → d.gridMeas = (m, d1) →
      ((d1.grdMeasure m).grdHealth m).grdWindows.grdBlock = e → (((e.stages false).grdRegion m).grdDecide m).grdDemand m.vpos = f →
      exec (.gridSampleDecision k) s = .next (s.toSaf ((f.publish (d.connected && !f.connected)).openDone).safEval)) ∧
    (∀ k, d.grdRuns = false ∨ d.grdTs ≠ 100000 * k ∨ d.grdTs ≤ d.grd.ts → exec (.gridSampleDecision k) s = .next (s.toSaf d.safEval)) ∧
    (d.reconnectDue = true → exec .reconnectDelayExpiry s = .next (s.toSaf d.closeStart.safEval)) ∧
    (∀ e, (d.updGrd fun x => { x with rcAsked := true }).showPend = e → d.started p tag 0x402 [0] → d.fg GRD_STAT_STATE = 1 →
      d.fb GRD_STAT_LOCKOUT = false → e.reconnectDue = false → exec (.grdReconnect p tag) s = .next (s.toSaf (e.complete p tag.toNat .ok [1]).safEval)) ∧
    (∀ x : Nat, x < 2 → d.started p tag 0x403 [BitVec.ofNat 8 x] → d.connected = true → exec (.grdDisconnect p tag) s =
      .next (s.toSaf ((d.disconnect (x == 1) false).publishTrip.complete p tag.toNat .ok []).safEval)) ∧
    (d.started p tag 0x403 [0] → d.connected = false → exec (.grdDisconnect p tag) s = .next (s.toSaf (d.complete p tag.toNat .state []).safEval)) ∧
    (d.started p tag 0x404 [1] → exec (.grdClear p tag) s =
      .next (s.answer ((d.fs GRD_STAT_LOCKOUT 0).updGrd fun g => { g with occ := [] }).showPend p tag .ok [])) ∧
    (∀ c, d.startedCmd p tag.toNat 0x401 = some c → c.payload = [] → c.ver = 2 → exec (.grdStatus p tag) s = .next (s.answer d p tag .ok
      (d.words [0x20060004, 0x20060040, 0x20060044, 0x20060048, 0x2006004C, 0x20060050] ++ leBytes 6 d.grd.ts ++ leBytes 1 (b2n d.grd.deg) ++ [0])))

/-- R175, R180, R183, R185, R188, R190, R192: what the timeouts of the grid functions decide.
Where these rules leave a choice it is the model's (log entries 8, 80 and 82). -/
def Obligations.GridTimeouts : Prop :=
  ∀ s : State, s.up → let d := s.dev
    (∀ q : Fin 7, d.grdRuns = true → d.fb GRD_STAT_MEAS_LOST = false → (vget d.sns.mtr (d.grdCh q)).mb.ts + 550000 ≤ d.clk.ticks →
      exec .measChannelTimeout s = .next (s.toSaf (if d.connected then d.measLost.publishTrip else d.measLost).safEval)) ∧
    (∀ l, d.grdRuns = true → d.grd.v3n ≠ 0 → d.grd.v3At + 3000 * Dev.msTicks ≤ d.grd.ts + 100000 →
      (d.grd.v3sum * 256 / d.grd.v3n :: d.grd.v10).take 200 = l → ∃ e f : Dev, e.stages true = f ∧ exec .v10Update s =
        .next (s.toSaf (if f.stageTrips && f.connected then (f.disconnect false true).publishTrip else f).safEval) ∧
        e.fg GRD_MEAS_UNB_V10 = Dev.code16 l.sum (256 * l.length) % 2 ^ GRD_MEAS_UNB_V10.len ∧
        e.grd = { d.grd with v10 := l, v3sum := 0, v3n := 0, v3At := d.grd.v3At + 3000 * Dev.msTicks }) ∧
    (∀ t, d.grd.ceaseAt = some t → d.fg GRD_STAT_STATE = 7 → t + d.fg GRD_CEASE_CEASE_T * Dev.msTicks ≤ d.clk.ticks → exec .ceaseTimeout s =
      .next (s.toSaf ((((d.fs GRD_STAT_CEASE_FAIL 1).raise 59).disconnect false true).publishTrip).safEval)) ∧
    (∀ t, d.grd.ceaseAt = some t → d.clk.ticks < t + d.fg GRD_CEASE_CEASE_T * Dev.msTicks → exec .ceaseTimeout s = .next (s.toSaf d.safEval)) ∧
    (d.grd.suspAt + d.fg GRD_ISL_CFG_SUSP_HOLD * 1000 * Dev.msTicks ≤ d.clk.ticks →
      exec .suspectHoldExpiry s = .next (s.to (d.fs GRD_ISL_STAT_SUSPECT 0))) ∧
    (d.grdRuns = true → d.fb GRD_ISL_STAT_ACT_INVALID = false → 8 * d.fg GRD_ISL_BOUND_BOUND < d.grd.invN → d.fb GRD_CTRL_ACT_INV_DISC = false →
      exec .actInvalidTimeout s = .next (s.toSaf ((d.fs GRD_ISL_STAT_ACT_INVALID 1).raise 60).safEval)) ∧
    (d.fg GRD_STAT_STATE = 8 → d.grd.rep ≠ 1 → d.grd.demAt + d.fg GRD_CONTACT_OPEN_TMO * Dev.msTicks ≤ d.clk.ticks → exec .contactorOpenTimeout s =
      .next (s.to (((((d.softTrip (d.fg GRD_DCLEGS_LEGS)).fs GRD_STAT_CONTACT_FAIL 1).raise 56).grdGo 9).grdCount))) ∧
    (d.fg GRD_STAT_STATE = 3 → d.grd.demAt + d.fg GRD_CONTACT_CLOSE_TMO * Dev.msTicks ≤ d.clk.ticks → ∃ e : Dev, exec .contactorCloseTimeout s =
      .next (s.toSaf ((e.grdCount.updGrd fun x => { x with unmetAt := e.grdCount.clk.ticks }).grdGo d.grd.retState).safEval) ∧ e.fg GRD_STAT_CONTACT_FAIL = 1 ∧ e.evt = (d.raise 56).evt ∧
        e.grd = { d.grd with demClose := false }) ∧
    (∀ t, d.grd.ramp = some t → t + d.fg GRD_RC_T_ES_RAMP * 1000 * Dev.msTicks ≤ d.clk.ticks →
      exec .enterServiceRampEnd s = .next (s.to ((d.updGrd fun x => { x with ramp := none }).raise 55)))

/-- R177, R193, R194: publications between leader and followers, phasor records between peers.
Where these rules leave a choice it is the model's (log entries 81 and 83). -/
def Obligations.GridPeers : Prop :=
  ∀ s : State, s.up → let d := s.dev
    (d.clk.refPresent = true → ∀ (trip : Bool) l e, d.follower = true →
      (d.updGrd fun x => { x with pubAt := d.clk.ticks, pubLost := false, leadState := ((l.getD 0 0 : W32).toNat / 256 % 16) }).pubWrite l = e → exec (.grdPubFrameReceived trip l) s =
        .next (s.to (if trip then e.softTrip (Nat.lor (e.fg GRD_LEGS_LEGS) (e.fg GRD_DCLEGS_LEGS)) else e))) ∧
    (d.follower = true → d.grd.pubLost = false → d.grd.pubAt + 300000 ≤ d.clk.ticks → exec .publicationLoss s =
      .next (s.to (((d.updGrd fun x => { x with pubLost := true }).softTrip (d.fg GRD_LEGS_LEGS)).raise 58))) ∧
    (d.grdRuns = true → d.fb GRD_ISL_CFG_COOP_EN = true → d.coopInstant = true →
      (∀ n : Fin 8, d.fb GRD_PEER_n_CFG_EN n = false) → ∃ t r, exec .coopRecordTimer s = .next t ∧
        t.dev.grd.coopSeq = (d.grd.coopSeq + 1) % 65536 ∧ t.dev.grd.localRec = (r :: d.grd.localRec).take 32 ∧
        r.valid = d.fb CLK_PTP_CTRL_TIME_VALID ∧ r.deg = (d.deg || d.grd.deg) ∧ r.ns < 10 ^ 9 ∧ r.theta = d.theta r.ns ∧
        (r.sec * 10 ^ 9 + r.ns) % (d.fg GRD_COOP_CFG_PER * 10 ^ 6) = 0) ∧
    (∀ l n own, d.clk.refPresent = true → ((List.range 8).find? fun n => d.fb GRD_PEER_n_CFG_EN n && d.fg GRD_PEER_n_ID_ID n == leAt l 4 4) = some n →
      (d.grd.localRec.find? fun r => r.sec == leAt l 8 6 && r.ns == leAt l 14 4) = some own → d.grdRuns = true →
      d.fb GRD_ISL_CFG_COOP_EN = true → l.length = 32 → 1 ≤ byteAt l 0 → byteAt l 1 = 3 → own.valid = true → own.deg = false →
      d.ptpUnits / 2 ^ 28 ≤ leAt l 8 6 * 10 ^ 9 + leAt l 14 4 + 2 * d.fg GRD_COOP_CFG_PER * 10 ^ 6 →
      exec (.coopRecordReceived l) s = .next (s.to (coopValid d n (leAt l 18 4) own))) ∧
    (∀ n : Fin 8, d.fbit GRD_COOP_STAT_VALID n = true → (vget d.grd.peer n).last + 3 * d.fg GRD_COOP_CFG_PER * Dev.msTicks < d.clk.ticks →
      ∃ t, exec (.coopPeerTimeout n) s = .next t ∧ t.dev.fbit GRD_COOP_STAT_VALID n = false ∧ t.dev.fbit GRD_COOP_STAT_DIVERGE n = false ∧
        t.dev.fbit GRD_COOP_STAT_LOST_SEEN n = true ∧ t.dev.evt = (d.raise 61 n).evt ∧ (vget t.dev.grd.peer n).run = 0)

/-! ### Weighmaster and the thermal manager (09) -/

/-- R205: whatever the requests, no grant exceeds its request, the sinks' grants together stay within `LINK_PMAX`, and what the sinks take is
what the sources give. -/
def Obligations.ArbitrationBalances : Prop :=
  ∀ (d : Dev) (eff : Nat → Nat), let g := fun r => (d.grants eff).getD r 0
    (∀ r, g r ≤ eff r) ∧ ((d.reqs.filter d.isSink).map g).sum ≤ d.fg WGH_LINK_PMAX ∧
    ((d.reqs.filter d.isSink).map g).sum = ((d.reqs.filter fun r => !d.isSink r).map g).sum

/-- R203 to R211, R215, R218: cutoffs and boundaries, bursts, the frames of a parallel group, a zone's grace time.
Where these rules leave a choice it is the model's (log entry 84). -/
def Obligations.WeighmasterGrants : Prop :=
  ∀ (s : State) (a : Acc) (p : Path) (tag : Byte), s.up → let d := s.dev
    (d.wghRuns = true → d.wgh.arb = false → 60000 ≤ d.clk.ticks % 80000 → d.clk.ticks % 80000 < 60000 + d.advance →
      exec .requestCutoff s = .next (s.to d.cutoffStep)) ∧
    (d.fb WGH_CTRL_EN = true → d.follower = true → d.wgh.arb = false → 60000 ≤ d.clk.ticks % 80000 → d.clk.ticks % 80000 < 60000 + d.advance →
      exec .requestCutoff s = .next (s.to d.supplyStep)) ∧
    (d.clk.ticks % 80000 < d.advance → d.wgh.release = none → d.wgh.arb = true → d.wghRuns = true → ∃ t, exec .grantBoundary s = .next t ∧
      t.dev.wgh.arb = false ∧ t.dev.fg WGH_STAT_SEQ = (d.fg WGH_STAT_SEQ + 1) % 2 ^ WGH_STAT_SEQ.len ∧
      ∀ r : Fin 32, t.dev.fg WGH_REQ_r_STAT_REQ r = (d.rq r).shown % 2 ^ WGH_REQ_r_STAT_REQ.len ∧
        t.dev.fg WGH_REQ_r_STAT_GRANT r = (d.rq r).grant % 2 ^ WGH_REQ_r_STAT_GRANT.len) ∧
    (∀ m, d.clk.ticks % 80000 < d.advance → d.wgh.release = some m → d.wgh.arb = false → ∃ t, exec .grantBoundary s = .next t ∧
      t.dev.wgh.release = none ∧ ∀ g : Fin 16, t.dev.fg CEN_GRP_g_CEIL_VAL g = if m.testBit g then 0x7FFFFF1F else d.fg CEN_GRP_g_CEIL_VAL g) ∧
    (exec .burstReservationLapse s = .next (s.to (d.updWgh fun x => { x with reserve := x.reserve.filter fun r => decide (d.clk.ticks < r.2.2) }))) ∧
    (∀ val : W32, WGH_CTRL_EN.of val.toNat = 0 → d.fb WGH_CTRL_EN = true → d.accepts a (WGH_CTRL_EN.at 0) val.toNat → d.wgh.burst = none →
      ∃ t, exec (.weighmasterDisable a val) s = .next t ∧ t.dev.fg WGH_CTRL_EN = 0 ∧ t.dev.wgh = { d.wgh with arb := false, release := some d.namedGroups }) ∧
    (∀ l, d.fb WGH_CTRL_EN = true → d.follower = true →
      ((d.reqs.filter fun r => !d.staleNow r).map fun r => (r, min (d.rq r).req (d.capOf r))) = l → l.length ≤ 30 →
      exec .followerRequestForward s = .next (s.to (d.nqlTx 0xFF 0x20 0 (leBytes 1 (d.fg SYS_ROLE_PAR_POS) ++ leBytes 1 l.length ++
        l.flatMap fun x => leBytes 1 x.1 ++ leBytes 2 x.2)))) ∧
    (∀ (r : Fin 32) (q : Nat) (pos : Fin 4), d.clk.refPresent = true → d.wghRuns = true → d.leader = true → d.fb WGH_REQ_r_CFG_EN r = true → d.fg WGH_REQ_r_CFG_NODE r = pos → pos ≠ 0 →
      exec (.wghReqFrameReceived pos [(r.val, q)]) s =
        .next (s.to (d.updReq r fun x => { x with req := q % 65536, reqAt := some d.clk.ticks, stale := false }))) ∧
    (∀ parts part l, d.clk.refPresent = true → d.fb WGH_CTRL_EN = true → d.follower = true → exec (.wghCeilFrameReceived parts part l) s =
      .next (s.to (d.updWgh fun x => { x with rx := x.rx ++ l.take 30, rxParts := part.val :: x.rxParts, rxOf := parts }))) ∧
    (d.fb WGH_CTRL_EN = true → d.follower = true → d.wgh.rxParts ≠ [] → (∀ k < d.wgh.rxOf, k ∈ d.wgh.rxParts) →
      exec .followerCeilingWrite s = .next (s.to ((d.wgh.rx.foldl (fun d x =>
        if d.fb WGH_REQ_r_CFG_EN x.1 && decide (x.1 < 32) then d.putCeil x.1 x.2 (d.fg WGH_REQ_r_SCALE_SCALE x.1) else d) d).updWgh fun x =>
          { x with rx := [], rxParts := [], rxMiss := 0 }))) ∧
    (d.fb WGH_CTRL_EN = true → d.follower = true → d.wgh.rxParts = [] → d.wgh.rx = [] → d.wgh.rxMiss = 2 → ∃ e : Dev,
      exec .followerCeilingWrite s = .next (s.to (((e.reqs.foldl (fun d r => d.putCeil r 0 (d.fg WGH_REQ_r_SCALE_SCALE r)) e).fs WGH_STAT_PAR_LOST 1).raise 71)) ∧
        e.wgh = { d.wgh with rxMiss := 3 } ∧ e.regs = d.regs) ∧
    (∀ (r : Fin 32) b, d.started p tag 0x502 b → b.length = 6 → byteAt b 0 = r → byteAt b 1 = 0 → leAt b 2 2 ≠ 0 → leAt b 4 2 ≠ 0 → d.fb WGH_REQ_r_CFG_EN r = true →
      d.isSink r = true → d.fb WGH_REQ_r_CFG_ESS r = true → d.wghRuns = true → d.wgh.burst = none → exec (.wghBurst p tag) s =
        .next (s.to ((d.burstStart r (leAt b 2 2) (leAt b 4 2) (some (p, tag.toNat))).updCmd p tag.toNat fun c => { c with ran := true }))) ∧
    (∀ (z : Fin 8) t0, vget d.thm.grace z = some t0 → d.fg THM_ZONE_z_STAT_STATE z = 1 → t0 + d.zoneCfg THM_ZONE_z_CFG_GRACE z * 100 * Dev.msTicks ≤ d.clk.ticks →
      ∃ t, exec (.graceExpiry z) s = .next t ∧ t.dev.fg THM_ZONE_z_STAT_STATE z = 2 ∧ t.dev.evt = (d.raise 65 z).evt ∧ vget t.dev.thm.grace z = none ∧
        t.dev.fg THM_ZONE_z_STAT_FRAC z = d.derate z (d.fgS THM_ZONE_z_TEMP_TMAX z) % 2 ^ THM_ZONE_z_STAT_FRAC.len)

/-! ### Tallyman (10) -/

/-- R229, R241: booking neither loses nor invents energy: the total, its residue and its wraps take up what is booked, and no other total
changes; a pulse is an `EV_77` for each multiple of `CONST` crossed, with the timestamp of the sample set and its flag. -/
def Obligations.EnergyBooked : Prop :=
  ∀ (d : Dev) (ts e : Nat) (dg : Bool) (i : Fin 24), let t := vget d.tal.tot i
    ∃ n u, vget (d.bookTo ts dg i e).tal.tot i = u ∧ u.val < 10 ^ 15 ∧ u.res < 2 ^ 32 ∧ u.wrap = (t.wrap + n) % 256 ∧
      t.val * 2 ^ 32 + t.res + e = (n * 10 ^ 15 + u.val) * 2 ^ 32 + u.res ∧
      (∀ j : Fin 24, j ≠ i → vget (d.bookTo ts dg i e).tal.tot j = vget d.tal.tot j) ∧
      (d.fb TAL_PULSE_EN = true → d.fg TAL_PULSE_TOT = i → t.val * 2 ^ 32 + t.res + e < 10 ^ 15 * 2 ^ 32 →
        (d.bookTo ts dg i e).evt.inflight = d.evt.inflight ++ List.replicate (u.val / d.fg TAL_PULSE_CONST - t.val / d.fg TAL_PULSE_CONST)
          { num := 77, ts := ts, deg := dg })

/-- R65, R230, R231, R236, R237: missing sets, the one-second strobe and the saves of a power failure.
Where these rules leave a choice it is the model's (log entries 65 and 69). -/
def Obligations.TallymanSaves : Prop :=
  ∀ (s : State) (okS : Bool), s.up → let d := s.dev
    (d.talRuns = true → 100000 * d.tal.expect + 550000 ≤ d.clk.ticks → d.tal.got = [] → ∃ t, exec .missingSetTimeout s = .next t ∧
      t.dev.tal.expect = d.tal.expect + 1 ∧ t.dev.fbit TAL_INT_CUR_FLAGS 1 = true ∧ t.dev.tal.tot = d.tal.tot ∧
      t.dev.fg TAL_INT_CUR_MISS = min (d.fg TAL_INT_CUR_MISS + 1) (max (d.fg TAL_INT_CUR_MISS) (2 ^ TAL_INT_CUR_MISS.len - 1))) ∧
    (d.fb CLK_PTP_CTRL_TIME_VALID = false → d.clk.lastStrobe + 800000000 ≤ d.clk.ticks → d.talRuns = false →
      exec (.oneSecondStrobe okS) s = .next (s.toTal { d with clk := { d.clk with lastStrobe := d.clk.ticks } })) ∧
    (∀ e f : Dev, d.fb CLK_PTP_CTRL_TIME_VALID = true → d.justCarried = true → d.talRuns = true → d.tal.startTb ≠ d.clk.ticks →
      { d with clk := { d.clk with lastStrobe := d.clk.ticks }, tal := { d.tal with strobes := d.tal.strobes + 1 } } = e → e.talShow = f →
      exec (.oneSecondStrobe okS) s = .next (s.toTal ((if f.atBoundary f.tal.strobes then f.talClose.talOpen false else f).talSave 0 okS))) ∧
    (d.fb TAL_STAT_PF_ACTIVE = false → d.talRuns = false → exec (.pfailFall okS) s =
      .next (s.toTal { d.fs TAL_STAT_PF_ACTIVE 1 with tal := { d.tal with flushed := false, flushAt := d.clk.ticks } })) ∧
    (∀ e f : Dev, d.fb TAL_STAT_PF_ACTIVE = false → d.talRuns = true →
      ({ d.fs TAL_STAT_PF_ACTIVE 1 with tal := { d.tal with flushed := false, flushAt := d.clk.ticks } } : Dev).talSave 1 okS = e →
      { e with tal := { e.tal with flushed := true, flushAt := e.clk.ticks } } = f →
      exec (.pfailFall okS) s = .next (s.toTal ((f.talLog 1 0 f.tal.untilRtc f.aon.rtc 0 0).raise 73))) ∧
    (∀ e, d.fb TAL_STAT_PF_ACTIVE = true → d.tal.flushAt + Dev.msTicks ≤ d.clk.ticks → d.talRuns = true → d.tal.flushed = true → d.talSave 1 okS = e →
      exec (.pfFlushTimer okS) s = .next (s.toTal { e with tal := { e.tal with flushed := true, flushAt := e.clk.ticks } })) ∧
    (exec .pfailRise s = .next (s.to (d.fs TAL_STAT_PF_ACTIVE 0)))

/-- R222, R238, R240, R242, R243: metering starts and stops, the calibration and its seal, the commands; a follower's Tallyman is never enabled: the
write is refused whole.
Where these rules leave a choice it is the model's (log entries 67, 68 and 88). -/
def Obligations.TallymanSealed : Prop :=
  (∀ (s : State) (a : Acc) (p : Path) (tag : Byte) (val : W32), s.up → let d := s.dev
    (TAL_CTRL_EN.of val.toNat = 1 → d.fb TAL_CTRL_EN = false → d.ctrlChanges val.toNat = false → d.accepts a (TAL_CTRL_EN.at 0) val.toNat →
      ∃ e : Dev, exec (.tallymanEnable a val) s = .next (s.toTal e.talEnable) ∧ e.fg TAL_CTRL_EN = 1 ∧ e.tal = d.tal ∧ e.evt = d.evt ∧ e.mram = d.mram) ∧
    (TAL_CTRL_EN.of val.toNat = 0 → d.fb TAL_CTRL_EN = true → d.talRuns = false → d.ctrlChanges val.toNat = false → d.accepts a (TAL_CTRL_EN.at 0) val.toNat →
      ∃ t, exec (.tallymanDisable a val) s = .next t ∧ t.dev.fg TAL_CTRL_EN = 0 ∧ t.dev.tal = d.tal ∧ t.dev.evt = d.evt) ∧
    (TAL_CTRL_EN.of val.toNat = 0 → d.talRuns = true → d.ctrlChanges val.toNat = false → d.accepts a (TAL_CTRL_EN.at 0) val.toNat →
      ∃ e : Dev, exec (.tallymanDisable a val) s = .next (s.toTal (e.talDisable.fs TAL_CTRL_EN 0)) ∧ e.fg TAL_CTRL_EN = 1 ∧ e.tal = d.tal ∧ e.evt = d.evt) ∧
    (∀ n : Fin 8, d.accepts a (TAL_CH_n_GAIN_GAIN.at n) val.toNat → ∃ e : Dev,
      exec (.talConfigWrite a (BitVec.ofNat 32 (TAL_CH_n_GAIN_GAIN.at n)) val) s = .next (s.toTal (e.cfgSave.talFlag 6)) ∧
        e.fg TAL_CH_n_GAIN_GAIN n = TAL_CH_n_GAIN_GAIN.of val.toNat ∧ e.tal = d.tal) ∧
    (∀ n : Fin 8, d.fb TAL_SEAL_SEALED = true → ∃ t, exec (.talConfigWrite a (BitVec.ofNat 32 (TAL_CH_n_GAIN_GAIN.at n)) val) s = .next t ∧
      t.dev.regs = d.regs ∧ t.dev.tal = d.tal) ∧
    (TAL_SEAL_SEAL.of val.toNat = 1 → d.fb TAL_SEAL_SEALED = false → d.accepts a (TAL_SEAL_SEAL.at 0) val.toNat → ∃ t,
      exec (.talSealWrite a val) s = .next t ∧ t.dev.fg TAL_SEAL_SEALED = 1 ∧ t.dev.tal.cfgSeq = (d.tal.cfgSeq + 1) % 2 ^ 32 ∧
        (t.dev.fg TAL_LED_LOGSEQ_SEQ = (d.fg TAL_LED_LOGSEQ_SEQ + 1) % 2 ^ 32 ∨
          t.dev.fg TAL_STAT_LEDGER_FAULT = 1 ∧ t.dev.fg TAL_LED_LOGSEQ_SEQ = (d.fg TAL_LED_LOGSEQ_SEQ + 2) % 2 ^ 32)) ∧
    (∀ l, d.tal.nonce = some l → d.tal.nonceAt + 60000 * Dev.msTicks ≤ d.clk.ticks →
      exec .talNonceExpiry s = .next (s.to { d with tal := { d.tal with nonce := none } })) ∧
    (∀ b first n held, d.started p tag 0x602 b → b.length = 6 → leAt b 0 4 = first → leAt b 4 2 = n → 1 ≤ n → n ≤ 64 →
      1 ≤ d.fg TAL_LED_OLD_SEQ → d.fg TAL_LED_OLD_SEQ ≤ first → d.fg TAL_LED_INT_SEQ = held → first + n ≤ held + 1 → held < 2 ^ 32 →
      exec (.talReadInt p tag) s = .next (s.answer d p tag .ok ((List.range n).flatMap fun i => d.rdMN (0x4000 + 64 * ((first + i) % 7936)) 64))) ∧
    (d.started p tag 0x603 [] → ∃ l t, l.length = 16 ∧ exec (.talChallenge p tag) s = .next t ∧ t.dev.tal.nonce = some l ∧ t.dev.tal.nonceAt = d.clk.ticks ∧
      d.completed t.dev p tag .ok l) ∧
    (∀ b, d.started p tag 0x604 b → b.length = 64 → d.fb TAL_SEAL_SEALED = true → d.tal.nonce = none →
      exec (.talUnseal p tag) s = .next (s.toTal (d.complete p tag.toNat .auth []))) ∧
    (∀ b l, d.started p tag 0x604 b → b.length = 64 → d.fb TAL_SEAL_SEALED = true → d.tal.nonce = some l →
      let good := Config.signatureOk d.sys.running.metKey (l ++ leBytes 4 (d.fg TAL_LED_SAVE_SEQ) ++ leBytes 2 (d.fg TAL_SEAL_BREAK_CNT)) b
      ∃ t, exec (.talUnseal p tag) s = .next t ∧ t.dev.tal.nonce = none ∧ t.dev.fg TAL_SEAL_SEALED = (if good then 0 else d.fg TAL_SEAL_SEALED) ∧
        (if good then t.dev.evt = (d.raise 78).evt ∨ t.dev.fg TAL_STAT_LEDGER_FAULT = 1 ∧ t.dev.evt = ((d.raise 75).raise 78).evt else t.dev.evt = d.evt) ∧
        d.completed t.dev p tag (if good then .ok else .auth) []) ∧
    (d.started p tag 0x605 [] → d.tal.saveBad = false → exec (.talClear p tag) s = .next (s.answer (d.fs TAL_STAT_LEDGER_LATCH 0) p tag .ok [])) ∧
    (d.started p tag 0x605 [] → d.tal.saveBad = true → exec (.talClear p tag) s = .next (s.answer d p tag .state []))) ∧
  (∀ (d : Dev) (a : Acc) (w : W32), d.fg SYS_ROLE_PAR_MODE = 2 → TAL_CTRL_EN.of w.toNat = 1 → d.fb TAL_CTRL_EN = false →
    d.fb TAL_SEAL_SEALED = false → (∀ r n, findReg (TAL_CTRL_EN.at 0) = some (r, n) → Dev.badEncoding r w.toNat = false) →
    d.regWrite a (TAL_CTRL_EN.at 0) w.toNat = (.state, d) ∧
    ∀ s : State, s.dev = d → s.up → exec (.tallymanEnable a w) s = .next (s.toTal d))

/-! ### The safety supervisor (11) -/

/-- R246 to R252: accepted contact levels, discrepancies, test pulses, the exchange of vectors; every cross-comparison fault ends with the four
relay outputs low.
Where these rules leave a choice it is the model's (log entries 75 and 78). -/
def Obligations.SafetyChannels : Prop :=
  ∀ s : State, s.up → let d := s.dev
    (∀ (ch c : Fin 2) (n : Fin 8) (level : Bool) (e : Dev), d.bank3 = true → d.safOn = true → d.fb SAF_IN_n_CFG_EN n = true → d.fb SAF_TP_CFG_EN = false →
      d.fsBit (if ch = 0 then SAF_IN_RAW_A_VIEW else SAF_IN_RAW_B_VIEW) (2 * n + c) level = e →
      exec (.safetyInputAccepted ch n c level) s = .next (s.toSaf ((((e.inNews n).showPermit).fnEval 0 ch).fnEval 1 ch))) ∧
    (∀ (ch c : Fin 2) (n : Fin 8) (level : Bool), d.bank3 = false → exec (.safetyInputAccepted ch n c level) s = .next (s.toSaf d)) ∧
    (∀ n : Fin 8, d.safOn = true → d.fb SAF_IN_n_CFG_EN n = true → d.fbit SAF_IN_STAT_FAULT n = false → d.disagrees 0 n = true → ∃ e : Dev,
      exec (.discrepancyTimeout n) s = .next (s.toSaf e.safEval) ∧ e.fbit SAF_IN_STAT_FAULT n = true ∧ (vget e.saf.inp n).permitAt = none ∧
        ((d.safHit 1 (vget d.saf.inp n).occ).2 = false → e.evt = (d.raise 81 n).evt ∧ (vget e.saf.inp n).latch = (vget d.saf.inp n).latch) ∧
        ((d.safHit 1 (vget d.saf.inp n).occ).2 = true → e.evt = ((d.raise 81 n).raise 85).evt ∧ (vget e.saf.inp n).latch = true)) ∧
    (∀ src : Fin 2, d.safOn = true → d.fb SAF_TP_CFG_EN = true → d.fb SAF_STAT_SAFE_ALL = false → d.saf.tpLow = 0 →
      exec (.testPulseStart src) s = .next (s.toSaf { d with saf := { d.saf with tpLow := 2 ^ src.val } })) ∧
    (∀ (src : Fin 2) (n : Fin 8), d.saf.tpLow.testBit src = true → d.fb SAF_STAT_SAFE_ALL = false → d.fb SAF_IN_n_CFG_EN n = true →
      d.fb SAF_IN_n_CFG_TP_EN n = true → d.fbit SAF_IN_STAT_FAULT n = false →
      exec (.testPulseCheck src n true) s = .next (s.toSaf (d.inFault n)) ∧ exec (.testPulseCheck src n false) s = .next (s.toSaf d)) ∧
    (∀ src : Fin 2, d.saf.tpLow.testBit src = true → d.fb SAF_STAT_SAFE_ALL = false → exec (.testPulseEnd src) s =
      .next (s.toSaf { d with saf := { d.saf with tpLow := 0, tpUntil := vset d.saf.tpUntil src (d.clk.ticks + 160000) } })) ∧
    (d.fb AON_STAT_XT_OK = true → d.saf.diffRun = 2 → ∃ e : Dev, exec (.stateVectorExchange true) s = .next (s.toSaf e.crossFault) ∧
      e.fg SAF_CHAN_XC_DIFF = 1 ∧ e.saf.diffRun = 3) ∧
    (d.fb AON_STAT_XT_OK = true → d.saf.diffRun = 0 → (vget d.saf.fn 0).st = 1 → (vget d.saf.fn 1).st = 1 → (vget d.saf.fn 1).phase ≠ 3 → ∃ t,
      exec (.stateVectorExchange true) s = .next t ∧ t.dev.saf = { d.saf with diffRun := 1, agreeRun := 0 } ∧
      t.dev.fg SAF_CHAN_XC_SEQ = (d.fg SAF_CHAN_XC_SEQ + 1) % 2 ^ SAF_CHAN_XC_SEQ.len) ∧
    (exec .partnerVectorTimeout s = .next (s.toSaf (d.fs SAF_CHAN_PARTNER_LOST 1).crossFault)) ∧
    (∀ n : Byte, exec (.exchangeRateCheck n) s =
      .next (s.toSaf (if n.toNat < 95 ∨ 105 < n.toNat then (d.fs SAF_CHAN_TIME_BAD 1).crossFault else d))) ∧
    (d.fb SAF_CHAN_B_XT_FAIL = false →
      exec .bCrystalLoss s = .next (s.toSaf (((d.setOut 1 false).setOut 3 false).fs SAF_CHAN_B_XT_FAIL 1).crossFault)) ∧
    (∃ e : Dev, d.crossFault = e.safAllOff.showChan ∧ e.fg SAF_STAT_SAFE_ALL = 1 ∧ e.fg SAF_CHAN_XC_SEEN = 1 ∧
      ∀ i : Fin 4, d.crossFault.saf.cmd.testBit i = false)

/-- R256 to R261: the connection check, mirrors, verified reports, off-pulses and the weld test.
Where these rules leave a choice it is the model's (log entry 78). -/
def Obligations.SafetyRelays : Prop :=
  ∀ (s : State) (f : Fin 2) (p : Path) (tag : Byte), s.up → let d := s.dev
    let x := vget d.saf.fn f
    (x.st = 0 → x.openV = true → d.condHold f = true → d.safWaits f = false → d.safLatched f = false → d.fb SAF_RLY_STAT_WELD_BUSY = false →
      exec (.connectionCheckStart f) s = .next (s.toSaf (d.updFn f fun y => { y with st := 1, phase := 1 }))) ∧
    (d.condHold f = false → exec (.connectionCheckStart f) s = .next (s.toSaf d)) ∧
    (x.st = 1 → x.phase = 1 → exec (.checkTimerExpiry f) s = .next (s.toSaf ((d.setOut (2 * f) true).updFn f fun y => { y with phase := 2 }))) ∧
    (f = 1 → x.st = 1 → x.phase = 2 → d.relayPins.testBit 2 = false → exec (.checkTimerExpiry f) s = .next (s.toSaf (d.checkFail f))) ∧
    (∀ (i : Fin 2) (level : Bool) e, d.bank3 = true → d.mirror f i ≠ level → x.pulse = 0 → x.quiet ≤ d.clk.ticks → d.fb SAF_RLY_STAT_WELD_BUSY = false →
      ((d.fsBit SAF_RLY_STAT_FB (2 * f + i) level).updFn f fun y => { y with seen := setBit y.seen i }).safReports f = e →
      (x.st = 1 → exec (.mirrorFeedbackChange f i level) s = .next (s.toSaf (e.mirrorInCheck f))) ∧
      (x.st = 2 → exec (.mirrorFeedbackChange f i level) s = .next (s.toSaf (e.feedbackFault f))) ∧
      (x.st = 0 → exec (.mirrorFeedbackChange f i level) s = .next (s.toSaf (if x.seen.testBit i then e.feedbackFault f else e))) ∧
      (x.st = 3 → exec (.mirrorFeedbackChange f i level) s = .next (s.toSaf e))) ∧
    (x.st = 3 → exec (.feedbackTimeout f) s = .next (s.toSaf ((d.updFn f fun y => { y with st := 0 }).feedbackFault f))) ∧
    (x.st = 1 → x.phase = 4 → exec (.feedbackTimeout f) s = .next (s.toSaf (d.checkFail f))) ∧
    (f = 1 → d.bank3 = true → d.outsLow f = true → d.mirror f 0 = true → d.mirror f 1 = true → x.openV = false → exec (.relayVerified f) s =
      .next (s.toSaf (d.updFn f fun y => { y with openV := true, st := if x.st = 3 then 0 else x.st, bad := 0 }))) ∧
    (f = 0 → d.bank3 = true → d.outsHigh f = true → d.mirror f 0 = false → d.mirror f 1 = false → x.closedV = false → x.st = 1 → exec (.relayVerified f) s =
      .next (s.toSaf ((d.updFn f fun y => { y with closedV := true, st := 2, phase := 0, cause := 255, causeAt := none }).grdReport 2))) ∧
    (d.bank3 = true → d.mirror 1 0 ≠ d.mirror 1 1 → exec .feedbackDisagreeTimeout s = .next (s.toSaf (d.feedbackFault 1))) ∧
    (∀ ch : Fin 2, x.st = 2 → d.saf.cmd.testBit (2 * f + ch) = true → exec (.offPulseStart f ch true) s =
      .next (s.toSaf (d.updFn f fun y => { y with pulse := setBit y.pulse ch, quiet := d.clk.ticks + 240000 + 8000000 })) ∧
      exec (.offPulseStart f ch false) s = .next (s.toSaf (d.relayFault f SAF_RLY_STAT_OP_FAIL))) ∧
    (∀ ch : Fin 2, x.pulse.testBit ch = true → exec (.offPulseEnd f ch true) s =
      .next (s.toSaf (d.updFn f fun y => { y with pulse := clrBit y.pulse ch, quiet := d.clk.ticks + 8000000 }))) ∧
    (∀ e, d.started p tag 0x705 [] → d.fnRests 0 = true → d.grd.demClose = false → d.fb SAF_RLY_STAT_WELD_BUSY = false →
      { d.fs SAF_RLY_STAT_WELD_BUSY 1 with saf := { d.saf with weldBad := false, weldCmd := some (p, tag.toNat) } } = e →
      exec (.safWeldtest p tag) s = .next (s.toSaf (e.updCmd p tag.toNat fun c => { c with ran := true }))) ∧
    (∀ e, d.fb SAF_RLY_STAT_WELD_BUSY = true → d.saf.weldCmd = some (p, tag.toNat) →
      { d.fs SAF_RLY_STAT_WELD_BUSY 0 with saf := { d.saf with weldBad := false, weldCmd := none } } = e →
      exec .weldTestEnd s = .next (s.toSaf ((if d.saf.weldBad then e.checkFail 0 else e).complete p tag.toNat (if d.saf.weldBad then .fault else .ok) [])))

/-- R263 to R272: PDU copies, expectations and sending; the signed unlock sequence; the configuration records.
Where these rules leave a choice it is the model's (log entries 76, 77 and 88). -/
def Obligations.SafetyMessages : Prop :=
  ∀ (s : State) (a : Acc) (p : Path) (tag : Byte), s.up → let d := s.dev
    let sig := (List.range 16).flatMap fun k => leBytes 4 (d.fg SAF_UL_SIG_k_SIG k)
    (∀ kind link pdu, d.safOn = true → d.clk.refPresent = true → exec (.safetyPduReceived kind link pdu) s = .next (s.toSaf ((List.range 16).foldl (fun d j =>
      if d.fb SAF_CONN_c_CFG_EN (j / 2) && !d.fb SAF_CONN_c_CFG_DIR (j / 2) && d.connPath (j / 2) (j % 2) == (kind.val, link.val) && d.pduPasses (j / 2) (j % 2) pdu
      then d.pduAccept (j / 2) (j % 2) pdu else d) d))) ∧
    (∀ kind link pdu, pdu.length = 20 → (∀ c : Fin 8, leAt pdu 16 4 ≠ fcs (leBytes 4 (d.fg SAF_CONN_c_ID_ID c) ++ pdu.take 16)) →
      exec (.safetyPduReceived kind link pdu) s = .next (s.toSaf d)) ∧
    (∀ c : Fin 8, d.fb SAF_CONN_c_STAT_P1_OK c = true → d.fb SAF_CONN_c_STAT_VALID c = false → exec (.pduExpectationTimeout c 0) s =
      .next (s.toSaf (((d.fs SAF_CONN_c_STAT_P1_OK 0 c).fs SAF_CONN_c_STAT_LOST_SEEN 1 c).showConn c).safEval)) ∧
    (∀ c : Fin 8, d.fb SAF_CONN_c_STAT_P2_OK c = true → d.fb SAF_CONN_c_STAT_VALID c = true → exec (.pduExpectationTimeout c 1) s =
      .next (s.toSaf (((d.fs SAF_CONN_c_STAT_P2_OK 0 c).connFault c SAF_CONN_c_STAT_LOST_SEEN).showConn c).safEval)) ∧
    (∀ (c : Fin 8) e, d.safOn = true → d.fb SAF_CONN_c_CFG_EN c = true → d.fb SAF_CONN_c_CFG_DIR c = true →
      (d.pduSendOn (d.connPath c 0) (d.pduOut c)).pduSendOn (d.connPath c 1) (d.pduOut c) = e → exec (.pduSendTimer ⟨c, false⟩) s = .next (s.toSaf d) ∧ exec (.pduSendTimer ⟨c, true⟩) s = .next (s.toSaf
        ((e.fs SAF_CONN_c_STAT_LAST_SEQ (vget d.saf.conn c).txSeq c).updConn c fun x => { x with txSeq := ((vget d.saf.conn c).txSeq + 1) % 65536 }))) ∧
    (∀ val : W32, Dev.ulKey val.toNat = true → SAF_UL_CTRL_OP.of val.toNat = 0 → d.fb SAF_STAT_UL_LOCK = false →
      d.accepts a (SAF_UL_CTRL_OP.at 0) val.toNat → ∃ e : Dev, exec (.safUlChallenge a val) s = .next (s.toSaf e.challenge) ∧ e.saf = d.saf) ∧
    (∀ val : W32, Dev.ulKey val.toNat = true → d.accepts a (SAF_UL_CTRL_OP.at 0) val.toNat → ∃ e : Dev, e.saf = d.saf ∧ e.mem = d.mem ∧
      (SAF_UL_CTRL_OP.of val.toNat = 1 → exec (.safUlConfig a val) s =
        .next (s.toSaf (e.unlockStart { op := 1, fmask := SAF_UL_CTRL_FMASK.of val.toNat, sig := sig } (d.fg SAF_UL_ADDR_ADDR)))) ∧
      (SAF_UL_CTRL_OP.of val.toNat = 2 → exec (.safUlFaultAck a val) s =
        .next (s.toSaf (e.unlockStart { op := 2, fmask := SAF_UL_CTRL_FMASK.of val.toNat, sig := sig } (d.fg SAF_UL_ADDR_ADDR)))) ∧
      (SAF_UL_CTRL_OP.of val.toNat = 3 → exec (.safUlRestartAck a val) s =
        .next (s.toSaf (e.unlockStart { op := 3, fmask := SAF_UL_CTRL_FMASK.of val.toNat, sig := sig } (d.fg SAF_UL_ADDR_ADDR))))) ∧
    (∀ u bad msg good, d.saf.unl = some u →
      d.nonceBytes ++ leBytes 1 u.op ++ leBytes 1 u.fmask ++ leBytes 4 (d.fg SAF_CFG_SEQ_SEQ) ++ u.record = msg →
      (d.saf.nonce && Config.signatureOk d.sys.running.safeKey msg u.sig) = good → exec (.unlockVerifyComplete bad) s =
        .next (s.toSaf (if good then d.nonceClear.unlockApply u bad else d.nonceClear.authRefused.unlockEnd u 3 .auth))) ∧
    (d.saf.nonce = true → d.saf.unl = none → d.saf.nonceAt + 60000 * Dev.msTicks ≤ d.clk.ticks → exec .safNonceExpiry s = .next (s.toSaf d.nonceClear)) ∧
    (d.fb SAF_STAT_UNCONFIG = true → d.saf.storeA = [] → exec .safetyConfigLoaded s = .next (s.toSaf d.showChan)) ∧
    (d.fb SAF_STAT_UNCONFIG = true → Dev.recSound d.saf.storeA = true → d.saf.storeB = d.saf.storeA →
      exec .safetyConfigLoaded s = .next (s.toSaf (d.recLoad d.saf.storeA).safRelease)) ∧
    (d.started p tag 0x702 [1] → d.fb SAF_STAT_UNCONFIG = false → exec (.safReadCfg p tag) s = .next (s.answer d p tag .ok d.saf.storeB)) ∧
    (d.started p tag 0x703 [] → d.fb SAF_STAT_UL_LOCK = false → exec (.safChallenge p tag) s =
      .next (s.toSaf (d.challenge.complete p tag.toNat .ok d.challenge.nonceBytes)) ∧ d.challenge.saf.nonce = true ∧ d.challenge.nonceBytes.length = 16) ∧
    (∀ b, d.started p tag 0x704 b → b.length = 72 → byteAt b 0 = 2 → leAt b 2 2 = 0 → leAt b 4 4 = 0 → d.saf.unl = none →
      d.fb SAF_STAT_UL_LOCK = false → ∀ u : Unlock, u = { op := 2, fmask := byteAt b 1, sig := b.drop 8, cmd := some (p, tag.toNat) } →
      exec (.safUnlock p tag) s = .next (s.toSaf ((d.unlockStart u 0).updCmd p tag.toNat fun c => { c with ran := true }))) ∧
    (∀ b, d.started p tag 0x704 b → d.fb SAF_STAT_UL_LOCK = true → exec (.safUnlock p tag) s =
      .next (s.toSaf (((d.fs SAF_UL_STAT_RESULT 3).finc SAF_UL_STAT_UL_SEQ).complete p tag.toNat .auth [])))

/-! ### The host port and the command engine (12) -/

/-- R280 to R285: the transactions of the host port.
Where these rules leave a choice it is the model's (log entry 22). -/
def Obligations.HostTransactions : Prop :=
  ∀ s : State, s.up → let d := s.dev
    (∀ (addr : W32) (data : List Byte), d.postedBytes + data.length ≤ 512 → exec (.hostWrite addr data) s =
      .next (s.to { d with hst := { d.hst with posted := d.hst.posted ++ [(addr.toNat, data)] } })) ∧
    (∀ (addr : W32) (data : List Byte), 512 < d.postedBytes + data.length → exec (.hostWrite addr data) s =
      .next (s.to (((d.fs HST_STAT_WR_OVF 1).fs HST_IRQ_WOVF 1).raise 101))) ∧
    (∀ a l t, d.hst.posted = (a, l) :: t → inRegs a = false → Dev.inCoop a = false → exec .postedWritePerform s =
      .next (s.toAll (({ d with hst := { d.hst with posted := t } } : Dev).wrN a l))) ∧
    (∀ a l t, d.hst.posted = (a, l) :: t → inRegs a = true → a % 4 = 0 → l.length = 4 → exec .postedWritePerform s =
      .next (s.toAll (({ d with hst := { d.hst with posted := t } } : Dev).regWrite .mm a (leAt l 0 4)).2)) ∧
    (∀ (addr : W32) (len : Nat) (v : Nat) (e : Dev), inRegs addr.toNat = true → d.aonDead addr.toNat = false → d.regRead .mm addr.toNat = (v, e) →
      4 ≤ len → exec (.hostRead addr len) s = .next (s.to (e.drive (leBytes 1 0x5A ++ leBytes 4 v ++ List.replicate (len - 4) 0)))) ∧
    (∀ (addr : W32) (len : Nat), inRegs addr.toNat = false → Dev.inCoop addr.toNat = false → exec (.hostRead addr len) s =
      .next (s.to (d.drive (leBytes 1 0x5A ++ d.hostBytes addr.toNat len)))) ∧
    (∀ addr : W32, exec (.hostReadTimeout addr) s = .next (s.to ((d.fs HST_STAT_RD_TMO 1).drive (leBytes 1 0xE1)))) ∧
    (exec .hostStatus s = .next (s.to (d.drive (leBytes 1 d.statusByte)))) ∧
    (∀ (pkt : List Byte) (w : Nat) (c : Cmd), Dev.frameOk pkt = true → leAt pkt 0 2 = w → (d.findCmd .host (byteAt pkt 2)).isSome = false →
      byteAt pkt 3 < 8 → byteAt pkt 6 = 0 → byteAt pkt 7 = 0 → ((byteAt pkt 3).testBit 2 = false ∨ d.pathVer .host ≠ 1) →
      (if w % 4096 = 1 then 1 ≤ w / 4096 ∧ w / 4096 ≤ 3 else w / 4096 = d.pathVer .host) → leAt pkt 8 4 = d.fg HST_ID_ID →
      d.hst.outst.length < 256 → (d.hst.outst.map fun c => c.payload.length + 16).sum + pkt.length ≤ 65536 →
      c = { path := .host, tag := byteAt pkt 2, ver := w / 4096, op := w % 4096, barrier := (byteAt pkt 3).testBit 0 || w % 4096 == 1,
            noreply := (byteAt pkt 3).testBit 1, urgent := (byteAt pkt 3).testBit 2, payload := pkt.drop 16 } →
      exec (.hostCmd pkt) s = .next (s.to ({ d with hst := { d.hst with outst := d.hst.outst ++ [c] } } : Dev).showOutst)) ∧
    (∀ pkt : List Byte, Dev.frameOk pkt = false → exec (.hostCmd pkt) s =
      .next (s.to ((((d.fcnt HST_STAT_FRAME_CNT HST_STAT_CNT_OVF).fs HST_STAT_FRAME_ERR 1).fs HST_IRQ_FRAME 1).raise 95))) ∧
    (∀ p t, d.hst.replies = p :: t → exec .hostReply s = .next (s.to
      ((({ d with hst := { d.hst with replies := t } } : Dev).fs HST_IRQ_REPLY (b2n !t.isEmpty)).drive (leBytes 2 p.length ++ p)))) ∧
    (d.hst.replies = [] → exec .hostReply s = .next (s.to (d.drive [0, 0]))) ∧
    (∀ b : Byte, b ≠ 0x02 → b ≠ 0x0B → b ≠ 0x05 → b ≠ 0x10 → b ≠ 0x11 → exec (.hostBadInstruction b) s = .next (s.to (d.fs HST_STAT_BAD_INSTR 1)))

/-- R287, R288, R290, R292, R386: how a command starts, ends by time-out, and how its reply leaves.
Where these rules leave a choice it is the model's (log entries 12 and 23). -/
def Obligations.CommandLife : Prop :=
  ∀ (s : State) (p : Path) (tag : Byte) (c : Cmd), s.up → let d := s.dev
    d.findCmd p tag.toNat = some c →
    (∀ e, d.mayStart c = true → d.updCmd p tag.toNat (fun x => { x with started := true }) = e →
      (opKnown c.op = true → (d.fg SYS_BOOT_STAT_STATE = 4 ∨ Dev.bootOp c.op = true) → exec (.commandStart p tag) s = .next (s.to e)) ∧
      (opKnown c.op = false → exec (.commandStart p tag) s = .next (s.answer e p tag .range [])) ∧
      (opKnown c.op = true → d.fg SYS_BOOT_STAT_STATE ≠ 4 → Dev.bootOp c.op = false →
        exec (.commandStart p tag) s = .next (s.answer e p tag .state []))) ∧
    (d.mayStart c = false → exec (.commandStart p tag) s = .next (s.to d)) ∧
    (∀ st b, c.done = some (st, b) → (d.pathVer p = 1 → (Dev.earlier p tag.toNat d.hst.outst).any (fun x => x.path == p) = false) →
      d.sys.rstOwed = none →
      exec (.replyRelease p tag) s =
        .next (s.toAll ((d.dropCmd p tag.toNat).sendReply p (d.packet p (if c.op = 1 ∧ st = .ok then d.pathVer p else c.ver) c.op c.tag 0x80
          st.code b)))) ∧
    (∀ st b, c.done = some (st, b) → d.pathVer p = 1 → (Dev.earlier p tag.toNat d.hst.outst).any (fun x => x.path == p) = true →
      d.sys.rstOwed = none → exec (.replyRelease p tag) s = .next (s.toAll d)) ∧
    (∀ st b, (st = .ok → c.noreply = false) → d.complete p tag.toNat st b =
      d.updCmd p tag.toNat fun x => { x with ran := true, done := some (st, b) }) ∧
    (c.noreply = true → ∀ b, d.complete p tag.toNat .ok b = d.dropCmd p tag.toNat ∧ (d.dropCmd p tag.toNat).findCmd p tag.toNat = none) ∧
    (∀ x, x ∈ d.hst.outst → opBlock x.op = opBlock c.op → x.started = true → x.done = none → (x.op ≠ 0x502 ∧ x.op ≠ 0x907 ∨ x.ran = false) →
      d.mayStart c = false) ∧
    (∀ x, x ∈ Dev.earlier c.path c.tag d.hst.outst → x.path = c.path → x.barrier = true → x.done = none → c.urgent = false → d.mayStart c = false) ∧
    (c.done = none → d.sys.rstOwed = none → exec (.replyRelease p tag) s = .next (s.toAll d)) ∧
    (∀ e, c.op ∈ [3, 4, 5, 6, 8] → c.started = true → c.done = none → (c.ran = false ∨ (p, tag.toNat) ∈ d.hst.slow) →
      { d with hst := { d.hst with slow := d.hst.slow.filter fun x => x != (p, tag.toNat) } } = e →
      exec (.accessTimeout p tag) s = .next (s.answer e p tag .timeout []))

/-- R289 to R291: the system commands.
Where these rules leave a choice it is the model's (log entry 23). -/
def Obligations.SystemCommands : Prop :=
  ∀ (s : State) (p : Path) (tag : Byte) (b : List Byte), s.up → let d := s.dev
    (d.started p tag 0 b → b.length ≤ 256 → exec (.sysNop p tag) s = .next (s.answer d p tag .ok b)) ∧
    (∀ v e, d.started p tag 1 b → b.length = 2 → min (byteAt b 0) 3 = v → max (byteAt b 1) 1 ≤ v → d.setPathVer p v = e →
      exec (.hello p tag) s = .next (s.answer e p tag .ok (leBytes 2 v ++ leBytes 2 16384 ++ e.words [0x20000000, 0x200A0008])) ∧ e.pathVer p = v) ∧
    (d.started p tag 1 b → b.length = 2 → min (byteAt b 0) 3 < max (byteAt b 1) 1 → exec (.hello p tag) s = .next (s.answer d p tag .version [])) ∧
    (∀ l e, d.started p tag 3 b → b.length = 6 → 1 ≤ leAt b 4 2 → leAt b 4 2 ≤ 256 → Dev.regSpan (leAt b 0 4) (leAt b 4 2) = true →
      d.cmdReadN (leAt b 0 4) (leAt b 4 2) = (.ok, l, e) → exec (.regReadCmd p tag) s = .next (s.answer e p tag .ok l)) ∧
    (∀ st k e, d.started p tag 4 b → 8 ≤ b.length → b.length % 4 = 0 → b.length ≤ 1028 → Dev.regSpan (leAt b 0 4) ((b.length - 4) / 4) = true →
      d.cmdWriteN (leAt b 0 4) ((b.length - 4) / 4) (b.drop 4) = (st, k, e) → st ≠ .timeout →
      exec (.regWriteCmd p tag) s = .next (s.toAll (e.complete p tag.toNat st (leBytes 2 k)))) ∧
    (∀ n, d.started p tag 5 b → b.length = 8 → leAt b 4 4 = n → 1 ≤ n → n ≤ 32768 → (d.memKind (leAt b 0 4) n = 1 ∨ d.memKind (leAt b 0 4) n = 2) →
      exec (.memReadCmd p tag) s = .next (s.answer d p tag .ok (d.hostBytes (leAt b 0 4) n))) ∧
    (d.started p tag 6 b → 5 ≤ b.length → b.length ≤ 16380 → d.memKind (leAt b 0 4) (b.length - 4) = 1 →
      exec (.memWriteCmd p tag) s = .next (s.answer (d.wrN (leAt b 0 4) (b.drop 4)) p tag .ok [])) ∧
    (d.started p tag 6 b → 5 ≤ b.length → b.length ≤ 16380 → d.fg SYS_BOOT_STAT_STATE = 4 → d.memKind (leAt b 0 4) (b.length - 4) = 2 →
      exec (.memWriteCmd p tag) s = .next (s.answer d p tag .auth [])) ∧
    (∀ t : Byte, d.started p tag 7 [t] →
      (d.findCmd p t.toNat = none → exec (.hstAbort p tag) s = .next (s.answer d p tag .ok [2])) ∧
      (∀ x, d.findCmd p t.toNat = some x → x.started = false → x.done = none →
        exec (.hstAbort p tag) s = .next (s.answer (d.complete p t.toNat .aborted []) p tag .ok [0])) ∧
      (∀ x, d.findCmd p t.toNat = some x → (x.started = true ∨ x.done ≠ none) → exec (.hstAbort p tag) s = .next (s.answer d p tag .ok [1]))) ∧
    (∀ a mask v e f, d.started p tag 8 b → b.length = 12 → leAt b 0 4 = a → leAt b 4 4 = mask → Dev.regSpan a 1 = true →
      d.cmdRead a = (.ok, v, e) → e.cmdWrite a (Nat.lor (v - Nat.land v mask) (Nat.land (leAt b 8 4) mask)) = (.ok, f) →
      exec (.regModify p tag) s = .next (s.toAll (f.complete p tag.toNat .ok (leBytes 4 v))))

/-! ### Supplies, reset, boot and events (15) -/

/-- R36, R43, R44, R46, R375, R377, R401: supplies and banks, and what power-on reset leaves.
Where these rules leave a choice it is the model's (log entries 29 and 31). -/
def Obligations.SuppliesAndBanks : Prop :=
  ∀ s : State, let d := s.dev
    (d.sys.vddCore = true → ∃ e : Dev, exec .vddCoreFall s = .next (s.toAll e) ∧ e.sys.phase = .hold ∧ e.sys.vddCore = false ∧ e.mram = d.mram ∧
      e.outM = d.outM ∧ e.pwm = {} ∧ (∃ n, e.cen = { lostAt := some n }) ∧ e.hst = {} ∧ e.saf = { storeA := d.saf.storeA, storeB := d.saf.storeB } ∧
      e.fg CLK_REF_STAT_XT_CHECK_OFF = 1 - d.fg AON_STAT_XT_OK ∧
      ∀ (F : Fld) (n : Nat), Dev.keptRegs false [(F.key n, 0)] = [] → F.key n ≠ SYS_BOOT_STAT_SECURED.key 0 →
        F.key n ≠ CLK_REF_STAT_XT_CHECK_OFF.key 0 → e.fg F n = F.rst n) ∧
    (∀ k : Fin 2, d.fb (Dev.okFld k) = true → ∃ e : Dev, exec (.supplyFallPor k) s = .next (s.toAll e) ∧ e.sys.phase = .hold ∧ e.fg (Dev.okFld k) = 0 ∧
      e.sys.vddCore = d.sys.vddCore ∧ e.pwm = {} ∧ e.mram = d.mram) ∧
    (∀ sel : Fin 4, d.sys.phase = .hold → d.powerOk = true → d.sys.testEn = false → ∃ e : Dev, exec (.resetRelease sel) s = .next (s.toAll e) ∧ e.sys.phase = .run ∧
      e.sys.sources = (if sel = 1 then [2] else if sel = 2 then [0, 1, 2] else [0, 1]) ∧ e.fg SYS_BOOT_STAT_STATE = (if sel = 1 then 2 else 0) ∧
      e.sys.detected = ((List.range 6).filter d.bankOk).foldl setBit 0 ∧ (d.bankBad = true → e.trp.bankEp = true) ∧
      (d.bank3 = false → e.fg SAF_STAT_BANK3 = 1) ∧ e.evt.held = []) ∧
    (∀ sel : Fin 4, d.sys.phase = .hold → (d.powerOk = false ∨ d.sys.testEn = true) → exec (.resetRelease sel) s = .next (s.toAll d)) ∧
    (∀ (b : Fin 6) (x : Bool) (st : Nat) (i : Instr) (e : Dev), d.sys.phase = .run →
      (i = .bankValidDetect b x ∧ st = (if x then 2 else if b = 3 then 3 else 1) ∨ i = .bankInvalid b x ∧ st = (if x then 0 else 3)) →
      d.fg (Dev.bankFld b) ≠ st → (d.sys.detected.testBit b = true ∨ st = 0 ∨ st = 3) → ((d.fs (Dev.bankFld b) st).fsBit SYS_IOBANK_BANK_CHG b true).raise 123 b = e →
      exec i s = .next (s.toAll (if b ≤ 1 then e.bankTrip.bankBack
        else if b = 3 then (if e.bank3 then (e.fs SAF_STAT_BANK3 0).safEval else e.bank3Lost) else e))) ∧
    (∀ (b : Fin 6) (x : Bool) (e : Dev), d.sys.phase = .run → d.sys.detected.testBit b = false → (x = true ∨ b ≠ 3) →
      d.fg (Dev.bankFld b) ≠ (if x then 2 else 1) →
      { d.fs (Dev.bankFld b) (if x then 2 else 1) with sys := { d.sys with detected := setBit d.sys.detected b } } = e →
      exec (.bankValidDetect b x) s = .next (s.toAll (if b ≤ 1 then e.bankTrip.bankBack
        else if b = 3 then (if e.bank3 then (e.fs SAF_STAT_BANK3 0).safEval else e.bank3Lost) else e))) ∧
    (∀ (b : Fin 6) (x : Bool), d.sys.phase ≠ .run → d.fg (Dev.bankFld b) ≠ (if x then 2 else if b = 3 then 3 else 1) →
      exec (.bankValidDetect b x) s = .next (s.toAll (d.fs (Dev.bankFld b) (if x then 2 else if b = 3 then 3 else 1)))) ∧
    (∀ k : Fin 6, 2 ≤ k.val → k.val ≤ 4 → d.fb (Dev.okFld k) = true → ∃ e : Dev, exec (.supplyMonitorDrop k) s = .next (s.toAll e) ∧
      e.regs = ((d.fs (Dev.okFld k) 0).dropSeen k).regs ∧ (k = 4 → e.out = d.out) ∧
      (k ≠ 4 → ∃ n, e.out = .clear 0x80000000 0x100000000 n :: d.out)) ∧
    (exec (.supplyMonitorDrop 5) s = .next (s.toAll (vdrvLossDev d))) ∧
    (∀ k : Fin 7, k.val < 5 → exec (.supplyValid k) s = .next (s.toAll (d.fs (Dev.okFld k) 1))) ∧
    (exec (.supplyValid 5) s = .next (s.toAll (vdrvReturnDev d))) ∧
    (d.sys.vddCore = false → exec (.supplyValid 6) s =
      .next (s.toAll ({ d with sys := { d.sys with vddCore := true, coreBack := true } } : Dev).bsCoreUp))

/-- R378 to R382: the sources of a warm reset, the watchdog, and what the reset leaves.
Where these rules leave a choice it is the model's (log entries 20 and 60). -/
def Obligations.ResetSources : Prop :=
  ∀ (s : State) (a : Acc) (p : Path) (tag : Byte), let d := s.dev
    (s.up → exec .resetPin s = .next (s.toAll (d.warmRequest 1))) ∧
    (∀ c, (d.warmRequest c).sys.phase = .warm ∧ (d.warmRequest c).sys.warmCause = c ∧ (d.warmRequest c).pwm = d.pwm) ∧
    (∀ val : W32, s.up → Dev.rstAsked val.toNat = true → (SYS_RST_CTRL_FORCE.of val.toNat = 1 ∨ d.legEnabled = false) →
      d.accepts a (SYS_RST_CTRL_RST.at 0) val.toNat → exec (.softwareResetWrite a val) s = .next (s.toAll (d.warmRequest 2))) ∧
    (∀ val : W32, s.up → Dev.rstAsked val.toNat = true → SYS_RST_CTRL_FORCE.of val.toNat = 0 → d.legEnabled = true →
      exec (.softwareResetWrite a val) s = .next (s.toAll d)) ∧
    (∀ e, d.sys.phase = .warm → ((d.devReset true).fs (if d.sys.warmCause = 1 then SYS_RST_CAUSE_PIN else if d.sys.warmCause = 2 then SYS_RST_CAUSE_SW
        else SYS_RST_CAUSE_WDT) 1).fs SYS_RST_CAUSE_LAST d.sys.warmCause = e →
      (d.sys.testEn = false → ∃ (sel : Fin 4) (f : Dev), f = e.fresh.2.comeUp sel ∧ exec .warmResetAssert s = .next (s.toAll f) ∧
          f.sys.phase = .run ∧ f.sys.sources = (if sel = 1 then [2] else if sel = 2 then [0, 1, 2] else [0, 1])) ∧
        (d.sys.testEn = true → exec .warmResetAssert s = .next (s.toAll { e with sys := { e.sys with phase := .hold } }))) ∧
    (∀ w : Bool, (d.devReset w).pwm = {} ∧ (d.devReset w).mram = d.mram ∧ (d.devReset w).aon = d.aon ∧ (d.devReset w).hst = {} ∧
      (d.devReset w).saf.storeA = d.saf.storeA ∧ (d.devReset w).saf.cmd = 0 ∧ (w = true → (d.devReset w).cen.imem = d.cen.imem) ∧
      (d.devReset w).fg CLK_REF_STAT_XT_CHECK_OFF = 1 - d.fg AON_STAT_XT_OK ∧
      ∀ (F : Fld) (n : Nat), Dev.keptRegs w [(F.key n, 0)] = [] → F.key n ≠ SYS_BOOT_STAT_SECURED.key 0 →
        F.key n ≠ CLK_REF_STAT_XT_CHECK_OFF.key 0 → (d.devReset w).fg F n = F.rst n) ∧
    (∀ val : W32, s.up → SYS_WDT_KICK_KEY.of val.toNat = 0xC3 → d.fb SYS_WDT_EN = true → d.accepts a (SYS_WDT_KICK_KEY.at 0) val.toNat →
      ∃ t, exec (.watchdogKick a val) s = .next t ∧ t.dev.sys = { d.sys with wdtFrom := d.clk.ticks }) ∧
    (∀ e, s.up → d.fb SYS_WDT_EN = true → d.sys.wdtFrom * 103 + d.fg SYS_WDT_TIMEOUT * 800000 * 100 ≤ d.clk.ticks * 103 →
      ({ d with sys := { d.sys with wdtFrom := d.clk.ticks } } : Dev).raise 127 = e →
      exec .watchdogExpiry s = .next (s.toAll (if d.fg SYS_WDT_ACTION = 0 then e else if d.fg SYS_WDT_ACTION = 1 then (e.softTrip 0xFFFFFF).safEval
        else d.warmRequest 3))) ∧
    (∀ f : Byte, s.up → d.started p tag 0x040 [f] → f.toNat ≤ 1 → (f = 1 ∨ d.legEnabled = false) →
      (d.noReply p tag.toNat = false → exec (.sysReset p tag) s =
        .next (s.toAll (({ d with sys := { d.sys with rstOwed := some (p, tag.toNat) } } : Dev).complete p tag.toNat .ok []))) ∧
      (d.noReply p tag.toNat = true → exec (.sysReset p tag) s =
        .next (s.toAll (({ d.dropCmd p tag.toNat with sys := { d.sys with rstOwed := none } } : Dev).warmRequest 2)))) ∧
    (s.up → d.started p tag 0x040 [0] → d.legEnabled = true →
      exec (.sysReset p tag) s = .next (s.toAll (d.complete p tag.toNat .state []))) ∧
    (∀ c b e, s.up → d.findCmd p tag.toNat = some c → c.done = some (.ok, b) → d.pathVer p ≠ 1 → d.sys.rstOwed = some (p, tag.toNat) →
      d.releaseReply p tag.toNat = e → exec (.replyRelease p tag) s =
        .next (s.toAll (({ e with sys := { e.sys with rstOwed := none } } : Dev).warmRequest 2)))

/-- R383 to R388, R396: the boot attempts, the records, the host's image, the security version.
Where these rules leave a choice it is the model's (log entries 24 to 27). -/
def Obligations.SecureBoot : Prop :=
  ∀ (s : State) (p : Path) (tag : Byte) (keyOk sigOk bodyOk : Bool), s.up → let d := s.dev
    (∀ k l, d.sys.sources = k :: l → k < 2 → d.fg SYS_BOOT_STAT_STATE ≤ 1 → d.fb CLK_REF_STAT_REF_OK = false →
      exec .bootRefTimeout s = .next (s.toAll (d.attemptFail [k] 2))) ∧
    (∀ srcs code, (d.attemptFail srcs code).sys.sources = d.sys.sources.filter (fun k => !srcs.contains k) ∧
      (code < 16 → (d.attemptFail srcs code).fg SYS_BOOT_STAT_FAIL = code) ∧ (d.attemptFail srcs code).fg SYS_BOOT_STAT_SRC = 0 ∧
      (d.attemptFail srcs code).fg SYS_BOOT_STAT_STATE = (if (d.sys.sources.filter fun k => !srcs.contains k).any (· < 2) then 1
        else if (d.sys.sources.filter fun k => !srcs.contains k).contains 2 then 2 else 5)) ∧
    (∀ hA hB k l, d.fg SYS_BOOT_STAT_STATE ≤ 1 → d.fb CLK_REF_STAT_REF_OK = true → d.slotOrder hA hB = k :: l →
      exec (.bootSlotAttempt hA hB keyOk sigOk bodyOk) s = .next (s.to
        (if d.imageFault (if k = 0 then hA else hB) keyOk sigOk bodyOk = 0 then d.attemptPass k (if k = 0 then hA else hB)
         else d.attemptFail [k] (d.imageFault (if k = 0 then hA else hB) keyOk sigOk bodyOk)))) ∧
    (∀ h, (d.imageFault h keyOk sigOk bodyOk = 0 ↔ Dev.magicOk h = true ∧ leAt h 4 4 = 1 ∧ keyOk = true ∧ byteAt h 20 ≤ 3 ∧ d.sys.revoked.testBit (byteAt h 20) = false ∧
      sigOk = true ∧ d.fg SYS_BOOT_STAT_SVN_FUSED ≤ leAt h 8 4 ∧ bodyOk = true ∧ leAt h 16 4 ≤ 8388608 ∧ leAt h 16 4 % 4 = 0)) ∧
    (∀ (addr : W32) words e, d.applying = true → words ≠ [] → words.length ≤ 16384 → d.recordBarred addr.toNat (4 * words.length) = false →
      inRegs addr.toNat = false → Dev.inCoop addr.toNat = false → d.memWrite addr.toNat (Dev.wordBytes words) = (.ok, e) → ∃ f : Dev,
      exec (.bootRecordWrite addr words) s = .next (s.toAll f) ∧ f.mem = e.mem ∧ f.out = e.out ∧ f.regs = e.regs ∧ addr.toNat / 65536 ∈ f.sys.written) ∧
    (∀ (addr : W32) words, d.applying = true → words ≠ [] → words.length ≤ 16384 → d.recordBarred addr.toNat (4 * words.length) = true →
      exec (.bootRecordWrite addr words) s = .next (s.toAll (d.attemptFail [d.bootSrc] 8))) ∧
    (∀ (addr mask value : W32) v e, d.applying = true → d.recordBarred addr.toNat 4 = false → Dev.regSpan addr.toNat 1 = true →
      d.cmdRead addr.toNat = (.ok, v, e) → exec (.bootRecordWait addr mask value) s =
        .next (s.toAll (if Nat.land v mask.toNat = value.toNat then e else e.attemptFail [d.bootSrc] 8))) ∧
    (∀ img, d.applying = true → d.sys.image = some img → ∃ e : Dev, exec (.bootRecordEnd true) s = .next (s.toAll e) ∧ e.sys.running = img ∧
      e.sys.image = none ∧ e.fg SYS_BOOT_STAT_STATE = 4 ∧ e.fg SYS_BOOT_STAT_DEBUG = b2n img.debug) ∧
    (∀ img, d.applying = true → d.sys.image = some img → exec (.bootRecordEnd false) s =
      .next (s.toAll ((d.sys.written.foldl Dev.blockReset d).attemptFail [d.bootSrc] 9))) ∧
    (exec .lifecycleFuseProgram s = .next (s.to { d with sys := { d.sys with secured := true } })) ∧
    (d.started p tag 0x041 [] → exec (.bootStatus p tag) s = .next (s.answer d p tag .ok
      (d.words [0x20000020, 0x20000010] ++ leBytes 4 d.sys.running.seq ++ leBytes 4 d.sys.running.svn))) ∧
    (∀ b h a e, d.started p tag 0x042 b → b.length = 4 → leAt b 0 4 = a → a % 4 = 0 → 0x04000000 ≤ a → a + 320 ≤ 0x043C0000 →
      d.fg SYS_BOOT_STAT_STATE = 2 → d.rdN a 320 = h → a + 320 + leAt h 16 4 ≤ 0x043C0000 → d.imageFault h keyOk sigOk bodyOk = 0 → d.attemptPass 2 h = e →
      exec (.bootImage p tag keyOk sigOk bodyOk) s =
        .next (s.answer { e with sys := { e.sys with imgAt := a, imgLen := 320 + leAt h 16 4 } } p tag .ok [])) ∧
    (∀ b, d.started .host tag 0x043 b → b.length = 4 → leAt b 0 4 = d.sys.running.svn → d.fg SYS_BOOT_STAT_SVN_FUSED < leAt b 0 4 →
      exec (.svnAdvance .host tag) s = .next (s.answer (d.fs SYS_BOOT_STAT_SVN_FUSED (leAt b 0 4)) .host tag .ok [])) ∧
    (∀ b (n : Fin 128), d.started (.sess n) tag 0x043 b → exec (.svnAdvance (.sess n) tag) s = .next (s.answer d (.sess n) tag .auth []))

/-- R389 to R392, R394, R396: the event controller: arrival, the log, output pulses, fault classes, its commands.
Where these rules leave a choice it is the model's (log entry 87). -/
def Obligations.EventController : Prop :=
  ∀ (s : State) (p : Path) (tag : Byte), s.up → let d := s.dev
    (∀ e l f, d.evt.inflight = e :: l → e.num < 128 → d.fb CEN_TRC_CTRL_ARM = false → d.fg EVT_CFG_e_OUT e.num = 0 →
      (({ d with evt := { d.evt with inflight := l } } : Dev).fsBit EVT_PEND_k_PEND (e.num % 32) true (e.num / 32)).showEvtLine = f →
      exec .eventArrival s = .next (s.to (if d.fb EVT_CFG_e_LOG e.num && d.fb EVT_LOG_CFG_EN then f.logWrite e else f))) ∧
    (d.evt.inflight = [] → exec .eventArrival s = .next (s.to d)) ∧
    (∀ e, (d.fg EVT_LOG_PTR_WPTR + 1) % d.logSize ≠ d.fg EVT_LOG_PTR_RPTR →
      (d.logWrite e).fg EVT_LOG_PTR_WPTR = (d.fg EVT_LOG_PTR_WPTR + 1) % d.logSize % 2 ^ EVT_LOG_PTR_WPTR.len ∧ (d.logWrite e).evt.lost = 0 ∧
      (d.logWrite e).out = (d.wrN (16 * d.fg EVT_LOG_BASE_BASE + 16 * d.fg EVT_LOG_PTR_WPTR) (d.logRecord e)).out ∧ (d.logRecord e).length = 16) ∧
    (∀ (n : Fin 4) due l, (vget d.evt.out n).wait = due :: l → (vget d.evt.out n).busy = false → (vget d.evt.out n).lowUntil ≤ d.clk.ticks →
      due ≤ d.clk.ticks → ∃ t, exec (.evtOutPulseStart n) s = .next t ∧ vget t.dev.evt.out n = { vget d.evt.out n with busy := true, rose := d.clk.ticks, wait := l } ∧
        t.dev.fg EVT_OUT_n_CFG_LATE n = (if due < d.clk.ticks then 1 else d.fg EVT_OUT_n_CFG_LATE n)) ∧
    (∀ n : Fin 4, d.clk.ticks < (vget d.evt.out n).rose + d.fg EVT_OUT_n_CFG_WIDTH n * 800 → exec (.evtOutPulseEnd n) s = .next (s.to d)) ∧
    (∀ n : Fin 4, (vget d.evt.out n).busy = true → (vget d.evt.out n).rose + d.fg EVT_OUT_n_CFG_WIDTH n * 800 ≤ d.clk.ticks → exec (.evtOutPulseEnd n) s = .next (s.to { d with evt := { d.evt with
      out := vset d.evt.out n { vget d.evt.out n with busy := false, lowUntil := d.clk.ticks + d.fg EVT_OUT_n_CFG_WIDTH n * 800 } } })) ∧
    (∀ (a : Acc) (k : Fin 11) (val : W32), d.accepts a (SYS_FCLS_k_LIMIT.at k) val.toNat → ∃ e : Dev, exec (.faultClassWrite a k val) s =
      .next (s.to (e.clearClass k)) ∧ e.fg SYS_FCLS_k_LIMIT k = SYS_FCLS_k_LIMIT.of val.toNat ∧ e.fg SYS_FCLS_k_WINDOW k = SYS_FCLS_k_WINDOW.of val.toNat) ∧
    (∀ b m, d.started p tag 0x050 b → b.length = 2 → 1 ≤ leAt b 0 2 → leAt b 0 2 ≤ 1024 →
      min (leAt b 0 2) ((d.fg EVT_LOG_PTR_WPTR + d.logSize - d.fg EVT_LOG_PTR_RPTR) % d.logSize) = m →
      exec (.evtRead p tag) s = .next (s.answer (d.fs EVT_LOG_PTR_RPTR ((d.fg EVT_LOG_PTR_RPTR + m) % d.logSize)) p tag .ok
        ((List.range m).flatMap fun i => d.rdN (16 * d.fg EVT_LOG_BASE_BASE + 16 * ((d.fg EVT_LOG_PTR_RPTR + i) % d.logSize)) 16))) ∧
    (d.started p tag 0x051 [] → exec (.evtPending p tag) s =
      .next (s.answer d p tag .ok (d.words [0x200F0010, 0x200F0014, 0x200F0018, 0x200F001C]))) ∧
    (∀ b, d.started p tag 0x052 b → b.length = 16 → ∃ t, exec (.evtClear p tag) s = .next t ∧ d.completed t.dev p tag .ok [] ∧
      ∀ (k : Fin 4) (i : Fin 32), t.dev.fbit EVT_PEND_k_PEND i k = (d.fbit EVT_PEND_k_PEND i k && !(leAt b (4 * k) 4).testBit i))

/-! ### Output pins (02) -/

/-- R35, R36, R43: the output pins. While the core has no power or a reset is asserted every output of banks 0 to 5 and of the pump takes its
reset state; the pins of a bank that is not valid are released; else a pin shows what its block drives.
What a pin shows where these rules leave it open is the model's (log entry 99). -/
def Obligations.OutputPins : Prop :=
  (∀ (d : Dev), d.coreOut = false →
    let at' := fun (b : Nat) (v : Level) => if d.bankOk b then v else Level.z
    (∀ n, d.pinLegH n = at' 0 .low ∧ d.pinLegL n = at' 0 .low) ∧ (∀ k, d.pinSdck k = at' 1 .low) ∧ d.pinHirqN = .z ∧
    d.pinRstOutN = at' 2 .low ∧ d.pinFlRstN = at' 2 .low ∧ d.pinFlCsN = at' 2 .high ∧ d.pinFlSck = at' 2 .low ∧
    (∀ c, d.pinStp c = at' 3 .low) ∧ (∀ i, d.pinSrd i = at' 3 .low) ∧ (∀ n, d.pinBk n = at' 4 .low) ∧ d.pinPgood = at' 4 .low ∧
    (∀ n, d.pinPlmTxd n = at' 4 .high ∧ d.pinPlmRts n = at' 4 .high ∧ d.pinPlmRstN n = at' 4 .low) ∧ (∀ n, d.pinEvt n = at' 4 .low) ∧
    d.pinMdc = at' 5 .low ∧ (∀ x, d.pinEthRstN x = at' 5 .low) ∧ d.pinPps = at' 5 .low ∧ (∀ n, d.pinPmpH n = .low ∧ d.pinPmpL n = .low)) ∧
  (∀ (d : Dev) (n : Nat), d.coreOut = true →
    (d.bankOk 0 = true → (d.pinLegH n = .high ↔ (d.leg n).outH = true) ∧ (d.pinLegL n = .high ↔ (d.leg n).outL = true)) ∧
    (d.bankOk 0 = false → d.pinLegH n = .z ∧ d.pinLegL n = .z) ∧
    (d.bankOk 3 = true → d.fb SAF_STAT_SAFE_ALL = true → d.pinStp n = .low) ∧
    (d.bankOk 3 = false → d.pinStp n = .z ∧ d.pinSrd n = .z)) ∧
  (∀ s : State, s.dev.sys.vddCore = true → ∃ t, exec .vddCoreFall s = .next t ∧ t.dev.coreOut = false ∧ ∀ b : Fin 6, t.dev.bankOk b = s.dev.bankOk b) ∧
  (∀ s : State, s.up → ∃ t, exec .resetPin s = .next t ∧ t.dev.coreOut = false) ∧
  (∀ (s t : State) (i : Instr), s.dev.sys.phase ≠ .run → exec i s = .next t → t.dev.coreOut = true →
    (∃ sel, i = .resetRelease sel) ∨ i = .warmResetAssert)

/-! ### Networks, DRAM and the Neriq Link (12) -/

/-- R294 to R302: link changes, a received frame and its rings, transmission.
Where these rules leave a choice it is the model's (log entries 70 to 72). -/
def Obligations.NetworkPorts : Prop :=
  ∀ (s : State) (a : Acc) (x : Fin 2), s.up → let d := s.dev; d.clk.refPresent = true →
    (∀ (up half : Bool) (speed : Fin 3) (now : Bool), now = (up && !half && d.fb NET_CTRL_EN && d.fb NET_PORT_x_CFG_EN x) →
      ∃ t, exec (.ethLinkChange x up half speed) s = .next t ∧ t.dev.fg NET_PORT_x_STAT_LINK x = b2n now ∧
        t.dev.fg NET_PORT_x_STAT_HALF x = b2n (up && half) ∧
        t.dev.fg NET_PORT_x_STAT_SPEED x = (if up then speed.val else d.fg NET_PORT_x_STAT_SPEED x) ∧
        t.dev.evt = (if d.fb NET_PORT_x_STAT_LINK x = now then d.evt else (d.raise 88 x).evt)) ∧
    (∀ l f : List Byte, d.fb NET_CTRL_EN = true → d.fb NET_PORT_x_CFG_EN x = true → d.fb NET_PORT_x_STAT_LINK x = true →
      60 ≤ l.length → l.length ≤ 2044 → f.length = 4 → leNat f = fcs l → beAt l 12 2 ≠ 0x8808 →
      (∀ fill, d.macFilter x (l.take 6) = false → exec (.ethFrameReceived x (l ++ f) fill) s = .next (s.toTal d)) ∧
      (∀ fill e, d.macFilter x (l.take 6) = true → d.fb NET_PORT_x_CFG_RESP x = false → d.fb NET_PORT_x_CFG_PTP_EN x = false →
        d.pauseSend x fill = e → exec (.ethFrameReceived x (l ++ f) fill) s =
          .next (s.toTal (if d.isSession x (parse l) l then e else e.frameDeliver x (parse l) l none)))) ∧
    (d.fb NET_PORT_x_CFG_PAUSE_TX x = false → ∀ fill, d.pauseSend x fill = d) ∧
    (∀ q : BitVec 16, d.fb NET_PORT_x_CFG_PAUSE_TX x = true → d.pauseSend x (some q) =
      d.frameTx x (beBytes 6 0x0180C2000001 ++ d.ownMac x ++ beBytes 2 0x8808 ++ beBytes 2 1 ++ beBytes 2 q.toNat)) ∧
    (∀ l f : List Byte, d.fb NET_CTRL_EN = true → d.fb NET_PORT_x_CFG_EN x = true → d.fb NET_PORT_x_STAT_LINK x = true →
      d.fb NET_PORT_x_CFG_PAUSE_RX x = true → 60 ≤ l.length → l.length ≤ 2044 → f.length = 4 → leNat f = fcs l → l.take 6 = beBytes 6 0x0180C2000001 →
      beAt l 12 2 = 0x8808 → beAt l 14 2 = 1 → ∀ fill, exec (.ethFrameReceived x (l ++ f) fill) s = .next (s.toTal { d with net := { d.net with
        pause := vset d.net.pause x (d.clk.ticks + d.pauseTicks x (beAt l 16 2)) } })) ∧
    (∀ l f : List Byte, d.fb NET_CTRL_EN = true → d.fb NET_PORT_x_CFG_EN x = true → d.fb NET_PORT_x_STAT_LINK x = true →
      60 ≤ l.length → l.length ≤ 2044 → f.length = 4 → leNat f ≠ fcs l →
      ∀ fill, exec (.ethFrameReceived x (l ++ f) fill) s = .next (s.toTal (d.fcnt NET_PORT_x_STAT_FCS_CNT NET_PORT_x_STAT_CNT_OVF x))) ∧
    (∀ (r : Nat) fl w2 w3 bytes l next, d.ringOn r = true → d.rxChain r 8 (d.fg NET_RING_r_HEAD_HEAD r) bytes.length [] = .full l next →
      d.ringDeliver r fl w2 w3 bytes =
        ((d.rxStore r fl w2 w3 true bytes l).fs NET_RING_r_HEAD_HEAD next r).finc NET_RING_r_CNT_FRAMES r) ∧
    (∀ (r : Nat) fl w2 w3 bytes, d.ringOn r = false → d.ringDeliver r fl w2 w3 bytes =
      (d.fcnt NET_RING_r_CNT_DROP_CNT NET_RING_r_CNT_CNT_OVF r).raise 90 r) ∧
    (∀ (r : Fin 32) (val : W32), d.accepts a (NET_RING_r_TAIL_TAIL.at r) val.toNat → ∃ e : Dev, exec (.ringTailWrite a r val) s =
      .next (s.to ((e.txPick 0).txPick 1)) ∧ e.fg NET_RING_r_TAIL_TAIL r = NET_RING_r_TAIL_TAIL.of val.toNat ∧ e.net = d.net ∧ e.mem = d.mem) ∧
    (∀ r l next e, vget d.net.txCur x = some r → vget d.net.pause x ≤ d.clk.ticks → d.ringOn r = true → d.txFrame r = .full l next →
      { d with net := { d.net with txCur := vset d.net.txCur x none } } = e → exec (.txFrameComplete x) s = .next (s.to
        (((((e.txSend x r l false).2.2.txWriteBack r (e.txSend x r l false).1 (e.txSend x r l false).2.1 l).fs NET_RING_r_HEAD_HEAD next r).finc
          NET_RING_r_CNT_FRAMES r).txPick x))) ∧
    (∀ r l long, d.fb NET_PORT_x_STAT_LINK x = false → d.txSend x r l long = (1, 0, d)) ∧
    (∀ r l n, d.fb NET_PORT_x_STAT_LINK x = true → (d.descWord r (l.headD 0) 0).testBit 24 = true → d.descWord r (l.headD 0) 2 % 128 = n →
      (d.sessReady n = false → (d.txSend x r l false).1 = 2) ∧
      (d.sessReady n = true → d.sessLong n (d.txGather r l).length = false → d.txBad r l = false →
        d.txSend x r l false = (0, 0, d.sessSend n 5 (d.txGather r l))) ∧
      (d.sessReady n = true → d.sessLong n (d.txGather r l).length = true → d.txSend x r l false = (3, 0, d))) ∧
    (∀ (m : List Byte), (d.frameTx x m).tx = d.tx ++ [.eth x (m ++ List.replicate (60 - m.length) 0 ++
      leBytes 4 (fcs (m ++ List.replicate (60 - m.length) 0)))])

/-- R303 to R306, R316: a session packet is matched, replay-checked, authenticated and delivered; contexts and keys.
Where these rules leave a choice it is the model's (log entries 61, 72 and 88). -/
def Obligations.SessionsAndKeys : Prop :=
  ∀ (s : State) (a : Acc) (p : Path) (tag : Byte) (b : List Byte), s.up → let d := s.dev
    (d.clk.refPresent = true → ∀ (x : Fin 2) (port : BitVec 16) pkt (n : Nat), 32 ≤ pkt.length → byteAt pkt 0 = 1 → byteAt pkt 1 < 32 → leAt pkt 2 2 = 0 → d.fb NET_CTRL_EN = true →
      (d.sessOf x port.toNat (leAt pkt 4 4) = none → exec (.sessionPacketReceived x port pkt) s = .next (s.toAll d)) ∧
      (d.sessOf x port.toNat (leAt pkt 4 4) = some n → d.notReplay n (leAt pkt 8 8) = false → exec (.sessionPacketReceived x port pkt) s =
        .next (s.toAll ((d.fcnt NET_SESS_s_STAT_REPLAY_CNT NET_SESS_s_STAT_CNT_OVF n).raise 93 n))) ∧
      (d.sessOf x port.toNat (leAt pkt 4 4) = some n → d.notReplay n (leAt pkt 8 8) = true → d.sessPlain n pkt = none →
        exec (.sessionPacketReceived x port pkt) s =
          .next (s.toAll ((d.fcnt NET_SESS_s_STAT_AUTH_CNT NET_SESS_s_STAT_CNT_OVF n).raise 92 n))) ∧
      (∀ m, d.sessOf x port.toNat (leAt pkt 4 4) = some n → d.notReplay n (leAt pkt 8 8) = true → d.sessPlain n pkt = some m →
        exec (.sessionPacketReceived x port pkt) s = .next (s.toAll ((d.numSeen n (leAt pkt 8 8)).sessDeliver x n (byteAt pkt 1 % 16) m)))) ∧
    (∀ (n : Fin 128) (k : Nat), k < 2 ^ 64 → d.rxNum n < 2 ^ 64 → (d.numSeen n k).notReplay n k = false) ∧
    (∀ (n : Fin 128) ty m key, d.sessReady n = true → d.txKey n = some key → d.ethUp (d.sessPort n) = true → d.sessLong n m.length = false →
      (d.sessSend n ty m).tx = (d.frameTx (d.sessPort n) (Dev.udpFrame (d.sessHead n) d.fresh.1 (d.sessPacket n ty key m))).tx ∧
      (d.sessSend n ty m).txNum n = d.txNum n + 1) ∧
    (∀ (n : Fin 128) ty m, d.fb NET_CTX_s_0_EN n = true → 2 ^ 64 - 1 ≤ d.txNum n → d.fb NET_SESS_s_STAT_TX_EXH n = false →
      d.sessSend n ty m = (d.fs NET_SESS_s_STAT_TX_EXH 1 n).raise 94 n) ∧
    (∀ (n : Fin 128) ty m, d.fb NET_CTX_s_0_EN n = false → d.sessSend n ty m = d) ∧
    (∀ k : Fin 128, d.keyNamed k = false → d.accepts a (NET_KEY_CTRL_OP.at 0) (2 ^ NET_KEY_CTRL_OP.lo + k * 2 ^ NET_KEY_CTRL_SLOT.lo) →
      ∃ t, exec (.keyLoadWrite a k) s = .next t ∧ vget t.dev.net.key k = some ((List.range 8).flatMap fun i => leBytes 4 (d.fg NET_KEY_DATA_k_KEY i)) ∧
        t.dev.fbit NET_KEY_VALID_k_VALID (k % 32) (k / 32) = true ∧ ∀ i : Fin 8, t.dev.fg NET_KEY_DATA_k_KEY i = 0) ∧
    (∀ k : Fin 128, d.keyNamed k = false → d.accepts a (NET_KEY_CTRL_OP.at 0) (2 * 2 ^ NET_KEY_CTRL_OP.lo + k * 2 ^ NET_KEY_CTRL_SLOT.lo) →
      ∃ t, exec (.keyEraseWrite a k) s = .next t ∧ vget t.dev.net.key k = none ∧ t.dev.fbit NET_KEY_VALID_k_VALID (k % 32) (k / 32) = false) ∧
    (d.started p tag 0x802 b → b.length = 68 → byteAt b 0 ≤ 127 → leAt b 1 3 = 0 → ctxOk (b.drop 4) = true → d.fb NET_CTX_s_0_EN (byteAt b 0) = false →
      ∃ t, exec (.netSessOpen p tag) s = .next t ∧ d.completed t.dev p tag .ok [] ∧ t.dev.fb NET_CTX_s_0_EN (byteAt b 0) = true ∧
        t.dev.fg NET_CTX_s_8_LTAG (byteAt b 0) = leAt (b.drop 4) 32 4 ∧ t.dev.fg NET_CTX_s_11_SALT (byteAt b 0) = leAt (b.drop 4) 44 4 ∧
        vget t.dev.net.seen (byteAt b 0) = [] ∧ vget t.dev.hst.sver (byteAt b 0) = 1) ∧
    (∀ n : Fin 128, d.started p tag 0x803 [BitVec.ofNat 8 n] → p ≠ .sess n → ∃ t, exec (.netSessClose p tag) s = .next t ∧ t.dev.fg NET_CTX_s_0_EN n = 0 ∧
      d.completed t.dev p tag .ok [] ∧ ∀ k, t.dev.findCmd (.sess n) k = none) ∧
    (d.started p tag 0x804 b → b.length = 36 → byteAt b 0 ≤ 127 → byteAt b 1 = 0 → leAt b 2 2 = 0 → d.keyPath p = true → d.keyNamed (byteAt b 0) = false →
      exec (.netKeyLoad p tag) s = .next (s.answer (d.keyPut (byteAt b 0) (some (b.drop 4))) p tag .ok [])) ∧
    (d.started p tag 0x804 b → b.length = 36 → byteAt b 0 ≤ 127 → byteAt b 1 = 0 → leAt b 2 2 = 0 → d.keyPath p = false →
      exec (.netKeyLoad p tag) s = .next (s.answer d p tag .auth [])) ∧
    (∀ n k : Fin 128, d.started p tag 0x805 [BitVec.ofNat 8 n, BitVec.ofNat 8 k] → d.keyPath p = true → (vget d.net.key k).isSome = true →
      d.fg NET_CTX_s_10_TXPH n = 0 → exec (.netRekey p tag) s =
        .next (s.answer ((d.fs NET_CTX_s_10_KEY1 k n).fs NET_CTX_s_10_TXPH 1 n) p tag .ok []))

/-- R298: the clock the network engines run: what an offset does, which master they take, what the exchanges measure.
The rule names IEEE 1588-2019; what the engines take from it is the model's (log entry 103). -/
def Obligations.PtpServo : Prop :=
  ∀ d : Dev,
    (∀ ofs : Int, ofs.natAbs ≤ d.fg NET_PTP_CFG_LOCK_TH →
      (d.servoOffset ofs).net.inRun = min 16 (d.net.inRun + 1) ∧ (d.servoOffset ofs).net.outRun = 0 ∧
      (d.servoOffset ofs).fg NET_PTP_STAT_LOCKED = (if 15 ≤ d.net.inRun then 1 else d.fg NET_PTP_STAT_LOCKED) ∧
      (d.servoOffset ofs).evt = (if 15 ≤ d.net.inRun ∧ d.fb NET_PTP_STAT_LOCKED = false then (d.raise 102).evt else d.evt)) ∧
    (∀ ofs : Int, d.fg NET_PTP_CFG_LOCK_TH < ofs.natAbs →
      (d.servoOffset ofs).net.inRun = 0 ∧ (d.servoOffset ofs).net.outRun = min 4 (d.net.outRun + 1) ∧
      (d.servoOffset ofs).fg NET_PTP_STAT_LOCKED = (if 3 ≤ d.net.outRun then 0 else d.fg NET_PTP_STAT_LOCKED) ∧
      (d.servoOffset ofs).evt = (if 3 ≤ d.net.outRun ∧ d.fb NET_PTP_STAT_LOCKED = true then (d.raise 102).evt else d.evt)) ∧
    (∀ ofs : Int, (d.servoOffset ofs).fg CLK_PTP_CTRL_TIME_VALID = d.fg CLK_PTP_CTRL_TIME_VALID) ∧
    (∀ ofs : Int, ofs.natAbs ≤ d.fg NET_PTP_CFG_STEP_TH * 1000 → (d.servoOffset ofs).clk = d.clk ∧
      0x13FAE148 ≤ (d.servoOffset ofs).fg CLK_PTP_INC_INC ∧ (d.servoOffset ofs).fg CLK_PTP_INC_INC ≤ 0x14051EB8) ∧
    (∀ ofs : Int, d.fg NET_PTP_CFG_STEP_TH * 1000 < ofs.natAbs → (d.servoOffset ofs).fg CLK_PTP_INC_INC = d.fg CLK_PTP_INC_INC ∧
      (d.servoOffset ofs).clk = { d.clk with ofs := some (d.clk.ofs.getD 0 - ofs) }) ∧
    (∀ now l q, Dev.bestMaster now l = some q → q ∈ l ∧ Dev.masterFit now q = true) ∧
    (∀ now q r, Dev.masterFit now q = true → Dev.masterFit now r = true →
      Dev.bestMaster now [q, r] = some (if Dev.betterMaster r q = true then r else q)) ∧
    (∀ q r : PtpMaster, q.rank < r.rank → q.rank % 2 ^ 64 ≠ r.rank % 2 ^ 64 → Dev.betterMaster q r = true ∧ Dev.betterMaster r q = false) ∧
    (∀ x pr l m t n t3, byteAt m 0 % 16 = 9 → byteAt m 1 % 16 = 2 → d.fb NET_PTP_CFG_PROF = false → d.net.ptp.best = some ((m.drop 20).take 10) →
      (m.drop 44).take 10 = d.ownPtpId x → d.net.ptp.req = some (n, t3) → beAt m 30 2 = n →
      d.ptpHeard x pr l m t = d.updPtp fun q => { q with req := none, path := some ((q.ms + ((Dev.msgTime m : Int) - t3 - Dev.msgCorr m)) / 2) }) ∧
    (∀ x pr l m t, byteAt m 0 % 16 = 0 → byteAt m 1 % 16 = 2 → (d.fb NET_PTP_CFG_PROF = false ∨ pr.udp = none) →
      (d.net.ptp.best ≠ some ((m.drop 20).take 10) → d.ptpHeard x pr l m t = d) ∧
      (d.net.ptp.best = some ((m.drop 20).take 10) → (byteAt m 6).testBit 1 = true →
        d.ptpHeard x pr l m t = d.updPtp fun q => { q with sync := some (beAt m 30 2, t, Dev.msgCorr m) }))


/-- R15, R307, R308: the DRAM port: training, calibration, scrubbing. When the reference has failed the interface PLLs give no clock: nothing
of the Ethernet ports, the DRAM port and the Neriq Link happens, no lane carries frames, the DRAM does not answer.
Where these rules leave a choice it is the model's (log entry 73). -/
def Obligations.DramAndInterfaceClocks : Prop :=
  (∀ (s : State) (a : Acc), s.up → let d := s.dev; d.clk.refPresent = true →
      (∀ val : W32, DRC_CTRL_EN.of val.toNat = 1 → d.fb DRC_CTRL_EN = false → d.accepts a (DRC_CTRL_EN.at 0) val.toNat →
        ∃ t, exec (.drcEnable a val) s = .next t ∧ t.dev.fg DRC_CTRL_EN = 1 ∧ t.dev.fg DRC_CTRL_SIZE = DRC_CTRL_SIZE.of val.toNat ∧ t.dev.drc.training = true ∧
          t.dev.drc.selfRefresh = false) ∧
      (∀ okay : Bool, d.drc.training = true → ∃ t, exec (.dramTrainingComplete okay) s = .next t ∧ t.dev.drc.training = false ∧
        t.dev.fg DRC_STAT_TRAIN_SEQ = (d.fg DRC_STAT_TRAIN_SEQ + 1) % 2 ^ DRC_STAT_TRAIN_SEQ.len ∧
        t.dev.fg DRC_STAT_READY = (if okay then 1 else d.fg DRC_STAT_READY) ∧ t.dev.fg DRC_STAT_TRAIN_FAIL = (if okay then d.fg DRC_STAT_TRAIN_FAIL else 1)) ∧
      (exec .dramZqCalTimer s = .next (s.to d)) ∧
      (∀ excess : Bool, d.fb DRC_STAT_READY = true → exec (.dramDqsCheckTimer excess) s = .next (s.to (if excess then d.finc DRC_STAT_TRAIN_SEQ else d))) ∧
      (∀ ce ue : List W32, d.fb DRC_STAT_READY = true → d.fb DRC_CTRL_SCRUB_H = true → exec (.dramScrubPass ce ue) s =
        .next (s.to (ue.foldl (fun d x => dramUncorrectable d x.toNat) (ce.foldl (fun d x => dramCorrected d x.toNat) d)))) ∧
      (∀ x : Nat, d.inDram x = true →
        dramCorrected d x = ((d.fcnt DRC_ECC_CE_CNT DRC_ECC_CE_OVF).fs DRC_ECC_ADDR_ADDR (x / 8)).raise 125 x ∧
        (dramUncorrectable d x).fg DRC_STAT_UE = 1 ∧ (dramUncorrectable d x).evt = (d.raise 126 x).evt ∧ ∀ n, 0 < n → (dramUncorrectable d x).ueIn x n = true)) ∧
  (∀ s : State, s.up → let d := s.dev; d.clk.refPresent = false →
      (∀ i : Instr, (∃ (x : Fin 2), (∃ up half speed, i = .ethLinkChange x up half speed) ∨ i = .txFrameComplete x ∨ i = .laneSyncAchieved x ∨
          i = .laneNosigTimeout x ∨ (∃ peer, i = .laneTrained x peer) ∨ (∃ n r, i = .pingReceived x n r) ∨ (∃ n r rt, i = .echoReceived x n r rt) ∨
          i = .pingTimer x ∨ (∃ src b, i = .capFrameReceived x src b) ∨ i = .laneErrorBurst x ∨ (∃ c, i = .nqlFrameBad x c) ∨
          (∃ f, i = .nqlFrameForward x f) ∨ (∃ src q b, i = .nqlDataFrameReceived x src q b)) ∨ i = .capBroadcastTimer ∨ i = .dramZqCalTimer ∨
          (∃ okay, i = .dramTrainingComplete okay) ∨ (∃ e, i = .dramDqsCheckTimer e) ∨ (∃ c u, i = .dramScrubPass c u) ∨ (∃ l, i = .coopRecordReceived l) ∨
          (∃ g o, i = .markerReceived g o) ∨ (∃ p l, i = .wghReqFrameReceived p l) ∨ (∃ n p l, i = .wghCeilFrameReceived n p l) ∨
          (∃ t w, i = .grdPubFrameReceived t w) → exec i s = .next (s.to d)) ∧
      (∀ x f q, exec (.ethFrameReceived x f q) s = .next (s.toTal d)) ∧
      (∀ x port pkt, exec (.sessionPacketReceived x port pkt) s = .next (s.toAll d)) ∧
      (∀ kind link pdu, exec (.safetyPduReceived kind link pdu) s = .next (s.toSaf d)) ∧
      (∀ l, d.laneUp l = false) ∧ (∀ x, d.ramAt x = Dev.inSram x))

/-- R310 to R314, R316: the Neriq Link: a lane's way from `DOWN` to `UP` and its loss, the delay measured, the presence of nodes; frames
forwarded, delivered and sent.
Where these rules leave a choice it is the model's (log entry 74). -/
def Obligations.NeriqLink : Prop :=
  (∀ (s : State) (a : Acc) (l : Fin 2), s.up → let d := s.dev; d.clk.refPresent = true →
      let st := d.fg NQL_LANE_l_STAT_STATE l
      (∀ val : W32, NQL_CTRL_EN.of val.toNat = 1 → NQL_CTRL_L0_EN.of val.toNat = 1 → NQL_CTRL_L1_EN.of val.toNat = 0 → d.fg NQL_LANE_l_STAT_STATE 0 = 0 →
        d.fg NQL_LANE_l_STAT_STATE 1 = 0 → d.accepts a (NQL_CTRL_EN.at 0) val.toNat →
        ∃ t, exec (.nqlEnable a val) s = .next t ∧ t.dev.fg NQL_LANE_l_STAT_STATE 0 = 1 ∧ t.dev.fg NQL_LANE_l_STAT_STATE 1 = 0) ∧
      (st = 1 → exec (.laneSyncAchieved l) s = .next (s.to ((d.laneGo l 2).fs NQL_LANE_l_STAT_NOSIG 0 l))) ∧
      (st = 1 → exec (.laneNosigTimeout l) s = .next (s.to (d.fs NQL_LANE_l_STAT_NOSIG 1 l))) ∧
      (∀ peer : Fin 16, st = 2 → peer.val ≠ d.fg NQL_CTRL_NODE → exec (.laneTrained l peer) s = .next (s.to ((d.fs NQL_LANE_l_DLY_PEER peer l).laneGo l 3))) ∧
      (∀ peer : Fin 16, st = 2 → peer.val = d.fg NQL_CTRL_NODE → exec (.laneTrained l peer) s = .next (s.to ((d.fs NQL_STAT_CONFLICT 1).raise 99 l))) ∧
      (∀ (num : Byte) (r : BitVec 16), 2 ≤ st → exec (.pingReceived l num r) s =
        .next (s.to { d with tx := d.tx ++ [.ordered l 2 num.toNat r.toNat] })) ∧
      (∀ (num : Byte) (r : BitVec 16) rt v m, st = 5 → (rt - r.toNat) / 2 = v → v < 2 ^ 26 → (v :: (vget d.nql.lane l).dly).take 16 = m →
        ∃ t, exec (.echoReceived l num r rt) s = .next t ∧ t.dev.fg NQL_LANE_l_DLY_DLY l = m.sum / m.length % 2 ^ NQL_LANE_l_DLY_DLY.len ∧
          t.dev.fg NQL_LANE_l_DLY_DLY_OVF l = 0 ∧ (vget t.dev.nql.lane l).dly = m ∧
          (m.length = 16 → t.dev.fg NQL_LANE_l_DLY_VALID l = 1) ∧ t.dev.fg NQL_LANE_l_STAT_STATE l = 5) ∧
      (st = 5 → exec (.pingTimer l) s = .next (s.to (d.sendPing l))) ∧
      (∀ (src hops : Fin 16) (b : List Byte), b.length = 16 → src.val ≠ d.fg NQL_CTRL_NODE →
        (st = 5 → exec (.capFrameReceived l ⟨src, hops⟩ b) s = .next (s.to (d.nodeHeard l src hops (leAt b 6 2)))) ∧
        (st = 4 → src.val = d.fg NQL_LANE_l_DLY_PEER l → byteAt b 1 ≤ 1 → 1 ≤ byteAt b 0 →
          exec (.capFrameReceived l ⟨src, hops⟩ b) s = .next (s.to (((d.laneGo l 5).raise 97 l).nodeHeard l src hops (leAt b 6 2)))) ∧
        (st = 4 → src.val = d.fg NQL_LANE_l_DLY_PEER l → 1 < byteAt b 1 →
          exec (.capFrameReceived l ⟨src, hops⟩ b) s = .next (s.to (d.raise 99 l)))) ∧
      (∀ dst h0 h1 : Fin 16, d.laneUp 0 = true → d.laneUp 1 = true → vget (vget d.nql.node dst).hops 0 = h0 → vget (vget d.nql.node dst).hops 1 = h1 →
        d.lanesTo 0xFF = [0, 1] ∧ (h0 < h1 → d.lanesTo dst = [1]) ∧ (h1 < h0 → d.lanesTo dst = [0])) ∧
      (∀ dst type cls b e, d.frameOut dst type cls b = e → b.length ≤ 512 → e.tx = d.tx ++ (d.lanesTo dst).map (fun k => .nql k (d.nqlFrame dst type cls b)) ∧
        nqlFrameOk (d.nqlFrame dst type cls b) = true) ∧
      (∀ n : Fin 16, d.fbit NQL_STAT_NODES n = true → (vget d.nql.node n).capAt + 2400000000 ≤ d.clk.ticks → ∃ t,
        exec (.nodePresenceTimeout n) s = .next t ∧ t.dev.fbit NQL_STAT_NODES n = false ∧ vget t.dev.nql.node n = {}) ∧
      (st = 5 → exec (.laneErrorBurst l) s = .next (s.to ((d.laneGo l 1).raise 98 l))) ∧
      (∀ code : Bool, st = 5 → exec (.nqlFrameBad l code) s = .next (s.to (if code then d.fcnt NQL_LANE_l_STAT_CODE_CNT NQL_LANE_l_STAT_CNT_OVF l
        else d.fcnt NQL_LANE_l_STAT_CRC_CNT NQL_LANE_l_STAT_CNT_OVF l))) ∧
      (∀ k : Fin 6, (d.laneGo l k).fg NQL_LANE_l_STAT_STATE l = k ∧ (k ≠ 5 → ∀ n : Fin 16, (vget (d.laneGo l k).nql.node n).lanes.testBit l = false))) ∧
  (∀ (s : State) (p : Path) (tag : Byte) (l : Fin 2), s.up → let d := s.dev; d.clk.refPresent = true →
      (∀ f, d.laneUp l = true → nqlFrameOk f = true → byteAt f 2 ≠ d.fg NQL_CTRL_NODE → byteAt f 1 ≠ d.fg NQL_CTRL_NODE → 2 ≤ byteAt f 3 % 16 →
        typeKnown (byteAt f 0) = true → d.laneUp (1 - l) = true → exec (.nqlFrameForward l f) s =
          .next (s.to { d with tx := d.tx ++ [.fwd (1 - l) (byteAt f 3 % 16 - 1) (rehop f)] })) ∧
      (∀ f, d.laneUp l = true → nqlFrameOk f = false → exec (.nqlFrameForward l f) s =
        .next (s.to (d.fcnt NQL_LANE_l_STAT_CRC_CNT NQL_LANE_l_STAT_CNT_OVF l))) ∧
      (∀ f, d.laneUp l = true → nqlFrameOk f = true → (byteAt f 3 % 16 ≤ 1 ∨ byteAt f 1 = d.fg NQL_CTRL_NODE) →
        exec (.nqlFrameForward l f) s = .next (s.to d)) ∧
      (∀ f, nqlFrameOk f = true → 2 ≤ byteAt f 3 % 16 → nqlFrameOk (rehop f) = true ∧ byteAt (rehop f) 3 % 16 = byteAt f 3 % 16 - 1 ∧
        (rehop f).length = f.length) ∧
      (∀ (src : Fin 16) (seq : BitVec 16) b e, d.laneUp l = true → src.val ≠ d.fg NQL_CTRL_NODE → (src.val, seq.toNat) ∉ d.nql.seen →
        { d with nql := { d.nql with seen := ((src.val, seq.toNat) :: d.nql.seen).take 64 } } = e →
        exec (.nqlDataFrameReceived l src seq b) s = .next (s.to (e.ringDeliver (d.fg NQL_CTRL_RX_RING) (0xFE * 65536) src 0 b))) ∧
      (∀ (src : Fin 16) (seq : BitVec 16) b, (src.val, seq.toNat) ∈ d.nql.seen → exec (.nqlDataFrameReceived l src seq b) s = .next (s.to d)) ∧
      (d.linkUp = true → exec .capBroadcastTimer s = .next (s.to { d with
        tx := d.tx ++ (d.lanesTo 0xFF).map fun k => .nql k (d.nqlFrame 0xFF 0x01 2 d.capPayload)
        nql := { d.nql with seq := (d.nql.seq + 1) % 65536 } })) ∧
      (∀ b, d.started p tag 0x807 b → 2 ≤ b.length → b.length ≤ 513 → (byteAt b 0 ≤ 15 ∨ byteAt b 0 = 0xFF) → d.linkUp = true →
        d.nql.dataQ.length < 16 → exec (.nqlSend p tag) s =
          .next (s.answer { d with nql := { d.nql with dataQ := d.nql.dataQ ++ [(byteAt b 0, b.drop 1)] } } p tag .ok [])) ∧
      (∀ b, d.started p tag 0x807 b → 2 ≤ b.length → b.length ≤ 513 → (byteAt b 0 ≤ 15 ∨ byteAt b 0 = 0xFF) → d.linkUp = true →
        16 ≤ d.nql.dataQ.length → exec (.nqlSend p tag) s = .next (s.answer d p tag .busy [])))

/-! ### Lamplighter (13) -/

/-- R323, R324, R326: the PLC ports and their modems.
Where these rules leave a choice it is the model's (log entry 55). -/
def Obligations.LampPorts : Prop :=
  ∀ (s : State) (p : Fin 4), s.up → let d := s.dev
    let x := vget d.lmp.port p
    (∀ (a : Acc) (val : W32), d.lmpOn = true → LMP_PORT_p_CFG_EN.of val.toNat = 1 → d.fb LMP_PORT_p_CFG_EN p = false →
      d.accepts a (LMP_PORT_p_CFG_EN.at p) val.toNat → ∃ e : Dev, exec (.plcPortEnable a p val) s = .next (s.to (e.portStart p)) ∧
        e.lmp = d.lmp ∧ e.portOn p = true) ∧
    (d.portOn p = true → d.portStart p = ((d.fs LMP_PORT_p_STAT_STATE 1 p).updLPort p fun y => { y with miss := 0 }).plmSend p 8
      (leBytes 2 (d.fg LMP_PORT_p_PAN_PAN p))) ∧
    (∀ st : Byte, d.portOn p = true → exec (.networkStartConfirm p st) s =
      .next (s.to (if st = 0 then (d.fs LMP_PORT_p_STAT_STATE 2 p).sendAgain p else d.portDown p))) ∧
    (∀ (h : BitVec 16) (st : Byte), exec (.dataConfirm p h st) s = .next (s.to d)) ∧
    (∀ (eui : BitVec 64) (short : BitVec 16) n e, d.portOn p = true → eui ≠ 0 → d.lookup (leBytes 8 eui.toNat) = none →
      d.newE (joinEntry d p eui.toNat short.toNat) = (some n, e) →
      exec (.joinNotification p eui short) s = .next (s.to (((e.putConf n (e.rawE n)).raise 105 n).entryChanged n))) ∧
    (∀ (eui : BitVec 64) (short : BitVec 16) k n e, d.portOn p = true → eui ≠ 0 → d.lookup (leBytes 8 eui.toNat) = some (k, n) → d.ent n = some e →
      exec (.joinNotification p eui short) s = .next (s.to ((d.putConf n (eput e 8 2 short.toNat)).entryChanged n)) ∧
      exec (.leaveNotification p eui short) s = .next (s.to (d.putConf n (eput e 8 2 0xFFFF)))) ∧
    (exec (.getConfirm p) s = .next (s.to (d.updLPort p fun y => { y with miss := 0 }))) ∧
    (exec (.modemRestart p) s = .next (s.to (d.portStart p))) ∧
    (exec (.plcFrameBad p) s = .next (s.to (d.fcnt LMP_PORT_p_STAT_CRC_CNT LMP_PORT_p_STAT_CNT_OVF p))) ∧
    (d.portUp p = true → exec (.plcKeepaliveTimer p) s = .next (s.to (if 3 ≤ x.miss then d.portDown p
      else (d.updLPort p fun y => { y with miss := x.miss + 1 }).plmSend p 6 [0, 0]))) ∧
    (x.rst = true → exec (.plcResetTimer p) s = .next (s.to ((d.updLPort p fun y => { y with rst := false }).portStart p))) ∧
    (d.fb LMP_PORT_p_CFG_MODE p = false → exec (.modemHandshakeLine p) s = .next (s.to ((d.updLPort p fun y => { y with cts := true }).plmFlush p))) ∧
    (∀ type b, d.fb LMP_PORT_p_CFG_MODE p = false → x.cts = false → (d.plmSend p type b).tx = d.tx ∧
      (vget (d.plmSend p type b).lmp.port p).q = x.q ++ [(type, b)]) ∧
    (∀ type b, d.fb LMP_PORT_p_CFG_MODE p = true ∨ x.cts = true → (d.plmSend p type b).tx = d.tx ++ [.plm p (Dev.plmFrame type x.seq b)] ∧
      (vget (d.plmSend p type b).lmp.port p).seq = (x.seq + 1) % 256)

/-- R327 to R331, R334 to R338: transactions, polls, minutes, overrides, deferred endpoints, the supply level.
Where these rules leave a choice it is the model's (log entries 50 to 52). -/
def Obligations.LampEndpoints : Prop :=
  ∀ (s : State) (num : BitVec 16) (n : Fin 262144), s.up → let d := s.dev
    d.lmpOn = true →
    (∀ (ver hi lo : Byte) (rated : BitVec 16) t e x p, (d.lmp.txns.find? fun y => y.sent && y.num == num.toNat && y.req == .hello) = some t →
      max 1 lo.toNat ≤ p → min 2 hi.toNat = p → (d.txnReply num.toNat 0 (· == .hello) none fun y => esetBit y 87 6 false) = e → e.ent t.entry = some x →
      leAt x 30 2 ≠ 0 → byteAt x 16 ≠ p → (e.putConf t.entry (eput x 16 1 p)).servedE t.entry ≠ none →
      exec (.endpointHelloRsp num ver hi lo rated) s = .next (s.to ((e.putConf t.entry (eput x 16 1 p)).evaluate 1 false [t.entry]))) ∧
    (∀ (ver level : Byte) (f : BitVec 24) (en : W32) (pw : BitVec 16) (st : Byte), (∀ y ∈ d.lmp.txns, y.sent = true → y.num ≠ num.toNat) →
      exec (.endpointStatus num ver level f en pw) s = .next (s.to d) ∧ exec (.endpointAck num ver st level) s = .next (s.to d)) ∧
    (∀ (ver level : Byte) (f : BitVec 24) (en : W32) (pw : BitVec 16) t e, d.lmp.txns = [t] → t.sent = true → t.num = num.toNat → t.req = .poll →
      d.ent t.entry = some e → t.owners = [] → ver.toNat = byteAt e 16 → ver = 2 → leAt e 84 3 = f.toNat → d.utc = none → level.toNat ≠ byteAt e 70 →
      exec (.endpointStatus num ver level f en pw) s = .next (s.to ((d.updLmp fun y => { y with txns := [] }).putStat t.entry
        (eput (eput (eput (esetBit (eput e 73 1 0) 87 7 false) 71 1 level.toNat) 84 3 f.toNat) 80 4 en.toNat)))) ∧
    (∀ (ver level st : Byte) t e l k, d.lmp.txns = [t] → t.sent = true → t.num = num.toNat → t.req = .set l k → d.ent t.entry = some e → t.owners = [] →
      ver.toNat = byteAt e 16 → d.utc = none → leAt e 84 3 = 0 → byteAt e 70 = level.toNat → exec (.endpointAck num ver st level) s = .next (s.to
        ((d.updLmp fun y => { y with txns := [] }).putStat t.entry
          (esetBit (eput (esetBit (eput e 73 1 0) 87 7 false) 71 1 level.toNat) 87 5
            (level.toNat != byteAt (esetBit (eput e 73 1 0) 87 7 false) 70))))) ∧
    (∀ (t u v : Txn), d.lmp.txns = [t, u] → d.txnMayStart t = true → d.txnMayStart u = true → u.cls < t.cls → t.cls ≤ 3 →
      { u with sent := true, num := d.lmp.txnNum, tries := 0, path := byteAt (d.rawE u.entry) 11 } = v → 4 ≤ v.path % 8 →
      exec .transactionStart s = .next (s.to ((d.updLmp fun y => { y with txns := [t, v], txnNum := (y.txnNum + 1) % 65536 }).txnSend v))) ∧
    (∀ t l, (d.lmp.txns.find? fun y => y.sent && y.num == num.toNat) = some t →
      (d.lmp.txns.map fun y => if y.sent && y.num == num.toNat then { y with tries := y.tries + 1 } else y) = l →
      exec (.transactionResponseTimeout num) s = .next (s.to
        (if t.tries < d.fg LMP_POLL_RETRY then (d.updLmp fun z => { z with txns := l }).txnSend t else d.txnFailed t))) ∧
    (∀ e, d.servedE n = some e → byteAt e 16 ≠ 0 → d.fb LMP_CTRL_POLL_EN = true → exec (.pollDue n) s = .next (s.to (d.qTxn 3 n .poll []))) ∧
    (∀ m l, d.localMin = some m → d.lmp.minute = some l → m / 1440 = l / 1440 → d.fb LMP_CTRL_SCHED_EN = true →
      (l < m → exec .localMinuteBoundary s = .next (s.to (((endOverrides d l m).updLmp fun y => { y with minute := some m }).evalServed 1))) ∧
      (m ≤ l → exec .localMinuteBoundary s = .next (s.to d))) ∧
    (∀ e u, d.servedE n = some e → d.utc = some u →
      (byteAt e 72 ≠ 255 → leAt e 74 6 ≠ 0 → leAt e 74 6 ≠ 2 ^ 48 - 1 → leAt e 74 6 ≤ u →
        exec (.overrideExpiry n) s = .next (s.to ((d.override n 255 0).evaluate 1 false [n.val]))) ∧
      (u < leAt e 74 6 → exec (.overrideExpiry n) s = .next (s.to d))) ∧
    (∀ e g low, d.lmp.used = [n.val] → d.servedE n = some e → ebit e 56 1 = true → d.inBatch n = false → d.goalOf e = g → min g.1 (byteAt e 28) = low →
      (byteAt e 70 < low → exec .deferredRetryTimer s = .next (s.to (d.formBatch 1 [(n.val, low, g.2)]).runBursts)) ∧
      (low ≤ byteAt e 70 → byteAt e 70 < g.1 → exec .deferredRetryTimer s = .next (s.to (d.formBatch 1 [(n.val, g.1, g.2)]).runBursts)) ∧
      (g.1 ≤ byteAt e 70 → exec .deferredRetryTimer s = .next (s.to ((d.putStat n (esetBit e 56 1 false)).formBatch 1 []).runBursts))) ∧
    (d.fg WGH_SUPPLY_LEVEL = d.lmp.supply →
      (d.lmp.supply ≠ 2 → exec .supplyLevelPoll s = .next (s.to d)) ∧
      (d.lmp.supply = 2 → exec .supplyLevelPoll s =
        .next (s.to (shedLoop (20000 * d.fg WGH_REQ_r_STAT_GRANT (d.fg LMP_BURST_REQ)) (shedOrder d) d))))

/-- R339 to R343: messages between hubs, the digests, the beats, the master roles, a deleted entry.
Where these rules leave a choice it is the model's (log entry 57). -/
def Obligations.LampHubs : Prop :=
  ∀ (s : State) (k : Fin 16) (role : Fin 4) (dist : BitVec 16) (h : Dev), s.up → let d := s.dev
    d.lmpOn = true → (d.updLmp fun x =>
      { x with peerAt := vset x.peerAt k (some d.clk.ticks), peerRole := vset x.peerRole k role, peerDist := vset x.peerDist k dist.toNat }) = h →
    (d.fb LMP_PEER_k_CFG_EN k = true →
      (∀ b, d.fb LMP_CTRL_REPL_EN = true → exec (.lmpUpdateReceived k role dist [b]) s = .next (s.to (h.mergeIn k b))) ∧
      (∀ r, d.fb LMP_CTRL_REPL_EN = true → r.length ≤ 40 → exec (.lmpDigestReceived k role dist r) s = .next (s.to (h.digestIn k r))) ∧
      (∀ r, d.fb LMP_CTRL_REPL_EN = true → r.length ≤ 64 → exec (.lmpPullReceived k role dist r) s = .next (s.to (h.pullIn k r))) ∧
      (∀ b, exec (.lmpGroupReceived k role dist b) s = .next (s.to (h.groupIn b))) ∧
      (∀ (hub : BitVec 16) (epoch : W32), role.val ≠ 0 → role.val = d.fg SYS_ROLE_STAT_DIR_ACTIVE → (role.val = 1 → dist.toNat = d.fg LMP_HUB_DISTRICT) →
        ∃ t, exec (.lmpBeatReceived k role dist hub epoch) s = .next t ∧ vget t.dev.lmp.epoch role = max (vget d.lmp.epoch role) epoch.toNat ∧
          vget t.dev.lmp.beatAt role = some d.clk.ticks ∧
          if d.fg LMP_EPOCH_EPOCH < epoch.toNat ∨ (d.fg LMP_EPOCH_EPOCH = epoch.toNat ∧ hub.toNat < d.fg LMP_HUB_HUB_ID)
          then t.dev.fg SYS_ROLE_STAT_DIR_ACTIVE = 0 ∧ t.dev.evt = (d.raise 109 0).evt
          else t.dev.fg SYS_ROLE_STAT_DIR_ACTIVE = role ∧ t.dev.evt = d.evt)) ∧
    (∀ b, d.fb LMP_PEER_k_CFG_EN k = false → exec (.lmpUpdateReceived k role dist b) s = .next (s.to d)) ∧
    (∀ b, b.length = 128 → leAt b 124 4 ≠ crc32c (b.take 124) → d.mergeIn k b = d) ∧
    (∀ (eui : BitVec 64) m, d.fb LMP_GW_g_EN k = true →
      (d.lmp.txns.any (fun t => t.sent && t.num == leAt m 2 2 && t.path == 16 * k + 4 && idOf (d.rawE t.entry) == leBytes 8 eui.toNat)) = true →
      exec (.lmpEndpointReceived k eui m) s = .next (s.to (d.endpointIn m))) ∧
    (d.fb LMP_CTRL_REPL_EN = true → exec .digestTimer s = .next (s.to (d.peers.foldl (fun d j => d.sendDigests j) d))) ∧
    (d.fb SYS_ROLE_STAT_DIR_ACTIVE = true → exec .beatTimer s = .next (s.to (d.lmpSendAll 4 (leBytes 4 (d.fg LMP_EPOCH_EPOCH))))) ∧
    (d.fb SYS_ROLE_STAT_DIR_ACTIVE = false → exec .beatTimer s = .next (s.to d)) ∧
    (exec .masterSilenceTimeout s = .next (s.to (if d.silent then d.takeoverStart else d))) ∧
    (∀ r : Fin 4, d.lmp.takeover = some r.val → ∃ t, exec .takeoverComplete s = .next t ∧ t.dev.fg SYS_ROLE_STAT_DIR_ACTIVE = r ∧
      t.dev.lmp.takeover = none ∧ t.dev.lmp.pulls = [] ∧ t.dev.evt = (d.raise 109 r).evt ∧
      (d.lmp.takeEpoch < 2 ^ 32 → t.dev.fg LMP_EPOCH_EPOCH = d.lmp.takeEpoch)) ∧
    (∀ (a : Acc) (val : W32), SYS_ROLE_DIR_ROLE.of val.toNat ≠ d.fg SYS_ROLE_DIR_ROLE → d.accepts a (SYS_ROLE_DIR_ROLE.at 0) val.toNat →
      ∃ e : Dev, exec (.dirRoleWrite a val) s = .next (s.to (e.dirRoleChanged (d.fg SYS_ROLE_DIR_ROLE))) ∧ e.lmp = d.lmp ∧
        e.fg SYS_ROLE_DIR_ROLE = SYS_ROLE_DIR_ROLE.of val.toNat) ∧
    (∀ (n : Fin 262144) e, d.ent n = some e → n.val ∈ d.lmp.used → ebit e 56 7 = true → exec (.entryFreeTimer n) s = .next (s.to ((d.purge n).freeE n)))

/-- R344: Lamplighter's commands.
Where these rules leave a choice it is the model's (log entries 48 and 59). -/
def Obligations.LampCommands : Prop :=
  ∀ (s : State) (p : Path) (tag : Byte) (b : List Byte), s.up → let d := s.dev
    (∀ e, d.started p tag 0x902 b → b.length = 12 → byteAt b 0 = 1 → leAt b 1 3 = 0 → leAt b 4 8 ∈ d.lmp.used → d.ent (leAt b 4 8) = some e →
      exec (.lmpEntryRead p tag) s = .next (s.answer d p tag .ok (leBytes 4 (leAt b 4 8) ++ e))) ∧
    (∀ k n e, d.started p tag 0x903 b → entryOk b = true → d.lookup (b.take 8) = some (k, n) → d.ent n = some e → d.slotFull e = false → ebit e 56 7 = false →
      exec (.lmpEntryWrite p tag) s = .next (s.answer ((d.putConf n (b ++ e.drop 32)).entryChanged n) p tag .ok (leBytes 4 n))) ∧
    (∀ n f e, d.started p tag 0x903 b → entryOk b = true → d.lookup (b.take 8) = none →
      eput (eput (b ++ List.replicate 92 0) 72 1 255) 74 6 (2 ^ 48 - 1) = f → d.newE f = (some n, e) →
      exec (.lmpEntryWrite p tag) s = .next (s.answer ((e.putConf n f).entryChanged n) p tag .ok (leBytes 4 n))) ∧
    (d.started p tag 0x903 b → entryOk b = false → exec (.lmpEntryWrite p tag) s = .next (s.answer d p tag .range [])) ∧
    (∀ k n e, d.started p tag 0x904 b → b.length = 8 → d.lookup b = some (k, n) → d.ent n = some e → d.slotFull e = false →
      exec (.lmpEntryDelete p tag) s = .next (s.answer ((d.putConf n (esetBit e 56 7 true)).purge n) p tag .ok [])) ∧
    (∀ k ws e, d.started p tag 0x905 b → b.length = 4 + 4 * k → 1 ≤ k → k ≤ 32 → leAt b 0 2 ≤ 4095 → leAt b 2 2 = 0 →
      ((List.range k).map fun i => leAt b (4 + 4 * i) 4) = ws → ws.all stepOk = true →
      d.wrN (d.schedAt (leAt b 0 2)) ((ws ++ List.replicate (32 - k) 0xC0000000).flatMap (leBytes 4)) = e → d.lmpOn = false →
      exec (.lmpSchedWrite p tag) s = .next (s.answer e p tag .ok [])) ∧
    (∀ k n e, d.started p tag 0x906 b → b.length = 12 → byteAt b 9 = 0 → Dev.levelOk (byteAt b 8) = true → d.lookup (b.take 8) = some (k, n) →
      d.servedE n = some e → ebit e 87 6 = false → exec (.lmpSet p tag) s = .next (s.to (((((d.updLmp fun x => { x with
        waits := x.waits ++ [(n, .cmd p tag.toNat)] }).override n (byteAt b 8) (leAt b 10 2)).evaluate 0 true [n])).updCmd p tag.toNat fun c =>
        { c with ran := true }))) ∧
    (∀ ns, d.started p tag 0x907 b → b.length = 6 → leAt b 0 2 ≠ 0 → Dev.levelOk (byteAt b 2) = true → byteAt b 3 = 0 → d.lampMembers (leAt b 0 2) = ns →
      ns.length ≤ 8192 → d.lmp.groups.length < 4 →
      (ns = [] → exec (.lmpGroup p tag) s = .next (s.answer (d.raise 107) p tag .ok (leBytes 4 0))) ∧
      (ns ≠ [] → exec (.lmpGroup p tag) s = .next (s.to ((d.groupRun ns (byteAt b 2) (leAt b 4 2) (some (p, tag.toNat))).updCmd p tag.toNat fun c =>
        { c with ran := true }))))

/-- R340: two hubs that merge each other's configuration of one endpoint arrive at the same configuration, with the slot-by-slot maximum of the
counters, wherever equal counters have one writer and the vectors are not equal. -/
def Obligations.LampMergeAgrees : Prop :=
  ∀ l r : List Byte, 64 ≤ l.length → 64 ≤ r.length →
    (∀ k : Fin 3, slotCnt l k = slotCnt r k → (l.drop (32 + 8 * k)).take 8 = (r.drop (32 + 8 * k)).take 8) →
    (∃ k : Fin 3, slotCnt l k ≠ slotCnt r k) →
    (mergeConf l r).1 = (mergeConf r l).1 ∧ (mergeConf l r).2 = (mergeConf r l).2 ∧
    ∀ k : Fin 3, slotCnt (mergeConf l r).1 k = max (slotCnt l k) (slotCnt r k)

/-! ### Nightwatch, the auxiliary buck and the pump (14) -/

/-- R347 to R353, R372: Nightwatch's supply, its clock, the crystal, the alarm, the door and tamper latches, whether or not the core is in reset.
Where these rules leave a choice it is the model's (log entries 21 and 93). -/
def Obligations.NightwatchClock : Prop :=
  ∀ (s : State) (a : Acc) (p : Path) (tag : Byte), let d := s.dev
    (d.aon.alive = false → ∃ e : Dev, exec .vbatFirstApplication s = .next (s.to e) ∧ e.aon = { alive := true, sampled := false, first := true } ∧ e.evt.held = [] ∧
      (∀ (F : Fld) n, (F.base + F.stride * n) / 65536 = 0x200D → F.lo < 32 → e.fg F n = F.rst n) ∧
      (d.sys.vddCore = true → e.fg CLK_REF_STAT_XT_CHECK_OFF = 1)) ∧
    (d.aon.alive = true → ∃ t, exec .vbatLoss s = .next t ∧ t.dev.aon = { d.aon with alive := false, qual := 0, fbRun := 0, pulses := 0 } ∧
      t.dev.fg AON_BS_STAT_STATE = 0 ∧ t.dev.fg AON_STAT_XT_OK = 0 ∧ t.dev.fg CLK_REF_STAT_XT_CHECK_OFF = 1 ∧ t.dev.fg SYS_PWRSTAT_VBAT_OK = 0 ∧
      (s.up → d.fb SYS_PWRSTAT_VBAT_OK = true → t.dev.fbit SYS_PWRSTAT_DROP 4 = true)) ∧
    (∀ mv : Nat, d.aon.alive = true → ∃ t, exec (.vbatSample mv) s = .next t ∧ t.dev.fg AON_STAT_VBAT_LOW = b2n (decide (mv < 2200)) ∧
      t.dev.fg SYS_PWRSTAT_VBAT_OK = b2n (decide (2200 ≤ mv)) ∧ t.dev.aon = { d.aon with sampled := true } ∧
      (2200 ≤ mv → t.dev.evt = d.evt) ∧
      (mv < 2200 → t.dev.fg AON_STAT_VBAT_LOW_SEEN = 1) ∧
      (mv < 2200 → d.aon.sampled = true → d.fb AON_STAT_VBAT_LOW = false → t.dev.evt = (d.raiseN 116).evt ∧
        (s.up → t.dev.fbit SYS_PWRSTAT_DROP 4 = true))) ∧
    (∀ hi lo : W32, s.up → d.aon.alive = true → (d.holdOf a (AON_RTC_SET_HI_C.at 0 - 4)).wlo = [(AON_RTC_SET_HI_C.at 0 - 4, lo.toNat)] →
      ∃ t, exec (.rtcSet a hi) s = .next t ∧ t.dev.aon = { d.aon with rtc := lo.toNat + 2 ^ 32 * hi.toNat, frac := 0, hold := 0, wrote := true } ∧ t.dev.fg AON_STAT_RTC_VALID = 1 ∧
        t.dev.evt = d.evt) ∧
    (d.aon.alive = true → d.fb AON_STAT_XT_OK = true → exec .crystalLoss s =
      .next (s.to (((d.fs AON_STAT_XT_OK 0).fs AON_STAT_RTC_VALID 0).fs CLK_REF_STAT_XT_CHECK_OFF 1))) ∧
    (d.aon.alive = true → d.fb AON_STAT_XT_OK = false → exec .crystalRestart s =
      .next (s.to ((d.fs AON_STAT_XT_OK 1).fs CLK_REF_STAT_XT_CHECK_OFF 0))) ∧
    (d.aon.alive = true → d.fb AON_STAT_XT_OK = true →
      (0 < d.fgS AON_RTC_TRIM_TRIM → exec .rtcTrimTimer s = .next (s.to { d with
        aon := { d.aon with rtc := uval 64 (d.aon.rtc + d.fgS AON_RTC_TRIM_TRIM), rtcSeq := d.aon.rtcSeq + 1, wrote := false } })) ∧
      (d.fgS AON_RTC_TRIM_TRIM < 0 → exec .rtcTrimTimer s = .next (s.to { d with
        aon := { d.aon with hold := d.aon.hold + (d.fgS AON_RTC_TRIM_TRIM).natAbs } })) ∧
      (∀ n, Dev.rtcUnit ≤ d.aon.frac + n * 32768 → (d.tickRtc n).aon.rtc = (if 0 < d.aon.hold then d.aon.rtc else uval 64 (d.aon.rtc + 1)) ∧
        (d.tickRtc n).aon.hold = d.aon.hold - 1) ∧
      (d.fgS AON_RTC_TRIM_TRIM = 0 → exec .rtcTrimTimer s = .next (s.to d))) ∧
    (d.aon.alive = true → d.fb AON_CTRL_ALARM_EN = true → d.fb AON_STAT_XT_OK = true → d.aon.wrote = false → d.aon.rtc % 32768 = 0 → d.rtcSec % 2 ^ 32 = d.fg AON_ALARM_SEC →
      exec .rtcAlarm s = .next (s.to ((d.fsBit AON_STAT_PEND 0 true).raiseN 114))) ∧
    (d.rtcSec % 2 ^ 32 ≠ d.fg AON_ALARM_SEC ∨ d.aon.wrote = true → exec .rtcAlarm s = .next (s.to d)) ∧
    (∀ tamper : Bool, d.aon.alive = true → d.fb AON_LATCH_DOOR_PIN = true → d.fb AON_LATCH_DOOR = false → ∃ t,
      exec (.doorTamperSample true tamper) s = .next t ∧ t.dev.fg AON_LATCH_DOOR = 1 ∧ t.dev.fbit AON_STAT_PEND 1 = true ∧
        t.dev.fg AON_DOOR_TS_SEC = d.rtcSec % 2 ^ AON_DOOR_TS_SEC.len ∧ t.dev.fg AON_LATCH_TAMPER_PIN = b2n tamper) ∧
    (∀ tamper : Bool, d.aon.alive = true → d.fb AON_LATCH_DOOR_PIN = false → ∃ t, exec (.doorTamperSample true tamper) s = .next t ∧
      t.dev.fg AON_LATCH_DOOR = d.fg AON_LATCH_DOOR ∧ t.dev.fg AON_LATCH_DOOR_PIN = 1) ∧
    (∀ b, s.up → d.aon.alive = true → d.started p tag 0xA01 b → b.length = 8 → exec (.aonTimeSet p tag) s = .next (s.answer (d.rtcCommit (leNat b)) p tag .ok [])) ∧
    (s.up → d.aon.alive = true → d.started p tag 0xA02 [8] → exec (.aonClear p tag) s = .next (s.answer (d.fs AON_STAT_PEND 0) p tag .ok [])) ∧
    (s.up → d.aon.alive = true → d.started p tag 0xA02 [1] → d.fb AON_LATCH_DOOR_PIN = true → d.fb AON_LATCH_DOOR = true →
      exec (.aonClear p tag) s = .next (s.answer d p tag .state []))

/-- R356 to R358: the black-start sequencer. -/
def Obligations.BlackStart : Prop :=
  ∀ s : State, let d := s.dev
    let st := d.fg AON_BS_STAT_STATE
    d.aon.alive = true →
    (∀ (vhv fb vbat : Nat) e, d.fb AON_CTRL_BS_EN = true →
      ((d.fs AON_MEAS_VHV (min vhv 1200)).fs AON_MEAS_BSFB (min fb 1200)).fs AON_MEAS_VBAT (min (vbat / 10) 1023) = e →
      (st = 0 → d.sys.vddCore = false → d.fb AON_BS_STAT_LATCHED = false → d.fg AON_BS_CFG_VHV_ON ≤ vhv →
        exec (.bsSample vhv fb vbat) s = .next (s.to (e.bsGo 1))) ∧
      (st = 1 → d.sys.vddCore = false → d.fg AON_BS_CFG_VHV_ON ≤ vhv → d.fg AON_BS_CFG_QUAL_T ≤ d.aon.qual + 1 →
        exec (.bsSample vhv fb vbat) s = .next (s.to (e.bsGo 2))) ∧
      (st = 1 → vhv < d.fg AON_BS_CFG_VHV_ON → exec (.bsSample vhv fb vbat) s = .next (s.to (e.bsGo 0))) ∧
      (st = 2 → d.fg AON_BS_FB_FB_OK ≤ fb → d.aon.fbRun = 19 → exec (.bsSample vhv fb vbat) s =
        .next (s.to ((e.bsGo 3).fsBit AON_STAT_PEND 3 true))) ∧
      (st = 2 → fb < d.fg AON_BS_FB_FB_OK → exec (.bsSample vhv fb vbat) s = .next (s.to { e with aon := { d.aon with fbRun := 0 } })) ∧
      (st = 3 → fb < d.fg AON_BS_FB_FB_DROP → d.aon.fbRun = 2 → exec (.bsSample vhv fb vbat) s = .next (s.to e.bsFail))) ∧
    (st = 2 → d.aon.pulses < d.fg AON_BS_KICK_KICK_N → exec .kickPulse s = .next (s.to { d with aon := { d.aon with pulses := d.aon.pulses + 1 } })) ∧
    (st = 2 → d.fg AON_BS_KICK_KICK_N ≤ d.aon.pulses → exec .kickPulse s = .next (s.to d.bsFail)) ∧
    (st = 3 → d.sys.vddCore = false → exec .bsWakeTimeout s = .next (s.to d.bsFail)) ∧
    (st = 5 → exec .bsRetryExpiry s = .next (s.to (d.bsGo 0))) ∧
    (∀ k : Fin 8, (d.bsGo k).fg AON_BS_STAT_STATE = k ∧ (d.bsGo k).aon = { d.aon with qual := 0, fbRun := 0, pulses := 0 }) ∧
    (∀ occ, d.aon.occ.filter (fun t => d.aon.rtc < t + d.fg AON_BS_CLS_WINDOW * 32768) ++ [d.aon.rtc] = occ → d.bsFail.aon.occ = occ ∧
      d.bsFail.fbit AON_STAT_PEND 3 = false ∧
      if d.fg AON_BS_CLS_LIMIT ≤ occ.length then d.bsFail.fg AON_BS_STAT_STATE = 6 ∧ d.bsFail.fg AON_BS_STAT_LATCHED = 1 ∧ d.bsFail.evt = (d.raiseN 115).evt
      else d.bsFail.fg AON_BS_STAT_STATE = 5 ∧ d.bsFail.evt = d.evt)

/-- R359 to R366, R372: the auxiliary buck.
Where these rules leave a choice it is the model's (log entry 86). -/
def Obligations.AuxBuck : Prop :=
  ∀ (s : State) (a : Acc) (p : Path) (tag : Byte) (vfb : Nat) (v : Dev), s.up → let d := s.dev
    let st := d.fg AUX_BK_STAT_STATE
    d.setVfb vfb = v →
    (∀ val : W32, AUX_BK_CTRL_EN.of val.toNat = 1 → d.fb AUX_BK_CTRL_EN = false → st ≠ 5 → v.accepts a (AUX_BK_CTRL_EN.at 0) val.toNat → ∃ e : Dev,
      exec (.buckEnable a val vfb) s = .next (s.to e.buckStart) ∧ e.fg AUX_BK_CTRL_EN = 1 ∧ e.fg AUX_BK_MEAS_V_VFB = min vfb 2047 ∧ e.aux = d.aux) ∧
    (d.fb CLK_PLL_STAT_FALLBACK = false → d.fg AUX_BK_MEAS_V_VFB < d.fg AUX_BK_VSET_VSET →
      d.buckStart = ((d.fs AUX_BK_STAT_STATE 1).fs AUX_BK_MEAS_V_VREF (d.fg AUX_BK_MEAS_V_VFB)).updBk fun x => { x with
        ramp := some { base := d.fg AUX_BK_MEAS_V_VFB, start := d.clk.ticks, num := d.fg AUX_BK_VSET_VSET, den := d.fg AUX_BK_SS_SS_T * 800000 }
        on := false, sum := 0, iref := 0, next := d.clk.ticks }) ∧
    (∀ r : VRamp, d.aux.bk.ramp = some r → r.base ≤ d.fg AUX_BK_VSET_VSET →
      d.bkVref = min (d.fg AUX_BK_VSET_VSET) (r.base + r.num * (d.clk.ticks - r.start) / r.den)) ∧
    ((st = 1 ∨ st = 2) → d.aux.bk.next ≤ d.clk.ticks → let e : Int := (d.bkVref : Int) - d.fg AUX_BK_MEAS_V_VFB
      d.buckPeriod.aux.bk.sum = d.aux.bk.sum + e ∧ d.buckPeriod.aux.bk.on = (d.aux.bk.on || decide (0 < e)) ∧
      d.buckPeriod.aux.bk.iref = min ((d.buckLimitNum * 65536 / (4000 * d.fg AUX_BK_VSET_VSET) : Nat) : Int)
        (256 * d.fg AUX_BK_LOOP_KP * e + d.fg AUX_BK_LOOP_KI * (d.aux.bk.sum + e)) ∧
      d.buckPeriod.aux.bk.next = d.clk.ticks + 4 * d.fg AUX_BK_FSW_PER) ∧
    (d.fb CLK_PLL_STAT_FALLBACK = true → d.buckStart = d.fs AUX_BK_STAT_STATE 4) ∧
    (st = 1 → d.bkVref ≠ d.fg AUX_BK_VSET_VSET → exec (.softStartEnd vfb) s = .next (s.to d)) ∧
    (∀ e, st = 1 → d.bkVref = d.fg AUX_BK_VSET_VSET → v.vrefSet = e → exec (.softStartEnd vfb) s =
      .next (s.to (if 2 * min vfb 2047 < d.fg AUX_BK_VSET_VSET then e.buckHiccup else e.fs AUX_BK_STAT_STATE 2))) ∧
    (st = 3 → exec (.hiccupEnd vfb) s = .next (s.to v.buckStart)) ∧
    (st = 2 → exec (.buckFaultDetect true vfb) s = .next (s.to (v.fs AUX_BK_STAT_ILIM_ACT 1).buckHiccup)) ∧
    (st = 2 → 2 * min vfb 2047 < d.bkVref → exec (.buckFaultDetect false vfb) s = .next (s.to v.buckHiccup)) ∧
    (d.fg SYS_FCLS_k_LIMIT 9 = 1 → d.buckHiccup.fg AUX_BK_STAT_STATE = 5 ∧ d.buckHiccup.fg AUX_BK_STAT_LATCHED = 1) ∧
    (∀ val : W32, st = 2 → AUX_BK_VSET_VSET.of val.toNat ≠ d.bkVref → d.accepts a (AUX_BK_VSET_VSET.at 0) val.toNat → ∃ t,
      exec (.buckVsetWrite a val) s = .next t ∧ t.dev.fg AUX_BK_VSET_VSET = AUX_BK_VSET_VSET.of val.toNat ∧
        t.dev.fg AUX_BK_VSET_SLEW = AUX_BK_VSET_SLEW.of val.toNat ∧ t.dev.fg AUX_BK_STAT_SLEWING = 1 ∧ t.dev.bkVref = d.bkVref ∧
        t.dev.aux.bk.ramp = some { base := d.bkVref, start := d.clk.ticks, num := AUX_BK_VSET_SLEW.of val.toNat, den := 800000 }) ∧
    (∀ e, st = 2 → d.fb AUX_BK_STAT_SLEWING = true → d.bkVref = d.fg AUX_BK_VSET_VSET → (v.fs AUX_BK_STAT_SLEWING 0).vrefSet = e →
      (d.aux.bk.owed = none → exec (.buckSlewDone vfb) s = .next (s.to e)) ∧
      (d.aux.bk.owed = some (p, tag.toNat) → ∃ f : Dev, exec (.buckSlewDone vfb) s = .next (s.to f) ∧ f.aux.bk.owed = none ∧
        f.hst = (e.complete p tag.toNat .ok (leBytes 2 (min vfb 2047))).hst)) ∧
    (st = 5 → d.fb AUX_BK_STAT_LATCHED = true → d.fb AUX_BK_CTRL_EN = true →
      exec (.buckLatchClear a vfb) s = .next (s.to (v.fs AUX_BK_STAT_LATCHED 0).buckStart)) ∧
    (st = 2 → d.fb AUX_BK_STAT_PGOOD = false → inPgWindow v = true → exec (.pgoodRelease vfb) s = .next (s.to ((v.fs AUX_BK_STAT_PGOOD 1).raise 118))) ∧
    (st = 2 → d.fb AUX_BK_STAT_PGOOD = true → inPgWindow v = false → exec (.pgoodLoss vfb) s =
      .next (s.to (((v.fs AUX_BK_STAT_PGOOD 0).fs AUX_BK_STAT_PG_LOST_SEEN 1).raise 118))) ∧
    (∀ i0 i1 : BitVec 16, st = 2 → d.fb AUX_BK_CTRL_SHED_EN = true → d.fb AUX_BK_CTRL_PH1_EN = true → d.fb AUX_BK_STAT_SHED = false →
      (i0.toInt + i1.toInt) * 100 < (d.fg AUX_BK_ILIM_SHED_TH * d.fg AUX_BK_ILIM_ILIM : Nat) → ∃ t, exec (.shedStart i0 i1) s = .next t ∧
        t.dev.aux = { d.aux with bk := { d.aux.bk with settle := true } } ∧ t.dev.fg AUX_BK_MEAS_I_I0 = i0.toNat ∧ t.dev.fg AUX_BK_MEAS_I_I1 = i1.toNat) ∧
    (∀ abandon : Bool, d.aux.bk.settle = true → ∃ t, exec (.shedSettleEnd abandon) s = .next t ∧ t.dev.aux.bk.settle = false ∧
      t.dev.fg AUX_BK_STAT_SHED = (if abandon then d.fg AUX_BK_STAT_SHED else 1) ∧
      t.dev.fg AUX_BK_STAT_SHED_ABORT_SEEN = (if abandon then 1 else d.fg AUX_BK_STAT_SHED_ABORT_SEEN)) ∧
    (∀ i0 : BitVec 16, d.fb AUX_BK_STAT_SHED = true → (d.fg AUX_BK_ILIM_ADD_TH * d.fg AUX_BK_ILIM_ILIM : Nat) < i0.toInt * 100 →
      exec (.phaseReadd i0) s = .next (s.to ((d.fs AUX_BK_MEAS_I_I0 i0.toNat).fs AUX_BK_STAT_SHED 0))) ∧
    (∀ b e, d.started p tag 0xA03 b → b.length = 4 → 400 ≤ leAt b 0 2 → leAt b 0 2 ≤ 1200 → 1 ≤ leAt b 2 2 → leAt b 2 2 ≤ 1000 → st = 2 →
      d.bkVref ≠ leAt b 0 2 → ((d.fs AUX_BK_VSET_VSET (leAt b 0 2)).fs AUX_BK_VSET_SLEW (leAt b 2 2)).buckSlew d.bkVref = e →
      e.fg AUX_BK_STAT_SLEWING = 1 ∧ e.bkVref = d.bkVref ∧
      exec (.auxBkSet p tag) s = .next (s.to (Dev.updCmd { e with aux := { e.aux with bk := { e.aux.bk with owed := some (p, tag.toNat) } } }
        p tag.toNat fun c => { c with ran := true }))) ∧
    (∀ b, d.started p tag 0xA03 b → b.length = 4 → 400 ≤ leAt b 0 2 → leAt b 0 2 ≤ 1200 → 1 ≤ leAt b 2 2 → leAt b 2 2 ≤ 1000 → st ≠ 2 →
      exec (.auxBkSet p tag) s = .next (s.answer d p tag .state []))

/-- R367 to R370: the coolant pump.
Where these rules leave a choice it is the model's (log entry 86). -/
def Obligations.CoolantPump : Prop :=
  ∀ (s : State) (a : Acc) (n : Fin 3), s.up → let d := s.dev
    let st := d.fg AUX_PMP_STAT_STATE
    (∀ val : W32, AUX_PMP_CTRL_EN.of val.toNat = 1 → d.fb AUX_PMP_CTRL_EN = false → st ≠ 5 → d.fb SYS_PWRSTAT_VDRV_OK = true → d.fb CLK_PLL_STAT_FALLBACK = false →
      d.accepts a (AUX_PMP_CTRL_EN.at 0) val.toNat → ∃ t, exec (.pumpEnable a val) s = .next t ∧ t.dev.fg AUX_PMP_CTRL_EN = 1 ∧ t.dev.fg AUX_PMP_STAT_STATE = 1 ∧
        t.dev.aux.pmp.lg = 7 ∧ t.dev.aux.pmp.hg = 0) ∧
    (∀ val : W32, AUX_PMP_CTRL_EN.of val.toNat = 1 → d.fb AUX_PMP_CTRL_EN = false → d.fb SYS_PWRSTAT_VDRV_OK = false →
      exec (.pumpEnable a val) s = .next (s.to d)) ∧
    (∀ r, st = 1 → Dev.hallRow (d.fg AUX_PMP_STAT_HALL) = r → r ≠ 6 → exec .prechargeEnd s = .next (s.to ((d.fs AUX_PMP_STAT_STATE 2).commutate r))) ∧
    (st = 1 → Dev.hallRow (d.fg AUX_PMP_STAT_HALL) = 6 → exec .prechargeEnd s = .next (s.to (d.pumpFault 1 0 0))) ∧
    (∀ (code : BitVec 3) e, st = 2 → Dev.hallRow (d.fg AUX_PMP_STAT_HALL) ≠ 6 → Dev.hallRow code.toNat ≠ 6 →
      Dev.hallRow code.toNat = (Dev.hallRow (d.fg AUX_PMP_STAT_HALL) + 1) % 6 → (d.clk.ticks :: d.aux.pmp.edges).take 7 = e →
      exec (.hallCodeChange code) s = .next (s.to ((({ d.fs AUX_PMP_STAT_HALL code.toNat with
        aux := { d.aux with pmp := { d.aux.pmp with edges := e } } } : Dev).commutate (Dev.hallRow code.toNat)).fs AUX_PMP_SPEED_EPER (Dev.pumpSpeed e)))) ∧
    (∀ code : BitVec 3, st = 2 → Dev.hallRow code.toNat = 6 → Dev.hallRow (d.fg AUX_PMP_STAT_HALL) ≠ 6 →
      exec (.hallCodeChange code) s = .next (s.to ((d.fs AUX_PMP_STAT_HALL code.toNat).pumpFault 1 0 0))) ∧
    (d.pumpLive = true → d.aux.pmp.lg.testBit n = true → exec (.pumpDesat n) s = .next (s.to (d.pumpFault 4 0 (2 ^ n.val)))) ∧
    (st = 2 → d.aux.pmp.chop = some n.val → d.fg AUX_PMP_DUTY_DUTY < 0x8000 → exec (.pumpDesat n) s = .next (s.to (d.pumpFault 4 0 (2 ^ n.val)))) ∧
    (st = 2 → d.aux.pmp.chop = some n.val → exec .pumpOvercurrent s = .next (s.to ((d.fs AUX_PMP_STAT_ILIM_ACT 1).pumpFault 3 (2 ^ n.val) 0)) ∧
      exec (.pumpBootstrapLow n) s = .next (s.to (d.pumpFault 5 (2 ^ n.val) 0))) ∧
    (st = 2 → 0 < d.fg AUX_PMP_DUTY_DUTY → exec .pumpStallTimeout s = .next (s.to ((d.pumpFault 2 0 0).fs AUX_PMP_SPEED_EPER 0xFFFF))) ∧
    (st = 3 → d.fg AUX_PMP_STAT_FCAUSE ≠ 6 → exec .pumpRestartTimer s = .next (s.to d.pumpStart)) ∧
    (d.fb SYS_PWRSTAT_VDRV_OK = true → d.pumpLive = true → ∃ t, exec .vdrvLoss s = .next t ∧ t.dev.fg AUX_PMP_STAT_STATE = 3 ∧ t.dev.fg AUX_PMP_STAT_FCAUSE = 6 ∧
      t.dev.aux.pmp.hg = 0 ∧ t.dev.aux.pmp.lg = 0 ∧ t.dev.fg SYS_PWRSTAT_VDRV_OK = 0 ∧ t.dev.fbit SYS_PWRSTAT_DROP 5 = true) ∧
    (st = 3 → d.fg AUX_PMP_STAT_FCAUSE = 6 → exec .vdrvReturn s = .next (s.to (d.fs SYS_PWRSTAT_VDRV_OK 1).pumpStart)) ∧
    (∀ c h l : Fin 8, (d.pumpFault c h l).aux.pmp.hg = 0 ∧ (d.pumpFault c h l).aux.pmp.lg = 0 ∧ (d.pumpFault c h l).fg AUX_PMP_STAT_FCAUSE = c ∧
      (d.pumpFault c h l).evt = (d.raise 119).evt ∧
      (d.pumpFault c h l).fg AUX_PMP_STAT_STATE = (if (d.classHit 10 d.aux.pmp.occ).2 then 5 else 3))

/-! ### Capability and status commands (each block's command rule) -/

/-- R94, R122, R136, R168, R199, R218, R243, R276, R290, R316, R344, R372: each block's capability command returns its `CAP` word, and its status
command its status words, taken at one instant; nothing else changes.
Where these rules leave a choice it is the model's (log entry 21). -/
def Obligations.CapabilitiesAndStatus : Prop :=
  ∀ (s : State) (p : Path) (tag : Byte), s.up → let d := s.dev
    let gives := fun (op : Nat) (i : Instr) (addrs : List Nat) => d.started p tag op [] → exec i s = .next (s.answer d p tag .ok (d.words addrs))
    gives 0x002 (.sysCaps p tag) [0x20000000, 0x200A0008] ∧
    gives 0x100 (.pwmCaps p tag) [0x20020008] ∧ gives 0x140 (.trpCaps p tag) [0x20040008] ∧ gives 0x200 (.snsCaps p tag) [0x20030008] ∧
    gives 0x300 (.cenCaps p tag) [0x20050008] ∧ gives 0xB00 (.trcCaps p tag) [0x20050008] ∧ gives 0x400 (.grdCaps p tag) [0x20060008] ∧
    gives 0x500 (.wghCaps p tag) [0x20070008] ∧ gives 0x580 (.thmCaps p tag) [0x20100008] ∧ gives 0x600 (.talCaps p tag) [0x20080008] ∧
    gives 0x700 (.safCaps p tag) [0x20090008] ∧ gives 0x800 (.nqlCaps p tag) [0x200B0008, 0x20110008] ∧ gives 0x900 (.lmpCaps p tag) [0x200C0008] ∧
    gives 0x141 (.trpStatus p tag) ([0x20040004, 0x20040010, 0x20040014] ++ (List.range 24).map fun n => TRP_LEG_n_STAT_CAUSE.at n) ∧
    gives 0x308 (.cenStatus p tag) (0x20050004 :: (List.range 64).map fun n => 0x20050118 + 0x20 * n) ∧
    (d.wgh.arb = false → gives 0x501 (.wghStatus p tag) ([0x20070004, 0x20070018, 0x20070030, 0x20070034, 0x20070024] ++ (List.range 32).map fun n => 0x2007010C + 16 * n)) ∧
    (d.wgh.arb = true → d.started p tag 0x501 [] → exec (.wghStatus p tag) s = .next (s.answer d p tag .ok (d.words [0x20070004] ++
      leBytes 4 d.wgh.before.1 ++ d.words [0x20070030, 0x20070034] ++ leBytes 4 d.wgh.before.2 ++
      d.words ((List.range 32).map fun n => 0x2007010C + 16 * n)))) ∧
    gives 0x581 (.thmStatus p tag) ([0x20100004, 0x20100180] ++ (List.range 8).map (fun z => 0x20100208 + 16 * z) ++
      (List.range 8).map (fun z => 0x2010020C + 16 * z) ++ (List.range 16).map fun k => 0x20100104 + 8 * k) ∧
    gives 0x601 (.talStatus p tag) ([0x20080004, 0x20080620, 0x20080600, 0x20080604, 0x20080608] ++ (List.range 48).map fun i => 0x20080400 + 4 * i) ∧
    gives 0x701 (.safStatus p tag) ([0x20090000, 0x20090010, 0x20090014, 0x20090018, 0x2009001C, 0x20090020] ++
      (List.range 8).map (fun c => 0x20090040 + 4 * c) ++ (List.range 4).map (fun k => 0x20090080 + 4 * k) ++ [0x200900C0, 0x200900C4]) ∧
    gives 0x801 (.netStatus p tag) [0x200B0104, 0x200B0204, 0x200B0404, 0x20110004, 0x20110010, 0x20110020, 0x20120004] ∧
    gives 0x806 (.nqlStatus p tag) [0x20110004, 0x20110010, 0x20110014, 0x20110020, 0x20110024] ∧
    gives 0x901 (.lmpStatus p tag) [0x200C0004, 0x200C0018, 0x200C0028, 0x200C0048, 0x200C0208, 0x200C0218, 0x200C0228, 0x200C0238] ∧
    (d.aon.alive = true →
      gives 0xA00 (.auxCaps p tag) [0x200D0008, 0x200E0008] ∧
      gives 0xA04 (.auxStatus p tag) [0x200D0004, 0x200D0030, 0x200D0050, 0x200E0004, 0x200E0028, 0x200E0110, 0x200E0114]) ∧
    (∀ c ∈ [Instr.auxCaps p tag, .auxStatus p tag], d.aon.alive = false →
      d.started p tag (if c = .auxCaps p tag then 0xA00 else 0xA04) [] → ∃ e : Dev, exec c s = .next (s.to e) ∧
        e.hst.slow = d.hst.slow ++ [(p, tag.toNat)] ∧ e.regs = d.regs)

/-! ### The whole machine -/

/-- A step with a command at the front of the queue is that command run on the machine with the queue's rest; on an empty queue the clocks
advance (R61, R62; that the idle step is one advance is the model's choice, log entry 1). -/
def Obligations.StepRunsFront : Prop :=
  (∀ (s : State) (c : Instr) (q : List Instr), s.pending = c :: q → step s = exec c { s with pending := q }) ∧
  (∀ s : State, s.pending = [] → step s = .next (s.to s.dev.idle)) ∧
  (∀ s : State, s.pending = [] → s.up → ∃ t, step s = .next t ∧ t.pending = [] ∧
    t.dev.clk.ticks = s.dev.clk.ticks + if s.dev.deg then 8 else 1)

/-- R7, R32, R36, R375: the machine after reset: no command waits, the memories list nothing, and the fields named hold the reset values of their
register tables, at every index. That supplies and banks are valid and that the device is out of reset is the model's choice (log entry 2). -/
def Obligations.ResetState : Prop :=
  State.reset.Inv ∧ State.reset.pending = [] ∧ State.reset.dev.mem = [] ∧ State.reset.dev.mram = [] ∧ State.reset.up ∧
  (let d := State.reset.dev
   d.fg CLK_PLL_STAT_PWM_HOLD = 1 ∧ d.fg CLK_PLL_STAT_FALLBACK = 1 ∧ d.fg CLK_PLL_STAT_LOCKED = 0 ∧ d.fg CLK_TB_HI_DEGRADED = 1 ∧ d.fg CLK_PLL_CTRL_UNLOCK_WIN = 200 ∧
   d.fg SNS_MTR_CTRL_SPARE = 7 ∧ (∀ n, d.fg SNS_SD_n_FILT_CF_OSR n = 63) ∧ (∀ n, d.fg PWM_LEG_n_CTRL_EN n = 0) ∧ (∀ n, d.fg PWM_LEG_n_DT_DT_H n = 400) ∧
   (∀ n, d.fg TRP_LEG_n_STAT_CAUSE n = 63) ∧ (∀ n, d.fg TRP_CLS_k_LIMIT n = 1) ∧ (∀ n, d.fg CEN_SLOT_s_CFG_TRG_TYPE n = 4) ∧ d.fg GRD_LEGS_LEGS = 255 ∧
   d.fg WGH_CTRL_STALE = 20 ∧ (∀ n, d.fg THM_ZONE_z_LIM_T_CRIT n = 169) ∧ d.fg TAL_CTRL_INT_LEN = 3 ∧ d.fg SAF_STAT_UNCONFIG = 1 ∧ d.fg SAF_STAT_SAFE_ALL = 1 ∧
   d.fg HST_STAT_VER = 1 ∧ d.fg NET_CTRL_DEF_RING = 16 ∧ d.fg DRC_CTRL_RATE = 3 ∧ d.fg LMP_POLL_POLL_PER = 900 ∧ d.fg AON_BS_CFG_VHV_ON = 600 ∧
   d.fg AUX_BK_VSET_VSET = 800 ∧ (∀ n, d.fg EVT_OUT_n_CFG_WIDTH n = 10))

/-- R31, R32: from every machine that meets the invariant, a step answers a machine that meets it: SRAM, DRAM and the ledger keep their canonical
form, no write stays under way; and every step completes and takes exactly the command at the front of the queue. -/
def Obligations.StepKeepsInvariant : Prop :=
  ∀ s : State, s.Inv → ∃ t, step s = .next t ∧ t.Inv ∧ t.pending = s.pending.tail

/-- R22, R32, R375, R379: a command on which Tallyman does not act leaves every byte of the ledger as it was, one on which the safety supervisor
does not act leaves the supervisor's whole state as it was; and while the device is in reset a command that neither concerns a supply, a bank or the
reset itself nor belongs to Nightwatch leaves the machine as it was. -/
def Obligations.LedgerSupervisorAndReset : Prop :=
  (∀ (s t : State) (c : Instr), exec c s = .next t →
    (ledgerRow c = false → t.dev.mram = s.dev.mram) ∧ (supervisorRow c = false → t.dev.saf = s.dev.saf)) ∧
  (∀ (s : State) (c : Instr), s.Inv → s.dev.sys.phase ≠ .run → actsInReset c = false → exec c s = .next s)

/-- The frame of the rows whose effect stays within their block (R7, R21): a row of a block leaves every other block's own state, the memories, the
ledger and what has been handed to the interfaces as they were, but for the parts that `touched` names. -/
def Obligations.FamiliesKeepApart : Prop :=
  ∀ (s t : State) (c : Instr) (l : List Part), s.Inv → touched c = some l → exec c s = .next t → ∀ p : Part, p ∉ l → p.same s.dev t.dev
end

