-- ==== Sys2Proof/Laws/Arith.lean ====
section
/-! SUPPORT. Laws of the integer square root: it is the largest number whose square does not exceed its argument. -/
namespace Sys2Proof.Machine

theorem rootBits_spec (n k : Nat) (h : n < 4 ^ k) : rootBits n k * rootBits n k ≤ n ∧ n < (rootBits n k + 1) * (rootBits n k + 1) := by
  induction k generalizing n with
  | zero => simp at h; subst h; simp [rootBits]
  | succ k ih =>
    obtain ⟨h1, h2⟩ := ih (n / 4) (by rw [Nat.pow_succ] at h; omega)
    simp only [rootBits]
    generalize rootBits (n / 4) k = r at *
    have e : (2 * r) * (2 * r) = 4 * (r * r) := by grind
    have e2 : (r + 1) * (r + 1) = r * r + 2 * r + 1 := by grind
    have e3 : (2 * r + 1 + 1) * (2 * r + 1 + 1) = 4 * (r * r) + 8 * r + 4 := by grind
    split
    · constructor
      · assumption
      · omega
    · omega

/-- All that `root` says: the largest number whose square does not exceed `n`. -/
theorem root_spec (n : Nat) : root n * root n ≤ n ∧ n < (root n + 1) * (root n + 1) := by
  apply rootBits_spec
  by_cases h : n = 0
  · subst h; decide
  · have := Nat.lt_log2_self (n := n)
    calc n < 2 ^ (n.log2 + 1) := this
      _ ≤ 2 ^ (2 * (n.log2 / 2 + 1)) := Nat.pow_le_pow_right (by decide) (by omega)
      _ = 4 ^ (n.log2 / 2 + 1) := by rw [Nat.pow_mul]

end Sys2Proof.Machine
end

