-- ==== Sys2Proof/Laws/Sparse.lean ====
section
/-! SUPPORT. Laws of the sparse lists: read after write, keys that a write leaves alone, the canonical form. -/
namespace Sys2Proof.Machine

theorem spGet_spDrop {α : Type} (k j : Nat) (d : α) (h : k < j) (l : List (Nat × α)) :
    spGet j d (spDrop k l) = spGet j d l := by
  induction l with
  | nil => rfl
  | cons e t ih =>
    obtain ⟨a, v⟩ := e
    by_cases ha : a ≤ k
    · simp [spDrop, ha, ih, spGet, show ¬ j < a by omega, show ¬ j = a by omega]
    · simp [spDrop, ha]

theorem spGet_spDrop_self {α : Type} (k j : Nat) (d : α) (h : j ≤ k) (l : List (Nat × α)) : spGet j d (spDrop k l) = d := by
  induction l with
  | nil => rfl
  | cons e t ih =>
    obtain ⟨a, v⟩ := e
    by_cases ha : a ≤ k
    · simp [spDrop, ha, ih]
    · simp [spDrop, ha, spGet, show j < a by omega]

/-- Read after write at the same key. -/
@[simp] theorem spGet_spPut {α : Type} [DecidableEq α] (k : Nat) (v d : α) (l : List (Nat × α)) :
    spGet k d (spPut k v d l) = v := by
  induction l with
  | nil => by_cases h : v = d <;> simp [spPut, spGet, h]
  | cons e t ih =>
    obtain ⟨a, w⟩ := e
    rcases Nat.lt_trichotomy k a with h | h | h
    · by_cases hv : v = d <;> simp [spPut, spGet, h, hv]
    · by_cases hv : v = d <;> simp [spPut, spGet, h, hv, spGet_spDrop_self]
    · simp [spPut, spGet, show ¬ k < a by omega, show ¬ k = a by omega, ih]

/-- A write leaves every other key alone, whatever an unlisted key reads as. -/
theorem spGet_spPut_ne {α : Type} [DecidableEq α] (k j : Nat) (v d x : α) (h : j ≠ k) (l : List (Nat × α)) :
    spGet j x (spPut k v d l) = spGet j x l := by
  induction l with
  | nil =>
    by_cases hv : v = d
    · simp [spPut, hv]
    · rcases Nat.lt_or_gt_of_ne h with h' | h' <;> simp [spPut, spGet, hv, h, h', Nat.lt_asymm]
  | cons e t ih =>
    obtain ⟨a, w⟩ := e
    rcases Nat.lt_trichotomy k a with hk | hk | hk
    · by_cases hv : v = d
      · simp [spPut, hk, hv]
      · simp only [spPut, hk, hv, if_true, if_false]
        by_cases hj : j < k
        · simp [spGet, hj, show j < a by omega]
        · rw [show spGet j x ((k, v) :: (a, w) :: t) = spGet j x ((a, w) :: t) by
            conv_lhs => rw [spGet]
            simp [hj, h]]
    · subst hk
      by_cases hj : j < k
      · by_cases hv : v = d
        · simp [spPut, hv, spGet, hj, spGet_spDrop_self k j x (by omega)]
        · simp [spPut, hv, spGet, hj]
      · by_cases hv : v = d
        · simp [spPut, hv, spGet, hj, h, spGet_spDrop k j x (by omega)]
        · simp [spPut, hv, spGet, hj, h, spGet_spDrop k j x (by omega)]
    · rw [show spPut k v d ((a, w) :: t) = (a, w) :: spPut k v d t by
        simp [spPut, show ¬ k < a by omega, show ¬ k = a by omega]]
      by_cases h1 : j < a
      · simp [spGet, h1]
      · by_cases h2 : j = a
        · simp [spGet, h2]
        · simp [spGet, h1, h2, ih]

theorem spWf_mono {α : Type} (p : Nat → α → Bool) {lo lo' : Nat} (h : lo' ≤ lo) {l : List (Nat × α)}
    (hl : spWf p lo l = true) : spWf p lo' l = true := by
  cases l with
  | nil => rfl
  | cons e t =>
    obtain ⟨a, v⟩ := e
    simp only [spWf, Bool.and_eq_true, decide_eq_true_eq] at hl ⊢
    exact ⟨⟨by omega, hl.1.2⟩, hl.2⟩

theorem spWf_spDrop {α : Type} (p : Nat → α → Bool) {lo k : Nat} {l : List (Nat × α)} (hl : spWf p lo l = true) :
    spWf p (k + 1) (spDrop k l) = true := by
  induction l generalizing lo with
  | nil => rfl
  | cons e t ih =>
    obtain ⟨a, v⟩ := e
    simp only [spWf, Bool.and_eq_true, decide_eq_true_eq] at hl
    by_cases ha : a ≤ k
    · simpa [spDrop, ha] using ih hl.2
    · simp only [spDrop, ha, if_false, spWf, Bool.and_eq_true, decide_eq_true_eq]
      exact ⟨⟨by omega, hl.1.2⟩, hl.2⟩

/-- A write keeps the canonical form. -/
theorem spWf_spPut {α : Type} [DecidableEq α] (p : Nat → α → Bool) {lo k : Nat} {v d : α} {l : List (Nat × α)}
    (hp : v ≠ d → p k v = true) (hk : lo ≤ k) (hl : spWf p lo l = true) : spWf p lo (spPut k v d l) = true := by
  induction l generalizing lo with
  | nil => by_cases hv : v = d <;> simp [spPut, spWf, hv, hk, hp]
  | cons e t ih =>
    obtain ⟨a, w⟩ := e
    have hl' := hl
    simp only [spWf, Bool.and_eq_true, decide_eq_true_eq] at hl
    rcases Nat.lt_trichotomy k a with h | h | h
    · by_cases hv : v = d
      · simpa [spPut, h, hv] using hl'
      · simp only [spPut, h, hv, if_true, if_false, spWf, Bool.and_eq_true, decide_eq_true_eq]
        exact ⟨⟨hk, hp hv⟩, ⟨by omega, hl.1.2⟩, hl.2⟩
    · subst h
      by_cases hv : v = d
      · simpa [spPut, hv] using spWf_mono p (by omega) (spWf_spDrop p (k := k) hl.2)
      · simp only [spPut, Nat.lt_irrefl, hv, if_true, if_false, spWf, Bool.and_eq_true, decide_eq_true_eq]
        exact ⟨⟨hk, hp hv⟩, spWf_spDrop p hl.2⟩
    · simp only [spPut, show ¬ k < a by omega, show ¬ k = a by omega, if_false, spWf, Bool.and_eq_true, decide_eq_true_eq]
      exact ⟨⟨hl.1.1, hl.1.2⟩, ih (by omega) hl.2⟩

theorem spWf_filter {α : Type} (p : Nat → α → Bool) (q : Nat × α → Bool) {lo : Nat} {l : List (Nat × α)}
    (hl : spWf p lo l = true) : spWf p lo (l.filter q) = true := by
  induction l generalizing lo with
  | nil => rfl
  | cons e t ih =>
    obtain ⟨a, v⟩ := e
    simp only [spWf, Bool.and_eq_true, decide_eq_true_eq] at hl
    by_cases hq : q (a, v) = true
    · simp only [List.filter, hq, spWf, Bool.and_eq_true, decide_eq_true_eq]
      exact ⟨hl.1, ih hl.2⟩
    · simp only [List.filter, hq]
      exact spWf_mono p (by omega) (ih hl.2)

/-- Entries of a canonical list keep their form where the condition changes only at keys that are filtered out. -/
theorem spWf_filter_of {α : Type} (p p' : Nat → α → Bool) (q : Nat × α → Bool) (hq : ∀ a v, q (a, v) = true → p a v = p' a v)
    {lo : Nat} {l : List (Nat × α)} (hl : spWf p lo l = true) : spWf p' lo (l.filter q) = true := by
  induction l generalizing lo with
  | nil => rfl
  | cons e t ih =>
    obtain ⟨a, v⟩ := e
    simp only [spWf, Bool.and_eq_true, decide_eq_true_eq] at hl
    by_cases h : q (a, v) = true
    · simp only [List.filter, h, spWf, Bool.and_eq_true, decide_eq_true_eq]
      exact ⟨⟨hl.1.1, hq a v h ▸ hl.1.2⟩, ih hl.2⟩
    · simp only [List.filter, h]
      exact spWf_mono p' (by omega) (ih hl.2)

/-- An address outside a range reads, unlisted, as before where only ranges within that one are dropped. -/
theorem unlisted_filter (lo hi a : Nat) (h : a < lo ∨ hi ≤ a) (l : List Lost) :
    Dev.unlisted (l.filter fun x => decide (x.lo < lo) || decide (hi < x.hi)) a = Dev.unlisted l a := by
  induction l with
  | nil => rfl
  | cons x t ih =>
    by_cases hx : (decide (x.lo < lo) || decide (hi < x.hi)) = true
    · simp [List.filter, hx, Dev.unlisted, ih]
    · have : ¬ (x.lo ≤ a ∧ a < x.hi) := by simp at hx; omega
      simp [List.filter, hx, Dev.unlisted, ih, this]

/-- One write to SRAM or DRAM, or one loss of a range, keeps the memory canonical. -/
theorem memStore_wf {m : List Lost × List Host.Cell} (h : Memory.wf m.1 m.2 = true) (w : MemWr) :
    Memory.wf (memStore m w).1 (memStore m w).2 = true := by
  cases w with
  | put a v => exact spWf_spPut _ (fun hv => bne_iff_ne.2 hv) (Nat.zero_le _) h
  | clear lo hi e =>
    refine spWf_filter_of _ _ _ (fun a v hq => ?_) h
    have ha : a < lo ∨ hi ≤ a := by simpa using hq
    have : ¬ (lo ≤ a ∧ a < hi) := by omega
    simp only [memStore, Dev.unlisted, this, if_false, unlisted_filter lo hi a ha]

/-- The writes of a step keep the memory canonical. -/
theorem memLand_wf {m : List Lost × List Host.Cell} (h : Memory.wf m.1 m.2 = true) (out : List MemWr) :
    Memory.wf (memLand m out).1 (memLand m out).2 = true := by
  induction out with
  | nil => exact h
  | cons w t ih => exact memStore_wf ih w

/-- The ledger writes of a step keep the ledger canonical. -/
theorem ledgerLand_wf {m : List Host.Cell} (h : Memory.wf [] m = true) (out : List (Nat × Byte)) :
    Memory.wf [] (ledgerLand m out) = true := by
  induction out with
  | nil => exact h
  | cons w t ih => exact spWf_spPut _ (fun hv => bne_iff_ne.2 hv) (Nat.zero_le _) ih

end Sys2Proof.Machine
end

