-- ==== Sys2Proof/Laws/State.lean ====
section
/-! SUPPORT. What each update of the device leaves of each of its fields, and reading a register field after a write. -/
namespace Sys2Proof.Machine
namespace Dev

/-! ## Writing a register field -/

@[simp] theorem fs_clk (d : Dev) (F : Fld) (v n : Nat) : (d.fs F v n).clk = d.clk := rfl
@[simp] theorem fs_sns (d : Dev) (F : Fld) (v n : Nat) : (d.fs F v n).sns = d.sns := rfl
@[simp] theorem fs_pwm (d : Dev) (F : Fld) (v n : Nat) : (d.fs F v n).pwm = d.pwm := rfl
@[simp] theorem fs_trp (d : Dev) (F : Fld) (v n : Nat) : (d.fs F v n).trp = d.trp := rfl
@[simp] theorem fs_cen (d : Dev) (F : Fld) (v n : Nat) : (d.fs F v n).cen = d.cen := rfl
@[simp] theorem fs_grd (d : Dev) (F : Fld) (v n : Nat) : (d.fs F v n).grd = d.grd := rfl
@[simp] theorem fs_wgh (d : Dev) (F : Fld) (v n : Nat) : (d.fs F v n).wgh = d.wgh := rfl
@[simp] theorem fs_thm (d : Dev) (F : Fld) (v n : Nat) : (d.fs F v n).thm = d.thm := rfl
@[simp] theorem fs_tal (d : Dev) (F : Fld) (v n : Nat) : (d.fs F v n).tal = d.tal := rfl
@[simp] theorem fs_saf (d : Dev) (F : Fld) (v n : Nat) : (d.fs F v n).saf = d.saf := rfl
@[simp] theorem fs_sys (d : Dev) (F : Fld) (v n : Nat) : (d.fs F v n).sys = d.sys := rfl
@[simp] theorem fs_evt (d : Dev) (F : Fld) (v n : Nat) : (d.fs F v n).evt = d.evt := rfl
@[simp] theorem fs_hst (d : Dev) (F : Fld) (v n : Nat) : (d.fs F v n).hst = d.hst := rfl
@[simp] theorem fs_net (d : Dev) (F : Fld) (v n : Nat) : (d.fs F v n).net = d.net := rfl
@[simp] theorem fs_nql (d : Dev) (F : Fld) (v n : Nat) : (d.fs F v n).nql = d.nql := rfl
@[simp] theorem fs_drc (d : Dev) (F : Fld) (v n : Nat) : (d.fs F v n).drc = d.drc := rfl
@[simp] theorem fs_lmp (d : Dev) (F : Fld) (v n : Nat) : (d.fs F v n).lmp = d.lmp := rfl
@[simp] theorem fs_aon (d : Dev) (F : Fld) (v n : Nat) : (d.fs F v n).aon = d.aon := rfl
@[simp] theorem fs_aux (d : Dev) (F : Fld) (v n : Nat) : (d.fs F v n).aux = d.aux := rfl
@[simp] theorem fs_mem (d : Dev) (F : Fld) (v n : Nat) : (d.fs F v n).mem = d.mem := rfl
@[simp] theorem fs_lost (d : Dev) (F : Fld) (v n : Nat) : (d.fs F v n).lost = d.lost := rfl
@[simp] theorem fs_mram (d : Dev) (F : Fld) (v n : Nat) : (d.fs F v n).mram = d.mram := rfl
@[simp] theorem fs_tx (d : Dev) (F : Fld) (v n : Nat) : (d.fs F v n).tx = d.tx := rfl
@[simp] theorem fs_out (d : Dev) (F : Fld) (v n : Nat) : (d.fs F v n).out = d.out := rfl
@[simp] theorem fs_outM (d : Dev) (F : Fld) (v n : Nat) : (d.fs F v n).outM = d.outM := rfl
@[simp] theorem fs_free (d : Dev) (F : Fld) (v n : Nat) : (d.fs F v n).free = d.free := rfl

/-- A field reads back what was written, cut to its width. -/
@[simp] theorem fg_fs (d : Dev) (F : Fld) (v n : Nat) : (d.fs F v n).fg F n = v % 2 ^ F.len := by simp [fg, fs]

/-- A write leaves every other place of the register file alone. -/
theorem fg_fs_ne (d : Dev) (F G : Fld) (v n m : Nat) (h : G.key m ≠ F.key n) : (d.fs F v n).fg G m = d.fg G m := by
  simp [fg, fs, spGet_spPut_ne _ _ _ _ _ h]

/-- The register file at a place other than the one written. -/
theorem regs_fs_ne (d : Dev) (F : Fld) (v n k x : Nat) (h : k ≠ F.key n) : spGet k x (d.fs F v n).regs = spGet k x d.regs := by
  simp [fs, spGet_spPut_ne _ _ _ _ _ h]

/-- Fields of a register array lie apart for different indexes. -/
theorem key_ne_of_index (F : Fld) (n m : Nat) (hs : 0 < F.stride) (h : m ≠ n) : F.key m ≠ F.key n := by
  intro e
  have : F.stride * m = F.stride * n := by simp only [Fld.key] at e; omega
  exact h (Nat.eq_of_mul_eq_mul_left hs this)

/-- A write to a register field keeps the register file canonical. -/
theorem fs_regsWf (d : Dev) (F : Fld) (v n : Nat) (h : spWf (fun _ _ => true) 0 d.regs = true) :
    spWf (fun _ _ => true) 0 (d.fs F v n).regs = true := spWf_spPut _ (fun _ => rfl) (Nat.zero_le _) h

/-! ## Raising an event -/

@[simp] theorem raise_regs (d : Dev) (e x : Nat) : (d.raise e x).regs = d.regs := rfl
@[simp] theorem raise_clk (d : Dev) (e x : Nat) : (d.raise e x).clk = d.clk := rfl
@[simp] theorem raise_sns (d : Dev) (e x : Nat) : (d.raise e x).sns = d.sns := rfl
@[simp] theorem raise_pwm (d : Dev) (e x : Nat) : (d.raise e x).pwm = d.pwm := rfl
@[simp] theorem raise_trp (d : Dev) (e x : Nat) : (d.raise e x).trp = d.trp := rfl
@[simp] theorem raise_cen (d : Dev) (e x : Nat) : (d.raise e x).cen = d.cen := rfl
@[simp] theorem raise_grd (d : Dev) (e x : Nat) : (d.raise e x).grd = d.grd := rfl
@[simp] theorem raise_wgh (d : Dev) (e x : Nat) : (d.raise e x).wgh = d.wgh := rfl
@[simp] theorem raise_thm (d : Dev) (e x : Nat) : (d.raise e x).thm = d.thm := rfl
@[simp] theorem raise_tal (d : Dev) (e x : Nat) : (d.raise e x).tal = d.tal := rfl
@[simp] theorem raise_saf (d : Dev) (e x : Nat) : (d.raise e x).saf = d.saf := rfl
@[simp] theorem raise_sys (d : Dev) (e x : Nat) : (d.raise e x).sys = d.sys := rfl
@[simp] theorem raise_hst (d : Dev) (e x : Nat) : (d.raise e x).hst = d.hst := rfl
@[simp] theorem raise_net (d : Dev) (e x : Nat) : (d.raise e x).net = d.net := rfl
@[simp] theorem raise_nql (d : Dev) (e x : Nat) : (d.raise e x).nql = d.nql := rfl
@[simp] theorem raise_drc (d : Dev) (e x : Nat) : (d.raise e x).drc = d.drc := rfl
@[simp] theorem raise_lmp (d : Dev) (e x : Nat) : (d.raise e x).lmp = d.lmp := rfl
@[simp] theorem raise_aon (d : Dev) (e x : Nat) : (d.raise e x).aon = d.aon := rfl
@[simp] theorem raise_aux (d : Dev) (e x : Nat) : (d.raise e x).aux = d.aux := rfl
@[simp] theorem raise_mem (d : Dev) (e x : Nat) : (d.raise e x).mem = d.mem := rfl
@[simp] theorem raise_mram (d : Dev) (e x : Nat) : (d.raise e x).mram = d.mram := rfl
@[simp] theorem raise_tx (d : Dev) (e x : Nat) : (d.raise e x).tx = d.tx := rfl
@[simp] theorem raise_out (d : Dev) (e x : Nat) : (d.raise e x).out = d.out := rfl
@[simp] theorem raise_outM (d : Dev) (e x : Nat) : (d.raise e x).outM = d.outM := rfl
@[simp] theorem raise_free (d : Dev) (e x : Nat) : (d.raise e x).free = d.free := rfl
@[simp] theorem fg_raise (d : Dev) (F : Fld) (n e x : Nat) : (d.raise e x).fg F n = d.fg F n := rfl
@[simp] theorem raise_inflight (d : Dev) (e x : Nat) : (d.raise e x).evt.inflight =
    d.evt.inflight ++ [{ num := e, detail := x, ts := d.clk.ticks, deg := d.deg, held := false }] := rfl
@[simp] theorem raise_logSeq (d : Dev) (e x : Nat) : (d.raise e x).evt.logSeq = d.evt.logSeq := rfl
@[simp] theorem raise_evtOut (d : Dev) (e x : Nat) : (d.raise e x).evt.out = d.evt.out := rfl

/-! ## From the device to the machine -/

@[simp] theorem land_regs (t s : Bool) (d0 d : Dev) : (land t s d0 d).regs = d.regs := rfl
@[simp] theorem land_clk (t s : Bool) (d0 d : Dev) : (land t s d0 d).clk = d.clk := rfl
@[simp] theorem land_sns (t s : Bool) (d0 d : Dev) : (land t s d0 d).sns = d.sns := rfl
@[simp] theorem land_pwm (t s : Bool) (d0 d : Dev) : (land t s d0 d).pwm = d.pwm := rfl
@[simp] theorem land_trp (t s : Bool) (d0 d : Dev) : (land t s d0 d).trp = d.trp := rfl
@[simp] theorem land_cen (t s : Bool) (d0 d : Dev) : (land t s d0 d).cen = d.cen := rfl
@[simp] theorem land_grd (t s : Bool) (d0 d : Dev) : (land t s d0 d).grd = d.grd := rfl
@[simp] theorem land_wgh (t s : Bool) (d0 d : Dev) : (land t s d0 d).wgh = d.wgh := rfl
@[simp] theorem land_thm (t s : Bool) (d0 d : Dev) : (land t s d0 d).thm = d.thm := rfl
@[simp] theorem land_tal (t s : Bool) (d0 d : Dev) : (land t s d0 d).tal = d.tal := rfl
@[simp] theorem land_sys (t s : Bool) (d0 d : Dev) : (land t s d0 d).sys = d.sys := rfl
@[simp] theorem land_evt (t s : Bool) (d0 d : Dev) : (land t s d0 d).evt = d.evt := rfl
@[simp] theorem land_hst (t s : Bool) (d0 d : Dev) : (land t s d0 d).hst = d.hst := rfl
@[simp] theorem land_net (t s : Bool) (d0 d : Dev) : (land t s d0 d).net = d.net := rfl
@[simp] theorem land_nql (t s : Bool) (d0 d : Dev) : (land t s d0 d).nql = d.nql := rfl
@[simp] theorem land_drc (t s : Bool) (d0 d : Dev) : (land t s d0 d).drc = d.drc := rfl
@[simp] theorem land_lmp (t s : Bool) (d0 d : Dev) : (land t s d0 d).lmp = d.lmp := rfl
@[simp] theorem land_aon (t s : Bool) (d0 d : Dev) : (land t s d0 d).aon = d.aon := rfl
@[simp] theorem land_aux (t s : Bool) (d0 d : Dev) : (land t s d0 d).aux = d.aux := rfl
@[simp] theorem land_tx (t s : Bool) (d0 d : Dev) : (land t s d0 d).tx = d.tx := rfl
@[simp] theorem land_free (t s : Bool) (d0 d : Dev) : (land t s d0 d).free = d.free := rfl
@[simp] theorem land_out (t s : Bool) (d0 d : Dev) : (land t s d0 d).out = [] := rfl
@[simp] theorem land_outM (t s : Bool) (d0 d : Dev) : (land t s d0 d).outM = [] := rfl
@[simp] theorem land_mem (t s : Bool) (d0 d : Dev) : (land t s d0 d).mem = (memLand (d0.lost, d0.mem) d.out).2 := rfl
@[simp] theorem land_lost (t s : Bool) (d0 d : Dev) : (land t s d0 d).lost = (memLand (d0.lost, d0.mem) d.out).1 := rfl
@[simp] theorem land_mram_true (s : Bool) (d0 d : Dev) : (land true s d0 d).mram = ledgerLand d0.mram d.outM := rfl
@[simp] theorem land_mram_false (s : Bool) (d0 d : Dev) : (land false s d0 d).mram = d0.mram := rfl
@[simp] theorem land_saf_true (t : Bool) (d0 d : Dev) : (land t true d0 d).saf = d.saf := rfl
@[simp] theorem land_saf_false (t : Bool) (d0 d : Dev) : (land t false d0 d).saf = d0.saf := rfl
@[simp] theorem fg_land (t s : Bool) (d0 d : Dev) (F : Fld) (n : Nat) : (land t s d0 d).fg F n = d.fg F n := rfl
theorem awake_run {f : Dev → Dev} {d : Dev} (h : d.sys.phase = .run) : awake f d = f d := by simp [awake, h]

/-- A step that writes no memory leaves the memory as it was. -/
@[simp] theorem memLand_nil (m : List Lost × List Host.Cell) : memLand m [] = m := rfl

end Dev

/-- Everything a carried effect can do: the queue stays, the memories stay canonical, no write is left under way. -/
theorem State.lift_next {tal saf : Bool} {f : Dev → Dev} {s t : State} (h : s.lift tal saf f = .next t) :
    t = { s with dev := Dev.land tal saf s.dev (f s.dev) } := by
  injection h with h
  exact h.symm

end Sys2Proof.Machine
end

