-- ==== Sys2Proof/Laws/Step.lean ====
section
/-! SUPPORT. What each way of carrying an effect to the machine does, once. -/
namespace Sys2Proof.Machine

/-- Whatever a carried effect is, the invariant holds after it. -/
theorem State.lift_inv {tal saf : Bool} {f : Dev → Dev} {s t : State} (hi : s.Inv) (h : s.lift tal saf f = .next t) : t.Inv := by
  have e := State.lift_next h
  subst e
  refine ⟨memLand_wf hi.1 _, ?_, rfl, rfl⟩
  cases tal
  · exact hi.2.1
  · exact ledgerLand_wf hi.2.1 _

/-- A carried effect leaves the queue alone. -/
theorem State.lift_pending {tal saf : Bool} {f : Dev → Dev} {s t : State} (h : s.lift tal saf f = .next t) : t.pending = s.pending := by
  rw [State.lift_next h]

theorem State.run_up {s : State} (h : s.up) (f : Dev → Dev) : s.run f = .next (s.to (f s.dev)) := by
  simp [State.run, State.lift, State.to, Dev.awake, show s.dev.sys.phase = .run from h]

theorem State.runTal_up {s : State} (h : s.up) (f : Dev → Dev) : s.runTal f = .next (s.toTal (f s.dev)) := by
  simp [State.runTal, State.lift, State.toTal, Dev.awake, show s.dev.sys.phase = .run from h]

theorem State.runSaf_up {s : State} (h : s.up) (f : Dev → Dev) : s.runSaf f = .next (s.toSaf (f s.dev)) := by
  simp [State.runSaf, State.lift, State.toSaf, Dev.awake, show s.dev.sys.phase = .run from h]

theorem State.runAll_up {s : State} (h : s.up) (f : Dev → Dev) : s.runAll f = .next (s.toAll (f s.dev)) := by
  simp [State.runAll, State.lift, State.toAll, Dev.awake, show s.dev.sys.phase = .run from h]

theorem State.runAon_next (s : State) (f : Dev → Dev) : s.runAon f = .next (s.to (f s.dev)) := rfl

theorem State.runRst_next (s : State) (f : Dev → Dev) : s.runRst f = .next (s.toAll (f s.dev)) := rfl

@[simp] theorem State.to_pending (s : State) (e : Dev) : (s.to e).pending = s.pending := rfl
@[simp] theorem State.toTal_pending (s : State) (e : Dev) : (s.toTal e).pending = s.pending := rfl
@[simp] theorem State.toSaf_pending (s : State) (e : Dev) : (s.toSaf e).pending = s.pending := rfl
@[simp] theorem State.toAll_pending (s : State) (e : Dev) : (s.toAll e).pending = s.pending := rfl
@[simp] theorem State.to_dev (s : State) (e : Dev) : (s.to e).dev = Dev.land false false s.dev e := rfl
@[simp] theorem State.toTal_dev (s : State) (e : Dev) : (s.toTal e).dev = Dev.land true false s.dev e := rfl
@[simp] theorem State.toSaf_dev (s : State) (e : Dev) : (s.toSaf e).dev = Dev.land false true s.dev e := rfl
@[simp] theorem State.toAll_dev (s : State) (e : Dev) : (s.toAll e).dev = Dev.land true true s.dev e := rfl

/-- A started command that its block answers: the reply's status and payload stand with it. -/
theorem Dev.runCmd_reply {d e : Dev} {op : Nat} {p : Path} {tag : Byte} {c : Cmd} {st : St} {b : List Byte}
    {f : Cmd → Dev → Res × Dev} (h : d.startedCmd p tag.toNat op = some c) (hf : f c d = (.reply st b, e)) :
    d.runCmd op p tag f = e.complete p tag.toNat st b := by
  simp [Dev.runCmd, h, hf]

/-- A started command whose reply is owed until its operation ends. -/
theorem Dev.runCmd_owed {d e : Dev} {op : Nat} {p : Path} {tag : Byte} {c : Cmd}
    {f : Cmd → Dev → Res × Dev} (h : d.startedCmd p tag.toNat op = some c) (hf : f c d = (.owed, e)) :
    d.runCmd op p tag f = e.updCmd p tag.toNat fun c => { c with ran := true } := by
  simp [Dev.runCmd, h, hf]

/-- A path and tag without such a command have no effect. -/
theorem Dev.runCmd_none {d : Dev} {op : Nat} {p : Path} {tag : Byte} (h : d.startedCmd p tag.toNat op = none)
    (f : Cmd → Dev → Res × Dev) : d.runCmd op p tag f = d := by
  simp [Dev.runCmd, h]

/-- Everything an instruction whose turn it is can do: the fetch, its effect, its steps, then the next one or a fault. -/
theorem Dev.coopDo_at {d : Dev} {sl : Nat} {i : Ins} (h : d.atIns sl i) (f : Dev → Ran) : d.coopDo sl i f =
    if (f (d.fetched sl)).cause = 0 then (f (d.fetched sl)).dev.done sl (f (d.fetched sl)).steps
    else ((f (d.fetched sl)).dev.countSteps sl (f (d.fetched sl)).steps).slotFault sl (f (d.fetched sl)).cause := by
  simp [Dev.coopDo, h.1, h.2, Dev.fetched, Dev.done]
  rfl

/-- The same for an instruction that moves the program counter itself. -/
theorem Dev.coopJump_at {d : Dev} {sl : Nat} {i : Ins} (h : d.atIns sl i) (f : Dev → Ran) : d.coopJump sl i f =
    if (f (d.fetched sl)).cause = 0 then (f (d.fetched sl)).dev.countSteps sl (f (d.fetched sl)).steps
    else ((f (d.fetched sl)).dev.countSteps sl (f (d.fetched sl)).steps).slotFault sl (f (d.fetched sl)).cause := by
  simp [Dev.coopJump, h.1, h.2, Dev.fetched]
  rfl

/-- An instruction whose turn it is not has no effect. -/
theorem Dev.coopDo_off {d : Dev} {sl : Nat} {i : Ins} (h : ¬ d.atIns sl i) (f : Dev → Ran) : d.coopDo sl i f = d := by
  simp only [Dev.atIns] at h
  simp only [Dev.coopDo]
  split
  · next e => simp_all
  · rfl

end Sys2Proof.Machine
end

