-- ==== Sys2Proof/Laws/Exec.lean ====
section
/-! SUPPORT. What every command does to the machine, said once: which effect it carries, and whether Tallyman or the supervisor
takes part. -/
namespace Sys2Proof.Machine

/-- Every command carries an effect on the device to the machine and always answers: Tallyman's ledger and the supervisor take part only in
the rows listed for them, and in reset a row that does not act there has the effect of nothing. -/
theorem exec_lift (c : Instr) (s : State) : ∃ tal saf f, exec c s = s.lift tal saf f ∧ (ledgerRow c = false → tal = false) ∧
    (supervisorRow c = false → saf = false) ∧ (actsInReset c = false → s.dev.sys.phase ≠ .run → f s.dev = s.dev) := by
  cases c <;> exact ⟨_, _, _, rfl, by first | exact fun _ => rfl | exact fun h => Bool.noConfusion h,
    by first | exact fun _ => rfl | exact fun h => Bool.noConfusion h,
    by first | exact fun h => Bool.noConfusion h | (intro _ hp; simp [Dev.awake, hp])⟩

end Sys2Proof.Machine
end

