-- ==== Sys2Proof/Laws/PerInstr.lean ====
section
/-! SUPPORT. The classes of rows, constructor by constructor. -/
namespace Sys2Proof.Laws.Rows
open Sys2Proof.Machine

/-- A row that acts in reset either reaches both Tallyman and the supervisor (a supply, a bank, the reset) or neither (Nightwatch). -/
def Statement (i : Instr) : Prop := actsInReset i = true → ledgerRow i = supervisorRow i

theorem registerWrite (a addr val) : Statement (.registerWrite a addr val) := fun _ => rfl
theorem loReadSnapshot (a addr) : Statement (.loReadSnapshot a addr) := fun _ => rfl
theorem loWriteHold (a addr val) : Statement (.loWriteHold a addr val) := fun _ => rfl
theorem hiWriteCommit (a addr val) : Statement (.hiWriteCommit a addr val) := fun h => Bool.noConfusion h
theorem rcFieldRead (a addr) : Statement (.rcFieldRead a addr) := fun _ => rfl
theorem aonBridgeAccess (a write addr val) : Statement (.aonBridgeAccess a write addr val) := fun _ => rfl
theorem vddCoreFall : Statement (.vddCoreFall) := fun _ => rfl
theorem supplyFallPor (k) : Statement (.supplyFallPor k) := fun _ => rfl
theorem resetRelease (bootSel) : Statement (.resetRelease bootSel) := fun _ => rfl
theorem bankValidDetect (b v33) : Statement (.bankValidDetect b v33) := fun _ => rfl
theorem bankInvalid (b unpowered) : Statement (.bankInvalid b unpowered) := fun _ => rfl
theorem supplyMonitorDrop (k) : Statement (.supplyMonitorDrop k) := fun _ => rfl
theorem missingEdgeDetect : Statement (.missingEdgeDetect) := fun _ => rfl
theorem frequencyCount (n) : Statement (.frequencyCount n) := fun _ => rfl
theorem refGoodTimeout : Statement (.refGoodTimeout) := fun _ => rfl
theorem referenceReturn : Statement (.referenceReturn) := fun _ => rfl
theorem pllEnable (a val) : Statement (.pllEnable a val) := fun _ => rfl
theorem pllDisable (a val) : Statement (.pllDisable a val) := fun _ => rfl
theorem bandMeasureDone (mhz) : Statement (.bandMeasureDone mhz) := fun _ => rfl
theorem lockDeclared : Statement (.lockDeclared) := fun _ => rfl
theorem lockAttemptTimeout : Statement (.lockAttemptTimeout) := fun _ => rfl
theorem lossOfLock : Statement (.lossOfLock) := fun _ => rfl
theorem pwmHoldRelease (a val) : Statement (.pwmHoldRelease a val) := fun _ => rfl
theorem ptpStep (a val) : Statement (.ptpStep a val) := fun h => Bool.noConfusion h
theorem ppsRise : Statement (.ppsRise) := fun _ => rfl
theorem ppsFall : Statement (.ppsFall) := fun _ => rfl
theorem oneSecondStrobe (ok) : Statement (.oneSecondStrobe ok) := fun h => Bool.noConfusion h
theorem snapSwCapture (a val) : Statement (.snapSwCapture a val) := fun _ => rfl
theorem ptpCapEdge : Statement (.ptpCapEdge) := fun _ => rfl
theorem snapNsRead (a) : Statement (.snapNsRead a) := fun _ => rfl
theorem timeTriggerFire (n) : Statement (.timeTriggerFire n) := fun h => Bool.noConfusion h
theorem sdckStart (a k val) : Statement (.sdckStart a k val) := fun _ => rfl
theorem sdckStop (a k val) : Statement (.sdckStop a k val) := fun _ => rfl
theorem inputStuck (n) : Statement (.inputStuck n) := fun _ => rfl
theorem stuckRecovered (n) : Statement (.stuckRecovered n) := fun _ => rfl
theorem controlFilterRestart (a n val) : Statement (.controlFilterRestart a n val) := fun _ => rfl
theorem controlFilterDecimation (n bits) : Statement (.controlFilterDecimation n bits) := fun _ => rfl
theorem comparatorAssert (m bits) : Statement (.comparatorAssert m bits) := fun _ => rfl
theorem comparatorDeassert (m bits) : Statement (.comparatorDeassert m bits) := fun _ => rfl
theorem meteringSample (l) : Statement (.meteringSample l) := fun _ => rfl
theorem meteringSampleDelivery : Statement (.meteringSampleDelivery) := fun h => Bool.noConfusion h
theorem rotationStepStart : Statement (.rotationStepStart) := fun _ => rfl
theorem rotationHandover : Statement (.rotationHandover) := fun _ => rfl
theorem rotationOffsetMeasured (ofs) : Statement (.rotationOffsetMeasured ofs) := fun _ => rfl
theorem rotationCalComplete (g1 g4 g16 g64) : Statement (.rotationCalComplete g1 g4 g16 g64) := fun _ => rfl
theorem mtrRotationRequest (a) : Statement (.mtrRotationRequest a) := fun _ => rfl
theorem meteringInitialCalDone (cal) : Statement (.meteringInitialCalDone cal) := fun _ => rfl
theorem auxScanStart : Statement (.auxScanStart) := fun _ => rfl
theorem auxConversionDone (code die) : Statement (.auxConversionDone code die) := fun _ => rfl
theorem openWireConversionDone (code) : Statement (.openWireConversionDone code) := fun _ => rfl
theorem auxSelftestDue : Statement (.auxSelftestDue) := fun _ => rfl
theorem auxSelftestRequest (a) : Statement (.auxSelftestRequest a) := fun _ => rfl
theorem auxSelftestConversionDone (code) : Statement (.auxSelftestConversionDone code) := fun _ => rfl
theorem snsCaps (p tag) : Statement (.snsCaps p tag) := fun _ => rfl
theorem snsRead (p tag) : Statement (.snsRead p tag) := fun _ => rfl
theorem snsTest (p tag) : Statement (.snsTest p tag) := fun _ => rfl
theorem carrierGroupRun (a g val) : Statement (.carrierGroupRun a g val) := fun _ => rfl
theorem carrierStart (n) : Statement (.carrierStart n) := fun _ => rfl
theorem carrierCentre (n) : Statement (.carrierCentre n) := fun _ => rfl
theorem commitCutoff (n) : Statement (.commitCutoff n) := fun _ => rfl
theorem compareEdge (n rising) : Statement (.compareEdge n rising) := fun _ => rfl
theorem deadTimeExpiry (n) : Statement (.deadTimeExpiry n) := fun _ => rfl
theorem delayLineCalibration (err step) : Statement (.delayLineCalibration err step) := fun _ => rfl
theorem shadowWrite (a n cmpB val) : Statement (.shadowWrite a n cmpB val) := fun _ => rfl
theorem shlockWrite (a val) : Statement (.shlockWrite a val) := fun _ => rfl
theorem commitTokenArrival : Statement (.commitTokenArrival) := fun _ => rfl
theorem legStart (a n val) : Statement (.legStart a n val) := fun _ => rfl
theorem legStop (a n val) : Statement (.legStop a n val) := fun _ => rfl
theorem forceWrite (a g val) : Statement (.forceWrite a g val) := fun _ => rfl
theorem forceTakesEffect (g) : Statement (.forceTakesEffect g) := fun _ => rfl
theorem markerReceived (m off) : Statement (.markerReceived m off) := fun _ => rfl
theorem markerTimeout : Statement (.markerTimeout) := fun _ => rfl
theorem pwmCaps (p tag) : Statement (.pwmCaps p tag) := fun _ => rfl
theorem pwmStart (p tag) : Statement (.pwmStart p tag) := fun _ => rfl
theorem pwmStop (p tag) : Statement (.pwmStop p tag) := fun _ => rfl
theorem pwmForce (p tag) : Statement (.pwmForce p tag) := fun _ => rfl
theorem pwmSet (p tag) : Statement (.pwmSet p tag) := fun _ => rfl
theorem tripInputFiltered (n high) : Statement (.tripInputFiltered n high) := fun _ => rfl
theorem blankingEnd (n) : Statement (.blankingEnd n) := fun _ => rfl
theorem tripSafeState (n) : Statement (.tripSafeState n) := fun _ => rfl
theorem holdoffExpiry (n) : Statement (.holdoffExpiry n) := fun _ => rfl
theorem tripClearWrite (a val) : Statement (.tripClearWrite a val) := fun _ => rfl
theorem softwareTripWrite (a val) : Statement (.softwareTripWrite a val) := fun _ => rfl
theorem tripClassWrite (a k val) : Statement (.tripClassWrite a k val) := fun _ => rfl
theorem trpCaps (p tag) : Statement (.trpCaps p tag) := fun _ => rfl
theorem trpStatus (p tag) : Statement (.trpStatus p tag) := fun _ => rfl
theorem trpClear (p tag) : Statement (.trpClear p tag) := fun _ => rfl
theorem trpSoft (p tag) : Statement (.trpSoft p tag) := fun _ => rfl
theorem mac (sl acc c n) : Statement (.mac sl acc c n) := fun _ => rfl
theorem msu (sl acc c n) : Statement (.msu sl acc c n) := fun _ => rfl
theorem macx (sl acc xa n) : Statement (.macx sl acc xa n) := fun _ => rfl
theorem msux (sl acc xa n) : Statement (.msux sl acc xa n) := fun _ => rfl
theorem macs (sl acc xa n) : Statement (.macs sl acc xa n) := fun _ => rfl
theorem mulx (sl acc xa xb) : Statement (.mulx sl acc xa xb) := fun _ => rfl
theorem addx (sl acc xa) : Statement (.addx sl acc xa) := fun _ => rfl
theorem subx (sl acc xa) : Statement (.subx sl acc xa) := fun _ => rfl
theorem clr (sl acc) : Statement (.clr sl acc) := fun _ => rfl
theorem shx (sl acc k) : Statement (.shx sl acc k) := fun _ => rfl
theorem lim (sl acc n) : Statement (.lim sl acc n) := fun _ => rfl
theorem rnd (sl xa acc) : Statement (.rnd sl xa acc) := fun _ => rfl
theorem sta (sl acc k n) : Statement (.sta sl acc k n) := fun _ => rfl
theorem nrm (sl acc k n) : Statement (.nrm sl acc k n) := fun _ => rfl
theorem ldx (sl xa n) : Statement (.ldx sl xa n) := fun _ => rfl
theorem ldxc (sl xa n) : Statement (.ldxc sl xa n) := fun _ => rfl
theorem stx (sl xa n) : Statement (.stx sl xa n) := fun _ => rfl
theorem movx (sl xa xb) : Statement (.movx sl xa xb) := fun _ => rfl
theorem dly (sl k n) : Statement (.dly sl k n) := fun _ => rfl
theorem minx (sl xa xb) : Statement (.minx sl xa xb) := fun _ => rfl
theorem maxx (sl xa xb) : Statement (.maxx sl xa xb) := fun _ => rfl
theorem lds (sl xa kind i) : Statement (.lds sl xa kind i) := fun _ => rfl
theorem wsmp (sl k kind i) : Statement (.wsmp sl k kind i) := fun _ => rfl
theorem chk (sl xa xb n) : Statement (.chk sl xa xb n) := fun _ => rfl
theorem spec (sl) : Statement (.spec sl) := fun _ => rfl
theorem tent (sl xa xb leg) : Statement (.tent sl xa xb leg) := fun _ => rfl
theorem commit (sl legs) : Statement (.commit sl legs) := fun _ => rfl
theorem cancel (sl legs) : Statement (.cancel sl legs) := fun _ => rfl
theorem br (sl cond target) : Statement (.br sl cond target) := fun _ => rfl
theorem rpt (sl cnt ci si) : Statement (.rpt sl cnt ci si) := fun _ => rfl
theorem gpost (sl xa) : Statement (.gpost sl xa) := fun _ => rfl
theorem gsel (sl xa g) : Statement (.gsel sl xa g) := fun _ => rfl
theorem wreq (sl xa n) : Statement (.wreq sl xa n) := fun _ => rfl
theorem trc (sl xa c) : Statement (.trc sl xa c) := fun _ => rfl
theorem trig (sl) : Statement (.trig sl) := fun _ => rfl
theorem evt (sl code) : Statement (.evt sl code) := fun _ => rfl
theorem nop (sl) : Statement (.nop sl) := fun _ => rfl
theorem endExec (sl) : Statement (.endExec sl) := fun _ => rfl
theorem illegalInstruction (sl) : Statement (.illegalInstruction sl) := fun _ => rfl
theorem slotTriggerTimer (sl) : Statement (.slotTriggerTimer sl) := fun _ => rfl
theorem slotDispatch (l) : Statement (.slotDispatch l) := fun _ => rfl
theorem slotEnable (a sl val) : Statement (.slotEnable a sl val) := fun _ => rfl
theorem slotDisable (a sl val) : Statement (.slotDisable a sl val) := fun _ => rfl
theorem cooperSelftestDue : Statement (.cooperSelftestDue) := fun _ => rfl
theorem cooperSelftestRequest (a) : Statement (.cooperSelftestRequest a) := fun _ => rfl
theorem cooperSelftestComplete (l pass) : Statement (.cooperSelftestComplete l pass) := fun _ => rfl
theorem evcodeRead (a) : Statement (.evcodeRead a) := fun _ => rfl
theorem scrivenerArm (a val) : Statement (.scrivenerArm a val) := fun _ => rfl
theorem scrivenerDisarm (a val) : Statement (.scrivenerDisarm a val) := fun _ => rfl
theorem scrivenerSwtrig (a val) : Statement (.scrivenerSwtrig a val) := fun _ => rfl
theorem scrivenerPostDone (c) : Statement (.scrivenerPostDone c) := fun _ => rfl
theorem scrivenerTsWrap : Statement (.scrivenerTsWrap) := fun _ => rfl
theorem cenCaps (p tag) : Statement (.cenCaps p tag) := fun _ => rfl
theorem cenWrite (p tag) : Statement (.cenWrite p tag) := fun _ => rfl
theorem cenRead (p tag) : Statement (.cenRead p tag) := fun _ => rfl
theorem cenStart (p tag) : Statement (.cenStart p tag) := fun _ => rfl
theorem cenStop (p tag) : Statement (.cenStop p tag) := fun _ => rfl
theorem cenKick (p tag) : Statement (.cenKick p tag) := fun _ => rfl
theorem cenClear (p tag) : Statement (.cenClear p tag) := fun _ => rfl
theorem cenGroup (p tag) : Statement (.cenGroup p tag) := fun _ => rfl
theorem cenStatus (p tag) : Statement (.cenStatus p tag) := fun _ => rfl
theorem cenSelftest (p tag) : Statement (.cenSelftest p tag) := fun _ => rfl
theorem trcCaps (p tag) : Statement (.trcCaps p tag) := fun _ => rfl
theorem trcArm (p tag) : Statement (.trcArm p tag) := fun _ => rfl
theorem trcTrigger (p tag) : Statement (.trcTrigger p tag) := fun _ => rfl
theorem trcRead (p tag) : Statement (.trcRead p tag) := fun _ => rfl
theorem trcStop (p tag) : Statement (.trcStop p tag) := fun _ => rfl
theorem gridEnable (a val) : Statement (.gridEnable a val) := fun h => Bool.noConfusion h
theorem gridDisable (a val) : Statement (.gridDisable a val) := fun h => Bool.noConfusion h
theorem gridSampleDecision (k) : Statement (.gridSampleDecision k) := fun h => Bool.noConfusion h
theorem measChannelTimeout : Statement (.measChannelTimeout) := fun h => Bool.noConfusion h
theorem v10Update : Statement (.v10Update) := fun h => Bool.noConfusion h
theorem ceaseTimeout : Statement (.ceaseTimeout) := fun h => Bool.noConfusion h
theorem suspectHoldExpiry : Statement (.suspectHoldExpiry) := fun _ => rfl
theorem actInvalidTimeout : Statement (.actInvalidTimeout) := fun h => Bool.noConfusion h
theorem contactorOpenTimeout : Statement (.contactorOpenTimeout) := fun _ => rfl
theorem contactorCloseTimeout : Statement (.contactorCloseTimeout) := fun h => Bool.noConfusion h
theorem reconnectDelayExpiry : Statement (.reconnectDelayExpiry) := fun h => Bool.noConfusion h
theorem enterServiceRampEnd : Statement (.enterServiceRampEnd) := fun _ => rfl
theorem grdPubFrameReceived (trip words) : Statement (.grdPubFrameReceived trip words) := fun _ => rfl
theorem publicationLoss : Statement (.publicationLoss) := fun _ => rfl
theorem coopRecordTimer : Statement (.coopRecordTimer) := fun _ => rfl
theorem coopRecordReceived (l) : Statement (.coopRecordReceived l) := fun _ => rfl
theorem coopPeerTimeout (n) : Statement (.coopPeerTimeout n) := fun _ => rfl
theorem grdCaps (p tag) : Statement (.grdCaps p tag) := fun _ => rfl
theorem grdStatus (p tag) : Statement (.grdStatus p tag) := fun _ => rfl
theorem grdReconnect (p tag) : Statement (.grdReconnect p tag) := fun h => Bool.noConfusion h
theorem grdDisconnect (p tag) : Statement (.grdDisconnect p tag) := fun h => Bool.noConfusion h
theorem grdClear (p tag) : Statement (.grdClear p tag) := fun _ => rfl
theorem requestCutoff : Statement (.requestCutoff) := fun _ => rfl
theorem grantBoundary : Statement (.grantBoundary) := fun _ => rfl
theorem burstReservationLapse : Statement (.burstReservationLapse) := fun _ => rfl
theorem weighmasterDisable (a val) : Statement (.weighmasterDisable a val) := fun _ => rfl
theorem followerRequestForward : Statement (.followerRequestForward) := fun _ => rfl
theorem wghReqFrameReceived (pos l) : Statement (.wghReqFrameReceived pos l) := fun _ => rfl
theorem wghCeilFrameReceived (parts part l) : Statement (.wghCeilFrameReceived parts part l) := fun _ => rfl
theorem followerCeilingWrite : Statement (.followerCeilingWrite) := fun _ => rfl
theorem graceExpiry (z) : Statement (.graceExpiry z) := fun _ => rfl
theorem wghCaps (p tag) : Statement (.wghCaps p tag) := fun _ => rfl
theorem wghStatus (p tag) : Statement (.wghStatus p tag) := fun _ => rfl
theorem wghBurst (p tag) : Statement (.wghBurst p tag) := fun _ => rfl
theorem thmCaps (p tag) : Statement (.thmCaps p tag) := fun _ => rfl
theorem thmStatus (p tag) : Statement (.thmStatus p tag) := fun _ => rfl
theorem missingSetTimeout : Statement (.missingSetTimeout) := fun _ => rfl
theorem pfailFall (ok) : Statement (.pfailFall ok) := fun h => Bool.noConfusion h
theorem pfFlushTimer (ok) : Statement (.pfFlushTimer ok) := fun h => Bool.noConfusion h
theorem pfailRise : Statement (.pfailRise) := fun _ => rfl
theorem tallymanEnable (a val) : Statement (.tallymanEnable a val) := fun h => Bool.noConfusion h
theorem tallymanDisable (a val) : Statement (.tallymanDisable a val) := fun h => Bool.noConfusion h
theorem talConfigWrite (a addr val) : Statement (.talConfigWrite a addr val) := fun h => Bool.noConfusion h
theorem talSealWrite (a val) : Statement (.talSealWrite a val) := fun h => Bool.noConfusion h
theorem talNonceExpiry : Statement (.talNonceExpiry) := fun _ => rfl
theorem talCaps (p tag) : Statement (.talCaps p tag) := fun _ => rfl
theorem talStatus (p tag) : Statement (.talStatus p tag) := fun _ => rfl
theorem talReadInt (p tag) : Statement (.talReadInt p tag) := fun _ => rfl
theorem talChallenge (p tag) : Statement (.talChallenge p tag) := fun _ => rfl
theorem talUnseal (p tag) : Statement (.talUnseal p tag) := fun h => Bool.noConfusion h
theorem talClear (p tag) : Statement (.talClear p tag) := fun _ => rfl
theorem safetyInputAccepted (ch n c level) : Statement (.safetyInputAccepted ch n c level) := fun h => Bool.noConfusion h
theorem discrepancyTimeout (n) : Statement (.discrepancyTimeout n) := fun h => Bool.noConfusion h
theorem testPulseStart (src) : Statement (.testPulseStart src) := fun h => Bool.noConfusion h
theorem testPulseCheck (src n level) : Statement (.testPulseCheck src n level) := fun h => Bool.noConfusion h
theorem testPulseEnd (src) : Statement (.testPulseEnd src) := fun h => Bool.noConfusion h
theorem stateVectorExchange (differ) : Statement (.stateVectorExchange differ) := fun h => Bool.noConfusion h
theorem partnerVectorTimeout : Statement (.partnerVectorTimeout) := fun h => Bool.noConfusion h
theorem exchangeRateCheck (n) : Statement (.exchangeRateCheck n) := fun h => Bool.noConfusion h
theorem bCrystalLoss : Statement (.bCrystalLoss) := fun h => Bool.noConfusion h
theorem connectionCheckStart (f) : Statement (.connectionCheckStart f) := fun h => Bool.noConfusion h
theorem checkTimerExpiry (f) : Statement (.checkTimerExpiry f) := fun h => Bool.noConfusion h
theorem mirrorFeedbackChange (f i level) : Statement (.mirrorFeedbackChange f i level) := fun h => Bool.noConfusion h
theorem feedbackTimeout (f) : Statement (.feedbackTimeout f) := fun h => Bool.noConfusion h
theorem relayVerified (f) : Statement (.relayVerified f) := fun h => Bool.noConfusion h
theorem feedbackDisagreeTimeout : Statement (.feedbackDisagreeTimeout) := fun h => Bool.noConfusion h
theorem offPulseStart (f ch low) : Statement (.offPulseStart f ch low) := fun h => Bool.noConfusion h
theorem offPulseEnd (f ch high) : Statement (.offPulseEnd f ch high) := fun h => Bool.noConfusion h
theorem weldTestEnd : Statement (.weldTestEnd) := fun h => Bool.noConfusion h
theorem safetyPduReceived (kind link pdu) : Statement (.safetyPduReceived kind link pdu) := fun h => Bool.noConfusion h
theorem pduExpectationTimeout (c i) : Statement (.pduExpectationTimeout c i) := fun h => Bool.noConfusion h
theorem pduSendTimer (x) : Statement (.pduSendTimer x) := fun h => Bool.noConfusion h
theorem safUlChallenge (a val) : Statement (.safUlChallenge a val) := fun h => Bool.noConfusion h
theorem safUlConfig (a val) : Statement (.safUlConfig a val) := fun h => Bool.noConfusion h
theorem safUlFaultAck (a val) : Statement (.safUlFaultAck a val) := fun h => Bool.noConfusion h
theorem safUlRestartAck (a val) : Statement (.safUlRestartAck a val) := fun h => Bool.noConfusion h
theorem unlockVerifyComplete (storeBad) : Statement (.unlockVerifyComplete storeBad) := fun h => Bool.noConfusion h
theorem safNonceExpiry : Statement (.safNonceExpiry) := fun h => Bool.noConfusion h
theorem safCaps (p tag) : Statement (.safCaps p tag) := fun _ => rfl
theorem safStatus (p tag) : Statement (.safStatus p tag) := fun _ => rfl
theorem safReadCfg (p tag) : Statement (.safReadCfg p tag) := fun _ => rfl
theorem safChallenge (p tag) : Statement (.safChallenge p tag) := fun h => Bool.noConfusion h
theorem safUnlock (p tag) : Statement (.safUnlock p tag) := fun h => Bool.noConfusion h
theorem safWeldtest (p tag) : Statement (.safWeldtest p tag) := fun h => Bool.noConfusion h
theorem hostWrite (addr data) : Statement (.hostWrite addr data) := fun _ => rfl
theorem postedWritePerform : Statement (.postedWritePerform) := fun _ => rfl
theorem hostRead (addr len) : Statement (.hostRead addr len) := fun _ => rfl
theorem hostReadTimeout (addr) : Statement (.hostReadTimeout addr) := fun _ => rfl
theorem hostStatus : Statement (.hostStatus) := fun _ => rfl
theorem hostCmd (pkt) : Statement (.hostCmd pkt) := fun _ => rfl
theorem hostReply : Statement (.hostReply) := fun _ => rfl
theorem hostBadInstruction (b) : Statement (.hostBadInstruction b) := fun _ => rfl
theorem commandStart (p tag) : Statement (.commandStart p tag) := fun _ => rfl
theorem replyRelease (p tag) : Statement (.replyRelease p tag) := fun _ => rfl
theorem accessTimeout (p tag) : Statement (.accessTimeout p tag) := fun _ => rfl
theorem sysNop (p tag) : Statement (.sysNop p tag) := fun _ => rfl
theorem hello (p tag) : Statement (.hello p tag) := fun _ => rfl
theorem sysCaps (p tag) : Statement (.sysCaps p tag) := fun _ => rfl
theorem regReadCmd (p tag) : Statement (.regReadCmd p tag) := fun _ => rfl
theorem regWriteCmd (p tag) : Statement (.regWriteCmd p tag) := fun _ => rfl
theorem memReadCmd (p tag) : Statement (.memReadCmd p tag) := fun _ => rfl
theorem memWriteCmd (p tag) : Statement (.memWriteCmd p tag) := fun _ => rfl
theorem hstAbort (p tag) : Statement (.hstAbort p tag) := fun _ => rfl
theorem regModify (p tag) : Statement (.regModify p tag) := fun _ => rfl
theorem ethLinkChange (x up half speed) : Statement (.ethLinkChange x up half speed) := fun _ => rfl
theorem ethFrameReceived (x frame fill) : Statement (.ethFrameReceived x frame fill) := fun h => Bool.noConfusion h
theorem ringTailWrite (a r val) : Statement (.ringTailWrite a r val) := fun _ => rfl
theorem txFrameComplete (x) : Statement (.txFrameComplete x) := fun _ => rfl
theorem sessionPacketReceived (x port pkt) : Statement (.sessionPacketReceived x port pkt) := fun _ => rfl
theorem keyLoadWrite (a slot) : Statement (.keyLoadWrite a slot) := fun _ => rfl
theorem keyEraseWrite (a slot) : Statement (.keyEraseWrite a slot) := fun _ => rfl
theorem drcEnable (a val) : Statement (.drcEnable a val) := fun _ => rfl
theorem dramTrainingComplete (ok) : Statement (.dramTrainingComplete ok) := fun _ => rfl
theorem dramZqCalTimer : Statement (.dramZqCalTimer) := fun _ => rfl
theorem dramDqsCheckTimer (excess) : Statement (.dramDqsCheckTimer excess) := fun _ => rfl
theorem dramScrubPass (ce ue) : Statement (.dramScrubPass ce ue) := fun _ => rfl
theorem nqlEnable (a val) : Statement (.nqlEnable a val) := fun _ => rfl
theorem laneSyncAchieved (l) : Statement (.laneSyncAchieved l) := fun _ => rfl
theorem laneNosigTimeout (l) : Statement (.laneNosigTimeout l) := fun _ => rfl
theorem laneTrained (l peer) : Statement (.laneTrained l peer) := fun _ => rfl
theorem pingReceived (l num residual) : Statement (.pingReceived l num residual) := fun _ => rfl
theorem echoReceived (l num residual roundTrip) : Statement (.echoReceived l num residual roundTrip) := fun _ => rfl
theorem pingTimer (l) : Statement (.pingTimer l) := fun _ => rfl
theorem capFrameReceived (l src payload) : Statement (.capFrameReceived l src payload) := fun _ => rfl
theorem capBroadcastTimer : Statement (.capBroadcastTimer) := fun _ => rfl
theorem nodePresenceTimeout (n) : Statement (.nodePresenceTimeout n) := fun _ => rfl
theorem laneErrorBurst (l) : Statement (.laneErrorBurst l) := fun _ => rfl
theorem nqlFrameForward (l frame) : Statement (.nqlFrameForward l frame) := fun _ => rfl
theorem nqlDataFrameReceived (l src seq payload) : Statement (.nqlDataFrameReceived l src seq payload) := fun _ => rfl
theorem nqlCaps (p tag) : Statement (.nqlCaps p tag) := fun _ => rfl
theorem netStatus (p tag) : Statement (.netStatus p tag) := fun _ => rfl
theorem netSessOpen (p tag) : Statement (.netSessOpen p tag) := fun _ => rfl
theorem netSessClose (p tag) : Statement (.netSessClose p tag) := fun _ => rfl
theorem netKeyLoad (p tag) : Statement (.netKeyLoad p tag) := fun _ => rfl
theorem netRekey (p tag) : Statement (.netRekey p tag) := fun _ => rfl
theorem nqlStatus (p tag) : Statement (.nqlStatus p tag) := fun _ => rfl
theorem nqlSend (p tag) : Statement (.nqlSend p tag) := fun _ => rfl
theorem plcPortEnable (a p val) : Statement (.plcPortEnable a p val) := fun _ => rfl
theorem networkStartConfirm (p status) : Statement (.networkStartConfirm p status) := fun _ => rfl
theorem dataConfirm (p handle status) : Statement (.dataConfirm p handle status) := fun _ => rfl
theorem joinNotification (p eui short) : Statement (.joinNotification p eui short) := fun _ => rfl
theorem leaveNotification (p eui short) : Statement (.leaveNotification p eui short) := fun _ => rfl
theorem getConfirm (p) : Statement (.getConfirm p) := fun _ => rfl
theorem modemRestart (p) : Statement (.modemRestart p) := fun _ => rfl
theorem plcFrameBad (p) : Statement (.plcFrameBad p) := fun _ => rfl
theorem plcKeepaliveTimer (p) : Statement (.plcKeepaliveTimer p) := fun _ => rfl
theorem plcResetTimer (p) : Statement (.plcResetTimer p) := fun _ => rfl
theorem endpointHelloRsp (num ver hi lo rated) : Statement (.endpointHelloRsp num ver hi lo rated) := fun _ => rfl
theorem endpointStatus (num ver level faults energy power) : Statement (.endpointStatus num ver level faults energy power) := fun _ => rfl
theorem endpointAck (num ver result level) : Statement (.endpointAck num ver result level) := fun _ => rfl
theorem transactionStart : Statement (.transactionStart) := fun _ => rfl
theorem transactionResponseTimeout (num) : Statement (.transactionResponseTimeout num) := fun _ => rfl
theorem pollDue (entry) : Statement (.pollDue entry) := fun _ => rfl
theorem localMinuteBoundary : Statement (.localMinuteBoundary) := fun _ => rfl
theorem overrideExpiry (entry) : Statement (.overrideExpiry entry) := fun _ => rfl
theorem deferredRetryTimer : Statement (.deferredRetryTimer) := fun _ => rfl
theorem supplyLevelPoll : Statement (.supplyLevelPoll) := fun _ => rfl
theorem lmpUpdateReceived (peer role district entries) : Statement (.lmpUpdateReceived peer role district entries) := fun _ => rfl
theorem lmpDigestReceived (peer role district ranges) : Statement (.lmpDigestReceived peer role district ranges) := fun _ => rfl
theorem lmpPullReceived (peer role district ranges) : Statement (.lmpPullReceived peer role district ranges) := fun _ => rfl
theorem lmpBeatReceived (peer role district hub epoch) : Statement (.lmpBeatReceived peer role district hub epoch) := fun _ => rfl
theorem lmpGroupReceived (peer role district payload) : Statement (.lmpGroupReceived peer role district payload) := fun _ => rfl
theorem lmpEndpointReceived (g eui msg) : Statement (.lmpEndpointReceived g eui msg) := fun _ => rfl
theorem digestTimer : Statement (.digestTimer) := fun _ => rfl
theorem beatTimer : Statement (.beatTimer) := fun _ => rfl
theorem masterSilenceTimeout : Statement (.masterSilenceTimeout) := fun _ => rfl
theorem takeoverComplete : Statement (.takeoverComplete) := fun _ => rfl
theorem dirRoleWrite (a val) : Statement (.dirRoleWrite a val) := fun _ => rfl
theorem entryFreeTimer (entry) : Statement (.entryFreeTimer entry) := fun _ => rfl
theorem lmpCaps (p tag) : Statement (.lmpCaps p tag) := fun _ => rfl
theorem lmpStatus (p tag) : Statement (.lmpStatus p tag) := fun _ => rfl
theorem lmpEntryRead (p tag) : Statement (.lmpEntryRead p tag) := fun _ => rfl
theorem lmpEntryWrite (p tag) : Statement (.lmpEntryWrite p tag) := fun _ => rfl
theorem lmpEntryDelete (p tag) : Statement (.lmpEntryDelete p tag) := fun _ => rfl
theorem lmpSchedWrite (p tag) : Statement (.lmpSchedWrite p tag) := fun _ => rfl
theorem lmpSet (p tag) : Statement (.lmpSet p tag) := fun _ => rfl
theorem lmpGroup (p tag) : Statement (.lmpGroup p tag) := fun _ => rfl
theorem vbatFirstApplication : Statement (.vbatFirstApplication) := fun _ => rfl
theorem vbatLoss : Statement (.vbatLoss) := fun _ => rfl
theorem vbatSample (mv) : Statement (.vbatSample mv) := fun _ => rfl
theorem rtcSet (a hi) : Statement (.rtcSet a hi) := fun _ => rfl
theorem crystalLoss : Statement (.crystalLoss) := fun _ => rfl
theorem crystalRestart : Statement (.crystalRestart) := fun _ => rfl
theorem rtcTrimTimer : Statement (.rtcTrimTimer) := fun _ => rfl
theorem rtcAlarm : Statement (.rtcAlarm) := fun _ => rfl
theorem doorTamperSample (doorLow tamperLow) : Statement (.doorTamperSample doorLow tamperLow) := fun _ => rfl
theorem bsSample (vhv bsfb vbat) : Statement (.bsSample vhv bsfb vbat) := fun _ => rfl
theorem kickPulse : Statement (.kickPulse) := fun _ => rfl
theorem bsWakeTimeout : Statement (.bsWakeTimeout) := fun _ => rfl
theorem bsRetryExpiry : Statement (.bsRetryExpiry) := fun _ => rfl
theorem buckEnable (a val vfb) : Statement (.buckEnable a val vfb) := fun _ => rfl
theorem softStartEnd (vfb) : Statement (.softStartEnd vfb) := fun _ => rfl
theorem hiccupEnd (vfb) : Statement (.hiccupEnd vfb) := fun _ => rfl
theorem buckFaultDetect (ilim vfb) : Statement (.buckFaultDetect ilim vfb) := fun _ => rfl
theorem buckVsetWrite (a val) : Statement (.buckVsetWrite a val) := fun _ => rfl
theorem buckSlewDone (vfb) : Statement (.buckSlewDone vfb) := fun _ => rfl
theorem buckLatchClear (a vfb) : Statement (.buckLatchClear a vfb) := fun _ => rfl
theorem pgoodRelease (vfb) : Statement (.pgoodRelease vfb) := fun _ => rfl
theorem pgoodLoss (vfb) : Statement (.pgoodLoss vfb) := fun _ => rfl
theorem shedStart (i0 i1) : Statement (.shedStart i0 i1) := fun _ => rfl
theorem shedSettleEnd (abandon) : Statement (.shedSettleEnd abandon) := fun _ => rfl
theorem phaseReadd (i0) : Statement (.phaseReadd i0) := fun _ => rfl
theorem pumpEnable (a val) : Statement (.pumpEnable a val) := fun _ => rfl
theorem prechargeEnd : Statement (.prechargeEnd) := fun _ => rfl
theorem hallCodeChange (code) : Statement (.hallCodeChange code) := fun _ => rfl
theorem pumpDesat (n) : Statement (.pumpDesat n) := fun _ => rfl
theorem pumpOvercurrent : Statement (.pumpOvercurrent) := fun _ => rfl
theorem pumpBootstrapLow (n) : Statement (.pumpBootstrapLow n) := fun _ => rfl
theorem pumpStallTimeout : Statement (.pumpStallTimeout) := fun _ => rfl
theorem pumpRestartTimer : Statement (.pumpRestartTimer) := fun _ => rfl
theorem vdrvLoss : Statement (.vdrvLoss) := fun _ => rfl
theorem vdrvReturn : Statement (.vdrvReturn) := fun _ => rfl
theorem auxCaps (p tag) : Statement (.auxCaps p tag) := fun _ => rfl
theorem aonTimeSet (p tag) : Statement (.aonTimeSet p tag) := fun _ => rfl
theorem aonClear (p tag) : Statement (.aonClear p tag) := fun _ => rfl
theorem auxBkSet (p tag) : Statement (.auxBkSet p tag) := fun _ => rfl
theorem auxStatus (p tag) : Statement (.auxStatus p tag) := fun _ => rfl
theorem resetPin : Statement (.resetPin) := fun _ => rfl
theorem softwareResetWrite (a val) : Statement (.softwareResetWrite a val) := fun _ => rfl
theorem warmResetAssert : Statement (.warmResetAssert) := fun _ => rfl
theorem watchdogKick (a val) : Statement (.watchdogKick a val) := fun _ => rfl
theorem watchdogExpiry : Statement (.watchdogExpiry) := fun _ => rfl
theorem bootRefTimeout : Statement (.bootRefTimeout) := fun _ => rfl
theorem bootSlotAttempt (hdrA hdrB keyOk sigOk bodyOk) : Statement (.bootSlotAttempt hdrA hdrB keyOk sigOk bodyOk) := fun _ => rfl
theorem bootRecordWrite (addr words) : Statement (.bootRecordWrite addr words) := fun _ => rfl
theorem bootRecordWait (addr mask value) : Statement (.bootRecordWait addr mask value) := fun _ => rfl
theorem bootRecordEnd (hashOk) : Statement (.bootRecordEnd hashOk) := fun _ => rfl
theorem lifecycleFuseProgram : Statement (.lifecycleFuseProgram) := fun _ => rfl
theorem eventArrival : Statement (.eventArrival) := fun _ => rfl
theorem evtOutPulseStart (n) : Statement (.evtOutPulseStart n) := fun _ => rfl
theorem evtOutPulseEnd (n) : Statement (.evtOutPulseEnd n) := fun _ => rfl
theorem faultClassWrite (a k val) : Statement (.faultClassWrite a k val) := fun _ => rfl
theorem sysReset (p tag) : Statement (.sysReset p tag) := fun _ => rfl
theorem bootStatus (p tag) : Statement (.bootStatus p tag) := fun _ => rfl
theorem bootImage (p tag keyOk sigOk bodyOk) : Statement (.bootImage p tag keyOk sigOk bodyOk) := fun _ => rfl
theorem svnAdvance (p tag) : Statement (.svnAdvance p tag) := fun _ => rfl
theorem evtRead (p tag) : Statement (.evtRead p tag) := fun _ => rfl
theorem evtPending (p tag) : Statement (.evtPending p tag) := fun _ => rfl
theorem evtClear (p tag) : Statement (.evtClear p tag) := fun _ => rfl
theorem w1cClear (a addr val) : Statement (.w1cClear a addr val) := fun _ => rfl
theorem supplyValid (k) : Statement (.supplyValid k) := fun _ => rfl
theorem safetyConfigLoaded : Statement (.safetyConfigLoaded) := fun h => Bool.noConfusion h
theorem nqlFrameBad (l code) : Statement (.nqlFrameBad l code) := fun _ => rfl
theorem modemHandshakeLine (p) : Statement (.modemHandshakeLine p) := fun _ => rfl

end Sys2Proof.Laws.Rows
end

