-- ==== Sys2Proof/Laws/Regs.lean ====
section
/-! SUPPORT. What a register access does, once: an accepted write, a refused write, a read. -/
namespace Sys2Proof.Machine
namespace Dev

/-- Everything an accepted write does: its fields are stored, then the register's own effect follows; bits that no field takes
count for nothing. -/
theorem writeReg_ok {d : Dev} {r : Reg} {n word w : Nat} (hw : reached r word = w) (h : (d.writeReg r n word).1 = .ok) :
    (d.writeReg r n word).2 = (r.flds.foldl (d.storeFld r.base n w) d).afterReg d r.base n w := by
  subst hw
  unfold writeReg at h ⊢
  simp only at h ⊢
  split at h
  · simp at h
  · split at h
    · simp at h
    · split at h
      · simp at h
      · next h1 h2 h3 =>
        simp only [h1, h2, h3]
        split at h
        · simp at h
        · next h4 => simp [h4]

/-- A write whose encoding, or combination, is not admitted is refused whole. -/
theorem writeReg_range {d : Dev} {r : Reg} {n word w : Nat} (hw : reached r word = w) (ha : d.authReg r.base n w = false)
    (h : (badEncoding r w || d.rangeReg r.base n w) = true) : d.writeReg r n word = (.range, d) := by
  subst hw
  simp only [writeReg, ha, h, Bool.false_eq_true, if_false, if_true]

/-- A write to an address of one of the registers that is no half of a two-word quantity is that register's write. -/
theorem regWrite_reg {d : Dev} {acc : Acc} {a w n : Nat} {r : Reg} (hf : findReg a = some (r, n)) (h4 : a % 4 = 0)
    (ha : d.aonDead a = false) (hs : a / 65536 ≠ 0x2009 ∨ unlockAddr a = true) (hp : writePairs.contains r.base = false)
    (hp' : writePairs.contains (r.base - 4) = false) : d.regWrite acc a w = d.writeReg r n w := by
  have : ¬ (a / 65536 = 0x2009 ∧ unlockAddr a = false) := by rintro ⟨h1, h2⟩; simp_all
  unfold regWrite
  rw [if_neg (by omega), if_neg (by simp [ha]), if_neg this]
  simp only [hf, hp, hp', Bool.false_eq_true, if_false]

/-- A read of a register's address: the word, and what the read does. -/
theorem regRead_reg {d : Dev} {acc : Acc} {a n : Nat} {r : Reg} (hf : findReg a = some (r, n)) (h4 : a % 4 = 0)
    (ha : d.aonDead a = false) : d.regRead acc a =
      (d.readWord acc a, Dev.readFx { d with hst := { d.hst with lastRead := d.readWord acc a } } acc a r n) := by
  have ha' : ({ d with hst := { d.hst with lastRead := d.readWord acc a } } : Dev).aonDead a = false := ha
  unfold regRead
  simp only [hf]
  rw [if_neg (by simp [h4, ha'])]

end Dev
end Sys2Proof.Machine
end

