-- ==== Sys2Proof/WellFormed.lean ====
section
/-! DEFINITION. Which commands an interface of the device can deliver: the lengths and ranges that the types of the
operands do not give. `exec` is defined on every command; this says which of them stand for something outside. -/
namespace Sys2Proof

/-- Every number of a list lies below `n`. -/
def allBelow (n : Nat) (l : List Nat) : Bool := l.all fun x => decide (x < n)

/-- The command can be delivered. -/
def Instr.wf : Instr → Bool
  | .hostWrite _ data => data != []
  | .hostRead _ len => decide (0 < len)
  | .ethFrameReceived _ frame _ => decide (4 ≤ frame.length)
  | .dramScrubPass ce ue => (ce ++ ue).all fun w => w.toNat % 8 == 0
  | .lmpUpdateReceived _ _ _ l => l.all fun e => e.length == 128
  | .lmpDigestReceived _ _ _ l => decide (l.length ≤ 40) && l.all fun x => decide (x.1 < 256) && decide (x.2.1 < 2 ^ 16) && decide (x.2.2 < 2 ^ 32)
  | .lmpPullReceived _ _ _ l => decide (l.length ≤ 64) && allBelow 256 l
  | .bootSlotAttempt a b _ _ _ => a.length == 320 && b.length == 320
  | .bootRecordWrite _ l => decide (1 ≤ l.length) && decide (l.length ≤ 16384)
  | .meteringSample l => l.length == 8
  | .meteringInitialCalDone l => l.length == 8
  | .wghReqFrameReceived _ l => l.all fun x => decide (x.1 < 32)
  | .wghCeilFrameReceived _ _ l => decide (l.length ≤ 30) && l.all fun x => decide (x.1 < 32)
  | _ => true

end Sys2Proof
end

