-- ==== Sys2Proof/Tests/Slice0.lean ====
section
/-! SUPPORT. Tests: for every statement a small state that meets its hypotheses, with what the step leaves of it; the ill-formed
commands that the check refuses. -/
set_option maxRecDepth 100000
set_option Elab.async false

namespace Sys2Proof.Tests
open Sys2Proof.Machine

/-- The command answers a next state whose device satisfies `p`. -/
def holds (i : Instr) (s : State) (p : Dev → Bool) : Bool :=
  match exec i s with
  | .next t => p t.dev
  | _ => false

/-- The machine of a device, out of reset. -/
def st (d : Dev) : State := { dev := d }

/-- A device whose register fields hold these values. -/
def dv (l : List (Fld × Nat × Nat)) (d : Dev := {}) : Dev := l.foldl (fun d x => d.fs x.1 x.2.2 x.2.1) d

/-- A command has started on the host port under tag 7. -/
def sent (op : Nat) (payload : List Byte) (d : Dev) : Dev :=
  { d with hst := { d.hst with outst := [{ tag := 7, op := op, payload := payload, started := true }] } }

/-- The reply that stands for tag 7 on the host port. -/
def reply (d : Dev) : Option (St × List Byte) := (d.findCmd .host 7).bind (·.done)

/-- The command of `sent` has started, is not yet executed, and carries the payload. -/
def isSent (op : Nat) (payload : List Byte) (d : Dev) : Bool := (d.startedCmd .host 7 op).map (·.payload) == some payload

/-- The numbers of the events on their way. -/
def evs (d : Dev) : List Nat := d.evt.inflight.map (·.num)

/-- The write is accepted. -/
def acc (a w : Nat) (d : Dev) : Bool := (d.regWrite .mm a w).1 == .ok

/-- On device `d` the conditions `h` hold and the command leaves `p`. -/
def ok (d : Dev) (h : Dev → Bool) (i : Instr) (p : Dev → Bool) : Bool := h d && holds i (st d) p

/-- The word of the register of field `F`, index `n`, with `v` in the field. -/
def wd (F : Fld) (n v : Nat) (d : Dev) : Nat :=
  let w := d.word (F.at n)
  w / 2 ^ (F.lo + F.len) * 2 ^ (F.lo + F.len) + v * 2 ^ F.lo + w % 2 ^ F.lo

/-! ### Clocks and time -/

/-- Locked on band 3 with a good reference. -/
def locked : Dev := dv [(CLK_REF_STAT_REF_OK, 0, 1), (CLK_PLL_STAT_LOCKED, 0, 1), (CLK_PLL_STAT_FALLBACK, 0, 0), (CLK_PLL_CTRL_EN, 0, 1),
  (CLK_PLL_STAT_PWM_HOLD, 0, 0), (CLK_TB_HI_DEGRADED, 0, 0)]

theorem wit_missingEdgeDetect : ok locked (fun _ => true) .missingEdgeDetect
    (fun t => t.fg CLK_REF_STAT_REF_OK == 0 && t.fg CLK_REF_STAT_REF_MISSING == 1 && t.fg CLK_PLL_STAT_LOL == 1 && t.fg CLK_PLL_STAT_PWM_HOLD == 1 &&
      t.fg CLK_PLL_STAT_FALLBACK == 1 && t.fg CLK_PLL_STAT_LOCKED == 0 && evs t == [122, 120]) = true := by decide

theorem wit_frequencyCount_bad : ok (dv [(CLK_REF_STAT_XT_CHECK_OFF, 0, 0)]) (fun d => !d.fb CLK_REF_STAT_XT_CHECK_OFF) (.frequencyCount 97167)
    (fun t => t.fg CLK_REF_STAT_REF_FREQ_BAD == 1 && t.fg CLK_REF_STAT_REF_OK == 0 && t.fg CLK_REF_STAT_REF_CNT == 97167) = true := by decide

theorem wit_frequencyCount : ok (dv [(CLK_REF_STAT_XT_CHECK_OFF, 0, 0)]) (fun d => !d.clk.missFired) (.frequencyCount 98144)
    (fun t => t.fg CLK_REF_STAT_REF_OK == 1 && !t.clk.missFired) = true := by decide

theorem wit_refGoodTimeout : ok (dv [(CLK_REF_STAT_XT_CHECK_OFF, 0, 1)]) (fun d => d.clk.refPresent) .refGoodTimeout
    (fun t => t.fg CLK_REF_STAT_REF_OK == 1) = true := by decide

theorem wit_referenceReturn : ok (dv [(SNS_SDCK_k_EN, 2, 1)] { clk := { refPresent := false } }) (fun _ => true) .referenceReturn
    (fun t => t.clk.refPresent && t.fg SNS_SDCK_k_RUNNING 2 == 1 && t.fg SNS_SDCK_k_RUNNING 1 == 0) = true := by decide

theorem wit_lossOfLock : ok locked (fun _ => true) .lossOfLock (fun t => t.fg CLK_PLL_STAT_LOL == 1 && t.fg CLK_PLL_STAT_PWM_HOLD == 1 &&
    t.fg CLK_TB_HI_DEGRADED == 1 && evs t == [120, 121] && t.fg CLK_PLL_STAT_LOL_CNT == 1) = true := by decide

theorem wit_pllEnable : ok {} (fun d => acc (CLK_PLL_CTRL_EN.at 0) (wd CLK_PLL_CTRL_EN 0 1 d) d && !d.fb CLK_REF_STAT_REF_OK)
    (.pllEnable .mm (BitVec.ofNat 32 (wd CLK_PLL_CTRL_EN 0 1 {})))
    (fun t => t.fg CLK_PLL_CTRL_EN == 1 && t.clk.acq == some { byEn := true, phase := .waitRef }) = true := by decide

theorem wit_pllEnable_band : ok (dv [(CLK_REF_STAT_REF_OK, 0, 1), (CLK_PLL_STAT_BAND_VALID, 0, 1), (CLK_PLL_STAT_BAND, 0, 31)])
    (fun d => acc (CLK_PLL_CTRL_EN.at 0) (wd CLK_PLL_CTRL_EN 0 1 d) d) (.pllEnable .mm (BitVec.ofNat 32 (wd CLK_PLL_CTRL_EN 0 1 {})))
    (fun t => t.fg CLK_PLL_STAT_ACQ == 1 && t.clk.acq == some { byEn := true, phase := .measLast 31 }) = true := by decide

theorem wit_pllDisable : ok locked (fun d => acc (CLK_PLL_CTRL_EN.at 0) (wd CLK_PLL_CTRL_EN 0 0 d) d)
    (.pllDisable .mm (BitVec.ofNat 32 (wd CLK_PLL_CTRL_EN 0 0 locked)))
    (fun t => t.fg CLK_PLL_CTRL_EN == 0 && t.fg CLK_PLL_STAT_PWM_HOLD == 1 && t.fg CLK_PLL_STAT_FALLBACK == 1 && t.fg CLK_PLL_STAT_LOCKED == 0) = true := by
  decide

theorem wit_bandMeasureDone : ok { clk := { acq := some { phase := .measLast 31 } } } (fun _ => true) (.bandMeasureDone 3160)
    (fun t => t.fg CLK_BAND_n_F_MEAS 31 == 3160 && t.clk.acq == some { phase := .loop 31 }) = true := by decide

theorem wit_lockDeclared : ok { clk := { acq := some { phase := .loop 31 } } } (fun _ => true) .lockDeclared
    (fun t => t.fg CLK_PLL_STAT_LOCKED == 1 && t.fg CLK_PLL_STAT_BAND == 31 && t.fg CLK_PLL_STAT_FALLBACK == 0 && !t.deg) = true := by decide

theorem wit_lockAttemptTimeout : ok { clk := { acq := some { phase := .loop 2, measured := [2] } } } (fun _ => true) .lockAttemptTimeout
    (fun t => t.fg CLK_PLL_STAT_NO_BAND == 1 && t.clk.acq == none && evs t == [121]) = true := by decide

theorem wit_pwmHoldRelease : ok (dv [(CLK_PLL_STAT_PWM_HOLD, 0, 1)] locked) (fun d => d.fb CLK_PLL_STAT_PWM_HOLD)
    (.pwmHoldRelease .mm (BitVec.ofNat 32 (2 ^ CLK_PLL_STAT_PWM_HOLD.lo))) (fun t => t.fg CLK_PLL_STAT_PWM_HOLD == 0) = true := by decide

theorem wit_pwmHoldRelease_refused : ok (dv [(CLK_PLL_STAT_PWM_HOLD, 0, 1), (CLK_PLL_STAT_FALLBACK, 0, 1)]) (fun d => d.fb CLK_PLL_STAT_FALLBACK)
    (.pwmHoldRelease .mm (BitVec.ofNat 32 (2 ^ CLK_PLL_STAT_PWM_HOLD.lo)))
    (fun t => t.fg CLK_PLL_STAT_PWM_HOLD == 1 && t.fg CLK_PLL_STAT_HOLD_CLR_REFUSED == 1) = true := by decide

theorem wit_ppsRise : ok (dv [(CLK_PTP_CTRL_PPS_EN, 0, 1), (CLK_PTP_CTRL_TIME_VALID, 0, 1)] { clk := { carried := true, ptpSec := 1 } })
    (fun d => d.justCarried) .ppsRise (fun t => t.clk.ppsHigh && t.clk.ppsRise == 10 ^ 9 * 2 ^ 28) = true := by decide

theorem wit_ppsFall : ok (dv [(CLK_PTP_CTRL_PPS_WIDTH, 0, 3)] { clk := { ppsHigh := true, ptpNs := 3000000 } }) (fun _ => true) .ppsFall
    (fun t => !t.clk.ppsHigh) = true := by decide

theorem wit_ppsFall_early : ok (dv [(CLK_PTP_CTRL_PPS_WIDTH, 0, 3)] { clk := { ppsHigh := true, ptpNs := 2999999 } }) (fun _ => true) .ppsFall
    (fun t => t.clk.ppsHigh) = true := by decide

theorem wit_snapSwCapture : ok { clk := { ticks := 5 } } (acc (CLK_SNAP_CTRL_SW.at 0) (2 ^ CLK_SNAP_CTRL_SW.lo))
    (.snapSwCapture .mm (BitVec.ofNat 32 (2 ^ CLK_SNAP_CTRL_SW.lo))) (fun t => t.clk.snapAt == [6] && !t.clk.snapUnread) = true := by decide

theorem wit_swCaptures : (
    let t := ({ clk := { ticks := 2 ^ 32 + 5, ptpNs := 999999999, ptpSec := 7, snapAt := [2 ^ 32 + 5] } } : Dev).swCaptures;
    t.fg CLK_SNAP_TB_LO_TB == 5 && t.fg CLK_SNAP_TB_HI_TB == 1 && t.fg CLK_SNAP_NS_NS == 999999999 && t.fg CLK_SNAP_SEC_LO_SEC == 7 &&
      t.clk.snapAt == []) = true := by decide

theorem wit_ptpCapEdge : ok (dv [(CLK_SNAP_CTRL_CAP_EN, 0, 1)] { clk := { snapUnread := true } }) (fun _ => true) .ptpCapEdge
    (fun t => t.fg CLK_SNAP_CTRL_OVERRUN == 1 && t.fg CLK_SNAP_CTRL_SEQ == 1) = true := by decide

theorem wit_snapNsRead : ok (dv [(CLK_SNAP_NS_NS, 0, 12)] { clk := { snapUnread := true } }) (fun _ => true) (.snapNsRead .ce)
    (fun t => !t.clk.snapUnread && t.hst.lastRead == 12) = true := by decide

theorem wit_timeTriggerFire : ok (dv [(CLK_TTRIG_n_CTRL_ARM, 3, 1), (CLK_TTRIG_n_CTRL_TARGET, 3, 0)]) (fun d => d.ttrigDue 3) (.timeTriggerFire 3)
    (fun t => t.fg CLK_TTRIG_n_CTRL_FIRED 3 == 1 && t.fg CLK_TTRIG_n_CTRL_ARM 3 == 0 && evs t == [124]) = true := by decide

theorem wit_timeTriggerFire_late : ok (dv [(CLK_TTRIG_n_CTRL_ARM, 3, 1)] { clk := { stepped := 8 } }) (fun d => d.ttrigDue 3 && d.ttrigLate 3)
    (.timeTriggerFire 3) (fun t => t.fg CLK_TTRIG_n_CTRL_LATE 3 == 1) = true := by decide

theorem wit_ptpStep : ok { clk := { ptpSec := 5 } } (fun _ => true) (.ptpStep .mm 0xFFFFFFFF)
    (fun t => t.clk.ptpSec == 5 && t.clk.ofs == some (-4294967296)) = true := by decide

theorem wit_ptpApply : (
    let d : Dev := dv [(CLK_TTRIG_n_CTRL_ARM, 0, 1), (CLK_TTRIG_n_CTRL_ARM, 1, 1), (CLK_TTRIG_n_SEC_SEC, 0, 6), (CLK_TTRIG_n_SEC_SEC, 1, 7)]
      { clk := { ptpSec := 5, ofs := some 1000000001 } };
    let t := d.ptpApply;
    (t.clk.ptpSec, t.clk.ptpNs) == (6, 1) && t.clk.stepped == 1 && t.clk.ofs == none) = true := by decide

theorem wit_refGoodTimeout_relock : ok (dv [(CLK_REF_STAT_XT_CHECK_OFF, 0, 1), (CLK_PLL_CTRL_AUTO_RELOCK, 0, 0), (CLK_PLL_STAT_BAND_VALID, 0, 1)]
    { clk := { acq := some { byEn := false, phase := .waitRef } } }) (fun d => !d.fb CLK_REF_STAT_REF_OK) .refGoodTimeout (fun t => t.clk.acq == none) = true := by
  decide

/-! ### Registers -/

/-- The address is that of a register which is no half of a pair, and the write is accepted. -/
def plain (a w : Nat) (d : Dev) : Bool :=
  a % 4 == 0 && !d.aonDead a && match findReg a with
    | some (r, n) => !Dev.writePairs.contains r.base && !Dev.writePairs.contains (r.base - 4) && (d.writeReg r n w).1 == .ok
    | none => false

theorem wit_registerWrite : ok {} (plain (HST_ID_ID.at 0) 7) (.registerWrite .mm (BitVec.ofNat 32 (HST_ID_ID.at 0)) 7) (fun t => t.fg HST_ID_ID == 7) = true := by
  decide

theorem wit_registerWrite_range : ok {} (fun d => (findReg (CLK_PTP_INC_INC.at 0)).any fun x => Dev.badEncoding x.1 0x13FAE147 && !d.authReg x.1.base 0 0)
    (.registerWrite .mm (BitVec.ofNat 32 (CLK_PTP_INC_INC.at 0)) 0x13FAE147) (fun t => t.fg CLK_PTP_INC_INC == 0x14000000) = true := by decide

theorem wit_w1cClear : ok (dv [(HST_STAT_RD_TMO, 0, 1), (HST_STAT_WR_OVF, 0, 1)]) (plain (HST_STAT_RD_TMO.at 0) 64)
    (.w1cClear .mm (BitVec.ofNat 32 (HST_STAT_RD_TMO.at 0)) 64) (fun t => t.fg HST_STAT_RD_TMO == 0 && t.fg HST_STAT_WR_OVF == 1) = true := by decide

theorem wit_aonBridgeAccess_write : ok {} (fun d => plain (AON_ALARM_SEC.at 0) 5 d && AON_ALARM_SEC.at 0 / 65536 == 0x200D)
    (.aonBridgeAccess .ce true (BitVec.ofNat 32 (AON_ALARM_SEC.at 0)) 5) (fun t => t.fg AON_ALARM_SEC == 5) = true := by decide

theorem wit_aonBridgeAccess : ok (dv [(AON_ALARM_SEC, 0, 5)]) (fun d => !d.aonDead (AON_ALARM_SEC.at 0))
    (.aonBridgeAccess .ce false (BitVec.ofNat 32 (AON_ALARM_SEC.at 0)) 0) (fun t => t.hst.lastRead == 5) = true := by decide

theorem wit_loWriteHold : ok {} (fun _ => (findReg 0x200B0108).any fun x => Dev.writePairs.contains x.1.base) (.loWriteHold .mm 0x200B0108 0x01020304)
    (fun t => t.fg NET_PORT_x_MAC_LO_MAC == 0 && (t.holdOf .mm 0x200B0108).wlo == [(0x200B0108, 0x01020304)]) = true := by decide

theorem wit_hiWriteCommit : ok (({} : Dev).holdLo .mm 0x200B0108 0x01020304) (fun _ => (findReg 0x200B010C).any fun x => Dev.writePairs.contains (x.1.base - 4))
    (.hiWriteCommit .mm 0x200B010C 0x0605) (fun t => t.fg NET_PORT_x_MAC_LO_MAC == 0x01020304 && t.fg NET_PORT_x_MAC_HI_MAC == 0x0605 &&
      (t.holdOf .mm 0x200B0108).wlo == []) = true := by decide

theorem wit_rcFieldRead : ok (dv [(CEN_SLOT_s_RUN_MAX_STEPS, 5, 9)]) (fun _ => (findReg (CEN_SLOT_s_RUN_MAX_STEPS.at 5)).any fun x => x.2 == 5 && x.1.flds.any (·.acc == .RC))
    (.rcFieldRead .mm (BitVec.ofNat 32 (CEN_SLOT_s_RUN_MAX_STEPS.at 5))) (fun t => t.fg CEN_SLOT_s_RUN_MAX_STEPS 5 == 0 && t.hst.lastRead == 9 * 2 ^ CEN_SLOT_s_RUN_MAX_STEPS.lo) = true := by
  decide

theorem wit_loReadSnapshot : ok { clk := { ticks := 0x0001FFFFFFF0, tbAdv := 0x3C } }
    (fun d => (findReg 0x20010200).any (fun x => Dev.readPairs.contains x.1.base) && (findReg 0x20010204).any (fun x => x.1.base == 0x20010204) && !d.aonDead 0x20010200)
    (.loReadSnapshot .mm 0x20010200)
    (fun t => t.hst.lastRead == 0xFFFFFFF0 && (t.holdOf .mm 0x20010200).seq == 0x3C &&
      { t with clk := { ticks := 0x000200000010 } }.readWord .mm 0x20010204 % 65536 == 1 && t.readWord .mm 0x2001FFFC == 0x3C) = true := by decide

theorem wit_hirqN : ((dv [(HST_IRQ_REPLY, 0, 1), (HST_IRQ_MASK, 0, 1)]).hirqN, (dv [(HST_IRQ_REPLY, 0, 1), (HST_IRQ_MASK, 0, 2)]).hirqN) = (false, true) := by decide

theorem wit_followerNeverMeters : ok (dv [(SYS_ROLE_PAR_MODE, 0, 2)]) (fun d => (findReg (TAL_CTRL_EN.at 0)).any fun x => !Dev.badEncoding x.1 (wd TAL_CTRL_EN 0 1 d))
    (.tallymanEnable .ce (BitVec.ofNat 32 (wd TAL_CTRL_EN 0 1 {}))) (fun t => t.fg TAL_CTRL_EN == 0) = true := by decide

/-! ### Cooper's instructions -/

/-- A word of R144: opcode, `ACC`, `XA`, `XB`, `K`, `N`. -/
def cw (op a x y k n : Nat) : BitVec 32 := BitVec.ofNat 32 (op * 2 ^ 26 + a * 2 ^ 24 + x * 2 ^ 21 + y * 2 ^ 18 + k * 2 ^ 12 + n)

/-- Slot 0 has lane 0 and executes the word `w`; `X1` holds 2.0 and `X2` 0.046875 (R141). -/
def co (w : BitVec 32) (next : BitVec 32 := 0) : Dev :=
  let d := dv [(CEN_SLOT_s_STAT_STATE, 0, 2), (CEN_SLOT_s_CFG_EN, 0, 1), (CEN_SLOT_s_LEGS_LEGS, 0, 7)]
  let x : Slot := { active := true, x := ((Vector.replicate 8 zeroW).set 1 0x40000002).set 2 0x6000003C, sb := 16, cb := 8 }
  { d with cen := { d.cen with imem := [(0, w), (1, next)], cmem := [(8, 0x40000002), (9, 0x60000004)], smem := [(16, 0x40000002)],
                               slot := d.cen.slot.set 0 x, lane := d.cen.lane.set 0 { cur := some 0 } } }

/-- Slot 0 executes `i` next. -/
def at0 (i : Ins) (d : Dev) : Bool := d.coopTurn 0 && d.coopFetch 0 == some i

/-- Accumulator `a` of slot 0. -/
def a0 (a : Nat) (d : Dev) : Accu := d.ac 0 a

/-- Accumulator 0 holds a product already: 2.0 with exponent 4. -/
def pre (d : Dev) : Dev := d.setA 0 0 ⟨false, 2 ^ 44, 4⟩

theorem wit_mac : ok (co (cw 1 0 0 0 0 0)) (fun d => at0 (.mac 0 0 0) d && (d.rdC 0 0).2.1 == 0x40000002) (.mac 0 0 0 0)
    (fun t => a0 0 t == ⟨false, 2 ^ 44, 4⟩ && (t.slot 0).pc == 1) = true := by decide

theorem wit_msu : ok (co (cw 2 0 0 0 0 0)) (fun d => at0 (.msu 0 0 0) d) (.msu 0 0 0 0)
    (fun t => a0 0 t == ⟨false, -2 ^ 44, 4⟩) = true := by decide

theorem wit_macx : ok (co (cw 3 0 1 0 0 0)) (fun d => at0 (.macx 0 1 0) d) (.macx 0 0 1 0)
    (fun t => a0 0 t == ⟨false, 2 ^ 44, 4⟩) = true := by decide

theorem wit_msux : ok (co (cw 4 0 1 0 0 0)) (fun d => at0 (.msux 0 1 0) d) (.msux 0 0 1 0)
    (fun t => a0 0 t == ⟨false, -2 ^ 44, 4⟩) = true := by decide

theorem wit_macs : ok (co (cw 5 0 1 0 0 0)) (fun d => at0 (.macs 0 1 0) d) (.macs 0 0 1 0)
    (fun t => a0 0 t == ⟨false, 2 ^ 44, 4⟩) = true := by decide

theorem wit_mulx : ok (co (cw 6 0 1 1 0 0)) (fun d => at0 (.mulx 0 1 1) d) (.mulx 0 0 1 1)
    (fun t => a0 0 t == ⟨false, 2 ^ 44, 4⟩) = true := by decide

theorem wit_addx : ok (co (cw 7 3 7 0 0 0)) (fun d => at0 (.addx 3 7) d) (.addx 0 3 7)
    (fun t => a0 3 t == ⟨false, 0, -32⟩) = true := by decide

theorem wit_subx : ok (co (cw 8 0 1 0 0 0)) (fun d => at0 (.subx 0 1) d) (.subx 0 0 1)
    (fun t => a0 0 t == ⟨false, -2 ^ 45, 2⟩) = true := by decide

theorem wit_clr : ok (pre (co (cw 9 0 0 0 0 0))) (fun d => at0 (.clr 0) d) (.clr 0 0)
    (fun t => a0 0 t == {}) = true := by decide


theorem wit_shx : ok (pre (co (cw 10 0 0 0 1 0))) (fun d => at0 (.shx 0 1) d) (.shx 0 0 1)
    (fun t => a0 0 t == ⟨false, 2 ^ 44, 5⟩) = true := by decide

theorem wit_lim : ok (pre (co (cw 11 0 0 0 0 0))) (fun d => at0 (.lim 0 0) d) (.lim 0 0 0)
    (fun t => (a0 0 t).q == ⟨2 ^ 44, 2 ^ 42⟩ && !(t.slot 0).fL) = true := by decide

theorem wit_rnd : ok (pre (co (cw 12 0 3 0 0 0))) (fun d => at0 (.rnd 3 0) d) (.rnd 0 3 0)
    (fun t => t.xr 0 3 == 0x40000003) = true := by decide

theorem wit_sta : ok (pre (co (cw 13 0 0 0 10 0))) (fun d => at0 (.sta 0 10 0) d) (.sta 0 0 10 0)
    (fun t => (t.slot 0).buf == [(16, 0x0080000A)]) = true := by decide

theorem wit_nrm : ok (pre (co (cw 14 1 0 0 32 0))) (fun d => at0 (.nrm 1 32 0) d) (.nrm 0 1 32 0)
    (fun t => (t.slot 0).buf == [(16, 0x40000003), (17, 3)]) = true := by decide


theorem wit_ldx : ok (co (cw 16 0 4 0 0 0)) (fun d => at0 (.ldx 4 0) d) (.ldx 0 4 0)
    (fun t => t.xr 0 4 == 0x40000002) = true := by decide

theorem wit_ldxc : ok (co (cw 17 0 4 0 0 1)) (fun d => at0 (.ldxc 4 1) d) (.ldxc 0 4 1)
    (fun t => t.xr 0 4 == 0x60000004) = true := by decide

theorem wit_stx : ok (co (cw 18 0 2 0 0 5)) (fun d => at0 (.stx 2 5) d) (.stx 0 2 5)
    (fun t => (t.slot 0).buf == [(21, 0x6000003C)]) = true := by decide

theorem wit_movx : ok (co (cw 19 0 0 1 0 0)) (fun d => at0 (.movx 0 1) d) (.movx 0 0 1)
    (fun t => t.xr 0 0 == 0x40000002) = true := by decide

theorem wit_dly : ok (co (cw 20 0 0 0 2 0)) (fun d => at0 (.dly 2 0) d) (.dly 0 2 0)
    (fun t => (t.slot 0).buf == [(17, 0x40000002)]) = true := by decide

theorem wit_minx : ok (co (cw 21 0 1 2 0 0)) (fun d => at0 (.minx 1 2) d) (.minx 0 1 2)
    (fun t => t.xr 0 1 == 0x6000003C) = true := by decide

theorem wit_maxx : ok (co (cw 22 0 2 1 0 0)) (fun d => at0 (.maxx 2 1) d) (.maxx 0 2 1)
    (fun t => t.xr 0 2 == 0x40000002) = true := by decide

theorem wit_lds : ok (co (cw 24 0 0 0 0 3)) (fun d => at0 (.lds 0 0 3) d) (.lds 0 0 0 3)
    (fun t => (t.slot 0).fINV && t.xr 0 0 == zeroW) = true := by decide

theorem wit_chk : ok (co (cw 26 0 1 1 0 0)) (fun d => at0 (.chk 1 1 0) d) (.chk 0 1 1 0)
    (fun t => (t.slot 0).fT) = true := by decide


theorem wit_br : ok (co (BitVec.ofNat 32 (32 * 2 ^ 26 + 2 * 2 ^ 22 + 9))) (fun d => at0 (.br 2 9) d) (.br 0 2 9)
    (fun t => (t.slot 0).pc == 9 && (t.slot 0).steps == 2) = true := by decide

theorem wit_rpt : ok (co (BitVec.ofNat 32 (33 * 2 ^ 26 + 3 * 2 ^ 16 + 17)) (cw 1 0 0 0 0 0)) (fun d => at0 (.rpt 3 1 1) d) (.rpt 0 3 1 1)
    (fun t => (t.slot 0).repLeft == some 4) = true := by decide

theorem wit_nop : ok (co (cw 62 0 0 0 0 0)) (fun d => at0 .nop d) (.nop 0)
    (fun t => (t.slot 0).pc == 1) = true := by decide

theorem wit_wsmp : ok (co (cw 25 0 0 0 1 512)) (fun d => at0 (.wsmp 1 2 0) d) (.wsmp 0 1 2 0)
    (fun t => t.fg CEN_SLOT_s_STAT_STATE 0 == 3 && (vget t.cen.lane 0).cur == none) = true := by decide

theorem wit_spec : ok (co (cw 28 0 0 0 0 0)) (fun d => at0 .spec d) (.spec 0)
    (fun t => t.inWindow 0) = true := by decide

theorem wit_illegalInstruction : ok (co 0x40) (fun d => d.coopTurn 0 && decodeCoop 0x40 == none) (.illegalInstruction 0)
    (fun t => t.fg CEN_SLOT_s_STAT_FCAUSE 0 == 1 && (evs t).contains 32 && t.fg CEN_SLOT_s_STAT_STATE 0 == 4) = true := by decide

theorem wit_slotDispatch : ok ((co 0).updLane 0 fun l => { l with cur := none }) (fun d => d.pick 0 == some 0) (.slotDispatch 0)
    (fun t => (vget t.cen.lane 0).cur == some 0) = true := by decide

theorem wit_slotTriggerTimer : ok (dv [(CEN_SLOT_s_CFG_EN, 5, 1), (CEN_SLOT_s_CFG_TRG_TYPE, 5, 2), (CEN_SLOT_s_TRG_SRC, 5, 10)] { clk := { ticks := 800 } }) (fun _ => true) (.slotTriggerTimer 5)
    (fun t => t.fg CEN_SLOT_s_STAT_STATE 5 == 2 && (t.slot 5).active && (t.slot 5).trgOrigin == 800) = true := by decide


theorem wit_tent : ok ((co (cw 29 0 1 1 0 2)).fs PWM_LEG_n_CTRL_SRC 1 2) (fun d => at0 (.tent 1 1 2) d) (.tent 0 1 1 2)
    (fun t => (t.leg 2).tent == some { a := 128, b := 128, seq := 1, slot := 0 }) = true := by decide

theorem wit_commit : ok (co (cw 30 0 0 0 0 7)) (fun d => at0 (.commit 7) d && d.legsOk 0 7) (.commit 0 7)
    (fun t => t.cen.tokens == [{ slot := 0, legs := [(0, 1, none), (1, 1, none), (2, 1, none)] }]) = true := by decide

theorem wit_cancel : ok ((co (cw 31 0 0 0 0 7)).updSlot 0 fun x => { x with spec := some [], buf := [(3, 4)] }) (fun d => at0 (.cancel 7) d) (.cancel 0 7)
    (fun t => (t.slot 0).buf == [] && (t.slot 0).spec == none) = true := by decide

theorem wit_endExec : ok ((co (cw 63 0 0 0 0 0)).updSlot 0 fun x => { x with buf := [(3, 4)] }) (fun d => at0 .stop d && !d.inWindow 0) (.endExec 0)
    (fun t => t.coopRaw 2 3 == 4 && t.fg CEN_SLOT_s_STAT_STATE 0 == 1 && t.fg CEN_SLOT_s_RUN_LAST_STEPS 0 == 2) = true := by decide

theorem wit_trc : ok ((co (cw 40 0 1 0 0 2)).setTrc 2 { running := true }) (fun d => at0 (.trc 1 2) d) (.trc 0 1 2)
    (fun t => t.fg CEN_TRC_c_WPTR_OFS 2 == 1) = true := by decide

theorem wit_trig : ok ((co (cw 41 0 0 0 0 0)).fs CEN_TRC_CTRL_ARM 1) (fun d => at0 .trig d) (.trig 0)
    (fun t => t.fg CEN_TRC_STAT_TRIGGERED == 1 && evs t == [40]) = true := by decide

theorem wit_evt : ok (co (cw 42 0 0 0 0 255)) (fun d => at0 (.evt 255) d) (.evt 0 255)
    (fun t => t.fg CEN_EVCODE_CODE == 255 && evs t == [44] && t.cen.evUnread) = true := by decide

theorem wit_gpost : ok ((co (cw 36 0 1 0 0 0)).fs CEN_GRP_g_MA_MEMB 128 3) (fun d => at0 (.gpost 1) d) (.gpost 0 1)
    (fun t => vget (vget t.cen.grp 3).cand 0 == some 0x40000002) = true := by decide

theorem wit_gsel : ok (((co (cw 37 0 1 0 0 3)).fs CEN_GRP_g_CFG_EN 1 3).fs CEN_GRP_g_CFG_SEL 0 3) (fun d => at0 (.gsel 1 3) d) (.gsel 0 1 3)
    (fun t => t.fg CEN_GRP_g_STAT_SEQ 3 == 1) = true := by decide

theorem wit_wreq : ok ((co (cw 38 0 1 0 0 31)).fs WGH_REQ_r_CFG_EN 1 31) (fun d => at0 (.wreq 1 31) d) (.wreq 0 1 31)
    (fun t => (t.rq 31).req == 20) = true := by decide


theorem wit_evt_fault : ok ((co (cw 42 0 0 0 0 255)).updSlot 0 fun x => { x with spec := some [] }) (fun d => at0 (.evt 255) d && d.inWindow 0) (.evt 0 255)
    (fun t => t.fg CEN_SLOT_s_STAT_FCAUSE 0 == 2 && (evs t).contains 32) = true := by decide

theorem wit_gpost_fault : ok ((co (cw 36 0 1 0 0 0)).updSlot 0 fun x => { x with spec := some [] }) (fun d => at0 (.gpost 1) d) (.gpost 0 1)
    (fun t => t.fg CEN_SLOT_s_STAT_FCAUSE 0 == 2) = true := by decide

theorem wit_gsel_fault : ok ((co (cw 37 0 1 0 0 3)).updSlot 0 fun x => { x with spec := some [] }) (fun d => at0 (.gsel 1 3) d) (.gsel 0 1 3)
    (fun t => t.fg CEN_SLOT_s_STAT_FCAUSE 0 == 2) = true := by decide

theorem wit_wreq_fault : ok ((co (cw 38 0 1 0 0 3)).updSlot 0 fun x => { x with spec := some [] }) (fun d => at0 (.wreq 1 3) d) (.wreq 0 1 3)
    (fun t => t.fg CEN_SLOT_s_STAT_FCAUSE 0 == 2) = true := by decide

theorem wit_ldx_fault : ok ((co (cw 16 0 1 0 0 3)).updSlot 0 fun x => { x with sb := 32765 }) (fun d => at0 (.ldx 1 3) d) (.ldx 0 1 3)
    (fun t => t.fg CEN_SLOT_s_STAT_FCAUSE 0 == 4) = true := by decide

theorem wit_ldxc_fault : ok ((co (cw 17 0 1 0 0 3)).updSlot 0 fun x => { x with cb := 8189 }) (fun d => at0 (.ldxc 1 3) d) (.ldxc 0 1 3)
    (fun t => t.fg CEN_SLOT_s_STAT_FCAUSE 0 == 4) = true := by decide

theorem wit_stx_fault : ok ((co (cw 18 0 1 0 0 3)).updSlot 0 fun x => { x with buf := (List.range 64).map fun i => (i + 100, 1) }) (fun d => at0 (.stx 1 3) d) (.stx 0 1 3)
    (fun t => t.fg CEN_SLOT_s_STAT_FCAUSE 0 == 3) = true := by decide

theorem wit_tent_fault : ok (co (cw 29 0 1 1 0 3)) (fun d => at0 (.tent 1 1 3) d) (.tent 0 1 1 3)
    (fun t => t.fg CEN_SLOT_s_STAT_FCAUSE 0 == 7) = true := by decide


theorem wit_slotEnable : ok (dv [(CEN_CTRL_EN, 0, 1)]) (fun d => !d.fb CEN_SLOT_s_CFG_EN 63 && acc (CEN_SLOT_s_CFG_EN.at 63) 0x80000000 d) (.slotEnable .mm 63 0x80000000)
    (fun t => t.fg CEN_SLOT_s_STAT_STATE 63 == 1) = true := by decide

theorem wit_slotDisable : ok (dv [(CEN_SLOT_s_CFG_EN, 0, 1), (CEN_SLOT_s_STAT_STATE, 0, 2)] (co 0)) (fun d => acc (CEN_SLOT_s_CFG_EN.at 0) 0x800000 d) (.slotDisable .mm 0 0x800000)
    (fun t => t.fg CEN_SLOT_s_STAT_STATE 0 == 0 && !(t.slot 0).active) = true := by decide

theorem wit_cooperSelftestRequest : ok ({}) (fun _ => true) (.cooperSelftestRequest .ce)
    (fun t => t.fg CEN_TEST_REQ == 1 && (vget t.cen.lane 3).testPend && (vget t.cen.lane 3).testSlot == some 0) = true := by decide

theorem wit_evcodeRead : ok (dv [(CEN_EVCODE_CODE, 0, 9)]) (fun _ => true) (.evcodeRead .ce)
    (fun t => !t.cen.evUnread && t.hst.lastRead == 9) = true := by decide

theorem wit_cooperSelftestDue : ok (dv [(CEN_CTRL_EN, 0, 1), (CEN_CTRL_ST_PER, 0, 10)]) (fun _ => true) .cooperSelftestDue
    (fun t => (vget t.cen.lane 2).testPend) = true := by decide

theorem wit_cooperSelftestComplete : ok (({} : Dev).testAsk) (fun _ => true) (.cooperSelftestComplete 3 true)
    (fun t => !(vget t.cen.lane 3).testPend && t.fg CEN_TEST_ST_SEQ == 1 && evs t == [39]) = true := by decide


theorem wit_trc_window : ok (((co (cw 40 0 1 0 0 2)).setTrc 2 { running := true }).updSlot 0 fun x => { x with spec := some [] })
    (fun d => at0 (.trc 1 2) d && d.inWindow 0) (.trc 0 1 2)
    (fun t => (spGet 0 0 (vget t.cen.trc 2).buf).getLsbD 33 && (vget t.cen.trc 2).specSlots == [0]) = true := by decide

/-! ### Cooper's commands and Scrivener -/

theorem wit_cenWrite : ok (sent 0x301 [2, 0, 0xFF, 0x7F, 1, 2, 3, 4] {}) (fun d => isSent 0x301 [2, 0, 0xFF, 0x7F, 1, 2, 3, 4] d)
    (.cenWrite .host 7) (fun t => t.coopRaw 2 32767 == 0x04030201 && reply t == some (.ok, [])) = true := by decide

theorem wit_cenRead : ok (sent 0x302 [0, 0, 0, 0, 1, 0] { cen := { imem := [(0, 0x04030201)] } }) (isSent 0x302 [0, 0, 0, 0, 1, 0])
    (.cenRead .host 7) (fun t => reply t == some (.ok, [1, 2, 3, 4])) = true := by decide

theorem wit_cenStart : ok (sent 0x303 [3, 0, 0, 0, 0, 0, 0, 0] (dv [(CEN_CTRL_EN, 0, 1)])) (isSent 0x303 [3, 0, 0, 0, 0, 0, 0, 0])
    (.cenStart .host 7) (fun t => t.fg CEN_SLOT_s_STAT_STATE 1 == 1 && reply t == some (.ok, [])) = true := by decide

theorem wit_cenStop : ok (sent 0x304 [2, 0, 0, 0, 0, 0, 0, 0] (dv [(CEN_SLOT_s_CFG_EN, 1, 1), (CEN_SLOT_s_STAT_STATE, 1, 1)]))
    (isSent 0x304 [2, 0, 0, 0, 0, 0, 0, 0]) (.cenStop .host 7)
    (fun t => t.fg CEN_SLOT_s_STAT_STATE 1 == 0 && t.fg CEN_SLOT_s_CFG_EN 1 == 0 && reply t == some (.ok, [])) = true := by decide

theorem wit_cenKick : ok (sent 0x305 [3, 0, 0, 0, 0, 0, 0, 0] (dv [(CEN_SLOT_s_CFG_EN, 1, 1), (CEN_SLOT_s_STAT_STATE, 1, 1)]))
    (isSent 0x305 [3, 0, 0, 0, 0, 0, 0, 0]) (.cenKick .host 7)
    (fun t => t.fg CEN_SLOT_s_STAT_STATE 1 == 2 && reply t == some (.ok, [2, 0, 0, 0, 0, 0, 0, 0])) = true := by decide

theorem wit_cenClear : ok (sent 0x306 [2, 0, 0, 0, 0, 0, 0, 0] (dv [(CEN_SLOT_s_STAT_FAULT, 1, 1), (CEN_SLOT_s_STAT_STATE, 1, 4)]))
    (isSent 0x306 [2, 0, 0, 0, 0, 0, 0, 0]) (.cenClear .host 7)
    (fun t => t.fg CEN_SLOT_s_STAT_STATE 1 == 0 && t.fg CEN_SLOT_s_STAT_FAULT 1 == 0 && reply t == some (.ok, [])) = true := by decide

theorem wit_cenGroup : ok (sent 0x307 [15, 2] (dv [(CEN_GRP_g_CFG_EN, 15, 1), (CEN_GRP_g_MA_MEMB, 15, 0x00000580)]))
    (isSent 0x307 [15, 2]) (.cenGroup .host 7)
    (fun t => t.fg CEN_GRP_g_MA_MEMB 15 == 0x00008500 && reply t == some (.ok, [])) = true := by decide

theorem wit_cenSelftest : ok (sent 0x309 [0] {}) (fun d => isSent 0x309 [0] d && d.idleSlot == some 0)
    (.cenSelftest .host 7) (fun t => (vget t.cen.lane 1).testSlot == some 0 && reply t == some (.ok, [0])) = true := by decide

theorem wit_scrivenerArm : ok (dv [(CEN_TRC_c_CFG_EN, 3, 1)]) (acc (CEN_TRC_CTRL_ARM.at 0) (2 ^ CEN_TRC_CTRL_ARM.lo))
    (.scrivenerArm .mm (BitVec.ofNat 32 (2 ^ CEN_TRC_CTRL_ARM.lo)))
    (fun t => (vget t.cen.trc 3).running && t.fg CEN_TRC_c_WPTR_OFS 3 == 1 && t.fg CEN_TRC_STAT_RECORDING == 1) = true := by decide

/-- Channel 2 records. -/
def trcOn : Dev := (dv [(CEN_TRC_CTRL_ARM, 0, 1)]).setTrc 2 { running := true }

theorem wit_scrivenerDisarm : ok trcOn (acc (CEN_TRC_CTRL_ARM.at 0) (wd CEN_TRC_CTRL_ARM 0 0 trcOn))
    (.scrivenerDisarm .mm (BitVec.ofNat 32 (wd CEN_TRC_CTRL_ARM 0 0 trcOn)))
    (fun t => !(vget t.cen.trc 2).running && t.fg CEN_TRC_CTRL_ARM == 0) = true := by decide

theorem wit_scrivenerSwtrig : ok trcOn (acc (CEN_TRC_CTRL_ARM.at 0) (wd CEN_TRC_CTRL_SWTRIG 0 1 trcOn))
    (.scrivenerSwtrig .mm (BitVec.ofNat 32 (wd CEN_TRC_CTRL_SWTRIG 0 1 trcOn)))
    (fun t => t.fg CEN_TRC_STAT_TRIGGERED == 1 && evs t == [40]) = true := by decide

theorem wit_scrivenerPostDone : ok ((dv [(CEN_TRC_CTRL_ARM, 0, 1)]).setTrc 2 { running := true, postLeft := some 0 }) (fun _ => true)
    (.scrivenerPostDone 2) (fun t => t.fg CEN_TRC_STAT_DONE == 1 && evs t == [41] && !(vget t.cen.trc 2).running) = true := by decide

theorem wit_scrivenerTsWrap : ok (Dev.setTrc { clk := { ticks := 2 ^ 33 } } 2 { running := true }) (fun d => d.trcTs == 0)
    .scrivenerTsWrap (fun t => spGet 0 0 (vget t.cen.trc 2).buf == 0x0000010140000000) = true := by decide

theorem wit_trcArm : ok (sent 0xB01 [] (dv [(CEN_TRC_c_CFG_EN, 0, 1)])) (isSent 0xB01 []) (.trcArm .host 7)
    (fun t => t.fg CEN_TRC_CTRL_ARM == 1 && reply t == some (.ok, [])) = true := by decide

theorem wit_trcTrigger : ok (sent 0xB02 [] (dv [(CEN_TRC_CTRL_ARM, 0, 1)])) (isSent 0xB02 []) (.trcTrigger .host 7)
    (fun t => evs t == [40] && reply t == some (.ok, [])) = true := by decide

theorem wit_trcRead : ok (sent 0xB03 [3, 0, 0xFF, 0x3F, 1, 0] {}) (isSent 0xB03 [3, 0, 0xFF, 0x3F, 1, 0]) (.trcRead .host 7)
    (fun t => reply t == some (.ok, [0, 0, 0, 0, 0, 0, 0, 0])) = true := by decide

theorem wit_trcStop : ok (sent 0xB04 [] (dv [(CEN_TRC_CTRL_ARM, 0, 1)])) (isSent 0xB04 []) (.trcStop .host 7)
    (fun t => t.fg CEN_TRC_CTRL_ARM == 0 && reply t == some (.ok, [])) = true := by decide

/-! ### The PWM unit and the trip logic -/

/-- A device whose leg 23 in group 7 is enabled and runs, with hidden state `x`. -/
def lg (x : Leg) (g : CGrp := { next := 5000 }) : Dev := ({ (dv [(PWM_LEG_n_CTRL_EN, 23, 1), (PWM_LEG_n_STAT_RUN, 23, 1), (PWM_LEG_n_CTRL_CGRP, 23, 7),
  (PWM_CG_g_CFG_RUN, 7, 1), (CLK_PLL_STAT_PWM_HOLD, 0, 0), (CLK_PLL_STAT_FALLBACK, 0, 0)])
    with clk := { ticks := 5000 } } : Dev).updLeg 23 (fun _ => x) |>.updCg 7 fun _ => g

theorem wit_carrierGroupRun : ok (dv [(CLK_PLL_STAT_PWM_HOLD, 0, 0)]) (fun d => acc (PWM_CG_g_CFG_RUN.at 7) (wd PWM_CG_g_CFG_RUN 7 1 d) d)
    (.carrierGroupRun .mm 7 (BitVec.ofNat 32 (wd PWM_CG_g_CFG_RUN 7 1 {}))) (fun t => t.fg PWM_CG_g_CFG_RUN 7 == 1 && t.cgRuns 7) = true := by decide

theorem wit_carrierGroupRun_wait : ok (dv [(CLK_PLL_STAT_PWM_HOLD, 0, 0), (PWM_CG_g_CFG_TT_START, 7, 1)])
    (fun d => acc (PWM_CG_g_CFG_RUN.at 7) (wd PWM_CG_g_CFG_RUN 7 1 d) d)
    (.carrierGroupRun .mm 7 (BitVec.ofNat 32 (wd PWM_CG_g_CFG_RUN 7 1 (dv [(PWM_CG_g_CFG_TT_START, 7, 1)]))))
    (fun t => t.fg PWM_CG_g_CNT_WAIT 7 == 1 && !t.cgRuns 7) = true := by decide

theorem wit_carrierStart : ok (lg {}) (fun d => (d.cgRoll 7).cgRuns (d.legGrp 23) && (d.cgRoll 7).csNext 23 == 5000 && d.fb PWM_LEG_n_CTRL_EN 23 &&
    !(d.leg 23).stopAtStart) (.carrierStart 23) (fun t => t.fg PWM_LEG_n_STAT_RUN 23 == 1 && (t.leg 23).cL && (vget t.pwm.cg 7).start == 5000 &&
      t.fg PWM_LEG_n_LPS_LP_SEQ 23 == 1) = true := by
  decide

theorem wit_carrierStart_load : ok ((lg { shAt := 4983 }).fs PWM_LEG_n_LPS_SH_PEND 1 23 |>.fs PWM_LEG_n_CMPA_CMP 0x3FFFFFF 23) (fun d => (d.leg 23).shAt + 16 < d.clk.ticks)
    (.carrierStart 23) (fun t => (t.leg 23).cmpA == 0x3FFFFFF && t.fg PWM_LEG_n_LPS_SH_PEND 23 == 0) = true := by decide

theorem wit_carrierStart_held : ok ((lg { shAt := 4984 }).fs PWM_LEG_n_LPS_SH_PEND 1 23 |>.fs PWM_LEG_n_CMPA_CMP 0x3FFFFFF 23) (fun d => d.clk.ticks ≤ (d.leg 23).shAt + 16)
    (.carrierStart 23) (fun t => (t.leg 23).cmpA == 0 && t.fg PWM_LEG_n_LPS_SH_PEND 23 == 1) = true := by decide

theorem wit_carrierStart_early : ok (lg {} { next := 5001 }) (fun d => (d.cgRoll 7).csNext 23 != d.clk.ticks) (.carrierStart 23)
    (fun t => t.fg PWM_LEG_n_LPS_LP_SEQ 23 == 0 && !(vget t.pwm.cg 7).on) = true := by decide

theorem wit_cgRoll : (
    let d := (lg {}).cgRoll 7;
    (vget d.pwm.cg 7).next == 5000 + d.cgTicks 7 (d.fg PWM_CG_g_PER_PER 7) && (vget d.pwm.cg 7).start == 5000) = true := by
  decide

theorem wit_sendMark : (
    let d := ({ (lg {}) with clk := { ticks := 5000, refPresent := true } } : Dev).fs SYS_ROLE_PAR_MODE 1 |>.fs PWM_ALIGN_CTRL_EN 1 |>.fs PWM_ALIGN_CTRL_CG_MASK 0x80 |>.fs NQL_LANE_l_STAT_STATE 5;
    d.laneUp 0 && !d.laneUp 1 && d.cgAligned 7 && (d.sendMark 7).tx.length == 1) = true := by decide

theorem wit_carrierStart_stop : ok (lg { stopAtStart := true }) (fun d => d.cgRuns (d.legGrp 23) && (d.leg 23).stopAtStart) (.carrierStart 23)
    (fun t => t.fg PWM_LEG_n_CTRL_EN 23 == 0 && t.fg PWM_LEG_n_STAT_RUN 23 == 0) = true := by decide

theorem wit_carrierStart_off : ok (dv [(PWM_CG_g_CFG_RUN, 0, 1), (TRP_LEG_n_STAT_STATE, 0, 1), (SYS_IOBANK_BANK_0, 0, 1), (SYS_IOBANK_BANK_1, 0, 1),
    (TRP_CLS_k_HOLDOFF, 0, 0)] ({ clk := { ticks := 5 } } : Dev) |>.updCg 0 fun _ => { next := 5 }) (fun d => (d.cgRoll 0).csNext 0 == 5 && d.cgRuns (d.legGrp 0) && !d.fb PWM_LEG_n_CTRL_EN 0) (.carrierStart 0)
    (fun t => t.fg TRP_LEG_n_STAT_STATE 0 == 0 && evs t == [5]) = true := by decide

theorem wit_carrierCentre : ok ((lg { cmpA := 3, shAt := 4983, mid := true, at_ := 4000, cyc := { ud := true, base := 64000 } }).fs PWM_LEG_n_LPS_SH_PEND 1 23 |>.fs PWM_LEG_n_CTRL_LOAD 2 23)
    (fun d => d.fb PWM_LEG_n_CTRL_EN 23 && (d.leg 23).mid && d.centreAt 23 == d.clk.ticks && d.cgRuns (d.legGrp 23)) (.carrierCentre 23)
    (fun t => (t.leg 23).cmpA == t.fg PWM_LEG_n_CMPA_CMP 23 && t.fg PWM_LEG_n_LPS_SH_PEND 23 == 0 && t.fg PWM_LEG_n_LPS_LP_SEQ 23 == 1) = true := by decide

theorem wit_commitCutoff : ok (lg {} { next := 5016 }) (fun d => d.fb PWM_LEG_n_CTRL_EN 23 && d.pastCutoff 23) (.commitCutoff 23)
    (fun t => (t.leg 23).cutoff) = true := by decide

theorem wit_commitCutoff_early : ok (lg {} { next := 5017 }) (fun d => !d.pastCutoff 23) (.commitCutoff 23) (fun t => !(t.leg 23).cutoff) = true := by decide

theorem wit_judge : ok (lg { expected := [(63, 0)] }) (fun _ => true) (.carrierStart 23)
    (fun t => t.fg PWM_LEG_n_STAT_COMMIT_MISS 23 == 1 && evs t == [34] && t.fg CEN_SLOT_s_STAT_MISS_CNT 63 == 1) = true := by decide

/-- A token of slot 9 for leg 23 aimed at load point `q`. -/
def tk (q : Nat) (next : Nat := 5017) : Dev := let d := (lg { expected := [(9, 0)] } { next := next }).fs PWM_LEG_n_CTRL_SRC 1 23
  { d with cen := { d.cen with tokens := [{ slot := 9, legs := [(23, q, some { slot := 9, seq := 1, a := 4, b := 5 })] }] } }

theorem wit_commitTokenArrival : ok (tk 1) (fun d => d.nextLp 23 == 1 && !d.pastCutoff 23) .commitTokenArrival
    (fun t => t.cen.tokens == [] && (t.leg 23).expected == [] && ((t.leg 23).comm.map (·.a)) == some 4 && (t.leg 23).lastA == 4) = true := by decide

theorem wit_commitTokenArrival_cutoff : ok (tk 1 5016) (fun d => d.nextLp 23 == 1 && d.pastCutoff 23) .commitTokenArrival
    (fun t => t.fg PWM_LEG_n_STAT_COMMIT_LATE 23 == 1 && evs t == [34] && (t.leg 23).comm == none) = true := by decide

theorem wit_commitTokenArrival_late : ok (tk 0) (fun d => d.nextLp 23 == 1) .commitTokenArrival
    (fun t => t.fg PWM_LEG_n_STAT_COMMIT_LATE 23 == 1 && evs t == [34] && (t.leg 23).comm == none && t.fg CEN_SLOT_s_STAT_MISS_CNT 9 == 1) = true := by
  decide

theorem wit_shadowWrite : ok (lg { cmpA := 3 }) (acc (PWM_LEG_n_CMPA_CMP.at 23) 0x3FFFFFF) (.shadowWrite .mm 23 false 0x3FFFFFF)
    (fun t => t.fg PWM_LEG_n_CMPA_CMP 23 == 0x3FFFFFF && t.fg PWM_LEG_n_LPS_SH_PEND 23 == 1 && (t.leg 23).cmpA == 3) = true := by decide

theorem wit_shadowWrite_refused : ok ((lg {}).fs PWM_LEG_n_CTRL_SRC 1 23) (fun d => d.fb PWM_LEG_n_CTRL_SRC 23) (.shadowWrite .mm 23 true 5)
    (fun t => t.fg PWM_LEG_n_LPS_SH_PEND 23 == 0) = true := by decide

theorem wit_shlockWrite : ok {} (acc (PWM_SHLOCK_LOCK.at 0) 0x800001) (.shlockWrite .mm 0x800001) (fun t => t.fg PWM_SHLOCK_LOCK == 0x800001) = true := by
  decide

theorem wit_shlockWrite_clear : ok ((lg {}).fs PWM_SHLOCK_LOCK 0x800000) (fun d => d.fbit PWM_SHLOCK_LOCK 23) (.shlockWrite .mm 0)
    (fun t => (t.leg 23).shAt == 5000 && (t.leg 22).shAt == 0) = true := by decide

theorem wit_compareEdge_rise : ok (lg { rise := true, fall := true, at_ := 4000, cyc := { riseQ := 64063 } }) (fun d => (d.leg 23).rise) (.compareEdge 23 true)
    (fun t => (t.leg 23).r && (t.leg 23).cH && (t.leg 23).fall) = true := by decide

theorem wit_compareEdge_early : ok (lg { rise := true, fall := true, at_ := 4000, cyc := { riseQ := 64064 } }) (fun d => (d.leg 23).rise) (.compareEdge 23 true)
    (fun t => !(t.leg 23).r && (t.leg 23).rise) = true := by decide

theorem wit_compareEdge_fall : ok (lg { r := true, fall := true, at_ := 4000, cyc := { fallQ := 64000 } }) (fun d => (d.leg 23).fall) (.compareEdge 23 false)
    (fun t => !(t.leg 23).r && (t.leg 23).cL && !(t.leg 23).cH) = true := by decide

theorem wit_deadTimeExpiry : ok (lg { r := true, cH := true, onH := true, fellL := 294463, dtH := 400 })
    (fun d => d.commands 23 == (true, false) && !d.overlaid 23 && decide ((d.leg 23).fellL + 64 * d.deadH 23 < 64 * (d.clk.ticks + 1))) (.deadTimeExpiry 23)
    (fun t => (t.leg 23).outH && !(t.leg 23).onH && (t.leg 23).roseH == 320063) = true := by decide

theorem wit_deadTimeExpiry_early : ok (lg { r := true, cH := true, onH := true, fellL := 294464, dtH := 400 }) (fun _ => true) (.deadTimeExpiry 23)
    (fun t => !(t.leg 23).outH && (t.leg 23).onH) = true := by decide

theorem wit_delayLineCalibration : ok ((lg {}).fs PWM_DLCAL_TRIM 253) (fun d => !d.fb CLK_PLL_STAT_FALLBACK) (.delayLineCalibration (-2) 1)
    (fun t => t.fg PWM_DLCAL_TRIM == 254 && t.fgS PWM_DLCAL_DL_ERR == -2 && t.fg PWM_DLCAL_CAL_OK == 1 && t.fg PWM_DLCAL_CAL_SEQ == 1) = true := by decide

theorem wit_delayLineCalibration_fault : ok (lg {}) (fun d => !d.fb CLK_PLL_STAT_FALLBACK) (.delayLineCalibration 3 0)
    (fun t => t.fg PWM_DLCAL_CAL_OK == 0 && t.fg PWM_DLCAL_DL_FAULT == 1 && evs t == [9]) = true := by decide

theorem wit_forceWrite : ok (lg {}) (acc (PWM_FORCE_g_H_CODE.at 7) (wd PWM_FORCE_g_H_CODE 7 2 {})) (.forceWrite .mm 7 (BitVec.ofNat 32 (wd PWM_FORCE_g_H_CODE 7 2 {})))
    (fun t => t.fg PWM_FORCE_g_H_CODE 7 == 2 && vget t.pwm.forceTf 7 == some 5008) = true := by decide

theorem wit_forceTakesEffect : ok (let d := ((lg {}).fs PWM_LEG_n_CTRL_FGRP 7 23).fs PWM_FORCE_g_H_CODE 2 7
      { d with pwm := { d.pwm with forceTf := vset d.pwm.forceTf 7 (some 5000) } }) (fun d => vget d.pwm.forceTf 7 == some 5000 && d.clk.ticks == 5000)
    (.forceTakesEffect (some 7)) (fun t => (t.leg 23).fH == 2 && vget t.pwm.forceTf 7 == none && t.fg PWM_LEG_n_STAT_ILK_CNT 23 == 1) = true := by decide

/-- Leg 23 is off and may start. -/
def idleLeg : Dev := (lg {}).legHalt 23

theorem wit_legStart : ok idleLeg (fun d => acc (PWM_LEG_n_CTRL_EN.at 23) (wd PWM_LEG_n_CTRL_EN 23 1 d) d)
    (.legStart .mm 23 (BitVec.ofNat 32 (wd PWM_LEG_n_CTRL_EN 23 1 idleLeg)))
    (fun t => t.fg PWM_LEG_n_CTRL_EN 23 == 1 && (t.leg 23).starting && t.fg PWM_LEG_n_STAT_RUN 23 == 0) = true := by decide

theorem wit_legStart_src : (((idleLeg.updLeg 23 fun x => { x with lastA := 4, cmpA := 9 }).fs PWM_LEG_n_CTRL_SRC 1 23).legStart 23 |>.leg 23).cmpA = 4 := by decide

theorem wit_legStart_held : ok (idleLeg.fs CLK_PLL_STAT_PWM_HOLD 1) (fun d => d.fb CLK_PLL_STAT_PWM_HOLD)
    (.legStart .mm 23 (BitVec.ofNat 32 (wd PWM_LEG_n_CTRL_EN 23 1 idleLeg))) (fun t => t.fg PWM_LEG_n_CTRL_EN 23 == 0) = true := by decide

theorem wit_legStop : ok (lg { r := true, cH := true, outH := true }) (fun d => acc (PWM_LEG_n_CTRL_EN.at 23) (wd PWM_LEG_n_CTRL_EN 23 0 d) d)
    (.legStop .mm 23 (BitVec.ofNat 32 (wd PWM_LEG_n_CTRL_EN 23 0 (lg {}))))
    (fun t => t.fg PWM_LEG_n_CTRL_EN 23 == 0 && t.fg PWM_LEG_n_STAT_RUN 23 == 0 && !(t.leg 23).cH && !(t.leg 23).outH) = true := by decide

/-- A follower with group 7 aligned with its leader. -/
def follower (al : Nat) (g : CGrp := { on := true, start := 4000, next := 9000, noMark := 1 }) : Dev := (lg {} g).fs SYS_ROLE_PAR_MODE 2 |>.fs PWM_ALIGN_CTRL_EN 1 |>.fs PWM_ALIGN_CTRL_CG_MASK 0x80 |>.fs PWM_ALIGN_STAT_ALIGNED al
  |>.fs PWM_ALIGN_CTRL_STEP 8

theorem wit_markerReceived : ok (follower 0) (fun d => d.cgAligned 7 && d.cgRuns 7 && (vget (d.cgRoll 7).pwm.cg 7).on) (.markerReceived ⟨0, 7, 0⟩ (-32767))
    (fun t => t.fgS PWM_ALIGN_STAT_OFFSET == -32767 && (vget t.pwm.cg 7).next == 9008 && (vget t.pwm.cg 7).noMark == 0) = true := by decide

theorem wit_markerReceived_forward : (
    let d := ({ (lg {}) with clk := { ticks := 5000, refPresent := true } } : Dev).fs NQL_LANE_l_STAT_STATE 5 0 |>.fs NQL_LANE_l_STAT_STATE 5 1 |>.fs PWM_CG_g_CFG_RUN 0 7;
    d.laneUp 0 && d.laneUp 1 && !d.cgRuns 7 && (markerDev ⟨0, 7, 5⟩ 0 d).tx.length == 1) = true := by decide

theorem wit_markerReceived_loss : ok (follower 1) (fun d => d.fb PWM_ALIGN_STAT_ALIGNED && decide (d.fg PWM_ALIGN_CTRL_LOSS_WIN * 512 < 32767))
    (.markerReceived ⟨0, 7, 0⟩ 32767) (fun t => t.fg PWM_ALIGN_STAT_ALIGNED == 0 && t.fg PWM_ALIGN_STAT_LOST == 1 && evs t == [10]) = true := by decide

theorem wit_markerTimeout_none : ok ((follower 1 { on := true, next := 9000, noMark := 2 }).fs PWM_ALIGN_CTRL_LOSS_PER 2)
    (fun d => d.fb PWM_ALIGN_STAT_ALIGNED && !d.cgRollAll.markerLost) .markerTimeout (fun t => t.fg PWM_ALIGN_STAT_LOST == 0) = true := by decide

theorem wit_markerTimeout : ok ((follower 1 { on := true, next := 9000, noMark := 3 }).fs PWM_ALIGN_CTRL_LOSS_ACT 1 |>.fs PWM_ALIGN_CTRL_LOSS_PER 2)
    (fun d => d.fb PWM_ALIGN_STAT_ALIGNED && d.cgRollAll.markerLost) .markerTimeout
    (fun t => t.fg PWM_ALIGN_STAT_LOST == 1 && evs t == [10] && (t.leg 23).stopAtStart) = true := by decide

theorem wit_pwmStart : ok (sent 0x101 [0, 0, 0x80, 0] idleLeg) (fun d => isSent 0x101 [0, 0, 0x80, 0] d && d.canStart 23 7) (.pwmStart .host 7)
    (fun t => t.fg PWM_LEG_n_CTRL_EN 23 == 1 && reply t == some (.ok, [])) = true := by decide

theorem wit_pwmStart_refused : ok (sent 0x101 [1, 0, 0x80, 0] idleLeg) (fun d => isSent 0x101 [1, 0, 0x80, 0] d && !d.canStart 0 0) (.pwmStart .host 7)
    (fun t => t.fg PWM_LEG_n_CTRL_EN 23 == 0 && reply t == some (.state, [])) = true := by decide

theorem wit_pwmStop : ok (sent 0x102 [0, 0, 0x80, 0] (lg {})) (isSent 0x102 [0, 0, 0x80, 0]) (.pwmStop .host 7)
    (fun t => t.fg PWM_LEG_n_CTRL_EN 23 == 0 && reply t == some (.ok, [])) = true := by decide

theorem wit_pwmForce : ok (sent 0x103 [7, 6] (lg {})) (isSent 0x103 [7, 6]) (.pwmForce .host 7)
    (fun t => t.fg PWM_FORCE_g_H_CODE 7 == 2 && t.fg PWM_FORCE_g_L_CODE 7 == 1 && reply t == some (.ok, [0x90, 0x13, 0, 0, 0, 0])) = true := by decide

theorem wit_pwmSet : ok (sent 0x104 [0, 0, 0x80, 0, 0xFF, 0xFF, 0xFF, 3, 1, 0, 0, 0] (lg {})) (isSent 0x104 [0, 0, 0x80, 0, 0xFF, 0xFF, 0xFF, 3, 1, 0, 0, 0])
    (.pwmSet .host 7) (fun t => t.fg PWM_LEG_n_CMPA_CMP 23 == 0x3FFFFFF && t.fg PWM_LEG_n_CMPB_CMP 23 == 1 && reply t == some (.ok, [])) = true := by decide

/-- Leg 23 has tripped; its sources are gone and both banks are valid. -/
def tripped (st : Nat) : Dev := dv [(TRP_LEG_n_STAT_STATE, 23, st), (SYS_IOBANK_BANK_0, 0, 1), (SYS_IOBANK_BANK_1, 0, 1), (CLK_PLL_STAT_PWM_HOLD, 0, 0),
  (TRP_CLS_k_HOLDOFF, 0, 0)]

theorem wit_trpClear : ok (sent 0x142 [0, 0, 0x80, 0] (tripped 2)) (isSent 0x142 [0, 0, 0x80, 0]) (.trpClear .host 7)
    (fun t => t.fg TRP_LEG_n_STAT_STATE 23 == 0 && reply t == some (.ok, [])) = true := by decide

theorem wit_trpSoft : ok (sent 0x143 [0, 0, 0x80, 0] (tripped 0)) (isSent 0x143 [0, 0, 0x80, 0]) (.trpSoft .host 7)
    (fun t => t.fg TRP_LEG_n_STAT_STATE 23 == 2 && t.fg TRP_LEG_n_STAT_CAUSE 23 == 0x30 && reply t == some (.ok, [])) = true := by decide

theorem wit_tripInputFiltered : ok (tripped 0 |>.fs TRP_IN_n_CFG_EN 1 5 |>.fs TRP_IN_n_CFG_LEG 23 5 |>.fs TRP_IN_n_CFG_POL 1 5)
    (fun d => !d.fbit TRP_IN_STAT_ACT 5 && d.fb TRP_IN_n_CFG_POL 5) (.tripInputFiltered 5 false)
    (fun t => t.fbit TRP_IN_STAT_ACT 5 && t.fbit TRP_IN_SEEN_SEEN 5 && t.fg TRP_LEG_n_STAT_CAUSE 23 == 5 && t.fg TRP_LEG_n_STAT_STATE 23 != 0) = true := by
  decide

theorem wit_blankingEnd : ok { trp := { blank := [(3, 0), (4, 0)] } } (fun d => !d.fbit TRP_IN_STAT_ACT 4) (.blankingEnd 4) (fun t => t.trp.blank == [(3, 0)]) = true := by
  decide

theorem wit_blankingEnd_early : ok { trp := { blank := [(4, 1)] } } (fun _ => true) (.blankingEnd 4) (fun t => t.trp.blank == [(4, 1)]) = true := by decide

theorem wit_blankingEnd_active : ok (dv [(TRP_IN_STAT_ACT, 0, 0x10), (TRP_IN_n_CFG_EN, 4, 1), (TRP_IN_n_CFG_LEG, 4, 2)] { trp := { blank := [(4, 0)] } })
    (fun d => d.fbit TRP_IN_STAT_ACT 4) (.blankingEnd 4) (fun t => t.fg TRP_LEG_n_STAT_BLANK_FLT 2 == 1 && (evs t).head? == some 13) = true := by decide

theorem wit_tripSafeState : ok ((tripped 2).updTLeg 23 fun x => { x with react := some { low := true } }) (fun d => d.trp.offWait == []) (.tripSafeState 23)
    (fun t => (t.tleg 23).overlay && (t.tleg 23).react == none) = true := by decide

theorem wit_tripSafeState_early : ok ((tripped 2).updTLeg 23 fun x => { x with react := some { low := true, until_ := 1 } }) (fun _ => true) (.tripSafeState 23)
    (fun t => !(t.tleg 23).overlay) = true := by decide

theorem wit_holdoffExpiry : ok (tripped 1) (fun d => !d.cgRuns (d.legGrp 23) && !d.srcActive 23 false && !d.offPending 23) (.holdoffExpiry 23)
    (fun t => t.fg TRP_LEG_n_STAT_STATE 23 == 0 && evs t == [5]) = true := by decide

theorem wit_tripClearWrite : ok (tripped 2) (fun d => (d.clearLegs 0x800000).1) (.tripClearWrite .mm 0x800000)
    (fun t => t.fg TRP_LEG_n_STAT_STATE 23 == 0 && t.fg TRP_STAT_CLR_REFUSED == 0) = true := by decide

theorem wit_tripClearWrite_refused : ok ((tripped 2).fs SYS_IOBANK_BANK_1 3) (fun d => !(d.clearLegs 0x800000).1) (.tripClearWrite .mm 0x800000)
    (fun t => t.fg TRP_LEG_n_STAT_STATE 23 == 2 && t.fg TRP_STAT_CLR_REFUSED == 1 && evs t == [3]) = true := by decide

theorem wit_softwareTripWrite : ok (tripped 0) (fun _ => true) (.softwareTripWrite .mm 0x800000)
    (fun t => t.fg TRP_LEG_n_STAT_STATE 23 == 2 && t.fg TRP_LEG_n_STAT_CAUSE 23 == 0x30 && evs t == [0]) = true := by decide

theorem wit_tripClassWrite : ok ((tripped 0).updTLeg 23 fun x => { x with occ := [1] }) (fun d => acc (TRP_CLS_k_LIMIT.at 0) (wd TRP_CLS_k_LIMIT 0 3 d) d)
    (.tripClassWrite .mm 0 (BitVec.ofNat 32 (wd TRP_CLS_k_LIMIT 0 3 (tripped 0)))) (fun t => t.fg TRP_CLS_k_LIMIT 0 == 3 && (t.tleg 23).occ == []) = true := by decide

/-! ### Sensing -/

/-- Input 23 runs on clock 3 with both filters at their smallest ratio. -/
def sdOn (x : SdIn) : Dev := (dv [(SNS_SDCK_k_EN, 3, 1), (SNS_SDCK_k_RUNNING, 3, 1), (SNS_SD_n_CFG_CLK_SEL, 23, 3), (SNS_SD_n_CFG_EN, 23, 1),
  (SNS_SD_n_CFG_RUN, 23, 1), (SNS_SD_n_FILT_CF_EN, 23, 1), (SNS_SD_n_FILT_CF_OSR, 23, 1), (SNS_SD_n_FILT_PF_EN, 23, 1), (SNS_SD_n_FILT_PF_ORD, 23, 2),
  (SNS_SD_n_FILT_PF_OSR, 23, 1), (CLK_PLL_STAT_FALLBACK, 0, 0)]).updSd 23 fun _ => x

theorem wit_sdckStart : ok {} (fun d => acc (SNS_SDCK_k_EN.at 3) (wd SNS_SDCK_k_EN 3 1 d) d) (.sdckStart .mm 3 (BitVec.ofNat 32 (wd SNS_SDCK_k_EN 3 1 {})))
    (fun t => t.fg SNS_SDCK_k_EN 3 == 1 && t.fg SNS_SDCK_k_RUNNING 3 == 1) = true := by decide

theorem wit_sdckStop : ok (dv [(SNS_SDCK_k_EN, 3, 1), (SNS_SDCK_k_RUNNING, 3, 1)]) (fun d => acc (SNS_SDCK_k_EN.at 3) (wd SNS_SDCK_k_EN 3 0 d) d)
    (.sdckStop .mm 3 (BitVec.ofNat 32 (wd SNS_SDCK_k_EN 3 0 {}))) (fun t => t.fg SNS_SDCK_k_EN 3 == 0 && t.fg SNS_SDCK_k_RUNNING 3 == 0) = true := by decide

theorem wit_inputStuck : ok ((sdOn {}).fs SYS_FCLS_k_LIMIT 2 0) (fun d => d.sdRuns 23 && d.fb SNS_SD_n_CFG_RUN 23) (.inputStuck 23)
    (fun t => t.fg SNS_SD_n_STAT_STUCK 23 == 1 && t.fg SNS_SD_n_STAT_STUCK_CNT 23 == 1 && evs t == [16]) = true := by decide

theorem wit_inputStuck_lasting : ok ((sdOn {}).fs SYS_FCLS_k_LIMIT 1 0) (fun d => d.sdRuns 23) (.inputStuck 23)
    (fun t => t.fg SNS_SD_n_STAT_LATCHED 23 == 1 && evs t == [16, 17]) = true := by decide

theorem wit_stuckRecovered : ok ((sdOn {}).fs SNS_SD_n_STAT_STUCK 1 23) (fun d => d.sdRuns 23) (.stuckRecovered 23)
    (fun t => t.fg SNS_SD_n_STAT_STUCK 23 == 0) = true := by decide

/-- Input 23 with its control filter off and realigning. -/
def sdIdle : Dev := (((sdOn { realignLeft := 2 }).fs SNS_SD_n_FILT_CF_EN 0 23).fs SNS_SD_n_FILT_CF_OSR 31 23).fs SNS_SD_n_FILT_PF_OSR 7 23

theorem wit_controlFilterRestart : ok sdIdle (fun d => acc (SNS_SD_n_FILT_CF_EN.at 23) (wd SNS_SD_n_FILT_CF_EN 23 1 d) d)
    (.controlFilterRestart .mm 23 (BitVec.ofNat 32 (wd SNS_SD_n_FILT_CF_EN 23 1 sdIdle)))
    (fun t => (vget t.sns.sd 23).fillLeft == 3 && (vget t.sns.sd 23).realignLeft == 0 &&
      (vget t.sns.sd 23).nextDec == 32 * 8 * t.fg SNS_SDCK_k_DIV 3) = true := by decide

theorem wit_controlFilterDecimation_early : ok (sdOn { nextDec := 1 }) (fun d => d.sdRuns 23) (.controlFilterDecimation 23 [true, true, true, true])
    (fun t => t.fg SNS_CF_n_HI_SEQ 23 == 0) = true := by decide

theorem wit_controlFilterDecimation : ok (sdOn {}) (fun d => d.sdRuns 23 && d.cfOsr 23 == 2 && !d.stuckHolds 23 && d.due 0)
    (.controlFilterDecimation 23 [true, true, true, true]) (fun t => t.fgS SNS_CF_n_LO_VAL 23 == 0x7FFFFF && t.fg SNS_CF_n_HI_SAT 23 == 1 &&
      t.fg SNS_CF_n_HI_SEQ 23 == 1 && t.fg SNS_CF_n_HI_INVALID 23 == 0) = true := by decide

/-- Comparator 15 watches input 23 above `hi`. -/
def cmpOn (hi out : Nat) : Dev := dv [(SNS_CMP_m_CFG_EN, 15, 1), (SNS_CMP_m_CFG_SRC, 15, 23), (SNS_CMP_m_CFG_MODE, 15, 1), (SNS_CMP_m_LIM_HI, 15, hi),
  (SNS_CMP_m_CFG_HYST, 15, 5), (SNS_CMP_STAT_OUT, 0, out)] (sdOn {})

theorem wit_protValue : ok (sdOn {}) (fun d => d.bitDue 23) (.comparatorAssert 23 [true, true, false]) (fun t => t.fg SNS_PF_n_VAL 23 == 0x4000 && evs t == []) = true := by
  decide

theorem wit_comparatorAssert : ok (cmpOn 0x3FFF 0) (fun d => d.bitDue 23 && protVal (d.fg SNS_SD_n_FILT_PF_OSR 23 + 1) (d.fg SNS_SD_n_FILT_PF_ORD 23) [true, true, false] == 0x4000)
    (.comparatorAssert 23 [true, true, false]) (fun t => t.fg SNS_CMP_STAT_OUT == 0x8000 && t.fg SNS_CMP_STAT_SEEN == 0x8000 && evs t == [19]) = true := by decide

theorem wit_comparatorAssert_equal : ok (cmpOn 0x4000 0) (fun _ => true) (.comparatorAssert 23 [true, true, false])
    (fun t => t.fg SNS_CMP_STAT_OUT == 0 && evs t == []) = true := by decide

theorem wit_comparatorDeassert : ok (cmpOn 0x4005 0x8000) (fun d => d.fbit SNS_CMP_STAT_OUT 15 && !d.cmpHeld 15) (.comparatorDeassert 23 [true, true, false])
    (fun t => t.fg SNS_CMP_STAT_OUT == 0 && evs t == []) = true := by decide

/-- Metering channel 7 is enabled and the converters are calibrated. -/
def mtrDev (t : Nat) : Dev := { (dv [(SNS_MTR_CTRL_EN, 0, 0x80), (SNS_MTR_CTRL_ROT_EN, 0, 0), (SNS_MTR_CTRL_SPARE, 0, 0), (SNS_MTR_GAIN_FIX, 0, 0xC000), (SNS_MTR_GAIN_AUTO, 0, 0), (CLK_PLL_STAT_FALLBACK, 0, 0), (CLK_TB_HI_DEGRADED, 0, 0)]) with
  sns := { mtrCalDone := true }, clk := { ticks := t } }

theorem wit_meteringSample : ok (mtrDev 300000) (fun d => (List.range 8).filter d.mtrOn == [7] && d.mtrFix 7 == 3 && !d.convStopped)
    (.meteringSample [{}, {}, {}, {}, {}, {}, {}, { x1 := 1, rg := 0xFFFFFF, pk := 1 }])
    (fun t => t.sns.inFlight == [⟨3, 7, -4, 3, false, false, false, 7, false, true⟩]) = true := by decide

theorem wit_meteringSampleDelivery : ok (let d := mtrDev 550000; { d with sns := { d.sns with inFlight := [⟨3, 7, -4, 3, false, false, true, 2, false, true⟩] } })
    (fun d => d.sns.inFlight.length == 1) .meteringSampleDelivery (fun t => t.fgS SNS_MTR_n_LO_VAL 7 == -4 && t.fg SNS_MTR_n_HI_CONV 7 == 2 &&
      t.fg SNS_MTR_n_HI_HANDOVER 7 == 1 && t.fg SNS_MTR_n_HI_GAIN 7 == 3 && t.sns.inFlight == [] && (vget t.sns.mtr 7).mb.ts == 300000) = true := by decide

/-- A rotation step stands in its phase. -/
def rotIn (ph : RotPhase) (n : Nat) : Dev := let d := mtrDev 0
  { d with sns := { d.sns with rot := some { ch := 7, old := 7, spare := 5, phase := ph, n := n, ofs := -2048 } } }

theorem wit_rotationStepStart : ok (((mtrDev 0).fs SNS_MTR_CTRL_ROT_EN 1).fs SNS_MTR_ROT_SPARE_CONV 4) (fun d => d.rotReady && d.rotNext == 7)
    .rotationStepStart (fun t => t.fg SNS_MTR_ROT_STEP_ACTIVE == 1 && t.fg SNS_MTR_ROT_STEP_CH == 7 && (t.sns.rot.map (·.spare)) == some 4) = true := by decide

theorem wit_rotationHandover : ok (rotIn .parallel 64) (fun d => (vget d.sns.mtr 7).conv == 7) .rotationHandover
    (fun t => (vget t.sns.mtr 7).conv == 5 && (vget t.sns.mtr 7).handover && (t.sns.rot.map (·.phase)) == some .offset) = true := by decide

theorem wit_rotationHandover_early : ok (rotIn .parallel 63) (fun _ => true) .rotationHandover (fun t => (vget t.sns.mtr 7).conv == 7) = true := by decide

theorem wit_rotationOffsetMeasured : ok (rotIn .offset 320) (fun _ => true) (.rotationOffsetMeasured 0xFFFF) (fun t => (t.sns.rot.map (·.ofs)) == some (-1)) = true := by
  decide

theorem wit_rotationCalComplete : ok ((rotIn .gain 1344).fs SNS_MTR_CTRL_SPARE 6) (fun d => !d.fb SNS_MTR_ROT_REQ) (.rotationCalComplete 5000 (-5000) 0 1)
    (fun t => t.fg SNS_MTR_CONV_k_CAL_VALID 7 == 1 && t.fgS SNS_MTR_CONV_k_CAL_OFS 7 == -2048 && t.fg SNS_MTR_ROT_SPARE_CONV == 6 &&
      vget t.sns.cor 7 == some ⟨-2048, 5000, -5000, 0, 1⟩ && evs t == [22]) = true := by
  decide

theorem wit_rotationCalComplete_fail : ok (rotIn .gain 1344) (fun d => !d.fb SNS_MTR_ROT_REQ) (.rotationCalComplete 0 0 (-5001) 0)
    (fun t => t.fg SNS_MTR_CONV_k_CAL_FAIL 7 == 1 && t.fg SNS_STAT_MTR_CAL_FAULT == 1 && evs t == [23, 22]) = true := by decide

theorem wit_mtrRotationRequest : ok (mtrDev 0) (fun d => !d.rotReady && acc (SNS_MTR_ROT_REQ.at 0) (2 ^ SNS_MTR_ROT_REQ.lo) d) (.mtrRotationRequest .mm)
    (fun t => t.fg SNS_MTR_ROT_REQ == 1 && t.fg SNS_STAT_MTR_CAL_PENDING == 1) = true := by decide

theorem wit_meteringInitialCalDone : ok {} (fun d => !d.sns.mtrCalDone && !d.fb SNS_MTR_ROT_REQ)
    (.meteringInitialCalDone [{}, {}, { ofs := -2048, g1 := 5000 }, { ofs := 2048, g64 := -5000 }, {}, {}, {}, {}])
    (fun t => t.sns.mtrCalDone && t.fg SNS_MTR_CONV_k_CAL_VALID 2 == 1 && t.fgS SNS_MTR_CONV_k_CAL_OFS 2 == -2048 && evs t == []) = true := by decide

/-- The device at tick 500000, which the end of a slot with `SETTLE` 125 does not exceed. -/
def at9 (d : Dev) : Dev := { d with clk := { ticks := 500000 } }

/-- The auxiliary sequencer is enabled with channels 14 and 15. -/
def auxDev (x : Sns) : Dev := at9 <| { (dv [(SNS_AUX_CTRL_EN, 0, 1), (SNS_AUX_n_CFG_EN, 14, 1), (SNS_AUX_n_CFG_EN, 15, 1), (SNS_AUX_n_LIM_HI, 14, 5), (CLK_PLL_STAT_FALLBACK, 0, 0)]) with
  sns := x }

theorem wit_auxScanStart : ok (auxDev {}) (fun d => !d.sns.scanning && !d.convStopped && !d.sns.auxEn) .auxScanStart
    (fun t => t.sns.scanning && t.sns.scanLeft == [14, 15] && (vget t.sns.auxCh 14).slot && !(vget t.sns.auxCh 13).slot) = true := by decide

theorem wit_auxScanStart_early : ok (auxDev { auxEn := true, scanNext := 500001 }) (fun d => !d.sns.scanning) .auxScanStart (fun t => !t.sns.scanning) = true := by decide

theorem wit_auxConversionDone : ok (auxDev { scanning := true, scanLeft := [14, 15] }) (fun d => !d.convStopped && decide (d.sns.auxFrom + d.auxSlot 14 * 800 ≤ d.clk.ticks)) (.auxConversionDone 0x60 0)
    (fun t => t.fg SNS_AUX_n_RES_CODE 14 == 0x60 && t.fg SNS_AUX_n_RES_RANGE 14 == 1 && t.sns.scanLeft == [15] && evs t == [26]) = true := by decide

theorem wit_auxConversionDone_last : ok (auxDev { scanning := true, scanLeft := [14] }) (fun d => !d.convStopped) (.auxConversionDone 0x50 0)
    (fun t => t.fg SNS_AUX_n_RES_RANGE 14 == 0 && !t.sns.scanning && (evs t).head? == some 24) = true := by decide

theorem wit_openWireConversionDone : ok (auxDev { auxEn := true, scanNext := 500000, owDue := [3, 15], owReq := [3] }) (fun d => d.auxPick == some 3) (.openWireConversionDone 513803)
    (fun t => t.fbit SNS_AUX_STAT_OW 3 && t.fbit SNS_AUX_STAT_OW_SEEN 3 && t.sns.owDue == [15] && t.sns.owReq == [] && evs t == [25]) = true := by decide

theorem wit_openWireConversionDone_closed : ok ((auxDev { auxEn := true, scanNext := 500000, owDue := [15] }).fs SNS_AUX_STAT_OW 0x8001) (fun d => d.auxPick == some 15) (.openWireConversionDone 513802)
    (fun t => t.fg SNS_AUX_STAT_OW == 1 && evs t == []) = true := by decide

theorem wit_auxSelftestDue : ok (auxDev { auxEn := true, stEvery := 1 }) (fun d => !d.sns.stPer) .auxSelftestDue
    (fun t => t.sns.stPer && t.live 0x20030004 0 5 == some 1) = true := by decide

theorem wit_auxSelftestRequest : ok (auxDev {}) (acc (SNS_AUX_TEST_REQ.at 0) (2 ^ SNS_AUX_TEST_REQ.lo)) (.auxSelftestRequest .mm)
    (fun t => t.stDue && t.fg SNS_AUX_TEST_REQ == 1) = true := by decide

theorem wit_auxSelftestConversionDone : ok (auxDev { auxEn := true, scanNext := 480000, stPer := true, owDue := [3], auxCh := Vector.replicate 16 { settle := 101 } })
    (fun d => d.auxPick == some 16 && decide (d.sns.auxFrom + 600 * 800 ≤ d.clk.ticks)) (.auxSelftestConversionDone (BitVec.ofInt 20 (-200)))
    (fun t => t.sns.stDone == 1 && !t.sns.stBad) = true := by decide

theorem wit_auxSelftestConversionDone_pass : ok (auxDev { auxEn := true, scanNext := 480000, stPer := true, stDone := 2 }) (fun _ => true) (.auxSelftestConversionDone 421527)
    (fun t => t.fg SNS_AUX_TEST_ST_SEQ == 1 && t.fg SNS_AUX_TEST_FAIL == 0 && evs t == []) = true := by decide

theorem wit_auxSelftestConversionDone_fail : ok (auxDev { auxEn := true, scanNext := 480000, stPer := true, stDone := 2, stBad := true }) (fun _ => true) (.auxSelftestConversionDone 419430)
    (fun t => t.fg SNS_AUX_TEST_FAIL == 1 && t.fg SNS_STAT_AUX_TEST_FAULT == 1 && evs t == [27]) = true := by decide

theorem wit_snsRead : ok (sent 0x201 [0, 23] ((sdOn { cf := { ts := 0x0102, deg := true } }).fs SNS_CF_n_LO_VAL 0xFFFFFFFE 23 |>.fs SNS_CF_n_HI_SEQ 3 23))
    (isSent 0x201 [0, 23]) (.snsRead .host 7)
    (fun t => (reply t).map (fun r => (r.1, r.2.take 4, r.2.drop 8)) == some (.ok, [0xFE, 0xFF, 0xFF, 0xFF], [2, 1, 0, 0, 0, 0, 1, 0])) = true := by decide

theorem wit_snsRead_mtr : ok (sent 0x201 [2, 7] ((mtrDev 0).fs SNS_MTR_n_LO_VAL 9 7)) (isSent 0x201 [2, 7]) (.snsRead .host 7)
    (fun t => (reply t).map (fun r => (r.1, r.2.take 4)) == some (.ok, [9, 0, 0, 0])) = true := by decide

theorem wit_snsRead_off : ok (sent 0x201 [2, 0] (mtrDev 0)) (isSent 0x201 [2, 0]) (.snsRead .host 7) (fun t => reply t == some (.state, [])) = true := by
  decide

theorem wit_snsTest : ok (sent 0x202 [1, 1] ((mtrDev 0).fs SNS_MTR_ROT_REQ 1)) (isSent 0x202 [1, 1]) (.snsTest .host 7)
    (fun t => t.fg SNS_MTR_ROT_REQ == 0 && reply t == some (.ok, [2])) = true := by decide

theorem wit_snsTest_openWire : ok (sent 0x202 [3, 0] ((auxDev { auxEn := true, scanNext := 1000000 }).fs SNS_AUX_n_CFG_OW_EN 1 15)) (isSent 0x202 [3, 0]) (.snsTest .host 7)
    (fun t => t.sns.owReq == [15] && reply t == some (.ok, [0])) = true := by decide

theorem wit_snsTest_waits : ok (sent 0x202 [3, 0] ((auxDev { auxEn := true, scanNext := 999999 }).fs SNS_AUX_n_CFG_OW_EN 1 15)) (isSent 0x202 [3, 0]) (.snsTest .host 7)
    (fun t => t.sns.owReq == [15] && reply t == some (.ok, [1])) = true := by decide

theorem wit_snsTest_twice : ok (sent 0x202 [3, 0] (auxDev { owReq := [3] })) (isSent 0x202 [3, 0]) (.snsTest .host 7)
    (fun t => t.sns.owReq == [3] && reply t == some (.ok, [1])) = true := by decide

theorem wit_snsTest_none : ok (sent 0x202 [3, 1] (auxDev { owDue := [3] })) (isSent 0x202 [3, 1]) (.snsTest .host 7)
    (fun t => t.sns.owDue == [3] && reply t == some (.ok, [3])) = true := by decide

/-! ### The grid functions -/

/-- Metering channels 0 to 6 are measured and the nominal values are set: the grid functions may start. -/
def grdIdle : Dev := (dv [(SNS_MTR_CTRL_EN, 0, 0x7F), (GRD_NOM_IRATED, 0, 1), (GRD_NOM_VNOM, 0, 1), (GRD_SCALE_V_SCALE, 0, 1), (GRD_SCALE_I_SCALE, 0, 1),
  (GRD_CTRL_LI_EN, 0, 0)]).updGrd
  fun x => { x with rep := 1 }

/-- They run in a state, with hidden state `g`. -/
def grdOn (st : Nat) (g : Grd) (t : Nat := 0) : Dev := { (grdIdle.fs GRD_CTRL_EN 1).fs GRD_STAT_STATE st with grd := g, clk := { ticks := t } }

theorem wit_gridEnable : ok grdIdle (fun d => acc (GRD_CTRL_EN.at 0) (wd GRD_CTRL_EN 0 1 d) d && d.fg GRD_STAT_STATE == 0 && !d.fb GRD_CTRL_LI_EN)
    (.gridEnable .mm (BitVec.ofNat 32 (wd GRD_CTRL_EN 0 1 grdIdle))) (fun t => t.fg GRD_STAT_STATE == 1 && t.fg GRD_CTRL_EN == 1 && evs t == [48]) = true := by
  decide

theorem wit_gridDisable : ok (grdOn 1 {}) (fun d => acc (GRD_CTRL_EN.at 0) (wd GRD_CTRL_EN 0 0 d) d) (.gridDisable .mm (BitVec.ofNat 32 (wd GRD_CTRL_EN 0 0 (grdOn 1 {}))))
    (fun t => t.fg GRD_STAT_STATE == 0 && t.fg GRD_CTRL_EN == 0 && evs t == [48]) = true := by decide

/-- A sample of channel 0 stands delivered. -/
def grdSmp (d : Dev) : Dev := d.updMtr (d.grdCh 0) fun x => { x with mb := { ts := 300000 } }

theorem wit_gridSampleDecision : (let d := grdSmp (grdOn 1 { rep := 1 }); d.grdRuns && d.grdTs == 100000 * 3 && decide (d.grd.ts < d.grdTs)) = true := by decide

theorem wit_gridSampleDecision_follower : ok ((grdSmp (grdOn 1 {})).fs SYS_ROLE_PAR_MODE 2) (fun d => !d.grdRuns) (.gridSampleDecision 3)
    (fun t => t.grd.k == 0) = true := by decide

/-- A full cycle of 160 samples of a cosine of amplitude 0.5: with 1.0 standing for 460.0 V, its fundamental is 162.63 V. -/
def cosCycle : List Int := (List.range 160).map fun i => (cosSin (160 - i) 160).1 / 2 ^ 30

theorem test_phaseMagnitude : magCode (dft 160 cosCycle) (10 * 460 * 65536) (160 * 1626 * 2 ^ 93) = 16387 := by decide

theorem wit_reconnectDelayExpiry : ok ((grdOn 1 { rep := 1, openAt := 0 } (800000 * 1000 * 3000)).fs GRD_STAT_RC_PEND 1 |>.fs GRD_STAT_RC_MET 1)
    (fun d => d.reconnectDue) .reconnectDelayExpiry (fun t => t.fg GRD_STAT_STATE == 3 && t.grd.demClose) = true := by decide

theorem wit_grdReconnect : ok (sent 0x402 [0] (grdOn 1 { rep := 1 })) (isSent 0x402 [0]) (.grdReconnect .host 7)
    (fun t => t.grd.rcAsked && t.fg GRD_STAT_RC_PEND == 1 && reply t == some (.ok, [1])) = true := by decide

theorem wit_grdDisconnect : ok (sent 0x403 [1] (grdOn 5 { rep := 2, demClose := true })) (fun d => isSent 0x403 [1] d && d.connected) (.grdDisconnect .host 7)
    (fun t => t.fg GRD_STAT_STATE == 8 && t.grd.demOpen && !t.grd.demClose && reply t == some (.ok, [])) = true := by decide

theorem wit_grdDisconnect_open : ok (sent 0x403 [0] (grdOn 1 {})) (fun d => isSent 0x403 [0] d && !d.connected) (.grdDisconnect .host 7)
    (fun t => t.fg GRD_STAT_STATE == 1 && reply t == some (.state, [])) = true := by decide

theorem wit_grdClear : ok (sent 0x404 [1] ((grdOn 1 { occ := [5] }).fs GRD_STAT_LOCKOUT 1)) (isSent 0x404 [1]) (.grdClear .host 7)
    (fun t => t.fg GRD_STAT_LOCKOUT == 0 && t.grd.occ == [] && reply t == some (.ok, [])) = true := by decide

theorem wit_grdStatus : ok (let d := sent 0x401 [] (grdOn 1 { ts := 0x0A0B }); { d with hst := { d.hst with outst := d.hst.outst.map fun c => { c with ver := 2 } } })
    (fun d => (d.startedCmd .host 7 0x401).map (·.ver) == some 2) (.grdStatus .host 7)
    (fun t => (reply t).map (fun r => (r.1, r.2.length, r.2.drop 24)) == some (.ok, 32, [0x0B, 0x0A, 0, 0, 0, 0, 0, 0])) = true := by decide

theorem wit_measChannelTimeout : ok (grdOn 5 { rep := 2 } 550000) (fun d => d.grdRuns && d.connected && !d.fb GRD_STAT_MEAS_LOST) .measChannelTimeout
    (fun t => t.fg GRD_STAT_MEAS_LOST == 1 && t.fg GRD_STAT_STATE == 8 && (evs t).take 2 == [58, 48]) = true := by decide

theorem wit_v10Update : ok (grdOn 1 { v3n := 2, v3sum := 32768, ts := 2400000000 - 100000 }) (fun d => d.fb GRD_CTRL_EN) .v10Update
    (fun t => t.fg GRD_MEAS_UNB_V10 == 16384 && t.grd.v10 == [4194304] && t.grd.v3At == 2400000000) = true := by decide

theorem wit_ceaseTimeout : ok ((grdOn 7 { ceaseAt := some 0, rep := 2 } 800000000).fs GRD_CEASE_CEASE_T 1000) (fun _ => true) .ceaseTimeout
    (fun t => t.fg GRD_STAT_CEASE_FAIL == 1 && t.fg GRD_STAT_STATE == 8 && (evs t).take 2 == [59, 48]) = true := by decide

theorem wit_ceaseTimeout_early : ok ((grdOn 7 { ceaseAt := some 0, rep := 2 } 799999999).fs GRD_CEASE_CEASE_T 1000) (fun _ => true) .ceaseTimeout
    (fun t => t.fg GRD_STAT_CEASE_FAIL == 0 && t.fg GRD_STAT_STATE == 7) = true := by decide

theorem wit_suspectHoldExpiry : ok ((grdOn 5 {} 8000000000).fs GRD_ISL_STAT_SUSPECT 1 |>.fs GRD_ISL_CFG_SUSP_HOLD 10) (fun _ => true) .suspectHoldExpiry
    (fun t => t.fg GRD_ISL_STAT_SUSPECT == 0) = true := by decide

theorem wit_actInvalidTimeout : ok ((grdOn 5 { invN := 801 }).fs GRD_ISL_BOUND_BOUND 100 |>.fs GRD_CTRL_ACT_INV_DISC 0) (fun _ => true) .actInvalidTimeout
    (fun t => t.fg GRD_ISL_STAT_ACT_INVALID == 1 && evs t == [60]) = true := by decide

theorem wit_contactorOpenTimeout : ok ((grdOn 8 { rep := 2, demOpen := true } 80000000).fs GRD_CONTACT_OPEN_TMO 100) (fun _ => true) .contactorOpenTimeout
    (fun t => t.fg GRD_STAT_STATE == 9 && t.fg GRD_STAT_CONTACT_FAIL == 1 && (evs t).drop 16 == [56, 48]) = true := by decide

theorem wit_contactorCloseTimeout : ok ((grdOn 3 { rep := 1, demClose := true, retState := 2 } 80000000).fs GRD_CONTACT_CLOSE_TMO 100) (fun _ => true)
    .contactorCloseTimeout (fun t => t.fg GRD_STAT_STATE == 2 && t.fg GRD_STAT_CONTACT_FAIL == 1 && !t.grd.demClose) = true := by decide

theorem wit_enterServiceRampEnd : ok ((grdOn 5 { ramp := some 8 } 800000008).fs GRD_RC_T_ES_RAMP 1) (fun _ => true) .enterServiceRampEnd
    (fun t => t.grd.ramp == none && evs t == [55]) = true := by decide

theorem wit_grdPubFrameReceived : ok ((grdOn 0 { pubLost := true }).fs SYS_ROLE_PAR_MODE 2 |>.fs GRD_LEGS_LEGS 1) (fun d => d.follower)
    (.grdPubFrameReceived true [0x00000500]) (fun t => !t.grd.pubLost && t.grd.leadState == 5 && t.fg TRP_LEG_n_STAT_CAUSE 0 == 0x30) = true := by decide

theorem wit_publicationLoss : ok ((grdOn 0 {} 300000).fs SYS_ROLE_PAR_MODE 2 |>.fs GRD_LEGS_LEGS 2) (fun d => d.follower) .publicationLoss
    (fun t => t.grd.pubLost && t.fg TRP_LEG_n_STAT_STATE 1 == 2 && (evs t).getLast? == some 58) = true := by decide

theorem wit_coopRecordTimer : ok ({ (grdOn 1 { coopSeq := 65535 }).fs GRD_ISL_CFG_COOP_EN 1 |>.fs GRD_COOP_CFG_PER 20 with clk := { ptpSec := 7, ptpNs := 40000000 } })
    (fun d => d.coopInstant && !d.follower) .coopRecordTimer
    (fun t => t.grd.coopSeq == 0 && (t.grd.localRec.map fun r => (r.sec, r.ns)) == [(7, 40000000)]) = true := by decide

/-- A record of peer 9 taken at second 7. -/
def coopRec : List Byte := [1, 3, 0, 0, 9, 0, 0, 0, 7, 0, 0, 0, 0, 0, 0, 0, 0, 0, 5, 0, 0, 0, 0, 0, 0, 0, 0, 0, 0, 0, 0, 0]

theorem wit_coopRecordReceived : ok ({ (grdOn 1 { localRec := [{ sec := 7, valid := true, theta := 8 }] }).fs GRD_ISL_CFG_COOP_EN 1 |>.fs GRD_PEER_n_CFG_EN 1 7
      |>.fs GRD_PEER_n_ID_ID 9 7 with clk := { ptpSec := 7 } }) (fun d => d.fb GRD_CTRL_EN && coopRec.length == 32) (.coopRecordReceived coopRec)
    (fun t => t.fbit GRD_COOP_STAT_VALID 7 && (vget t.grd.peer 7).base == some (3 * 65536)) = true := by decide

theorem wit_coopPeerTimeout : ok ((grdOn 1 {} 8000001).fs GRD_COOP_STAT_VALID 0x81 |>.fs GRD_COOP_CFG_PER 3) (fun _ => true) (.coopPeerTimeout 7)
    (fun t => t.fg GRD_COOP_STAT_VALID == 1 && t.fg GRD_COOP_STAT_LOST_SEEN == 0x80 && evs t == [61]) = true := by decide

/-! ### Weighmaster and the thermal manager -/

/-- Sink 31 asks, source 0 offers; the role is that of a leader or follower. -/
def wghOn (role : Nat) (t : Nat) (f : Wgh → Wgh := id) : Dev := ({ (dv [(WGH_CTRL_EN, 0, 1), (SYS_ROLE_PAR_MODE, 0, role), (WGH_REQ_r_CFG_EN, 31, 1),
  (WGH_REQ_r_CFG_KIND, 31, 1), (WGH_REQ_r_CFG_ESS, 31, 1), (WGH_REQ_r_LIM_LIM, 31, 900), (WGH_REQ_r_CFG_EN, 0, 1), (WGH_REQ_r_LIM_LIM, 0, 700),
  (WGH_LINK_PMAX, 0, 1000), (CLK_TB_HI_DEGRADED, 0, 0)]) with clk := { ticks := t } } : Dev).updWgh f

theorem wit_requestCutoff : ok ((((wghOn 1 60000).updReq 31 fun x => { x with req := 800, reqAt := some 0 }).updReq 0 fun x =>
      { x with req := 700, reqAt := some 0 })) (fun d => d.wghRuns && !d.wgh.arb && decide (d.clk.ticks % 80000 < 60000 + d.advance)) .requestCutoff
    (fun t => t.wgh.arb && (t.rq 31).grant == 700 && (t.rq 0).grant == 700 && (t.rq 31).ceil == 700) = true := by decide

theorem wit_requestCutoff_follower : ok ((wghOn 2 60000).fs WGH_SUPPLY_E 5) (fun d => d.follower && decide (d.clk.ticks % 80000 < 60000 + d.advance)) .requestCutoff
    (fun t => t.fg WGH_SUPPLY_E == 0 && !t.wgh.arb) = true := by decide

theorem wit_grantBoundary : ok ((wghOn 1 80000 fun x => { x with arb := true }).updReq 31 fun x => { x with shown := 800, grant := 700, ceil := 700 })
    (fun d => d.wghRuns && decide (d.clk.ticks % 80000 < d.advance)) .grantBoundary
    (fun t => !t.wgh.arb && t.fg WGH_REQ_r_STAT_GRANT 31 == 700 && t.fg WGH_REQ_r_STAT_REQ 31 == 800 && t.fg WGH_STAT_SEQ == 1) = true := by decide

theorem wit_grantBoundary_release : ok (wghOn 0 160000 fun x => { x with release := some 0x8000 }) (fun d => decide (d.clk.ticks % 80000 < d.advance)) .grantBoundary
    (fun t => t.fg CEN_GRP_g_CEIL_VAL 15 == 0x7FFFFF1F && t.wgh.release == none) = true := by decide

theorem wit_burstReservationLapse : ok (wghOn 0 100 fun x => { x with reserve := [(31, 5, 100), (31, 6, 101)] }) (fun _ => true) .burstReservationLapse
    (fun t => t.wgh.reserve == [(31, 6, 101)]) = true := by decide

theorem wit_weighmasterDisable : ok ((wghOn 0 0 fun x => { x with arb := true }).fs WGH_REQ_r_CFG_GRP_EN 1 31 |>.fs WGH_REQ_r_CFG_GRP 15 31)
    (fun d => acc (WGH_CTRL_EN.at 0) (wd WGH_CTRL_EN 0 0 d) d && d.wgh.burst == none) (.weighmasterDisable .mm (BitVec.ofNat 32 (wd WGH_CTRL_EN 0 0 (wghOn 0 0))))
    (fun t => t.fg WGH_CTRL_EN == 0 && !t.wgh.arb && t.wgh.release == some 0x8000) = true := by decide

theorem wit_followerRequestForward : ok ((wghOn 2 50).updReq 31 fun x => { x with req := 5, reqAt := some 0 }) (fun d => d.follower && d.fb WGH_CTRL_EN)
    .followerRequestForward (fun _ => true) = true := by decide

theorem wit_wghReqFrameReceived : ok ((wghOn 1 50).fs WGH_REQ_r_CFG_NODE 3 31) (fun d => d.wghRuns && d.leader && d.fg WGH_REQ_r_CFG_NODE 31 == 3)
    (.wghReqFrameReceived 3 [(31, 65535)]) (fun t => (t.rq 31).req == 65535 && (t.rq 31).reqAt == some 50) = true := by decide

theorem wit_wghCeilFrameReceived : ok (wghOn 2 50) (fun d => d.follower) (.wghCeilFrameReceived 2 1 [(31, 5)])
    (fun t => t.wgh.rx == [(31, 5)] && t.wgh.rxParts == [1] && t.wgh.rxOf == 2) = true := by decide

theorem wit_followerCeilingWrite : ok ((wghOn 2 50 fun x => { x with rx := [(31, 10)], rxParts := [0], rxOf := 1, rxMiss := 1 }).fs WGH_REQ_r_CFG_GRP_EN 1 31
      |>.fs WGH_REQ_r_SCALE_SCALE 0x40000001 31) (fun d => d.follower) .followerCeilingWrite
    (fun t => t.fg CEN_GRP_g_CEIL_VAL 0 == 0x40000001 && t.wgh.rxMiss == 0 && t.wgh.rx == []) = true := by decide

theorem wit_followerCeilingWrite_lost : ok ((wghOn 2 50 fun x => { x with rxMiss := 2 }).fs WGH_REQ_r_CFG_GRP_EN 1 31) (fun d => d.follower) .followerCeilingWrite
    (fun t => t.fg CEN_GRP_g_CEIL_VAL 0 == (Q.toW ⟨0, 1⟩).toNat && t.fg WGH_STAT_PAR_LOST == 1 && evs t == [71]) = true := by decide

theorem wit_wghBurst : ok (sent 0x502 [31, 0, 1, 0, 1, 0] (wghOn 0 0)) (fun d => isSent 0x502 [31, 0, 1, 0, 1, 0] d && d.isSink 31 && d.wghRuns) (.wghBurst .host 7)
    (fun t => t.fg WGH_BURST_STAT_ACTIVE == 1 && (t.wgh.burst.map fun b => (b.req, b.dp, b.t, b.cmd)) == some (31, 1, 1, some (.host, 7)) && reply t == none) = true := by
  decide

theorem wit_graceExpiry : ok ({ (dv [(THM_ZONE_z_STAT_STATE, 7, 1), (THM_ZONE_z_TEMP_TMAX, 7, 100)]) with thm := { cfg := Vector.replicate 8 (0x10000, 84 * 256 + 64), grace := vset (Vector.replicate 8 none) 7 (some 0) }, clk := { ticks := 80000000 } })
    (fun d => vget d.thm.grace 7 == some 0) (.graceExpiry 7) (fun t => t.fg THM_ZONE_z_STAT_STATE 7 == 2 && t.fg THM_ZONE_z_STAT_FRAC 7 == 16384 && evs t == [65]) = true := by
  decide

/-! ### Tallyman -/

/-- Tallyman meters. -/
def talOn (x : Tal) (t : Nat := 0) : Dev := { (dv [(TAL_CTRL_EN, 0, 1), (CLK_TB_HI_DEGRADED, 0, 0), (CLK_PTP_CTRL_TIME_VALID, 0, 1)]) with tal := x, clk := { ticks := t } }

theorem wit_bookTo : (let t := vget (({ tal := { tot := vset (Vector.replicate 24 {}) 23 { val := 10 ^ 15 - 1, res := 2 ^ 32 - 1, wrap := 255 } } } : Dev).bookTo 0 true 23 1).tal.tot 23;
    (t.val, t.res, t.wrap)) = (0, 0, 0) := by decide

theorem wit_bookTo_pulse : ((dv [(TAL_PULSE_EN, 0, 1), (TAL_PULSE_TOT, 0, 23), (TAL_PULSE_CONST, 0, 10)]).bookTo 7 true 23 (29 * 2 ^ 32)).evt.inflight =
    [{ num := 77, ts := 7, deg := true }, { num := 77, ts := 7, deg := true }] := by decide

theorem wit_missingSetTimeout : ok (talOn { expect := 5 } 1050000) (fun d => d.talRuns && d.tal.got == []) .missingSetTimeout
    (fun t => t.tal.expect == 6 && t.fg TAL_INT_CUR_MISS == 1 && t.fg TAL_INT_CUR_FLAGS == 2 && evs t == [79]) = true := by decide

theorem wit_oneSecondStrobe_off : ok { (dv [(CLK_PTP_CTRL_TIME_VALID, 0, 0)]) with clk := { ticks := 800000000 } } (fun d => !d.talRuns) (.oneSecondStrobe true)
    (fun t => t.clk.lastStrobe == 800000000) = true := by decide

theorem wit_oneSecondStrobe : (
    let d := { (talOn { startTb := 5 }) with clk := { carried := true } };
    d.talRuns && d.justCarried && d.fb CLK_PTP_CTRL_TIME_VALID && d.tal.startTb != d.clk.ticks) = true := by
  decide

theorem wit_pfailFall_off : ok {} (fun d => !d.talRuns && !d.fb TAL_STAT_PF_ACTIVE) (.pfailFall true) (fun t => t.fg TAL_STAT_PF_ACTIVE == 1) = true := by decide

theorem wit_pfailFall : ok (talOn {}) (fun d => d.talRuns && !d.fb TAL_STAT_PF_ACTIVE) (.pfailFall true)
    (fun t => t.fg TAL_STAT_PF_ACTIVE == 1 && t.fg TAL_LED_SAVE_SEQ == 1 && t.fg TAL_LED_LOGSEQ_SEQ == 1 && t.tal.flushed && evs t == [73]) = true := by decide

theorem wit_pfFlushTimer : ok ((talOn { flushed := true } 800000).fs TAL_STAT_PF_ACTIVE 1) (fun d => d.talRuns) (.pfFlushTimer true)
    (fun t => t.tal.flushAt == 800000 && t.fg TAL_LED_SAVE_SEQ == 1 && evs t == []) = true := by decide

theorem wit_pfailRise : ok (dv [(TAL_STAT_PF_ACTIVE, 0, 1)]) (fun _ => true) .pfailRise (fun t => t.fg TAL_STAT_PF_ACTIVE == 0) = true := by decide

theorem wit_tallymanEnable : ok {} (fun d => acc (TAL_CTRL_EN.at 0) (wd TAL_CTRL_EN 0 1 d) d && !d.ctrlChanges (wd TAL_CTRL_EN 0 1 d))
    (.tallymanEnable .mm (BitVec.ofNat 32 (wd TAL_CTRL_EN 0 1 {}))) (fun t => t.fg TAL_CTRL_EN == 1 && t.tal.wasOn) = true := by decide

theorem wit_tallymanDisable : ok (talOn {}) (fun d => acc (TAL_CTRL_EN.at 0) (wd TAL_CTRL_EN 0 0 d) d && !d.ctrlChanges (wd TAL_CTRL_EN 0 0 d))
    (.tallymanDisable .mm (BitVec.ofNat 32 (wd TAL_CTRL_EN 0 0 (talOn {})))) (fun _ => true) = true := by
  decide

theorem wit_tallymanDisable_follower : ok ((talOn {}).fs SYS_ROLE_PAR_MODE 2) (fun d => !d.talRuns && acc (TAL_CTRL_EN.at 0) (wd TAL_CTRL_EN 0 0 d) d && !d.ctrlChanges (wd TAL_CTRL_EN 0 0 d))
    (.tallymanDisable .mm (BitVec.ofNat 32 (wd TAL_CTRL_EN 0 0 (talOn {})))) (fun t => t.fg TAL_CTRL_EN == 0 && evs t == []) = true := by decide

theorem wit_talConfigWrite : ok {} (acc (TAL_CH_n_GAIN_GAIN.at 7) 0x40000001) (.talConfigWrite .mm (BitVec.ofNat 32 (TAL_CH_n_GAIN_GAIN.at 7)) 0x40000001)
    (fun _ => true) = true := by decide

theorem wit_talConfigWrite_sealed : ok (dv [(TAL_SEAL_SEALED, 0, 1)]) (fun d => d.fb TAL_SEAL_SEALED)
    (.talConfigWrite .mm (BitVec.ofNat 32 (TAL_CH_n_GAIN_GAIN.at 7)) 0x40000001) (fun t => t.fg TAL_CH_n_GAIN_GAIN 7 != 0x40000001 && t.tal.cfgSeq == 0) = true := by decide

theorem wit_talSealWrite : ok {} (acc (TAL_SEAL_SEAL.at 0) (2 ^ TAL_SEAL_SEAL.lo)) (.talSealWrite .mm (BitVec.ofNat 32 (2 ^ TAL_SEAL_SEAL.lo)))
    (fun _ => true) = true := by decide

theorem wit_talNonceExpiry : ok (talOn { nonce := some [1], nonceAt := 3 } 48000000003) (fun _ => true) .talNonceExpiry (fun t => t.tal.nonce == none) = true := by decide

theorem wit_talReadInt : ok (sent 0x602 [2, 0, 0, 0, 2, 0] { (dv [(TAL_LED_OLD_SEQ, 0, 2), (TAL_LED_INT_SEQ, 0, 3)]) with mram := [(0x4080, 2), (0x40C0, 3)] })
    (isSent 0x602 [2, 0, 0, 0, 2, 0]) (.talReadInt .host 7)
    (fun t => (reply t).map (fun r => (r.1, r.2.length, r.2.getD 0 0, r.2.getD 64 0)) == some (.ok, 128, 2, 3)) = true := by decide

theorem wit_talChallenge : ok (sent 0x603 [] {}) (isSent 0x603 []) (.talChallenge .host 7)
    (fun t => (t.tal.nonce.map (·.length)) == some 16 && ((reply t).map (·.1)) == some .ok) = true := by decide

theorem wit_talUnseal_noNonce : ok (sent 0x604 (List.replicate 64 0) (dv [(TAL_SEAL_SEALED, 0, 1)])) (isSent 0x604 (List.replicate 64 0)) (.talUnseal .host 7)
    (fun t => t.fg TAL_SEAL_SEALED == 1 && reply t == some (.auth, [])) = true := by decide

theorem wit_talUnseal : isSent 0x604 (List.replicate 64 0) (sent 0x604 (List.replicate 64 0) { (dv [(TAL_SEAL_SEALED, 0, 1)]) with tal := { nonce := some [] } }) = true := by
  decide

theorem wit_talClear : ok (sent 0x605 [] (dv [(TAL_STAT_LEDGER_LATCH, 0, 1)])) (isSent 0x605 []) (.talClear .host 7)
    (fun t => t.fg TAL_STAT_LEDGER_LATCH == 0 && reply t == some (.ok, [])) = true := by decide

theorem wit_talClear_refused : ok (sent 0x605 [] { (dv [(TAL_STAT_LEDGER_LATCH, 0, 1)]) with tal := { saveBad := true } }) (isSent 0x605 []) (.talClear .host 7)
    (fun t => t.fg TAL_STAT_LEDGER_LATCH == 1 && reply t == some (.state, [])) = true := by decide

/-! ### The safety supervisor -/

/-- The supervisor is configured, bank 3 valid, with hidden state `x`. -/
def safDev (x : Saf) (l : List (Fld × Nat × Nat) := []) (t : Nat := 0) : Dev :=
  { dv l (dv [(SAF_STAT_UNCONFIG, 0, 0), (SAF_STAT_SAFE_ALL, 0, 0), (SYS_IOBANK_BANK_3, 0, 1), (AON_STAT_XT_OK, 0, 1)]) with saf := x, clk := { ticks := t } }

/-- Function `f` stands in a state. -/
def fnIs (f : Nat) (y : SFn) (cmd : Nat := 0) : Saf := { fn := vset (Vector.replicate 2 {}) f y, cmd := cmd }

theorem wit_safetyInputAccepted : ok (safDev {} [(SAF_IN_n_CFG_EN, 7, 1), (SAF_TP_CFG_EN, 0, 0)]) (fun d => d.bank3 && d.safOn && d.fb SAF_IN_n_CFG_EN 7)
    (.safetyInputAccepted 1 7 1 true) (fun t => t.fbit SAF_IN_RAW_B_VIEW 15) = true := by decide

theorem wit_safetyInputAccepted_bank : ok (safDev {} [(SYS_IOBANK_BANK_3, 0, 3)]) (fun d => !d.bank3) (.safetyInputAccepted 1 7 1 true)
    (fun t => !t.fbit SAF_IN_RAW_B_VIEW 15) = true := by decide

theorem wit_discrepancyTimeout : ok (safDev {} [(SAF_IN_n_CFG_EN, 7, 1), (SAF_IN_RAW_A_VIEW, 0, 0x4000), (SAF_CLS_k_LIMIT, 1, 2)]) (fun d => d.disagrees 0 7)
    (.discrepancyTimeout 7) (fun t => t.fbit SAF_IN_STAT_FAULT 7 && t.fg SAF_FLT_k_CNT 1 == 1 && evs t == [81]) = true := by decide

theorem wit_discrepancyTimeout_lasting : ok (safDev {} [(SAF_IN_n_CFG_EN, 7, 1), (SAF_IN_RAW_A_VIEW, 0, 0x4000), (SAF_CLS_k_LIMIT, 1, 1)])
    (fun d => (d.safHit 1 (vget d.saf.inp 7).occ).2) (.discrepancyTimeout 7) (fun t => (vget t.saf.inp 7).latch && evs t == [81, 85]) = true := by decide

theorem wit_testPulseStart : ok (safDev {} [(SAF_TP_CFG_EN, 0, 1)]) (fun d => d.safOn) (.testPulseStart 1) (fun t => t.saf.tpLow == 2) = true := by decide

theorem wit_testPulseCheck : ok (safDev { tpLow := 2 } [(SAF_IN_n_CFG_EN, 7, 1), (SAF_IN_n_CFG_TP_EN, 7, 1)]) (fun d => d.saf.tpLow.testBit 1) (.testPulseCheck 1 7 true)
    (fun t => t.fbit SAF_IN_STAT_FAULT 7) = true := by decide

theorem wit_testPulseEnd : ok (safDev { tpLow := 2 } [] 5) (fun d => d.saf.tpLow.testBit 1) (.testPulseEnd 1)
    (fun t => t.saf.tpLow == 0 && vget t.saf.tpUntil 1 == 160005) = true := by decide

theorem wit_stateVectorExchange : ok (safDev { diffRun := 2, cmd := 15 }) (fun d => d.safOn && d.fb AON_STAT_XT_OK) (.stateVectorExchange true)
    (fun t => t.fg SAF_STAT_SAFE_ALL == 1 && t.fg SAF_CHAN_XC_DIFF == 1 && t.saf.cmd == 0) = true := by decide

theorem wit_stateVectorExchange_first : ok (safDev { fn := Vector.replicate 2 { st := 1 } }) (fun d => d.safOn && d.fb AON_STAT_XT_OK) (.stateVectorExchange true)
    (fun t => t.saf.diffRun == 1 && t.fg SAF_STAT_SAFE_ALL == 0) = true := by decide

theorem wit_partnerVectorTimeout : ok (safDev { cmd := 15 }) (fun d => d.safOn) .partnerVectorTimeout
    (fun t => t.fg SAF_CHAN_PARTNER_LOST == 1 && t.saf.cmd == 0 && t.fg SAF_CHAN_XC_SEEN == 1) = true := by decide

theorem wit_exchangeRateCheck : ok (safDev {}) (fun d => d.safOn) (.exchangeRateCheck 106) (fun t => t.fg SAF_CHAN_TIME_BAD == 1) = true := by decide

theorem wit_exchangeRateCheck_good : ok (safDev {}) (fun d => d.safOn) (.exchangeRateCheck 105) (fun t => t.fg SAF_CHAN_TIME_BAD == 0) = true := by decide

theorem wit_bCrystalLoss : ok (safDev { cmd := 15 }) (fun d => d.safOn && !d.fb SAF_CHAN_B_XT_FAIL) .bCrystalLoss
    (fun t => t.fg SAF_CHAN_B_XT_FAIL == 1 && t.saf.cmd == 0) = true := by decide

theorem wit_connectionCheckStart : ok (safDev (fnIs 1 { openV := true }) [(SAF_FUNC_f_CFG_EN, 1, 1), (SAF_FUNC_f_CFG_RESTART, 1, 0)])
    (fun d => d.condHold 1 && !d.safWaits 1 && !d.safLatched 1) (.connectionCheckStart 1) (fun t => (vget t.saf.fn 1).st == 1 && (vget t.saf.fn 1).phase == 1) = true := by
  decide

theorem wit_connectionCheckStart_not : ok (safDev (fnIs 1 { openV := true })) (fun d => !d.condHold 1) (.connectionCheckStart 1)
    (fun t => (vget t.saf.fn 1).st == 0) = true := by decide

theorem wit_checkTimerExpiry : ok (safDev (fnIs 1 { st := 1, phase := 1 })) (fun d => (vget d.saf.fn 1).phase == 1) (.checkTimerExpiry 1)
    (fun t => t.saf.cmd == 4 && (vget t.saf.fn 1).phase == 2) = true := by decide

theorem wit_checkTimerExpiry_fail : ok (safDev (fnIs 1 { st := 1, phase := 2 })) (fun d => !d.relayPins.testBit 2) (.checkTimerExpiry 1)
    (fun t => t.fg SAF_RLY_STAT_CHK_FAIL == 1 && (vget t.saf.fn 1).st != 1) = true := by decide

theorem wit_mirrorFeedbackChange : ok (safDev (fnIs 0 { st := 1, phase := 2 } 1) [(SAF_RLY_STAT_FB, 0, 3)]) (fun d => d.bank3 && d.mirror 0 0) (.mirrorFeedbackChange 0 0 false)
    (fun t => t.saf.cmd == 3 && (vget t.saf.fn 0).phase == 4) = true := by decide

theorem wit_mirrorFeedbackChange_fault : ok (safDev (fnIs 1 { st := 2 } 12)) (fun d => d.bank3 && !d.mirror 1 1) (.mirrorFeedbackChange 1 1 true)
    (fun t => t.fg SAF_RLY_STAT_FB_FAIL == 1 && t.saf.cmd == 0) = true := by decide

theorem wit_mirrorFeedbackChange_opening : ok (safDev (fnIs 1 { st := 3 })) (fun d => d.bank3 && !d.mirror 1 1) (.mirrorFeedbackChange 1 1 true)
    (fun t => t.fg SAF_RLY_STAT_FB_FAIL == 0 && t.fg SAF_RLY_STAT_FB == 8) = true := by decide

theorem wit_feedbackTimeout : ok (safDev (fnIs 1 { st := 3 })) (fun _ => true) (.feedbackTimeout 1) (fun t => t.fg SAF_RLY_STAT_FB_FAIL == 1 && (vget t.saf.fn 1).st == 0) = true := by
  decide

theorem wit_feedbackTimeout_check : ok (safDev (fnIs 0 { st := 1, phase := 4 } 3)) (fun _ => true) (.feedbackTimeout 0)
    (fun t => t.fg SAF_RLY_STAT_CHK_FAIL == 1 && t.saf.cmd == 0) = true := by decide

theorem wit_relayVerified : ok (safDev (fnIs 1 { st := 3 }) [(SAF_RLY_STAT_FB, 0, 12)]) (fun d => d.outsLow 1 && d.mirror 1 0 && d.mirror 1 1) (.relayVerified 1)
    (fun t => (vget t.saf.fn 1).openV && (vget t.saf.fn 1).st == 0) = true := by decide

theorem wit_relayVerified_closed : ok (safDev (fnIs 0 { st := 1, phase := 5 } 3)) (fun d => d.outsHigh 0 && !d.mirror 0 0 && !d.mirror 0 1) (.relayVerified 0)
    (fun t => (vget t.saf.fn 0).closedV && (vget t.saf.fn 0).st == 2 && t.grd.rep == 2) = true := by decide

theorem wit_feedbackDisagreeTimeout : ok (safDev {} [(SAF_RLY_STAT_FB, 0, 8)]) (fun d => d.bank3 && d.mirror 1 0 != d.mirror 1 1) .feedbackDisagreeTimeout
    (fun t => t.fg SAF_RLY_STAT_FB_FAIL == 1) = true := by decide

theorem wit_offPulseStart : ok (safDev (fnIs 1 { st := 2 } 12) [] 1) (fun d => d.saf.cmd.testBit 3) (.offPulseStart 1 1 true)
    (fun t => (vget t.saf.fn 1).pulse == 2 && (vget t.saf.fn 1).quiet == 8240001) = true := by decide

theorem wit_offPulseStart_stuck : ok (safDev (fnIs 1 { st := 2 } 12)) (fun d => d.saf.cmd.testBit 3) (.offPulseStart 1 1 false)
    (fun t => t.fg SAF_RLY_STAT_OP_FAIL == 1 && t.saf.cmd == 0) = true := by decide

theorem wit_offPulseEnd : ok (safDev (fnIs 1 { st := 2, pulse := 2 } 12)) (fun d => (vget d.saf.fn 1).pulse.testBit 1) (.offPulseEnd 1 1 true)
    (fun t => (vget t.saf.fn 1).pulse == 0 && (vget t.saf.fn 1).quiet == 8000000) = true := by decide

theorem wit_safWeldtest : ok (sent 0x705 [] (safDev (fnIs 0 { openV := true }))) (fun d => isSent 0x705 [] d && d.fnRests 0) (.safWeldtest .host 7)
    (fun t => t.fg SAF_RLY_STAT_WELD_BUSY == 1 && t.saf.weldCmd == some (.host, 7) && reply t == none) = true := by decide

theorem wit_weldTestEnd : ok (sent 0x705 [] (safDev { weldCmd := some (.host, 7) } [(SAF_RLY_STAT_WELD_BUSY, 0, 1)])) (fun d => d.fb SAF_RLY_STAT_WELD_BUSY)
    .weldTestEnd (fun t => t.fg SAF_RLY_STAT_WELD_BUSY == 0 && reply t == some (.ok, [])) = true := by decide

theorem wit_safetyPduReceived : ok (safDev {} [(SAF_CONN_c_CFG_EN, 7, 1), (SAF_CONN_c_PATH_P2_KIND, 7, 2), (SAF_CONN_c_PATH_P2_LINK, 7, 5), (SAF_CONN_c_CFG_VER, 7, 1),
      (SAF_CONN_c_CFG_AGE_CHK, 7, 0)])
    (fun d => d.safOn) (.safetyPduReceived 2 5 (let b := [1, 1, 9, 0, 0, 0, 0, 0, 0, 0, 0, 0, 0, 0, 0, 0]; b ++ leBytes 4 (fcs ([0, 0, 0, 0] ++ b))))
    (fun t => t.fg SAF_CONN_c_STAT_P2_OK 7 == 1 && t.fg SAF_CONN_c_STAT_LAST_SEQ 7 == 9 && (vget t.saf.conn 7).last2 == some 9) = true := by decide

theorem wit_safetyPduReceived_crc : ok (safDev {}) (fun d => decide (∀ c : Fin 8, leAt (List.replicate 20 0) 16 4 ≠ fcs (leBytes 4 (d.fg SAF_CONN_c_ID_ID c) ++ List.replicate 16 0)))
    (.safetyPduReceived 2 5 (List.replicate 20 0)) (fun t => t.fg SAF_CONN_c_STAT_P2_OK 7 == 0) = true := by decide

theorem wit_pduExpectationTimeout : ok (safDev {} [(SAF_CONN_c_STAT_P1_OK, 7, 1)]) (fun d => !d.fb SAF_CONN_c_STAT_VALID 7) (.pduExpectationTimeout 7 0)
    (fun t => t.fg SAF_CONN_c_STAT_P1_OK 7 == 0 && t.fg SAF_CONN_c_STAT_LOST_SEEN 7 == 1 && evs t == []) = true := by decide

theorem wit_pduExpectationTimeout_valid : ok (safDev {} [(SAF_CONN_c_STAT_P2_OK, 7, 1), (SAF_CONN_c_STAT_VALID, 7, 1), (SAF_CLS_k_LIMIT, 3, 5)])
    (fun d => d.fb SAF_CONN_c_STAT_VALID 7) (.pduExpectationTimeout 7 1)
    (fun t => t.fg SAF_CONN_c_STAT_VALID 7 == 0 && t.fg SAF_FLT_k_CNT 3 == 1 && evs t == [82]) = true := by decide

theorem wit_pduSendTimer : ok (safDev { conn := vset (Vector.replicate 8 {}) 7 { txSeq := 65535 } } [(SAF_CONN_c_CFG_EN, 7, 1), (SAF_CONN_c_CFG_DIR, 7, 1)])
    (fun d => d.safOn) (.pduSendTimer ⟨7, true⟩) (fun t => t.fg SAF_CONN_c_STAT_LAST_SEQ 7 == 65535 && (vget t.saf.conn 7).txSeq == 0) = true := by decide

theorem wit_safUnlock_locked : ok (sent 0x704 [] (safDev {} [(SAF_STAT_UL_LOCK, 0, 1)])) (isSent 0x704 []) (.safUnlock .host 7)
    (fun t => t.fg SAF_UL_STAT_RESULT == 3 && t.fg SAF_UL_STAT_UL_SEQ == 1 && reply t == some (.auth, [])) = true := by decide

theorem wit_partnerVectorTimeout_unconfigured : ok (safDev {} [(SAF_STAT_UNCONFIG, 0, 1)]) (fun d => !d.safOn) .partnerVectorTimeout
    (fun t => t.fg SAF_FLT_k_CNT 0 == 1 && t.fg SAF_STAT_SAFE_ALL == 1 && (evs t).contains 84) = true := by decide

theorem wit_safUlChallenge : (let d := safDev {}; acc (SAF_UL_CTRL_OP.at 0) (wd SAF_UL_CTRL_KEY 0 0xC5 {}) d && Dev.ulKey (wd SAF_UL_CTRL_KEY 0 0xC5 {}) &&
    SAF_UL_CTRL_OP.of (wd SAF_UL_CTRL_KEY 0 0xC5 {}) == 0 && !d.fb SAF_STAT_UL_LOCK) = true := by decide

/-- The word of `SAF_UL_CTRL` with the key and an operation. -/
def ulW (o : Nat) : W32 := BitVec.ofNat 32 (0xC5 * 2 ^ SAF_UL_CTRL_KEY.lo + o * 2 ^ SAF_UL_CTRL_OP.lo + 2 * 2 ^ SAF_UL_CTRL_FMASK.lo)

theorem wit_safUlConfig : ok (safDev {} [(SAF_UL_ADDR_ADDR, 0, 0x04000010)]) (acc (SAF_UL_CTRL_OP.at 0) (ulW 1).toNat) (.safUlConfig .mm (ulW 1))
    (fun t => (t.saf.unl.map fun u => (u.op, u.fmask, u.record.length)) == some (1, 2, 784) && t.fg SAF_UL_STAT_RESULT == 1) = true := by decide

theorem wit_safUlFaultAck : ok (safDev {}) (acc (SAF_UL_CTRL_OP.at 0) (ulW 2).toNat) (.safUlFaultAck .mm (ulW 2))
    (fun t => (t.saf.unl.map fun u => (u.op, u.record.length)) == some (2, 0)) = true := by decide

theorem wit_safUlRestartAck : ok (safDev {}) (acc (SAF_UL_CTRL_OP.at 0) (ulW 3).toNat) (.safUlRestartAck .mm (ulW 3))
    (fun t => (t.saf.unl.map fun u => (u.op, u.fmask)) == some (3, 2)) = true := by decide

theorem wit_unlockVerifyComplete : ok (safDev { unl := some { op := 2 } }) (fun d => !d.saf.nonce) (.unlockVerifyComplete false)
    (fun t => t.fg SAF_UL_STAT_RESULT == 3 && t.saf.unl == none && t.saf.refusals == [0] && t.fg SAF_UL_STAT_UL_SEQ == 1) = true := by decide

theorem wit_safNonceExpiry : ok (safDev { nonce := true } [(SAF_UL_NONCE_k_NONCE, 3, 9)] 48000000000) (fun d => d.saf.unl == none) .safNonceExpiry
    (fun t => !t.saf.nonce && t.fg SAF_UL_NONCE_k_NONCE 3 == 0) = true := by decide

theorem wit_safetyConfigLoaded_none : ok (safDev {} [(SAF_STAT_UNCONFIG, 0, 1)]) (fun d => d.saf.storeA == []) .safetyConfigLoaded
    (fun t => t.fg SAF_STAT_UNCONFIG == 1 && t.fg SAF_CHAN_A_STATE == 2) = true := by decide

/-- A record of zeros with its magic, sequence 7 and CRC. -/
def rec0 : List Byte := let b := [0x53, 0x43, 0x46, 0x47, 7] ++ List.replicate 775 0; b ++ leBytes 4 (crc32c b)

theorem wit_safetyConfigLoaded : (let d := safDev { storeA := rec0, storeB := rec0 } [(SAF_STAT_UNCONFIG, 0, 1)];
    d.fb SAF_STAT_UNCONFIG && Dev.recSound d.saf.storeA && d.saf.storeB == d.saf.storeA) = true := by decide +kernel

theorem wit_safReadCfg : ok (sent 0x702 [1] (safDev { storeB := [1, 2] })) (isSent 0x702 [1]) (.safReadCfg .host 7) (fun t => reply t == some (.ok, [1, 2])) = true := by
  decide

theorem wit_safChallenge : (isSent 0x703 [] (sent 0x703 [] (safDev {})) && !(safDev {}).fb SAF_STAT_UL_LOCK) = true := by decide

theorem wit_safUnlock : ok (sent 0x704 ([2] ++ List.replicate 71 0) (safDev {})) (isSent 0x704 ([2] ++ List.replicate 71 0)) (.safUnlock .host 7)
    (fun t => (t.saf.unl.map fun u => (u.op, u.cmd)) == some (2, some (.host, 7)) && reply t == none) = true := by decide

/-! ### The host port and the commands -/

/-- A packet as a host sends it. -/
def hostPkt (op tag fl : Nat) (payload : List Byte) : List Byte :=
  let h := leBytes 2 (0x1000 + op) ++ leBytes 1 tag ++ leBytes 1 fl ++ leBytes 2 payload.length ++ [0, 0, 0, 0, 0, 0]
  h ++ leBytes 4 (crc32c (h ++ payload)) ++ payload

/-- A device with this host-port state. -/
def hs (h : Hst) (l : List (Fld × Nat × Nat) := []) : Dev := { dv l with hst := h }

theorem wit_hostWrite : ok (hs { posted := [(0, List.replicate 508 0)] }) (fun d => d.postedBytes == 508) (.hostWrite 0x04000000 [1, 2, 3, 4])
    (fun t => t.hst.posted.length == 2) = true := by decide

theorem wit_hostWrite_over : ok (hs { posted := [(0, List.replicate 508 0)] }) (fun d => d.postedBytes == 508) (.hostWrite 0x04000000 [1, 2, 3, 4, 5])
    (fun t => t.hst.posted.length == 1 && t.fg HST_STAT_WR_OVF == 1 && evs t == [101]) = true := by decide

theorem wit_postedWritePerform : ok (hs { posted := [(0x043FFFFF, [9])] }) (fun _ => true) .postedWritePerform
    (fun t => t.mem == [(0x043FFFFF, 9)] && t.hst.posted == []) = true := by decide

theorem wit_postedWritePerform_reg : ok (hs { posted := [(HST_ID_ID.at 0, [4, 3, 2, 1])] }) (fun _ => inRegs (HST_ID_ID.at 0)) .postedWritePerform
    (fun t => t.fg HST_ID_ID == 0x01020304) = true := by decide

theorem wit_hostRead : ok (dv [(HST_ID_ID, 0, 0x01020304)]) (fun d => inRegs (HST_ID_ID.at 0) && !d.aonDead (HST_ID_ID.at 0))
    (.hostRead (BitVec.ofNat 32 (HST_ID_ID.at 0)) 5) (fun t => t.hst.drove == [0x5A, 4, 3, 2, 1, 0]) = true := by decide

theorem wit_hostRead_mem : ok { mem := [(0x04000001, 7)] } (fun _ => !Dev.inCoop 0x04000000) (.hostRead 0x04000000 2)
    (fun t => t.hst.drove == [0x5A, 0, 7]) = true := by decide

theorem wit_hostReadTimeout : ok {} (fun _ => true) (.hostReadTimeout 0) (fun t => t.hst.drove == [0xE1] && t.fg HST_STAT_RD_TMO == 1) = true := by decide

theorem wit_hostStatus : ok (hs { replies := [[1]] }) (fun _ => true) .hostStatus (fun t => t.hst.drove == [0x8F]) = true := by decide

theorem wit_hostCmd : ok {} (fun _ => Dev.frameOk (hostPkt 3 5 1 [1, 2])) (.hostCmd (hostPkt 3 5 1 [1, 2]))
    (fun t => t.hst.outst.map (fun c => (c.op, c.tag, c.barrier, c.payload)) == [(3, 5, true, [1, 2])] && t.fg HST_STAT_OUTST == 1) = true := by decide +kernel

theorem wit_hostCmd_bad : ok {} (fun _ => !Dev.frameOk [1]) (.hostCmd [1]) (fun t => t.fg HST_STAT_FRAME_CNT == 1 && evs t == [95]) = true := by decide

theorem wit_hostReply : ok (hs { replies := [[1, 2, 3]] } [(HST_IRQ_REPLY, 0, 1)]) (fun _ => true) .hostReply
    (fun t => t.hst.drove == [3, 0, 1, 2, 3] && t.hst.replies == [] && t.fg HST_IRQ_REPLY == 0) = true := by decide

theorem wit_hostReply_none : ok {} (fun _ => true) .hostReply (fun t => t.hst.drove == [0, 0]) = true := by decide

theorem wit_hostBadInstruction : ok {} (fun _ => true) (.hostBadInstruction 3) (fun t => t.fg HST_STAT_BAD_INSTR == 1) = true := by decide

/-- An outstanding command of the host port under tag 7. -/
def cmd7 (c : Cmd) (d : Dev := {}) : Dev := { d with hst := { d.hst with outst := [{ c with path := .host, tag := 7 }] } }

theorem wit_commandStart : ok (cmd7 { op := 3 } (dv [(SYS_BOOT_STAT_STATE, 0, 4)])) (fun d => (d.findCmd .host 7).any d.mayStart) (.commandStart .host 7)
    (fun t => t.hst.outst.map (·.started) == [true] && reply t == none) = true := by decide

theorem wit_commandStart_unknown : ok (cmd7 { op := 9 }) (fun d => !opKnown 9 && (d.findCmd .host 7).any d.mayStart) (.commandStart .host 7)
    (fun t => reply t == some (.range, [])) = true := by decide

theorem wit_commandStart_boot : ok (cmd7 { op := 3 }) (fun d => !Dev.bootOp 3 && d.fg SYS_BOOT_STAT_STATE != 4) (.commandStart .host 7)
    (fun t => reply t == some (.state, [])) = true := by decide

theorem wit_commandStart_waits : ok { hst := { outst := [{ tag := 1, op := 4, started := true }, { tag := 7, op := 3 }] } }
    (fun d => (d.findCmd .host 7).any fun c => !d.mayStart c) (.commandStart .host 7) (fun t => t.hst.outst.map (·.started) == [true, false]) = true := by decide

theorem wit_replyRelease : ok (cmd7 { ver := 1, op := 3, done := some (.ok, [1]) }) (fun d => d.sys.rstOwed == none) (.replyRelease .host 7)
    (fun t => t.hst.outst == [] && t.hst.replies.map (·.take 12) == [[3, 0x10, 7, 0x80, 1, 0, 0, 0, 0, 0, 0, 0]]) = true := by decide +kernel

theorem wit_complete_quiet : ok (cmd7 { op := 0, noreply := true, started := true }) (fun d => d.noReply .host 7) (.sysNop .host 7)
    (fun t => t.hst.outst == [] && t.hst.replies == []) = true := by decide

theorem wit_replyRelease_order : ok { hst := { outst := [{ tag := 1, op := 4 }, { tag := 7, op := 3, done := some (.ok, []) }] } }
    (fun d => d.pathVer .host == 1 && (Dev.earlier .host 7 d.hst.outst).any (fun x => x.path == .host) && d.sys.rstOwed == none)
    (.replyRelease .host 7) (fun t => t.hst.replies == [] && t.hst.outst.length == 2) = true := by decide

theorem wit_mayStart_barrier : ok { hst := { outst := [{ tag := 1, op := 0, barrier := true, urgent := true, started := true }, { tag := 7, op := 0x300 }] } }
    (fun d => ((d.findCmd .host 7).any fun c => !c.urgent && !d.mayStart c) && (Dev.earlier .host 7 d.hst.outst).any (·.barrier)) (.commandStart .host 7) (fun t => t.hst.outst.map (·.started) == [true, false]) = true := by decide

theorem wit_replyRelease_early : ok (cmd7 { op := 3 }) (fun _ => true) (.replyRelease .host 7) (fun t => t.hst.outst.length == 1) = true := by decide

theorem wit_accessTimeout : ok { cmd7 { op := 3, started := true, ran := true } with
      hst := { (cmd7 { op := 3, started := true, ran := true }).hst with slow := [(.host, 7)] } } (fun d => d.hst.slow == [(.host, 7)]) (.accessTimeout .host 7)
    (fun t => reply t == some (.timeout, []) && t.hst.slow == []) = true := by decide

theorem wit_sysNop : ok (sent 0 [1, 2] {}) (isSent 0 [1, 2]) (.sysNop .host 7) (fun t => reply t == some (.ok, [1, 2])) = true := by decide

theorem wit_hello : ok (sent 1 [9, 2] {}) (isSent 1 [9, 2]) (.hello .host 7)
    (fun t => t.fg HST_STAT_VER == 3 && (reply t).map (fun r => (r.1, r.2.take 4, r.2.length)) == some (.ok, [3, 0, 0, 0x40], 12)) = true := by decide

theorem wit_hello_none : ok (sent 1 [9, 4] {}) (isSent 1 [9, 4]) (.hello .host 7) (fun t => reply t == some (.version, [])) = true := by decide

/-- The payload of a register command on `HST_ID`. -/
def idReg (l : List Byte) : List Byte := leBytes 4 (HST_ID_ID.at 0) ++ l

theorem wit_regReadCmd : ok (sent 3 (idReg [1, 0]) (dv [(HST_ID_ID, 0, 5)])) (fun d => isSent 3 (idReg [1, 0]) d && Dev.regSpan (HST_ID_ID.at 0) 1) (.regReadCmd .host 7)
    (fun t => reply t == some (.ok, [5, 0, 0, 0])) = true := by decide

theorem wit_regWriteCmd : ok (sent 4 (idReg [9, 0, 0, 0]) {}) (isSent 4 (idReg [9, 0, 0, 0])) (.regWriteCmd .host 7)
    (fun t => t.fg HST_ID_ID == 9 && reply t == some (.ok, [1, 0])) = true := by decide

theorem wit_memReadCmd : ok (sent 5 [0, 0, 0, 8, 2, 0, 0, 0] { mram := [(1, 6)] }) (fun d => d.memKind 0x08000000 2 == 2) (.memReadCmd .host 7)
    (fun t => reply t == some (.ok, [0, 6])) = true := by decide

theorem wit_memWriteCmd : ok (sent 6 [0, 0, 0, 4, 2, 5] {}) (fun d => d.memKind 0x04000000 2 == 1) (.memWriteCmd .host 7)
    (fun t => t.mem == [(0x04000000, 2), (0x04000001, 5)] && reply t == some (.ok, [])) = true := by decide

theorem wit_memWriteCmd_ledger : ok (sent 6 [0, 0, 0, 8, 2] (dv [(SYS_BOOT_STAT_STATE, 0, 4)])) (fun d => d.memKind 0x08000000 1 == 2) (.memWriteCmd .host 7)
    (fun t => t.mram == [] && reply t == some (.auth, [])) = true := by decide

theorem wit_hstAbort : ok (sent 7 [9] {}) (isSent 7 [9]) (.hstAbort .host 7) (fun t => reply t == some (.ok, [2])) = true := by decide

theorem wit_hstAbort_waiting : ok (let d := sent 7 [9] {}; { d with hst := { d.hst with outst := d.hst.outst ++ [{ tag := 9, op := 3 }] } })
    (fun d => (d.findCmd .host 9).isSome) (.hstAbort .host 7) (fun t => reply t == some (.ok, [0]) && (t.findCmd .host 9).bind (·.done) == some (.aborted, [])) = true := by
  decide

theorem wit_hstAbort_started : ok (sent 7 [7] {}) (isSent 7 [7]) (.hstAbort .host 7) (fun t => reply t == some (.ok, [1])) = true := by decide

theorem wit_regModify : ok (sent 8 (idReg [0xF0, 0, 0, 0, 0x35, 0, 0, 0]) (dv [(HST_ID_ID, 0, 0x1FF)])) (isSent 8 (idReg [0xF0, 0, 0, 0, 0x35, 0, 0, 0]))
    (.regModify .host 7) (fun t => t.fg HST_ID_ID == 0x13F && reply t == some (.ok, [0xFF, 1, 0, 0])) = true := by decide

/-! ### Supplies, reset, boot and events -/

/-- A device in a phase of reset. -/
def inPh (ph : RstPhase) (d : Dev := {}) : Dev := { d with sys := { d.sys with phase := ph } }

theorem wit_vddCoreFall : ok (dv [(HST_ID_ID, 0, 5)]) (fun d => d.sys.vddCore) .vddCoreFall
    (fun t => t.sys.phase == .hold && !t.sys.vddCore && t.fg HST_ID_ID == 0) = true := by decide

theorem wit_supplyFallPor : ok (dv [(HST_ID_ID, 0, 5)]) (fun d => d.fb (Dev.okFld 1)) (.supplyFallPor 1)
    (fun t => t.sys.phase == .hold && t.sys.vddCore && t.fg SYS_PWRSTAT_VDDA_OK == 0 && t.fg SYS_PWRSTAT_VDD_PLL_OK == 1) = true := by decide

theorem wit_resetRelease : ok (inPh .hold) (fun d => d.powerOk && !d.sys.testEn) (.resetRelease 1) (fun t => t.sys.phase == .run && t.sys.sources == [2] && t.fg SYS_BOOT_STAT_STATE == 2) = true := by
  decide

theorem wit_resetRelease_held : ok (dv [(SYS_PWRSTAT_VDDA_OK, 0, 0)] (inPh .hold)) (fun d => !d.powerOk) (.resetRelease 1) (fun t => t.sys.phase == .hold) = true := by
  decide

theorem wit_bankValidDetect : ok (dv [(SYS_IOBANK_BANK_4, 0, 0)] { sys := { detected := 63 } }) (fun d => d.fg (Dev.bankFld 4) == 0) (.bankValidDetect 4 false)
    (fun t => t.fg SYS_IOBANK_BANK_4 == 1 && t.fg SYS_IOBANK_BANK_CHG == 16 && evs t == [123]) = true := by decide

theorem wit_bankValidDetect_first : ok (dv [(SYS_IOBANK_BANK_4, 0, 0)] { sys := { detected := 0 } }) (fun d => !d.sys.detected.testBit 4) (.bankValidDetect 4 true)
    (fun t => t.fg SYS_IOBANK_BANK_4 == 2 && t.fg SYS_IOBANK_BANK_CHG == 0 && t.sys.detected == 16 && evs t == []) = true := by decide

theorem wit_bankValidDetect_reset : ok (dv [(SYS_IOBANK_BANK_3, 0, 0)] (inPh .hold)) (fun d => d.fg (Dev.bankFld 3) == 0) (.bankValidDetect 3 false)
    (fun t => t.fg SYS_IOBANK_BANK_3 == 3 && t.fg SYS_IOBANK_BANK_CHG == 0 && evs t == []) = true := by decide

theorem wit_resetRelease_banks : ok (dv [(SYS_IOBANK_BANK_1, 0, 3), (SYS_IOBANK_BANK_3, 0, 0)] (inPh .hold)) (fun d => d.powerOk && !d.sys.testEn && d.bankBad && !d.bank3)
    (.resetRelease 0) (fun t => t.trp.bankEp && t.fg TRP_LEG_n_STAT_CAUSE 0 == 0x33 && t.fg SAF_STAT_BANK3 == 1 && t.sys.detected == 0x35) = true := by decide

theorem wit_bankInvalid : ok (dv [(SYS_IOBANK_BANK_1, 0, 2)] { sys := { detected := 63 } }) (fun d => d.fg (Dev.bankFld 1) == 2) (.bankInvalid 1 true)
    (fun t => t.fg SYS_IOBANK_BANK_1 == 0 && t.fg TRP_STAT_BANK_FORCE == 1 && (evs t).take 2 == [123, 7] && t.fg TRP_LEG_n_STAT_CAUSE 23 == 0x33) = true := by decide

theorem wit_supplyMonitorDrop : ok { mem := [(5, 1), (0x80000000, 7)] } (fun d => d.fb (Dev.okFld 3)) (.supplyMonitorDrop 3)
    (fun t => t.fg SYS_PWRSTAT_VDDQ_DRAM_OK == 0 && t.fg SYS_PWRSTAT_DROP == 8 && t.mem == [(5, 1)]) = true := by decide

theorem wit_supplyValid : ok (dv [(SYS_PWRSTAT_VDDA_OK, 0, 0)]) (fun _ => true) (.supplyValid 1) (fun t => t.fg SYS_PWRSTAT_VDDA_OK == 1) = true := by decide

theorem wit_supplyValid_core : ok { sys := { vddCore := false, phase := .hold } } (fun d => !d.sys.vddCore) (.supplyValid 6) (fun t => t.sys.vddCore && t.sys.coreBack) = true := by
  decide

theorem wit_resetPin : ok {} (fun _ => true) .resetPin (fun t => t.sys.phase == .warm && t.sys.warmCause == 1) = true := by decide

/-- The word of `SYS_RST_CTRL` that asks for a reset. -/
def rstW (force : Nat) : W32 := BitVec.ofNat 32 (0xD1 * 2 ^ SYS_RST_CTRL_KEY.lo + 2 ^ SYS_RST_CTRL_RST.lo + force * 2 ^ SYS_RST_CTRL_FORCE.lo)

theorem wit_softwareResetWrite : ok (dv [(PWM_LEG_n_CTRL_EN, 3, 1)]) (fun d => Dev.rstAsked (rstW 1).toNat && acc (SYS_RST_CTRL_RST.at 0) (rstW 1).toNat d)
    (.softwareResetWrite .mm (rstW 1)) (fun t => t.sys.phase == .warm && t.sys.warmCause == 2) = true := by decide

theorem wit_softwareResetWrite_refused : ok (dv [(PWM_LEG_n_CTRL_EN, 3, 1)]) (fun d => d.legEnabled && Dev.rstAsked (rstW 0).toNat) (.softwareResetWrite .mm (rstW 0))
    (fun t => t.sys.phase == .run) = true := by decide

theorem wit_warmResetAssert : (let d : Dev := { dv [(HST_ID_ID, 0, 5)] with sys := { phase := .warm, warmCause := 3 } };
    let t := (((d.devReset true).fs SYS_RST_CAUSE_WDT 1).fs SYS_RST_CAUSE_LAST 3).fresh.2.comeUp 1;
    !d.sys.testEn && t.sys.phase == .run && t.sys.sources == [2] && t.fg SYS_RST_CAUSE_WDT == 1 && t.fg SYS_RST_CAUSE_LAST == 3 &&
    t.fg HST_ID_ID == 0) = true := by decide

theorem wit_warmResetAssert_test : ok { sys := { phase := .warm, testEn := true } } (fun d => d.sys.testEn) .warmResetAssert (fun t => t.sys.phase == .hold) = true := by
  decide

theorem wit_sysReset_quiet : ok { sent 0x040 [0] {} with hst := { outst := [{ tag := 7, op := 0x040, payload := [0], started := true, noreply := true }] } }
    (fun d => isSent 0x040 [0] d && d.noReply .host 7) (.sysReset .host 7) (fun _ => true) = true := by decide

theorem wit_watchdogKick : ok { dv [(SYS_WDT_EN, 0, 1)] with clk := { ticks := 99 } } (acc (SYS_WDT_KICK_KEY.at 0) (0xC3 * 2 ^ SYS_WDT_KICK_KEY.lo))
    (.watchdogKick .mm (BitVec.ofNat 32 (0xC3 * 2 ^ SYS_WDT_KICK_KEY.lo))) (fun t => t.sys.wdtFrom == 99) = true := by decide

theorem wit_watchdogExpiry : ok { dv [(SYS_WDT_EN, 0, 1), (SYS_WDT_ACTION, 0, 0), (SYS_WDT_TIMEOUT, 0, 103)] with clk := { ticks := 80000000 } } (fun d => d.wdtDue)
    .watchdogExpiry (fun t => evs t == [127] && t.sys.wdtFrom == 80000000 && t.sys.phase == .run) = true := by decide

theorem wit_watchdogExpiry_reset : ok { dv [(SYS_WDT_EN, 0, 1), (SYS_WDT_ACTION, 0, 2), (SYS_WDT_TIMEOUT, 0, 103)] with clk := { ticks := 80000000 } } (fun d => d.wdtDue)
    .watchdogExpiry (fun t => t.sys.phase == .warm && t.sys.warmCause == 3) = true := by decide

theorem wit_sysReset : ok (sent 0x040 [0] {}) (fun d => isSent 0x040 [0] d && !d.legEnabled) (.sysReset .host 7)
    (fun t => t.sys.rstOwed == some (.host, 7) && reply t == some (.ok, []) && t.sys.phase == .run) = true := by decide

theorem wit_sysReset_refused : ok (sent 0x040 [0] (dv [(PWM_LEG_n_CTRL_EN, 23, 1)])) (fun d => isSent 0x040 [0] d && d.legEnabled) (.sysReset .host 7)
    (fun t => t.sys.rstOwed == none && reply t == some (.state, [])) = true := by decide

theorem wit_replyRelease_reset : ok { cmd7 { ver := 3, op := 0x040, done := some (.ok, []) } (dv [(HST_STAT_VER, 0, 3)]) with sys := { rstOwed := some (.host, 7) } }
    (fun d => d.pathVer .host != 1) (.replyRelease .host 7) (fun t => t.hst.replies.length == 1 && t.sys.phase == .warm && t.sys.rstOwed == none) = true := by decide +kernel

theorem wit_bootRefTimeout : ok { sys := { sources := [0, 1] } } (fun d => !d.fb CLK_REF_STAT_REF_OK && d.fg SYS_BOOT_STAT_STATE ≤ 1) .bootRefTimeout
    (fun t => t.sys.sources == [1] && t.fg SYS_BOOT_STAT_FAIL == 2 && t.fg SYS_BOOT_STAT_STATE == 1) = true := by decide

/-- A header of an image: magic, version, security version 3, sequence, no body. -/
def hdr (seq : Nat) : List Byte := leBytes 4 0x4F544C43 ++ leBytes 4 1 ++ leBytes 4 3 ++ leBytes 4 seq ++ List.replicate 304 0

theorem wit_bootSlotAttempt : ok (dv [(CLK_REF_STAT_REF_OK, 0, 1)] { sys := { sources := [0, 1] } }) (fun d => d.slotOrder (hdr 1) (hdr 2) == [1, 0])
    (.bootSlotAttempt (hdr 1) (hdr 2) true true true) (fun t => t.fg SYS_BOOT_STAT_STATE == 3 && t.fg SYS_BOOT_STAT_SRC == 2 && (t.sys.image.map (·.seq)) == some 2) = true := by
  decide

/-- A header whose version is not 1 is still tried by its sequence, and fails (R384). -/
theorem test_bootSlot_version : ok (dv [(CLK_REF_STAT_REF_OK, 0, 1)] { sys := { sources := [0, 1] } }) (fun d => d.slotOrder (hdr 1) (putAt (hdr 2) 4 [2]) == [1, 0])
    (.bootSlotAttempt (hdr 1) (putAt (hdr 2) 4 [2]) true true true) (fun t => t.fg SYS_BOOT_STAT_STATE == 1 && t.fg SYS_BOOT_STAT_FAIL == 3 && t.sys.sources == [0]) = true := by
  decide

theorem wit_bootSlotAttempt_svn : ok (dv [(CLK_REF_STAT_REF_OK, 0, 1), (SYS_BOOT_STAT_SVN_FUSED, 0, 4)] { sys := { sources := [0, 1] } })
    (fun d => d.slotOrder (hdr 1) (hdr 2) == [1, 0]) (.bootSlotAttempt (hdr 1) (hdr 2) true true true)
    (fun t => t.fg SYS_BOOT_STAT_STATE == 1 && t.fg SYS_BOOT_STAT_FAIL == 7 && t.sys.sources == [0]) = true := by decide

/-- Records of an image in slot A are being applied. -/
def bootDev (w : List Nat := []) : Dev := dv [(SYS_BOOT_STAT_STATE, 0, 3), (SYS_BOOT_STAT_SRC, 0, 1), (HST_ID_ID, 0, 5)]
  { sys := { sources := [0], image := some { seq := 9, debug := true }, written := w } }

theorem wit_bootRecordWrite : ok (bootDev) (fun d => d.applying && !d.recordBarred 0x04000000 4) (.bootRecordWrite 0x04000000 [0x0000FF00])
    (fun t => t.mem == [(0x04000001, 0xFF)] && t.sys.written == [0x0400]) = true := by decide

theorem wit_bootRecordWrite_barred : ok (bootDev) (fun d => d.applying && d.recordBarred 0x043C0000 4) (.bootRecordWrite 0x043C0000 [1])
    (fun t => t.mem == [] && t.fg SYS_BOOT_STAT_FAIL == 8 && t.fg SYS_BOOT_STAT_STATE == 5) = true := by decide

theorem wit_bootRecordWait : ok (bootDev) (fun d => d.applying && !d.recordBarred (HST_ID_ID.at 0) 4 && Dev.regSpan (HST_ID_ID.at 0) 1)
    (.bootRecordWait (BitVec.ofNat 32 (HST_ID_ID.at 0)) 7 5) (fun t => t.fg SYS_BOOT_STAT_STATE == 3) = true := by decide

theorem wit_bootRecordEnd : ok (bootDev) (fun d => d.applying) (.bootRecordEnd true)
    (fun t => t.fg SYS_BOOT_STAT_STATE == 4 && t.sys.running.seq == 9 && t.fg SYS_BOOT_STAT_DEBUG == 1) = true := by decide

theorem wit_bootRecordEnd_bad : ok (bootDev [0x2011]) (fun d => d.applying) (.bootRecordEnd false)
    (fun t => t.fg SYS_BOOT_STAT_STATE == 5 && t.fg SYS_BOOT_STAT_FAIL == 9) = true := by decide

theorem wit_lifecycleFuseProgram : ok {} (fun _ => true) .lifecycleFuseProgram (fun t => t.sys.secured && t.fg SYS_BOOT_STAT_SECURED == 0) = true := by decide

theorem wit_bootStatus : ok (sent 0x041 [] { sys := { running := { seq := 9, svn := 2 } } }) (isSent 0x041 []) (.bootStatus .host 7)
    (fun t => (reply t).map (fun r => (r.1, r.2.drop 8)) == some (.ok, [9, 0, 0, 0, 2, 0, 0, 0])) = true := by decide

/-- An image for `BOOT_IMAGE` stands at the start of SRAM. -/
def imgMem : List Host.Cell := [(0x04000000, 0x43), (0x04000001, 0x4C), (0x04000002, 0x54), (0x04000003, 0x4F), (0x04000004, 1)]

theorem wit_bootImage : ok (sent 0x042 [0, 0, 0, 4] (dv [(SYS_BOOT_STAT_STATE, 0, 2)] { mem := imgMem, sys := { sources := [2] } }))
    (fun d => isSent 0x042 [0, 0, 0, 4] d && d.imageFault (d.rdN 0x04000000 320) true true true == 0) (.bootImage .host 7 true true true)
    (fun t => reply t == some (.ok, []) && t.fg SYS_BOOT_STAT_STATE == 3 && t.fg SYS_BOOT_STAT_SRC == 3 && t.sys.imgLen == 320) = true := by decide

theorem wit_svnAdvance : ok (sent 0x043 [3, 0, 0, 0] { sys := { running := { svn := 3 } } }) (isSent 0x043 [3, 0, 0, 0]) (.svnAdvance .host 7)
    (fun t => t.fg SYS_BOOT_STAT_SVN_FUSED == 3 && reply t == some (.ok, [])) = true := by decide

theorem wit_svnAdvance_sess : ok { hst := { outst := [{ path := .sess 5, tag := 7, op := 0x043, started := true }] } } (fun _ => true) (.svnAdvance (.sess 5) 7)
    (fun t => (t.findCmd (.sess 5) 7).bind (·.done) == some (.auth, [])) = true := by decide

/-- An event is on its way. -/
def evDev (e : Evt) (l : List (Fld × Nat × Nat) := []) : Dev := { dv l with evt := { inflight := [e] } }

theorem wit_eventArrival : ok (evDev { num := 100, detail := 7, ts := 0x01020304 } [(EVT_CFG_e_LOG, 100, 1), (EVT_LOG_CFG_EN, 0, 1), (EVT_LOG_BASE_BASE, 0, 0x400000),
      (EVT_MASK_k_MASK, 3, 16)]) (fun d => !d.fb CEN_TRC_CTRL_ARM && d.fg EVT_CFG_e_OUT 100 == 0) .eventArrival
    (fun t => t.fg EVT_PEND_k_PEND 3 == 16 && t.fg HST_IRQ_EVT == 1 && t.fg EVT_LOG_PTR_WPTR == 1 && t.evt.inflight == [] &&
      t.rdN 0x04000000 12 == [4, 3, 2, 1, 0, 0, 0, 100, 7, 0, 0, 0]) = true := by decide

theorem wit_evtOutPulseStart : ok { evt := { out := vset (Vector.replicate 4 {}) 3 { wait := [5, 9] } }, clk := { ticks := 6 } } (fun _ => true) (.evtOutPulseStart 3)
    (fun t => (vget t.evt.out 3).busy && (vget t.evt.out 3).wait == [9] && t.fg EVT_OUT_n_CFG_LATE 3 == 1) = true := by decide

theorem wit_evtOutPulseEnd : ok (dv [(EVT_OUT_n_CFG_WIDTH, 3, 2)] { evt := { out := vset (Vector.replicate 4 {}) 3 { busy := true, rose := 6 } }, clk := { ticks := 1606 } }) (fun _ => true)
    (.evtOutPulseEnd 3) (fun t => !(vget t.evt.out 3).busy && (vget t.evt.out 3).lowUntil == 3206) = true := by decide

theorem wit_evtOutPulseEnd_early : ok (dv [(EVT_OUT_n_CFG_WIDTH, 3, 2)] { evt := { out := vset (Vector.replicate 4 {}) 3 { busy := true, rose := 7 } }, clk := { ticks := 1606 } })
    (fun _ => true) (.evtOutPulseEnd 3) (fun t => (vget t.evt.out 3).busy) = true := by decide

theorem wit_faultClassWrite : ok { pwm := { dlOcc := [1, 2] } } (acc (SYS_FCLS_k_LIMIT.at 2) (wd SYS_FCLS_k_LIMIT 2 9 {}))
    (.faultClassWrite .mm 2 (BitVec.ofNat 32 (wd SYS_FCLS_k_LIMIT 2 9 {}))) (fun t => t.fg SYS_FCLS_k_LIMIT 2 == 9 && t.pwm.dlOcc == []) = true := by decide

theorem wit_evtRead : ok (sent 0x050 [9, 0] (dv [(EVT_LOG_PTR_WPTR, 0, 1), (EVT_LOG_PTR_RPTR, 0, 0), (EVT_LOG_BASE_BASE, 0, 0x400000)] { mem := [(0x04000000, 8)] }))
    (isSent 0x050 [9, 0]) (.evtRead .host 7) (fun t => t.fg EVT_LOG_PTR_RPTR == 1 && reply t == some (.ok, 8 :: List.replicate 15 0)) = true := by decide

theorem wit_evtPending : ok (sent 0x051 [] (dv [(EVT_PEND_k_PEND, 2, 5)])) (isSent 0x051 []) (.evtPending .host 7)
    (fun t => (reply t).map (fun r => r.2.drop 8) == some [5, 0, 0, 0, 0, 0, 0, 0]) = true := by decide

theorem wit_evtClear : ok (sent 0x052 ([1] ++ List.replicate 15 0) (dv [(EVT_PEND_k_PEND, 0, 3)])) (isSent 0x052 ([1] ++ List.replicate 15 0)) (.evtClear .host 7)
    (fun t => t.fg EVT_PEND_k_PEND 0 == 2 && reply t == some (.ok, [])) = true := by decide

/-! ### Output pins -/

theorem wit_pins_clamped : (let d : Dev := { sys := { vddCore := false, phase := .hold }, pwm := { leg := vset (Vector.replicate 24 {}) 3 { outH := true } } };
    !d.coreOut && d.bankOk 0 && d.pinLegH 3 == .low) = true := by decide

theorem wit_pins_driven : (let d : Dev := { pwm := { leg := vset (Vector.replicate 24 {}) 3 { outH := true } } };
    d.coreOut && d.bankOk 0 && d.pinLegH 3 == .high && d.pinLegL 3 == .low && d.bankOk 3 && d.fb SAF_STAT_SAFE_ALL && d.pinStp 0 == .low) = true := by decide

theorem wit_pins_released : (let d := dv [(SYS_IOBANK_BANK_0, 0, 3), (SYS_IOBANK_BANK_3, 0, 0)]; d.coreOut && !d.bankOk 0 && !d.bankOk 3 && d.pinLegH 3 == .z && d.pinSrd 1 == .z) = true := by
  decide

theorem wit_clamp : ok {} (fun d => d.sys.vddCore && d.coreOut) .vddCoreFall (fun t => !t.coreOut && t.pinEvt 0 == .low && t.bankOk 0) = true := by decide

theorem wit_clamp_ends : ok { sys := { phase := .hold } } (fun d => d.sys.phase != .run) (.resetRelease 0) (fun t => t.coreOut) = true := by decide

/-! ### Networks, DRAM, Neriq Link -/

/-- Engines, port 0 and its link are on. -/
def netOn (l : List (Fld × Nat × Nat)) (d : Dev := {}) : Dev := dv l (dv [(NET_CTRL_EN, 0, 1), (NET_PORT_x_CFG_EN, 0, 1), (NET_PORT_x_STAT_LINK, 0, 1)] d)

/-- A broadcast frame of 60 bytes with an Ethertype. -/
def bcast (et : Nat) : List Byte := List.replicate 12 0xFF ++ beBytes 2 et ++ List.replicate 46 0

theorem wit_ethLinkChange : ok (netOn []) (fun _ => true) (.ethLinkChange 0 false false 0)
    (fun t => t.fg NET_PORT_x_STAT_LINK 0 == 0 && t.fg NET_PORT_x_STAT_LINK_SEEN 0 == 1 && evs t == [88]) = true := by decide

theorem wit_ethLinkChange_half : ok (netOn [(NET_PORT_x_STAT_LINK, 0, 0)]) (fun _ => true) (.ethLinkChange 0 true true 2)
    (fun t => t.fg NET_PORT_x_STAT_LINK 0 == 0 && t.fg NET_PORT_x_STAT_HALF 0 == 1 && t.fg NET_PORT_x_STAT_SPEED 0 == 2 && evs t == []) = true := by decide

/-- Receive ring 16 of two descriptors at the start of SRAM, both owned, buffers of 64 bytes. -/
def rxDev : Dev := netOn [(NET_RING_r_CFG_EN, 16, 1), (NET_RING_r_CFG_SIZE, 16, 4), (NET_RING_r_BASE_BASE, 16, 0x400000), (NET_RING_r_TAIL_TAIL, 16, 2),
    (NET_RING_r_MATCH_PORTS, 16, 1), (NET_RING_r_MATCH_KIND, 16, 0), (NET_RING_r_MATCH_VALUE, 16, 0x1234)]
  { mem := [(0x04000000, 64), (0x04000003, 0x80), (0x04000005, 1), (0x04000007, 4)] }

theorem wit_ethFrameReceived : ok rxDev (fun d => d.macFilter 0 ((bcast 0x1234).take 6) && !d.isSession 0 (parse (bcast 0x1234)) (bcast 0x1234))
    (.ethFrameReceived 0 (bcast 0x1234 ++ leBytes 4 (fcs (bcast 0x1234))) none)
    (fun t => t.fg NET_RING_r_HEAD_HEAD 16 == 1 && t.fg NET_RING_r_CNT_FRAMES 16 == 1 && t.rdN 0x0400010C 2 == [0x12, 0x34] && t.rdN 0x04000000 4 == [60, 0, 16, 0x60]) = true := by
  decide +kernel

theorem wit_ethFrameReceived_other : ok (netOn []) (fun d => !d.macFilter 0 ((2 :: (bcast 0x1234).drop 1).take 6))
    (.ethFrameReceived 0 ((2 :: (bcast 0x1234).drop 1) ++ leBytes 4 (fcs (2 :: (bcast 0x1234).drop 1))) (some 9)) (fun t => evs t == [] && t.mem == []) = true := by
  decide +kernel

theorem wit_ethFrameReceived_fcs : ok (netOn []) (fun _ => leNat [0, 0, 0, 0] != fcs (bcast 0x1234)) (.ethFrameReceived 0 (bcast 0x1234 ++ [0, 0, 0, 0]) none)
    (fun t => t.fg NET_PORT_x_STAT_FCS_CNT 0 == 1) = true := by decide +kernel

/-- A PAUSE frame of two quanta. -/
def pauseFrame : List Byte := beBytes 6 0x0180C2000001 ++ List.replicate 6 2 ++ beBytes 2 0x8808 ++ beBytes 2 1 ++ beBytes 2 2 ++ List.replicate 42 0

theorem wit_ethFrameReceived_pause : ok (netOn [(NET_PORT_x_CFG_PAUSE_RX, 0, 1), (NET_PORT_x_STAT_SPEED, 0, 2)]) (fun d => d.clk.refPresent)
    (.ethFrameReceived 0 (pauseFrame ++ leBytes 4 (fcs pauseFrame)) none) (fun t => vget t.net.pause 0 == 820) = true := by decide +kernel

theorem wit_pauseSend : ok (netOn [(NET_PORT_x_CFG_PAUSE_TX, 0, 1)]) (fun d => d.fb NET_PORT_x_CFG_PAUSE_TX 0)
    (.ethFrameReceived 0 (bcast 0x1234 ++ leBytes 4 (fcs (bcast 0x1234))) (some 9)) (fun t => t.tx.length == 1) = true := by decide +kernel

theorem wit_ringTailWrite : ok (netOn [(NET_RING_r_CFG_SIZE, 31, 4)]) (acc (NET_RING_r_TAIL_TAIL.at 31) 3) (.ringTailWrite .mm 31 3)
    (fun t => t.fg NET_RING_r_TAIL_TAIL 31 == 3) = true := by decide

/-- Transmit ring 0 of port 0 has one frame of 4 bytes, and the port has taken it up. -/
def txDev (l : List (Fld × Nat × Nat)) : Dev := netOn l (dv [(NET_RING_r_CFG_EN, 0, 1), (NET_RING_r_CFG_SIZE, 0, 4), (NET_RING_r_BASE_BASE, 0, 0x400000), (NET_RING_r_TAIL_TAIL, 0, 1)]
  { mem := [(0x04000000, 4), (0x04000003, 0xA0), (0x04000005, 1), (0x04000007, 4)], net := { txCur := vset (Vector.replicate 2 none) 0 (some 0) } })

theorem wit_txFrameComplete : ok (txDev [(NET_PORT_x_STAT_LINK, 0, 0)]) (fun d => d.ringOn 0 && d.txFrame 0 == .full [0] 1) (.txFrameComplete 0)
    (fun t => t.fg NET_RING_r_HEAD_HEAD 0 == 1 && t.fg NET_RING_r_CNT_FRAMES 0 == 1 && t.rdN 0x04000000 4 == [4, 0, 1, 0x20] && t.tx == []) = true := by decide

theorem wit_txFrameComplete_sent : (let d := txDev []; d.ringOn 0 && d.txFrame 0 == .full [0] 1 && vget d.net.txCur 0 == some 0 && d.txGather 0 [0] == [0, 0, 0, 0]) = true := by
  decide

/-- Session 5 of port 0, local port 4000, tag 77. -/
def sessDev (l : List (Fld × Nat × Nat) := []) : Dev := netOn l (dv [(NET_CTX_s_0_EN, 5, 1), (NET_CTX_s_1_LPORT, 5, 4000), (NET_CTX_s_8_LTAG, 5, 77)])

/-- A session packet with a number, no payload, and a tag of zeros. -/
def sessPkt (n : Nat) : List Byte := [1, 0, 0, 0] ++ leBytes 4 77 ++ leBytes 8 n ++ List.replicate 16 0

theorem wit_sessionPacketReceived_none : ok (sessDev) (fun d => d.sessOf 0 4001 77 == none) (.sessionPacketReceived 0 4001 (sessPkt 9)) (fun t => evs t == []) = true := by decide

theorem wit_sessionPacketReceived_replay : ok (sessDev [(NET_CTX_s_14_RXNUM_LO, 5, 73)]) (fun d => d.sessOf 0 4000 77 == some 5 && !d.notReplay 5 9)
    (.sessionPacketReceived 0 4000 (sessPkt 9)) (fun t => evs t == [93] && t.fg NET_SESS_s_STAT_REPLAY_CNT 5 == 1) = true := by decide

theorem wit_sessionPacketReceived_auth : ok (sessDev [(NET_CTX_s_14_RXNUM_LO, 5, 72)]) (fun d => d.notReplay 5 9 && d.sessPlain 5 (sessPkt 9) == none)
    (.sessionPacketReceived 0 4000 (sessPkt 9)) (fun t => evs t == [92] && t.fg NET_SESS_s_STAT_AUTH_CNT 5 == 1 && t.fg NET_CTX_s_14_RXNUM_LO 5 == 72) = true := by decide

theorem wit_sessDeliver : (({ sessDev [(NET_CTX_s_0_DEST, 5, 1), (NET_CTX_s_0_CMD, 5, 0)] with free := 3 } : Dev).sessDeliver 0 5 0 [1]).fg NET_SESS_s_STAT_TYPE_CNT 5 = 1 := by
  decide

/-- Session 5 with a key. -/
def keyDev (l : List (Fld × Nat × Nat) := []) : Dev := (sessDev l).keyPut 0 (some [1])

theorem wit_sessSend : (let d := keyDev; d.sessReady 5 && d.txKey 5 == some [1] && d.ethUp (d.sessPort 5) && !d.sessLong 5 3) = true := by decide

theorem wit_sessSend_exhausted : (let d := keyDev [(NET_CTX_s_12_TXNUM_LO, 5, 2 ^ 32 - 1), (NET_CTX_s_13_TXNUM_HI, 5, 2 ^ 32 - 1)];
    evs (d.sessSend 5 5 [1]) == [94] && (d.sessSend 5 5 [1]).tx == []) = true := by decide

/-- The servo has run through 15 offsets within its limit. -/
def servoDev (n : Nat) (l : List (Fld × Nat × Nat) := []) : Dev := dv l (dv [(NET_PTP_CFG_LOCK_TH, 0, 100), (NET_PTP_CFG_STEP_TH, 0, 1)] { net := { inRun := n, outRun := 3 } })

theorem wit_servo_step : (let d := (servoDev 15 [(NET_PTP_STAT_LOCKED, 0, 1)]).servoOffset 1001;
    d.fg NET_PTP_STAT_LOCKED == 0 && evs d == [102] && d.clk.ofs == some (-1001) && d.net.inRun == 0) = true := by decide

theorem wit_bestMaster : (let q : PtpMaster := { port := [1], rank := 2 ^ 64 + 1, seen := [10, 5], wait := 9 }; let r : PtpMaster := { port := [2], rank := 2, seen := [10, 5], wait := 9 };
    Dev.bestMaster 12 [q, r] == some r && Dev.bestMaster 12 [{ q with seen := [10] }] == none) = true := by decide

theorem wit_ptpHeard : (let m : List Byte := [9, 2] ++ List.replicate 18 0 ++ List.replicate 10 7 ++ [0, 5] ++ List.replicate 8 0 ++ beBytes 4 500 ++ ({} : Dev).ownPtpId 0;
    let d : Dev := { net := { ptp := { best := some (List.replicate 10 7), req := some (5, 100), ms := 200 } } };
    (d.ptpHeard 0 {} [] m 9).net.ptp.path == some 300) = true := by decide

theorem wit_interfaceClocks : ok { clk := { refPresent := false } } (fun d => !d.laneUp 0) (.dramTrainingComplete true) (fun t => t.fg DRC_STAT_READY == 0) = true := by decide

theorem wit_keyLoadWrite : ok (dv [(NET_KEY_DATA_k_KEY, 0, 0x01020304)]) (fun d => !d.keyNamed 127 && acc (NET_KEY_CTRL_OP.at 0) (2 ^ NET_KEY_CTRL_OP.lo + 127 * 2 ^ NET_KEY_CTRL_SLOT.lo) d)
    (.keyLoadWrite .mm 127) (fun t => vget t.net.key 127 == some ([4, 3, 2, 1] ++ List.replicate 28 0) && t.fg NET_KEY_VALID_k_VALID 3 == 2 ^ 31 && t.fg NET_KEY_DATA_k_KEY 0 == 0) = true := by
  decide

theorem wit_keyEraseWrite : ok (({} : Dev).keyPut 127 (some [1])) (fun d => !d.keyNamed 127) (.keyEraseWrite .mm 127)
    (fun t => vget t.net.key 127 == none && t.fg NET_KEY_VALID_k_VALID 3 == 0) = true := by decide

/-- The payload of `NET_SESS_OPEN` for session 127. -/
def openPl : List Byte := [127, 0, 0, 0] ++ [4, 0, 16, 0] ++ List.replicate 28 0 ++ [9, 8, 7, 6] ++ List.replicate 8 0 ++ [5, 4, 3, 2] ++ List.replicate 16 0

theorem wit_netSessOpen : ok (sent 0x802 openPl {}) (fun d => isSent 0x802 openPl d && ctxOk (openPl.drop 4)) (.netSessOpen .host 7)
    (fun t => t.fg NET_CTX_s_0_EN 127 == 1 && t.fg NET_CTX_s_8_LTAG 127 == 0x06070809 && t.fg NET_CTX_s_11_SALT 127 == 0x02030405 && reply t == some (.ok, [])) = true := by
  decide

theorem wit_netSessClose : ok (let d := sent 0x803 [5] (sessDev); { d with hst := { d.hst with outst := d.hst.outst ++ [{ path := .sess 5, tag := 1, op := 3 }] } })
    (isSent 0x803 [5]) (.netSessClose .host 7) (fun t => t.fg NET_CTX_s_0_EN 5 == 0 && t.findCmd (.sess 5) 1 == none && reply t == some (.ok, [])) = true := by decide

theorem wit_netKeyLoad : ok (sent 0x804 ([127, 0, 0, 0] ++ List.replicate 32 3) {}) (isSent 0x804 ([127, 0, 0, 0] ++ List.replicate 32 3)) (.netKeyLoad .host 7)
    (fun t => vget t.net.key 127 == some (List.replicate 32 3) && reply t == some (.ok, [])) = true := by decide

theorem wit_netKeyLoad_auth : (let d : Dev := { hst := { outst := [{ path := .sess 5, tag := 7, op := 0x804, started := true, payload := [127, 0, 0, 0] ++ List.replicate 32 3 }] } };
    !d.keyPath (.sess 5) && holds (.netKeyLoad (.sess 5) 7) (st d) fun t => (t.findCmd (.sess 5) 7).bind (·.done) == some (.auth, [])) = true := by decide

theorem wit_netRekey : ok (sent 0x805 [5, 127] (({} : Dev).keyPut 127 (some [1]))) (isSent 0x805 [5, 127]) (.netRekey .host 7)
    (fun t => t.fg NET_CTX_s_10_KEY1 5 == 127 && t.fg NET_CTX_s_10_TXPH 5 == 1 && reply t == some (.ok, [])) = true := by decide

theorem wit_drcEnable : ok { drc := { selfRefresh := true } } (acc (DRC_CTRL_EN.at 0) (wd DRC_CTRL_EN 0 1 {})) (.drcEnable .mm (BitVec.ofNat 32 (wd DRC_CTRL_EN 0 1 {})))
    (fun t => t.drc.training && !t.drc.selfRefresh && t.fg DRC_CTRL_EN == 1) = true := by decide

theorem wit_dramTrainingComplete : ok { drc := { training := true } } (fun _ => true) (.dramTrainingComplete true)
    (fun t => t.fg DRC_STAT_READY == 1 && t.fg DRC_STAT_TRAIN_SEQ == 1 && !t.drc.training) = true := by decide

theorem wit_dramZqCalTimer : ok {} (fun _ => true) .dramZqCalTimer (fun t => t == {}) = true := by decide

theorem wit_dramDqsCheckTimer : ok (dv [(DRC_STAT_READY, 0, 1)]) (fun _ => true) (.dramDqsCheckTimer true) (fun t => t.fg DRC_STAT_TRAIN_SEQ == 1) = true := by decide

theorem wit_dramScrubPass : ok (dv [(DRC_STAT_READY, 0, 1), (DRC_CTRL_SCRUB_H, 0, 1)]) (fun d => d.inDram 0x80000000 && d.inDram 0x80000010) (.dramScrubPass [0x80000000] [0x80000013])
    (fun t => t.fg DRC_ECC_CE_CNT == 1 && t.drc.ue == [0x80000010] && evs t == [125, 126] && t.fg DRC_STAT_UE == 1) = true := by decide

theorem wit_nqlEnable : (let w := NQL_CTRL_EN.lo; let v := 2 ^ w + 2 ^ NQL_CTRL_L0_EN.lo + 16 * 2 ^ NQL_CTRL_RX_RING.lo; ok {} (acc (NQL_CTRL_EN.at 0) v) (.nqlEnable .mm (BitVec.ofNat 32 v))
    (fun t => t.fg NQL_LANE_l_STAT_STATE 0 == 1 && t.fg NQL_LANE_l_STAT_STATE 1 == 0)) = true := by decide

/-- Lane 1 in a state, this node 3. -/
def laneDev (st : Nat) (l : List (Fld × Nat × Nat) := []) (d : Dev := {}) : Dev := dv l (dv [(NQL_LANE_l_STAT_STATE, 1, st), (NQL_CTRL_NODE, 0, 3)] d)

theorem wit_laneSyncAchieved : ok (laneDev 1 [(NQL_LANE_l_STAT_NOSIG, 1, 1)]) (fun _ => true) (.laneSyncAchieved 1)
    (fun t => t.fg NQL_LANE_l_STAT_STATE 1 == 2 && t.fg NQL_LANE_l_STAT_NOSIG 1 == 0 && t.fg NQL_LANE_l_STAT_TRAIN_CNT 1 == 1) = true := by decide

theorem wit_laneNosigTimeout : ok (laneDev 1) (fun _ => true) (.laneNosigTimeout 1) (fun t => t.fg NQL_LANE_l_STAT_NOSIG 1 == 1) = true := by decide

theorem wit_laneTrained : ok (laneDev 2) (fun _ => true) (.laneTrained 1 15) (fun t => t.fg NQL_LANE_l_STAT_STATE 1 == 3 && t.fg NQL_LANE_l_DLY_PEER 1 == 15 && t.tx.length == 16) = true := by
  decide

theorem wit_laneTrained_conflict : ok (laneDev 2) (fun _ => true) (.laneTrained 1 3) (fun t => t.fg NQL_STAT_CONFLICT == 1 && evs t == [99] && t.fg NQL_LANE_l_STAT_STATE 1 == 2) = true := by
  decide

theorem wit_pingReceived : ok (laneDev 2) (fun _ => true) (.pingReceived 1 255 9) (fun t => t.tx == [.ordered 1 2 255 9]) = true := by decide

theorem wit_echoReceived : ok (laneDev 5 [] { nql := { lane := vset (Vector.replicate 2 {}) 1 { dly := List.replicate 16 100 } } }) (fun _ => true) (.echoReceived 1 0 100 332)
    (fun t => t.fg NQL_LANE_l_DLY_DLY 1 == 101 && t.fg NQL_LANE_l_DLY_VALID 1 == 1 && (vget t.nql.lane 1).dly == 116 :: List.replicate 15 100) = true := by decide

theorem wit_pingTimer : ok (laneDev 5) (fun _ => true) (.pingTimer 1) (fun t => t.tx == [.ordered 1 1 1 0]) = true := by decide

theorem wit_capFrameReceived : ok (laneDev 4 [(NQL_LANE_l_DLY_PEER, 1, 15)]) (fun _ => true) (.capFrameReceived 1 ⟨15, 15⟩ ([1, 1, 0x60, 9, 1, 15, 0x40, 0] ++ List.replicate 8 0))
    (fun t => t.fg NQL_LANE_l_STAT_STATE 1 == 5 && t.fg NQL_STAT_NODES == 0x8000 && (vget t.nql.node 15).feat == 0x40 && (evs t).contains 97) = true := by decide

theorem wit_capFrameReceived_bad : ok (laneDev 4 [(NQL_LANE_l_DLY_PEER, 1, 15)]) (fun _ => true) (.capFrameReceived 1 ⟨15, 15⟩ ([3, 2] ++ List.replicate 14 0))
    (fun t => t.fg NQL_LANE_l_STAT_STATE 1 == 4 && evs t == [99]) = true := by decide

theorem wit_nodePresenceTimeout : ok (laneDev 5 [(NQL_STAT_NODES, 0, 0x8000)] { clk := { ticks := 2400000000 } }) (fun _ => true) (.nodePresenceTimeout 15) (fun t => t.fg NQL_STAT_NODES == 0) = true := by
  decide

theorem wit_laneErrorBurst : ok (laneDev 5) (fun _ => true) (.laneErrorBurst 1) (fun t => t.fg NQL_LANE_l_STAT_STATE 1 == 1 && (evs t).contains 98) = true := by decide

theorem wit_nqlFrameBad : ok (laneDev 5) (fun _ => true) (.nqlFrameBad 1 true) (fun t => t.fg NQL_LANE_l_STAT_CODE_CNT 1 == 1 && t.fg NQL_LANE_l_STAT_CRC_CNT 1 == 0) = true := by decide

/-- A frame of two bytes of payload from node 7 to node 9 with 5 hops left. -/
def nqlSome : List Byte := let h := [0x40, 9, 7, 5, 2, 0, 1, 0, 0xAA, 0xBB]; h ++ leBytes 4 (crc32c h)

theorem wit_nqlFrameForward : ok (laneDev 5 [(NQL_LANE_l_STAT_STATE, 0, 5)]) (fun d => nqlFrameOk nqlSome && d.laneUp 0) (.nqlFrameForward 1 nqlSome)
    (fun t => t.tx.length == 1 && nqlFrameOk (rehop nqlSome) && byteAt (rehop nqlSome) 3 == 4 && t.tx == [.fwd 0 4 (rehop nqlSome)]) = true := by decide +kernel

theorem wit_nqlFrameForward_bad : ok (laneDev 5) (fun _ => !nqlFrameOk [1]) (.nqlFrameForward 1 [1]) (fun t => t.fg NQL_LANE_l_STAT_CRC_CNT 1 == 1) = true := by decide

theorem wit_nqlDataFrameReceived : ok (laneDev 5 [(NQL_CTRL_RX_RING, 0, 16)]) (fun _ => true) (.nqlDataFrameReceived 1 15 9 [1])
    (fun t => t.nql.seen == [(15, 9)] && t.fg NET_RING_r_CNT_DROP_CNT 16 == 1) = true := by decide

theorem wit_nqlDataFrameReceived_again : ok (laneDev 5 [] { nql := { seen := [(15, 9)] } }) (fun _ => true) (.nqlDataFrameReceived 1 15 9 [1]) (fun t => evs t == []) = true := by decide

theorem wit_capBroadcastTimer : ok (laneDev 5 [] { nql := { seq := 65535 } }) (fun d => d.linkUp) .capBroadcastTimer
    (fun t => (match t.tx with
      | [.nql l f] => l == 1 && nqlFrameOk f && f.take 24 == [1, 0xFF, 3, 0x2F, 16, 0, 0xFF, 0xFF, 1, 1, 0x60, 9, 0xA1, 3, 0xFF, 0, 0, 2, 0, 0, 0, 0, 0, 0]
      | _ => false) && t.nql.seq == 0) = true := by decide +kernel

theorem wit_lanesTo : (let d := laneDev 5 [(NQL_LANE_l_STAT_STATE, 0, 5)] { nql := { node := vset (Vector.replicate 16 {}) 15 { hops := vset (vset (Vector.replicate 2 0) 0 13) 1 15 } } };
    d.laneUp 0 && d.laneUp 1 && d.lanesTo 15 == [1] && d.lanesTo 0xFF == [0, 1]) = true := by decide

theorem wit_nqlSend : ok (sent 0x807 [0xFF, 1, 2] (laneDev 5)) (fun d => isSent 0x807 [0xFF, 1, 2] d && d.linkUp) (.nqlSend .host 7)
    (fun t => t.nql.dataQ == [(0xFF, [1, 2])] && reply t == some (.ok, [])) = true := by decide

theorem wit_nqlSend_busy : ok (sent 0x807 [0xFF, 1, 2] (laneDev 5 [] { nql := { dataQ := List.replicate 16 (1, []) } })) (fun d => d.linkUp) (.nqlSend .host 7)
    (fun t => reply t == some (.busy, [])) = true := by decide

/-! ### Lamplighter -/

/-- Lamplighter runs on hub 5 of district 2, its directory at the start of DRAM. -/
def lmpDev (l : List (Fld × Nat × Nat) := []) (d : Dev := {}) : Dev :=
  dv l (dv [(LMP_CTRL_EN, 0, 1), (LMP_HUB_HUB_ID, 0, 5), (LMP_HUB_DISTRICT, 0, 2), (DRC_STAT_READY, 0, 1), (LMP_DIR_BASE_BASE, 0, 0x800), (LMP_SCHED_BASE_BASE, 0, 0x1100)] d)

/-- The device with an entry added to its directory. -/
def lampAdd (e : List Byte) (d : Dev) : Dev :=
  let r := (d.newE e).2
  { r with mem := (memLand (r.lost, r.mem) r.out).2, out := [] }

/-- An entry of endpoint 9 on port 1, served by hub 5, with fields set. -/
def lampEnt (l : List (Nat × Nat × Nat) := []) : List Byte :=
  l.foldl (fun e x => eput e x.1 x.2.1 x.2.2) (joinEntry (lmpDev) 1 9 0x1234)

/-- Port 1 runs in SPI mode. -/
def portDev (st : Nat) (l : List (Fld × Nat × Nat) := []) : Dev :=
  lmpDev l (dv [(LMP_PORT_p_CFG_EN, 1, 1), (LMP_PORT_p_CFG_MODE, 1, 1), (LMP_PORT_p_STAT_STATE, 1, st), (LMP_PORT_p_PAN_PAN, 1, 0x0102)])

/-- The check value of this CRC-16 over the digits 1 to 9 is 0x29B1. -/
theorem test_crc16 : crc16 [0x31, 0x32, 0x33, 0x34, 0x35, 0x36, 0x37, 0x38, 0x39] = 0x29B1 := by decide +kernel

theorem test_plmFrame : (Dev.plmFrame 6 3 [0, 0]).take 7 = [0xA5, 4, 0, 6, 3, 0, 0] ∧ (Dev.plmFrame 6 3 [0, 0]).length = 9 := by decide +kernel

theorem wit_plcPortEnable : ok (lmpDev [(LMP_PORT_p_CFG_MODE, 1, 1), (LMP_PORT_p_PAN_PAN, 1, 0x0102)]) (fun d => acc (LMP_PORT_p_CFG_EN.at 1) (wd LMP_PORT_p_CFG_EN 1 1 d) d)
    (.plcPortEnable .mm 1 (BitVec.ofNat 32 (wd LMP_PORT_p_CFG_EN 1 1 (lmpDev [(LMP_PORT_p_CFG_MODE, 1, 1), (LMP_PORT_p_PAN_PAN, 1, 0x0102)]))))
    (fun t => t.fg LMP_PORT_p_STAT_STATE 1 == 1 && t.tx == [.plm 1 (Dev.plmFrame 8 0 [2, 1])]) = true := by decide +kernel

theorem wit_networkStartConfirm : ok (portDev 1) (fun d => d.portOn 1) (.networkStartConfirm 1 0) (fun t => t.fg LMP_PORT_p_STAT_STATE 1 == 2) = true := by decide

theorem wit_networkStartConfirm_bad : ok (portDev 1) (fun d => d.portOn 1) (.networkStartConfirm 1 7)
    (fun t => t.fg LMP_PORT_p_STAT_STATE 1 == 3 && t.fg LMP_PORT_p_STAT_DOWN_SEEN 1 == 1 && evs t == [106] && (vget t.lmp.port 1).rst) = true := by decide

theorem wit_dataConfirm : ok (portDev 2) (fun _ => true) (.dataConfirm 1 3 4) (fun t => t == portDev 2) = true := by decide

theorem wit_joinNotification : ok (portDev 2) (fun d => d.lookup (leBytes 8 9) == none && (d.newE (joinEntry d 1 9 0x1234)).1 == some 0) (.joinNotification 1 9 0x1234)
    (fun t => t.lmp.used == [0] && (t.ent 0).isSome && leAt (t.rawE 0) 0 8 == 9 && leAt (t.rawE 0) 8 2 == 0x1234 && leAt (t.rawE 0) 12 2 == 5 && (evs t).contains 105 &&
      t.lookup (leBytes 8 9) == some (crc32c (leBytes 8 9) % 524288, 0)) = true := by decide +kernel

theorem wit_joinNotification_again : ok (lampAdd (lampEnt) (portDev 2)) (fun d => (d.lookup (leBytes 8 9)).isSome && (d.ent 0).isSome) (.joinNotification 1 9 0x4321)
    (fun t => leAt (t.rawE 0) 8 2 == 0x4321 && leAt (t.rawE 0) 36 4 == 1) = true := by decide +kernel

theorem wit_leaveNotification : ok (lampAdd (lampEnt) (portDev 2)) (fun d => (d.lookup (leBytes 8 9)).isSome && (d.ent 0).isSome) (.leaveNotification 1 9 0)
    (fun t => leAt (t.rawE 0) 8 2 == 0xFFFF) = true := by decide +kernel

theorem wit_getConfirm : ok { portDev 2 with lmp := { port := vset (Vector.replicate 4 {}) 1 { miss := 3 } } } (fun _ => true) (.getConfirm 1) (fun t => (vget t.lmp.port 1).miss == 0) = true := by
  decide

theorem wit_modemRestart : ok (portDev 2) (fun d => d.portOn 1) (.modemRestart 1) (fun t => t.fg LMP_PORT_p_STAT_STATE 1 == 1) = true := by decide

theorem wit_plcFrameBad : ok (portDev 2) (fun _ => true) (.plcFrameBad 1) (fun t => t.fg LMP_PORT_p_STAT_CRC_CNT 1 == 1) = true := by decide

theorem wit_plcKeepaliveTimer : ok (portDev 2) (fun d => d.portUp 1) (.plcKeepaliveTimer 1) (fun t => (vget t.lmp.port 1).miss == 1 && t.tx == [.plm 1 (Dev.plmFrame 6 0 [0, 0])]) = true := by
  decide +kernel

theorem wit_plcKeepaliveTimer_down : ok { portDev 2 with lmp := { port := vset (Vector.replicate 4 {}) 1 { miss := 3 } } } (fun d => d.portUp 1) (.plcKeepaliveTimer 1)
    (fun t => t.fg LMP_PORT_p_STAT_STATE 1 == 3) = true := by decide

theorem wit_plcResetTimer : ok { portDev 3 with lmp := { port := vset (Vector.replicate 4 {}) 1 { rst := true } } } (fun _ => true) (.plcResetTimer 1)
    (fun t => t.fg LMP_PORT_p_STAT_STATE 1 == 1 && !(vget t.lmp.port 1).rst) = true := by decide

theorem wit_modemHandshakeLine : ok { portDev 2 [(LMP_PORT_p_CFG_MODE, 1, 0)] with lmp := { port := vset (Vector.replicate 4 {}) 1 { q := [(6, [0, 0])] } } }
    (fun d => !d.fb LMP_PORT_p_CFG_MODE 1) (.modemHandshakeLine 1) (fun t => t.tx == [.plm 1 (Dev.plmFrame 6 0 [0, 0])] && (vget t.lmp.port 1).q == []) = true := by decide +kernel

/-- Lamplighter with one entry, and with transactions. -/
def lampT (e : List Byte) (ts : List Txn) (l : List (Fld × Nat × Nat) := []) : Dev := (lampAdd e (portDev 2 l)).updLmp fun x => { x with txns := ts }

theorem wit_endpointHelloRsp : ok (lampT (lampEnt [(30, 2, 50)]) [{ sent := true, num := 3, req := .hello }]) (fun d => d.lmpOn && (d.ent 0).isSome)
    (.endpointHelloRsp 3 0 9 1 77) (fun t => byteAt (t.rawE 0) 16 == 2 && leAt (t.rawE 0) 30 2 == 50 && t.lmp.txns == []) = true := by decide +kernel

theorem wit_endpointStatus_late : ok (lampT (lampEnt) []) (fun _ => true) (.endpointStatus 3 2 9 0 0 0) (fun t => byteAt (t.rawE 0) 71 == 0) = true := by decide +kernel

theorem wit_endpointStatus : ok (lampT (lampEnt [(16, 1, 2)]) [{ sent := true, num := 3, req := .poll }]) (fun d => d.lmpOn && (d.ent 0).isSome && d.utc == none)
    (.endpointStatus 3 2 9 0 1000 0) (fun t => byteAt (t.rawE 0) 71 == 9 && leAt (t.rawE 0) 80 4 == 1000 && t.lmp.txns == [] && (t.ent 0).isSome) = true := by decide +kernel

theorem wit_endpointAck : ok (lampT (lampEnt [(16, 1, 2), (70, 1, 9)]) [{ sent := true, num := 3, req := .set 9 0 }]) (fun d => (d.ent 0).isSome && d.utc == none)
    (.endpointAck 3 2 0 9) (fun t => byteAt (t.rawE 0) 71 == 9 && t.lmp.txns == []) = true := by decide +kernel

theorem wit_transactionStart : ok (lampT (lampEnt [(11, 1, 0x14)]) [{ cls := 3 }, { cls := 1, req := .set 9 0 }] [(LMP_GW_g_EN, 1, 1), (LMP_GW_g_SESSION, 1, 5), (NET_CTX_s_0_EN, 5, 1)])
    (fun d => d.lmp.txns.all d.txnMayStart) .transactionStart
    (fun t => t.lmp.txns.map (fun x => (x.cls, x.sent, x.path)) == [(3, false, 0), (1, true, 0x14)] && t.lmp.txnNum == 1) = true := by decide +kernel

theorem wit_transactionResponseTimeout : ok (lampT (lampEnt) [{ sent := true, num := 3, path := 1 }] [(LMP_POLL_RETRY, 0, 1)]) (fun _ => true) (.transactionResponseTimeout 3)
    (fun t => t.lmp.txns.map (·.tries) == [1] && t.tx.length == 1) = true := by decide +kernel

theorem wit_transactionResponseTimeout_last : ok (lampT (lampEnt) [{ sent := true, num := 3, path := 1 }] [(LMP_POLL_RETRY, 0, 0)]) (fun _ => true) (.transactionResponseTimeout 3)
    (fun t => t.lmp.txns == [] && t.fg LMP_PORT_p_CNT_FAIL_CNT 1 == 1 && byteAt (t.rawE 0) 73 == 1) = true := by decide +kernel

theorem wit_pollDue : ok (lampT (lampEnt [(16, 1, 2)]) [] [(LMP_CTRL_POLL_EN, 0, 1)]) (fun d => (d.servedE 0).isSome) (.pollDue 0)
    (fun t => t.lmp.txns == [{ cls := 3, req := .poll }]) = true := by decide +kernel

/-- PTP time is valid and stands at a second. -/
def atSec (n : Nat) (d : Dev) : Dev := dv [(CLK_PTP_CTRL_TIME_VALID, 0, 1)] { d with clk := { d.clk with ptpSec := n } }

theorem wit_localMinuteBoundary : ok (atSec 600 (lmpDev [(LMP_CTRL_SCHED_EN, 0, 1), (LMP_TZ_UTC_OFS, 0, 0), (LMP_TZ_TZ, 0, 0)] { lmp := { minute := some 9 } })) (fun d => d.localMin == some 10)
    .localMinuteBoundary (fun t => t.lmp.minute == some 10) = true := by decide

theorem wit_localMinuteBoundary_back : ok (atSec 480 (lmpDev [(LMP_CTRL_SCHED_EN, 0, 1), (LMP_TZ_UTC_OFS, 0, 0), (LMP_TZ_TZ, 0, 0)] { lmp := { minute := some 9 } })) (fun d => d.localMin == some 8)
    .localMinuteBoundary (fun t => t.lmp.minute == some 9) = true := by decide

theorem wit_overrideExpiry : ok (atSec 600 (lampT (lampEnt [(72, 1, 100), (70, 1, 100), (74, 6, 600)]) [] [(LMP_TZ_UTC_OFS, 0, 0)])) (fun d => (d.servedE 0).isSome && d.utc == some 600)
    (.overrideExpiry 0) (fun t => byteAt (t.rawE 0) 72 == 255 && byteAt (t.rawE 0) 70 == 0 && t.lmp.txns.map (·.req) == [.set 0 0]) = true := by decide +kernel

theorem wit_overrideExpiry_not : ok (atSec 599 (lampT (lampEnt [(72, 1, 100), (70, 1, 100), (74, 6, 600)]) [] [(LMP_TZ_UTC_OFS, 0, 0)])) (fun d => d.utc == some 599)
    (.overrideExpiry 0) (fun t => byteAt (t.rawE 0) 72 == 100) = true := by decide +kernel

theorem wit_deferredRetryTimer : ok (lampT (lampEnt [(72, 1, 100), (28, 1, 40), (56, 1, 2)]) []) (fun d => (d.servedE 0).isSome && !d.inBatch 0 && (d.goalOf (d.rawE 0)).1 == 100)
    .deferredRetryTimer (fun t => byteAt (t.rawE 0) 70 == 40 && t.lmp.txns.map (·.req) == [.set 40 0] && ebit (t.rawE 0) 56 1) = true := by decide +kernel

theorem wit_deferredRetryTimer_target : ok (lampT (lampEnt [(72, 1, 100), (70, 1, 40), (28, 1, 40), (56, 1, 2)]) []) (fun d => (d.servedE 0).isSome)
    .deferredRetryTimer (fun t => byteAt (t.rawE 0) 70 == 100 && !ebit (t.rawE 0) 56 1) = true := by decide +kernel

theorem wit_supplyLevelPoll : ok (lmpDev [(WGH_SUPPLY_LEVEL, 0, 1)] { lmp := { supply := 1 } }) (fun d => d.fg WGH_SUPPLY_LEVEL == d.lmp.supply) .supplyLevelPoll
    (fun t => t.lmp.supply == 1) = true := by decide

theorem wit_supplyLevelPoll_shed : ok ((lampT (lampEnt [(70, 1, 100), (30, 2, 50), (72, 1, 100)]) [] [(WGH_SUPPLY_LEVEL, 0, 2)]).updLmp fun x => { x with supply := 2 })
    (fun d => (d.servedE 0).isSome) .supplyLevelPoll (fun t => byteAt (t.rawE 0) 70 == 0 && ebit (t.rawE 0) 56 2 && t.lmp.txns.map (·.req) == [.set 0 0]) = true := by
  decide +kernel

/-- Peer 15 is hub 6 on Neriq Link node 3, replication on. -/
def hubDev (l : List (Fld × Nat × Nat) := []) (x : Lmp := {}) : Dev :=
  lmpDev l (dv [(LMP_CTRL_REPL_EN, 0, 1), (LMP_PEER_k_CFG_EN, 15, 1), (LMP_PEER_k_CFG_LINK, 15, 3), (LMP_PEER_k_CFG_HUB_ID, 15, 6), (NQL_LANE_l_STAT_STATE, 0, 5)]
    { lmp := x, nql := { node := vset (Vector.replicate 16 {}) 3 { feat := 0xFF } } })

/-- The entry with its CRC, as a message carries it. -/
def withCrc (e : List Byte) : List Byte := e ++ leBytes 4 (crc32c e)

theorem wit_lmpUpdateReceived : ok (hubDev) (fun d => d.holds (lampEnt)) (.lmpUpdateReceived 15 0 2 [withCrc (lampEnt)])
    (fun t => t.lmp.used == [0] && t.rawE 0 == withCrc (lampEnt) && vget t.lmp.peerAt 15 == some 0) = true := by decide +kernel

theorem wit_lmpUpdateReceived_off : ok (lmpDev) (fun d => !d.fb LMP_PEER_k_CFG_EN 15) (.lmpUpdateReceived 15 0 2 []) (fun t => vget t.lmp.peerAt 15 == none) = true := by decide

theorem wit_mergeIn_crc : leAt (List.replicate 128 (0 : Byte)) 124 4 ≠ crc32c ((List.replicate 128 0).take 124) := by decide +kernel

theorem wit_lmpDigestReceived : ok (hubDev) (fun _ => true) (.lmpDigestReceived 15 0 2 [(7, 1, 9)]) (fun t => t.lmp.pulls == [(15, 7)] && t.tx.length == 1) = true := by
  decide +kernel

theorem wit_lmpPullReceived : ok (lampAdd (lampEnt) (hubDev [(LMP_PEER_k_CFG_HUB_ID, 15, 5)])) (fun d => d.holds (d.rawE 0)) (.lmpPullReceived 15 2 2 [rangeOf (leBytes 8 9)])
    (fun t => t.tx.length == 1) = true := by decide +kernel

theorem wit_lmpBeatReceived : ok (hubDev [(SYS_ROLE_STAT_DIR_ACTIVE, 0, 1), (LMP_EPOCH_EPOCH, 0, 4)]) (fun _ => true) (.lmpBeatReceived 15 1 2 6 5)
    (fun t => t.fg SYS_ROLE_STAT_DIR_ACTIVE == 0 && evs t == [109] && vget t.lmp.epoch 1 == 5) = true := by decide

theorem wit_lmpBeatReceived_tie : ok (hubDev [(SYS_ROLE_STAT_DIR_ACTIVE, 0, 1), (LMP_EPOCH_EPOCH, 0, 5)]) (fun _ => true) (.lmpBeatReceived 15 1 2 6 5)
    (fun t => t.fg SYS_ROLE_STAT_DIR_ACTIVE == 1 && evs t == []) = true := by decide

theorem wit_lmpGroupReceived : ok (hubDev) (fun _ => true) (.lmpGroupReceived 15 1 2 [3, 0, 100, 0, 0, 0]) (fun t => evs t == [107]) = true := by decide

theorem wit_lmpEndpointReceived : ok (lampT (lampEnt [(11, 1, 0x14), (16, 1, 2)]) [{ sent := true, num := 3, req := .poll, path := 0x14 }] [(LMP_GW_g_EN, 1, 1)]) (fun d => (d.ent 0).isSome)
    (.lmpEndpointReceived 1 9 [2, 0x82, 3, 0, 9, 0, 0, 0, 0, 0, 0, 0]) (fun t => t.lmp.txns == [] && byteAt (t.rawE 0) 71 == 9) = true := by decide +kernel

theorem wit_digestTimer : ok (hubDev) (fun d => d.peers == [15]) .digestTimer (fun t => t.tx.length == 7) = true := by decide +kernel

theorem wit_beatTimer : ok (hubDev [(SYS_ROLE_STAT_DIR_ACTIVE, 0, 1)]) (fun d => d.fb SYS_ROLE_STAT_DIR_ACTIVE) .beatTimer (fun t => t.tx.length == 1) = true := by decide

theorem wit_beatTimer_none : ok (hubDev) (fun d => !d.fb SYS_ROLE_STAT_DIR_ACTIVE) .beatTimer (fun t => t.tx == []) = true := by decide

theorem wit_masterSilenceTimeout : ok (hubDev [(SYS_ROLE_DIR_ROLE, 0, 1)]) (fun d => d.silent) .masterSilenceTimeout
    (fun t => t.lmp.takeover == some 1 && t.lmp.takeEpoch == 1 && t.lmp.pulls.length == 256) = true := by decide +kernel

theorem wit_takeoverComplete : ok (hubDev [] { takeover := some 2, takeEpoch := 9 }) (fun _ => true) .takeoverComplete
    (fun t => t.fg SYS_ROLE_STAT_DIR_ACTIVE == 2 && t.fg LMP_EPOCH_EPOCH == 9 && evs t == [109]) = true := by decide

theorem wit_dirRoleWrite : ok (lmpDev [(LMP_MASTER_STANDBY, 0, 0)]) (acc (SYS_ROLE_DIR_ROLE.at 0) (wd SYS_ROLE_DIR_ROLE 0 1 (lmpDev)))
    (.dirRoleWrite .mm (BitVec.ofNat 32 (wd SYS_ROLE_DIR_ROLE 0 1 (lmpDev)))) (fun t => t.fg SYS_ROLE_DIR_ROLE == 1 && t.fg SYS_ROLE_STAT_DIR_ACTIVE == 1) = true := by decide

theorem wit_entryFreeTimer : ok (lampAdd (lampEnt [(56, 1, 0x80)]) (lmpDev)) (fun d => (d.ent 0).isSome && d.lmp.used == [0]) (.entryFreeTimer 0)
    (fun t => t.lmp.used == [] && t.lookup (leBytes 8 9) == none) = true := by decide +kernel

theorem wit_lmpEntryRead : ok (sent 0x902 ([1, 0, 0, 0] ++ List.replicate 8 0) (lampAdd (lampEnt) (lmpDev))) (fun d => (d.ent 0).isSome) (.lmpEntryRead .host 7)
    (fun t => reply t == some (.ok, [0, 0, 0, 0] ++ withCrc (lampEnt))) = true := by decide +kernel

theorem wit_lmpEntryWrite : ok (sent 0x903 ((lampEnt [(28, 1, 40)]).take 32) (lampAdd (lampEnt) (lmpDev)))
    (fun d => entryOk ((lampEnt [(28, 1, 40)]).take 32) && (d.lookup (leBytes 8 9)).isSome && (d.ent 0).isSome) (.lmpEntryWrite .host 7)
    (fun t => byteAt (t.rawE 0) 28 == 40 && leAt (t.rawE 0) 36 4 == 1 && reply t == some (.ok, [0, 0, 0, 0])) = true := by decide +kernel

theorem wit_lmpEntryWrite_new : ok (sent 0x903 ((lampEnt).take 32) (lmpDev)) (fun d => d.lookup (leBytes 8 9) == none) (.lmpEntryWrite .host 7)
    (fun t => t.lmp.used == [0] && byteAt (t.rawE 0) 72 == 255 && reply t == some (.ok, [0, 0, 0, 0])) = true := by decide +kernel

theorem wit_lmpEntryWrite_range : ok (sent 0x903 [1] (lmpDev)) (fun _ => !entryOk [1]) (.lmpEntryWrite .host 7) (fun t => reply t == some (.range, [])) = true := by decide

theorem wit_lmpEntryDelete : ok (sent 0x904 (leBytes 8 9) (lampAdd (lampEnt) (lmpDev))) (fun d => (d.lookup (leBytes 8 9)).isSome) (.lmpEntryDelete .host 7)
    (fun t => ebit (t.rawE 0) 56 7 && reply t == some (.ok, [])) = true := by decide +kernel

theorem wit_lmpSchedWrite : ok (sent 0x905 [3, 0, 0, 0, 100, 0, 0, 0x3F] (lmpDev [(LMP_CTRL_EN, 0, 0)])) (fun d => !d.lmpOn && stepOk 0x3F000064) (.lmpSchedWrite .host 7)
    (fun t => t.schedOf 3 == [0x3F000064] && reply t == some (.ok, [])) = true := by decide +kernel

theorem wit_lmpSet : ok (sent 0x906 (leBytes 8 9 ++ [100, 0, 0xFF, 0xFF]) (lampAdd (lampEnt) (lmpDev))) (fun d => (d.lookup (leBytes 8 9)).isSome && (d.servedE 0).isSome)
    (.lmpSet .host 7) (fun t => byteAt (t.rawE 0) 72 == 100 && byteAt (t.rawE 0) 70 == 100 && t.lmp.txns.map (·.owners) == [[.cmd .host 7]] && reply t == none) = true := by
  decide +kernel

theorem wit_lmpGroup : ok (sent 0x907 [3, 0, 100, 0, 0xFF, 0xFF] (lampAdd (lampEnt [(20, 2, 3)]) (lmpDev))) (fun d => d.lampMembers 3 == [0]) (.lmpGroup .host 7)
    (fun t => t.lmp.groups.map (fun g => (g.left, g.owner)) == [(1, some (.host, 7))] && byteAt (t.rawE 0) 70 == 100 && reply t == none) = true := by decide +kernel

theorem wit_lmpGroup_none : ok (sent 0x907 [3, 0, 100, 0, 0xFF, 0xFF] (lmpDev)) (fun d => d.lampMembers 3 == []) (.lmpGroup .host 7)
    (fun t => reply t == some (.ok, [0, 0, 0, 0]) && evs t == [107]) = true := by decide

theorem wit_merge : (let l := eput (List.replicate 64 0) 36 4 2; let r := eput (List.replicate 64 (0 : Byte)) 44 4 3;
    (mergeConf l r).1 == (mergeConf r l).1 && (mergeConf l r).2 && slotCnt (mergeConf l r).1 0 == 2 && slotCnt (mergeConf l r).1 1 == 3) = true := by decide

/-! ### Nightwatch, buck, pump -/

/-- Nightwatch as it stands. -/
def nw (x : Aon) (l : List (Fld × Nat × Nat) := []) : Dev := { dv l with aon := x }

theorem wit_vbatFirstApplication : ok (nw { alive := false, rtc := 9 } [(AON_ALARM_SEC, 0, 5)]) (fun d => !d.aon.alive) .vbatFirstApplication
    (fun t => t.aon == { alive := true, sampled := false, first := true } && t.fg AON_ALARM_SEC == 0 && t.fg CLK_REF_STAT_XT_CHECK_OFF == 1) = true := by decide

theorem wit_vbatLoss : ok (nw { rtc := 9 } [(AON_BS_STAT_STATE, 0, 3)]) (fun d => d.aon.alive) .vbatLoss (fun t => !t.aon.alive && t.aon.rtc == 9 && t.fg AON_BS_STAT_STATE == 0) = true := by
  decide

theorem wit_vbatSample : ok (nw {}) (fun d => d.aon.alive && d.aon.sampled && !d.fb AON_STAT_VBAT_LOW) (.vbatSample 2199)
    (fun t => t.fg AON_STAT_VBAT_LOW == 1 && t.fg AON_STAT_VBAT_LOW_SEEN == 1 && evs t == [116] && t.fg SYS_PWRSTAT_VBAT_OK == 0 && t.fg SYS_PWRSTAT_DROP == 16) = true := by decide

theorem wit_vbatSample_good : ok (nw {} [(AON_STAT_VBAT_LOW, 0, 1)]) (fun d => d.aon.alive) (.vbatSample 2200) (fun t => t.fg AON_STAT_VBAT_LOW == 0 && evs t == []) = true := by decide

theorem wit_rtcSet : ok ((nw {}).holdLo .mm (AON_RTC_SET_HI_C.at 0 - 4) 0x8000) (fun d => (d.holdOf .mm (AON_RTC_SET_HI_C.at 0 - 4)).wlo == [(AON_RTC_SET_HI_C.at 0 - 4, 0x8000)])
    (.rtcSet .mm 1) (fun t => t.aon.rtc == 0x100008000 && t.fg AON_STAT_RTC_VALID == 1) = true := by decide

theorem wit_crystalLoss : ok (nw {} [(AON_STAT_XT_OK, 0, 1), (AON_STAT_RTC_VALID, 0, 1)]) (fun d => d.fb AON_STAT_XT_OK) .crystalLoss
    (fun t => t.fg AON_STAT_XT_OK == 0 && t.fg AON_STAT_RTC_VALID == 0 && t.fg CLK_REF_STAT_XT_CHECK_OFF == 1) = true := by decide

theorem wit_crystalRestart : ok (nw {} [(AON_STAT_XT_OK, 0, 0)]) (fun d => !d.fb AON_STAT_XT_OK) .crystalRestart (fun t => t.fg AON_STAT_XT_OK == 1 && t.fg AON_STAT_RTC_VALID == 0) = true := by
  decide

theorem wit_rtcTrimTimer : ok (nw { rtc := 100 } [(AON_STAT_XT_OK, 0, 1), (AON_RTC_TRIM_TRIM, 0, 2 ^ AON_RTC_TRIM_TRIM.len - 3)]) (fun d => d.fb AON_STAT_XT_OK) .rtcTrimTimer
    (fun t => t.aon.rtc == 100 && t.aon.hold == 3 && (t.tickRtc 25000).aon.rtc == 100 && (t.tickRtc 25000).aon.hold == 2) = true := by decide

theorem wit_rtcAlarm : ok (nw { rtc := 5 * 32768 } [(AON_STAT_XT_OK, 0, 1), (AON_CTRL_ALARM_EN, 0, 1), (AON_ALARM_SEC, 0, 5)]) (fun d => d.rtcSec == 5) .rtcAlarm
    (fun t => t.fg AON_STAT_PEND == 1 && evs t == [114]) = true := by decide

theorem wit_rtcAlarm_wrote : ok (nw { rtc := 5 * 32768, wrote := true } [(AON_STAT_XT_OK, 0, 1), (AON_CTRL_ALARM_EN, 0, 1), (AON_ALARM_SEC, 0, 5)])
    (fun d => d.aon.wrote) .rtcAlarm (fun t => t.fg AON_STAT_PEND == 0) = true := by decide

theorem wit_rtcAlarm_not : ok (nw { rtc := 4 * 32768 } [(AON_STAT_XT_OK, 0, 1), (AON_CTRL_ALARM_EN, 0, 1), (AON_ALARM_SEC, 0, 5)]) (fun d => d.rtcSec != 5) .rtcAlarm
    (fun t => t.fg AON_STAT_PEND == 0) = true := by decide

theorem wit_doorTamperSample : ok (nw { rtc := 5 * 32768 } [(AON_LATCH_DOOR_PIN, 0, 1)]) (fun d => !d.fb AON_LATCH_DOOR) (.doorTamperSample true false)
    (fun t => t.fg AON_LATCH_DOOR == 1 && t.fg AON_STAT_PEND == 2 && t.fg AON_DOOR_TS_SEC == 5 && evs t == [112]) = true := by decide

theorem wit_doorTamperSample_first : ok (nw {}) (fun d => !d.fb AON_LATCH_DOOR_PIN) (.doorTamperSample true true)
    (fun t => t.fg AON_LATCH_DOOR == 0 && t.fg AON_LATCH_DOOR_PIN == 1 && t.fg AON_LATCH_TAMPER_PIN == 1) = true := by decide

theorem wit_aonTimeSet : ok (sent 0xA01 [1, 0, 0, 0, 2, 0, 0, 0] {}) (isSent 0xA01 [1, 0, 0, 0, 2, 0, 0, 0]) (.aonTimeSet .host 7)
    (fun t => t.aon.rtc == 0x200000001 && reply t == some (.ok, [])) = true := by decide

theorem wit_aonClear : ok (sent 0xA02 [8] (dv [(AON_STAT_PEND, 0, 7)])) (isSent 0xA02 [8]) (.aonClear .host 7) (fun t => t.fg AON_STAT_PEND == 0 && reply t == some (.ok, [])) = true := by
  decide

theorem wit_aonClear_held : ok (sent 0xA02 [1] (dv [(AON_LATCH_DOOR, 0, 1), (AON_LATCH_DOOR_PIN, 0, 1)])) (isSent 0xA02 [1]) (.aonClear .host 7)
    (fun t => t.fg AON_LATCH_DOOR == 1 && reply t == some (.state, [])) = true := by decide

/-- The black-start sequencer enabled in a state, without `VDD_CORE`. -/
def bsDev (st : Nat) (x : Aon := {}) (l : List (Fld × Nat × Nat) := []) : Dev :=
  { dv l (dv [(AON_CTRL_BS_EN, 0, 1), (AON_BS_STAT_STATE, 0, st), (AON_BS_CFG_VHV_ON, 0, 800), (AON_BS_CFG_QUAL_T, 0, 3), (AON_BS_FB_FB_OK, 0, 500), (AON_BS_FB_FB_DROP, 0, 400),
    (AON_BS_KICK_KICK_N, 0, 4)]) with aon := x, sys := { phase := .hold, vddCore := false } }

theorem wit_bsSample_idle : ok (bsDev 0) (fun d => d.fb AON_CTRL_BS_EN && !d.fb AON_BS_STAT_LATCHED) (.bsSample 800 0 3300)
    (fun t => t.fg AON_BS_STAT_STATE == 1 && t.fg AON_MEAS_VHV == 800 && t.fg AON_MEAS_VBAT == 330) = true := by decide

theorem wit_bsSample_qualify : ok (bsDev 1 { qual := 2 }) (fun _ => true) (.bsSample 1300 0 3300) (fun t => t.fg AON_BS_STAT_STATE == 2 && t.fg AON_MEAS_VHV == 1200) = true := by decide

theorem wit_bsSample_drop : ok (bsDev 1 { qual := 2 }) (fun _ => true) (.bsSample 799 0 3300) (fun t => t.fg AON_BS_STAT_STATE == 0 && t.aon.qual == 0) = true := by decide

theorem wit_bsSample : ok (bsDev 2 { fbRun := 19 }) (fun _ => true) (.bsSample 800 500 3300) (fun t => t.fg AON_BS_STAT_STATE == 3 && t.fg AON_STAT_PEND == 8) = true := by decide

theorem wit_bsSample_kick : ok (bsDev 2 { fbRun := 19 }) (fun _ => true) (.bsSample 800 499 3300) (fun t => t.fg AON_BS_STAT_STATE == 2 && t.aon.fbRun == 0) = true := by decide

theorem wit_bsSample_run : ok (bsDev 3 { fbRun := 2 } [(AON_BS_CLS_LIMIT, 0, 1)]) (fun _ => true) (.bsSample 800 399 3300)
    (fun t => t.fg AON_BS_STAT_STATE == 6 && t.fg AON_BS_STAT_LATCHED == 1 && t.evt.held.map (·.num) == [115] && t.fg AON_BS_STAT_FAIL_CNT == 1) = true := by decide

theorem wit_kickPulse : ok (bsDev 2 { pulses := 3 }) (fun _ => true) .kickPulse (fun t => t.aon.pulses == 4) = true := by decide

theorem wit_kickPulse_last : ok (bsDev 2 { pulses := 4 } [(AON_BS_CLS_LIMIT, 0, 9)]) (fun _ => true) .kickPulse (fun t => t.fg AON_BS_STAT_STATE == 5) = true := by decide

theorem wit_bsWakeTimeout : ok (bsDev 3 {} [(AON_BS_CLS_LIMIT, 0, 9)]) (fun _ => true) .bsWakeTimeout (fun t => t.fg AON_BS_STAT_STATE == 5 && t.fg AON_BS_STAT_FAIL_CNT == 1) = true := by
  decide

theorem wit_bsRetryExpiry : ok (bsDev 5) (fun _ => true) .bsRetryExpiry (fun t => t.fg AON_BS_STAT_STATE == 0) = true := by decide

/-- The buck in a state, `VSET` 800, the edge domain locked. -/
def bkDev (st : Nat) (l : List (Fld × Nat × Nat) := []) (x : Buck := {}) : Dev :=
  { dv l (dv [(CLK_PLL_STAT_FALLBACK, 0, 0), (AUX_BK_STAT_STATE, 0, st), (AUX_BK_VSET_VSET, 0, 800), (AUX_BK_MEAS_V_VREF, 0, 800), (AUX_BK_CTRL_EN, 0, 1)]) with aux := { bk := x } }

theorem wit_buckEnable : ok (bkDev 0 [(AUX_BK_CTRL_EN, 0, 0)]) (acc (AUX_BK_CTRL_EN.at 0) (wd AUX_BK_CTRL_EN 0 1 {})) (.buckEnable .mm (BitVec.ofNat 32 (wd AUX_BK_CTRL_EN 0 1 {})) 300)
    (fun t => t.fg AUX_BK_STAT_STATE == 1 && t.fg AUX_BK_MEAS_V_VREF == 300) = true := by decide

/-- A quarter of a soft start's ramp from 300 mV, and what its period computes (R360): e = 200 mV, within L = 50 mV × (0.25 + 0.75 × 300 / 800). -/
theorem test_buckRamp : (let d := { bkDev 1 [(AUX_BK_MEAS_V_VFB, 0, 300), (AUX_BK_ILIM_ILIM, 0, 500), (AUX_BK_LOOP_KP, 0, 256), (AUX_BK_LOOP_KI, 0, 1024)]
      { ramp := some { base := 300, start := 0, num := 800, den := 8000000 } } with clk := { ticks := 2000000 } };
    d.bkVref == 500 && d.buckPeriod.aux.bk.iref == 1740800 && d.buckPeriod.aux.bk.on && d.buckPeriod.aux.bk.sum == 200) = true := by decide

theorem wit_softStartEnd_early : ok (bkDev 1 [] { ramp := some { base := 300, start := 0, num := 800, den := 8000000 } }) (fun d => d.bkVref != 800) (.softStartEnd 400)
    (fun t => t.fg AUX_BK_STAT_STATE == 1) = true := by decide

theorem wit_softStartEnd : ok (bkDev 1) (fun _ => true) (.softStartEnd 400) (fun t => t.fg AUX_BK_STAT_STATE == 2) = true := by decide

theorem wit_softStartEnd_low : ok (bkDev 1 [(SYS_FCLS_k_LIMIT, 9, 1)]) (fun _ => true) (.softStartEnd 399)
    (fun t => t.fg AUX_BK_STAT_STATE == 5 && t.fg AUX_BK_STAT_LATCHED == 1 && evs t == [117] && t.fg AUX_BK_STAT_HICCUP_CNT == 1) = true := by decide

theorem wit_hiccupEnd : ok (bkDev 3) (fun _ => true) (.hiccupEnd 100) (fun t => t.fg AUX_BK_STAT_STATE == 1 && t.fg AUX_BK_MEAS_V_VREF == 100) = true := by decide

theorem wit_buckFaultDetect : ok (bkDev 2 [(AUX_BK_STAT_PGOOD, 0, 1)]) (fun _ => true) (.buckFaultDetect true 800)
    (fun t => t.fg AUX_BK_STAT_STATE == 3 && t.fg AUX_BK_STAT_PGOOD == 0 && evs t == [118, 117]) = true := by decide

theorem wit_buckFaultDetect_low : ok (bkDev 2) (fun _ => true) (.buckFaultDetect false 399) (fun t => t.fg AUX_BK_STAT_STATE == 3) = true := by decide

theorem wit_buckVsetWrite : ok (bkDev 2) (acc (AUX_BK_VSET_VSET.at 0) (wd AUX_BK_VSET_VSET 0 900 (bkDev 2))) (.buckVsetWrite .mm (BitVec.ofNat 32 (wd AUX_BK_VSET_VSET 0 900 (bkDev 2))))
    (fun t => t.fg AUX_BK_STAT_SLEWING == 1 && t.bkVref == 800 && t.fg AUX_BK_VSET_VSET == 900) = true := by decide +kernel

theorem wit_buckSlewDone : ok (bkDev 2 [(AUX_BK_STAT_SLEWING, 0, 1), (AUX_BK_VSET_VSET, 0, 900)] { ramp := some { base := 900, start := 0, num := 10, den := 1 } })
    (fun d => d.aux.bk.owed == none && d.bkVref == 900) (.buckSlewDone 890)
    (fun t => t.fg AUX_BK_STAT_SLEWING == 0 && t.fg AUX_BK_MEAS_V_VREF == 900) = true := by decide

theorem wit_buckSlewDone_owed : ok (sent 0xA03 [] (bkDev 2 [(AUX_BK_STAT_SLEWING, 0, 1)] { owed := some (.host, 7) })) (fun d => d.aux.bk.owed == some (.host, 7)) (.buckSlewDone 890)
    (fun t => reply t == some (.ok, [0x7A, 3]) && t.aux.bk.owed == none) = true := by decide

theorem wit_buckLatchClear : ok (bkDev 5 [(AUX_BK_STAT_LATCHED, 0, 1)]) (fun _ => true) (.buckLatchClear .mm 100) (fun t => t.fg AUX_BK_STAT_STATE == 1 && t.fg AUX_BK_STAT_LATCHED == 0) = true := by
  decide

theorem wit_pgoodRelease : ok (bkDev 2 [(AUX_BK_PG_PG_WIN, 0, 50)]) (fun d => inPgWindow (d.setVfb 760)) (.pgoodRelease 760) (fun t => t.fg AUX_BK_STAT_PGOOD == 1 && evs t == [118]) = true := by
  decide

theorem wit_pgoodLoss : ok (bkDev 2 [(AUX_BK_PG_PG_WIN, 0, 50), (AUX_BK_STAT_PGOOD, 0, 1)]) (fun d => !inPgWindow (d.setVfb 759)) (.pgoodLoss 759)
    (fun t => t.fg AUX_BK_STAT_PGOOD == 0 && t.fg AUX_BK_STAT_PG_LOST_SEEN == 1) = true := by decide

theorem wit_shedStart : ok (bkDev 2 [(AUX_BK_CTRL_SHED_EN, 0, 1), (AUX_BK_CTRL_PH1_EN, 0, 1), (AUX_BK_ILIM_SHED_TH, 0, 20), (AUX_BK_ILIM_ILIM, 0, 500)]) (fun d => !d.fb AUX_BK_STAT_SHED)
    (.shedStart 60 0xFFFE) (fun t => t.aux.bk.settle && t.fg AUX_BK_MEAS_I_I1 == 0xFFFE) = true := by decide

theorem wit_shedSettleEnd : ok (bkDev 2 [] { settle := true }) (fun _ => true) (.shedSettleEnd false) (fun t => t.fg AUX_BK_STAT_SHED == 1 && !t.aux.bk.settle) = true := by decide

theorem wit_phaseReadd : ok (bkDev 2 [(AUX_BK_STAT_SHED, 0, 1), (AUX_BK_ILIM_ADD_TH, 0, 60), (AUX_BK_ILIM_ILIM, 0, 500)]) (fun d => d.fb AUX_BK_STAT_SHED) (.phaseReadd 301)
    (fun t => t.fg AUX_BK_STAT_SHED == 0) = true := by decide

theorem wit_auxBkSet : ok (sent 0xA03 [0x84, 3, 10, 0] (bkDev 2)) (isSent 0xA03 [0x84, 3, 10, 0]) (.auxBkSet .host 7)
    (fun t => t.fg AUX_BK_VSET_VSET == 900 && t.fg AUX_BK_STAT_SLEWING == 1 && t.aux.bk.owed == some (.host, 7) && reply t == none) = true := by decide

theorem wit_auxBkSet_state : ok (sent 0xA03 [0x84, 3, 10, 0] (bkDev 1)) (isSent 0xA03 [0x84, 3, 10, 0]) (.auxBkSet .host 7) (fun t => reply t == some (.state, [])) = true := by decide

/-- The pump in a state, Hall code 0b101, chopping phase 0. -/
def pmpDev (st : Nat) (l : List (Fld × Nat × Nat) := []) : Dev :=
  { dv l (dv [(CLK_PLL_STAT_FALLBACK, 0, 0), (AUX_PMP_STAT_STATE, 0, st), (AUX_PMP_STAT_HALL, 0, 5), (AUX_PMP_CTRL_EN, 0, 1), (AUX_PMP_CTRL_SHIFT, 0, 0), (SYS_FCLS_k_LIMIT, 10, 2)]) with
    aux := { pmp := { hg := 1, lg := 2, chop := some 0 } } }

theorem wit_pumpEnable : ok (pmpDev 0 [(AUX_PMP_CTRL_EN, 0, 0)]) (fun d => acc (AUX_PMP_CTRL_EN.at 0) (wd AUX_PMP_CTRL_EN 0 1 {}) d && d.fb SYS_PWRSTAT_VDRV_OK)
    (.pumpEnable .mm (BitVec.ofNat 32 (wd AUX_PMP_CTRL_EN 0 1 {}))) (fun t => t.fg AUX_PMP_STAT_STATE == 1 && t.aux.pmp.lg == 7) = true := by decide

theorem wit_pumpEnable_refused : ok (pmpDev 0 [(AUX_PMP_CTRL_EN, 0, 0), (SYS_PWRSTAT_VDRV_OK, 0, 0)]) (fun d => !d.fb SYS_PWRSTAT_VDRV_OK)
    (.pumpEnable .mm (BitVec.ofNat 32 (wd AUX_PMP_CTRL_EN 0 1 {}))) (fun t => t.fg AUX_PMP_CTRL_EN == 0 && t.fg AUX_PMP_STAT_STATE == 0) = true := by decide

theorem wit_prechargeEnd : ok (pmpDev 1) (fun d => Dev.hallRow (d.fg AUX_PMP_STAT_HALL) == 0) .prechargeEnd
    (fun t => t.fg AUX_PMP_STAT_STATE == 2 && t.aux.pmp.hg == 1 && t.aux.pmp.lg == 2) = true := by decide

theorem wit_prechargeEnd_bad : ok (pmpDev 1 [(AUX_PMP_STAT_HALL, 0, 7)]) (fun d => Dev.hallRow (d.fg AUX_PMP_STAT_HALL) == 6) .prechargeEnd
    (fun t => t.fg AUX_PMP_STAT_STATE == 3 && t.fg AUX_PMP_STAT_FCAUSE == 1 && t.aux.pmp.lg == 0) = true := by decide

theorem wit_hallCodeChange : ok (pmpDev 2) (fun _ => true) (.hallCodeChange 4) (fun t => t.fg AUX_PMP_STAT_HALL == 4 && t.aux.pmp.hg == 1 && t.aux.pmp.lg == 4 && t.aux.pmp.edges == [0]) = true := by
  decide

theorem wit_hallCodeChange_bad : ok (pmpDev 2) (fun _ => true) (.hallCodeChange 0) (fun t => t.fg AUX_PMP_STAT_STATE == 3 && evs t == [119] && t.fg AUX_PMP_STAT_FCAUSE == 1) = true := by
  decide

theorem wit_pumpDesat : ok (pmpDev 2) (fun d => d.pumpLive && d.aux.pmp.lg.testBit 1) (.pumpDesat 1) (fun t => t.fg AUX_PMP_STAT_FSW_L == 2 && t.fg AUX_PMP_STAT_FCAUSE == 4) = true := by decide

theorem wit_pumpDesat_chop : ok (pmpDev 2 [(AUX_PMP_DUTY_DUTY, 0, 0x7FFF)]) (fun d => d.aux.pmp.chop == some 0) (.pumpDesat 0) (fun t => t.fg AUX_PMP_STAT_FSW_L == 1) = true := by decide

theorem wit_pumpOvercurrent : ok (pmpDev 2) (fun d => d.aux.pmp.chop == some 0) .pumpOvercurrent (fun t => t.fg AUX_PMP_STAT_FSW_H == 1 && t.fg AUX_PMP_STAT_FCAUSE == 3) = true := by decide

theorem wit_pumpBootstrapLow : ok (pmpDev 2) (fun d => d.aux.pmp.chop == some 0) (.pumpBootstrapLow 0) (fun t => t.fg AUX_PMP_STAT_FSW_H == 1 && t.fg AUX_PMP_STAT_FCAUSE == 5) = true := by
  decide

theorem wit_pumpStallTimeout : ok (pmpDev 2 [(AUX_PMP_DUTY_DUTY, 0, 1)]) (fun _ => true) .pumpStallTimeout (fun t => t.fg AUX_PMP_STAT_FCAUSE == 2 && t.fg AUX_PMP_SPEED_EPER == 0xFFFF) = true := by
  decide

theorem wit_pumpRestartTimer : ok (pmpDev 3 [(AUX_PMP_STAT_FCAUSE, 0, 2)]) (fun _ => true) .pumpRestartTimer (fun t => t.fg AUX_PMP_STAT_STATE == 1) = true := by decide

theorem wit_vdrvLoss : ok (pmpDev 2) (fun d => d.fb SYS_PWRSTAT_VDRV_OK && d.pumpLive) .vdrvLoss
    (fun t => t.fg AUX_PMP_STAT_STATE == 3 && t.fg AUX_PMP_STAT_FCAUSE == 6 && t.aux.pmp.hg == 0 && t.fg SYS_PWRSTAT_DROP == 32) = true := by decide

theorem wit_vdrvReturn : ok (pmpDev 3 [(AUX_PMP_STAT_FCAUSE, 0, 6), (SYS_PWRSTAT_VDRV_OK, 0, 0)]) (fun _ => true) .vdrvReturn (fun t => t.fg AUX_PMP_STAT_STATE == 1) = true := by decide

/-! ### Capability and status commands -/

/-- A command without payload under tag 7 is answered with the words at these addresses. -/
def givesWords (op : Nat) (i : Instr) (addrs : List Nat) : Bool :=
  ok (sent op [] {}) (isSent op []) i (fun t => reply t == some (.ok, (({} : Dev).words addrs)))

theorem wit_caps : (ok (sent 0x002 [] {}) (isSent 0x002 []) (.sysCaps .host 7) (fun t => (reply t).map (fun r => (r.1, r.2.length)) == some (.ok, 8)) &&
    givesWords 0x100 (.pwmCaps .host 7) [0x20020008] &&
    givesWords 0x140 (.trpCaps .host 7) [0x20040008] && givesWords 0x200 (.snsCaps .host 7) [0x20030008] &&
    givesWords 0x300 (.cenCaps .host 7) [0x20050008] && givesWords 0xB00 (.trcCaps .host 7) [0x20050008] &&
    givesWords 0x400 (.grdCaps .host 7) [0x20060008]) = true := by decide +kernel

theorem wit_caps' : (givesWords 0x500 (.wghCaps .host 7) [0x20070008] && givesWords 0x580 (.thmCaps .host 7) [0x20100008] &&
    givesWords 0x600 (.talCaps .host 7) [0x20080008] && givesWords 0x700 (.safCaps .host 7) [0x20090008] &&
    givesWords 0x800 (.nqlCaps .host 7) [0x200B0008, 0x20110008] && givesWords 0x900 (.lmpCaps .host 7) [0x200C0008] &&
    givesWords 0xA00 (.auxCaps .host 7) [0x200D0008, 0x200E0008]) = true := by decide +kernel

theorem wit_status : (givesWords 0x141 (.trpStatus .host 7) ([0x20040004, 0x20040010, 0x20040014] ++ (List.range 24).map fun n => 0x20040304 + 8 * n) &&
    givesWords 0x801 (.netStatus .host 7) [0x200B0104, 0x200B0204, 0x200B0404, 0x20110004, 0x20110010, 0x20110020, 0x20120004] &&
    givesWords 0x806 (.nqlStatus .host 7) [0x20110004, 0x20110010, 0x20110014, 0x20110020, 0x20110024] &&
    givesWords 0x901 (.lmpStatus .host 7) [0x200C0004, 0x200C0018, 0x200C0028, 0x200C0048, 0x200C0208, 0x200C0218, 0x200C0228, 0x200C0238] &&
    givesWords 0xA04 (.auxStatus .host 7) [0x200D0004, 0x200D0030, 0x200D0050, 0x200E0004, 0x200E0028, 0x200E0110, 0x200E0114]) = true := by decide +kernel

theorem wit_status' : ([(0x308, Instr.cenStatus .host 7), (0x501, .wghStatus .host 7), (0x581, .thmStatus .host 7), (0x601, .talStatus .host 7),
    (0x701, .safStatus .host 7)].all fun x => ok (sent x.1 [] {}) (isSent x.1 []) x.2
      (fun t => (reply t).map (fun r => (r.1, r.2.length)) == some (.ok, match x.1 with
        | 0x308 => 260 | 0x501 => 148 | 0x581 => 136 | 0x601 => 212 | _ => 80))) = true := by decide +kernel

theorem wit_auxCaps_dead : ok { sent 0xA00 [] {} with aon := { alive := false } } (isSent 0xA00 []) (.auxCaps .host 7)
    (fun t => t.hst.slow == [(.host, 7)] && reply t == none) = true := by decide
theorem wit_auxStatus_dead : ok { sent 0xA04 [] {} with aon := { alive := false } } (isSent 0xA04 []) (.auxStatus .host 7)
    (fun t => t.hst.slow == [(.host, 7)] && reply t == none) = true := by decide

theorem wit_wghStatus_before : ok { sent 0x501 [] {} with wgh := { arb := true, before := (5, 6) } } (fun d => isSent 0x501 [] d && d.wgh.arb) (.wghStatus .host 7)
    (fun t => (reply t).map (fun r => (r.1, (r.2.drop 4).take 4, (r.2.drop 16).take 4)) == some (.ok, [5, 0, 0, 0], [6, 0, 0, 0])) = true := by decide +kernel

/-! ### The whole machine -/

theorem wit_stepRunsFront : (match step { pending := [.ppsFall, .crystalLoss], dev := dv [(AON_STAT_XT_OK, 0, 1)] } with
    | .next t => t.pending == [.crystalLoss] && t.dev.fg AON_STAT_XT_OK == 1
    | _ => false) = true := by decide

theorem wit_stepIdle : (match step State.reset with
    | .next t => t.pending == [] && t.dev.clk.ticks == 8
    | _ => false) = true := by decide +kernel

theorem wit_inv : ({ dev := { mem := [(5, 1)], mram := [(7, 2)] }, pending := [.ppsFall] } : State).Inv := by
  unfold State.Inv; decide

theorem wit_ledgerGuarded : ledgerRow .ppsFall = false ∧ supervisorRow .ppsFall = false ∧
    holds .ppsFall (st {}) (fun t => t.mram == []) = true := by decide

theorem wit_inReset : ({ dev := { sys := { phase := .hold } } } : State).Inv ∧ actsInReset .ppsFall = false ∧
    exec .ppsFall { dev := { sys := { phase := .hold } } } = .next { dev := { sys := { phase := .hold } } } := by
  refine ⟨by unfold State.Inv; decide, by decide, rfl⟩

theorem wit_familiesKeepApart : touched (.vbatSample 2100) = some [.regs, .aon, .evt] ∧ State.reset.Inv ∧
    holds (.vbatSample 2100) State.reset (fun t => t.regs != [] && t.evt != {} && t.pwm == {} && t.mem == []) = true := by
  refine ⟨rfl, by unfold State.Inv; decide, by decide +kernel⟩

/-! ### Commands no interface can deliver -/

theorem wf_hostWrite : (Instr.hostWrite 0 []).wf = false ∧ (Instr.hostWrite 0 [1]).wf = true := by decide
theorem wf_hostRead : (Instr.hostRead 0 0).wf = false ∧ (Instr.hostRead 0 1).wf = true := by decide
theorem wf_ethFrameReceived : (Instr.ethFrameReceived 0 [1, 2, 3] none).wf = false ∧ (Instr.ethFrameReceived 0 [1, 2, 3, 4] none).wf = true := by decide
theorem wf_dramScrubPass : (Instr.dramScrubPass [8] [4]).wf = false ∧ (Instr.dramScrubPass [8] [16]).wf = true := by decide
theorem wf_lmpUpdateReceived : (Instr.lmpUpdateReceived 0 0 0 [List.replicate 127 0]).wf = false ∧
    (Instr.lmpUpdateReceived 0 0 0 [List.replicate 128 0]).wf = true := by decide
theorem wf_lmpDigestReceived : (Instr.lmpDigestReceived 0 0 0 (List.replicate 41 (0, 0, 0))).wf = false ∧
    (Instr.lmpDigestReceived 0 0 0 [(256, 0, 0)]).wf = false ∧ (Instr.lmpDigestReceived 0 0 0 [(255, 2 ^ 16, 0)]).wf = false ∧
    (Instr.lmpDigestReceived 0 0 0 [(255, 0, 2 ^ 32)]).wf = false ∧ (Instr.lmpDigestReceived 0 0 0 [(255, 65535, 5)]).wf = true := by decide
theorem wf_lmpPullReceived : (Instr.lmpPullReceived 0 0 0 [256]).wf = false ∧ (Instr.lmpPullReceived 0 0 0 (List.replicate 65 0)).wf = false ∧
    (Instr.lmpPullReceived 0 0 0 [255]).wf = true := by decide
theorem wf_bootSlotAttempt : (Instr.bootSlotAttempt [] (List.replicate 320 0) true true true).wf = false ∧
    (Instr.bootSlotAttempt (List.replicate 320 0) [] true true true).wf = false ∧
    (Instr.bootSlotAttempt (List.replicate 320 0) (List.replicate 320 0) true true true).wf = true := by decide
theorem wf_bootRecordWrite : (Instr.bootRecordWrite 0 []).wf = false ∧ (Instr.bootRecordWrite 0 [1]).wf = true := by decide
theorem wf_meteringSample : (Instr.meteringSample []).wf = false ∧ (Instr.meteringSample (List.replicate 8 default)).wf = true := by decide
theorem wf_meteringInitialCalDone : (Instr.meteringInitialCalDone []).wf = false ∧ (Instr.meteringInitialCalDone (List.replicate 8 default)).wf = true := by decide
theorem wf_wghReqFrameReceived : (Instr.wghReqFrameReceived 0 [(32, 0)]).wf = false ∧ (Instr.wghReqFrameReceived 0 [(31, 0)]).wf = true := by decide
theorem wf_wghCeilFrameReceived : (Instr.wghCeilFrameReceived 1 0 [(32, 0)]).wf = false ∧ (Instr.wghCeilFrameReceived 1 0 (List.replicate 31 (0, 0))).wf = false ∧
    (Instr.wghCeilFrameReceived 1 0 [(31, 0)]).wf = true := by decide

end Sys2Proof.Tests
end

section
/-! SUPPORT. The statements about registers and reset (00): accesses to any register, the snapshot of a two-word quantity, the
machine after reset. -/
set_option Elab.async false

namespace Sys2Proof.Machine
open Sys2Proof.Machine.Dev

/-! ### Tables of a fixed number of like things -/

theorem vget_vset_same {α : Type} [Inhabited α] {n : Nat} (v : Vector α n) (i : Nat) (x : α) (h : i < n) :
    vget (vset v i x) i = x := by
  simp [vget, vset, h]

theorem vget_vset_ne {α : Type} [Inhabited α] {n : Nat} (v : Vector α n) {i j : Nat} (x : α) (h : i ≠ j) :
    vget (vset v i x) j = vget v j := by
  simp [vget, vset, Vector.getElem?_setIfInBounds_ne h]

/-! ### The register map -/

/-- The register stands in block `b`, its fields stand in it, and no two of them have the same place. -/
def Reg.inBlock (b : Nat) (r : Reg) : Bool :=
  r.base / 65536 == b && r.flds.all (fun f => f.fld.base == r.base && f.fld.stride == r.stride) &&
    decide (r.flds.map (·.fld.lo)).Nodup

theorem blockRegs_inBlock (b : Nat) : (blockRegs b).all (Reg.inBlock b) = true := by
  unfold blockRegs
  split
  case h_20 => rfl
  all_goals decide

theorem mem_of_findIn {a n : Nat} {r : Reg} {l : List Reg} (h : findIn a l = some (r, n)) : r ∈ l := by
  induction l with
  | nil => simp [findIn] at h
  | cons x t ih =>
    simp only [findIn] at h
    split at h
    · cases h; simp
    · exact .tail _ (ih h)

theorem inBlock_of_findReg {a n : Nat} {r : Reg} (h : findReg a = some (r, n)) : r.inBlock (a / 65536) = true :=
  List.all_eq_true.1 (blockRegs_inBlock _) r (mem_of_findIn h)

theorem base_of_findReg {a n : Nat} {r : Reg} (h : findReg a = some (r, n)) : r.base / 65536 = a / 65536 := by
  have := inBlock_of_findReg h
  simp only [Reg.inBlock, Bool.and_eq_true, beq_iff_eq] at this
  exact this.1.1

/-- In a register of the map all fields have different places. -/
theorem keys_pairwise {a n : Nat} {r : Reg} (h : findReg a = some (r, n)) :
    r.flds.Pairwise fun f g => f.fld.key n ≠ g.fld.key n := by
  have hin := inBlock_of_findReg h
  simp only [Reg.inBlock, Bool.and_eq_true, beq_iff_eq, List.all_eq_true, decide_eq_true_eq] at hin
  obtain ⟨⟨-, hbase⟩, hlo⟩ := hin
  refine (List.pairwise_map.1 hlo).imp_of_mem fun {f g} hf hg hne => ?_
  obtain ⟨hfb, hfs⟩ := hbase f hf
  obtain ⟨hgb, hgs⟩ := hbase g hg
  simp only [Fld.key, hfb, hfs, hgb, hgs]
  omega

theorem regIs_of_findReg {a n : Nat} {r : Reg} (h : findReg a = some (r, n)) (p : Reg → Bool) : regIs a p = p r := by
  simp [regIs, h]

/-- The `_HI` word of a pair is not the `_LO` word of one. -/
theorem hi_not_lo {b : Nat} (h : writePairs.contains (b - 4) = true) : writePairs.contains b = false := by
  simp only [writePairs, List.contains_eq_mem, List.mem_cons, List.not_mem_nil, or_false, decide_eq_true_eq, decide_eq_false_iff_not] at h ⊢
  omega

namespace Dev

/-! ### Holding registers -/

theorem holdIx_mm (x : Nat) : holdIx .mm x = 2 * blockNum x + 0 := rfl

theorem holdIx_ce (x : Nat) : holdIx .ce x = 2 * blockNum x + 1 := rfl

/-- The two paths have different holding registers. -/
theorem holdIx_ne {a b : Acc} (h : b ≠ a) (x : Nat) : holdIx a x ≠ holdIx b x := by
  cases a <;> cases b <;> simp only [holdIx_mm, holdIx_ce, ne_eq, not_true_eq_false] at h ⊢ <;> omega

/-- Addresses of one block share the block's holding registers. -/
theorem holdOf_of_block (d : Dev) (acc : Acc) {x y : Nat} (h : x / 65536 = y / 65536) : d.holdOf acc x = d.holdOf acc y := by
  have hb : blockNum x = blockNum y := by unfold blockNum; rw [h]
  cases acc <;> simp only [holdOf, holdIx_mm, holdIx_ce, hb]

/-- Stated for any table: comparing a table with the one `setHold` writes would evaluate its index. -/
theorem withHold_lastRead (d : Dev) (v : Vector Hold 40) :
    ({ d with hst := { d.hst with hold := v } } : Dev).hst.lastRead = d.hst.lastRead := rfl

theorem withHold_regs (d : Dev) (v : Vector Hold 40) : ({ d with hst := { d.hst with hold := v } } : Dev).regs = d.regs := rfl

@[simp] theorem setHold_lastRead (d : Dev) (a : Acc) (x : Nat) (v : Hold) : (d.setHold a x v).hst.lastRead = d.hst.lastRead :=
  withHold_lastRead _ _

@[simp] theorem setHold_regs (d : Dev) (a : Acc) (x : Nat) (v : Hold) : (d.setHold a x v).regs = d.regs := withHold_regs _ _

@[simp] theorem fg_setHold (d : Dev) (a : Acc) (x : Nat) (v : Hold) (F : Fld) (n : Nat) : (d.setHold a x v).fg F n = d.fg F n := by
  rw [fg, setHold_regs, fg]

theorem holdOf_setHold_ne (d : Dev) {a b : Acc} (h : b ≠ a) (x : Nat) (v : Hold) : (d.setHold a x v).holdOf b x = d.holdOf b x :=
  vget_vset_ne _ _ (holdIx_ne h x)

/-- Every block of the map, 0x2000 to 0x2012 (R30), has its holding registers. -/
theorem holdOf_setHold (d : Dev) (a : Acc) {x : Nat} (h : x / 65536 < 0x2013) (v : Hold) : (d.setHold a x v).holdOf a x = v := by
  have hb : blockNum x < 19 := by unfold blockNum; omega
  refine vget_vset_same _ _ _ ?_
  cases a <;> simp only [holdIx_mm, holdIx_ce] <;> omega

/-! ### A write to a register of the map -/

/-- A write to a `_LO` word that can be written is held on its path (R13). -/
theorem regWrite_lo {d : Dev} {acc : Acc} {a w n : Nat} {r : Reg} (hf : findReg a = some (r, n)) (h4 : a % 4 = 0)
    (ha : d.aonDead a = false) (hs : a / 65536 ≠ 0x2009 ∨ unlockAddr a = true) (hp : writePairs.contains r.base = true) :
    d.regWrite acc a w = (.ok, d.holdLo acc a w) := by
  have hsaf : ¬ (a / 65536 = 0x2009 ∧ unlockAddr a = false) := by rintro ⟨h1, h2⟩; simp_all
  unfold regWrite
  rw [if_neg (by omega), if_neg (by simp [ha]), if_neg hsaf]
  simp only [hf, hp, if_true]

/-- A write to a `_HI` word that can be written commits the pair with the `_LO` word held on its path (R13). -/
theorem regWrite_hi {d : Dev} {acc : Acc} {a w n : Nat} {r : Reg} (hf : findReg a = some (r, n)) (h4 : a % 4 = 0)
    (ha : d.aonDead a = false) (hs : a / 65536 ≠ 0x2009 ∨ unlockAddr a = true) (hp : writePairs.contains (r.base - 4) = true) :
    d.regWrite acc a w =
      (.ok, (d.commitPair (r.base - 4) n (d.pairLo acc (r.base - 4) (a - 4)) w).dropLo acc (a - 4)) := by
  have hsaf : ¬ (a / 65536 = 0x2009 ∧ unlockAddr a = false) := by rintro ⟨h1, h2⟩; simp_all
  unfold regWrite
  rw [if_neg (by omega), if_neg (by simp [ha]), if_neg hsaf]
  simp only [hf, hi_not_lo hp, hp, Bool.false_eq_true, if_false, if_true]

/-! ### A read that clears -/

/-- The effect of a read on one field: an RC field clears. -/
def clearRC (n : Nat) (d : Dev) (s : FldSpec) : Dev := if s.acc = .RC then d.fs s.fld 0 n else d

theorem clearRC_hst (n : Nat) (l : List FldSpec) (d : Dev) : (l.foldl (clearRC n) d).hst = d.hst := by
  induction l generalizing d with
  | nil => rfl
  | cons s t ih =>
    rw [List.foldl_cons, ih, clearRC]
    split <;> rfl

/-- A place that no RC field of the list has keeps its contents. -/
theorem clearRC_keeps {n : Nat} {G : Fld} {l : List FldSpec} (h : ∀ s ∈ l, s.acc = .RC → G.key n ≠ s.fld.key n) (d : Dev) :
    (l.foldl (clearRC n) d).fg G n = d.fg G n := by
  induction l generalizing d with
  | nil => rfl
  | cons s t ih =>
    rw [List.foldl_cons, ih fun x hx => h x (.tail _ hx), clearRC]
    split
    · next hs => exact fg_fs_ne _ _ _ _ _ _ (h s (.head _) hs)
    · rfl

/-- Among fields of different places an RC field is 0 afterwards and a read-only one keeps its contents. -/
theorem clearRC_fg {n : Nat} {f : FldSpec} {l : List FldSpec} (hl : l.Pairwise fun f g => f.fld.key n ≠ g.fld.key n) (hf : f ∈ l)
    (d : Dev) : (f.acc = .RC → (l.foldl (clearRC n) d).fg f.fld n = 0) ∧
      (f.acc = .RO → (l.foldl (clearRC n) d).fg f.fld n = d.fg f.fld n) := by
  induction l generalizing d with
  | nil => cases hf
  | cons s t ih =>
    obtain ⟨hs, ht⟩ := List.pairwise_cons.1 hl
    rw [List.foldl_cons]
    rcases List.mem_cons.1 hf with rfl | hft
    · rw [clearRC_keeps fun x hx _ => hs x hx]
      constructor <;> intro hc <;> simp [clearRC, hc]
    · refine ⟨(ih ht hft _).1, fun ho => ?_⟩
      rw [(ih ht hft _).2 ho, clearRC]
      split
      · exact fg_fs_ne _ _ _ _ _ _ (hs f hft).symm
      · rfl

/-- What a read does, without the marks of R67 and R145 (`readFx_hst`, `readFx_fg`): the holding register of a `_LO` word is filled, RC fields clear. -/
def readClears (d : Dev) (acc : Acc) (a : Nat) (r : Reg) (n : Nat) : Dev :=
  r.flds.foldl (clearRC n) (if readPairs.contains r.base then
    d.setHold acc a { d.holdOf acc a with lo := a, hi := d.word (a + 4), seq := d.pairSeq r.base n } else d)

theorem readFx_hst (d : Dev) (acc : Acc) (a : Nat) (r : Reg) (n : Nat) : (d.readFx acc a r n).hst = (d.readClears acc a r n).hst := by
  unfold readFx
  simp only
  split
  · rfl
  · split <;> rfl

theorem readFx_fg (d : Dev) (acc : Acc) (a : Nat) (r : Reg) (n : Nat) (F : Fld) (m : Nat) :
    (d.readFx acc a r n).fg F m = (d.readClears acc a r n).fg F m := by
  unfold readFx
  simp only
  split
  · rfl
  · split <;> rfl

theorem readFx_lastRead (d : Dev) (acc : Acc) (a : Nat) (r : Reg) (n : Nat) :
    (d.readFx acc a r n).hst.lastRead = d.hst.lastRead := by
  rw [readFx_hst, readClears, clearRC_hst]
  split
  · exact setHold_lastRead _ _ _ _
  · rfl

/-- A `_LO` read fills the holding register of its block and path. -/
theorem readFx_hold {d : Dev} {acc : Acc} {a n : Nat} {r : Reg} (hp : readPairs.contains r.base = true) :
    (d.readFx acc a r n).hst.hold =
      (d.setHold acc a { d.holdOf acc a with lo := a, hi := d.word (a + 4), seq := d.pairSeq r.base n }).hst.hold := by
  rw [readFx_hst, readClears, clearRC_hst, if_pos hp]

/-- A read clears the register's RC fields and leaves its read-only ones. -/
theorem readFx_flds {d : Dev} {acc : Acc} {a n : Nat} {r : Reg} (h : findReg a = some (r, n)) {f : FldSpec} (hf : f ∈ r.flds) :
    (f.acc = .RC → (d.readFx acc a r n).fg f.fld n = 0) ∧ (f.acc = .RO → (d.readFx acc a r n).fg f.fld n = d.fg f.fld n) := by
  have hclr := clearRC_fg (keys_pairwise h) hf
    (if readPairs.contains r.base then d.setHold acc a { d.holdOf acc a with lo := a, hi := d.word (a + 4), seq := d.pairSeq r.base n }
      else d)
  rw [readFx_fg]
  refine ⟨hclr.1, fun ho => (hclr.2 ho).trans ?_⟩
  split
  · exact fg_setHold _ _ _ _ _ _
  · rfl

/-! ### The held word of a pair -/

/-- A read of a `_HI` word returns the word held for it on its path (R12). -/
theorem readWord_hi {e : Dev} {acc : Acc} {x n : Nat} {r : Reg} (hf : findReg x = some (r, n)) (h4 : x % 4 = 0)
    (halive : e.aon.alive = true) (hoff : x % 65536 ≠ 0xFFFC) (hp : readPairs.contains (r.base - 4) = true)
    (hlo : (e.holdOf acc x).lo = x - 4) : e.readWord acc x = (e.holdOf acc x).hi := by
  unfold readWord
  rw [if_neg (by simp [aonDead, halive, h4])]
  simp only [hf]
  rw [if_neg hoff, if_pos (by rw [hp, hlo]; simp)]

/-- The words of a pair stand in one block of the map. -/
theorem pair_block {x n n' : Nat} {r r' : Reg} (hf : findReg x = some (r, n)) (hf' : findReg (x + 4) = some (r', n'))
    (hb : r'.base = r.base + 4) (hp : readPairs.contains r.base = true) :
    (x + 4) / 65536 = x / 65536 ∧ x / 65536 < 0x2013 := by
  have hbase := base_of_findReg hf
  have hbase' := base_of_findReg hf'
  simp only [readPairs, List.contains_eq_mem, List.mem_cons, List.not_mem_nil, or_false, decide_eq_true_eq] at hp
  omega

end Dev

/-! ### The obligations -/

/-- Settles O3: each row is the access to the register at the address, and the access is that register's write, the hold or the
commit of a pair, or its read. -/
theorem registerAccess : Obligations.RegisterAccess := by
  intro s a addr val r n up d hf h4 ha hs
  refine ⟨?write, ?range, ?lo, ?hi, ?clear, ?bridge⟩
  case write =>
    intro e w hp hp' hok hw he
    have hwr : (d.regWrite a addr.toNat val.toNat).2 = e := by
      rw [regWrite_reg hf h4 ha hs hp hp', writeReg_ok hw hok, he]
    refine ⟨?_, fun h1 => ?_, fun h2 => ?_⟩
    · exact (State.runAll_up up _).trans (by rw [wrIf, always, if_pos rfl, hwr])
    · exact (State.runAll_up up _).trans (by rw [wrIf, regIs_of_findReg hf, if_pos h1, hwr])
    · exact (State.run_up up _).trans (by rw [if_pos rfl, wrIf, if_pos (by simp [h2]), hwr])
  case range =>
    intro w hp hp' hw hauth hbad
    have hwr : d.regWrite a addr.toNat val.toNat = (.range, d) := by
      rw [regWrite_reg hf h4 ha hs hp hp', writeReg_range hw hauth hbad]
    exact ⟨(State.runAll_up up _).trans (by rw [wrIf, always, if_pos rfl, hwr]), hwr⟩
  case lo =>
    intro hp
    refine ⟨(State.run_up up _).trans ?_, setHold_regs _ _ _ _⟩
    rw [wrIf, regIs_of_findReg hf, if_pos hp, regWrite_lo hf h4 ha hs hp]
  case hi =>
    intro hp
    refine (State.runTal_up up _).trans ?_
    rw [wrIf, regIs_of_findReg hf, if_pos hp, regWrite_hi hf h4 ha hs hp]
  case clear =>
    intro hc
    refine ⟨_, (State.run_up up _).trans (by rw [rdIf, regIs_of_findReg hf, if_pos hc, regRead_reg hf h4 ha]), ?_, ?_⟩
    · exact readFx_lastRead _ _ _ _ _
    · exact fun f hfm => readFx_flds hf hfm
  case bridge =>
    intro hb
    exact (State.run_up up _).trans (by rw [if_neg (by decide), rdIf, if_pos (by simp [hb])])

/-- Settles O4: the read fills the holding register of its block and path, and a read of the `_HI` word returns what is held there. -/
theorem snapshotHolds : Obligations.SnapshotHolds := by
  intro s a addr r r' n n' up d hf hf' hb h4 ha hp
  obtain ⟨hblk, hlt⟩ := pair_block hf hf' hb hp
  obtain ⟨d', hd'⟩ : ∃ d' : Dev, d' = { d with hst := { d.hst with lastRead := d.readWord a addr.toNat } } := ⟨_, rfl⟩
  have hread : exec (.loReadSnapshot a addr) s = .next (s.to (d'.readFx a addr.toNat r n)) :=
    (State.run_up up _).trans (by rw [rdIf, regIs_of_findReg hf, if_pos hp, regRead_reg hf h4 ha, hd'])
  have hhold : ∀ b x, (s.to (d'.readFx a addr.toNat r n)).dev.holdOf b x = (d'.setHold a addr.toNat
      { d'.holdOf a addr.toNat with lo := addr.toNat, hi := d'.word (addr.toNat + 4), seq := d'.pairSeq r.base n }).holdOf b x :=
    fun b x => congrArg (fun v => vget v (holdIx b x)) (readFx_hold hp)
  have hheld := (hhold a addr.toNat).trans (holdOf_setHold d' a hlt _)
  refine ⟨_, _, hread, rfl, ?lo, ?hi, ?seq, ?next, ?other⟩
  case lo => rw [hheld]
  case hi => rw [hheld, hd']
  case seq => rw [hheld, hd']; rfl
  case next =>
    intro e he halive hoff
    have hsame : e.holdOf a (addr.toNat + 4) = (s.to (d'.readFx a addr.toNat r n)).dev.holdOf a addr.toNat := by
      rw [holdOf_of_block e a hblk, holdOf, he, holdOf]
    rw [readWord_hi hf' (by omega) halive hoff (by rwa [hb]) (by rw [hsame, hheld]; rfl), hsame, hheld, hd']
  case other =>
    intro b hne
    rw [hhold, holdOf_setHold_ne _ hne, hd']
    rfl

/-- After reset the register file lists no field, so each reads as its table gives it. -/
theorem fg_reset (F : Fld) (n : Nat) : State.reset.dev.fg F n = F.rst n := rfl

/-- Settles O57: after reset every part of the machine is empty or as its definition writes it, and each field named has its
table's reset value. -/
theorem resetState : Obligations.ResetState := by
  refine ⟨⟨rfl, rfl, rfl, rfl⟩, rfl, rfl, rfl, rfl, ?fields⟩
  simp only [fg_reset]
  exact ⟨rfl, rfl, rfl, rfl, rfl, rfl, fun _ => rfl, fun _ => rfl, fun _ => rfl, fun _ => rfl, fun _ => rfl, fun _ => rfl, rfl, rfl,
    fun _ => rfl, rfl, rfl, rfl, rfl, rfl, rfl, rfl, rfl, rfl, fun _ => rfl⟩

end Sys2Proof.Machine
end

section
/-! SUPPORT. The frame of the rows that stay within their block: what it is for a device to be another one but for some parts, one
rule for each operation that the rows share, and what it is for a row to stay within some parts. -/
set_option Elab.async false

namespace Sys2Proof.Machine

/-! ### Devices that agree but for some parts -/

/-- A part is as it was, and no write to it is under way. -/
def Part.kept (d e : Dev) (p : Part) : Prop := p.same d e ∧ (p = .mem → e.out = d.out)

/-- `e` is `d` but for the parts of `L`. -/
def Dev.SameBut (L : List Part) (d e : Dev) : Prop := ∀ p, p ∉ L → p.kept d e

namespace Dev.SameBut

variable {L : List Part} {d e : Dev}

theorem refl : SameBut L d d := by
  intro p _
  cases p <;> exact ⟨by simp [Part.same], fun _ => rfl⟩

/-- A change that keeps every part but one of `L` may follow. -/
theorem change {e' : Dev} {q : Part} (h : SameBut L d e) (hq : q ∈ L) (hk : ∀ p, p ≠ q → p.kept d e → p.kept d e') : SameBut L d e' :=
  fun p hp => hk p (fun hpq => hp (hpq ▸ hq)) (h p hp)

/-! ### A change of one part -/

theorem regs {x} (h : SameBut L d e) (hm : .regs ∈ L := by decide) : SameBut L d { e with regs := x } := by
  refine h.change hm fun p hp hk => ?_
  cases p
  case regs => exact absurd rfl hp
  all_goals exact hk

theorem clk {x} (h : SameBut L d e) (hm : .clk ∈ L := by decide) : SameBut L d { e with clk := x } := by
  refine h.change hm fun p hp hk => ?_
  cases p
  case clk => exact absurd rfl hp
  all_goals exact hk

theorem sns {x} (h : SameBut L d e) (hm : .sns ∈ L := by decide) : SameBut L d { e with sns := x } := by
  refine h.change hm fun p hp hk => ?_
  cases p
  case sns => exact absurd rfl hp
  all_goals exact hk

theorem pwm {x} (h : SameBut L d e) (hm : .pwm ∈ L := by decide) : SameBut L d { e with pwm := x } := by
  refine h.change hm fun p hp hk => ?_
  cases p
  case pwm => exact absurd rfl hp
  all_goals exact hk

theorem cen {x} (h : SameBut L d e) (hm : .cen ∈ L := by decide) : SameBut L d { e with cen := x } := by
  refine h.change hm fun p hp hk => ?_
  cases p
  case cen => exact absurd rfl hp
  all_goals exact hk

theorem grd {x} (h : SameBut L d e) (hm : .grd ∈ L := by decide) : SameBut L d { e with grd := x } := by
  refine h.change hm fun p hp hk => ?_
  cases p
  case grd => exact absurd rfl hp
  all_goals exact hk

theorem wgh {x} (h : SameBut L d e) (hm : .wgh ∈ L := by decide) : SameBut L d { e with wgh := x } := by
  refine h.change hm fun p hp hk => ?_
  cases p
  case wgh => exact absurd rfl hp
  all_goals exact hk

theorem thm {x} (h : SameBut L d e) (hm : .thm ∈ L := by decide) : SameBut L d { e with thm := x } := by
  refine h.change hm fun p hp hk => ?_
  cases p
  case thm => exact absurd rfl hp
  all_goals exact hk

theorem tal {x} (h : SameBut L d e) (hm : .tal ∈ L := by decide) : SameBut L d { e with tal := x } := by
  refine h.change hm fun p hp hk => ?_
  cases p
  case tal => exact absurd rfl hp
  all_goals exact hk

theorem saf {x} (h : SameBut L d e) (hm : .saf ∈ L := by decide) : SameBut L d { e with saf := x } := by
  refine h.change hm fun p hp hk => ?_
  cases p
  case saf => exact absurd rfl hp
  all_goals exact hk

theorem sys {x} (h : SameBut L d e) (hm : .sys ∈ L := by decide) : SameBut L d { e with sys := x } := by
  refine h.change hm fun p hp hk => ?_
  cases p
  case sys => exact absurd rfl hp
  all_goals exact hk

theorem evt {x} (h : SameBut L d e) (hm : .evt ∈ L := by decide) : SameBut L d { e with evt := x } := by
  refine h.change hm fun p hp hk => ?_
  cases p
  case evt => exact absurd rfl hp
  all_goals exact hk

theorem hst {x} (h : SameBut L d e) (hm : .hst ∈ L := by decide) : SameBut L d { e with hst := x } := by
  refine h.change hm fun p hp hk => ?_
  cases p
  case hst => exact absurd rfl hp
  all_goals exact hk

theorem nql {x} (h : SameBut L d e) (hm : .nql ∈ L := by decide) : SameBut L d { e with nql := x } := by
  refine h.change hm fun p hp hk => ?_
  cases p
  case nql => exact absurd rfl hp
  all_goals exact hk

theorem drc {x} (h : SameBut L d e) (hm : .drc ∈ L := by decide) : SameBut L d { e with drc := x } := by
  refine h.change hm fun p hp hk => ?_
  cases p
  case drc => exact absurd rfl hp
  all_goals exact hk

theorem lmp {x} (h : SameBut L d e) (hm : .lmp ∈ L := by decide) : SameBut L d { e with lmp := x } := by
  refine h.change hm fun p hp hk => ?_
  cases p
  case lmp => exact absurd rfl hp
  all_goals exact hk

theorem aon {x} (h : SameBut L d e) (hm : .aon ∈ L := by decide) : SameBut L d { e with aon := x } := by
  refine h.change hm fun p hp hk => ?_
  cases p
  case aon => exact absurd rfl hp
  all_goals exact hk

theorem aux {x} (h : SameBut L d e) (hm : .aux ∈ L := by decide) : SameBut L d { e with aux := x } := by
  refine h.change hm fun p hp hk => ?_
  cases p
  case aux => exact absurd rfl hp
  all_goals exact hk

theorem tx {x} (h : SameBut L d e) (hm : .tx ∈ L := by decide) : SameBut L d { e with tx := x } := by
  refine h.change hm fun p hp hk => ?_
  cases p
  case tx => exact absurd rfl hp
  all_goals exact hk

/-- Drawing a free value changes no part. -/
theorem free {x} (h : SameBut L d e) : SameBut L d { e with free := x } := by
  intro p hp
  have hk := h p hp
  cases p <;> exact hk

/-! ### How changes follow one another -/

theorem ite {c : Prop} [Decidable c] {a b : Dev} (ha : SameBut L d a) (hb : SameBut L d b) : SameBut L d (if c then a else b) := by
  split
  · exact ha
  · exact hb

theorem foldl {α : Type} {f : Dev → α → Dev} {l : List α} (h : SameBut L d e)
    (hf : ∀ e x, SameBut L d e → SameBut L d (f e x)) : SameBut L d (l.foldl f e) := by
  induction l generalizing e with
  | nil => exact h
  | cons x t ih => exact ih (hf e x h)

theorem awake {f : Dev → Dev} (hf : SameBut L d (f d)) : SameBut L d (Dev.awake f d) := by
  unfold Dev.awake
  exact .ite hf .refl

theorem clocked {f : Dev → Dev} (hf : SameBut L d (f d)) : SameBut L d (Dev.clocked f d) := by
  unfold Dev.clocked
  exact .ite hf .refl

/-! ### The register file and events -/

theorem fs {F : Fld} {v n : Nat} (h : SameBut L d e) (hr : .regs ∈ L := by decide) : SameBut L d (e.fs F v n) := h.regs hr

theorem fsBit {F : Fld} {i n : Nat} {b : Bool} (h : SameBut L d e) (hr : .regs ∈ L := by decide) : SameBut L d (e.fsBit F i b n) :=
  h.fs hr

theorem finc {F : Fld} {n : Nat} (h : SameBut L d e) (hr : .regs ∈ L := by decide) : SameBut L d (e.finc F n) := h.fs hr

theorem fcnt {F V : Fld} {n : Nat} (h : SameBut L d e) (hr : .regs ∈ L := by decide) : SameBut L d (e.fcnt F V n) := by
  unfold Dev.fcnt
  exact .ite (h.fs hr) ((h.fs hr).fs hr)

theorem fsat {F : Fld} {n : Nat} (h : SameBut L d e) (hr : .regs ∈ L := by decide) : SameBut L d (e.fsat F n) := by
  unfold Dev.fsat
  exact .ite (h.fs hr) h

theorem raise {ev x : Nat} (h : SameBut L d e) (he : .evt ∈ L := by decide) : SameBut L d (e.raise ev x) := h.evt he

theorem raiseN {ev x : Nat} (h : SameBut L d e) (he : .evt ∈ L := by decide) : SameBut L d (e.raiseN ev x) := by
  unfold Dev.raiseN
  exact .ite (h.raise he) (.ite h (h.evt he))

theorem fsIf {c : Prop} [Decidable c] {F : Fld} {v n : Nat} (h : SameBut L d e) (hr : .regs ∈ L := by decide) :
    SameBut L d (if c then e.fs F v n else e) := .ite (h.fs hr) h

theorem raiseIf {c : Prop} [Decidable c] {ev x : Nat} (h : SameBut L d e) (he : .evt ∈ L := by decide) :
    SameBut L d (if c then e.raise ev x else e) := .ite (h.raise he) h

theorem dropSeen {k : Nat} (h : SameBut L d e) (hr : .regs ∈ L := by decide) : SameBut L d (e.dropSeen k) := by
  unfold Dev.dropSeen
  exact .ite (h.fsBit hr) h

/-! ### The life of a command -/

theorem updCmd {p : Path} {tag : Nat} {f : Cmd → Cmd} (h : SameBut L d e) (hh : .hst ∈ L := by decide) :
    SameBut L d (e.updCmd p tag f) := h.hst hh

theorem showOutst (h : SameBut L d e) (hr : .regs ∈ L := by decide) : SameBut L d e.showOutst := h.fs hr

theorem complete {p : Path} {tag : Nat} {st : St} {b : List Byte} (h : SameBut L d e) (hr : .regs ∈ L := by decide)
    (hh : .hst ∈ L := by decide) : SameBut L d (e.complete p tag st b) := by
  unfold Dev.complete Dev.dropCmd
  exact .ite ((h.hst hh).showOutst hr) (h.updCmd hh)

theorem runCmd {op : Nat} {p : Path} {tag : Byte} {f : Cmd → Dev → Res × Dev} (hf : ∀ c, SameBut L d (f c d).2)
    (hr : .regs ∈ L := by decide) (hh : .hst ∈ L := by decide) : SameBut L d (d.runCmd op p tag f) := by
  unfold Dev.runCmd
  split
  · exact .refl
  · next c _ =>
    have hc := hf c
    split
    · next heq => exact (heq ▸ hc : SameBut L d (_, _).2).complete hr hh
    · next heq => exact (heq ▸ hc : SameBut L d (_, _).2).updCmd hh

end Dev.SameBut

/-! ### Rows that stay within some parts -/

/-! The parts that the rows of a block may change, as `touched` names them. -/

abbrev clkParts : List Part := [.regs, .clk, .evt]
abbrev snsParts : List Part := [.regs, .sns, .evt]
abbrev markParts : List Part := [.regs, .pwm, .evt, .tx]
abbrev cenParts : List Part := [.regs, .cen, .evt]
abbrev grdParts : List Part := [.regs, .grd, .evt]
abbrev safParts : List Part := [.regs, .saf, .grd, .evt]
abbrev wghParts : List Part := [.regs, .wgh, .thm, .evt]
abbrev talParts : List Part := [.regs, .tal, .evt]
abbrev hstParts : List Part := [.regs, .hst, .evt]
abbrev cmdParts : List Part := [.regs, .hst]
abbrev nqlParts : List Part := [.regs, .nql, .drc, .evt, .tx]
abbrev lmpParts : List Part := [.regs, .lmp, .evt, .tx]
abbrev aonParts : List Part := [.regs, .aon, .evt]
abbrev auxParts : List Part := [.regs, .aux, .evt, .hst]

/-- The row changes no part of the device but those of `L`. -/
def Stays (L : List Part) (c : Instr) : Prop := ∀ s t : State, s.Inv → exec c s = .next t → ∀ p, p ∉ L → p.same s.dev t.dev

namespace Stays

variable {L : List Part} {c : Instr} {f : Dev → Dev}

/-- A row outside Tallyman whose effect on the device stays within `L`: none of its writes lands in memory. -/
theorem lift {saf : Bool} (hc : ∀ s, exec c s = s.lift false saf f) (hf : ∀ d, Dev.SameBut L d (f d)) : Stays L c := by
  intro s t hi hx p hp
  obtain ⟨hsame, hout⟩ := hf s.dev p hp
  obtain ⟨-, -, hnone, -⟩ := hi
  rw [State.lift_next ((hc s).symm.trans hx)]
  cases p
  case mem => simp [Part.same, hout rfl, hnone]
  case mram => rfl
  case saf => cases saf; rfl; exact hsame
  all_goals exact hsame

/-- A row of the core's. -/
theorem run (hc : ∀ s, exec c s = s.run f) (hf : ∀ d, Dev.SameBut L d (f d)) : Stays L c := lift hc fun d => .awake (hf d)

/-- A row of a block that the interface PLLs clock. -/
theorem runIf (hc : ∀ s, exec c s = s.runIf f) (hf : ∀ d, Dev.SameBut L d (f d)) : Stays L c :=
  run hc fun d => .clocked (hf d)

/-- A row of the safety supervisor's. -/
theorem runSaf (hc : ∀ s, exec c s = s.runSaf f) (hf : ∀ d, Dev.SameBut L d (f d)) : Stays L c := lift hc fun d => .awake (hf d)

/-- A row of Nightwatch's. -/
theorem runAon (hc : ∀ s, exec c s = s.runAon f) (hf : ∀ d, Dev.SameBut L d (f d)) : Stays L c := lift hc hf

/-- A command that changes registers alone. -/
theorem cmd {op : Nat} {p : Path} {tag : Byte} {g : Cmd → Dev → Res × Dev} (hc : ∀ s, exec c s = s.run fun d => d.runCmd op p tag g)
    (hg : ∀ c d, Dev.SameBut [.regs, .hst] d (g c d).2) : Stays [.regs, .hst] c :=
  run hc fun d => .runCmd fun c => hg c d

end Stays

end Sys2Proof.Machine
end

section
/-! SUPPORT. The rows of clocks and time that stay within their block. -/
set_option Elab.async false

namespace Sys2Proof.Machine
namespace Dev.SameBut

/-! ### Clocks and time (03) -/

variable {d e : Dev}

theorem setAcq {a : Option Acq} (h : SameBut clkParts d e) : SameBut clkParts d (e.setAcq a) := h.clk

theorem acqFail (h : SameBut clkParts d e) : SameBut clkParts d e.acqFail := .raise (.fs (.fs (.setAcq h)))

theorem acqChoose {a : Acq} (h : SameBut clkParts d e) : SameBut clkParts d (e.acqChoose a) := by
  unfold Dev.acqChoose
  split
  · exact .setAcq h
  · exact .acqFail h

theorem acqScan {a : Acq} {b : Nat} (h : SameBut clkParts d e) : SameBut clkParts d (e.acqScan a b) := by
  unfold Dev.acqScan
  split
  · exact .setAcq h
  · exact .acqChoose h

theorem acqStart {byEn : Bool} (h : SameBut clkParts d e) : SameBut clkParts d (e.acqStart byEn) :=
  .ite (.setAcq (.fs h)) (.acqScan (.fs h))

theorem refGood (h : SameBut clkParts d e) : SameBut clkParts d e.refGood := by
  unfold Dev.refGood
  dsimp only
  refine .ite h ?_
  split
  · exact .ite (.clk (.fs h)) (.ite (.acqStart (.clk (.fs h))) (.setAcq (.clk (.fs h))))
  · exact .clk (.fs h)

theorem capture (h : SameBut clkParts d e) : SameBut clkParts d e.capture := by
  unfold Dev.capture
  exact .clk (.fs (.fs (.fs (.fs (.fs (.fs (.finc (.ite (.fs h) h))))))))

end Dev.SameBut

namespace Stays
open Dev.SameBut

@[simp] theorem ppsRise : Stays clkParts .ppsRise := .run (fun _ => rfl) fun _ => .ite (.clk .refl) .refl

@[simp] theorem ppsFall : Stays clkParts .ppsFall := .run (fun _ => rfl) fun _ => .ite (.clk .refl) .refl

@[simp] theorem ptpCapEdge : Stays clkParts .ptpCapEdge := .run (fun _ => rfl) fun _ => .ite (.capture .refl) .refl

@[simp] theorem refGoodTimeout : Stays clkParts .refGoodTimeout := .run (fun _ => rfl) fun _ => .ite (.refGood .refl) .refl

@[simp] theorem bandMeasureDone (mhz : BitVec 12) : Stays clkParts (.bandMeasureDone mhz) := .run (fun _ => rfl) fun d => by
  unfold bandMeasureDev
  split
  · exact .refl
  · split
    · exact .ite (.setAcq (.fs .refl)) (.acqScan (.fs .refl))
    · exact .acqScan (.fs .refl)
    · exact .refl

@[simp] theorem lockAttemptTimeout : Stays clkParts .lockAttemptTimeout := .run (fun _ => rfl) fun d => by
  unfold lockTimeoutDev
  split
  · exact .refl
  · split
    · exact .ite (.acqScan .refl) (.acqChoose .refl)
    · exact .refl

end Stays
end Sys2Proof.Machine
end

section
/-! SUPPORT. The rows of sensing and of carrier groups that stay within their block. -/
set_option Elab.async false

namespace Sys2Proof.Machine
namespace Dev.SameBut

/-! ### Sensing (04) -/

variable {d e : Dev}

theorem updMtr {c : Nat} {f : MtrCh → MtrCh} (h : SameBut snsParts d e) : SameBut snsParts d (e.updMtr c f) := h.sns

theorem rotStart (h : SameBut snsParts d e) : SameBut snsParts d e.rotStart := .fs (.fs (.fs (.fs (.sns h))))

theorem swapConv {a b : Nat} (h : SameBut snsParts d e) : SameBut snsParts d (e.swapConv a b) := h.sns

theorem mtrSample {c : Nat} {i : MtrIn} (h : SameBut snsParts d e) : SameBut snsParts d (e.mtrSample c i) :=
  .sns (.updMtr (.raiseIf (.raiseIf (.raiseIf h))))

theorem auxIdle {was : Dev} (h : SameBut snsParts d e) : SameBut snsParts d (e.auxIdle was) := .ite (.sns h) h

theorem stFallDue (h : SameBut snsParts d e) : SameBut snsParts d e.stFallDue := .sns (.auxIdle h)

/-! ### Carrier groups and markers (05) -/

theorem markOn {g count l : Nat} (h : SameBut markParts d e) : SameBut markParts d (e.markOn g count l) := .ite (.tx (.free h)) h

theorem sendMark {g : Nat} (h : SameBut markParts d e) : SameBut markParts d (e.sendMark g) :=
  .ite (.foldl (.pwm h) fun _ _ => .markOn) h

theorem updLeg {n : Nat} {f : Leg → Leg} (h : SameBut markParts d e) : SameBut markParts d (e.updLeg n f) := h.pwm

theorem updCg {g : Nat} {f : CGrp → CGrp} (h : SameBut markParts d e) : SameBut markParts d (e.updCg g f) := h.pwm

theorem alignLoss (h : SameBut markParts d e) : SameBut markParts d e.alignLoss := by
  unfold Dev.alignLoss
  exact .ite (.foldl (.pwm (.raise (.fs (.fs h)))) fun _ _ => .updLeg) (.pwm (.raise (.fs (.fs h))))

theorem cgRoll {g : Nat} (h : SameBut markParts d e) : SameBut markParts d (e.cgRoll g) := .ite (.sendMark (.updCg h)) h

theorem cgRollAll (h : SameBut markParts d e) : SameBut markParts d e.cgRollAll := .foldl h fun _ _ => .cgRoll

end Dev.SameBut

namespace Stays
open Dev.SameBut

@[simp] theorem stuckRecovered (n : Fin 24) : Stays snsParts (.stuckRecovered n) := .run (fun _ => rfl) fun _ => .ite (.fs .refl) .refl

@[simp] theorem rotationStepStart : Stays snsParts .rotationStepStart := .run (fun _ => rfl) fun _ => .ite (.rotStart .refl) .refl

@[simp] theorem rotationHandover : Stays snsParts .rotationHandover := .run (fun _ => rfl) fun d => by
  unfold rotationHandoverDev
  split
  · exact .ite (.sns (.updMtr (.swapConv .refl))) .refl
  · exact .refl

@[simp] theorem rotationOffsetMeasured (ofs : BitVec 16) : Stays snsParts (.rotationOffsetMeasured ofs) := .run (fun _ => rfl) fun d => by
  unfold rotationOffsetDev
  split
  · exact .ite (.sns .refl) .refl
  · exact .refl

@[simp] theorem auxScanStart : Stays snsParts .auxScanStart := .run (fun _ => rfl) fun _ => .ite .refl (.sns .refl)

@[simp] theorem auxSelftestDue : Stays snsParts .auxSelftestDue := .run (fun _ => rfl) fun _ => .ite (.stFallDue .refl) .refl

@[simp] theorem meteringSample (l : List MtrIn) : Stays snsParts (.meteringSample l) := .run (fun _ => rfl) fun _ =>
  .ite .refl (.sns (.foldl .refl fun _ _ => .mtrSample))

@[simp] theorem openWireConversionDone (code : BitVec 20) : Stays snsParts (.openWireConversionDone code) := .run (fun _ => rfl) fun d => by
  unfold openWireDev
  split
  · exact .refl
  · exact .ite .refl (.ite (.raise (.fsBit (.fsBit (.sns .refl)))) (.fsBit (.sns .refl)))

@[simp] theorem auxSelftestConversionDone (code : BitVec 20) : Stays snsParts (.auxSelftestConversionDone code) :=
  .run (fun _ => rfl) fun d => by
    unfold auxSelftestConvDev
    exact .ite .refl (.ite (.sns (.sns .refl)) (.ite (.raise (.fs (.fs (.fs (.finc (.sns (.sns .refl)))))))
      (.fs (.fs (.finc (.sns (.sns .refl)))))))

@[simp] theorem markerTimeout : Stays markParts .markerTimeout := .run (fun _ => rfl) fun d => by
  unfold markerTimeoutDev
  exact .ite (.alignLoss (.cgRollAll .refl)) (.cgRollAll .refl)

end Stays
end Sys2Proof.Machine
end

section
/-! SUPPORT. The rows of Cooper, the grid functions, Weighmaster, Tallyman and the safety supervisor that stay within their block. -/
set_option Elab.async false

namespace Sys2Proof.Machine
namespace Dev.SameBut

variable {L : List Part} {d e : Dev}

/-! ### Cooper (07) -/

theorem setTrc {c : Nat} {t : TrcCh} (h : SameBut cenParts d e) : SameBut cenParts d (e.setTrc c t) := h.cen

theorem showRec (h : SameBut cenParts d e) : SameBut cenParts d e.showRec := h.fs

theorem trcDisarm (h : SameBut cenParts d e) : SameBut cenParts d e.trcDisarm := .showRec (.cen (.fs h))

theorem testAsk (h : SameBut cenParts d e) : SameBut cenParts d e.testAsk := .cen (.cen h)

/-! ### The grid functions and the safety supervisor (08, 11) -/

theorem updGrd {f : Grd → Grd} (h : SameBut L d e) (hg : .grd ∈ L := by decide) : SameBut L d (e.updGrd f) := h.grd hg

theorem grdState {st : Nat} (h : SameBut safParts d e) : SameBut safParts d (e.grdState st) := .ite h (.grd (.raise (.fs h)))

theorem showPend (h : SameBut safParts d e) : SameBut safParts d e.showPend := h.fs

theorem grdGo {st : Nat} (h : SameBut safParts d e) : SameBut safParts d (e.grdGo st) :=
  .showPend (.ite (.grdState h) (.fs (.grdState h)))

theorem openDone (h : SameBut safParts d e) : SameBut safParts d e.openDone := .ite (.grdGo (.updGrd h)) h

theorem grdStart (h : SameBut safParts d e) : SameBut safParts d e.grdStart := by
  unfold Dev.grdStart
  exact .ite (.fs (.fs (.fs (.fs (.fs (.fs (.fs (.grd h)))))))) (.grdGo (.fs (.fs (.fs (.fs (.fs (.fs (.fs (.grd h)))))))))

/-- What the supervisor's report of the grid contactor does to the grid functions. -/
theorem grdReport {r : Nat} (h : SameBut safParts d e) : SameBut safParts d (e.grdReport r) := by
  unfold Dev.grdReport
  exact .ite (.updGrd h) (.ite (.ite (.updGrd h) (.grdStart (.updGrd h)))
    (.ite (.openDone (.updGrd h)) (.ite (.raise (.grdGo (.updGrd (.updGrd h)))) (.updGrd h))))

theorem updFn {f : Nat} {g : SFn → SFn} (h : SameBut safParts d e) : SameBut safParts d (e.updFn f g) := h.saf

theorem nonceClear (h : SameBut safParts d e) : SameBut safParts d e.nonceClear := .saf (.foldl h fun _ _ h => .fs h)

/-! ### Weighmaster and the thermal zones (09) -/

theorem updWgh {f : Wgh → Wgh} (h : SameBut wghParts d e) : SameBut wghParts d (e.updWgh f) := h.wgh

theorem updReq {r : Nat} {f : Req → Req} (h : SameBut wghParts d e) : SameBut wghParts d (e.updReq r f) := h.updWgh

theorem putCeil {r c scale : Nat} (h : SameBut wghParts d e) : SameBut wghParts d (e.putCeil r c scale) := .ite h.fs h

/-- The ceilings of a whole set of frames are stored. -/
theorem followed {b : Prop} [Decidable b] {l : List (Nat × Nat)} (h : SameBut wghParts d e) :
    SameBut wghParts d (if b then l.foldl (fun d x => if d.fb WGH_REQ_r_CFG_EN x.1 && decide (x.1 < 32) then
      d.putCeil x.1 x.2 (d.fg WGH_REQ_r_SCALE_SCALE x.1) else d) e else e) :=
  .ite (.foldl h fun _ _ h => .ite (.putCeil h) h) h

theorem enforce {z : Nat} (h : SameBut wghParts d e) : SameBut wghParts d (e.enforce z) := .raise (.fs (.fs (.thm h)))

theorem showThm (h : SameBut wghParts d e) : SameBut wghParts d e.showThm := .fs (.fs (.fs (.fs h)))

/-! ### Tallyman (10) -/

theorem talFlag {i : Nat} (h : SameBut talParts d e) : SameBut talParts d (e.talFlag i) := .ite (.fsBit h) h

theorem talMark {i : Nat} (h : SameBut talParts d e) : SameBut talParts d (e.talMark i) := .ite (.talFlag h) (.raise (.tal (.talFlag h)))

theorem talMissing {k : Nat} (h : SameBut talParts d e) : SameBut talParts d (e.talMissing k) := .tal (.talMark (.fsat h))

end Dev.SameBut

namespace Stays
open Dev.SameBut

/-! ### Cooper -/

@[simp] theorem slotDispatch (l : Fin 4) : Stays cenParts (.slotDispatch l) := .run (fun _ => rfl) fun _ => .ite (.cen .refl) .refl

@[simp] theorem cooperSelftestDue : Stays cenParts .cooperSelftestDue := .run (fun _ => rfl) fun _ => .ite (.testAsk .refl) .refl

@[simp] theorem scrivenerPostDone (c : Fin 4) : Stays cenParts (.scrivenerPostDone c) := .run (fun _ => rfl) fun d => by
  unfold postDoneDev
  exact .ite (.ite (.showRec (.setTrc .refl)) (.raise (.fs (.trcDisarm (.showRec (.setTrc .refl)))))) .refl

/-! ### The grid functions -/

@[simp] theorem suspectHoldExpiry : Stays grdParts .suspectHoldExpiry := .run (fun _ => rfl) fun _ => .ite (.fs .refl) .refl

@[simp] theorem enterServiceRampEnd : Stays grdParts .enterServiceRampEnd := .run (fun _ => rfl) fun d => by
  unfold rampEndDev
  split
  · exact .refl
  · exact .ite (.raise (.updGrd .refl)) .refl

@[simp] theorem coopPeerTimeout (n : Fin 8) : Stays grdParts (.coopPeerTimeout n) := .run (fun _ => rfl) fun d => by
  unfold coopTimeoutDev
  exact .ite (.raise (.fsBit (.fsBit (.fsBit (.updGrd .refl))))) .refl

/-! ### Weighmaster and the thermal zones -/

@[simp] theorem burstReservationLapse : Stays wghParts .burstReservationLapse := .run (fun _ => rfl) fun _ => .updWgh .refl

@[simp] theorem wghReqFrameReceived (pos : Fin 4) (l : List (Nat × Nat)) : Stays wghParts (.wghReqFrameReceived pos l) :=
  .runIf (fun _ => rfl) fun _ => .ite .refl (.foldl .refl fun _ _ h => .ite (.updReq h) h)

@[simp] theorem wghCeilFrameReceived (parts : Fin 3) (part : Fin 2) (l : List (Nat × Nat)) :
    Stays wghParts (.wghCeilFrameReceived parts part l) := .runIf (fun _ => rfl) fun _ => .ite .refl (.updWgh .refl)

@[simp] theorem followerCeilingWrite : Stays wghParts .followerCeilingWrite := .run (fun _ => rfl) fun d => by
  unfold followerCeilDev
  exact .ite .refl (.ite (.raise (.fs (.foldl (.updWgh (followed .refl)) fun _ _ => .putCeil))) (.updWgh (followed .refl)))

@[simp] theorem graceExpiry (z : Fin 8) : Stays wghParts (.graceExpiry z) := .run (fun _ => rfl) fun d => by
  unfold graceExpiryDev
  split
  · exact .refl
  · exact .ite (.showThm (.enforce .refl)) .refl

/-! ### Tallyman -/

@[simp] theorem talNonceExpiry : Stays talParts .talNonceExpiry := .run (fun _ => rfl) fun _ => .ite (.tal .refl) .refl

@[simp] theorem missingSetTimeout : Stays talParts .missingSetTimeout := .run (fun _ => rfl) fun _ => .ite .refl (.talMissing .refl)

@[simp] theorem pfailRise : Stays talParts .pfailRise := .run (fun _ => rfl) fun _ => .fs .refl

/-! ### The safety supervisor -/

@[simp] theorem testPulseStart (src : Fin 2) : Stays safParts (.testPulseStart src) := .runSaf (fun _ => rfl) fun _ => .ite (.saf .refl) .refl

@[simp] theorem testPulseEnd (src : Fin 2) : Stays safParts (.testPulseEnd src) := .runSaf (fun _ => rfl) fun _ => .ite (.saf .refl) .refl

@[simp] theorem connectionCheckStart (f : Fin 2) : Stays safParts (.connectionCheckStart f) :=
  .runSaf (fun _ => rfl) fun _ => .ite (.updFn .refl) .refl

@[simp] theorem safNonceExpiry : Stays safParts .safNonceExpiry := .runSaf (fun _ => rfl) fun _ => .ite (.nonceClear .refl) .refl

@[simp] theorem relayVerified (f : Fin 2) : Stays safParts (.relayVerified f) := .runSaf (fun _ => rfl) fun d => by
  unfold relayVerifiedDev
  exact .ite .refl (.ite (.ite .refl (.ite (.grdReport (.updFn .refl)) (.updFn .refl)))
    (.ite (.ite .refl (.ite (.grdReport (.updFn .refl)) (.updFn .refl))) .refl))

end Stays
end Sys2Proof.Machine
end

section
/-! SUPPORT. The rows of the host port and the commands that change registers alone. -/
set_option Elab.async false

namespace Sys2Proof.Machine
namespace Dev.SameBut

variable {L : List Part} {d e : Dev}

theorem drive {l : List Byte} (h : SameBut hstParts d e) : SameBut hstParts d (e.drive l) := h.hst

theorem showEvtLine (h : SameBut cmdParts d e) : SameBut cmdParts d e.showEvtLine := h.fs

/-- A command that reads registers changes none. -/
theorem capsCmd {addrs : List Nat} (c : Cmd) (d : Dev) : SameBut L d (capsCmd addrs c d).2 := by
  unfold Machine.capsCmd
  split <;> exact .refl

theorem auxWordsCmd {addrs : List Nat} (c : Cmd) (d : Dev) : SameBut cmdParts d (auxWordsCmd addrs c d).2 := by
  unfold Machine.auxWordsCmd
  split
  · exact .hst .refl
  · exact .capsCmd c d

end Dev.SameBut

namespace Stays
open Dev.SameBut

/-! ### The host port and the life of a command (12) -/

@[simp] theorem hostStatus : Stays hstParts .hostStatus := .run (fun _ => rfl) fun _ => .drive .refl

@[simp] theorem hostWrite (addr : W32) (data : List Byte) : Stays hstParts (.hostWrite addr data) :=
  .run (fun _ => rfl) fun _ => .ite (.raise (.fs (.fs .refl))) (.hst .refl)

@[simp] theorem hostReadTimeout (addr : W32) : Stays hstParts (.hostReadTimeout addr) := .run (fun _ => rfl) fun _ => .drive (.fs .refl)

@[simp] theorem hostBadInstruction (b : Byte) : Stays hstParts (.hostBadInstruction b) := .run (fun _ => rfl) fun _ => .ite .refl (.fs .refl)

@[simp] theorem hostReply : Stays hstParts .hostReply := .run (fun _ => rfl) fun d => by
  unfold hostReplyDev
  split
  · exact .drive .refl
  · exact .drive (.fs (.hst .refl))

@[simp] theorem commandStart (p : Path) (tag : Byte) : Stays hstParts (.commandStart p tag) := .run (fun _ => rfl) fun d => by
  unfold Dev.startCmd
  split
  · exact .refl
  · exact .ite .refl (.ite (.complete (.updCmd .refl)) (.ite (.complete (.updCmd .refl)) (.updCmd .refl)))

@[simp] theorem accessTimeout (p : Path) (tag : Byte) : Stays hstParts (.accessTimeout p tag) := .run (fun _ => rfl) fun d => by
  unfold accessTimeoutDev
  split
  · exact .refl
  · exact .ite (.complete (.hst .refl)) .refl

/-! ### Commands that answer with registers or bytes -/

/-- A command that answers with the words of registers. -/
theorem caps {c : Instr} {op : Nat} {p : Path} {tag : Byte} {addrs : List Nat}
    (hc : ∀ s, exec c s = s.run fun d => d.runCmd op p tag (capsCmd addrs)) : Stays cmdParts c := .cmd hc .capsCmd

variable (p : Path) (tag : Byte)

@[simp] theorem sysCaps : Stays cmdParts (.sysCaps p tag) := .caps fun _ => rfl
@[simp] theorem pwmCaps : Stays cmdParts (.pwmCaps p tag) := .caps fun _ => rfl
@[simp] theorem trpCaps : Stays cmdParts (.trpCaps p tag) := .caps fun _ => rfl
@[simp] theorem snsCaps : Stays cmdParts (.snsCaps p tag) := .caps fun _ => rfl
@[simp] theorem cenCaps : Stays cmdParts (.cenCaps p tag) := .caps fun _ => rfl
@[simp] theorem trcCaps : Stays cmdParts (.trcCaps p tag) := .caps fun _ => rfl
@[simp] theorem grdCaps : Stays cmdParts (.grdCaps p tag) := .caps fun _ => rfl
@[simp] theorem wghCaps : Stays cmdParts (.wghCaps p tag) := .caps fun _ => rfl
@[simp] theorem thmCaps : Stays cmdParts (.thmCaps p tag) := .caps fun _ => rfl
@[simp] theorem talCaps : Stays cmdParts (.talCaps p tag) := .caps fun _ => rfl
@[simp] theorem safCaps : Stays cmdParts (.safCaps p tag) := .caps fun _ => rfl
@[simp] theorem nqlCaps : Stays cmdParts (.nqlCaps p tag) := .caps fun _ => rfl
@[simp] theorem lmpCaps : Stays cmdParts (.lmpCaps p tag) := .caps fun _ => rfl
@[simp] theorem trpStatus : Stays cmdParts (.trpStatus p tag) := .caps fun _ => rfl
@[simp] theorem cenStatus : Stays cmdParts (.cenStatus p tag) := .caps fun _ => rfl
@[simp] theorem thmStatus : Stays cmdParts (.thmStatus p tag) := .caps fun _ => rfl
@[simp] theorem talStatus : Stays cmdParts (.talStatus p tag) := .caps fun _ => rfl
@[simp] theorem safStatus : Stays cmdParts (.safStatus p tag) := .caps fun _ => rfl
@[simp] theorem netStatus : Stays cmdParts (.netStatus p tag) := .caps fun _ => rfl
@[simp] theorem nqlStatus : Stays cmdParts (.nqlStatus p tag) := .caps fun _ => rfl
@[simp] theorem lmpStatus : Stays cmdParts (.lmpStatus p tag) := .caps fun _ => rfl
@[simp] theorem auxCaps : Stays cmdParts (.auxCaps p tag) := .cmd (fun _ => rfl) .auxWordsCmd
@[simp] theorem auxStatus : Stays cmdParts (.auxStatus p tag) := .cmd (fun _ => rfl) .auxWordsCmd

@[simp] theorem wghStatus : Stays cmdParts (.wghStatus p tag) := .cmd (fun _ => rfl) fun c d => by
  unfold wghStatusCmd
  dsimp only
  split <;> exact .refl

@[simp] theorem trcRead : Stays cmdParts (.trcRead p tag) := .cmd (fun _ => rfl) fun c d => by
  unfold trcReadCmd
  dsimp only
  split <;> exact .refl

@[simp] theorem talReadInt : Stays cmdParts (.talReadInt p tag) := .cmd (fun _ => rfl) fun c d => by
  unfold talReadIntCmd
  dsimp only
  split <;> exact .refl

@[simp] theorem safReadCfg : Stays cmdParts (.safReadCfg p tag) := .cmd (fun _ => rfl) fun c d => by
  unfold safReadCfgCmd
  dsimp only
  split
  · exact .refl
  · split <;> exact .refl

@[simp] theorem sysNop : Stays cmdParts (.sysNop p tag) := .cmd (fun _ => rfl) fun c d => by
  unfold sysNopCmd
  split <;> exact .refl

@[simp] theorem memReadCmd : Stays cmdParts (.memReadCmd p tag) := .cmd (fun _ => rfl) fun c d => by
  unfold Machine.memReadCmd
  dsimp only
  split
  · exact .refl
  · split
    · exact .refl
    · split <;> exact .refl

/-! ### Commands that change registers, or a command that waits -/

@[simp] theorem hstAbort : Stays cmdParts (.hstAbort p tag) := .cmd (fun _ => rfl) fun c d => by
  unfold hstAbortCmd
  dsimp only
  split
  · exact .refl
  · split
    · exact .refl
    · split
      · exact .refl
      · exact .complete .refl

@[simp] theorem cenClear : Stays cmdParts (.cenClear p tag) := .cmd (fun _ => rfl) fun c d => by
  unfold cenClearCmd
  split
  · exact .refl
  · exact .foldl .refl fun _ _ h => .ite (.fs (.fs h)) (.ite (.ite (.fs (.fs h)) (.fs h)) (.ite (.fs (.fs h)) (.fs h)))

@[simp] theorem talClear : Stays cmdParts (.talClear p tag) := .cmd (fun _ => rfl) fun c d => by
  unfold talClearCmd
  split
  · exact .refl
  · split
    · exact .refl
    · exact .fs .refl

@[simp] theorem netSessClose : Stays cmdParts (.netSessClose p tag) := .cmd (fun _ => rfl) fun c d => by
  unfold sessCloseCmd
  dsimp only
  split
  · exact .refl
  · exact .showOutst (.hst (.fs .refl))

@[simp] theorem netRekey : Stays cmdParts (.netRekey p tag) := .cmd (fun _ => rfl) fun c d => by
  unfold rekeyCmd
  dsimp only
  split
  · exact .refl
  · split
    · exact .refl
    · split
      · exact .refl
      · exact .fs (.ite (.fs .refl) (.fs .refl))

@[simp] theorem svnAdvance : Stays cmdParts (.svnAdvance p tag) := .cmd (fun _ => rfl) fun c d => by
  unfold svnAdvanceCmd
  dsimp only
  split
  · exact .refl
  · split
    · exact .refl
    · exact .fs .refl

@[simp] theorem evtRead : Stays cmdParts (.evtRead p tag) := .cmd (fun _ => rfl) fun c d => by
  unfold evtReadCmd
  dsimp only
  split
  · exact .refl
  · exact .fs .refl

@[simp] theorem evtClear : Stays cmdParts (.evtClear p tag) := .cmd (fun _ => rfl) fun c d => by
  unfold evtClearCmd
  split
  · exact .refl
  · exact .showEvtLine (.foldl .refl fun _ _ h => .fs h)

end Stays
end Sys2Proof.Machine
end

section
/-! SUPPORT. The rows of the DRAM port, the Neriq Link and the network ports, of Lamplighter, of Nightwatch, of the auxiliary drivers
and of the event outputs that stay within their block. -/
set_option Elab.async false

namespace Sys2Proof.Machine
namespace Dev.SameBut

variable {L : List Part} {d e : Dev}

/-! ### The DRAM port and the Neriq Link (12) -/

theorem dramCorrected {a : Nat} (h : SameBut nqlParts d e) : SameBut nqlParts d (dramCorrected e a) := .ite (.raise (.fs (.fcnt h))) h

theorem dramUncorrectable {a : Nat} (h : SameBut nqlParts d e) : SameBut nqlParts d (dramUncorrectable e a) :=
  .ite (.ite (.raise (.fs (.fs h))) (.drc (.raise (.fs (.fs h))))) h

theorem updNLane {l : Nat} {f : NLane → NLane} (h : SameBut nqlParts d e) : SameBut nqlParts d (e.updNLane l f) := h.nql

theorem showRing (h : SameBut nqlParts d e) : SameBut nqlParts d e.showRing := h.fs

theorem sendSet {l kind a b : Nat} (h : SameBut nqlParts d e) : SameBut nqlParts d (e.sendSet l kind a b) := h.tx

theorem sendPing {l : Nat} (h : SameBut nqlParts d e) : SameBut nqlParts d (e.sendPing l) := .sendSet (.updNLane h)

theorem sendPings {l : Nat} (h : SameBut nqlParts d e) : SameBut nqlParts d (e.sendPings l) := .foldl h fun _ _ => .sendPing

theorem frameOn {lanes : List Nat} {dst type cls : Nat} {payload : List Byte} (h : SameBut nqlParts d e) :
    SameBut nqlParts d (e.frameOn lanes dst type cls payload) :=
  (h.tx (x := e.tx ++ lanes.map fun l => Tx.nql l (e.nqlFrame dst type cls payload))).nql (x := { e.nql with seq := (e.nql.seq + 1) % 65536 })

theorem laneGo {l st : Nat} (h : SameBut nqlParts d e) : SameBut nqlParts d (e.laneGo l st) := by
  have hdown : ∀ {e'}, SameBut nqlParts d e' →
      SameBut nqlParts d (if st < 3 then (e'.fs NQL_LANE_l_DLY_VALID 0 l).updNLane l fun x => { x with dly := [], ovfRun := 0 } else e') :=
    fun h => .ite (.updNLane (.fs h)) h
  unfold Dev.laneGo
  dsimp only
  split
  · exact .sendSet (.fcnt (.ite (hdown (.fs h)) (.showRing (.nql (hdown (.fs h))))))
  · exact .sendPings (.ite (hdown (.fs h)) (.showRing (.nql (hdown (.fs h)))))
  · exact .frameOn (.ite (hdown (.fs h)) (.showRing (.nql (hdown (.fs h)))))
  · exact .ite (hdown (.fs h)) (.showRing (.nql (hdown (.fs h))))

theorem laneLost {l : Nat} (h : SameBut nqlParts d e) : SameBut nqlParts d (e.laneLost l) := .raise (.laneGo h)

theorem nqlFrameBadDev {l : Nat} {code : Bool} (h : SameBut nqlParts d e) : SameBut nqlParts d (nqlFrameBadDev l code e) :=
  .ite (.ite (.fcnt h) (.fcnt h)) h

/-! ### Lamplighter (13) -/

theorem updLmp {f : Lmp → Lmp} (h : SameBut lmpParts d e) : SameBut lmpParts d (e.updLmp f) := h.lmp

theorem updLPort {p : Nat} {f : LPort → LPort} (h : SameBut lmpParts d e) : SameBut lmpParts d (e.updLPort p f) := h.updLmp

theorem plmOut {p type : Nat} {payload : List Byte} (h : SameBut lmpParts d e) : SameBut lmpParts d (e.plmOut p type payload) :=
  .tx (.updLPort h)

theorem plmSend {p type : Nat} {payload : List Byte} (h : SameBut lmpParts d e) : SameBut lmpParts d (e.plmSend p type payload) :=
  .ite (.plmOut h) (.updLPort h)

theorem plmFlush {p : Nat} (h : SameBut lmpParts d e) : SameBut lmpParts d (e.plmFlush p) := .foldl (.updLPort h) fun _ _ => .plmOut

theorem portStart {p : Nat} (h : SameBut lmpParts d e) : SameBut lmpParts d (e.portStart p) := .ite (.plmSend (.updLPort (.fs h))) h

theorem handBack (h : SameBut lmpParts d e) : SameBut lmpParts d e.handBack := .ite (.raise (.fs (.fs h))) h

theorem beatIn {role district hub epoch : Nat} (h : SameBut lmpParts d e) : SameBut lmpParts d (e.beatIn role district hub epoch) := by
  unfold Dev.beatIn
  exact .ite (.handBack (.updLmp h)) (.updLmp h)

theorem takeoverEnd (h : SameBut lmpParts d e) : SameBut lmpParts d e.takeoverEnd := by
  unfold Dev.takeoverEnd
  split
  · exact h
  · exact .raise (.fs (.fs (.updLmp h)))

/-! ### Nightwatch (14) -/

theorem bsGo {st : Nat} (h : SameBut aonParts d e) : SameBut aonParts d (e.bsGo st) := .aon (.fs h)

theorem bsFail (h : SameBut aonParts d e) : SameBut aonParts d e.bsFail := by
  unfold Dev.bsFail
  exact .ite (.raiseN (.fs (.bsGo (.aon (.fsBit (.fcnt h)))))) (.bsGo (.aon (.fsBit (.fcnt h))))

theorem bsStep {vhv fb : Nat} (h : SameBut aonParts d e) : SameBut aonParts d (e.bsStep vhv fb) := by
  unfold Dev.bsStep
  split
  · exact .ite (.bsGo h) h
  · exact .ite (.bsGo h) (.ite (.bsGo h) (.aon h))
  · exact .ite (.aon h) (.ite (.fsBit (.bsGo h)) (.aon h))
  · exact .ite (.aon h) (.ite (.bsFail h) (.aon h))
  · exact h

theorem latchSample {low : Bool} {PIN LATCH TS : Fld} {pend ev : Nat} (h : SameBut aonParts d e) :
    SameBut aonParts d (e.latchSample low PIN LATCH TS pend ev) := by
  unfold Dev.latchSample
  exact .ite (.ite (.raiseN (.fs (.fsBit (.fs (.fs h))))) (.fsBit (.fs (.fs h)))) (.fs h)

theorem rtcAdd {n : Int} (h : SameBut aonParts d e) : SameBut aonParts d (e.rtcAdd n) := .ite h (.aon h)

theorem vbatFirst (h : SameBut aonParts d e) : SameBut aonParts d (vbatFirst e) := by
  have hfirst := ((h.regs (x := e.regs.filter fun r => r.1 / 32 / 65536 != 0x200D)).aon
    (x := { alive := true, sampled := false, first := true })).evt (x := { e.evt with held := [] })
  unfold Machine.vbatFirst
  exact .ite h (.ite (.fs hfirst) hfirst)

/-! ### The auxiliary drivers (14) -/

theorem updBk {f : Buck → Buck} (h : SameBut auxParts d e) : SameBut auxParts d (e.updBk f) := h.aux

theorem setVfb {v : Nat} (h : SameBut auxParts d e) : SameBut auxParts d (e.setVfb v) := h.fs

theorem vrefSet (h : SameBut auxParts d e) : SameBut auxParts d e.vrefSet := .updBk (.fs h)

theorem buckLeave (h : SameBut auxParts d e) : SameBut auxParts d e.buckLeave := by
  unfold Dev.buckLeave
  refine .aux ?_
  split
  · exact .complete (.fs (.fs (.fs (.ite (.raise (.fs (.fs h))) h))))
  · exact .fs (.fs (.fs (.ite (.raise (.fs (.fs h))) h)))

theorem buckStart (h : SameBut auxParts d e) : SameBut auxParts d e.buckStart := by
  unfold Dev.buckStart
  exact .ite (.fs h) (.ite (.vrefSet (.fs (.updBk (.fs (.fs h))))) (.updBk (.fs (.fs h))))

theorem buckHiccup (h : SameBut auxParts d e) : SameBut auxParts d e.buckHiccup := by
  unfold Dev.buckHiccup
  exact .ite (.fs (.fs (.aux (.raise (.fcnt (.buckLeave h)))))) (.fs (.aux (.raise (.fcnt (.buckLeave h)))))

theorem pumpOff (h : SameBut auxParts d e) : SameBut auxParts d e.pumpOff := h.aux

theorem pumpStart (h : SameBut auxParts d e) : SameBut auxParts d e.pumpStart := by
  unfold Dev.pumpStart
  exact .ite (.pumpOff (.fs h)) (.ite (.aux (.fs h)) (.pumpOff (.fs (.fs h))))

theorem commutate {row : Nat} (h : SameBut auxParts d e) : SameBut auxParts d (e.commutate row) := h.aux

theorem pumpFault {cause fswH fswL : Nat} (h : SameBut auxParts d e) : SameBut auxParts d (e.pumpFault cause fswH fswL) := by
  unfold Dev.pumpFault
  exact .ite (.fs (.fs (.aux (.raise (.fcnt (.fs (.fs (.fs (.pumpOff h)))))))))
    (.fs (.aux (.raise (.fcnt (.fs (.fs (.fs (.pumpOff h))))))))

end Dev.SameBut

namespace Stays
open Dev.SameBut

/-! ### The DRAM port, the Neriq Link and the network ports -/

@[simp] theorem dramZqCalTimer : Stays nqlParts .dramZqCalTimer := .runIf (fun _ => rfl) fun _ => .refl

@[simp] theorem dramDqsCheckTimer (excess : Bool) : Stays nqlParts (.dramDqsCheckTimer excess) :=
  .runIf (fun _ => rfl) fun _ => .ite (.finc .refl) .refl

@[simp] theorem dramTrainingComplete (ok : Bool) : Stays nqlParts (.dramTrainingComplete ok) := .runIf (fun _ => rfl) fun d => by
  unfold dramTrainedDev
  exact .ite .refl (.ite (.fs (.drc (.finc .refl))) (.fs (.drc (.finc .refl))))

@[simp] theorem dramScrubPass (ce ue : List W32) : Stays nqlParts (.dramScrubPass ce ue) := .runIf (fun _ => rfl) fun _ =>
  .ite (.foldl (.foldl .refl fun _ _ => .dramCorrected) fun _ _ => .dramUncorrectable) .refl

@[simp] theorem laneNosigTimeout (l : Fin 2) : Stays nqlParts (.laneNosigTimeout l) := .runIf (fun _ => rfl) fun _ => .ite (.fs .refl) .refl

@[simp] theorem laneSyncAchieved (l : Fin 2) : Stays nqlParts (.laneSyncAchieved l) :=
  .runIf (fun _ => rfl) fun _ => .ite (.fs (.laneGo .refl)) .refl

@[simp] theorem laneTrained (l : Fin 2) (peer : Fin 16) : Stays nqlParts (.laneTrained l peer) :=
  .runIf (fun _ => rfl) fun _ => .ite .refl (.ite (.raise (.fs .refl)) (.laneGo (.fs .refl)))

@[simp] theorem laneErrorBurst (l : Fin 2) : Stays nqlParts (.laneErrorBurst l) :=
  .runIf (fun _ => rfl) fun _ => .ite (.laneLost .refl) .refl

@[simp] theorem nqlFrameBad (l : Fin 2) (code : Bool) : Stays nqlParts (.nqlFrameBad l code) :=
  .runIf (fun _ => rfl) fun _ => .nqlFrameBadDev .refl

@[simp] theorem pingReceived (l : Fin 2) (num : Byte) (residual : BitVec 16) : Stays nqlParts (.pingReceived l num residual) :=
  .runIf (fun _ => rfl) fun _ => .ite (.sendSet .refl) .refl

@[simp] theorem pingTimer (l : Fin 2) : Stays nqlParts (.pingTimer l) := .runIf (fun _ => rfl) fun _ => .ite (.sendPing .refl) .refl

@[simp] theorem echoReceived (l : Fin 2) (num : Byte) (residual : BitVec 16) (roundTrip : Nat) :
    Stays nqlParts (.echoReceived l num residual roundTrip) := .runIf (fun _ => rfl) fun d => by
  unfold echoReceivedDev
  exact .ite .refl (.ite (.ite (.laneLost (.fs .refl)) (.ite (.sendPing (.updNLane (.fs .refl))) (.updNLane (.fs .refl))))
    (.ite (.fs (.updNLane (.fs .refl))) (.ite (.fs (.fs (.updNLane (.fs .refl))))
      (.ite (.laneGo (.fs (.fs (.updNLane (.fs .refl))))) (.sendPing (.fs (.fs (.updNLane (.fs .refl)))))))))

@[simp] theorem capBroadcastTimer : Stays nqlParts .capBroadcastTimer := .runIf (fun _ => rfl) fun _ => .ite (.frameOn .refl) .refl

@[simp] theorem nodePresenceTimeout (n : Fin 16) : Stays nqlParts (.nodePresenceTimeout n) := .run (fun _ => rfl) fun d => by
  unfold nodeTimeoutDev
  exact .ite (.showRing (.fsBit (.nql .refl))) .refl

@[simp] theorem nqlFrameForward (l : Fin 2) (frame : List Byte) : Stays nqlParts (.nqlFrameForward l frame) :=
  .runIf (fun _ => rfl) fun d => by
    unfold nqlForwardDev
    exact .ite .refl (.ite (.nqlFrameBadDev .refl) (.ite .refl (.ite (.tx (.ite .refl (.fsat .refl))) (.ite .refl (.fsat .refl)))))

@[simp] theorem ethLinkChange (x : Fin 2) (up half : Bool) (speed : Fin 3) : Stays nqlParts (.ethLinkChange x up half speed) :=
  .runIf (fun _ => rfl) fun d => by
    unfold ethLinkDev
    exact .ite (.fsIf (.fsIf (.fs (.fs .refl)))) (.raise (.fsIf (.fsIf (.fs (.fs .refl)))))

/-! ### Lamplighter -/

@[simp] theorem dataConfirm (p : Fin 4) (handle : BitVec 16) (status : Byte) : Stays lmpParts (.dataConfirm p handle status) :=
  .run (fun _ => rfl) fun _ => .refl

@[simp] theorem getConfirm (p : Fin 4) : Stays lmpParts (.getConfirm p) := .run (fun _ => rfl) fun _ => .updLPort .refl

@[simp] theorem plcFrameBad (p : Fin 4) : Stays lmpParts (.plcFrameBad p) := .run (fun _ => rfl) fun _ => .fcnt .refl

@[simp] theorem modemHandshakeLine (p : Fin 4) : Stays lmpParts (.modemHandshakeLine p) :=
  .run (fun _ => rfl) fun _ => .ite .refl (.plmFlush (.updLPort .refl))

@[simp] theorem modemRestart (p : Fin 4) : Stays lmpParts (.modemRestart p) := .run (fun _ => rfl) fun _ => .portStart .refl

@[simp] theorem plcResetTimer (p : Fin 4) : Stays lmpParts (.plcResetTimer p) :=
  .run (fun _ => rfl) fun _ => .ite (.portStart (.updLPort .refl)) .refl

@[simp] theorem lmpBeatReceived (peer : Fin 16) (role : Fin 4) (district hub : BitVec 16) (epoch : W32) :
    Stays lmpParts (.lmpBeatReceived peer role district hub epoch) :=
  .run (fun _ => rfl) fun _ => .ite (.beatIn (.updLmp .refl)) .refl

@[simp] theorem takeoverComplete : Stays lmpParts .takeoverComplete := .run (fun _ => rfl) fun _ => .ite (.takeoverEnd .refl) .refl

/-! ### Nightwatch -/

@[simp] theorem vbatFirstApplication : Stays aonParts .vbatFirstApplication := .runAon (fun _ => rfl) fun _ => .vbatFirst .refl

@[simp] theorem vbatLoss : Stays aonParts .vbatLoss := .runAon (fun _ => rfl) fun d => by
  unfold vbatLossDev
  exact .ite .refl (.ite (.dropSeen (.fs (.fs (.fs (.aon (.bsGo .refl)))))) (.fs (.fs (.aon (.bsGo .refl)))))

@[simp] theorem vbatSample (mv : Nat) : Stays aonParts (.vbatSample mv) := .runAon (fun _ => rfl) fun d => by
  unfold vbatSampleDev
  exact .ite .refl (.ite (.raiseN (.dropSeen (.aon (.fsIf (.fs (.fs .refl))))))
    (.aon (.fsIf (.fs (.fs .refl)))))

@[simp] theorem crystalLoss : Stays aonParts .crystalLoss := .runAon (fun _ => rfl) fun _ => .ite (.fs (.fs (.fs .refl))) .refl

@[simp] theorem crystalRestart : Stays aonParts .crystalRestart := .runAon (fun _ => rfl) fun _ => .ite (.fs (.fs .refl)) .refl

@[simp] theorem rtcTrimTimer : Stays aonParts .rtcTrimTimer := .runAon (fun _ => rfl) fun _ => .ite .refl (.ite (.rtcAdd .refl) (.aon .refl))

@[simp] theorem rtcAlarm : Stays aonParts .rtcAlarm := .runAon (fun _ => rfl) fun _ => .ite (.raiseN (.fsBit .refl)) .refl

@[simp] theorem doorTamperSample (door tamper : Bool) : Stays aonParts (.doorTamperSample door tamper) :=
  .runAon (fun _ => rfl) fun _ => .ite .refl (.latchSample (.latchSample .refl))

@[simp] theorem bsSample (vhv fb vbat : Nat) : Stays aonParts (.bsSample vhv fb vbat) :=
  .runAon (fun _ => rfl) fun _ => .ite (.bsStep (.fs (.fs (.fs .refl)))) .refl

@[simp] theorem kickPulse : Stays aonParts .kickPulse := .runAon (fun _ => rfl) fun _ => .ite (.ite (.aon .refl) (.bsFail .refl)) .refl

@[simp] theorem bsWakeTimeout : Stays aonParts .bsWakeTimeout := .runAon (fun _ => rfl) fun _ => .ite (.bsFail .refl) .refl

@[simp] theorem bsRetryExpiry : Stays aonParts .bsRetryExpiry := .runAon (fun _ => rfl) fun _ => .ite (.bsGo .refl) .refl

/-! ### The auxiliary drivers -/

@[simp] theorem softStartEnd (vfb : Nat) : Stays auxParts (.softStartEnd vfb) := .run (fun _ => rfl) fun d => by
  unfold softStartEndDev
  exact .ite .refl (.ite (.buckHiccup (.vrefSet (.setVfb .refl))) (.fs (.vrefSet (.setVfb .refl))))

@[simp] theorem hiccupEnd (vfb : Nat) : Stays auxParts (.hiccupEnd vfb) :=
  .run (fun _ => rfl) fun _ => .ite .refl (.buckStart (.setVfb .refl))

@[simp] theorem buckFaultDetect (ilim : Bool) (vfb : Nat) : Stays auxParts (.buckFaultDetect ilim vfb) := .run (fun _ => rfl) fun d => by
  unfold buckFaultDev
  exact .ite .refl (.ite (.buckHiccup (.fs (.setVfb .refl))) (.ite (.buckHiccup (.setVfb .refl)) (.setVfb .refl)))

@[simp] theorem buckSlewDone (vfb : Nat) : Stays auxParts (.buckSlewDone vfb) := .run (fun _ => rfl) fun d => by
  unfold buckSlewDoneDev
  refine .ite ?_ .refl
  dsimp only
  split
  · exact .aux (.complete (.vrefSet (.fs (.setVfb .refl))))
  · exact .vrefSet (.fs (.setVfb .refl))

@[simp] theorem pgoodRelease (vfb : Nat) : Stays auxParts (.pgoodRelease vfb) := .run (fun _ => rfl) fun d => by
  unfold pgoodReleaseDev
  exact .ite (.raise (.fs (.ite (.setVfb .refl) .refl))) (.ite (.setVfb .refl) .refl)

@[simp] theorem pgoodLoss (vfb : Nat) : Stays auxParts (.pgoodLoss vfb) := .run (fun _ => rfl) fun d => by
  unfold pgoodLossDev
  exact .ite (.raise (.fs (.fs (.ite (.setVfb .refl) .refl)))) (.ite (.setVfb .refl) .refl)

@[simp] theorem shedStart (i0 i1 : BitVec 16) : Stays auxParts (.shedStart i0 i1) := .run (fun _ => rfl) fun d => by
  unfold shedStartDev
  exact .ite (.aux (.fs (.fs .refl))) (.fs (.fs .refl))

@[simp] theorem phaseReadd (i0 : BitVec 16) : Stays auxParts (.phaseReadd i0) := .run (fun _ => rfl) fun d => by
  unfold phaseReaddDev
  exact .ite (.fs (.fs .refl)) (.fs .refl)

@[simp] theorem prechargeEnd : Stays auxParts .prechargeEnd := .run (fun _ => rfl) fun d => by
  unfold prechargeEndDev
  exact .ite .refl (.ite (.pumpFault .refl) (.commutate (.fs .refl)))

@[simp] theorem hallCodeChange (code : BitVec 3) : Stays auxParts (.hallCodeChange code) := .run (fun _ => rfl) fun d => by
  unfold hallChangeDev
  exact .ite (.fs .refl) (.ite (.pumpFault (.fs .refl)) (.fs (.commutate (.aux (.fs .refl)))))

@[simp] theorem pumpDesat (n : Fin 3) : Stays auxParts (.pumpDesat n) := .run (fun _ => rfl) fun _ => .ite (.pumpFault .refl) .refl

@[simp] theorem pumpOvercurrent : Stays auxParts .pumpOvercurrent := .run (fun _ => rfl) fun d => by
  unfold pumpOvercurrentDev
  split
  · exact .pumpFault (.fs .refl)
  · exact .refl

@[simp] theorem pumpBootstrapLow (n : Fin 3) : Stays auxParts (.pumpBootstrapLow n) :=
  .run (fun _ => rfl) fun _ => .ite (.pumpFault .refl) .refl

@[simp] theorem pumpStallTimeout : Stays auxParts .pumpStallTimeout := .run (fun _ => rfl) fun _ => .ite (.fs (.pumpFault .refl)) .refl

@[simp] theorem pumpRestartTimer : Stays auxParts .pumpRestartTimer := .run (fun _ => rfl) fun _ => .ite (.pumpStart .refl) .refl

@[simp] theorem vdrvLoss : Stays auxParts .vdrvLoss := .run (fun _ => rfl) fun d => by
  unfold vdrvLossDev
  exact .ite .refl (.ite (.pumpOff (.fs (.fs (.dropSeen (.fs .refl))))) (.dropSeen (.fs .refl)))

@[simp] theorem vdrvReturn : Stays auxParts .vdrvReturn := .run (fun _ => rfl) fun d => by
  unfold vdrvReturnDev
  exact .ite (.pumpStart (.fs .refl)) (.fs .refl)

/-! ### Event outputs and the lifecycle fuse (15) -/

@[simp] theorem evtOutPulseStart (n : Fin 4) : Stays [.regs, .evt] (.evtOutPulseStart n) := .run (fun _ => rfl) fun d => by
  unfold pulseStartDev
  dsimp only
  split
  · exact .refl
  · exact .ite .refl (.evt (.ite (.fs .refl) .refl))

@[simp] theorem evtOutPulseEnd (n : Fin 4) : Stays [.regs, .evt] (.evtOutPulseEnd n) := .run (fun _ => rfl) fun d => by
  unfold pulseEndDev
  exact .ite (.evt .refl) .refl

@[simp] theorem lifecycleFuseProgram : Stays [.sys] .lifecycleFuseProgram := .run (fun _ => rfl) fun _ => .sys .refl

end Stays
end Sys2Proof.Machine
end

section
/-! SUPPORT. Rows that stay within their block leave every other part alone. -/
set_option Elab.async false

namespace Sys2Proof.Machine

/-- Every row for which `touched` names parts stays within them: each of its arms is the row's own lemma above. -/
theorem stays_of_touched {c : Instr} {l : List Part} (h : touched c = some l) : Stays l c := by
  cases c <;> cases h <;> simp

/-- Settles O60: each such row's effect is made of operations that change one part each, all of them named for the row, and no write to
memory or the ledger is left to land. -/
theorem familiesKeepApart : Obligations.FamiliesKeepApart :=
  fun s t _ _ hi hc hx => stays_of_touched hc s t hi hx

end Sys2Proof.Machine
end

section
/-! SUPPORT. The statements about the whole machine: what every step keeps, who can change the ledger and the supervisor, and what acts in
reset. -/
set_option Elab.async false

namespace Sys2Proof.Machine

theorem step_of_empty {s : State} (h : s.pending = []) : step s = s.lift false false Dev.idle := by simp only [step, h]

theorem step_of_front {s : State} {c : Instr} {q : List Instr} (h : s.pending = c :: q) : step s = exec c { s with pending := q } := by
  simp only [step, h]

/-- A carried effect always answers, the invariant holds after it, and the queue stays. -/
theorem State.lift_next_inv (tal saf : Bool) (f : Dev → Dev) {s : State} (hi : s.Inv) :
    ∃ t, s.lift tal saf f = .next t ∧ t.Inv ∧ t.pending = s.pending :=
  ⟨_, rfl, State.lift_inv hi rfl, rfl⟩

/-- Settles O58: on an empty queue the step carries the advance of the clocks, otherwise the front command's effect on the machine with
the rest of the queue; whatever effect is carried, the memories stay canonical and no write stays under way. -/
theorem stepKeepsInvariant : Obligations.StepKeepsInvariant := by
  intro s hi
  rcases hq : s.pending with _ | ⟨c, q⟩
  · obtain ⟨t, ht, hti, htq⟩ := State.lift_next_inv false false Dev.idle hi
    exact ⟨t, (step_of_empty hq).trans ht, hti, htq.trans hq⟩
  · obtain ⟨tal, saf, f, hl, -⟩ := exec_lift c { s with pending := q }
    obtain ⟨t, ht, hti, htq⟩ := State.lift_next_inv tal saf f (s := { s with pending := q }) hi
    exact ⟨t, (step_of_front hq).trans (hl.trans ht), hti, htq⟩

/-- With no write under way, a carried effect that leaves the device as it is leaves the machine as it is. -/
theorem State.lift_unchanged {tal saf : Bool} {f : Dev → Dev} {s : State} (hi : s.Inv) (hf : f s.dev = s.dev) :
    s.lift tal saf f = .next s := by
  obtain ⟨-, -, ho, hm⟩ := hi
  have hland : Dev.land tal saf s.dev s.dev = s.dev := by
    obtain ⟨d, q⟩ := s
    cases d
    cases ho
    cases hm
    cases tal <;> cases saf <;> rfl
  rw [State.lift, hf, hland]

/-- Settles O59: a row carries its effect with the ledger, or the supervisor, only where it is one of the rows listed for it; in reset a row
that does not act there carries no effect at all. -/
theorem ledgerSupervisorAndReset : Obligations.LedgerSupervisorAndReset := by
  refine ⟨fun s t c h => ?_, fun s c hi hp hc => ?_⟩
  · obtain ⟨tal, saf, f, hl, htal, hsaf, -⟩ := exec_lift c s
    have ht := State.lift_next (hl ▸ h)
    subst ht
    exact ⟨fun hc => by rw [htal hc]; rfl, fun hc => by rw [hsaf hc]; rfl⟩
  · obtain ⟨tal, saf, f, hl, -, -, hrst⟩ := exec_lift c s
    rw [hl, State.lift_unchanged hi (hrst hc hp)]

end Sys2Proof.Machine
end

section
/-! SUPPORT. What a write to a register of plain fields stores, and what updates of the device leave of the events. -/
set_option Elab.async false

namespace Sys2Proof.Machine

theorem Fld.of_lt (F : Fld) (w : Nat) : F.of w < 2 ^ F.len := Nat.mod_lt _ (by positivity)

namespace Dev

/-- What a written word stores in the fields of register `n` of `r`. -/
def storeWord (d : Dev) (r : Reg) (n w : Nat) : Dev := r.flds.foldl (d.storeFld r.base n (reached r w)) d

/-- An accepted write to a register that is no half of a two-word quantity, outside the always-on domain and the supervisor: the word is
stored, then the register's own effect follows. -/
theorem regWrite_accepted {d : Dev} {acc : Acc} {a w n : Nat} {r : Reg} (hf : findReg a = some (r, n)) (h4 : a % 4 = 0)
    (hd : a / 65536 ≠ 0x200D) (hs : a / 65536 ≠ 0x2009) (hp : writePairs.contains r.base = false)
    (hp' : writePairs.contains (r.base - 4) = false) (hok : d.accepts acc a w) :
    (d.regWrite acc a w).2 = (d.storeWord r n w).afterReg d r.base n (reached r w) := by
  have hw := regWrite_reg (acc := acc) (w := w) hf h4 (show d.aonDead a = false by simp [aonDead, hd]) (.inl hs) hp hp'
  rw [hw]
  exact writeReg_ok rfl (by rw [← hw]; exact hok)

/-- Storing read-write fields changes the register file alone. -/
theorem foldl_storeFld_regs {l : List FldSpec} (h : ∀ s ∈ l, s.acc = .RW) (d0 d : Dev) (b n w : Nat) :
    ∃ x, l.foldl (d0.storeFld b n w) d = { d with regs := x } := by
  induction l generalizing d with
  | nil => exact ⟨d.regs, rfl⟩
  | cons s t ih =>
    obtain ⟨x, hx⟩ := ih (fun s hs => h s (.tail _ hs)) (d0.storeFld b n w d s)
    refine ⟨x, hx.trans ?_⟩
    simp [storeFld, h s (.head _), fs]

/-- A place that no field of the list has keeps its contents. -/
theorem foldl_storeFld_keeps {G : Fld} {l : List FldSpec} {n m : Nat} (h : ∀ s ∈ l, s.acc = .RW)
    (hG : ∀ s ∈ l, G.key m ≠ s.fld.key n) (d0 d : Dev) (b w : Nat) : (l.foldl (d0.storeFld b n w) d).fg G m = d.fg G m := by
  induction l generalizing d with
  | nil => rfl
  | cons s t ih =>
    rw [List.foldl_cons, ih (fun s hs => h s (.tail _ hs)) (fun s hs => hG s (.tail _ hs))]
    simp only [storeFld, h s (.head _)]
    exact fg_fs_ne _ _ _ _ _ _ (hG s (.head _))

/-- Among read-write fields of different places each holds afterwards what the word gives it. -/
theorem foldl_storeFld_fg {l : List FldSpec} {n : Nat} (h : ∀ s ∈ l, s.acc = .RW)
    (hl : l.Pairwise fun f g => f.fld.key n ≠ g.fld.key n) {f : FldSpec} (hf : f ∈ l) (d0 d : Dev) (b w : Nat) :
    (l.foldl (d0.storeFld b n w) d).fg f.fld n = f.fld.of w := by
  induction l generalizing d with
  | nil => cases hf
  | cons s t ih =>
    obtain ⟨hs, ht⟩ := List.pairwise_cons.1 hl
    have hrw : ∀ s ∈ t, s.acc = .RW := fun s hs => h s (.tail _ hs)
    rw [List.foldl_cons]
    rcases List.mem_cons.1 hf with rfl | hft
    · rw [foldl_storeFld_keeps hrw hs]
      simp only [storeFld, h f (.head _), fg_fs]
      exact Nat.mod_eq_of_lt (f.fld.of_lt w)
    · exact ih hrw ht hft _

section
variable {r : Reg} (hrw : ∀ s ∈ r.flds, s.acc = .RW)
include hrw

/-- A word written to a register of read-write fields changes the register file alone. -/
theorem storeWord_regs (d : Dev) (n w : Nat) : ∃ x, d.storeWord r n w = { d with regs := x } := foldl_storeFld_regs hrw d d _ _ _

/-- After it each field holds what the word gives it. -/
theorem storeWord_fg {a n : Nat} (hr : findReg a = some (r, n)) {f : FldSpec} (hf : f ∈ r.flds) (d : Dev) (w : Nat) :
    (d.storeWord r n w).fg f.fld n = f.fld.of (reached r w) := foldl_storeFld_fg hrw (keys_pairwise hr) hf d d _ _

/-- Every other place keeps its contents. -/
theorem storeWord_fg_ne {G : Fld} {n m : Nat} (hG : ∀ s ∈ r.flds, G.key m ≠ s.fld.key n) (d : Dev) (w : Nat) :
    (d.storeWord r n w).fg G m = d.fg G m := foldl_storeFld_keeps hrw hG d d _ _

end

/-- An event bears no trace of a field that was written before it, unless that is the timebase's degraded flag. -/
theorem raise_fs_evt (d : Dev) {F : Fld} {v n : Nat} (e x : Nat) (h : CLK_TB_HI_DEGRADED.key 0 ≠ F.key n := by decide) :
    ((d.fs F v n).raise e x).evt = (d.raise e x).evt := by
  simp only [raise, deg, fb, fg_fs_ne _ _ _ _ _ _ h, fs_clk, fs_evt]

end Dev
end Sys2Proof.Machine
end

section
/-! SUPPORT. The statement about the DRAM port and the interface clocks (12). -/
set_option Elab.async false

namespace Sys2Proof.Machine

/-! ### The interface clocks (R15) -/

/-- A row of a block that the interface PLLs clock, while they run. -/
theorem State.runIf_on {s : State} (h : s.up) (hr : s.dev.clk.refPresent = true) (f : Dev → Dev) :
    s.runIf f = .next (s.to (f s.dev)) := by
  rw [State.runIf, State.run_up h, Dev.clocked, if_pos (show s.dev.ifClock = true from hr)]

/-- Without the interface PLLs' clocks an effect that they clock is none. -/
theorem Dev.clocked_off {d : Dev} (hr : d.clk.refPresent = false) (f : Dev → Dev) : Dev.clocked f d = d :=
  if_neg (by simp [Dev.ifClock, hr])

theorem State.runIf_off {s : State} (h : s.up) (hr : s.dev.clk.refPresent = false) (f : Dev → Dev) :
    s.runIf f = .next (s.to s.dev) := by
  rw [State.runIf, State.run_up h, Dev.clocked_off hr]

/-! ### The DRAM port (R307, R308) -/

/-- `DRC_CTRL` in the register map. -/
def drcCtrlReg : Reg :=
  ⟨0x20120000, 0x0, 0, 1, [⟨DRC_CTRL_EN, .RW, .any⟩, ⟨DRC_CTRL_RATE, .RW, .any⟩, ⟨DRC_CTRL_SIZE, .RW, (.rng 0 2)⟩, ⟨DRC_CTRL_SCRUB_H, .RW, .any⟩]⟩

theorem findReg_drcCtrl : findReg (DRC_CTRL_EN.at 0) = some (drcCtrlReg, 0) := rfl

theorem drcCtrlReg_rw : ∀ s ∈ drcCtrlReg.flds, s.acc = .RW := by simp [drcCtrlReg]

theorem of_reached_drcCtrl (w : Nat) : DRC_CTRL_EN.of (Dev.reached drcCtrlReg w) = DRC_CTRL_EN.of w ∧
    DRC_CTRL_SIZE.of (Dev.reached drcCtrlReg w) = DRC_CTRL_SIZE.of w := by
  have hword : Dev.reached drcCtrlReg w = DRC_CTRL_EN.of w * 2147483648 + DRC_CTRL_RATE.of w * 67108864 + DRC_CTRL_SIZE.of w * 16777216 +
      DRC_CTRL_SCRUB_H.of w := by
    simp [Dev.reached, drcCtrlReg, DRC_CTRL_EN, DRC_CTRL_RATE, DRC_CTRL_SIZE, DRC_CTRL_SCRUB_H]
  have hen : DRC_CTRL_EN.of w < 2 := Fld.of_lt _ w
  have hrate : DRC_CTRL_RATE.of w < 4 := Fld.of_lt _ w
  have hsize : DRC_CTRL_SIZE.of w < 4 := Fld.of_lt _ w
  have hscrub : DRC_CTRL_SCRUB_H.of w < 256 := Fld.of_lt _ w
  rw [hword]
  generalize DRC_CTRL_EN.of w = en, DRC_CTRL_RATE.of w = rate, DRC_CTRL_SIZE.of w = size, DRC_CTRL_SCRUB_H.of w = scrub at *
  simp only [Fld.of, DRC_CTRL_EN, DRC_CTRL_SIZE, Nat.reducePow]
  omega

namespace Dev

/-- Setting `EN` starts initialisation and training. -/
theorem afterDRC_starts {d d0 : Dev} (n w : Nat) (hon : d.fb DRC_CTRL_EN = true) (hoff : d0.fb DRC_CTRL_EN = false) :
    d.afterDRC d0 0x20120000 n w = { d with drc := { d.drc with training := true, selfRefresh := false } } := by
  rw [afterDRC, if_neg (by decide), if_pos ⟨hon, hoff⟩]

end Dev

theorem drcEnable_starts {s : State} {a : Acc} {val : W32} (up : s.up) (hval : DRC_CTRL_EN.of val.toNat = 1)
    (hoff : s.dev.fb DRC_CTRL_EN = false) (hok : s.dev.accepts a (DRC_CTRL_EN.at 0) val.toNat) :
    ∃ t, exec (.drcEnable a val) s = .next t ∧ t.dev.fg DRC_CTRL_EN = 1 ∧ t.dev.fg DRC_CTRL_SIZE = DRC_CTRL_SIZE.of val.toNat ∧
      t.dev.drc.training = true ∧ t.dev.drc.selfRefresh = false := by
  obtain ⟨hofEn, hofSize⟩ := of_reached_drcCtrl val.toNat
  have hen : (s.dev.storeWord drcCtrlReg 0 val.toNat).fg DRC_CTRL_EN = 1 :=
    (Dev.storeWord_fg drcCtrlReg_rw findReg_drcCtrl (.head _) _ _).trans (hofEn.trans hval)
  have hsize : (s.dev.storeWord drcCtrlReg 0 val.toNat).fg DRC_CTRL_SIZE = DRC_CTRL_SIZE.of val.toNat :=
    (Dev.storeWord_fg drcCtrlReg_rw findReg_drcCtrl (.tail _ (.tail _ (.head _))) _ _).trans hofSize
  have hwrite := (Dev.regWrite_accepted findReg_drcCtrl rfl (by decide) (by decide) rfl rfl hok).trans
    (Dev.afterDRC_starts 0 (Dev.reached drcCtrlReg val.toNat) (by rw [Dev.fb, hen]; rfl) hoff)
  refine ⟨_, (State.run_up up _).trans (by rw [wrIf, if_pos (by simp [rises, hval, hoff]), hwrite]), hen, hsize, rfl, rfl⟩

theorem dramTraining_ends {d : Dev} (okay : Bool) (ht : d.drc.training = true) : (dramTrainedDev okay d).drc.training = false ∧
    (dramTrainedDev okay d).fg DRC_STAT_TRAIN_SEQ = (d.fg DRC_STAT_TRAIN_SEQ + 1) % 2 ^ DRC_STAT_TRAIN_SEQ.len ∧
    (dramTrainedDev okay d).fg DRC_STAT_READY = (if okay then 1 else d.fg DRC_STAT_READY) ∧
    (dramTrainedDev okay d).fg DRC_STAT_TRAIN_FAIL = (if okay then d.fg DRC_STAT_TRAIN_FAIL else 1) := by
  obtain ⟨e, he⟩ : ∃ e : Dev, e = { d.finc DRC_STAT_TRAIN_SEQ with drc := { d.drc with training := false } } := ⟨_, rfl⟩
  have hseq : e.fg DRC_STAT_TRAIN_SEQ = (d.fg DRC_STAT_TRAIN_SEQ + 1) % 2 ^ DRC_STAT_TRAIN_SEQ.len := he ▸ Dev.fg_fs ..
  have hready : e.fg DRC_STAT_READY = d.fg DRC_STAT_READY := he ▸ Dev.fg_fs_ne _ _ _ _ _ _ (by decide)
  have hfail : e.fg DRC_STAT_TRAIN_FAIL = d.fg DRC_STAT_TRAIN_FAIL := he ▸ Dev.fg_fs_ne _ _ _ _ _ _ (by decide)
  have hend : dramTrainedDev okay d = if okay then e.fs DRC_STAT_READY 1 else e.fs DRC_STAT_TRAIN_FAIL 1 := by
    rw [dramTrainedDev, ht, he]; rfl
  have hdrc : e.drc.training = false := he ▸ rfl
  rw [hend]
  cases okay
  · exact ⟨hdrc, (Dev.fg_fs_ne _ _ _ _ _ _ (by decide)).trans hseq, (Dev.fg_fs_ne _ _ _ _ _ _ (by decide)).trans hready, Dev.fg_fs ..⟩
  · exact ⟨hdrc, (Dev.fg_fs_ne _ _ _ _ _ _ (by decide)).trans hseq, Dev.fg_fs .., (Dev.fg_fs_ne _ _ _ _ _ _ (by decide)).trans hfail⟩

theorem dramCorrected_fitted {d : Dev} {x : Nat} (hx : d.inDram x = true) :
    dramCorrected d x = ((d.fcnt DRC_ECC_CE_CNT DRC_ECC_CE_OVF).fs DRC_ECC_ADDR_ADDR (x / 8)).raise 125 x := if_pos hx

/-- An uncorrectable error is shown, raises its event, and stays with its word. -/
theorem dramUncorrectable_fitted {d : Dev} {x : Nat} (hx : d.inDram x = true) : (dramUncorrectable d x).fg DRC_STAT_UE = 1 ∧
    (dramUncorrectable d x).evt = (d.raise 126 x).evt ∧ ∀ n, 0 < n → (dramUncorrectable d x).ueIn x n = true := by
  obtain ⟨e, he⟩ : ∃ e : Dev, e = ((d.fs DRC_STAT_UE 1).fs DRC_ECC_ADDR_ADDR (x / 8)).raise 126 x := ⟨_, rfl⟩
  have hue : e.fg DRC_STAT_UE = 1 := by
    rw [he, Dev.fg_raise, Dev.fg_fs_ne _ _ _ _ _ _ (by decide), Dev.fg_fs]; rfl
  have hevt : e.evt = (d.raise 126 x).evt := by rw [he, Dev.raise_fs_evt, Dev.raise_fs_evt]
  have hword (f : Dev) (n : Nat) (hn : 0 < n) (hf : x / 8 * 8 ∈ f.drc.ue) : f.ueIn x n = true :=
    List.any_eq_true.2 ⟨_, hf, by simp; omega⟩
  rw [dramUncorrectable, if_pos hx]
  simp only [← he]
  split
  · next hc => exact ⟨hue, hevt, fun n hn => hword _ n hn (List.contains_iff_mem.1 hc)⟩
  · exact ⟨hue, hevt, fun n hn => hword _ n hn (List.mem_append_right _ (.head _))⟩

/-- Settles O44: while the reference runs, each row of the port is its effect on the device; where it has failed, a row of a block that the
interface PLLs clock carries no effect, and lanes and DRAM ask for those clocks themselves. -/
theorem dramAndInterfaceClocks : Obligations.DramAndInterfaceClocks := by
  refine ⟨?port, ?stopped⟩
  case port =>
    intro s a up d hr
    refine ⟨?enable, ?trained, ?zq, ?dqs, ?scrub, ?errors⟩
    case enable => exact fun val hval hoff hok => drcEnable_starts up hval hoff hok
    case trained => exact fun okay ht => ⟨_, State.runIf_on up hr _, dramTraining_ends okay ht⟩
    case zq => exact State.runIf_on up hr _
    case dqs =>
      intro excess hready
      refine (State.runIf_on up hr _).trans ?_
      rw [dqsCheckDev, hready, Bool.true_and]
    case scrub =>
      intro ce ue hready hscrub
      refine (State.runIf_on up hr _).trans ?_
      rw [scrubPassDev, hready, hscrub, Bool.and_true, if_pos rfl]
    case errors => exact fun x hx => ⟨dramCorrected_fitted hx, dramUncorrectable_fitted hx⟩
  case stopped =>
    intro s up d hr
    refine ⟨?rows, ?eth, ?session, ?pdu, ?lane, ?ram⟩
    case rows =>
      have off (f : Dev → Dev) : s.runIf f = .next (s.to d) := State.runIf_off up hr f
      rintro i (⟨x, ⟨link, half, speed, rfl⟩ | rfl | rfl | rfl | ⟨peer, rfl⟩ | ⟨n, r, rfl⟩ | ⟨n, r, rt, rfl⟩ | rfl | ⟨src, b, rfl⟩ | rfl | ⟨c, rfl⟩ |
        ⟨f, rfl⟩ | ⟨src, q, b, rfl⟩⟩ | rfl | rfl | ⟨okay, rfl⟩ | ⟨e, rfl⟩ | ⟨c, u, rfl⟩ | ⟨l, rfl⟩ | ⟨g, o, rfl⟩ | ⟨p, l, rfl⟩ | ⟨n, p, l, rfl⟩ |
        ⟨t, w, rfl⟩) <;> exact off _
    case eth => exact fun x f q => (State.runTal_up up _).trans (by rw [Dev.clocked_off hr])
    case session => exact fun x port pkt => (State.runAll_up up _).trans (by rw [Dev.clocked_off hr])
    case pdu => exact fun kind link pdu => (State.runSaf_up up _).trans (by rw [Dev.clocked_off hr])
    case lane => exact fun l => by rw [Dev.laneUp, Dev.ifClock, hr, Bool.false_and]
    case ram => exact fun x => by rw [Dev.ramAt, Dev.ifClock, hr, Bool.and_false, Bool.or_false]

end Sys2Proof.Machine
end

section
/-! SUPPORT. The statement about load points (04, 07). -/
set_option Elab.async false

namespace Sys2Proof.Machine
namespace Dev

/-! ### Legs -/

@[simp] theorem leg_fs (d : Dev) (F : Fld) (v n m : Nat) : (d.fs F v n).leg m = d.leg m := rfl
@[simp] theorem leg_land (t s : Bool) (d0 d : Dev) (m : Nat) : (land t s d0 d).leg m = d.leg m := rfl
@[simp] theorem leg_raise (d : Dev) (e x m : Nat) : (d.raise e x).leg m = d.leg m := rfl
@[simp] theorem updLeg_regs (d : Dev) (n : Nat) (f : Leg → Leg) : (d.updLeg n f).regs = d.regs := rfl
@[simp] theorem updLeg_clk (d : Dev) (n : Nat) (f : Leg → Leg) : (d.updLeg n f).clk = d.clk := rfl
@[simp] theorem updLeg_cen (d : Dev) (n : Nat) (f : Leg → Leg) : (d.updLeg n f).cen = d.cen := rfl
@[simp] theorem updLeg_evt (d : Dev) (n : Nat) (f : Leg → Leg) : (d.updLeg n f).evt = d.evt := rfl
@[simp] theorem fg_updLeg (d : Dev) (n : Nat) (f : Leg → Leg) (F : Fld) (m : Nat) : (d.updLeg n f).fg F m = d.fg F m := rfl
@[simp] theorem raise_updLeg_evt (d : Dev) (n : Nat) (f : Leg → Leg) (e x : Nat) : ((d.updLeg n f).raise e x).evt = (d.raise e x).evt := rfl

@[simp] theorem leg_updLeg (d : Dev) (n : Fin 24) (f : Leg → Leg) : (d.updLeg n f).leg n = f (d.leg n) := vget_vset_same _ _ _ n.isLt

theorem leg_updLeg_ne (d : Dev) {n m : Nat} (f : Leg → Leg) (h : n ≠ m) : (d.updLeg n f).leg m = d.leg m := vget_vset_ne _ _ h

/-! ### Cutoff and judgement (R18, R154) -/

theorem cutoff_passed {d : Dev} {n : Nat} (hen : d.fb PWM_LEG_n_CTRL_EN n = true) (hp : d.pastCutoff n = true) :
    d.cutoff n = d.updLeg n fun x => { x with cutoff := true } := by
  rw [cutoff, hen, hp]; rfl

theorem cutoff_early {d : Dev} {n : Nat} (hp : d.pastCutoff n = false) : d.cutoff n = d := by
  rw [cutoff, hp, Bool.and_false]; rfl

/-- The place of a register of a leg is none of the timebase's. -/
theorem degraded_key_ne_leg {F : Fld} (n : Nat) (h : 0x20020000 ≤ F.base) : CLK_TB_HI_DEGRADED.key 0 ≠ F.key n := by
  simp only [Fld.key, CLK_TB_HI_DEGRADED]
  omega

/-- A load point that passes without the one token it expects: the slot misses, the leg shows it, one `EV_34`. -/
theorem judge_one {d : Dev} {n : Fin 24} {sl x q : Nat} (he : (d.leg n).expected = [(sl, x)]) :
    ∃ e : Dev, d.judge n q = e.slotMiss sl x ∧ (e.leg n).expected = [] ∧ (e.leg n).missSeq = some q ∧
      e.fg PWM_LEG_n_STAT_COMMIT_MISS n = 1 ∧ e.evt = (d.raise 34 n).evt := by
  refine ⟨((d.updLeg n fun x => { x with expected := [], missSeq := some q }).fs PWM_LEG_n_STAT_COMMIT_MISS 1 n).raise 34 n,
    ?_, by simp, by simp, ?_, ?_⟩
  · rw [judge, he]; rfl
  · rw [fg_raise, fg_fs]; rfl
  · rw [raise_fs_evt _ _ _ (degraded_key_ne_leg _ (by decide)), raise_updLeg_evt]

theorem judge_none {d : Dev} {n q : Nat} (he : (d.leg n).expected = []) : d.judge n q = d := by rw [judge, if_pos he]

/-! ### Commit tokens (R112) -/

/-- A token of one leg, in time, on a leg that takes its compares from commits. -/
theorem token_intime {d : Dev} {n sl x : Nat} {p : CmpPair} (hp : d.pastCutoff n = false) (hsrc : d.fb PWM_LEG_n_CTRL_SRC n = true) :
    d.token { slot := sl, exec := x, legs := [(n, d.nextLp n, some p)] } =
      (d.expectDrop sl n).updLeg n fun x => { x with comm := some p, lastA := p.a, lastB := p.b } := by
  have hsrc' : (d.expectDrop sl n).fb PWM_LEG_n_CTRL_SRC n = true := hsrc
  simp [token, hp, hsrc']

/-- The leg of a token that is late: its slot no longer expects the next load point, `COMMIT_LATE` stands. -/
def lateLeg (d : Dev) (n sl q : Nat) : Dev := (if q = d.nextLp n then d.expectDrop sl n else d).fs PWM_LEG_n_STAT_COMMIT_LATE 1 n

theorem token_late {d : Dev} {n sl x q : Nat} {p : Option CmpPair} (h : q ≠ d.nextLp n ∨ d.pastCutoff n = true) :
    d.token { slot := sl, exec := x, legs := [(n, q, p)] } = (if ((d.lateLeg n sl q).leg n).missSeq = some q then d.lateLeg n sl q
      else (d.lateLeg n sl q).raise 34 n).slotMiss sl x := by
  have hlate : (!decide (q = d.nextLp n) || d.pastCutoff n) = true := by simpa using h
  simp only [token, List.foldl_cons, List.foldl_nil, hlate, if_true, decide_eq_true_eq]
  rfl

theorem lateLeg_leg (d : Dev) (n : Fin 24) (sl q : Nat) : ((d.lateLeg n sl q).leg n).missSeq = (d.leg n).missSeq ∧
    ((d.lateLeg n sl q).leg n).comm = (d.leg n).comm := by
  simp only [lateLeg, leg_fs]
  split
  · simp [expectDrop]
  · exact ⟨rfl, rfl⟩

theorem lateLeg_evt (d : Dev) (n sl q : Nat) : (d.lateLeg n sl q).evt = d.evt ∧
    ((d.lateLeg n sl q).raise 34 n).evt = (d.raise 34 n).evt := by
  rw [lateLeg, raise_fs_evt _ _ _ (degraded_key_ne_leg _ (by decide)), fs_evt]
  split <;> exact ⟨rfl, rfl⟩

/-- The device without its oldest commit token, where `l` is what is left of them. -/
def popToken (d : Dev) (l : List Token) : Dev := { d with cen := { d.cen with tokens := l } }

theorem tokenArrival_front {d : Dev} {t : Token} {l : List Token} (h : d.cen.tokens = t :: l) :
    tokenArrivalDev d = (d.popToken l).token t := by
  rw [tokenArrivalDev, h]
  rfl

/-- A token in time takes its slot off the list and commits its pair; nothing is shown or raised. -/
theorem tokenArrival_intime {d : Dev} {n : Fin 24} {sl x : Nat} {p : CmpPair} {l : List Token}
    (ht : d.cen.tokens = { slot := sl, exec := x, legs := [(n.val, d.nextLp n, some p)] } :: l) (hp : d.pastCutoff n = false)
    (hsrc : d.fb PWM_LEG_n_CTRL_SRC n = true) : ∃ e, tokenArrivalDev d = e ∧ e.cen.tokens = l ∧
      e.leg n = { d.leg n with expected := (d.leg n).expected.filter (·.1 != sl), comm := some p, lastA := p.a, lastB := p.b } ∧
      e.regs = d.regs ∧ e.evt = d.evt := by
  refine ⟨_, (tokenArrival_front ht).trans (token_intime (d := d.popToken l) hp hsrc), rfl, ?_, rfl, rfl⟩
  rw [leg_updLeg, expectDrop, leg_updLeg]
  rfl

/-- A late token is shown with its leg; it raises `EV_34` unless its load point has, and its slot misses. -/
theorem tokenArrival_late {d : Dev} {n : Fin 24} {sl x q : Nat} {p : Option CmpPair} {l : List Token}
    (ht : d.cen.tokens = { slot := sl, exec := x, legs := [(n.val, q, p)] } :: l) (h : q ≠ d.nextLp n ∨ d.pastCutoff n = true) :
    ∃ e : Dev, tokenArrivalDev d = e.slotMiss sl x ∧ e.fg PWM_LEG_n_STAT_COMMIT_LATE n = 1 ∧
      e.evt = (if (d.leg n).missSeq = some q then d.evt else (d.raise 34 n).evt) ∧ (e.leg n).comm = (d.leg n).comm := by
  obtain ⟨f, hf⟩ : ∃ f, f = (d.popToken l).lateLeg n sl q := ⟨_, rfl⟩
  have hlate : f.fg PWM_LEG_n_STAT_COMMIT_LATE n = 1 := hf ▸ (fg_fs ..).trans rfl
  obtain ⟨hseq, hcomm⟩ := hf ▸ lateLeg_leg (d.popToken l) n sl q
  obtain ⟨hevt, hraise⟩ := hf ▸ lateLeg_evt (d.popToken l) n sl q
  refine ⟨_, (tokenArrival_front ht).trans (token_late (d := d.popToken l) h), ?_⟩
  rw [← hf, hseq, show (d.popToken l).leg n = d.leg n from rfl]
  split
  · exact ⟨hlate, hevt, hcomm⟩
  · exact ⟨hlate, hraise, hcomm⟩

/-! ### The load (R111) -/

/-- The load point of leg `n` is counted. -/
def countLp (d : Dev) (n : Nat) : Dev := d.fs PWM_LEG_n_LPS_LP_SEQ (d.nextLp n) n

/-- The leg's shadows become active. -/
def takeShadow (d : Dev) (n : Nat) : Dev :=
  (d.updLeg n fun x => { x with cmpA := d.fg PWM_LEG_n_CMPA_CMP n, cmpB := d.fg PWM_LEG_n_CMPB_CMP n }).fs PWM_LEG_n_LPS_SH_PEND 0 n

/-- The load point is over: its cutoff is, and the uncommitted pair that aimed at it is dropped. -/
def endLp (d : Dev) (n seq : Nat) : Dev := d.updLeg n fun x => { x with cutoff := false, tent := x.tent.filter fun p => p.seq != seq }

/-- A shadow of leg `n` is complete before the cutoff of the present load point, and not held. -/
def shadowDue (d : Dev) (n : Nat) : Bool :=
  decide ((d.leg n).shAt + 16 < d.clk.ticks) && d.fb PWM_LEG_n_LPS_SH_PEND n && !d.fbit PWM_SHLOCK_LOCK n

/-- The count of a load point changes no other field. -/
theorem fg_countLp (d : Dev) (n : Nat) {G : Fld} {m : Nat} (h : G.key m ≠ PWM_LEG_n_LPS_LP_SEQ.key n) :
    (d.countLp n).fg G m = d.fg G m := fg_fs_ne _ _ _ _ _ _ h

theorem shadowDue_countLp (d : Dev) (n : Nat) : (d.countLp n).shadowDue n = d.shadowDue n := by
  have hpend : (d.countLp n).fg PWM_LEG_n_LPS_SH_PEND n = d.fg PWM_LEG_n_LPS_SH_PEND n :=
    fg_countLp d n (by simp [Fld.key, PWM_LEG_n_LPS_SH_PEND, PWM_LEG_n_LPS_LP_SEQ])
  have hlock : (d.countLp n).fg PWM_SHLOCK_LOCK = d.fg PWM_SHLOCK_LOCK :=
    fg_countLp d n (by simp only [Fld.key, PWM_SHLOCK_LOCK, PWM_LEG_n_LPS_LP_SEQ]; omega)
  simp only [shadowDue, fb, fbit, hpend, hlock]
  rfl

/-- A load point of a leg whose compares firmware writes, and that no slot owes a token. -/
theorem loadCompares_shadow {d : Dev} {n : Nat} (hsrc : d.fb PWM_LEG_n_CTRL_SRC n = false) (he : (d.leg n).expected = []) :
    d.loadCompares n = (if d.shadowDue n then (d.countLp n).takeShadow n else d.countLp n).endLp n (d.nextLp n) := by
  have hsrc' : (d.countLp n).fb PWM_LEG_n_CTRL_SRC n = false := by
    rw [fb, fg_countLp d n (by simp only [Fld.key, PWM_LEG_n_CTRL_SRC, PWM_LEG_n_LPS_LP_SEQ]; omega)]
    exact hsrc
  rw [← shadowDue_countLp]
  simp only [loadCompares, judge_none he]
  rw [if_neg (Bool.not_eq_true _ ▸ hsrc')]
  rfl

theorem shadow_loads {d : Dev} {n : Fin 24} (hsrc : d.fb PWM_LEG_n_CTRL_SRC n = false) (he : (d.leg n).expected = [])
    (hdue : d.shadowDue n = true) : ((d.loadCompares n).leg n).cmpA = d.fg PWM_LEG_n_CMPA_CMP n ∧
      ((d.loadCompares n).leg n).cmpB = d.fg PWM_LEG_n_CMPB_CMP n ∧ (d.loadCompares n).fg PWM_LEG_n_LPS_SH_PEND n = 0 := by
  rw [loadCompares_shadow hsrc he, hdue, if_pos rfl]
  refine ⟨?_, ?_, ?_⟩
  · simp only [endLp, takeShadow, leg_updLeg, leg_fs]
    exact fg_countLp d n (by simp only [Fld.key, PWM_LEG_n_CMPA_CMP, PWM_LEG_n_LPS_LP_SEQ]; omega)
  · simp only [endLp, takeShadow, leg_updLeg, leg_fs]
    exact fg_countLp d n (by simp only [Fld.key, PWM_LEG_n_CMPB_CMP, PWM_LEG_n_LPS_LP_SEQ]; omega)
  · exact (fg_fs _ _ _ _).trans (Nat.zero_mod _)

theorem shadow_waits {d : Dev} {n : Fin 24} (hsrc : d.fb PWM_LEG_n_CTRL_SRC n = false) (he : (d.leg n).expected = [])
    (hdue : d.shadowDue n = false) : ((d.loadCompares n).leg n).cmpA = (d.leg n).cmpA ∧
      (d.loadCompares n).fb PWM_LEG_n_LPS_SH_PEND n = d.fb PWM_LEG_n_LPS_SH_PEND n := by
  rw [loadCompares_shadow hsrc he, hdue, if_neg Bool.false_ne_true]
  refine ⟨by simp [endLp, countLp], congrArg (· != 0) ?_⟩
  exact fg_countLp d n (by simp [Fld.key, PWM_LEG_n_LPS_SH_PEND, PWM_LEG_n_LPS_LP_SEQ])

/-! ### Writes of shadows and of their lock (R111) -/

/-- A write that the state refuses changes nothing, but for what the trip logic notes. -/
theorem writeReg_state {d : Dev} {r : Reg} {n word : Nat} (h : d.stateReg r.base n (reached r word) = true)
    (hb : r.base / 65536 ≠ 0x2004) : (d.writeReg r n word).2 = d := by
  simp only [writeReg, h, Bool.true_or, if_true, if_neg hb]
  split
  · rfl
  · split <;> rfl

theorem storeWord_leg {r : Reg} (hrw : ∀ s ∈ r.flds, s.acc = .RW) (d : Dev) (n w m : Nat) : (d.storeWord r n w).leg m = d.leg m := by
  obtain ⟨x, hx⟩ := storeWord_regs hrw d n w
  rw [hx]
  rfl

theorem storeWord_clk {r : Reg} (hrw : ∀ s ∈ r.flds, s.acc = .RW) (d : Dev) (n w : Nat) : (d.storeWord r n w).clk = d.clk := by
  obtain ⟨x, hx⟩ := storeWord_regs hrw d n w
  rw [hx]

theorem leg_shadowWritten (d : Dev) (n : Fin 24) : (d.shadowWritten n).leg n = { d.leg n with shAt := d.clk.ticks } := leg_updLeg _ _ _

/-- The unlock of shadows marks each of them, and nothing else. -/
theorem foldl_shAt_leg (l : List Nat) (d : Dev) (n : Fin 24) :
    (l.foldl (fun d m => d.updLeg m fun x => { x with shAt := d.clk.ticks }) d).leg n =
      if n.val ∈ l then { d.leg n with shAt := d.clk.ticks } else d.leg n := by
  induction l generalizing d with
  | nil => rfl
  | cons m t ih =>
    rw [List.foldl_cons, ih]
    by_cases h : m = n
    · subst h
      simp
    · simp [leg_updLeg_ne d _ h, Ne.symm h]

theorem foldl_shAt_regs (l : List Nat) (d : Dev) :
    (l.foldl (fun d m => d.updLeg m fun x => { x with shAt := d.clk.ticks }) d).regs = d.regs := by
  induction l generalizing d with
  | nil => rfl
  | cons m t ih => rw [List.foldl_cons, ih, updLeg_regs]

theorem fg_lockWritten (d d0 : Dev) (F : Fld) (n : Nat) : (d.lockWritten d0).fg F n = d.fg F n := by
  rw [fg, lockWritten, foldl_shAt_regs, fg]

theorem leg_lockWritten (d d0 : Dev) (n : Fin 24) : (d.lockWritten d0).leg n =
    if d0.fbit PWM_SHLOCK_LOCK n && !d.fbit PWM_SHLOCK_LOCK n then { d.leg n with shAt := d.clk.ticks } else d.leg n := by
  rw [lockWritten, foldl_shAt_leg]
  simp [n.isLt]

end Dev

theorem Fld.of_shifted (F : Fld) (w : Nat) : F.of (F.of w * 2 ^ F.lo) = F.of w := by
  rw [Fld.of, Nat.mul_div_cancel _ (by positivity)]
  exact Nat.mod_mod _ _

/-- `PWM_LEG_n_CMPA` in the register map. -/
def cmpAReg : Reg := ⟨0x2002020C, 0x20, 0, 24, [⟨PWM_LEG_n_CMPA_CMP, .RW, .any⟩]⟩
/-- `PWM_LEG_n_CMPB` in the register map. -/
def cmpBReg : Reg := ⟨0x20020210, 0x20, 0, 24, [⟨PWM_LEG_n_CMPB_CMP, .RW, .any⟩]⟩
/-- `PWM_SHLOCK` in the register map. -/
def shlockReg : Reg := ⟨0x20020014, 0x0, 0, 1, [⟨PWM_SHLOCK_LOCK, .RW, .any⟩]⟩

theorem findReg_cmpA (n : Fin 24) : findReg (PWM_LEG_n_CMPA_CMP.at n) = some (cmpAReg, n.val) := by
  fin_cases n <;> rfl

theorem findReg_cmpB (n : Fin 24) : findReg (PWM_LEG_n_CMPB_CMP.at n) = some (cmpBReg, n.val) := by
  fin_cases n <;> rfl

theorem findReg_shlock : findReg (PWM_SHLOCK_LOCK.at 0) = some (shlockReg, 0) := rfl

theorem cmpAReg_rw : ∀ s ∈ cmpAReg.flds, s.acc = .RW := by simp [cmpAReg]

theorem shlockReg_rw : ∀ s ∈ shlockReg.flds, s.acc = .RW := by simp [shlockReg]

/-- The word that reaches a register whose one field a write can reach gives the field the written value. -/
theorem of_reached_single {r : Reg} {s : FldSpec} (hl : r.flds = [s]) (hrw : s.acc = .RW) (w : Nat) :
    s.fld.of (Dev.reached r w) = s.fld.of w := by
  simp only [Dev.reached, hl, List.foldl_cons, List.foldl_nil, hrw, Nat.zero_add]
  exact Fld.of_shifted _ _

theorem shadowWrite_cmpA {s : State} {a : Acc} {n : Fin 24} {val : W32} (up : s.up)
    (hok : s.dev.accepts a (PWM_LEG_n_CMPA_CMP.at n) val.toNat) : ∃ t, exec (.shadowWrite a n false val) s = .next t ∧
      t.dev.fg PWM_LEG_n_CMPA_CMP n = PWM_LEG_n_CMPA_CMP.of val.toNat ∧ t.dev.fg PWM_LEG_n_LPS_SH_PEND n = 1 ∧
      (t.dev.leg n).cmpA = (s.dev.leg n).cmpA ∧ (t.dev.leg n).shAt = s.dev.clk.ticks := by
  have hat : PWM_LEG_n_CMPA_CMP.at n = 0x2002020C + 0x20 * n.val := rfl
  have hblk : (PWM_LEG_n_CMPA_CMP.at n) / 65536 = 0x2002 := by omega
  have hwrite : (s.dev.regWrite a (PWM_LEG_n_CMPA_CMP.at n) val.toNat).2 = (s.dev.storeWord cmpAReg n val.toNat).shadowWritten n :=
    Dev.regWrite_accepted (findReg_cmpA n) (by omega) (by omega) (by omega) rfl rfl hok
  have hleg : ((s.dev.storeWord cmpAReg n val.toNat).shadowWritten n).leg n = { s.dev.leg n with shAt := s.dev.clk.ticks } := by
    rw [Dev.leg_shadowWritten, Dev.storeWord_leg cmpAReg_rw, Dev.storeWord_clk cmpAReg_rw]
  refine ⟨_, (State.run_up up _).trans (by rw [wrIf, always, if_pos rfl, if_neg Bool.false_ne_true, hwrite]), ?cmp, ?pend, ?active, ?time⟩
  case cmp =>
    refine (Dev.fg_fs_ne _ _ _ _ _ _ ?_).trans ((Dev.storeWord_fg cmpAReg_rw (findReg_cmpA n) (.head _) _ _).trans (of_reached_single rfl rfl _))
    simp only [Fld.key, PWM_LEG_n_CMPA_CMP, PWM_LEG_n_LPS_SH_PEND]
    omega
  case pend => exact Dev.fg_fs _ _ _ _
  case active => exact congrArg (·.cmpA) hleg
  case time => exact congrArg (·.shAt) hleg

theorem shadowWrite_committed {s : State} {a : Acc} {n : Fin 24} {val : W32} (up : s.up)
    (hsrc : s.dev.fb PWM_LEG_n_CTRL_SRC n = true) : ∃ t, exec (.shadowWrite a n true val) s = .next t ∧ t.dev.regs = s.dev.regs := by
  have hat : PWM_LEG_n_CMPB_CMP.at n = 0x20020210 + 0x20 * n.val := rfl
  have hwrite : (s.dev.regWrite a (PWM_LEG_n_CMPB_CMP.at n) val.toNat).2 = s.dev := by
    rw [Dev.regWrite_reg (findReg_cmpB n) (by omega) (by simp [Dev.aonDead]; omega) (.inl (by omega)) rfl rfl]
    exact Dev.writeReg_state hsrc (by decide)
  exact ⟨s.to s.dev, (State.run_up up _).trans (by rw [wrIf, always, if_pos rfl, if_pos rfl, hwrite]), rfl⟩

theorem shlockWrite_stores {s : State} {a : Acc} {val : W32} (up : s.up)
    (hok : s.dev.accepts a (PWM_SHLOCK_LOCK.at 0) val.toNat) : ∃ t, exec (.shlockWrite a val) s = .next t ∧
      t.dev.fg PWM_SHLOCK_LOCK = PWM_SHLOCK_LOCK.of val.toNat ∧ ∀ n : Fin 24, t.dev.leg n =
        if s.dev.fbit PWM_SHLOCK_LOCK n && !t.dev.fbit PWM_SHLOCK_LOCK n then { s.dev.leg n with shAt := s.dev.clk.ticks }
        else s.dev.leg n := by
  have hwrite : (s.dev.regWrite a (PWM_SHLOCK_LOCK.at 0) val.toNat).2 = (s.dev.storeWord shlockReg 0 val.toNat).lockWritten s.dev :=
    Dev.regWrite_accepted findReg_shlock rfl (by decide) (by decide) rfl rfl hok
  have hlock : (s.dev.storeWord shlockReg 0 val.toNat).fg PWM_SHLOCK_LOCK = PWM_SHLOCK_LOCK.of val.toNat :=
    (Dev.storeWord_fg shlockReg_rw findReg_shlock (.head _) _ _).trans (of_reached_single rfl rfl _)
  refine ⟨_, (State.run_up up _).trans (by rw [wrIf, always, if_pos rfl, hwrite]), (Dev.fg_lockWritten _ _ _ _).trans hlock, fun n => ?_⟩
  refine (Dev.leg_lockWritten _ _ n).trans ?_
  rw [State.to_dev, Dev.fbit, Dev.fbit, Dev.fbit, Dev.fg_land, Dev.fg_lockWritten, Dev.storeWord_leg shlockReg_rw, Dev.storeWord_clk shlockReg_rw]

/-- Settles O15: a load point, a cutoff, a token and the writes of shadows each do what their device function says, and none of their
register fields shares a place with another. -/
theorem loadPoints : Obligations.LoadPoints := by
  intro s a up d
  refine ⟨?cutoff, ?judge, ?intime, ?late, ?load, ?cmpA, ?cmpB, ?shlock⟩
  case cutoff =>
    refine fun n => ⟨rfl, fun hen hp => ?_, fun hp => ?_⟩
    · exact (State.run_up up _).trans (by rw [Dev.cutoff_passed hen hp])
    · exact (State.run_up up _).trans (by rw [Dev.cutoff_early hp])
  case judge => exact fun n sl x q he => Dev.judge_one he
  case intime =>
    intro n sl x p l ht hp hsrc
    obtain ⟨e, he, htok, hleg, hregs, hevt⟩ := Dev.tokenArrival_intime ht hp hsrc
    exact ⟨_, (State.run_up up _).trans (by rw [he]), htok, congrArg (·.comm) hleg, congrArg (·.lastA) hleg, congrArg (·.lastB) hleg,
      congrArg (·.expected) hleg, hregs, hevt⟩
  case late =>
    intro n sl x q p l ht h
    obtain ⟨e, he, hrest⟩ := Dev.tokenArrival_late ht h
    exact ⟨e, (State.run_up up _).trans (by rw [he]), hrest⟩
  case load =>
    intro n hsrc he hpend hlock
    refine ⟨fun ht => Dev.shadow_loads hsrc he ?_, fun ht => ?_⟩
    · simp [Dev.shadowDue, ht, hpend, hlock, d]
    · obtain ⟨hcmp, hpend'⟩ := Dev.shadow_waits hsrc he (by simp [Dev.shadowDue, Nat.not_lt.2 ht])
      exact ⟨hcmp, hpend'.trans hpend⟩
  case cmpA => exact fun n val hok => shadowWrite_cmpA up hok
  case cmpB => exact fun n val hsrc => shadowWrite_committed up hsrc
  case shlock => exact fun val hok => shlockWrite_stores up hok

end Sys2Proof.Machine
end

section
/-! SUPPORT. The statement about the output pins (02). -/
set_option Elab.async false

namespace Sys2Proof.Machine

/-- A register file whose places do not rise: the not valid state of bank 0 stands behind a field of a later register. Writes
keep the list in rising order (`fs_regsWf`), but the statement about the pins does not ask for it. -/
def bankOutOfOrder : State := { dev := { regs := [(SYS_PWRSTAT_DROP.key 0, 1), (SYS_IOBANK_BANK_0.key 0, 0)] } }

/-- Behind the later place the bank's entry is not found, so that the bank reads as its reset value, valid. -/
theorem bankOk_bankOutOfOrder : bankOutOfOrder.dev.bankOk 0 = true := by decide

/-- The reset drops the entry in front and keeps the bank's, which is found now. -/
theorem bankOk_vddCoreFallDev_bankOutOfOrder : (vddCoreFallDev bankOutOfOrder.dev).bankOk 0 = false := by decide

/-- Refutes O40: the clamp by a fall of `VDD_CORE` is claimed to keep which banks are valid from every state, also one whose register
file is not in rising order (`bankOutOfOrder`); there bank 0 reads valid before the fall and not valid after it. -/
theorem not_outputPins : ¬ Obligations.OutputPins := by
  rintro ⟨-, -, hfall, -⟩
  obtain ⟨t, ht, -, hbank⟩ := hfall bankOutOfOrder rfl
  have hdev : t.dev.bankOk 0 = (vddCoreFallDev bankOutOfOrder.dev).bankOk 0 := by rw [State.lift_next ht]; rfl
  have hkept : t.dev.bankOk 0 = bankOutOfOrder.dev.bankOk 0 := hbank 0
  simp [hdev, bankOk_vddCoreFallDev_bankOutOfOrder, bankOk_bankOutOfOrder] at hkept

end Sys2Proof.Machine
end

section
/-! SUPPORT. What the operations that follow a release of reset leave alone: the SYS block of the register map with the banks, the SYS
state, the events held for Nightwatch, the bank episode, `SAF_STAT.BANK3`. -/
set_option Elab.async false

namespace Sys2Proof.Machine

/-! ### Places of the register file -/

/-- A place of the SYS block, or that of `SAF_STAT.BANK3`. -/
def spared (k : Nat) : Bool := decide (k < 32 * 0x20010000) || k == SAF_STAT_BANK3.key 0

/-- Whatever its index, the field stands above the SYS block and not in the word `SAF_STAT`. -/
def Fld.clears (F : Fld) : Bool :=
  decide (0x20010000 ≤ F.base) && decide (F.lo < 32) && F.base % F.stride != SAF_STAT_BANK3.base % F.stride

theorem Fld.spared_key {F : Fld} (h : F.clears = true) (n : Nat) : spared (F.key n) = false := by
  simp only [clears, Bool.and_eq_true, decide_eq_true_eq, bne_iff_ne] at h
  obtain ⟨⟨hbase, hlo⟩, hmod⟩ := h
  have hword : F.base + F.stride * n ≠ SAF_STAT_BANK3.base := fun h => hmod (by rw [← h, Nat.add_mul_mod_self_left])
  have habove : ¬ F.key n < 32 * 0x20010000 := by rw [key]; omega
  have hplace : F.key n ≠ SAF_STAT_BANK3.key 0 := by simp only [key, SAF_STAT_BANK3] at hword ⊢; omega
  simp [spared, habove, hplace]

namespace Dev

/-- `e` has the SYS state, the held events, the bank episode and the spared places of the register file as `d` has them. -/
def Spares (d e : Dev) : Prop :=
  e.sys = d.sys ∧ e.evt.held = d.evt.held ∧ e.trp.bankEp = d.trp.bankEp ∧
    ∀ k, spared k = true → ∀ x, spGet k x e.regs = spGet k x d.regs

namespace Spares

variable {d e : Dev}

theorem refl : Spares d d := ⟨rfl, rfl, rfl, fun _ _ _ => rfl⟩

theorem fg {F : Fld} {n : Nat} (h : Spares d e) (hF : spared (F.key n) = true) : e.fg F n = d.fg F n := by
  obtain ⟨-, -, -, hregs⟩ := h
  exact hregs _ hF _

/-! ### How changes follow one another -/

theorem ite {c : Prop} [Decidable c] {a b : Dev} (ha : Spares d a) (hb : Spares d b) : Spares d (if c then a else b) := by
  split
  · exact ha
  · exact hb

theorem ite_snd {α : Type} {c : Prop} [Decidable c] {a b : α × Dev} (ha : Spares d a.2) (hb : Spares d b.2) :
    Spares d (if c then a else b).2 := by
  split
  · exact ha
  · exact hb

theorem foldl {α : Type} {f : Dev → α → Dev} {l : List α} (h : Spares d e)
    (hf : ∀ e x, x ∈ l → Spares d e → Spares d (f e x)) : Spares d (l.foldl f e) := by
  induction l generalizing e with
  | nil => exact h
  | cons x t ih => exact ih (hf e x (.head _) h) fun e y hy => hf e y (.tail _ hy)

/-! ### The register file and events -/

theorem fsAt {F : Fld} {v n : Nat} (h : Spares d e) (hF : spared (F.key n) = false) : Spares d (e.fs F v n) := by
  obtain ⟨hsys, hheld, hep, hregs⟩ := h
  refine ⟨hsys, hheld, hep, fun k hk x => (regs_fs_ne e F v n k x ?_).trans (hregs k hk x)⟩
  rintro rfl
  rw [hF] at hk
  cases hk

theorem fs {F : Fld} {v n : Nat} (h : Spares d e) (hF : F.clears = true := by decide) : Spares d (e.fs F v n) :=
  h.fsAt (Fld.spared_key hF n)

theorem fsBit {F : Fld} {i n : Nat} {b : Bool} (h : Spares d e) (hF : F.clears = true := by decide) : Spares d (e.fsBit F i b n) :=
  h.fs hF

theorem fcnt {F V : Fld} {n : Nat} (h : Spares d e) (hF : F.clears = true := by decide) (hV : V.clears = true := by decide) :
    Spares d (e.fcnt F V n) := by
  unfold Dev.fcnt
  exact .ite (h.fs hF) ((h.fs hF).fs hV)

theorem fresh (h : Spares d e) : Spares d e.fresh.2 := h

theorem raise {ev x : Nat} (h : Spares d e) : Spares d (e.raise ev x) := h

/-! ### Legs and their trips (04, 06) -/

theorem updLeg {n : Nat} {f : Leg → Leg} (h : Spares d e) : Spares d (e.updLeg n f) := h

theorem updTLeg {n : Nat} {f : TLeg → TLeg} (h : Spares d e) : Spares d (e.updTLeg n f) := h

theorem fallH {n sub : Nat} (h : Spares d e) : Spares d (e.fallH n sub) := .ite h.updLeg h

theorem fallL {n sub : Nat} (h : Spares d e) : Spares d (e.fallL n sub) := .ite h.updLeg h

theorem riseH {n sub : Nat} (h : Spares d e) : Spares d (e.riseH n sub) := h

theorem riseL {n sub : Nat} (h : Spares d e) : Spares d (e.riseL n sub) := h

theorem turnOnH {n sub : Nat} (h : Spares d e) : Spares d (e.turnOnH n sub) := .ite h.updLeg (.ite h.riseH h.updLeg)

theorem turnOnL {n sub : Nat} (h : Spares d e) : Spares d (e.turnOnL n sub) := .ite h.updLeg (.ite h.riseL h.updLeg)

theorem interlock {n : Nat} (h : Spares d e) : Spares d (e.interlock n) :=
  .ite (.updLeg (.ite h (.raise h.fcnt))) h.updLeg

theorem legDrive {n sub : Nat} (h : Spares d e) : Spares d (e.legDrive n sub) := by
  have hlow : ∀ {c : Prop} [Decidable c] {e' : Dev}, Spares d e' → Spares d (if c then e'.fallH n sub else e') :=
    fun h => .ite h.fallH h
  unfold Dev.legDrive
  refine .ite h.interlock.updLeg ?_
  split
  · exact .ite (.fallL (hlow h.interlock.updLeg)) (hlow h.interlock.updLeg)
  · exact .turnOnL (.turnOnH (.ite (.ite h.interlock h.interlock.fallH) (.fallL (.ite h.interlock h.interlock.fallH))))

theorem imposeSafe {n : Nat} (h : Spares d e) : Spares d (e.imposeSafe n) := by
  have hoff : Spares d ((e.updLeg n fun x => { x with onH := false, onL := false }).fs PWM_LEG_n_CARRY_CARRY 0 n) := .fs h.updLeg
  unfold Dev.imposeSafe
  dsimp only
  split
  · exact hoff.fallH
  · exact hoff.fallL
  · exact .fallL hoff.fallH

theorem tripSafe {n : Nat} (h : Spares d e) : Spares d (e.tripSafe n) := .imposeSafe h.updTLeg

theorem lapse {n : Nat} (h : Spares d e) : Spares d (e.lapse n) := .ite (.raise (.fs h.updTLeg)) h

theorem nameTwice {n sw : Nat} (h : Spares d e) : Spares d (e.nameTwice n sw) := by
  unfold Dev.nameTwice
  split
  · exact .ite h (.legDrive (.raise h.updTLeg))
  · exact h

theorem markTrip {n cause sw st : Nat} (h : Spares d e) : Spares d (e.markTrip n cause sw st) := .fs (.fs (.fs h))

theorem reactTrip {n sw : Nat} (h : Spares d e) : Spares d (e.reactTrip n sw) := by
  unfold Dev.reactTrip
  exact .ite h.tripSafe (.ite (.tripSafe h.raise) (.ite h.tripSafe (.legDrive h.updTLeg)))

/-! ### The grid functions and the groups they name (07, 08) -/

theorem grd {x} (h : Spares d e) : Spares d { e with grd := x } := h

theorem updGrd {f : Grd → Grd} (h : Spares d e) : Spares d (e.updGrd f) := h

theorem cen {x} (h : Spares d e) : Spares d { e with cen := x } := h

theorem dropCand {g k s : Nat} (h : Spares d e) : Spares d (e.dropCand g k s) :=
  .cen (.fsBit (.cen h))

theorem setMembers {g ma mb : Nat} (h : Spares d e) : Spares d (e.setMembers g ma mb) :=
  .foldl (.fs (.fs h)) fun _ _ _ => .dropCand

theorem setValid {g mask : Nat} (h : Spares d e) : Spares d (e.setValid g mask) := .ite h.setMembers h

theorem grdMasks {island : Bool} (h : Spares d e) : Spares d (e.grdMasks island) := .foldl h fun _ _ _ h => .ite h.setValid h

theorem grdState {st : Nat} (h : Spares d e) : Spares d (e.grdState st) :=
  .ite h (.grd (.raise h.fs))

theorem grdLegCheck (h : Spares d e) : Spares d e.grdLegCheck := .ite (.grdState (.ite h.grdMasks h)) h

theorem latchTrip {n cause : Nat} (h : Spares d e) : Spares d (e.latchTrip n cause) :=
  .ite (.fs h.lapse.nameTwice) (.grdLegCheck (.reactTrip (.raise h.lapse.markTrip)))

theorem softTrip {mask : Nat} (h : Spares d e) : Spares d (e.softTrip mask) := .foldl h fun _ _ _ => .latchTrip

theorem grdGo {st : Nat} (h : Spares d e) : Spares d (e.grdGo st) := .fs (.ite h.grdState (.fs h.grdState))

theorem openDone (h : Spares d e) : Spares d e.openDone := .ite (.grdGo h.updGrd) h

theorem grdStart (h : Spares d e) : Spares d e.grdStart := by
  unfold Dev.grdStart
  exact .ite (.fs (.fs (.fs (.fs (.fs (.fs (.fs h.grd))))))) (.grdGo (.fs (.fs (.fs (.fs (.fs (.fs (.fs h.grd))))))))

theorem grdReport {r : Nat} (h : Spares d e) : Spares d (e.grdReport r) := by
  unfold Dev.grdReport
  exact .ite h.updGrd (.ite (.ite h.updGrd h.updGrd.grdStart) (.ite h.updGrd.openDone (.ite (.raise (.grdGo h.updGrd.updGrd)) h.updGrd)))

theorem grdDemand {vpos : Nat} (h : Spares d e) : Spares d (e.grdDemand vpos) := by
  have href : ∀ {f}, Spares d (if e.fg GRD_STAT_STATE = 5 then e.updGrd f else e) := .ite h.updGrd h
  exact .updGrd (.ite_snd (.ite_snd href.fresh href) href)

theorem coopPut {region w : Nat} {v : BitVec 32} (h : Spares d e) : Spares d (e.coopPut region w v) := .ite h (.ite h h)

theorem nqlTx {dst type cls : Nat} {payload : List Byte} (h : Spares d e) : Spares d (e.nqlTx dst type cls payload) := .ite h h

theorem publish {trip : Bool} (h : Spares d e) : Spares d (e.publish trip) := by
  have hwrite : Spares d (e.pubWrite e.pubWords) := .ite (.foldl h fun _ _ _ => .coopPut) h
  exact .ite hwrite.nqlTx hwrite

theorem grdCount (h : Spares d e) : Spares d e.grdCount := .ite (.fs (.raise (.fs h))) h

theorem disconnect {plain count : Bool} (h : Spares d e) : Spares d (e.disconnect plain count) := by
  have hlegs : ∀ {f m}, Spares d (((e.updGrd f).grdGo 8).softTrip m) := .softTrip (.grdGo h.updGrd)
  unfold Dev.disconnect
  exact .ite h (.ite (.grdCount (.ite hlegs.grdMasks hlegs.softTrip)) (.ite hlegs.grdMasks hlegs.softTrip))

theorem grdOpened (h : Spares d e) : Spares d e.grdOpened := .ite (.openDone (.publish (.grdDemand h.disconnect))) h

/-! ### The safety supervisor (11) -/

theorem saf {x} (h : Spares d e) : Spares d { e with saf := x } := h

theorem updFn {f : Nat} {g : SFn → SFn} (h : Spares d e) : Spares d (e.updFn f g) := h

theorem safReports {f : Nat} (h : Spares d e) : Spares d (e.safReports f) := .ite (.grdReport h.updFn) h.updFn

theorem setOut {i : Nat} {b : Bool} (h : Spares d e) : Spares d (e.setOut i b) :=
  .safReports h.saf

theorem fnSafe {f : Nat} (h : Spares d e) : Spares d (e.fnSafe f) := h

theorem causeMore {f ch : Nat} {l : List Nat} (h : Spares d e) : Spares d (e.causeMore f ch l) := by
  unfold Dev.causeMore
  dsimp only
  split
  · exact h
  · exact .ite h.updFn h

theorem fnEval {f ch : Nat} (h : Spares d e) : Spares d (e.fnEval f ch) := by
  unfold Dev.fnEval
  split
  · exact h
  · exact .ite (.ite (.grdOpened (.fnSafe (.setOut h.updFn))) (.fnSafe (.setOut h.updFn)))
      (.updFn (.causeMore (.ite h.setOut h)))

theorem safEval (h : Spares d e) : Spares d e.safEval := by
  unfold Dev.safEval
  exact .fnEval (.fnEval (.fnEval (.fnEval (.fs h))))

/-! ### The banks as reset ends (R44, R131) -/

/-- Bank 3's loss leaves a device like the one with `SAF_STAT.BANK3` set. -/
theorem bank3Lost : Spares (d.fs SAF_STAT_BANK3 1) d.bank3Lost := by
  unfold Dev.bank3Lost
  exact .safEval (.safReports (.safReports (.saf (.foldl .refl fun _ _ _ h => .fsBit (.fsBit (.fsBit (.fsBit h)))))))

/-- With bank 0 or 1 not valid the bank episode is open afterwards. -/
theorem bankTrip : Spares { d with trp := { d.trp with bankEp := d.bankBad || d.trp.bankEp } } d.bankTrip := by
  unfold Dev.bankTrip
  cases hbad : d.bankBad <;> cases hep : d.trp.bankEp
  case true.false => exact .foldl (.raise (.fs .refl)) fun _ _ _ => .latchTrip
  all_goals exact ⟨rfl, rfl, hep, fun _ _ _ => rfl⟩

/-! ### Nightwatch and Tallyman as reset ends (10, 14) -/

theorem aon {x} (h : Spares d e) : Spares d { e with aon := x } := h

theorem tal {x} (h : Spares d e) : Spares d { e with tal := x } := h

theorem bsGo {st : Nat} (h : Spares d e) : Spares d (e.bsGo st) := .aon h.fs

theorem wakeCause (h : Spares d e) : Spares d e.wakeCause := .ite (.raise (.fs (.fs (.bsGo (.aon h.fs))))) (.aon h.fs)

theorem cfgRegs_clear : ∀ r ∈ cfgRegs, spared (r.1.key r.2) = false := by decide

theorem cfgLoad (h : Spares d e) : Spares d e.cfgLoad := by
  unfold Dev.cfgLoad
  split
  · exact h
  · exact .tal (.foldl h fun _ r hr h => h.fsAt (cfgRegs_clear r.1 (List.of_mem_zip hr).1))

theorem talLoad (h : Spares d e) : Spares d e.talLoad := by
  unfold Dev.talLoad
  refine .fs ?_
  split
  · exact .tal (.fs (.fs (.fs h.cfgLoad)))
  · exact h.cfgLoad

end Spares

/-! ### Up to the banks -/

/-- Every bank's state stands in the SYS block. -/
theorem bankFld_spared (b : Nat) : spared ((bankFld b).key 0) = true ∧ (bankFld b).key 0 ≠ SYS_BOOT_STAT_STATE.key 0 := by
  unfold bankFld
  split <;> decide

/-- The device with reset released and the cause of its wake recorded. -/
def woken (d : Dev) : Dev :=
  let r : Dev := { d with sys := { d.sys with phase := .run } }
  if d.sys.coreBack then ({ r with sys := { r.sys with coreBack := false } } : Dev).wakeCause else r

theorem woken_spares (d : Dev) : Spares { d with sys := { d.sys with phase := .run, coreBack := false } } d.woken := by
  unfold woken
  cases hback : d.sys.coreBack
  case true => exact .wakeCause .refl
  case false => exact ⟨by simp [hback], rfl, rfl, fun _ _ _ => rfl⟩

/-- The device as the banks' states begin to act. -/
def booted (d : Dev) (sel : Nat) : Dev := ((d.woken.bootSources sel).talLoad).raiseHeld

theorem raiseHeld_sys (d : Dev) : d.raiseHeld.sys = d.sys := rfl

theorem fg_raiseHeld (d : Dev) (F : Fld) (n : Nat) : d.raiseHeld.fg F n = d.fg F n := rfl

/-- The boot sources that `BOOT_SEL` names (R38). -/
def selSources (sel : Nat) : List Nat := if sel = 1 then [2] else if sel = 2 then [0, 1, 2] else [0, 1]

theorem bootSources_eq (d : Dev) : ∀ sel, d.bootSources sel =
    ({ d with sys := { d.sys with bootSel := sel, sources := selSources sel } } : Dev).fs SYS_BOOT_STAT_STATE (if sel = 1 then 2 else 0)
  | 0 => rfl
  | 1 => rfl
  | 2 => rfl
  | _ + 3 => by simp [bootSources, selSources]

theorem comeUp_eq (d : Dev) (sel : Nat) : d.comeUp sel = (d.booted sel).banksUp := rfl

theorem booted_held (d : Dev) (sel : Nat) : (d.booted sel).evt.held = [] := rfl

theorem booted_sys (d : Dev) (sel : Nat) : (d.booted sel).sys =
    { d.sys with phase := .run, coreBack := false, bootSel := sel, sources := selSources sel } := by
  obtain ⟨hsys, -⟩ := Spares.talLoad (.refl (d := d.woken.bootSources sel))
  obtain ⟨hwake, -⟩ := d.woken_spares
  rw [booted, raiseHeld_sys, hsys, bootSources_eq, fs_sys, hwake]

theorem booted_fg {F : Fld} {n : Nat} (d : Dev) (sel : Nat) (hF : spared (F.key n) = true) :
    (d.booted sel).fg F n = (d.woken.bootSources sel).fg F n := by
  rw [booted, fg_raiseHeld, (Spares.talLoad (.refl (d := d.woken.bootSources sel))).fg hF]

theorem booted_bootState (d : Dev) (sel : Nat) : (d.booted sel).fg SYS_BOOT_STAT_STATE = if sel = 1 then 2 else 0 := by
  rw [booted_fg d sel (by decide), bootSources_eq, fg_fs]
  split <;> rfl

theorem booted_bankFld (d : Dev) (sel b : Nat) : (d.booted sel).fg (bankFld b) = d.fg (bankFld b) := by
  obtain ⟨hspared, hne⟩ := bankFld_spared b
  rw [booted_fg d sel hspared, bootSources_eq, fg_fs_ne _ _ _ _ _ _ hne]
  exact d.woken_spares.fg hspared

theorem booted_bankOk (d : Dev) (sel : Nat) : (d.booted sel).bankOk = d.bankOk := by
  funext b
  simp only [bankOk, booted_bankFld]

theorem booted_bankBad (d : Dev) (sel : Nat) : (d.booted sel).bankBad = d.bankBad := by
  have h0 := booted_bankFld d sel 0
  have h1 := booted_bankFld d sel 1
  simp only [bankFld] at h0 h1
  simp only [bankBad, h0, h1]

theorem booted_bank3 (d : Dev) (sel : Nat) : (d.booted sel).bank3 = d.bank3 := by
  have h3 := booted_bankFld d sel 3
  simp only [bankFld] at h3
  simp only [bank3, h3]

/-! ### The banks -/

/-- Bank 3 acts where it is not valid, and `SAF_STAT.BANK3` says so. -/
theorem bank3_acts {d e : Dev} (he : e = if d.bank3 then d else d.bank3Lost) : e.sys = d.sys ∧ e.evt.held = d.evt.held ∧
    e.trp.bankEp = d.trp.bankEp ∧ e.fg SYS_BOOT_STAT_STATE = d.fg SYS_BOOT_STAT_STATE ∧ (d.bank3 = false → e.fg SAF_STAT_BANK3 = 1) := by
  cases h3 : d.bank3
  case true =>
    rw [he, if_pos h3]
    exact ⟨rfl, rfl, rfl, rfl, nofun⟩
  case false =>
    have hlost : Spares (d.fs SAF_STAT_BANK3 1) e := by
      rw [he, h3, if_neg Bool.false_ne_true]
      exact .bank3Lost
    have hstate := hlost.fg (F := SYS_BOOT_STAT_STATE) (n := 0) (by decide)
    have hflag := hlost.fg (F := SAF_STAT_BANK3) (n := 0) (by decide)
    obtain ⟨hsys, hheld, hep, -⟩ := hlost
    exact ⟨hsys, hheld, hep, hstate.trans (fg_fs_ne _ _ _ _ _ _ (by decide)), fun _ => hflag.trans (fg_fs _ _ _ _)⟩

/-- The banks act in trips and in the safety supervisor; the SYS state only learns which have been detected. -/
theorem banksUp_spec (d : Dev) : d.banksUp.sys = { d.sys with detected := ((List.range 6).filter d.bankOk).foldl setBit 0 } ∧
    d.banksUp.evt.held = d.evt.held ∧ d.banksUp.trp.bankEp = (d.bankBad || d.trp.bankEp) ∧
    d.banksUp.fg SYS_BOOT_STAT_STATE = d.fg SYS_BOOT_STAT_STATE ∧ (d.bank3 = false → d.banksUp.fg SAF_STAT_BANK3 = 1) := by
  have htrip := Spares.bankTrip (d := { d with sys := { d.sys with detected := ((List.range 6).filter d.bankOk).foldl setBit 0 } })
  obtain ⟨hsys, hheld, hep, hstate, hflag⟩ := bank3_acts (show d.banksUp = _ from rfl)
  have hbank3 := htrip.fg (F := SYS_IOBANK_BANK_3) (n := 0) (by decide)
  have htstate := htrip.fg (F := SYS_BOOT_STAT_STATE) (n := 0) (by decide)
  obtain ⟨htsys, htheld, htep, -⟩ := htrip
  refine ⟨hsys.trans htsys, hheld.trans htheld, hep.trans htep, hstate.trans htstate, fun h3 => hflag ?_⟩
  rw [bank3, hbank3]
  exact h3

/-! ### The release of reset -/

/-- What stands after the release of reset: the SYS state, the ROM's state, no held event, the banks' effects. -/
theorem comeUp_spec (d : Dev) (sel : Nat) : (d.comeUp sel).sys = { d.sys with
      phase := .run, coreBack := false, bootSel := sel, sources := selSources sel, detected := ((List.range 6).filter d.bankOk).foldl setBit 0 } ∧
    (d.comeUp sel).fg SYS_BOOT_STAT_STATE = (if sel = 1 then 2 else 0) ∧ (d.comeUp sel).evt.held = [] ∧
    (d.bankBad = true → (d.comeUp sel).trp.bankEp = true) ∧ (d.bank3 = false → (d.comeUp sel).fg SAF_STAT_BANK3 = 1) := by
  obtain ⟨hsys, hheld, hep, hstate, hflag⟩ := banksUp_spec (d.booted sel)
  rw [booted_sys, booted_bankOk] at hsys
  rw [booted_bankBad] at hep
  rw [booted_bank3] at hflag
  rw [comeUp_eq]
  exact ⟨hsys, hstate.trans (booted_bootState d sel), hheld.trans (booted_held d sel), fun hbad => by rw [hep, hbad, Bool.true_or], hflag⟩

end Dev
end Sys2Proof.Machine
end

section
/-! SUPPORT. The statement about supplies, banks and power-on reset (02, 15). -/
set_option Elab.async false

namespace Sys2Proof.Machine

/-! ### A register file that drops places -/

/-- A place that no entry has reads as unlisted. -/
theorem spGet_of_not_mem {α : Type} {k : Nat} {x : α} {l : List (Nat × α)} (h : ∀ v, (k, v) ∉ l) : spGet k x l = x := by
  induction l with
  | nil => rfl
  | cons e t ih =>
    have hk : k ≠ e.1 := fun hk => h e.2 (by rw [hk]; exact .head _)
    rw [spGet, if_neg hk, ih fun v hv => h v (.tail _ hv), ite_self]

/-- A filter that keeps the entries of a place keeps what it reads as, where that is not what it reads as unlisted. -/
theorem spGet_filter_of_ne {α : Type} {k : Nat} {x : α} {q : Nat × α → Bool} {l : List (Nat × α)} (hq : ∀ v, q (k, v) = true)
    (hx : spGet k x l ≠ x) : spGet k x (l.filter q) = spGet k x l := by
  induction l with
  | nil => rfl
  | cons e t ih =>
    obtain ⟨a, w⟩ := e
    simp only [spGet] at hx ⊢
    split at hx
    · exact absurd rfl hx
    · next hlt =>
      rw [if_neg hlt]
      split at hx
      · next heq =>
        subst heq
        simp [hq, spGet]
      · next hne =>
        rw [if_neg hne, ← ih hx, List.filter_cons]
        split
        · rw [spGet, if_neg hlt, if_neg hne]
        · rfl

namespace Dev

/-! ### What a reset leaves of the register file (R380) -/

/-- Whether a reset keeps an entry depends on its place alone. -/
theorem keptRegs_eq_filter (w : Bool) (l : List (Nat × Nat)) :
    keptRegs w l = l.filter fun c => !(keptRegs w [(c.1, 0)]).isEmpty := by
  unfold keptRegs
  congr 1
  funext c
  simp only [List.filter]
  split <;> simp [*]

theorem fg_devReset {w : Bool} {F : Fld} {n : Nat} (d : Dev) (hs : F.key n ≠ SYS_BOOT_STAT_SECURED.key 0)
    (hx : F.key n ≠ CLK_REF_STAT_XT_CHECK_OFF.key 0) : (d.devReset w).fg F n = spGet (F.key n) (F.rst n) (keptRegs w d.regs) := by
  rw [devReset, fg_fs_ne _ _ _ _ _ _ hx, fg_fs_ne _ _ _ _ _ _ hs]
  split <;> rfl

/-- A field that the reset does not keep has its reset value. -/
theorem fg_devReset_dropped {w : Bool} {F : Fld} {n : Nat} (d : Dev) (hk : keptRegs w [(F.key n, 0)] = [])
    (hs : F.key n ≠ SYS_BOOT_STAT_SECURED.key 0) (hx : F.key n ≠ CLK_REF_STAT_XT_CHECK_OFF.key 0) :
    (d.devReset w).fg F n = F.rst n := by
  rw [fg_devReset d hs hx, keptRegs_eq_filter]
  exact spGet_of_not_mem fun v => by simp [hk]

/-- A field that the reset keeps, and that does not have its reset value, stays. -/
theorem fg_devReset_kept {w : Bool} {F : Fld} {n : Nat} {d : Dev} (hne : d.fg F n ≠ F.rst n) (hk : keptRegs w [(F.key n, 0)] ≠ [])
    (hs : F.key n ≠ SYS_BOOT_STAT_SECURED.key 0) (hx : F.key n ≠ CLK_REF_STAT_XT_CHECK_OFF.key 0) : (d.devReset w).fg F n = d.fg F n := by
  rw [fg_devReset d hs hx, keptRegs_eq_filter]
  exact spGet_filter_of_ne (fun _ => by simp [hk]) hne

/-- The crystal's check is off where no crystal oscillates (R371). -/
theorem fg_devReset_xtCheckOff (w : Bool) (d : Dev) : (d.devReset w).fg CLK_REF_STAT_XT_CHECK_OFF = 1 - d.fg AON_STAT_XT_OK := by
  have hlt : 1 - d.fg AON_STAT_XT_OK < 2 := by omega
  rw [devReset, fg_fs]
  exact Nat.mod_eq_of_lt hlt

/-- Power-on reset is entered: the device is held with what R380 keeps. -/
theorem porEnter_parts (d : Dev) : d.porEnter.sys.phase = .hold ∧ d.porEnter.sys.vddCore = d.sys.vddCore ∧ d.porEnter.mram = d.mram ∧
    d.porEnter.outM = d.outM ∧ d.porEnter.pwm = {} ∧ d.porEnter.cen = { lostAt := some d.free } ∧ d.porEnter.hst = {} ∧
    d.porEnter.saf = { storeA := d.saf.storeA, storeB := d.saf.storeB } := ⟨rfl, rfl, rfl, rfl, rfl, rfl, rfl, rfl⟩

/-- The supply that enters power-on reset still reads invalid in it. -/
theorem fg_porEnter_okFld (d : Dev) (k : Fin 2) (h : d.fg (okFld k) = 0) : d.porEnter.fg (okFld k) = 0 := by
  have hheld : ({ d with sys := { d.sys with phase := .hold } } : Dev).fg (okFld k) = 0 := h
  match k with
  | 0 => exact (fg_devReset_kept (by rw [hheld]; decide) (by decide) (by decide) (by decide)).trans hheld
  | 1 => exact (fg_devReset_kept (by rw [hheld]; decide) (by decide) (by decide) (by decide)).trans hheld

/-! ### What Nightwatch notes of a stop -/

theorem stopStamp_parts (d : Dev) : d.stopStamp.sys = d.sys ∧ d.stopStamp.mram = d.mram ∧ d.stopStamp.outM = d.outM ∧ d.stopStamp.saf = d.saf ∧
    d.stopStamp.fg AON_STAT_XT_OK = d.fg AON_STAT_XT_OK := by
  unfold stopStamp
  split
  · exact ⟨rfl, rfl, rfl, rfl, rfl⟩
  · refine ⟨rfl, rfl, rfl, rfl, ?_⟩
    exact ((fg_fs_ne _ _ _ _ _ _ (by decide)).trans (fg_fs_ne _ _ _ _ _ _ (by decide))).trans (fg_fs_ne _ _ _ _ _ _ (by decide))

theorem bsCoreDown_parts (d : Dev) : d.bsCoreDown.mram = d.mram ∧ d.bsCoreDown.outM = d.outM ∧ d.bsCoreDown.saf = d.saf ∧
    d.bsCoreDown.fg AON_STAT_XT_OK = d.fg AON_STAT_XT_OK := by
  unfold bsCoreDown
  split
  · exact ⟨rfl, rfl, rfl, fg_fs_ne _ _ _ _ _ _ (by decide)⟩
  · exact ⟨rfl, rfl, rfl, rfl⟩

/-! ### The states of the banks (R43 to R46) -/

section
variable {d : Dev} {b st : Nat}

/-- What a change of bank `b` brings about in legs and safety functions (R44, R131). -/
def bankActs (d : Dev) (b : Nat) : Dev :=
  if b ≤ 1 then d.bankTrip.bankBack
  else if b = 3 then (if d.bank3 then (d.fs SAF_STAT_BANK3 0).safEval else d.bank3Lost) else d

theorem bankFld_len (b : Nat) : (bankFld b).len = 2 := by
  unfold bankFld
  split <;> rfl

theorem fg_bankFld_set (hst : st < 4) : (d.fs (bankFld b) st).fg (bankFld b) = st := by
  rw [fg_fs, bankFld_len]
  exact Nat.mod_eq_of_lt hst

/-- In reset the bank's state alone changes. -/
theorem bankSet_reset (hp : d.sys.phase ≠ .run) (h : d.fg (bankFld b) ≠ st) : d.bankSet b st = d.fs (bankFld b) st := by
  rw [bankSet, if_neg h]
  exact if_pos hp

/-- A change that is not the bank's first detection is reported. -/
theorem bankSet_change (hp : d.sys.phase = .run) (hst : st < 4) (h : d.fg (bankFld b) ≠ st)
    (hlater : d.sys.detected.testBit b = true ∨ st = 0 ∨ st = 3) :
    d.bankSet b st = (((d.fs (bankFld b) st).fsBit SYS_IOBANK_BANK_CHG b true).raise 123 b).bankActs b := by
  have hfirst : ((d.fs (bankFld b) st).bankOk b && !(d.fs (bankFld b) st).sys.detected.testBit b) = false := by
    rw [bankOk, fg_bankFld_set hst]
    rcases hlater with hdet | rfl | rfl
    · simp [hdet]
    · rfl
    · rfl
  have hrun : ¬ (d.fs (bankFld b) st).sys.phase ≠ .run := by simp [hp]
  rw [bankSet, if_neg h]
  dsimp only
  rw [if_neg hrun, hfirst]
  rfl

/-- A bank's first detection is not. -/
theorem bankSet_first (hp : d.sys.phase = .run) (hst : st = 1 ∨ st = 2) (h : d.fg (bankFld b) ≠ st)
    (hdet : d.sys.detected.testBit b = false) : d.bankSet b st =
      ({ d.fs (bankFld b) st with sys := { d.sys with detected := setBit d.sys.detected b } } : Dev).bankActs b := by
  have hfirst : ((d.fs (bankFld b) st).bankOk b && !(d.fs (bankFld b) st).sys.detected.testBit b) = true := by
    rw [bankOk, fg_bankFld_set (by omega)]
    rcases hst with rfl | rfl <;> simp [hdet]
  have hrun : ¬ (d.fs (bankFld b) st).sys.phase ≠ .run := by simp [hp]
  rw [bankSet, if_neg h]
  dsimp only
  rw [if_neg hrun, hfirst]
  rfl

end

end Dev

/-! ### The supplies (R36, R375, R401) -/

/-- What stands of the device as `VDD_CORE` has fallen. -/
theorem vddCoreFallDev_spec {d : Dev} (h : d.sys.vddCore = true) : ∃ v : Dev, vddCoreFallDev d = v.porEnter ∧ v.sys.vddCore = false ∧
    v.mram = d.mram ∧ v.outM = d.outM ∧ v.saf = d.saf ∧ v.fg AON_STAT_XT_OK = d.fg AON_STAT_XT_OK := by
  obtain ⟨-, hmram, houtM, hsaf, hxt⟩ := d.stopStamp_parts
  obtain ⟨hmram', houtM', hsaf', hxt'⟩ := d.stopStamp.bsCoreDown_parts
  have hfall : vddCoreFallDev d = ({ d.stopStamp.bsCoreDown with
      sys := { d.stopStamp.bsCoreDown.sys with vddCore := false, coreBack := false }
      aon := { d.stopStamp.bsCoreDown.aon with first := false } } : Dev).porEnter := by simp [vddCoreFallDev, h]
  exact ⟨_, hfall, rfl, hmram'.trans hmram, houtM'.trans houtM, hsaf'.trans hsaf, hxt'.trans hxt⟩

theorem supplyFallDev_spec {d : Dev} {k : Nat} (h : d.fb (Dev.okFld k) = true) : ∃ v : Dev, supplyFallDev k d = v.porEnter ∧
    v.fg (Dev.okFld k) = 0 ∧ v.sys = d.sys ∧ v.mram = d.mram := by
  obtain ⟨hsys, hmram, -⟩ := d.stopStamp_parts
  have hfall : supplyFallDev k d = ((if d.sys.phase = .hold then d else d.stopStamp).fs (Dev.okFld k) 0).porEnter := by
    simp [supplyFallDev, h]
  refine ⟨_, hfall, by simp, ?_, ?_⟩
  · rw [Dev.fs_sys]
    split
    · rfl
    · exact hsys
  · rw [Dev.fs_mram]
    split
    · rfl
    · exact hmram

theorem resetReleaseDev_released {d : Dev} (sel : Nat) (hp : d.sys.phase = .hold) (hok : d.powerOk = true) (ht : d.sys.testEn = false) :
    resetReleaseDev sel d = d.comeUp sel := if_pos ⟨hp, hok, ht⟩

theorem resetReleaseDev_held {d : Dev} (sel : Nat) (h : d.powerOk = false ∨ d.sys.testEn = true) : resetReleaseDev sel d = d :=
  if_neg (by rintro ⟨-, hok, ht⟩; rcases h with h | h <;> simp_all)

theorem Dev.dropSeen_out (d : Dev) (k : Nat) : (d.dropSeen k).out = d.out := by
  unfold Dev.dropSeen
  split <;> rfl

theorem Dev.lose_out (d : Dev) (lo hi : Nat) : (d.lose lo hi).out = .clear lo hi d.free :: d.out := rfl

/-- A drop of `VBAT_AON` is noted. -/
theorem supplyDropDev_vbat {d : Dev} (h : d.fb (Dev.okFld 4) = true) :
    supplyDropDev 4 d = (d.fs (Dev.okFld 4) 0).dropSeen 4 := by
  simp [supplyDropDev, h]

/-- A drop of a supply of the DRAM is noted, and the DRAM's contents are lost. -/
theorem supplyDropDev_dram {d : Dev} {k : Nat} (hk : k = 2 ∨ k = 3) (h : d.fb (Dev.okFld k) = true) :
    supplyDropDev k d = ((d.fs (Dev.okFld k) 0).dropSeen k).lose 0x80000000 0x100000000 := by
  rcases hk with rfl | rfl <;> simp [supplyDropDev, h]

theorem supplyValidDev_monitored {k : Nat} (hk : k < 5) (d : Dev) : supplyValidDev k d = d.fs (Dev.okFld k) 1 := by
  rw [supplyValidDev, if_neg (by omega), if_neg (by omega)]

theorem supplyValidDev_core {d : Dev} (h : d.sys.vddCore = false) :
    supplyValidDev 6 d = ({ d with sys := { d.sys with vddCore := true, coreBack := true } } : Dev).bsCoreUp := by
  simp [supplyValidDev, h]

/-- The banks as the statement numbers them. -/
theorem Dev.bankActs_fin (d : Dev) (b : Fin 6) : d.bankActs b = if b ≤ 1 then d.bankTrip.bankBack
    else if b = 3 then (if d.bank3 then (d.fs SAF_STAT_BANK3 0).safEval else d.bank3Lost) else d := by
  have hone : (b ≤ 1) = (b.val ≤ 1) := rfl
  have hthree : (b = 3) = (b.val = 3) := by simp [Fin.ext_iff]
  simp only [Dev.bankActs, hone, hthree]

/-- The class that a detection gives a bank: bank 3 takes 1.8 V for none (R44). -/
theorem bankValidDetect_class (b : Fin 6) (x : Bool) :
    (if x then 2 else if b = 3 then 3 else 1) = if x then 2 else if b.val = 3 then 3 else 1 := by
  simp [Fin.ext_iff]

theorem bankClass_lt (b : Fin 6) (x : Bool) : (if x then 2 else if b = 3 then 3 else 1) < 4 := by
  cases x
  · simp only [Bool.false_eq_true, if_false]
    split <;> decide
  · rw [if_pos rfl]
    decide

/-- Settles O36: each row carries the device function of its supply or bank. Power-on reset keeps the places of R380 and gives every other
its reset value; what follows the release leaves the SYS block and the held events alone. -/
theorem suppliesAndBanks : Obligations.SuppliesAndBanks := by
  intro s d
  refine ⟨?core, ?fall, ?release, ?held, ?change, ?first, ?inReset, ?drop, ?vdrvLoss, ?valid, ?vdrvReturn, ?coreValid⟩
  case core =>
    intro h
    obtain ⟨v, hv, hcore, hmram, houtM, hsaf, hxt⟩ := vddCoreFallDev_spec h
    obtain ⟨hphase, hcore', hmram', houtM', hpwm, hcen, hhst, hsaf'⟩ := v.porEnter_parts
    refine ⟨v.porEnter, (State.runRst_next _ _).trans (by rw [hv]), hphase, hcore'.trans hcore, hmram'.trans hmram, houtM'.trans houtM, hpwm,
      ⟨_, hcen⟩, hhst, by rw [hsaf', hsaf], ?_, fun F n hk hs hx => Dev.fg_devReset_dropped _ hk hs hx⟩
    exact (Dev.fg_devReset_xtCheckOff _ _).trans (congrArg (1 - ·) hxt)
  case fall =>
    intro k h
    obtain ⟨v, hv, hok, hsys, hmram⟩ := supplyFallDev_spec h
    obtain ⟨hphase, hcore, hmram', -, hpwm, -⟩ := v.porEnter_parts
    exact ⟨v.porEnter, (State.runRst_next _ _).trans (by rw [hv]), hphase, v.fg_porEnter_okFld k hok, hcore.trans (by rw [hsys]), hpwm,
      hmram'.trans hmram⟩
  case release =>
    intro sel hp hok ht
    obtain ⟨hsys, hstate, hheld, hep, hflag⟩ := d.comeUp_spec sel
    have hone : (sel = 1) = (sel.val = 1) := by simp [Fin.ext_iff]
    have htwo : (sel = 2) = (sel.val = 2) := by simp [Fin.ext_iff]
    refine ⟨d.comeUp sel, (State.runRst_next _ _).trans (by rw [resetReleaseDev_released _ hp hok ht]), by rw [hsys], ?_, ?_, by rw [hsys],
      hep, hflag, hheld⟩
    · rw [hsys]
      simp only [hone, htwo]
      rfl
    · rw [hstate]
      simp only [hone]
  case held => exact fun sel hp h => (State.runRst_next _ _).trans (by rw [resetReleaseDev_held _ h])
  case change =>
    intro b x st i e hp hi h hlater he
    have hset : exec i s = .next (s.toAll (d.bankSet b st)) := by
      rcases hi with ⟨rfl, rfl⟩ | ⟨rfl, rfl⟩
      · rw [bankValidDetect_class]
        rfl
      · rfl
    have hst : st < 4 := by
      rcases hi with ⟨-, rfl⟩ | ⟨-, rfl⟩
      · exact bankClass_lt b x
      · cases x <;> decide
    rw [hset, Dev.bankSet_change hp hst h hlater, he, Dev.bankActs_fin]
  case first =>
    intro b x e hp hdet hx h he
    have hclass : (if x then 2 else if b.val = 3 then 3 else 1) = if x then 2 else 1 := by
      cases x
      case true => rfl
      case false => simpa [Fin.ext_iff] using hx
    have hset : exec (.bankValidDetect b x) s = .next (s.toAll (d.bankSet b (if x then 2 else 1))) := by rw [← hclass]; rfl
    have hst : (if x then 2 else 1) = 1 ∨ (if x then 2 else 1) = 2 := by cases x <;> simp
    rw [hset, Dev.bankSet_first hp hst h hdet, he, Dev.bankActs_fin]
  case inReset =>
    intro b x hp h
    rw [bankValidDetect_class] at h ⊢
    exact (State.runRst_next _ _).trans (by rw [bankValidDev, Dev.bankSet_reset hp h])
  case drop =>
    intro k hlo hhi h
    by_cases h4 : k = 4
    · subst h4
      have hdrop : supplyDropDev (4 : Fin 6).val s.dev = (d.fs (Dev.okFld 4) 0).dropSeen 4 := supplyDropDev_vbat h
      exact ⟨(d.fs (Dev.okFld 4) 0).dropSeen 4, (State.runRst_next _ _).trans (by rw [hdrop]), rfl, fun _ => Dev.dropSeen_out _ _, fun hne => absurd rfl hne⟩
    · have hk : k.val = 2 ∨ k.val = 3 := by
        simp only [Fin.ext_iff] at h4
        omega
      exact ⟨((d.fs (Dev.okFld k) 0).dropSeen k).lose 0x80000000 0x100000000,
        (State.runRst_next _ _).trans (by rw [supplyDropDev_dram hk h]), rfl, fun h => absurd h h4,
        fun _ => ⟨_, by rw [Dev.lose_out, Dev.dropSeen_out, Dev.fs_out]⟩⟩
  case vdrvLoss => rfl
  case valid => exact fun k hk => (State.runRst_next _ _).trans (by rw [supplyValidDev_monitored hk])
  case vdrvReturn => rfl
  case coreValid => exact fun h => (State.runRst_next _ _).trans (by rw [← supplyValidDev_core h]; rfl)

end Sys2Proof.Machine
end

section
/-! SUPPORT. Bits of a mask; fields that two devices share; what operations of the other blocks leave alone: the state of CLK, and the
places of the register file that belong to SYS and CLK. -/
set_option Elab.async false

namespace Sys2Proof.Machine

/-! ### Bits of a mask -/

theorem testBit_setBit (m i : Nat) : (setBit m i).testBit i = true := by
  unfold setBit
  split
  · assumption
  · next h => rw [Nat.add_comm, Nat.testBit_two_pow_add_eq, Bool.eq_false_iff.2 h, Bool.not_false]

theorem testBit_setBit_ne {i j : Nat} (hij : i ≠ j) (m : Nat) : (setBit m i).testBit j = m.testBit j := by
  unfold setBit
  split
  · rfl
  · next h =>
    rcases Nat.lt_or_gt_of_ne hij with hlt | hgt
    · obtain ⟨k, rfl⟩ : ∃ k, j = k + 1 + i := ⟨j - (i + 1), by omega⟩
      have heven : m / 2 ^ i % 2 = 0 := by simpa [Nat.testBit_eq_decide_div_mod_eq] using h
      simp only [Nat.testBit_add _ (k + 1) i, Nat.add_div_right _ (Nat.two_pow_pos i), Nat.testBit_add_one]
      congr 1
      omega
    · rw [Nat.add_comm, Nat.testBit_two_pow_add_gt hgt]

theorem testBit_foldl_setBit {l : List Nat} {j : Nat} (hj : j ∉ l) (m : Nat) : (l.foldl setBit m).testBit j = m.testBit j := by
  induction l generalizing m with
  | nil => rfl
  | cons i t ih =>
    rw [List.mem_cons, not_or] at hj
    rw [List.foldl_cons, ih hj.2, testBit_setBit_ne (Ne.symm hj.1)]

namespace Dev

theorem fg_of_regs {d e : Dev} (h : e.regs = d.regs) (F : Fld) (n : Nat) : e.fg F n = d.fg F n := by rw [fg, h, fg]

theorem fb_of_fg {d e : Dev} {F : Fld} {n : Nat} (h : e.fg F n = d.fg F n) : e.fb F n = d.fb F n := congrArg (· != 0) h

theorem fg_withClk (d : Dev) (x : Clk) (F : Fld) (n : Nat) : ({ d with clk := x } : Dev).fg F n = d.fg F n := rfl

/-! ### What stays of SYS and CLK -/

/-- `e` has the state of CLK and every field of SYS and CLK as `d` has them. -/
def LeavesClk (d e : Dev) : Prop :=
  e.clk = d.clk ∧ ∀ (F : Fld) (n : Nat), F.key n < 32 * 0x20020000 → e.fg F n = d.fg F n

namespace LeavesClk

variable {d e : Dev}

theorem refl : LeavesClk d d := ⟨rfl, fun _ _ _ => rfl⟩

theorem clk_eq (h : LeavesClk d e) : e.clk = d.clk := h.1

theorem fg_eq {F : Fld} {n : Nat} (h : LeavesClk d e) (hF : F.key n < 32 * 0x20020000 := by decide) : e.fg F n = d.fg F n := h.2 F n hF

theorem fb_eq {F : Fld} {n : Nat} (h : LeavesClk d e) (hF : F.key n < 32 * 0x20020000 := by decide) : e.fb F n = d.fb F n :=
  fb_of_fg (h.fg_eq hF)

/-! ### How changes follow one another -/

theorem ite {c : Prop} [Decidable c] {a b : Dev} (ha : LeavesClk d a) (hb : LeavesClk d b) : LeavesClk d (if c then a else b) := by
  split
  · exact ha
  · exact hb

theorem foldl {α : Type} {f : Dev → α → Dev} {l : List α} (h : LeavesClk d e) (hf : ∀ e x, LeavesClk d e → LeavesClk d (f e x)) :
    LeavesClk d (l.foldl f e) := by
  induction l generalizing e with
  | nil => exact h
  | cons x t ih => exact ih (hf e x h)

/-! ### The register file and events -/

theorem fs {F : Fld} {v n : Nat} (h : LeavesClk d e) (hF : 0x20020000 ≤ F.base := by decide) : LeavesClk d (e.fs F v n) := by
  obtain ⟨hclk, hregs⟩ := h
  refine ⟨hclk, fun G m hG => (fg_fs_ne _ _ _ _ _ _ ?_).trans (hregs G m hG)⟩
  have hbase : 32 * 0x20020000 ≤ F.key n := by simp only [Fld.key]; omega
  omega

theorem fsBit {F : Fld} {i n : Nat} {b : Bool} (h : LeavesClk d e) (hF : 0x20020000 ≤ F.base := by decide) :
    LeavesClk d (e.fsBit F i b n) := h.fs hF

theorem fcnt {F V : Fld} {n : Nat} (h : LeavesClk d e) (hF : 0x20020000 ≤ F.base := by decide) (hV : 0x20020000 ≤ V.base := by decide) :
    LeavesClk d (e.fcnt F V n) := by
  unfold Dev.fcnt
  exact .ite (h.fs hF) ((h.fs hF).fs hV)

theorem raise {ev x : Nat} (h : LeavesClk d e) : LeavesClk d (e.raise ev x) := h

theorem complete {p : Path} {tag : Nat} {st : St} {b : List Byte} (h : LeavesClk d e) : LeavesClk d (e.complete p tag st b) := by
  unfold Dev.complete Dev.dropCmd Dev.showOutst
  exact .ite (.fs h) h

/-! ### Legs (05) -/

theorem pwm {x} (h : LeavesClk d e) : LeavesClk d { e with pwm := x } := h

theorem updLeg {n : Nat} {f : Leg → Leg} (h : LeavesClk d e) : LeavesClk d (e.updLeg n f) := h

theorem fallH {n sub : Nat} (h : LeavesClk d e) : LeavesClk d (e.fallH n sub) := .ite h.updLeg h

theorem fallL {n sub : Nat} (h : LeavesClk d e) : LeavesClk d (e.fallL n sub) := .ite h.updLeg h

theorem riseH {n sub : Nat} (h : LeavesClk d e) : LeavesClk d (e.riseH n sub) := h

theorem riseL {n sub : Nat} (h : LeavesClk d e) : LeavesClk d (e.riseL n sub) := h

theorem turnOnH {n sub : Nat} (h : LeavesClk d e) : LeavesClk d (e.turnOnH n sub) := .ite h.updLeg (.ite h.riseH h.updLeg)

theorem turnOnL {n sub : Nat} (h : LeavesClk d e) : LeavesClk d (e.turnOnL n sub) := .ite h.updLeg (.ite h.riseL h.updLeg)

theorem interlock {n : Nat} (h : LeavesClk d e) : LeavesClk d (e.interlock n) := .ite (.updLeg (.ite h (.raise h.fcnt))) h.updLeg

theorem legDrive {n sub : Nat} (h : LeavesClk d e) : LeavesClk d (e.legDrive n sub) := by
  have hoff : LeavesClk d ((e.interlock n).updLeg n fun x => { x with onH := false, onL := false }) := h.interlock.updLeg
  unfold Dev.legDrive
  dsimp only
  refine .ite hoff ?_
  split
  · exact .ite (.fallL (.ite hoff.fallH hoff)) (.ite hoff.fallH hoff)
  · exact .turnOnL (.turnOnH (.ite (.ite h.interlock h.interlock.fallH) (.fallL (.ite h.interlock h.interlock.fallH))))

theorem imposeSafe {n : Nat} (h : LeavesClk d e) : LeavesClk d (e.imposeSafe n) := by
  have hoff : LeavesClk d ((e.updLeg n fun x => { x with onH := false, onL := false }).fs PWM_LEG_n_CARRY_CARRY 0 n) := .fs h.updLeg
  unfold Dev.imposeSafe
  dsimp only
  split
  · exact hoff.fallH
  · exact hoff.fallL
  · exact .fallL hoff.fallH

theorem allOff {n : Nat} (h : LeavesClk d e) : LeavesClk d (e.allOff n) := .fallL (.fallH (.fs h.updLeg))

theorem legHalt {n : Nat} (h : LeavesClk d e) : LeavesClk d (e.legHalt n) := .updLeg (.fs (.fs (.fs h)))

/-! ### Carrier groups (05) -/

theorem updCg {g : Nat} {f : CGrp → CGrp} (h : LeavesClk d e) : LeavesClk d (e.updCg g f) := h

theorem markOn {g count l : Nat} (h : LeavesClk d e) : LeavesClk d (e.markOn g count l) := .ite h h

theorem sendMark {g : Nat} (h : LeavesClk d e) : LeavesClk d (e.sendMark g) := .ite (.foldl h fun _ _ => .markOn) h

theorem cgRoll {g : Nat} (h : LeavesClk d e) : LeavesClk d (e.cgRoll g) := .ite (.sendMark h.updCg) h

theorem cgRollAll (h : LeavesClk d e) : LeavesClk d e.cgRollAll := .foldl h fun _ _ => .cgRoll

/-! ### The grid functions and the groups they name (07, 08) -/

theorem dropCand {g k s : Nat} (h : LeavesClk d e) : LeavesClk d (e.dropCand g k s) :=
  (h.fsBit : LeavesClk d ((e.setCand g k none)))

theorem setMembers {g ma mb : Nat} (h : LeavesClk d e) : LeavesClk d (e.setMembers g ma mb) := .foldl (.fs (.fs h)) fun _ _ => .dropCand

theorem setValid {g mask : Nat} (h : LeavesClk d e) : LeavesClk d (e.setValid g mask) := .ite h.setMembers h

theorem grdMasks {island : Bool} (h : LeavesClk d e) : LeavesClk d (e.grdMasks island) := .foldl h fun _ _ h => .ite h.setValid h

theorem grdState {st : Nat} (h : LeavesClk d e) : LeavesClk d (e.grdState st) := by
  unfold Dev.grdState
  exact .ite h (h.fs : LeavesClk d (e.fs GRD_STAT_STATE st))

theorem grdLegCheck (h : LeavesClk d e) : LeavesClk d e.grdLegCheck := .ite (.grdState (.ite h.grdMasks h)) h

/-! ### Trips (06) -/

theorem updTLeg {n : Nat} {f : TLeg → TLeg} (h : LeavesClk d e) : LeavesClk d (e.updTLeg n f) := h

theorem trp {x} (h : LeavesClk d e) : LeavesClk d { e with trp := x } := h

theorem tripSafe {n : Nat} (h : LeavesClk d e) : LeavesClk d (e.tripSafe n) := .imposeSafe h.updTLeg

theorem tripOff {n : Nat} (h : LeavesClk d e) : LeavesClk d (e.tripOff n) := .allOff h.updTLeg

theorem releaseLeg {n : Nat} (h : LeavesClk d e) : LeavesClk d (e.releaseLeg n) :=
  .foldl (.raise (.updTLeg h.fs)) fun _ _ h => .ite h.fsBit h

theorem releaseNow {n : Nat} (h : LeavesClk d e) : LeavesClk d (e.releaseNow n) := .ite h (.ite (.legDrive h.releaseLeg) h)

theorem reactEnd {n : Nat} (h : LeavesClk d e) : LeavesClk d (e.reactEnd n) :=
  .releaseNow (.foldl (.trp h.tripSafe) fun _ _ h => .foldl h fun _ _ => .tripOff)

/-! ### Sensing, Cooper's lanes, Tallyman, the auxiliary drivers (04, 07, 10, 14) -/

theorem sdckShift (h : LeavesClk d e) : LeavesClk d e.sdckShift := h

theorem cfPlace {n : Nat} (h : LeavesClk d e) : LeavesClk d (e.cfPlace n) := h

theorem cfRestart {n : Nat} (h : LeavesClk d e) : LeavesClk d (e.cfRestart n) := h

theorem sdckStart {k : Nat} (h : LeavesClk d e) : LeavesClk d (e.sdckStart k) :=
  .foldl (h.fs : LeavesClk d (e.fs SNS_SDCK_k_RUNNING 1 k)) fun _ _ => .cfPlace

theorem rotTry (h : LeavesClk d e) : LeavesClk d e.rotTry := by
  unfold Dev.rotTry Dev.rotStart
  exact .ite (.fs (.fs (.fs (.fs h)))) h

theorem laneShow (h : LeavesClk d e) : LeavesClk d e.laneShow := by
  unfold Dev.laneShow
  refine .foldl h fun e l h => ?_
  dsimp only
  split
  · exact h
  · exact (h.fs : LeavesClk d (e.fs CEN_LANE_l_STAT_LOAD _ l))

theorem talFlag {i : Nat} (h : LeavesClk d e) : LeavesClk d (e.talFlag i) := .ite h.fsBit h

theorem talFallback (h : LeavesClk d e) : LeavesClk d e.talFallback := h.talFlag

theorem talTimeStep (h : LeavesClk d e) : LeavesClk d e.talTimeStep := h.talFlag

theorem buckLeave (h : LeavesClk d e) : LeavesClk d e.buckLeave := by
  have hlow : LeavesClk d (if e.fb AUX_BK_STAT_PGOOD then ((e.fs AUX_BK_STAT_PGOOD 0).fs AUX_BK_STAT_PG_LOST_SEEN 1).raise 118 else e) :=
    .ite (.raise (.fs h.fs)) h
  unfold Dev.buckLeave
  dsimp only
  split
  · exact .complete (.fs (.fs hlow.fs))
  · exact .fs (.fs hlow.fs)

theorem pumpOff (h : LeavesClk d e) : LeavesClk d e.pumpOff := h

theorem auxClockStop (h : LeavesClk d e) : LeavesClk d e.auxClockStop := by
  have hbuck : LeavesClk d (if e.fg AUX_BK_STAT_STATE = 0 ∨ e.fg AUX_BK_STAT_STATE = 5 then e else e.buckLeave.fs AUX_BK_STAT_STATE 4) :=
    .ite h h.buckLeave.fs
  unfold Dev.auxClockStop
  exact .ite hbuck hbuck.pumpOff.fs

end LeavesClk
end Dev
end Sys2Proof.Machine
end

section
/-! SUPPORT. What a capture shows (03), and the statement about a step of the machine: how an advance of the clocks moves the timebase. -/
set_option Elab.async false

namespace Sys2Proof.Machine
namespace Dev

/-! ### Captures (R67) -/

theorem capture_clk (d : Dev) : d.capture.clk = { d.clk with snapUnread := true } := by
  unfold capture
  split <;> rfl

theorem capture_deg (d : Dev) : d.capture.deg = d.deg := by
  unfold capture
  split <;> simp (disch := decide) only [deg, fb, finc, fg_withClk, fg_fs_ne]

theorem foldl_capture_timebase (l : List Nat) (d : Dev) :
    (l.foldl (fun d _ => d.capture) d).clk.ticks = d.clk.ticks ∧ (l.foldl (fun d _ => d.capture) d).deg = d.deg := by
  induction l generalizing d with
  | nil => exact ⟨rfl, rfl⟩
  | cons x t ih =>
    obtain ⟨hticks, hdeg⟩ := ih d.capture
    exact ⟨hticks.trans (by rw [capture_clk]), hdeg.trans d.capture_deg⟩

theorem swCaptures_timebase (d : Dev) : d.swCaptures.clk.ticks = d.clk.ticks ∧ d.swCaptures.deg = d.deg := foldl_capture_timebase _ _

/-! ### An advance of the clocks (R61) -/

namespace LeavesClk

variable {d e : Dev}

theorem aon {x} (h : LeavesClk d e) : LeavesClk d { e with aon := x } := h

theorem tickRtc {n : Nat} (h : LeavesClk d e) : LeavesClk d (e.tickRtc n) := by
  unfold Dev.tickRtc Dev.rtcAdd
  exact .ite h (.ite h.aon (.ite h.aon (.ite h.aon (.aon h.aon))))

theorem laneLoads (h : LeavesClk d e) : LeavesClk d e.laneLoads := h

theorem buckPeriod (h : LeavesClk d e) : LeavesClk d e.buckPeriod := by
  unfold Dev.buckPeriod
  exact .ite h h

theorem nqlDrain (h : LeavesClk d e) : LeavesClk d e.nqlDrain := by
  unfold Dev.nqlDrain
  split
  · exact h
  · exact .ite (.ite h h) h

end LeavesClk

theorem talTimeStep_clk (d : Dev) : d.talTimeStep.clk = d.clk := (LeavesClk.talTimeStep .refl).clk_eq

/-- A step of PTP time adds its nanoseconds, and notes armed triggers that it carries past, of which none is due before (R64, R68). -/
theorem ptpApply_step {d : Dev} {ns : Int} (h : d.clk.ofs = some ns) : ∃ l : List Nat, (∀ n ∈ l, 0 < ns ∧ d.ttrigDue n = false) ∧
    d.ptpApply.clk = { (({ d with clk := { d.clk with ofs := none } } : Dev).ptpAdd (ns * 2 ^ 28)).clk with stepped := l.foldl setBit 0 } := by
  simp only [ptpApply, h, talTimeStep_clk]
  exact ⟨_, fun n hn => by simp_all, rfl⟩

theorem ptpApply_ticks (d : Dev) : d.ptpApply.clk.ticks = d.clk.ticks := by
  cases h : d.clk.ofs with
  | none => simp only [ptpApply, h]
  | some ns =>
    obtain ⟨l, -, hclk⟩ := ptpApply_step h
    rw [hclk]
    rfl

/-- The timebase moves by one tick, or by eight where it is degraded. -/
theorem idle_ticks {d : Dev} (up : d.sys.phase = .run) : d.idle.clk.ticks = d.clk.ticks + d.advance := by
  obtain ⟨hticks, hdeg⟩ := d.swCaptures_timebase
  have howed : LeavesClk d.swCaptures d.swCaptures.laneShow.cgRollAll := .cgRollAll (.laneShow .refl)
  obtain ⟨f, hf⟩ : ∃ f, f = d.swCaptures.laneShow.cgRollAll := ⟨_, rfl⟩
  have hadvance : f.advance = d.advance := by
    rw [advance, deg, hf, howed.fb_eq, ← deg, hdeg, advance]
  have hbegun : LeavesClk f.tickClock.ptpApply d.idle := by
    rw [idle, up, ← hf]
    exact .nqlDrain (.buckPeriod (.ite (.tickRtc .refl) (.laneLoads (.tickRtc .refl))))
  calc d.idle.clk.ticks = f.tickClock.ptpApply.clk.ticks := by rw [hbegun.clk_eq]
    _ = f.clk.ticks + f.advance := ptpApply_ticks _
    _ = d.clk.ticks + d.advance := by rw [hadvance, hf, howed.clk_eq, hticks]

end Dev

/-- Settles O56: a step runs the front command, or the advance of the clocks, in which nothing but the tick itself moves the timebase. -/
theorem stepRunsFront : Obligations.StepRunsFront := by
  refine ⟨fun s c q => step_of_front, fun s h => step_of_empty h, fun s h up => ?_⟩
  exact ⟨_, step_of_empty h, h, Dev.idle_ticks up⟩

end Sys2Proof.Machine
end

section
/-! SUPPORT. The statement about Tallyman's missing sets, one-second strobes and saves (03, 10). -/
set_option Elab.async false

namespace Sys2Proof.Machine
namespace Dev

/-! ### Missing sets (R230) -/

/-- A counter without a flag stops at its largest value; a register file with more in its place keeps that. -/
theorem fg_fsat (d : Dev) (F : Fld) (n : Nat) :
    (d.fsat F n).fg F n = min (d.fg F n + 1) (max (d.fg F n) (2 ^ F.len - 1)) := by
  unfold fsat
  split
  · rw [fg_fs, Nat.mod_eq_of_lt ‹_›]
    omega
  · omega

theorem fsat_talRuns (d : Dev) : (d.fsat TAL_INT_CUR_MISS).talRuns = d.talRuns := by
  unfold fsat
  split
  · simp (disch := decide) only [talRuns, notFollower, fb, fg_fs_ne]
  · rfl

/-- A bit that is set in a field reads as set, where it lies within the field's width. -/
theorem fbit_fsBit {F : Fld} {i : Nat} (hi : i < F.len) (d : Dev) (n : Nat) : (d.fsBit F i true n).fbit F i n = true := by
  simp [fbit, fsBit, putBit, Nat.testBit_mod_two_pow, hi, testBit_setBit]

theorem talFlag_running {d : Dev} (h : d.talRuns = true) (i : Nat) : d.talFlag i = d.fsBit TAL_INT_CUR_FLAGS i true := if_pos h

/-- Of the registers a mark changes the interval's flags alone; which sets are outstanding, and the totals, stay. -/
theorem talMark_parts (d : Dev) (i : Nat) : (d.talMark i).regs = (d.talFlag i).regs ∧ (d.talMark i).tal.expect = d.tal.expect ∧
    (d.talMark i).tal.got = d.tal.got ∧ (d.talMark i).tal.tot = d.tal.tot := by
  have hflag : (d.talFlag i).tal = d.tal := by
    unfold talFlag
    split <;> rfl
  unfold talMark
  split
  · exact ⟨rfl, by rw [hflag], by rw [hflag], by rw [hflag]⟩
  · simp only [raise_regs, raise_tal, hflag, and_self]

/-- The oldest outstanding set, once missing, is no longer outstanding, and the next one is. -/
theorem talDone_oldest {d : Dev} (h : d.tal.got = []) : (d.talDone d.tal.expect).tal.expect = d.tal.expect + 1 := by
  simp [talDone, h, talSettle]

theorem talMissing_oldest {d : Dev} (hr : d.talRuns = true) (hg : d.tal.got = []) : (d.talMissing d.tal.expect).tal.expect = d.tal.expect + 1 ∧
    (d.talMissing d.tal.expect).fbit TAL_INT_CUR_FLAGS 1 = true ∧ (d.talMissing d.tal.expect).tal.tot = d.tal.tot ∧
    (d.talMissing d.tal.expect).fg TAL_INT_CUR_MISS =
      min (d.fg TAL_INT_CUR_MISS + 1) (max (d.fg TAL_INT_CUR_MISS) (2 ^ TAL_INT_CUR_MISS.len - 1)) := by
  have htal : (d.fsat TAL_INT_CUR_MISS).tal = d.tal := by
    unfold fsat
    split <;> rfl
  obtain ⟨hregs, hexpect, hgot, htot⟩ := (d.fsat TAL_INT_CUR_MISS).talMark_parts 1
  rw [talFlag_running (d.fsat_talRuns.trans hr)] at hregs
  rw [htal] at hexpect hgot htot
  have hfg : ∀ F : Fld, (d.talMissing d.tal.expect).fg F = ((d.fsat TAL_INT_CUR_MISS).fsBit TAL_INT_CUR_FLAGS 1 true).fg F :=
    fun F => fg_of_regs hregs F 0
  refine ⟨?_, ?_, htot, ?_⟩
  · rw [talMissing, ← hexpect]
    exact talDone_oldest (hgot.trans hg)
  · rw [fbit, hfg]
    exact fbit_fsBit (by decide) _ _
  · rw [hfg, fsBit, fg_fs_ne _ _ _ _ _ _ (by decide), fg_fsat]

/-! ### Power failure (R237) -/

/-- The device as `PFAIL_SENSE` has fallen, before the flush. -/
def powerFails (d : Dev) : Dev := { d.fs TAL_STAT_PF_ACTIVE 1 with tal := { d.tal with flushed := false, flushAt := d.clk.ticks } }

theorem powerFails_talRuns (d : Dev) : d.powerFails.talRuns = d.talRuns := by
  have hfg : ∀ F : Fld, F.key 0 ≠ TAL_STAT_PF_ACTIVE.key 0 → d.powerFails.fg F = d.fg F := fun F hF => fg_fs_ne d _ F _ _ _ hF
  simp (disch := decide) only [talRuns, notFollower, fb, hfg]

theorem talFlush_idle {d : Dev} (h : d.talRuns = false) (ok : Bool) : d.talFlush ok = d := by simp [talFlush, h]

/-- The save of a flush, with the time of it. -/
def flushSaved (d : Dev) (ok : Bool) : Dev :=
  { d.talSave 1 ok with tal := { (d.talSave 1 ok).tal with flushed := true, flushAt := (d.talSave 1 ok).clk.ticks } }

/-- The first flush of a power failure is logged. -/
theorem talFlush_first {d : Dev} (hr : d.talRuns = true) (hf : d.tal.flushed = false) (ok : Bool) :
    d.talFlush ok = ((d.flushSaved ok).talLog 1 0 (d.flushSaved ok).tal.untilRtc (d.flushSaved ok).aon.rtc 0 0).raise 73 := by
  simp only [talFlush, hr, hf, flushSaved, Bool.not_true, Bool.false_eq_true, if_false, Bool.not_false, if_true]

theorem talFlush_again {d : Dev} (hr : d.talRuns = true) (hf : d.tal.flushed = true) (ok : Bool) : d.talFlush ok = d.flushSaved ok := by
  simp only [talFlush, hr, hf, flushSaved, Bool.not_true, Bool.false_eq_true, if_false]

end Dev

theorem missingSetDev_due {d : Dev} (hr : d.talRuns = true) (ht : 100000 * d.tal.expect + 550000 ≤ d.clk.ticks) :
    missingSetDev d = d.talMissing d.tal.expect := if_neg (by simp [hr, Nat.not_lt.2 ht])

theorem pfFlushDev_due {d : Dev} (hp : d.fb TAL_STAT_PF_ACTIVE = true) (ht : d.tal.flushAt + Dev.msTicks ≤ d.clk.ticks) (ok : Bool) :
    pfFlushDev ok d = d.talFlush ok := if_pos (by simp [hp, ht])

theorem pfailFallDev_eq {d : Dev} (h : d.fb TAL_STAT_PF_ACTIVE = false) (ok : Bool) : pfailFallDev ok d = d.powerFails.talFlush ok :=
  if_neg (by simp [h])

/-! ### One-second strobes (R65, R231) -/

/-- Without PTP time the strobe falls a second after the last one; where Tallyman does not meter it is noted alone. -/
theorem strobeDev_idle {d : Dev} (hv : d.fb CLK_PTP_CTRL_TIME_VALID = false) (ht : d.clk.lastStrobe + 800000000 ≤ d.clk.ticks)
    (hr : d.talRuns = false) (ok : Bool) : strobeDev ok d = { d with clk := { d.clk with lastStrobe := d.clk.ticks } } := by
  have hr' : ({ d with clk := { d.clk with lastStrobe := d.clk.ticks } } : Dev).talRuns = false := hr
  simp [strobeDev, hv, ht, hr']

/-- With PTP time it falls with the carry into seconds: Tallyman counts it, shows the second, closes the interval at its boundary, and saves. -/
theorem strobeDev_meters {d e : Dev} (hv : d.fb CLK_PTP_CTRL_TIME_VALID = true) (hc : d.justCarried = true) (hr : d.talRuns = true)
    (hs : d.tal.startTb ≠ d.clk.ticks)
    (he : { d with clk := { d.clk with lastStrobe := d.clk.ticks }, tal := { d.tal with strobes := d.tal.strobes + 1 } } = e) (ok : Bool) :
    strobeDev ok d = (if e.talShow.atBoundary e.talShow.tal.strobes then e.talShow.talClose.talOpen false else e.talShow).talSave 0 ok := by
  subst he
  have hr' : ({ d with clk := { d.clk with lastStrobe := d.clk.ticks } } : Dev).talRuns = true := hr
  have hv' : ({ d with clk := { d.clk with lastStrobe := d.clk.ticks } } : Dev).fb CLK_PTP_CTRL_TIME_VALID = true := hv
  simp [strobeDev, hv, hc, hr', hv', hs]

/-- Settles O28: a set that is overdue is counted and marked in the interval and the next one is awaited; a strobe and a flush of a power
failure are the saves that their device functions make, and act on Tallyman only where it meters. -/
theorem tallymanSaves : Obligations.TallymanSaves := by
  intro s okS up d
  refine ⟨?missing, ?strobeIdle, ?strobe, ?failIdle, ?fail, ?flush, ?rise⟩
  case missing =>
    intro hr ht hg
    refine ⟨_, (State.run_up up _).trans (by rw [missingSetDev_due hr ht]), ?_⟩
    simp only [State.to_dev, Dev.fbit, Dev.fg_land, Dev.land_tal]
    exact Dev.talMissing_oldest hr hg
  case strobeIdle => exact fun hv ht hr => (State.runTal_up up _).trans (by rw [strobeDev_idle hv ht hr])
  case strobe =>
    intro e f hv hc hr hs he hf
    exact (State.runTal_up up _).trans (by rw [strobeDev_meters hv hc hr hs he, hf])
  case failIdle =>
    intro hp hr
    refine (State.runTal_up up _).trans ?_
    rw [pfailFallDev_eq hp, Dev.talFlush_idle (d.powerFails_talRuns.trans hr), Dev.powerFails]
  case fail =>
    intro e f hp hr he hf
    subst he hf
    exact (State.runTal_up up _).trans
      (by rw [pfailFallDev_eq hp, Dev.talFlush_first (d.powerFails_talRuns.trans hr) rfl, Dev.flushSaved, Dev.powerFails])
  case flush =>
    intro e hp ht hr hfl he
    subst he
    exact (State.runTal_up up _).trans (by rw [pfFlushDev_due hp ht, Dev.talFlush_again hr hfl, Dev.flushSaved])
  case rise => exact State.run_up up _

end Sys2Proof.Machine
end

section
/-! SUPPORT. Acquisition, fallback and loss of lock (03): what each leaves in the fields of CLK. -/
set_option Elab.async false

namespace Sys2Proof.Machine
namespace Dev

/-! ### Acquisition (R53) -/

/-- `e` is `d` with a step of an acquisition: of CLK, its state of the acquisition, `ACQ` and `NO_BAND`; events may have been added. -/
def Searches (d e : Dev) : Prop :=
  (∃ a, e.clk = { d.clk with acq := a }) ∧
  (∀ (F : Fld) (n : Nat), F.key n ≠ CLK_PLL_STAT_ACQ.key 0 → F.key n ≠ CLK_PLL_STAT_NO_BAND.key 0 → e.fg F n = d.fg F n) ∧
  ∀ x ∈ d.evt.inflight, x ∈ e.evt.inflight

namespace Searches

variable {d e : Dev}

theorem refl : Searches d d := ⟨⟨_, rfl⟩, fun _ _ _ _ => rfl, fun _ h => h⟩

theorem fg_eq {F : Fld} {n : Nat} (h : Searches d e) (hA : F.key n ≠ CLK_PLL_STAT_ACQ.key 0 := by decide)
    (hN : F.key n ≠ CLK_PLL_STAT_NO_BAND.key 0 := by decide) : e.fg F n = d.fg F n := h.2.1 F n hA hN

theorem ite {c : Prop} [Decidable c] {a b : Dev} (ha : Searches d a) (hb : Searches d b) : Searches d (if c then a else b) := by
  split
  · exact ha
  · exact hb

theorem setAcq {a : Option Acq} (h : Searches d e) : Searches d (e.setAcq a) := by
  obtain ⟨⟨b, hclk⟩, hfg, hevt⟩ := h
  exact ⟨⟨a, by rw [Dev.setAcq, hclk]⟩, hfg, hevt⟩

theorem fsAcq {v : Nat} (h : Searches d e) : Searches d (e.fs CLK_PLL_STAT_ACQ v) := by
  obtain ⟨hclk, hfg, hevt⟩ := h
  exact ⟨hclk, fun F n hA hN => (fg_fs_ne _ _ _ _ _ _ hA).trans (hfg F n hA hN), hevt⟩

theorem fsNoBand {v : Nat} (h : Searches d e) : Searches d (e.fs CLK_PLL_STAT_NO_BAND v) := by
  obtain ⟨hclk, hfg, hevt⟩ := h
  exact ⟨hclk, fun F n hA hN => (fg_fs_ne _ _ _ _ _ _ hN).trans (hfg F n hA hN), hevt⟩

theorem raise {ev x : Nat} (h : Searches d e) : Searches d (e.raise ev x) := by
  obtain ⟨hclk, hfg, hevt⟩ := h
  exact ⟨hclk, hfg, fun y hy => List.mem_append_left _ (hevt y hy)⟩

theorem acqFail (h : Searches d e) : Searches d e.acqFail := .raise (.fsNoBand (.fsAcq (.setAcq h)))

theorem acqChoose {a : Acq} (h : Searches d e) : Searches d (e.acqChoose a) := by
  unfold Dev.acqChoose
  split
  · exact .setAcq h
  · exact .acqFail h

theorem acqScan {a : Acq} {b : Nat} (h : Searches d e) : Searches d (e.acqScan a b) := by
  unfold Dev.acqScan
  split
  · exact .setAcq h
  · exact .acqChoose h

theorem acqStart {byEn : Bool} (h : Searches d e) : Searches d (e.acqStart byEn) := .ite (.setAcq (.fsAcq h)) (.acqScan (.fsAcq h))

theorem acquire {byEn : Bool} (h : Searches d e) : Searches d (e.acquire byEn) := .ite (.acqStart h) (.setAcq h)

end Searches

/-! ### Fallback (R56, R57) -/

/-- The hold sets `PWM_HOLD`; all else that it does lies outside CLK. -/
theorem holdAll_leavesClk (d : Dev) : LeavesClk (d.fs CLK_PLL_STAT_PWM_HOLD 1) d.holdAll := by
  have hhalt : LeavesClk (d.fs CLK_PLL_STAT_PWM_HOLD 1)
      ((List.range 24).foldl (fun d n => (d.legHalt n).imposeSafe n) (d.fs CLK_PLL_STAT_PWM_HOLD 1)) :=
    .foldl .refl fun _ _ h => .imposeSafe (.legHalt h)
  have hgroups : ∀ e : Dev, LeavesClk (d.fs CLK_PLL_STAT_PWM_HOLD 1) e → LeavesClk (d.fs CLK_PLL_STAT_PWM_HOLD 1)
      ((List.range 8).foldl (fun d g => (d.fs PWM_CG_g_CFG_RUN 0 g).fs PWM_CG_g_CNT_WAIT 0 g) e) := fun e h => .foldl h fun _ _ h => .fs (.fs h)
  have hhold : LeavesClk (d.fs CLK_PLL_STAT_PWM_HOLD 1) d.pwmHold := by
    unfold pwmHold
    dsimp only
    exact .grdLegCheck (.pwm (hgroups _ hhalt))
  exact .foldl (.foldl hhold fun _ _ h => .ite (.reactEnd h) h) fun _ _ => .releaseNow

/-- The device with the clocks held over: the modulator clocks stop (R50). -/
def holdOver (d : Dev) : Dev := (List.range 4).foldl (fun d k => d.fs SNS_SDCK_k_RUNNING 0 k) (d.fs CLK_PLL_STAT_HOLDOVER 1)

theorem holdOver_leavesClk (d : Dev) : LeavesClk (d.fs CLK_PLL_STAT_HOLDOVER 1) d.holdOver := .foldl .refl fun _ _ => .fs

/-- The device in fallback with every leg held, before the flags of CLK say so. -/
def legsHeld (d : Dev) : Dev := (if d.fb CLK_PLL_STAT_FALLBACK then d else d.sdckShift).holdAll.talFallback

/-- The flags that show fallback. -/
def showFallback (d : Dev) : Dev :=
  (((((d.fs CLK_PLL_STAT_FALLBACK 1).fs SNS_STAT_CLK_FALLBACK 1).fs CLK_PLL_STAT_LOCKED 0).fs CLK_PLL_STAT_ACQ 0).fs
    CLK_TB_HI_DEGRADED 1).setAcq none

theorem showFallback_clk (d : Dev) : d.showFallback.clk = { d.clk with acq := none } := rfl

theorem toFallback_eq {d e : Dev} (he : d.legsHeld.showFallback = e) :
    d.toFallback = (if e.clk.refPresent then e else e.holdOver).auxClockStop := by
  simp only [legsHeld, showFallback] at he
  simp only [toFallback, he]
  rfl

/-- The device in fallback differs from the one whose flags show it outside CLK alone, but for `HOLDOVER`. -/
theorem toFallback_leavesClk {d e : Dev} (he : d.legsHeld.showFallback = e) :
    LeavesClk (if e.clk.refPresent then e else e.fs CLK_PLL_STAT_HOLDOVER 1) d.toFallback := by
  rw [toFallback_eq he]
  refine .auxClockStop ?_
  split
  · exact .refl
  · exact holdOver_leavesClk _

/-- With every leg held, `PWM_HOLD` is all that has changed of CLK. -/
theorem legsHeld_leavesClk (d : Dev) : ∃ a, LeavesClk d a ∧ LeavesClk (a.fs CLK_PLL_STAT_PWM_HOLD 1) d.legsHeld :=
  ⟨if d.fb CLK_PLL_STAT_FALLBACK then d else d.sdckShift, .ite .refl (.sdckShift .refl), .talFallback (holdAll_leavesClk _)⟩

theorem toFallback_clk (d : Dev) : d.toFallback.clk = { d.clk with acq := none } := by
  obtain ⟨a, ha, hheld⟩ := d.legsHeld_leavesClk
  have hshown : d.legsHeld.showFallback.clk = { d.clk with acq := none } := by rw [showFallback_clk, hheld.clk_eq, fs_clk, ha.clk_eq]
  rw [(toFallback_leavesClk rfl).clk_eq, ← hshown]
  split <;> rfl

theorem toFallback_fg (d : Dev) {F : Fld} {n : Nat} (hF : F.key n < 32 * 0x20020000 := by decide)
    (hO : F.key n ≠ CLK_PLL_STAT_HOLDOVER.key 0 := by decide) : d.toFallback.fg F n = d.legsHeld.showFallback.fg F n := by
  rw [(toFallback_leavesClk rfl).fg_eq hF]
  split
  · rfl
  · exact fg_fs_ne _ _ _ _ _ _ hO

/-- In fallback the legs are held, the clock is not locked and the timebase is degraded. -/
theorem toFallback_flags (d : Dev) : d.toFallback.fg CLK_PLL_STAT_PWM_HOLD = 1 ∧ d.toFallback.fg CLK_PLL_STAT_FALLBACK = 1 ∧
    d.toFallback.fg CLK_PLL_STAT_LOCKED = 0 ∧ d.toFallback.fg CLK_TB_HI_DEGRADED = 1 := by
  obtain ⟨a, -, hheld⟩ := d.legsHeld_leavesClk
  have hhold : d.legsHeld.fg CLK_PLL_STAT_PWM_HOLD = 1 := hheld.fg_eq.trans (fg_fs _ _ _ _)
  rw [toFallback_fg, toFallback_fg, toFallback_fg, toFallback_fg]
  simp (disch := decide) only [showFallback, setAcq, fg_withClk, fg_fs_ne, fg_fs, hhold]
  decide

/-- The fields of CLK that entering fallback can change. -/
def fallbackFlds : List Fld :=
  [CLK_PLL_STAT_PWM_HOLD, CLK_PLL_STAT_FALLBACK, CLK_PLL_STAT_LOCKED, CLK_PLL_STAT_ACQ, CLK_TB_HI_DEGRADED, CLK_PLL_STAT_HOLDOVER]

theorem toFallback_fg_ne (d : Dev) {F : Fld} {n : Nat} (hF : F.key n < 32 * 0x20020000 := by decide)
    (hne : ∀ G ∈ fallbackFlds, F.key n ≠ G.key 0 := by decide) : d.toFallback.fg F n = d.fg F n := by
  obtain ⟨a, ha, hheld⟩ := d.legsHeld_leavesClk
  have hsns : F.key n ≠ SNS_STAT_CLK_FALLBACK.key 0 := by
    have habove : 32 * 0x20020000 ≤ SNS_STAT_CLK_FALLBACK.key 0 := by decide
    omega
  simp only [fallbackFlds, List.forall_mem_cons] at hne
  obtain ⟨hhold, hfall, hlock, hacq, hdeg, hover, -⟩ := hne
  rw [d.toFallback_fg hF hover, showFallback, setAcq, fg_withClk, fg_fs_ne _ _ _ _ _ _ hdeg, fg_fs_ne _ _ _ _ _ _ hacq,
    fg_fs_ne _ _ _ _ _ _ hlock, fg_fs_ne _ _ _ _ _ _ hsns, fg_fs_ne _ _ _ _ _ _ hfall, hheld.fg_eq hF, fg_fs_ne _ _ _ _ _ _ hhold,
    ha.fg_eq hF]

/-! ### Loss of lock (R56, R58) -/

theorem fg_fcnt_ne (d : Dev) (F V G : Fld) (n m : Nat) (hF : G.key m ≠ F.key n) (hV : G.key m ≠ V.key n) :
    (d.fcnt F V n).fg G m = d.fg G m := by
  unfold fcnt
  split
  · exact fg_fs_ne _ _ _ _ _ _ hF
  · exact (fg_fs_ne _ _ _ _ _ _ hV).trans (fg_fs_ne _ _ _ _ _ _ hF)

/-- The device in fallback with the loss of lock counted and reported. -/
def lossNoted (d : Dev) : Dev := ((d.toFallback.fs CLK_PLL_STAT_LOL 1).fcnt CLK_PLL_STAT_LOL_CNT CLK_PLL_STAT_LOL_OVF).raise 120

/-- What follows is an acquisition. -/
theorem lossOfLock_searches (d : Dev) : Searches d.lossNoted d.lossOfLock := by
  unfold lossOfLock
  exact .ite (.acquire .refl) .refl

theorem lossOfLock_event (d : Dev) : ∃ x ∈ d.lossOfLock.evt.inflight, x.num = 120 := by
  obtain ⟨-, -, hevt⟩ := d.lossOfLock_searches
  exact ⟨_, hevt _ (List.mem_append_right _ (.head _)), rfl⟩

/-- The fields of CLK that loss of lock counts or an acquisition changes. -/
def lossFlds : List Fld := [CLK_PLL_STAT_LOL, CLK_PLL_STAT_LOL_CNT, CLK_PLL_STAT_LOL_OVF, CLK_PLL_STAT_ACQ, CLK_PLL_STAT_NO_BAND]

theorem lossOfLock_fg (d : Dev) {F : Fld} {n : Nat} (hne : ∀ G ∈ lossFlds, F.key n ≠ G.key 0 := by decide) :
    d.lossOfLock.fg F n = d.toFallback.fg F n := by
  simp only [lossFlds, List.forall_mem_cons] at hne
  obtain ⟨hlol, hcnt, hovf, hacq, hband, -⟩ := hne
  rw [d.lossOfLock_searches.fg_eq hacq hband, lossNoted, fg_raise, fg_fcnt_ne _ _ _ _ _ _ hcnt hovf, fg_fs_ne _ _ _ _ _ _ hlol]

/-- After a loss of lock `LOL` stands, and CLK is in fallback. -/
theorem lossOfLock_flags (d : Dev) : d.lossOfLock.fg CLK_PLL_STAT_LOL = 1 ∧ d.lossOfLock.fg CLK_PLL_STAT_PWM_HOLD = 1 ∧
    d.lossOfLock.fg CLK_PLL_STAT_FALLBACK = 1 ∧ d.lossOfLock.fg CLK_PLL_STAT_LOCKED = 0 ∧ d.lossOfLock.fg CLK_TB_HI_DEGRADED = 1 := by
  obtain ⟨hhold, hfall, hlock, hdeg⟩ := d.toFallback_flags
  refine ⟨?_, d.lossOfLock_fg.trans hhold, d.lossOfLock_fg.trans hfall, d.lossOfLock_fg.trans hlock, d.lossOfLock_fg.trans hdeg⟩
  rw [d.lossOfLock_searches.fg_eq, lossNoted, fg_raise, fg_fcnt_ne _ _ _ _ _ _ (by decide) (by decide), fg_fs]
  rfl

/-! ### The reference monitor (R48, R49) -/

/-- The device as the reference is declared bad, and the event of it raised. -/
def refLost (d : Dev) : Dev := ({ d.fs CLK_REF_STAT_REF_OK 0 with clk := { d.clk with episode := true } } : Dev).raise 122

theorem refFault_eq {d : Dev} (h : d.fb CLK_REF_STAT_REF_OK = true) :
    d.refFault = if d.refLost.fb CLK_PLL_STAT_LOCKED || d.refLost.acquiring then d.refLost.lossOfLock else d.refLost := if_pos h

theorem refFault_none {d : Dev} (h : d.fb CLK_REF_STAT_REF_OK = false) : d.refFault = d := if_neg (by simp [h])

theorem refFault_locked {d : Dev} (h : d.fb CLK_REF_STAT_REF_OK = true) (hl : d.fb CLK_PLL_STAT_LOCKED = true) :
    d.refFault = d.refLost.lossOfLock := by
  have hl' : d.refLost.fb CLK_PLL_STAT_LOCKED = true := (congrArg (· != 0) (fg_fs_ne d _ CLK_PLL_STAT_LOCKED _ _ 0 (by decide))).trans hl
  rw [refFault_eq h, hl', Bool.true_or, if_pos rfl]

theorem refFault_refOk (d : Dev) : d.refFault.fg CLK_REF_STAT_REF_OK = 0 := by
  cases h : d.fb CLK_REF_STAT_REF_OK
  case false => simpa [refFault_none h, fb] using h
  case true =>
    have hlost : d.refLost.fg CLK_REF_STAT_REF_OK = 0 := fg_fs _ _ _ _
    rw [refFault_eq h]
    split
    · rw [lossOfLock_fg, toFallback_fg_ne, hlost]
    · exact hlost

theorem refFault_fg_ne (d : Dev) {F : Fld} {n : Nat} (hF : F.key n < 32 * 0x20020000 := by decide)
    (hne : ∀ G ∈ CLK_REF_STAT_REF_OK :: (fallbackFlds ++ lossFlds), F.key n ≠ G.key 0 := by decide) : d.refFault.fg F n = d.fg F n := by
  simp only [List.forall_mem_cons, List.forall_mem_append] at hne
  obtain ⟨hok, hfall, hloss⟩ := hne
  have hlost : d.refLost.fg F n = d.fg F n := fg_fs_ne _ _ _ _ _ _ hok
  cases h : d.fb CLK_REF_STAT_REF_OK
  case false => rw [refFault_none h]
  case true =>
    rw [refFault_eq h]
    split
    · rw [lossOfLock_fg _ hloss, toFallback_fg_ne _ hF hfall, hlost]
    · exact hlost

/-- The device as the reference is good again. -/
def refBack (d : Dev) : Dev := { d.fs CLK_REF_STAT_REF_OK 1 with clk := { d.clk with episode := false } }

theorem refGood_searches {d : Dev} (h : d.fb CLK_REF_STAT_REF_OK = false) : Searches d.refBack d.refGood := by
  unfold refGood
  rw [if_neg (by simp [h])]
  dsimp only
  split
  · exact .ite .refl (.ite (.acqStart .refl) (.setAcq .refl))
  · exact .refl

theorem refGood_refOk (d : Dev) : d.refGood.fg CLK_REF_STAT_REF_OK ≠ 0 := by
  cases h : d.fb CLK_REF_STAT_REF_OK
  case false =>
    rw [(refGood_searches h).fg_eq, refBack, fg_withClk, fg_fs]
    decide
  case true =>
    rw [refGood, if_pos h]
    simpa [fb] using h

theorem refGood_missFired (d : Dev) : d.refGood.clk.missFired = d.clk.missFired := by
  cases h : d.fb CLK_REF_STAT_REF_OK
  case false =>
    obtain ⟨⟨a, hclk⟩, -⟩ := refGood_searches h
    rw [hclk]
    rfl
  case true => rw [refGood, if_pos h]

end Dev
end Sys2Proof.Machine
end

section
/-! SUPPORT. The statement about the reference monitor, captures, the PPS pin and time triggers (03). -/
set_option Elab.async false

namespace Sys2Proof.Machine
namespace Dev

/-! ### The reference's edges (R48, R50) -/

/-- The device as an edge of the reference is missing. -/
def edgeMissing (d : Dev) : Dev := { d.fs CLK_REF_STAT_REF_MISSING 1 with clk := { d.clk with refPresent := false, missFired := true } }

theorem fg_edgeMissing (d : Dev) {F : Fld} (hF : F.key 0 ≠ CLK_REF_STAT_REF_MISSING.key 0 := by decide) : d.edgeMissing.fg F = d.fg F :=
  fg_fs_ne _ _ _ _ _ _ hF

/-- With a good reference and the clock locked, a missing edge is a loss of lock, and the clocks are held over. -/
theorem missingEdgeDev_locked {d : Dev} (hok : d.fb CLK_REF_STAT_REF_OK = true) (hlock : d.fb CLK_PLL_STAT_LOCKED = true) :
    d.edgeMissing.refFault = d.edgeMissing.refLost.lossOfLock ∧ missingEdgeDev d = d.edgeMissing.refFault.holdOver := by
  have hfault : d.edgeMissing.refFault = d.edgeMissing.refLost.lossOfLock :=
    refFault_locked ((fb_of_fg d.fg_edgeMissing).trans hok) ((fb_of_fg d.fg_edgeMissing).trans hlock)
  obtain ⟨-, -, hfall, -⟩ := d.edgeMissing.refLost.lossOfLock_flags
  have hback : d.edgeMissing.refFault.fb CLK_PLL_STAT_FALLBACK = true := by
    rw [hfault, fb, hfall]
    rfl
  exact ⟨hfault, if_pos hback⟩

theorem missingEdge_flags {d : Dev} (hok : d.fb CLK_REF_STAT_REF_OK = true) (hlock : d.fb CLK_PLL_STAT_LOCKED = true) :
    (missingEdgeDev d).fg CLK_REF_STAT_REF_OK = 0 ∧ (missingEdgeDev d).fg CLK_REF_STAT_REF_MISSING = 1 ∧
      (missingEdgeDev d).fg CLK_PLL_STAT_LOL = 1 ∧ (missingEdgeDev d).fg CLK_PLL_STAT_PWM_HOLD = 1 ∧
      (missingEdgeDev d).fg CLK_PLL_STAT_FALLBACK = 1 ∧ (missingEdgeDev d).fg CLK_PLL_STAT_LOCKED = 0 := by
  obtain ⟨hfault, hover⟩ := missingEdgeDev_locked hok hlock
  obtain ⟨hlol, hhold, hfall, hunlock, -⟩ := d.edgeMissing.refLost.lossOfLock_flags
  have hshown : ∀ F : Fld, F.key 0 < 32 * 0x20020000 → F.key 0 ≠ CLK_PLL_STAT_HOLDOVER.key 0 →
      (missingEdgeDev d).fg F = d.edgeMissing.refFault.fg F :=
    fun F hF hO => hover ▸ ((holdOver_leavesClk _).fg_eq hF).trans (fg_fs_ne _ _ _ _ _ _ hO)
  simp (disch := decide) only [hshown]
  exact ⟨refFault_refOk _, (refFault_fg_ne _).trans (fg_fs _ _ _ _), hfault ▸ hlol, hfault ▸ hhold, hfault ▸ hfall, hfault ▸ hunlock⟩

/-- The device as a count of the reference's edges ends. -/
def counted (d : Dev) (n : Nat) : Dev := { d.fs CLK_REF_STAT_REF_CNT n with clk := { d.clk with missFired := !d.clk.refPresent } }

theorem frequencyCountDev_bad {d : Dev} {n : Nat} (hx : d.fb CLK_REF_STAT_XT_CHECK_OFF = false) (hn : n < 97168 ∨ 98144 < n) :
    frequencyCountDev n d = ((d.counted n).fs CLK_REF_STAT_REF_FREQ_BAD 1).refFault := by
  rw [frequencyCountDev, if_neg (by simp [hx])]
  exact if_pos hn

theorem frequencyCountDev_good {d : Dev} {n : Nat} (hx : d.fb CLK_REF_STAT_XT_CHECK_OFF = false) (hlo : 97168 ≤ n) (hhi : n ≤ 98144)
    (hm : d.clk.missFired = false) : frequencyCountDev n d = (d.counted n).refGood := by
  rw [frequencyCountDev, if_neg (by simp [hx])]
  exact (if_neg (by omega)).trans (if_neg (by simp [hm]))

/-- A modulator clock that is enabled starts again. -/
def restart (d : Dev) (k : Nat) : Dev := if d.fb SNS_SDCK_k_EN k then d.sdckStart k else d

theorem foldl_regs {f : Dev → Nat → Dev} (hf : ∀ d n, (f d n).regs = d.regs) (l : List Nat) (d : Dev) : (l.foldl f d).regs = d.regs := by
  induction l generalizing d with
  | nil => rfl
  | cons n t ih => exact (ih _).trans (hf d n)

theorem sdckStart_regs (d : Dev) (k : Nat) : (d.sdckStart k).regs = (d.fs SNS_SDCK_k_RUNNING 1 k).regs :=
  foldl_regs (f := cfPlace) (fun _ _ => rfl) _ _

theorem restart_en (d : Dev) (k m : Nat) : (d.restart k).fg SNS_SDCK_k_EN m = d.fg SNS_SDCK_k_EN m := by
  unfold restart
  split
  · rw [fg_of_regs (d.sdckStart_regs k)]
    exact fg_fs_ne _ _ _ _ _ _ (by simp only [Fld.key, SNS_SDCK_k_EN, SNS_SDCK_k_RUNNING]; omega)
  · rfl

theorem restart_running {d : Dev} {k m : Nat} (h : d.fg SNS_SDCK_k_RUNNING m = 1 ∨ (m = k ∧ d.fb SNS_SDCK_k_EN m = true)) :
    (d.restart k).fg SNS_SDCK_k_RUNNING m = 1 := by
  unfold restart
  by_cases hm : m = k
  · subst hm
    split
    · exact (fg_of_regs (d.sdckStart_regs m) _ _).trans (fg_fs _ _ _ _)
    · next hen => exact h.resolve_right fun h => hen h.2
  · have hrun := h.resolve_right fun h => hm h.1
    split
    · rw [fg_of_regs (d.sdckStart_regs k)]
      exact (fg_fs_ne _ _ _ _ _ _ (key_ne_of_index _ _ _ (by decide) hm)).trans hrun
    · exact hrun

theorem foldl_restart_running {l : List Nat} {d : Dev} {m : Nat}
    (h : d.fg SNS_SDCK_k_RUNNING m = 1 ∨ (m ∈ l ∧ d.fb SNS_SDCK_k_EN m = true)) : (l.foldl restart d).fg SNS_SDCK_k_RUNNING m = 1 := by
  induction l generalizing d with
  | nil => simpa using h
  | cons k t ih =>
    refine ih ?_
    rw [fb_of_fg (d.restart_en k m)]
    rcases h with hrun | ⟨hmem, hen⟩
    · exact .inl (restart_running (.inl hrun))
    · rcases List.mem_cons.1 hmem with hk | ht
      · exact .inl (restart_running (.inr ⟨hk, hen⟩))
      · exact .inr ⟨ht, hen⟩

theorem rotTry_running (d : Dev) (m : Nat) : d.rotTry.fg SNS_SDCK_k_RUNNING m = d.fg SNS_SDCK_k_RUNNING m := by
  unfold rotTry rotStart
  split
  · rw [fg_fs_ne _ _ _ _ _ _ (by simp only [Fld.key, SNS_SDCK_k_RUNNING, SNS_STAT_MTR_CAL_PENDING]; omega),
      fg_fs_ne _ _ _ _ _ _ (by simp only [Fld.key, SNS_SDCK_k_RUNNING, SNS_MTR_ROT_REQ]; omega),
      fg_fs_ne _ _ _ _ _ _ (by simp only [Fld.key, SNS_SDCK_k_RUNNING, SNS_MTR_ROT_STEP_CH]; omega),
      fg_fs_ne _ _ _ _ _ _ (by simp only [Fld.key, SNS_SDCK_k_RUNNING, SNS_MTR_ROT_STEP_ACTIVE]; omega)]
    rfl
  · rfl

/-- The device as the reference's edges are back. -/
def edgesBack (d : Dev) : Dev := { d.fs CLK_PLL_STAT_HOLDOVER 0 with clk := { d.clk with refPresent := true } }

theorem referenceReturnDev_back {d : Dev} (h : d.clk.refPresent = false) :
    ∃ l : List Nat, referenceReturnDev d = (l.foldl cfRestart ((List.range 4).foldl restart d.edgesBack)).rotTry := by
  rw [referenceReturnDev, if_neg (by simp [h])]
  exact ⟨_, rfl⟩

/-- With the reference's edges back the clocks are no longer held over, and every enabled modulator clock runs (R50, R69). -/
theorem referenceReturn_spec {d : Dev} (h : d.clk.refPresent = false) : (referenceReturnDev d).clk.refPresent = true ∧
    (referenceReturnDev d).fg CLK_PLL_STAT_HOLDOVER = 0 ∧
    ∀ k : Fin 4, d.fb SNS_SDCK_k_EN k = true → (referenceReturnDev d).fg SNS_SDCK_k_RUNNING k = 1 := by
  obtain ⟨l, hl⟩ := referenceReturnDev_back h
  have hclk : LeavesClk d.edgesBack (referenceReturnDev d) :=
    hl ▸ .rotTry (.foldl (.foldl .refl fun _ _ h => .ite (.sdckStart h) h) fun _ _ => .cfRestart)
  refine ⟨by rw [hclk.clk_eq, edgesBack], hclk.fg_eq.trans (fg_fs _ _ _ _), fun k hk => ?_⟩
  have hen : d.edgesBack.fb SNS_SDCK_k_EN k = true :=
    (fb_of_fg (fg_fs_ne d _ _ _ _ _ (by simp only [Fld.key, SNS_SDCK_k_EN, CLK_PLL_STAT_HOLDOVER]; omega))).trans hk
  rw [hl, rotTry_running, fg_of_regs (foldl_regs (f := cfRestart) (fun _ _ => rfl) l _)]
  exact foldl_restart_running (.inr ⟨by simp, hen⟩)

/-! ### Captures (R67) -/

theorem swCaptures_one {d : Dev} (h : d.clk.snapAt = [d.clk.ticks]) :
    d.swCaptures = ({ d with clk := { d.clk with snapAt := [] } } : Dev).capture := by
  simp [swCaptures, h]

theorem capture_shows (d : Dev) : d.capture.fg CLK_SNAP_TB_LO_TB = d.clk.ticks % 2 ^ CLK_SNAP_TB_LO_TB.len ∧
    d.capture.fg CLK_SNAP_NS_NS = d.clk.ptpNs % 2 ^ CLK_SNAP_NS_NS.len ∧
    d.capture.fg CLK_SNAP_SEC_LO_SEC = d.clk.ptpSec % 2 ^ CLK_SNAP_SEC_LO_SEC.len ∧
    d.capture.fg CLK_SNAP_CTRL_SEQ = (d.fg CLK_SNAP_CTRL_SEQ + 1) % 2 ^ CLK_SNAP_CTRL_SEQ.len := by
  unfold capture
  split <;> simp (disch := decide) only [fg_withClk, finc, fg_fs_ne, fg_fs, fs_clk, and_self]

/-- `CLK_SNAP_CTRL` in the register map. -/
def snapCtrlReg : Reg := ⟨0x20010340, 0x0, 0, 1, [⟨CLK_SNAP_CTRL_SEQ, .RO, .any⟩, ⟨CLK_SNAP_CTRL_OVERRUN, .W1C, .any⟩,
  ⟨CLK_SNAP_CTRL_CAP_EDGE, .RW, .any⟩, ⟨CLK_SNAP_CTRL_CAP_EN, .RW, .any⟩, ⟨CLK_SNAP_CTRL_SW, .WO, .any⟩]⟩

theorem findReg_snapCtrl : findReg (CLK_SNAP_CTRL_SW.at 0) = some (snapCtrlReg, 0) := rfl

/-- Of a word written to `CLK_SNAP_CTRL` the bit `SW` reaches the register. -/
theorem snapCtrl_reached (w : Nat) : CLK_SNAP_CTRL_SW.of (reached snapCtrlReg w) = CLK_SNAP_CTRL_SW.of w := by
  simp only [reached, snapCtrlReg, List.foldl_cons, List.foldl_nil, Fld.of, CLK_SNAP_CTRL_SW, CLK_SNAP_CTRL_OVERRUN,
    CLK_SNAP_CTRL_CAP_EDGE, CLK_SNAP_CTRL_CAP_EN]
  omega

theorem clearedCLK_clk (d : Dev) (b lo : Nat) : (d.clearedCLK b lo).clk = d.clk := by
  unfold clearedCLK
  split
  · rfl
  · split
    · exact (LeavesClk.foldl .refl fun _ _ h => .legDrive h).clk_eq
    · rfl

/-- A word stored in a register of CLK leaves the state of CLK alone: only what follows the store acts on it. -/
theorem storeWord_blockClk {r : Reg} (hb : r.base / 65536 = 0x2001) (d : Dev) (n w : Nat) : (d.storeWord r n w).clk = d.clk := by
  have hfld : ∀ (e : Dev) (s : FldSpec), (d.storeFld r.base n (reached r w) e s).clk = e.clk := by
    intro e s
    unfold storeFld
    split
    · rfl
    · rfl
    · split <;> rfl
    · dsimp only
      split
      · rfl
      · simp only [clearedReg, hb]
        exact clearedCLK_clk _ _ _
    · rfl
  have hall : ∀ (l : List FldSpec) (e : Dev), (l.foldl (d.storeFld r.base n (reached r w)) e).clk = e.clk := by
    intro l
    induction l with
    | nil => exact fun _ => rfl
    | cons s t ih => exact fun e => (ih _).trans (hfld e s)
  exact hall _ _

/-- A write of `SW` asks for a capture at the next tick. -/
theorem regWrite_snapCtrl_clk {d : Dev} {a : Acc} {w : Nat} (hsw : CLK_SNAP_CTRL_SW.of w = 1) (hok : d.accepts a (CLK_SNAP_CTRL_SW.at 0) w) :
    (d.regWrite a (CLK_SNAP_CTRL_SW.at 0) w).2.clk = { d.clk with snapAt := d.clk.snapAt ++ [d.clk.ticks + 1] } := by
  obtain ⟨e, he⟩ : ∃ e, e = d.storeWord snapCtrlReg 0 w := ⟨_, rfl⟩
  have hclk : e.clk = d.clk := he ▸ storeWord_blockClk rfl d 0 w
  have hafter : e.afterReg d snapCtrlReg.base 0 (reached snapCtrlReg w) =
      { e with clk := { e.clk with snapAt := e.clk.snapAt ++ [e.clk.ticks + 1] } } := if_pos ((snapCtrl_reached w).trans hsw)
  rw [regWrite_accepted findReg_snapCtrl rfl (by decide) (by decide) rfl rfl hok, ← he, hafter, hclk]

/-! ### The read of a capture (R67) -/

theorem regRead_snapNs (d : Dev) (a : Acc) : (d.regRead a (CLK_SNAP_NS_NS.at 0)).2 =
    { d with hst := { d.hst with lastRead := d.word (CLK_SNAP_NS_NS.at 0) }, clk := { d.clk with snapUnread := false } } := rfl

/-! ### Steps of PTP time (R64) -/

/-- `CLK_PTP_OFS_HI` in the register map. -/
def ptpOfsHiReg : Reg := ⟨0x2001030C, 0x0, 0, 1, [⟨CLK_PTP_OFS_HI_OFS, .WO, .any⟩]⟩

theorem findReg_ptpOfsHi : findReg (CLK_PTP_OFS_HI_OFS.at 0) = some (ptpOfsHiReg, 0) := rfl

theorem regWrite_ptpOfsHi (d : Dev) (a : Acc) (w : Nat) : (d.regWrite a (CLK_PTP_OFS_HI_OFS.at 0) w).2 =
    (d.ptpStep (sval 64 (d.pairLo a 0x20010308 0x20010308 + 2 ^ 32 * w))).dropLo a 0x20010308 := by
  rw [regWrite_hi findReg_ptpOfsHi rfl rfl (.inl (by decide)) rfl]
  rfl

/-- Stated for any table, as `withHold_regs` is. -/
theorem withHold_clk (d : Dev) (v : Vector Hold 40) : ({ d with hst := { d.hst with hold := v } } : Dev).clk = d.clk := rfl

theorem dropLo_clk (d : Dev) (a : Acc) (x : Nat) : (d.dropLo a x).clk = d.clk := withHold_clk _ _

end Dev

theorem ptpApply_spec {d : Dev} {ns : Int} (h : d.clk.ofs = some ns) : let c := d.ptpApply.clk
    (c.ptpSec, c.ptpNs, c.ptpFrac) = (let e := d.ptpAdd (ns * 2 ^ 28); (e.clk.ptpSec, e.clk.ptpNs, e.clk.ptpFrac)) ∧ c.ofs = none ∧
      (ns ≤ 0 → c.stepped = 0) ∧ ∀ n : Fin 4, d.ttrigDue n = true → c.stepped.testBit n = false := by
  obtain ⟨l, hl, hclk⟩ := Dev.ptpApply_step h
  simp only [hclk]
  refine ⟨rfl, rfl, fun hns => ?_, fun n hn => ?_⟩
  · have hnil : l = [] := List.eq_nil_iff_forall_not_mem.2 fun n hn => by
      obtain ⟨hpos, -⟩ := hl n hn
      omega
    rw [hnil, List.foldl_nil]
  · refine (testBit_foldl_setBit (fun hmem => ?_) 0).trans (Nat.zero_testBit _)
    obtain ⟨-, hdue⟩ := hl n hmem
    rw [hn] at hdue
    cases hdue

/-- A time trigger without a target to act on disarms, shows that it has fired, and is reported. -/
theorem timeTriggerDev_plain {d : Dev} {n : Nat} (harm : d.fb CLK_TTRIG_n_CTRL_ARM n = true) (hdue : d.ttrigDue n = true)
    (ht : d.fg CLK_TTRIG_n_CTRL_TARGET n = 0) : timeTriggerDev n d =
      if d.ttrigLate n then (((d.fs CLK_TTRIG_n_CTRL_ARM 0 n).fs CLK_TTRIG_n_CTRL_FIRED 1 n).raise 124 n).fs CLK_TTRIG_n_CTRL_LATE 1 n
      else ((d.fs CLK_TTRIG_n_CTRL_ARM 0 n).fs CLK_TTRIG_n_CTRL_FIRED 1 n).raise 124 n := by
  obtain ⟨e, he⟩ : ∃ e, e = ((d.fs CLK_TTRIG_n_CTRL_ARM 0 n).fs CLK_TTRIG_n_CTRL_FIRED 1 n).raise 124 n := ⟨_, rfl⟩
  have hfired : e.fg CLK_TTRIG_n_CTRL_TARGET n = 0 := by
    rw [he, Dev.fg_raise, Dev.fg_fs_ne _ _ _ _ _ _ (by simp [Fld.key, CLK_TTRIG_n_CTRL_TARGET, CLK_TTRIG_n_CTRL_FIRED]),
      Dev.fg_fs_ne _ _ _ _ _ _ (by simp [Fld.key, CLK_TTRIG_n_CTRL_TARGET, CLK_TTRIG_n_CTRL_ARM]), ht]
  have hlate : (e.fs CLK_TTRIG_n_CTRL_LATE 1 n).fg CLK_TTRIG_n_CTRL_TARGET n = 0 :=
    (Dev.fg_fs_ne _ _ _ _ _ _ (by simp [Fld.key, CLK_TTRIG_n_CTRL_TARGET, CLK_TTRIG_n_CTRL_LATE])).trans hfired
  rw [timeTriggerDev, if_pos (Bool.and_eq_true_iff.2 ⟨harm, hdue⟩), Dev.ttrigFire, ← he]
  cases d.ttrigLate n
  · simp [hfired]
  · simp [hlate]

/-- Settles O1: a fault of the reference goes through the loss of lock, whose flags nothing behind it changes; its return, the captures and the
time triggers are what their device functions do, and a step of PTP time is held for the next tick. -/
theorem referenceAndTime : Obligations.ReferenceAndTime := by
  refine ⟨fun s up => ?monitor, fun s a up => ?time⟩
  case' monitor =>
    intro d
    refine ⟨?missing, ?bad, ?good, ?timeout, ?back, ?loss⟩
  case' time =>
    intro d
    refine ⟨?rise, ?fall, ?asked, ?taken, ?edge, ?read, ?trigger, ?step, ?apply⟩
  case missing =>
    intro hok hlock
    refine ⟨_, State.run_up up _, ?_⟩
    simp only [State.to_dev, Dev.fg_land]
    exact Dev.missingEdge_flags hok hlock
  case bad =>
    intro n hx hn
    refine ⟨_, (State.run_up up _).trans (by rw [Dev.frequencyCountDev_bad hx hn]), ?_⟩
    simp only [State.to_dev, Dev.fg_land]
    refine ⟨?_, ?_, Dev.refFault_refOk _⟩
    · rw [Dev.refFault_fg_ne, Dev.fg_fs_ne _ _ _ _ _ _ (by decide), Dev.counted, Dev.fg_withClk, Dev.fg_fs]
    · rw [Dev.refFault_fg_ne, Dev.fg_fs]
      rfl
  case good =>
    intro n hx hlo hhi hm
    refine ⟨_, (State.run_up up _).trans (by rw [Dev.frequencyCountDev_good hx hlo hhi hm]), ?_⟩
    simp only [State.to_dev, Dev.fg_land, Dev.land_clk]
    exact ⟨Dev.refGood_refOk _, Dev.refGood_missFired _⟩
  case timeout =>
    intro hx hp
    refine ⟨_, (State.run_up up _).trans (by rw [refGoodTimeoutDev, if_pos (Bool.and_eq_true_iff.2 ⟨hx, hp⟩)]), ?_⟩
    rw [State.to_dev, Dev.fg_land]
    exact Dev.refGood_refOk _
  case back =>
    intro hp
    refine ⟨_, State.run_up up _, ?_⟩
    simp only [State.to_dev, Dev.fg_land, Dev.land_clk]
    exact Dev.referenceReturn_spec hp
  case loss =>
    intro hl
    obtain ⟨hlol, hhold, hfall, hlock, hdeg⟩ := s.dev.lossOfLock_flags
    refine ⟨_, (State.run_up up _).trans (by rw [lossOfLockDev, if_pos hl]), ?_⟩
    rw [State.to_dev]
    simp only [Dev.fg_land, Dev.land_evt]
    exact ⟨hlol, hhold, hfall, hlock, hdeg, s.dev.lossOfLock_event⟩
  case rise =>
    intro hen hv hc
    have hrise := Bool.and_eq_true_iff.2 ⟨Bool.and_eq_true_iff.2 ⟨hen, hv⟩, hc⟩
    exact (State.run_up up _).trans (by rw [ppsRiseDev, if_pos hrise])
  case fall => exact State.run_up up _
  case asked =>
    intro val hsw hok
    refine ⟨_, (State.run_up up _).trans (by rw [wrIf, if_pos (beq_iff_eq.2 hsw)]), ?_, ?_⟩
    · rw [State.to_dev, Dev.land_clk, Dev.regWrite_snapCtrl_clk hsw hok]
    · rw [State.to_dev, Dev.land_clk, Dev.regWrite_snapCtrl_clk hsw hok]
  case taken =>
    intro h
    rw [Dev.swCaptures_one h]
    obtain ⟨htb, hns, hsec, -⟩ := Dev.capture_shows { d with clk := { d.clk with snapAt := [] } }
    exact ⟨htb, hns, hsec, by rw [Dev.capture_clk], by rw [Dev.capture_clk]⟩
  case edge =>
    intro hen
    obtain ⟨htb, -, -, hseq⟩ := d.capture_shows
    refine ⟨_, (State.run_up up _).trans (by rw [ptpCapEdgeDev, if_pos hen]), ?_⟩
    simp only [State.to_dev, Dev.fg_land, Dev.land_clk, Dev.capture_clk]
    exact ⟨htb, hseq, trivial⟩
  case read =>
    refine ⟨_, State.run_up up _, ?_⟩
    rw [State.to_dev, rdIf, always, if_pos rfl, Dev.regRead_snapNs]
    exact ⟨rfl, rfl, rfl⟩
  case trigger => exact fun n harm hdue ht => (State.runTal_up up _).trans (by rw [timeTriggerDev_plain harm hdue ht])
  case step =>
    intro val
    refine ⟨_, (State.runTal_up up _).trans (by rw [wrIf, always, if_pos rfl, Dev.regWrite_ptpOfsHi]), ?_⟩
    rw [State.toTal_dev, Dev.land_clk, Dev.dropLo_clk]
    rfl
  case apply => exact fun ns h => ptpApply_spec h

end Sys2Proof.Machine
end

section
/-! SUPPORT. The statement about the PLL and the release of the PWM hold (03). -/
set_option Elab.async false

namespace Sys2Proof.Machine

/-- A locked clock whose `PWM_HOLD` holds more than its one bit: 2 in the register file's place. No write leaves such a value (`fg_fs`), but
the statement about the PLL does not ask for it. -/
def holdTooWide : State := { dev := { regs := [(CLK_PLL_STAT_LOCKED.key 0, 1), (CLK_PLL_STAT_FALLBACK.key 0, 0), (CLK_PLL_STAT_PWM_HOLD.key 0, 2)] } }

/-- `PWM_HOLD` and what R59 asks for its release stand there. -/
theorem holdTooWide_releasable : holdTooWide.dev.fb CLK_PLL_STAT_PWM_HOLD = true ∧ holdTooWide.dev.fb CLK_PLL_STAT_LOCKED = true ∧
    holdTooWide.dev.fb CLK_PLL_STAT_FALLBACK = false := by decide

/-- A write of 1 to the field's one bit finds that bit clear, and leaves the place as it was. -/
theorem holdTooWide_release : (wrIf (fun _ => CLK_PLL_STAT_PWM_HOLD.of 64 == 1) .mm (CLK_PLL_STAT_PWM_HOLD.at 0) 64 holdTooWide.dev).fg
    CLK_PLL_STAT_PWM_HOLD = 2 := by decide

/-- Refutes O2: the release of the hold is claimed to clear `PWM_HOLD` from every state in which it is not 0, also one where the register file
holds 2 in the place of this field of one bit (`holdTooWide`); there a write of 1 to `PWM_HOLD` clears nothing. -/
theorem not_pllAcquires : ¬ Obligations.PllAcquires := by
  intro h
  obtain ⟨-, -, -, -, -, -, -, hrelease, -⟩ := h holdTooWide .mm rfl
  obtain ⟨hhold, hlock, hfall⟩ := holdTooWide_releasable
  obtain ⟨t, ht, hzero⟩ := hrelease 64 (by decide) (by decide) hhold hlock hfall
  have hdev : t.dev.fg CLK_PLL_STAT_PWM_HOLD = 2 := by
    rw [State.lift_next ht]
    exact holdTooWide_release
  rw [hdev] at hzero
  cases hzero

end Sys2Proof.Machine
end

section
/-! SUPPORT. The statement about capability and status commands. -/
set_option Elab.async false

namespace Sys2Proof.Machine

/-- A started command whose payload its block answers at once: the reply stands with it. -/
theorem State.run_answers {s : State} {op : Nat} {p : Path} {tag : Byte} {l : List Byte} {f : Cmd → Dev → Res × Dev} {e : Dev} {st : St}
    {b : List Byte} (up : s.up) (h : s.dev.started p tag op l) (hf : ∀ c : Cmd, c.payload = l → f c s.dev = (.reply st b, e)) :
    s.run (fun d => d.runCmd op p tag f) = .next (s.answer e p tag st b) := by
  obtain ⟨c, hc, hl⟩ := h
  rw [State.run_up up, Dev.runCmd_reply hc (hf c hl), State.answer]

/-- A started command without payload that returns register words. -/
theorem State.run_capsCmd {s : State} {op : Nat} {p : Path} {tag : Byte} (addrs : List Nat) (up : s.up) (h : s.dev.started p tag op []) :
    s.run (fun d => d.runCmd op p tag (capsCmd addrs)) = .next (s.answer s.dev p tag .ok (s.dev.words addrs)) :=
  State.run_answers up h fun c hc => by rw [capsCmd, if_neg (not_not.2 hc)]

/-- The same for one that returns words of Nightwatch, which answers (R20). -/
theorem State.run_auxWordsCmd {s : State} {op : Nat} {p : Path} {tag : Byte} (addrs : List Nat) (up : s.up) (ha : s.dev.aon.alive = true)
    (h : s.dev.started p tag op []) :
    s.run (fun d => d.runCmd op p tag (auxWordsCmd addrs)) = .next (s.answer s.dev p tag .ok (s.dev.words addrs)) :=
  State.run_answers up h fun c hc => by
    rw [auxWordsCmd, if_neg (by simp [ha]), capsCmd, if_neg (not_not.2 hc)]

/-- A started command stands in its list under its own path and tag. -/
theorem Dev.startedCmd_key {d : Dev} {p : Path} {tag op : Nat} {c : Cmd} (h : d.startedCmd p tag op = some c) : (c.path, c.tag) = (p, tag) := by
  rw [Dev.startedCmd] at h
  split at h
  · next x hx =>
    have hkey := List.find?_some hx
    obtain ⟨-, rfl⟩ : _ ∧ x = c := by simpa using h
    simpa using hkey
  · cases h

/-- While Nightwatch answers nothing, a started command that returns its words waits for its time-out (R20, R292). -/
theorem State.run_auxWordsCmd_dead {s : State} {op : Nat} {p : Path} {tag : Byte} (addrs : List Nat) (up : s.up)
    (ha : s.dev.aon.alive = false) (h : s.dev.started p tag op []) :
    ∃ e : Dev, s.run (fun d => d.runCmd op p tag (auxWordsCmd addrs)) = .next (s.to e) ∧
      e.hst.slow = s.dev.hst.slow ++ [(p, tag.toNat)] ∧ e.regs = s.dev.regs := by
  obtain ⟨c, hc, hl⟩ := h
  have hslow : auxWordsCmd addrs c s.dev = s.dev.accessSlow c := if_pos ⟨hl, ha⟩
  refine ⟨_, (State.run_up up _).trans (congrArg (Host.Outcome.next <| s.to ·) (Dev.runCmd_owed hc hslow)), ?_, rfl⟩
  exact congrArg (s.dev.hst.slow ++ [·]) (Dev.startedCmd_key hc)

theorem Dev.words_append (d : Dev) (l m : List Nat) : d.words (l ++ m) = d.words l ++ d.words m := List.flatMap_append

theorem Dev.words_singleton (d : Dev) (a : Nat) : d.words [a] = leBytes 4 (d.word a) := List.flatMap_singleton _ _

/-- The status of Weighmaster, with the two words that an arbitration which waits for its boundary replaces. -/
theorem State.run_wghStatusCmd {s : State} {p : Path} {tag : Byte} {now : Nat × Nat} (up : s.up) (h : s.dev.started p tag 0x501 [])
    (hn : (if s.dev.wgh.arb then s.dev.wgh.before else (s.dev.word 0x20070018, s.dev.word 0x20070024)) = now) :
    exec (.wghStatus p tag) s = .next (s.answer s.dev p tag .ok (s.dev.words [0x20070004] ++ leBytes 4 now.1 ++
      s.dev.words [0x20070030, 0x20070034] ++ leBytes 4 now.2 ++ s.dev.words ((List.range 32).map fun n => 0x2007010C + 16 * n))) :=
  State.run_answers up h fun c hc => by rw [wghStatusCmd, if_neg (not_not.2 hc), hn]

/-- Settles O55: each command is the one that returns its list of words; Weighmaster's takes two of them from before an arbitration that
waits, and those that ask Nightwatch wait while it is dead. -/
theorem capabilitiesAndStatus : Obligations.CapabilitiesAndStatus := by
  intro s p tag up d gives
  have caps {op : Nat} (addrs : List Nat) (h : d.started p tag op []) := State.run_capsCmd addrs up h
  refine ⟨caps _, caps _, caps _, caps _, caps _, caps _, caps _, caps _, caps _, caps _, caps _, caps _, caps _, caps _, caps _,
    ?wghNow, ?wghBefore, caps _, caps _, caps _, caps _, caps _, caps _, ?aux, ?dead⟩
  case wghNow =>
    intro harb h
    refine (State.run_wghStatusCmd up h (if_neg (Bool.eq_false_iff.1 harb))).trans ?_
    simp only [← Dev.words_singleton, ← Dev.words_append]
    rfl
  case wghBefore => exact fun harb h => State.run_wghStatusCmd up h (if_pos harb)
  case aux => exact fun ha => ⟨State.run_auxWordsCmd _ up ha, State.run_auxWordsCmd _ up ha⟩
  case dead =>
    intro c hc ha h
    rcases List.mem_pair.1 hc with rfl | rfl
    · rw [if_pos rfl] at h
      exact State.run_auxWordsCmd_dead _ up ha h
    · rw [if_neg nofun] at h
      exact State.run_auxWordsCmd_dead _ up ha h

end Sys2Proof.Machine
end

section
/-! SUPPORT. Tables, bits and bytes; what a write to one register leaves of the others; events of a device that has kept the state of CLK. -/
set_option Elab.async false

namespace Sys2Proof.Machine

theorem vget_vmap {α : Type} [Inhabited α] {n : Nat} (f : α → α) (v : Vector α n) {i : Nat} (h : i < n) : vget (vmap f v) i = f (vget v i) := by
  simp [vget, vmap, h]

theorem testBit_clrBit (m i : Nat) : (clrBit m i).testBit i = false := by
  unfold clrBit
  split
  · next h =>
    have hadd := Nat.testBit_two_pow_add_eq (m - 2 ^ i) i
    rw [Nat.add_sub_cancel' (Nat.ge_two_pow_of_testBit h), h] at hadd
    simpa using hadd.symm
  · next h => exact Bool.eq_false_iff.2 h

/-- `n` bytes show a number modulo 2^(8n). -/
theorem leBytes_mod (n v : Nat) : leBytes n (v % 2 ^ (8 * n)) = leBytes n v := by
  induction n generalizing v with
  | zero => rfl
  | succ n ih =>
    have hpow : 2 ^ (8 * (n + 1)) = 256 * 2 ^ (8 * n) := by rw [Nat.mul_succ, Nat.pow_add, Nat.mul_comm]
    rw [leBytes, leBytes, hpow, Nat.mod_mul_right_div_self, ih]
    congr 1
    apply BitVec.eq_of_toNat_eq
    simp only [BitVec.toNat_ofNat]
    exact Nat.mod_mul_right_mod v 256 _

/-- A row of the core's, out of reset, by what its effect comes to. -/
theorem State.run_eq {s : State} {f : Dev → Dev} {e : Dev} (up : s.up) (h : f s.dev = e) : s.run f = .next (s.to e) :=
  h ▸ State.run_up up f

namespace Fld

/-- Fields of one array that differ at index 0 differ at every index. -/
theorem key_ne_of_stride {F G : Fld} {n : Nat} (hs : F.stride = G.stride) (h : F.key 0 ≠ G.key 0) : F.key n ≠ G.key n := by
  simp only [key, hs] at h ⊢
  omega

end Fld

namespace Dev

/-- A bit of a field reads back what was written. -/
theorem fbit_fsBit_same {F : Fld} {i : Nat} (hi : i < F.len) (d : Dev) (b : Bool) (n : Nat) : (d.fsBit F i b n).fbit F i n = b := by
  cases b with
  | true => exact fbit_fsBit hi d n
  | false => simp [fbit, fsBit, fg_fs, putBit, Nat.testBit_mod_two_pow, testBit_clrBit]

/-- Fields of other registers keep their contents. -/
theorem fg_fs_reg {d : Dev} {F G : Fld} {v n m : Nat} (h : G.key m / 32 ≠ F.key n / 32) : (d.fs F v n).fg G m = d.fg G m :=
  fg_fs_ne _ _ _ _ _ _ fun he => h (congrArg (· / 32) he)

/-- Fields of one array that differ at index 0 keep each other's contents. -/
theorem fg_fs_stride {d : Dev} {F G : Fld} {v n : Nat} (hs : G.stride = F.stride := by rfl) (h : G.key 0 ≠ F.key 0 := by decide) :
    (d.fs F v n).fg G n = d.fg G n := fg_fs_ne _ _ _ _ _ _ (Fld.key_ne_of_stride hs h)

/-- A 1 written to a set-only field of one bit sets it. -/
theorem fg_fs_lor_one (d : Dev) {F : Fld} (hF : F.len = 1) (x n : Nat) : (d.fs F (Nat.lor x 1) n).fg F n = 1 := by
  rw [fg_fs, hF]
  exact Nat.or_mod_two_eq_one.2 (.inr rfl)

/-! ### Events of a device that has kept the state of CLK -/

theorem LeavesClk.deg_eq {d e : Dev} (h : LeavesClk d e) : e.deg = d.deg := h.fb_eq

theorem LeavesClk.convStopped_eq {d e : Dev} (h : LeavesClk d e) : e.convStopped = d.convStopped := by
  rw [convStopped, convStopped, h.fb_eq, h.clk_eq]

/-- It raises an event as the device did. -/
theorem LeavesClk.raise_evt {d e : Dev} (h : LeavesClk d e) (he : e.evt = d.evt) (x y : Nat) : (e.raise x y).evt = (d.raise x y).evt := by
  simp only [Dev.raise, h.deg_eq, h.clk_eq, he]

theorem LeavesClk.sns {d e : Dev} {x : Sns} (h : LeavesClk d e) : LeavesClk d { e with sns := x } := h

theorem LeavesClk.finc {d e : Dev} {F : Fld} {n : Nat} (h : LeavesClk d e) (hF : 0x20020000 ≤ F.base := by decide) : LeavesClk d (e.finc F n) :=
  h.fs hF

end Dev
end Sys2Proof.Machine
end

section
/-! SUPPORT. The statement about bitstream inputs, filters and comparators (04). -/
set_option Elab.async false

namespace Sys2Proof.Machine

/-- A modulator clock that is disabled while its `RUNNING` holds more than its one bit: 2 in the register file's place. No write leaves such a
value (`fg_fs`), but the statement about the bitstream inputs does not ask for it. -/
def runningTooWide : State := { dev := { regs := [(SNS_SDCK_k_RUNNING.key 0, 2)] } }

/-- The clock is disabled there, its converter has the reference, and a word that sets `EN` with `DIV` at 5 is accepted. -/
theorem runningTooWide_startable : runningTooWide.dev.fb SNS_SDCK_k_EN 0 = false ∧ runningTooWide.dev.convStopped = false ∧
    runningTooWide.dev.accepts .mm (SNS_SDCK_k_EN.at 0) (0x80000005 : W32).toNat := by
  unfold Dev.accepts
  decide

/-- The write takes the clock for one that runs already, and leaves the place as it was. -/
theorem runningTooWide_start (t : State) (h : exec (.sdckStart .mm 0 0x80000005) runningTooWide = .next t) : t.dev.fg SNS_SDCK_k_RUNNING 0 = 2 := by
  rw [State.lift_next h, Dev.fg_land]
  decide

/-- Refutes O19: a modulator clock that is enabled is claimed to show `RUNNING` as 1 or 0 from every state, also one where the register file
holds 2 in the place of this field of one bit (`runningTooWide`); there the write leaves it at 2. -/
theorem not_sensingInputs : ¬ Obligations.SensingInputs := by
  intro h
  obtain ⟨hstart, -⟩ := h runningTooWide .mm rfl
  obtain ⟨hen, hconv, hok⟩ := runningTooWide_startable
  obtain ⟨t, ht, -, hrun⟩ := hstart 0 0x80000005 (by decide) hen hok
  have hwide : b2n (!runningTooWide.dev.convStopped) = 2 := hrun.symm.trans (runningTooWide_start t ht)
  rw [hconv] at hwide
  cases hwide

end Sys2Proof.Machine
end

section
/-! SUPPORT. The statement about metering samples and the rotation of converters (04). -/
set_option Elab.async false

namespace Sys2Proof.Machine
namespace Dev

/-! ### Metering samples (R81 to R85) -/

/-- A sample at a fixed gain, whose peak stays below 90 % of full scale there and below 95 % of that of the ×1 path: no event, and
the corrected code of the ranging path. -/
theorem mtrSample_fixed {d : Dev} {c : Nat} {i : MtrIn} (ha : d.fbit SNS_MTR_GAIN_AUTO c = false)
    (h90 : peakOver i.pk (d.mtrFix c) 90 = false) (h95 : peakOver i.pk 0 95 = false) : (d.mtrSample c i).evt = d.evt ∧
      (d.mtrSample c i).sns.inFlight = d.sns.inFlight ++ [⟨d.clk.ticks / 100000, c,
        (d.corrected (vget d.sns.mtr c).conv (d.mtrFix c) i.rg).toInt * 2 ^ (8 - 2 * d.mtrFix c), d.mtrFix c, false, false,
        (vget d.sns.mtr c).handover, (vget d.sns.mtr c).conv, d.deg, i.read⟩] := by
  simp [mtrSample, ha, h90, h95, updMtr]

/-- A set of samples of one measured channel, on the tick of a sample instant, once. -/
theorem meteringSampleDev_one {d : Dev} {l : List MtrIn} {c : Nat} (hcal : d.sns.mtrCalDone = true) (hconv : d.convStopped = false)
    (hl : l.length = 8) (ht : d.clk.ticks % 100000 = 0) (hk : (d.sns.inFlight.any fun x => x.k == d.clk.ticks / 100000) = false)
    (hon : (List.range 8).filter d.mtrOn = [c]) : let e := d.mtrSample c (l.getD c {})
      meteringSampleDev l d = { e with sns := { e.sns with rot := e.sns.rot.map fun r => { r with n := r.n + 1 } } } := by
  have hdue : decide ((if d.deg then 8 else 1) ≤ d.clk.ticks % 100000) = false := by
    rw [ht]
    cases d.deg <;> rfl
  simp [meteringSampleDev, hcal, hconv, hl, hdue, hk, hon]

/-- The delivery of a set of one sample. -/
theorem deliveryDev_one {d e : Dev} {x : MtrSample} (hf : d.sns.inFlight = [x]) (ht : 100000 * x.k + 250000 ≤ d.clk.ticks)
    (he : mtrPost { d with sns := { d.sns with inFlight := [] } } x = e) :
    deliveryDev d = if x.read || !((List.range 7).map e.talChan).contains x.ch then e.talSet x.k [x] else e := by
  simp [deliveryDev, hf, Nat.not_lt.2 ht, he]

/-! ### Rotation of the spare converter (R86, R87) -/

theorem rotTry_idle {d : Dev} (h : d.fb SNS_MTR_ROT_REQ = false) : d.rotTry = d := if_neg (by simp [h])

theorem rotTry_unready {d : Dev} (h : d.rotReady = false) : d.rotTry = d := if_neg (by simp [h])

theorem rotStart_flags (d : Dev) : d.rotStart.fg SNS_MTR_ROT_STEP_ACTIVE = 1 ∧ d.rotStart.fg SNS_MTR_ROT_REQ = 0 := by
  constructor
  · exact ((fg_fs_ne _ _ _ _ _ _ (by decide)).trans (fg_fs_ne _ _ _ _ _ _ (by decide))).trans
      ((fg_fs_ne _ _ _ _ _ _ (by decide)).trans (fg_fs ..))
  · exact (fg_fs_ne _ _ _ _ _ _ (by decide)).trans (fg_fs ..)

/-- What a handover leaves: the step goes on to measure the offset of the old converter. -/
def handedOver (d : Dev) (r : RotStep) : Dev :=
  let m := (d.swapConv r.old r.spare).sns.mtr
  { d with sns := { d.sns with mtr := vset m r.ch { vget m r.ch with handover := true }, rot := some { r with phase := .offset } } }

theorem rotationHandoverDev_due {d : Dev} {r : RotStep} (hr : d.sns.rot = some r) (hp : r.phase = .parallel) (hn : 64 ≤ r.n) :
    rotationHandoverDev d = d.handedOver r := by simp [rotationHandoverDev, handedOver, updMtr, swapConv, hr, hp, hn]

theorem rotationHandoverDev_early {d : Dev} {r : RotStep} (hr : d.sns.rot = some r) (hn : r.n < 64) : rotationHandoverDev d = d := by
  simp [rotationHandoverDev, hr, Nat.not_le.2 hn]

/-- The channel of the step goes over to the spare. -/
theorem handedOver_channel {d : Dev} {r : RotStep} (hch : r.ch < 8) (hold : (vget d.sns.mtr r.ch).conv = r.old) :
    (vget (d.handedOver r).sns.mtr r.ch).conv = r.spare ∧ (vget (d.handedOver r).sns.mtr r.ch).handover = true := by
  have hmtr : vget (d.handedOver r).sns.mtr r.ch =
      { vget (d.swapConv r.old r.spare).sns.mtr r.ch with handover := true } := vget_vset_same _ _ _ hch
  rw [hmtr, swapConv, vget_vmap _ _ hch]
  exact ⟨if_pos hold, rfl⟩

theorem rotationOffsetDev_due {d : Dev} {r : RotStep} (hr : d.sns.rot = some r) (hp : r.phase = .offset) (hn : 320 ≤ r.n) (o : BitVec 16) :
    rotationOffsetDev o d = { d with sns := { d.sns with rot := some { r with phase := .gain, ofs := o } } } := by
  simp [rotationOffsetDev, hr, hp, hn]

/-! ### Calibration of a converter (R86, R388) -/

/-- A calibration's offset and gains are within the limits of R86. -/
def calPasses (c : ConvCal) : Bool :=
  decide (c.ofs.toInt.natAbs ≤ 2048) && [c.g1, c.g4, c.g16, c.g64].all fun g => decide (g.natAbs ≤ 5000)

theorem calPasses_iff (c : ConvCal) : calPasses c = true ↔ c.ofs.toInt.natAbs ≤ 2048 ∧ c.g1.natAbs ≤ 5000 ∧ c.g4.natAbs ≤ 5000 ∧
    c.g16.natAbs ≤ 5000 ∧ c.g64.natAbs ≤ 5000 := by simp [calPasses]

/-- What every calibration of converter `k` shows. -/
def calShown (d : Dev) (k : Nat) (c : ConvCal) : Dev := (d.fs SNS_MTR_CONV_k_CAL_OFS c.ofs.toNat k).finc SNS_MTR_CONV_k_CAL_SEQ k

/-- What a failed calibration leaves before its occurrence is counted. -/
def calFailed (d : Dev) (k : Nat) (c : ConvCal) : Dev :=
  (((d.calShown k c).fs SNS_MTR_CONV_k_CAL_FAIL 1 k).fs SNS_STAT_MTR_CAL_FAULT 1).raise 23 k

section
variable {d : Dev} {c : ConvCal} {k : Nat}

theorem calResult_pass (h : calPasses c = true) : d.calResult k c =
    ({ d.calShown k c with sns := { d.sns with cor := vset d.sns.cor k (some c) } } : Dev).fs SNS_MTR_CONV_k_CAL_VALID 1 k := if_pos h

/-- Counting the occurrence changes neither the register file nor what is stored for the converters. -/
theorem calResult_fail (h : calPasses c = false) : ∃ occ out, d.calResult k c =
    { d.calFailed k c with sns := { d.sns with calOcc := occ, withdrawn := out } } := by
  by_cases hl : ((d.calFailed k c).classHit 1 (vget d.sns.calOcc k)).2 && !d.sns.withdrawn.contains k
  · exact ⟨_, _, (if_neg (Bool.eq_false_iff.1 h)).trans (if_pos hl)⟩
  · exact ⟨_, _, (if_neg (Bool.eq_false_iff.1 h)).trans (if_neg hl)⟩

/-- The register `SNS_MTR_CONV_k` by its address. -/
theorem convKey_div (F : Fld) (hF : F.base = 0x20030580 ∧ F.stride = 4 ∧ F.lo < 32 := by decide) : F.key k / 32 = 0x20030580 + 4 * k := by
  obtain ⟨hb, hs, hlo⟩ := hF
  simp only [Fld.key, hb, hs]
  omega

/-- A write to a field of `SNS_MTR_CONV_k` leaves every other register alone. -/
theorem fg_fs_conv {F G : Fld} {v m : Nat} (hG : G.key m / 32 ≠ 0x20030580 + 4 * k)
    (hF : F.base = 0x20030580 ∧ F.stride = 4 ∧ F.lo < 32 := by decide) : (d.fs F v k).fg G m = d.fg G m :=
  fg_fs_reg (by rwa [convKey_div F hF])

theorem fg_calShown {G : Fld} {m : Nat} (hG : G.key m / 32 ≠ 0x20030580 + 4 * k) : (d.calShown k c).fg G m = d.fg G m :=
  (fg_fs_conv hG).trans (fg_fs_conv hG)

theorem calShown_leavesClk : LeavesClk d (d.calShown k c) := .finc (.fs .refl)

theorem calShown_ofs : (d.calShown k c).fgS SNS_MTR_CONV_k_CAL_OFS k = c.ofs.toInt := by
  have hofs : (d.calShown k c).fg SNS_MTR_CONV_k_CAL_OFS k = c.ofs.toNat % 2 ^ 16 :=
    Eq.trans fg_fs_stride (fg_fs ..)
  have hlt := c.ofs.isLt
  rw [fgS, hofs, sval, BitVec.toInt]
  simp only [SNS_MTR_CONV_k_CAL_OFS]
  omega

/-- A calibration that passes stores its corrections and raises nothing. -/
theorem calResult_pass_spec (h : calPasses c = true) : LeavesClk d (d.calResult k c) ∧ (d.calResult k c).evt = d.evt ∧
    (d.calResult k c).sns = { d.sns with cor := vset d.sns.cor k (some c) } ∧ (d.calResult k c).fg SNS_MTR_CONV_k_CAL_VALID k = 1 ∧
    (d.calResult k c).fgS SNS_MTR_CONV_k_CAL_OFS k = c.ofs.toInt ∧
    ∀ (G : Fld) (m : Nat), G.key m / 32 ≠ 0x20030580 + 4 * k → (d.calResult k c).fg G m = d.fg G m := by
  rw [calResult_pass h]
  refine ⟨.fs (.sns calShown_leavesClk), rfl, rfl, fg_fs .., ?ofs, fun G m hG => ?other⟩
  case ofs => exact (congrArg (sval 16) fg_fs_stride).trans calShown_ofs
  case other => exact (fg_fs_conv hG).trans (fg_calShown hG)

/-- One that fails is shown and raises its event; the corrections stay. -/
theorem calResult_fail_spec (h : calPasses c = false) : LeavesClk d (d.calResult k c) ∧ (d.calResult k c).evt = (d.raise 23 k).evt ∧
    (d.calResult k c).sns.cor = d.sns.cor ∧ (d.calResult k c).fg SNS_STAT_MTR_CAL_FAULT = 1 ∧
    (d.calResult k c).fg SNS_MTR_CONV_k_CAL_FAIL k = 1 ∧
    ∀ (G : Fld) (m : Nat), G.key m / 32 ≠ 0x20030580 + 4 * k → G.key m / 32 ≠ 0x20030004 → (d.calResult k c).fg G m = d.fg G m := by
  obtain ⟨occ, out, he⟩ := calResult_fail (d := d) (k := k) h
  have hleaves : LeavesClk d (((d.calShown k c).fs SNS_MTR_CONV_k_CAL_FAIL 1 k).fs SNS_STAT_MTR_CAL_FAULT 1) := .fs (.fs calShown_leavesClk)
  rw [he]
  refine ⟨.sns hleaves.raise, hleaves.raise_evt rfl _ _, rfl, fg_fs .., ?fail, fun G m hG hS => ?other⟩
  case fail => exact (fg_fs_reg (by rw [convKey_div SNS_MTR_CONV_k_CAL_FAIL]; simp only [Fld.key, SNS_STAT_MTR_CAL_FAULT]; omega)).trans (fg_fs ..)
  case other => exact (fg_fs_reg hS).trans ((fg_fs_conv hG).trans (fg_calShown hG))

end

/-- What the end of a rotation step leaves of the device that its calibration has left. -/
def rotEnded (d : Dev) (k : Nat) : Dev :=
  (((({ d with sns := { d.sns with rot := none } } : Dev).fs SNS_MTR_ROT_STEP_ACTIVE 0).showSpare.finc SNS_MTR_ROT_ROT_SEQ).raise 22 k)

theorem rotEnded_leavesClk (d : Dev) (k : Nat) : LeavesClk d (d.rotEnded k) :=
  .raise (.finc (.fs (.fs (.sns .refl))))

theorem fg_rotEnded {d : Dev} {k m : Nat} {G : Fld} (hG : G.key m / 32 ≠ 0x20030508) : (d.rotEnded k).fg G m = d.fg G m :=
  (fg_fs_reg hG).trans ((fg_fs_reg hG).trans (fg_fs_reg hG))

theorem fg_rotEnded_conv {d : Dev} {k : Nat} {F : Fld} (hF : F.base = 0x20030580 ∧ F.stride = 4 ∧ F.lo < 32 := by decide) :
    (d.rotEnded k).fg F k = d.fg F k := fg_rotEnded (by rw [convKey_div F hF]; omega)

theorem rotEnded_stepActive (d : Dev) (k : Nat) : (d.rotEnded k).fg SNS_MTR_ROT_STEP_ACTIVE = 0 :=
  (fg_fs_ne _ _ _ _ _ _ (by decide)).trans ((fg_fs_ne _ _ _ _ _ _ (by decide)).trans (fg_fs ..))

theorem rotEnded_req (d : Dev) (k : Nat) : (d.rotEnded k).fg SNS_MTR_ROT_REQ = d.fg SNS_MTR_ROT_REQ :=
  (fg_fs_ne _ _ _ _ _ _ (by decide)).trans ((fg_fs_ne _ _ _ _ _ _ (by decide)).trans (fg_fs_ne _ _ _ _ _ _ (by decide)))

theorem rotEnded_spare (d : Dev) (k : Nat) :
    (d.rotEnded k).fg SNS_MTR_ROT_SPARE_CONV = (vget d.sns.mtr (d.fg SNS_MTR_CTRL_SPARE)).conv % 8 := by
  refine (fg_fs_ne _ _ _ _ _ _ (by decide)).trans ((fg_fs ..).trans ?_)
  rw [fg_fs_ne _ _ _ _ _ _ (by decide)]
  rfl

theorem rotEnded_evt (d : Dev) (k : Nat) : (d.rotEnded k).evt = (d.raise 22 k).evt :=
  LeavesClk.raise_evt (.finc (.fs (.fs (.sns .refl)))) rfl 22 k

/-- The gains are measured: the old converter's calibration is judged and the step ends; no other one starts, as none is requested. -/
theorem rotationCalDev_due {d : Dev} {r : RotStep} {g1 g4 g16 g64 : Int} {e : Dev} (hr : d.sns.rot = some r) (hp : r.phase = .gain)
    (hn : 1344 ≤ r.n) (he : d.calResult r.old ⟨r.ofs, g1, g4, g16, g64⟩ = e) (hreq : e.fb SNS_MTR_ROT_REQ = false) :
    rotationCalDev g1 g4 g16 g64 d = e.rotEnded r.old := by
  have hidle : (e.rotEnded r.old).rotTry = e.rotEnded r.old := rotTry_idle ((fb_of_fg (rotEnded_req e r.old)).trans hreq)
  rw [← hidle, ← he]
  simp [rotationCalDev, hr, hp, hn, rotEnded]

/-- The start-up calibration: converters that pass each hold what it stored, and nothing is raised (R388). -/
theorem foldl_calResult_spec {cal : Nat → ConvCal} {l : List Nat} {d : Dev} (hcal : ∀ k ∈ l, calPasses (cal k) = true) :
    let e := l.foldl (fun d k => d.calResult k (cal k)) d
    e.evt = d.evt ∧ e.fg SNS_MTR_ROT_REQ = d.fg SNS_MTR_ROT_REQ ∧
      ∀ k, k ∈ l ∨ d.fg SNS_MTR_CONV_k_CAL_VALID k = 1 → e.fg SNS_MTR_CONV_k_CAL_VALID k = 1 := by
  induction l generalizing d with
  | nil => exact ⟨rfl, rfl, fun k hk => hk.elim nofun id⟩
  | cons j t ih =>
    obtain ⟨-, hevt, -, hvalid, -, hkeep⟩ := calResult_pass_spec (d := d) (k := j) (hcal j (.head _))
    obtain ⟨hevt', hreq', hvalid'⟩ := ih (d := d.calResult j (cal j)) fun k hk => hcal k (.tail _ hk)
    refine ⟨hevt'.trans hevt, hreq'.trans (hkeep _ _ ?_), fun k hk => hvalid' k ?_⟩
    · simp only [Fld.key, SNS_MTR_ROT_REQ]
      omega
    · by_cases hkj : k = j
      · exact .inr (hkj ▸ hvalid)
      · exact (hk.imp_left fun hm => (List.mem_cons.1 hm).resolve_left hkj).imp_right fun h1 =>
          (hkeep _ _ (by rw [convKey_div SNS_MTR_CONV_k_CAL_VALID]; omega)).trans h1

theorem initialCalDev_passes {d : Dev} {cal : List ConvCal} (hdone : d.sns.mtrCalDone = false) (hl : cal.length = 8)
    (hreq : d.fb SNS_MTR_ROT_REQ = false) (hcal : ∀ x ∈ cal, calPasses x = true) :
    ∃ e, initialCalDev cal d = e ∧ e.sns.mtrCalDone = true ∧ e.evt = d.evt ∧ ∀ k : Fin 8, e.fg SNS_MTR_CONV_k_CAL_VALID k = 1 := by
  obtain ⟨hevt, hreqc, hvalid⟩ := foldl_calResult_spec (d := d) (cal := (cal.getD · {})) (l := List.range 8) fun k hk => by
    have hlt : k < cal.length := hl ▸ List.mem_range.1 hk
    rw [List.getD_eq_getElem _ _ hlt]
    exact hcal _ (List.getElem_mem hlt)
  obtain ⟨e, he⟩ : ∃ e, (List.range 8).foldl (fun d k => d.calResult k (cal.getD k {})) d = e := ⟨_, rfl⟩
  rw [he] at hevt hreqc hvalid
  refine ⟨{ e with sns := { e.sns with mtrCalDone := true } }, ?_, rfl, hevt, fun k => hvalid k (.inl (List.mem_range.2 k.isLt))⟩
  rw [initialCalDev, if_neg (by simp [hdone, hl]), he]
  exact rotTry_idle ((fb_of_fg hreqc).trans hreq)

/-! ### The request for a rotation step (R87) -/

/-- The flags of the rotation and of its request have no part in whether a step can start. -/
theorem rotReady_fs {d : Dev} {F : Fld} {v n : Nat} (hF : 0x20020000 ≤ F.base ∧ F.key n / 32 ≠ 0x20030500) :
    (d.fs F v n).rotReady = d.rotReady := by
  obtain ⟨hbase, hreg⟩ := hF
  have hconv : (d.fs F v n).convStopped = d.convStopped := (LeavesClk.fs .refl hbase).convStopped_eq
  have hctrl {G : Fld} (hG : G.key 0 / 32 = 0x20030500 := by rfl) : (d.fs F v n).fg G = d.fg G := fg_fs_reg (hG ▸ Ne.symm hreg)
  have hon : (d.fs F v n).mtrOn = d.mtrOn := by
    funext c
    rw [mtrOn, mtrOn, fbit, fb, hctrl, hctrl, hctrl, fbit, fb]
  rw [rotReady, rotReady, hconv, hon, fb, hctrl, fb, fs_sns]

/-- `SNS_MTR_ROT` in the register map. -/
def mtrRotReg : Reg := ⟨0x20030508, 0x0, 0, 1, [⟨SNS_MTR_ROT_ROT_SEQ, .RO, .any⟩, ⟨SNS_MTR_ROT_STEP_ACTIVE, .RO, .any⟩,
  ⟨SNS_MTR_ROT_STEP_CH, .RO, .any⟩, ⟨SNS_MTR_ROT_SPARE_CONV, .RO, .any⟩, ⟨SNS_MTR_ROT_REQ, .W1S, .any⟩]⟩

theorem findReg_mtrRot : findReg (SNS_MTR_ROT_REQ.at 0) = some (mtrRotReg, 0) := rfl

/-- Its request is stored, and a step that cannot start yet leaves it pending. -/
theorem regWrite_mtrRot {d : Dev} {a : Acc} (hr : d.rotReady = false)
    (hok : d.accepts a (SNS_MTR_ROT_REQ.at 0) (2 ^ SNS_MTR_ROT_REQ.lo)) : (d.regWrite a (SNS_MTR_ROT_REQ.at 0) (2 ^ SNS_MTR_ROT_REQ.lo)).2 =
      ((d.fs SNS_MTR_ROT_REQ (Nat.lor (d.fg SNS_MTR_ROT_REQ) 1)).fs SNS_MTR_ROT_REQ 1).fs SNS_STAT_MTR_CAL_PENDING 1 := by
  have hstore : d.storeWord mtrRotReg 0 (2 ^ SNS_MTR_ROT_REQ.lo) = d.fs SNS_MTR_ROT_REQ (Nat.lor (d.fg SNS_MTR_ROT_REQ) 1) := rfl
  have hreq : (d.fs SNS_MTR_ROT_REQ (Nat.lor (d.fg SNS_MTR_ROT_REQ) 1)).fb SNS_MTR_ROT_REQ = true :=
    congrArg (· != 0) (fg_fs_lor_one d rfl _ 0)
  rw [regWrite_accepted findReg_mtrRot rfl (by decide) (by decide) rfl rfl hok, hstore]
  refine (if_pos hreq).trans (rotTry_unready ?_)
  rw [rotReady_fs (by decide), rotReady_fs (by decide), rotReady_fs (by decide), hr]

end Dev

/-- Settles O20: a sample at a fixed gain is the corrected code of its path; a rotation step goes through its phases by their sample counts, and
its calibration stores corrections or shows a failure, as those at start-up do. -/
theorem meteringConverters : Obligations.MeteringConverters := by
  intro s a up d
  refine ⟨?sample, ?delivery, ?start, ?early, ?handover, ?offset, ?passes, ?fails, ?request, ?initial⟩
  case sample =>
    intro c l i hi hcal hconv hl ht hk hon hauto h90 h95
    have hi' : l.getD c.val {} = i := by rw [List.getD_eq_getElem?_getD, hi, Option.getD_some]
    obtain ⟨hevt, hflight⟩ := Dev.mtrSample_fixed hauto h90 h95
    refine ⟨_, State.run_eq up (Dev.meteringSampleDev_one hcal hconv hl ht hk hon), ?_, ?_⟩
    · rw [hi']
      exact hevt
    · rw [hi']
      exact hflight
  case delivery => exact fun x e hf ht he => (State.runTal_up up _).trans (by rw [Dev.deliveryDev_one hf ht he])
  case start =>
    intro hr
    obtain ⟨hact, hreq⟩ := Dev.rotStart_flags d
    exact ⟨_, State.run_eq up (if_pos hr), hact, hreq, rfl, rfl⟩
  case early => exact fun r hr _ hn => State.run_eq up (Dev.rotationHandoverDev_early hr hn)
  case handover =>
    intro r hr hp hch hn hold
    obtain ⟨hconv, hhand⟩ := Dev.handedOver_channel (d := d) hch hold
    exact ⟨_, State.run_eq up (Dev.rotationHandoverDev_due hr hp hn), hconv, hhand, rfl, rfl⟩
  case offset => exact fun r o hr hp hn => ⟨_, State.run_eq up (Dev.rotationOffsetDev_due hr hp hn o), rfl, rfl⟩
  case passes =>
    intro r g1 g4 g16 g64 hr hp hn hold hofs hreq h1 h4 h16 h64
    obtain ⟨e, he⟩ : ∃ e, d.calResult r.old ⟨r.ofs, g1, g4, g16, g64⟩ = e := ⟨_, rfl⟩
    obtain ⟨hclk, hevt, hsns, hvalid, hcofs, hkeep⟩ :=
      Dev.calResult_pass_spec (d := d) (k := r.old) ((Dev.calPasses_iff ⟨r.ofs, g1, g4, g16, g64⟩).2 ⟨hofs, h1, h4, h16, h64⟩)
    rw [he] at hclk hevt hsns hvalid hcofs hkeep
    have hother {F : Fld} (hF : F.key 0 / 32 < 0x20030580 := by decide) : e.fg F = d.fg F := hkeep F 0 (by omega)
    refine ⟨_, State.run_eq up (Dev.rotationCalDev_due hr hp hn he ((Dev.fb_of_fg hother).trans hreq)), ?_, ?_, ?_, ?_, ?_, rfl, ?_⟩
    · exact Eq.trans Dev.fg_rotEnded_conv hvalid
    · exact (congrArg (sval 16) Dev.fg_rotEnded_conv).trans hcofs
    · exact (Dev.rotEnded_spare e r.old).trans (by rw [hother, hsns])
    · exact (congrArg (fun x : Sns => vget x.cor r.old) hsns).trans (vget_vset_same _ _ _ hold)
    · exact Dev.rotEnded_stepActive e r.old
    · exact (Dev.rotEnded_evt e r.old).trans (hclk.raise_evt hevt 22 r.old)
  case fails =>
    intro r g1 g4 g16 g64 hr hp hn hold hreq h16
    obtain ⟨e, he⟩ : ∃ e, d.calResult r.old ⟨r.ofs, g1, g4, g16, g64⟩ = e := ⟨_, rfl⟩
    have hfail : Dev.calPasses ⟨r.ofs, g1, g4, g16, g64⟩ = false := by
      rw [Bool.eq_false_iff, ne_eq, Dev.calPasses_iff]
      exact fun ⟨_, _, _, h, _⟩ => Nat.not_le.2 h16 h
    obtain ⟨hclk, hevt, hcor, hfault, hshown, hkeep⟩ := Dev.calResult_fail_spec (d := d) (k := r.old) hfail
    rw [he] at hclk hevt hcor hfault hshown hkeep
    have hreq' : e.fb SNS_MTR_ROT_REQ = false := (Dev.fb_of_fg (hkeep _ 0 (by simp only [Fld.key, SNS_MTR_ROT_REQ]; omega) (by decide))).trans hreq
    refine ⟨_, State.run_eq up (Dev.rotationCalDev_due hr hp hn he hreq'), ?_, ?_, hcor, ?_⟩
    · exact Eq.trans Dev.fg_rotEnded_conv hshown
    · exact (Dev.fg_rotEnded (k := r.old) (by decide)).trans hfault
    · exact (Dev.rotEnded_evt e r.old).trans (Dev.LeavesClk.raise_evt (d := d.raise 23 r.old) hclk hevt 22 r.old)
  case request =>
    intro hr hok
    refine ⟨_, State.run_eq up (Dev.regWrite_mtrRot hr hok), ?_, Dev.fg_fs .., rfl⟩
    exact (Dev.fg_fs_ne _ _ _ _ _ _ (by decide)).trans (Dev.fg_fs ..)
  case initial =>
    intro cal hdone hreq hl hcal
    obtain ⟨e, he, hcd, hevt, hvalid⟩ := Dev.initialCalDev_passes hdone hl hreq fun x hx => (Dev.calPasses_iff x).2 (hcal x hx)
    exact ⟨_, State.run_eq up he, hcd, hevt, hvalid⟩

end Sys2Proof.Machine
end

section
/-! SUPPORT. The statement about the auxiliary converter and the sensing commands (04). -/
set_option Elab.async false

namespace Sys2Proof.Machine
namespace Dev

/-! ### The scan (R88 to R91) -/

/-- A scan starts: the settings written since the last one apply. -/
theorem auxScanStartDev_starts {d : Dev} (hen : d.fb SNS_AUX_CTRL_EN = true) (hscan : d.sns.scanning = false)
    (hconv : d.convStopped = false) (hnext : d.sns.auxEn = true → d.sns.scanNext ≤ d.clk.ticks) :
    ∃ x : Sns, auxScanStartDev d = { d with sns := x } ∧ x.scanning = true ∧ x.auxEn = true ∧
      x.scanLeft = (List.range 16).filter d.auxOn ∧ x.refExt = d.fb SNS_AUX_CTRL_REF_EXT ∧
      x.owEvery = d.fg SNS_AUX_CTRL_OW_EVERY ∧ x.stEvery = d.fg SNS_AUX_CTRL_ST_PER ∧
      ∀ n : Fin 16, vget x.auxCh n = ⟨d.auxOn n, d.fb SNS_AUX_n_CFG_OW_EN n, d.fg SNS_AUX_n_CFG_SETTLE n⟩ := by
  have hgo : ¬ ((d.sns.scanning || d.convStopped || (d.sns.auxEn && decide (d.clk.ticks < d.sns.scanNext))) = true) := by
    simpa [hscan, hconv] using hnext
  refine ⟨_, if_neg hgo, hen, hen, (if_pos hen).trans (List.filter_congr fun n hn => ?slot), rfl, rfl, rfl, fun n => ?channel⟩
  case slot => simp [vget, List.mem_range.1 hn]
  case channel => simp [vget]

theorem auxScanStartDev_early {d : Dev} (hen : d.sns.auxEn = true) (ht : d.clk.ticks < d.sns.scanNext) : auxScanStartDev d = d :=
  if_pos (by simp [hen, ht])

/-- What the result of input `n` shows in its own register (R89, R91). -/
def auxShown (d : Dev) (n code : Nat) (bad : Bool) : Dev :=
  let d := ((d.finc SNS_AUX_n_RES_SEQ n).fs SNS_AUX_n_RES_SETTLED (b2n !d.sns.refChanged) n).fs SNS_AUX_n_RES_OPEN
    (b2n (d.fbit SNS_AUX_STAT_OW n)) n
  ((d.fs SNS_AUX_n_RES_RANGE (b2n bad) n).fs SNS_AUX_n_RES_DEGRADED (b2n d.deg) n).fs SNS_AUX_n_RES_CODE code n

/-- What a range error, or its end, leaves in `SNS_AUX_RNG` (R89). -/
def auxRanged (d : Dev) (n : Nat) (bad : Bool) : Dev :=
  let e := d.fsBit SNS_AUX_RNG_RNG n bad
  let e := if bad then e.fsBit SNS_AUX_RNG_RNG_SEEN n true else e
  if bad && !d.fbit SNS_AUX_RNG_RNG n then e.raise 26 n else e

theorem auxRanged_keeps (d : Dev) (n : Nat) (bad : Bool) : (d.auxRanged n bad).sns = d.sns ∧
    ∀ (G : Fld) (m : Nat), G.key m / 32 ≠ 0x20030704 → (d.auxRanged n bad).fg G m = d.fg G m := by
  unfold auxRanged
  cases bad
  · exact ⟨rfl, fun G m hG => fg_fs_reg hG⟩
  · cases d.fbit SNS_AUX_RNG_RNG n <;> exact ⟨rfl, fun G m hG => (fg_fs_reg hG).trans (fg_fs_reg hG)⟩

/-- The input's result lies outside its limits (R89). -/
def auxBad (d : Dev) (n code : Nat) : Bool :=
  decide (sval 16 (code / 16) < d.fgS SNS_AUX_n_LIM_LO n) || decide (d.fgS SNS_AUX_n_LIM_HI n < sval 16 (code / 16))

theorem b2n_mod_two (b : Bool) : b2n b % 2 = b2n b := by cases b <;> rfl

theorem auxShown_fields (d : Dev) (n code : Nat) (bad : Bool) : (d.auxShown n code bad).sns = d.sns ∧
    (d.auxShown n code bad).fg SNS_AUX_n_RES_CODE n = code % 2 ^ 20 ∧
    (d.auxShown n code bad).fg SNS_AUX_n_RES_SEQ n = (d.fg SNS_AUX_n_RES_SEQ n + 1) % 2 ^ SNS_AUX_n_RES_SEQ.len ∧
    (d.auxShown n code bad).fg SNS_AUX_n_RES_RANGE n = b2n bad := by
  refine ⟨rfl, fg_fs .., ?seq, ?range⟩
  case seq =>
    exact Eq.trans fg_fs_stride (Eq.trans fg_fs_stride (Eq.trans fg_fs_stride (Eq.trans fg_fs_stride (Eq.trans fg_fs_stride (fg_fs ..)))))
  case range => exact Eq.trans fg_fs_stride (Eq.trans fg_fs_stride ((fg_fs ..).trans (b2n_mod_two bad)))

/-- The result of input `n` (R88 to R91), up to its mailbox and the sensors that read it. -/
theorem auxResult_spec (d : Dev) (n : Nat) (code : BitVec 20) (hn : n < 16) : ∃ e : Dev, d.auxResult n code.toNat = (e.mailbox 3 n).thmAux n ∧
    e.fg SNS_AUX_n_RES_CODE n = code.toNat ∧ e.fg SNS_AUX_n_RES_SEQ n = (d.fg SNS_AUX_n_RES_SEQ n + 1) % 2 ^ SNS_AUX_n_RES_SEQ.len ∧
    e.sns.scanLeft = d.sns.scanLeft ∧ e.fg SNS_AUX_n_RES_RANGE n = b2n (d.auxBad n code.toNat) := by
  obtain ⟨f, hf⟩ : ∃ f, d.auxShown n code.toNat (d.auxBad n code.toNat) = f := ⟨_, rfl⟩
  obtain ⟨g, hg⟩ : ∃ g, f.auxRanged n (d.auxBad n code.toNat) = g := ⟨_, rfl⟩
  obtain ⟨hsns, hcode, hseq, hrange⟩ := auxShown_fields d n code.toNat (d.auxBad n code.toNat)
  obtain ⟨hsns', hkeep⟩ := auxRanged_keeps f n (d.auxBad n code.toNat)
  rw [hf] at hsns hcode hseq hrange
  rw [hg] at hsns' hkeep
  have hres {F : Fld} (hF : F.base = 0x200306C0 ∧ F.stride = 4 ∧ F.lo < 32 := by decide) : g.fg F n = f.fg F n := by
    obtain ⟨hb, hs, hlo⟩ := hF
    exact hkeep F n (by simp only [Fld.key, hb, hs]; omega)
  refine ⟨{ g with sns := { g.sns with aux := vset g.sns.aux n ⟨g.clk.ticks, g.deg, (vget g.sns.aux n).writes + 1⟩ } }, ?result, ?code, ?seq,
    congrArg (·.scanLeft) (hsns'.trans hsns), ?range⟩
  case result =>
    rw [← hg, ← hf]
    rfl
  case code => exact (Eq.trans hres hcode).trans (Nat.mod_eq_of_lt code.isLt)
  case seq => exact Eq.trans hres hseq
  case range => exact Eq.trans hres hrange

/-- The conversion of the scan's next channel has ended. -/
theorem auxConversionDev_ends {d : Dev} {n : Nat} {t : List Nat} (hscan : d.sns.scanning = true) (hconv : d.convStopped = false)
    (hleft : d.sns.scanLeft = n :: t) (hend : d.sns.auxFrom + d.auxSlot n * 800 ≤ d.clk.ticks) (code : Nat) (die : Int) :
    let e := ({ d with sns := { d.sns with scanLeft := t, auxFrom := d.clk.ticks } } : Dev).auxResult n code
    auxConversionDev code die d = if t = [] then e.scanEnd die else e := by
  simp [auxConversionDev, hscan, hconv, hleft, auxEnded, hend]

/-! ### The tests in the gaps (R90, R92) -/

theorem auxPick_gap {d : Dev} {n : Nat} (h : d.auxPick = some n) : d.sns.auxEn = true ∧ d.sns.scanning = false ∧ d.convStopped = false := by
  rw [auxPick] at h
  split at h
  · cases h
  · next hg => simpa [auxGap, and_assoc] using hg

/-- The test that runs is the first, in the order of the inputs and the self-test last, that is due and fits (R92). -/
theorem auxPick_first {d : Dev} {n : Nat} (h : d.auxPick = some n) :
    if n = 16 then d.stDue = true ∧ d.auxFits 600 = true ∧ ∀ m : Fin 16, d.owWaits m = true → d.auxFits (d.auxSlot m) = false
    else n < 16 ∧ d.owWaits n = true ∧ d.auxFits (d.auxSlot n) = true ∧
      ∀ m : Fin 16, m.val < n → d.owWaits m = true → d.auxFits (d.auxSlot m) = false := by
  rw [auxPick] at h
  split at h
  · cases h
  split at h
  · next k hk =>
    obtain rfl := Option.some.inj h
    obtain ⟨hp, hmem, hfirst⟩ := List.find?_range_eq_some.1 hk
    obtain ⟨hw, hfit⟩ := Bool.and_eq_true_iff.1 hp
    have hlt := List.mem_range.1 hmem
    rw [if_neg (by omega)]
    exact ⟨hlt, hw, hfit, fun m hm hwm => by simpa [hwm] using hfirst m hm⟩
  · next hnone =>
    split at h
    · next hst =>
      obtain rfl := Option.some.inj h
      obtain ⟨hdue, hfit⟩ := Bool.and_eq_true_iff.1 hst
      exact ⟨hdue, hfit, fun m hwm => by simpa [hwm] using List.find?_eq_none.1 hnone m (List.mem_range.2 m.isLt)⟩
    · cases h

/-- What the end of an open-wire conversion of input `n` shows (R90). -/
def owShown (d : Dev) (n : Nat) (wire : Bool) : Dev :=
  if wire then ((d.fsBit SNS_AUX_STAT_OW n true).fsBit SNS_AUX_STAT_OW_SEEN n true).raise 25 n else d.fsBit SNS_AUX_STAT_OW n false

theorem owShown_spec (d : Dev) (n : Fin 16) (wire : Bool) : (d.owShown n wire).sns = d.sns ∧
    (d.owShown n wire).fbit SNS_AUX_STAT_OW n = wire ∧ (d.owShown n wire).evt = if wire then (d.raise 25 n).evt else d.evt := by
  have hbit (b : Bool) : (d.fsBit SNS_AUX_STAT_OW n b).fbit SNS_AUX_STAT_OW n = b := fbit_fsBit_same n.isLt d b 0
  cases wire with
  | false => exact ⟨rfl, hbit false, rfl⟩
  | true =>
    have hseen : (d.owShown n true).fg SNS_AUX_STAT_OW = (d.fsBit SNS_AUX_STAT_OW n true).fg SNS_AUX_STAT_OW :=
      (fg_raise ..).trans (fg_fs_ne _ _ _ _ _ _ (by decide))
    refine ⟨rfl, ?_, LeavesClk.raise_evt (.fsBit (.fsBit .refl)) rfl 25 n⟩
    rw [fbit, hseen]
    exact hbit true

/-- The open-wire conversion of input `n` is due no longer, and the converter is free from now on. -/
def owTaken (d : Dev) (n : Nat) : Dev :=
  { d with sns := { d.sns with owDue := d.sns.owDue.filter (· != n), owReq := d.sns.owReq.filter (· != n), auxFrom := d.clk.ticks } }

theorem openWireDev_ends {d : Dev} {n : Fin 16} (hp : d.auxPick = some n.val) (hend : d.sns.auxFrom + d.auxSlot n * 800 ≤ d.clk.ticks)
    (code : Int) : openWireDev code d = (d.owTaken n).owShown n (decide (513803 ≤ code)) := by
  have hne : n.val ≠ 16 := by omega
  simp [openWireDev, hp, hne, auxEnded, hend, owShown, owTaken]

theorem auxSelftestDueDev_due {d : Dev} (hen : d.sns.auxEn = true) (hper : d.sns.stEvery ≠ 0) : auxSelftestDueDev d = d.stFallDue :=
  if_pos (by simp [hen, hper])

theorem auxIdle_regs (d was : Dev) : (d.auxIdle was).regs = d.regs := by
  unfold auxIdle
  split <;> rfl

theorem auxIdle_sns (d was : Dev) : ∃ x, (d.auxIdle was).sns = { d.sns with auxFrom := x } := by
  unfold auxIdle
  split
  · exact ⟨_, rfl⟩
  · exact ⟨d.sns.auxFrom, rfl⟩

theorem stFallDue_spec (d : Dev) : d.stFallDue.sns.stPer = true ∧ d.stFallDue.sns.stDone = d.sns.stDone ∧ d.stFallDue.regs = d.regs := by
  obtain ⟨x, hx⟩ := auxIdle_sns d d
  exact ⟨rfl, congrArg (·.stDone) hx, auxIdle_regs d d⟩

/-- `SNS_AUX_TEST` in the register map. -/
def auxTestReg : Reg := ⟨0x20030708, 0x0, 0, 1, [⟨SNS_AUX_TEST_ST_SEQ, .RO, .any⟩, ⟨SNS_AUX_TEST_FAIL, .RO, .any⟩, ⟨SNS_AUX_TEST_REQ, .W1S, .any⟩]⟩

theorem findReg_auxTest : findReg (SNS_AUX_TEST_REQ.at 0) = some (auxTestReg, 0) := rfl

/-- A self-test that is requested is due. -/
theorem regWrite_auxTest {d : Dev} {a : Acc} (hok : d.accepts a (SNS_AUX_TEST_REQ.at 0) (2 ^ SNS_AUX_TEST_REQ.lo)) :
    ((d.regWrite a (SNS_AUX_TEST_REQ.at 0) (2 ^ SNS_AUX_TEST_REQ.lo)).2).fg SNS_AUX_TEST_REQ = 1 := by
  have hstore : d.storeWord auxTestReg 0 (2 ^ SNS_AUX_TEST_REQ.lo) = d.fs SNS_AUX_TEST_REQ (Nat.lor (d.fg SNS_AUX_TEST_REQ) 1) := rfl
  obtain ⟨e, he⟩ : ∃ e, d.fs SNS_AUX_TEST_REQ (Nat.lor (d.fg SNS_AUX_TEST_REQ) 1) = e := ⟨_, rfl⟩
  have hreq : e.fg SNS_AUX_TEST_REQ = 1 := he ▸ fg_fs_lor_one d rfl _ 0
  have hafter : (d.regWrite a (SNS_AUX_TEST_REQ.at 0) (2 ^ SNS_AUX_TEST_REQ.lo)).2 = if e.fb SNS_AUX_TEST_REQ && !d.stDue then e.auxIdle d else e := by
    rw [regWrite_accepted findReg_auxTest rfl (by decide) (by decide) rfl rfl hok, hstore, he]
    rfl
  rw [hafter]
  split
  · exact (fg_of_regs (auxIdle_regs e d) _ _).trans hreq
  · exact hreq

theorem stDue_of_req {d : Dev} (h : d.fg SNS_AUX_TEST_REQ = 1) : d.stDue = true := by simp [stDue, fb, h]

/-- What the last conversion of a self-test leaves; `bad` says whether one of the three was out of tolerance (R92). -/
def selftestEnded (d : Dev) (bad : Bool) : Dev :=
  let d : Dev := { d with sns := { d.sns with auxFrom := d.clk.ticks, stPer := false, stDone := 0, stBad := false } }
  let d := ((d.finc SNS_AUX_TEST_ST_SEQ).fs SNS_AUX_TEST_FAIL (b2n bad)).fs SNS_AUX_TEST_REQ 0
  if bad then (d.fs SNS_STAT_AUX_TEST_FAULT 1).raise 27 else d

theorem selftestEnded_good (d : Dev) : let e := d.selftestEnded false
    e.stDue = false ∧ e.fg SNS_AUX_TEST_FAIL = 0 ∧ e.fg SNS_AUX_TEST_REQ = 0 ∧
      e.fg SNS_AUX_TEST_ST_SEQ = (d.fg SNS_AUX_TEST_ST_SEQ + 1) % 2 ^ SNS_AUX_TEST_ST_SEQ.len ∧ e.evt = d.evt := by
  have hreq : (d.selftestEnded false).fg SNS_AUX_TEST_REQ = 0 := fg_fs ..
  refine ⟨?_, ?_, hreq, ?_, rfl⟩
  · rw [stDue, fb, hreq]
    rfl
  · exact (fg_fs_ne _ _ _ _ _ _ (by decide)).trans (fg_fs ..)
  · exact (fg_fs_ne _ _ _ _ _ _ (by decide)).trans ((fg_fs_ne _ _ _ _ _ _ (by decide)).trans (fg_fs ..))

theorem selftestEnded_bad (d : Dev) : let e := d.selftestEnded true
    e.fg SNS_AUX_TEST_FAIL = 1 ∧ e.fg SNS_STAT_AUX_TEST_FAULT = 1 ∧ e.evt = (d.raise 27).evt :=
  ⟨(fg_fs_ne _ _ _ _ _ _ (by decide)).trans ((fg_fs_ne _ _ _ _ _ _ (by decide)).trans (fg_fs ..)), fg_fs ..,
    LeavesClk.raise_evt (.fs (.fs (.fs (.finc (.sns .refl))))) rfl 27 0⟩

section
variable {d : Dev} (hp : d.auxPick = some 16) (hend : d.sns.auxFrom + 600 * 800 ≤ d.clk.ticks)
include hp hend

theorem auxSelftestConvDev_first (h0 : d.sns.stDone = 0) (code : Int) : auxSelftestConvDev code d =
    { d with sns := { d.sns with auxFrom := d.clk.ticks, stDone := 1, stBad := d.sns.stBad || !decide (code.natAbs ≤ 200) } } := by
  simp [auxSelftestConvDev, hp, auxEnded, hend, h0]

theorem auxSelftestConvDev_last (h2 : d.sns.stDone = 2) (code : Int) : auxSelftestConvDev code d =
    d.selftestEnded (d.sns.stBad || !decide ((code - 419430).natAbs ≤ 2097)) := by
  simp [auxSelftestConvDev, hp, auxEnded, hend, h2, selftestEnded]

end

end Dev

/-! ### The sensing commands (R94) -/

theorem leBytes_uval (v : Nat) : leBytes 4 (uval 32 v) = leBytes 4 v := by
  have hv : uval 32 v = v % 2 ^ (8 * 4) := rfl
  rw [hv, leBytes_mod]

theorem byteAt_index {i n : Nat} (h : i < n) (hn : n ≤ 256 := by decide) (k : Byte) : byteAt [k, BitVec.ofNat 8 i] 1 = i := by
  simp [byteAt]
  omega

section
variable {d : Dev} {c : Cmd}

theorem snsReadCmd_control {i : Nat} (hi : i < 24) (hc : c.payload = [0, BitVec.ofNat 8 i]) (hen : d.fb SNS_SD_n_CFG_EN i = true)
    (hcf : d.fb SNS_SD_n_FILT_CF_EN i = true) : snsReadCmd c d = (.reply .ok (leBytes 4 (d.fg SNS_CF_n_LO_VAL i) ++
      leBytes 4 (d.word (SNS_CF_n_HI_SEQ.at i)) ++ leBytes 6 (vget d.sns.sd i).cf.ts ++ leBytes 2 (b2n (vget d.sns.sd i).cf.deg)), d) := by
  have h0 : byteAt c.payload 0 = 0 := by rw [hc]; rfl
  have h1 : byteAt c.payload 1 = i := by rw [hc, byteAt_index hi]
  have hl : c.payload.length = 2 := by rw [hc]; rfl
  simp [snsReadCmd, h0, h1, hl, Nat.not_le.2 hi, hen, hcf, snsReply, leBytes_uval, Fld.at, SNS_CF_n_HI_SEQ]

theorem snsReadCmd_metering {i : Nat} (hi : i < 8) (hc : c.payload = [2, BitVec.ofNat 8 i]) : snsReadCmd c d =
    if d.fbit SNS_MTR_CTRL_EN i then (.reply .ok (leBytes 4 (d.fg SNS_MTR_n_LO_VAL i) ++
      leBytes 4 (d.word (SNS_MTR_n_HI_SEQ.at i)) ++ leBytes 6 (vget d.sns.mtr i).mb.ts ++ leBytes 2 (b2n (vget d.sns.mtr i).mb.deg)), d)
    else (.st .state, d) := by
  have h0 : byteAt c.payload 0 = 2 := by rw [hc]; rfl
  have h1 : byteAt c.payload 1 = i := by rw [hc, byteAt_index hi]
  have hl : c.payload.length = 2 := by rw [hc]; rfl
  simp [snsReadCmd, h0, h1, hl, Nat.not_le.2 hi, snsReply, leBytes_uval, Fld.at, SNS_MTR_n_HI_SEQ]

theorem snsTestCmd_rotationWithdrawn (hc : c.payload = [1, 1]) (hen : d.fb SNS_MTR_CTRL_EN = true) (hreq : d.fb SNS_MTR_ROT_REQ = true) :
    snsTestCmd c d = (.reply .ok [2], (d.fs SNS_MTR_ROT_REQ 0).fs SNS_STAT_MTR_CAL_PENDING 0) := by
  simp [snsTestCmd, hc, byteAt, hen, hreq, leBytes]

section
variable (hen : d.fb SNS_AUX_CTRL_EN = true)
include hen

theorem snsTestCmd_openWireAsked (hc : c.payload = [3, 0]) (how : d.sns.owReq = []) : snsTestCmd c d =
    (.reply .ok (leBytes 1 (b2n (d.auxPick.isSome || !(d.owAsk.sns.owReq.any fun n => d.owAsk.auxPick == some n)))), d.owAsk) := by
  simp [snsTestCmd, hc, byteAt, hen, how]

theorem snsTestCmd_openWirePending (hc : c.payload = [3, 0]) (how : d.sns.owReq ≠ []) : snsTestCmd c d = (.reply .ok [1], d) := by
  simp [snsTestCmd, hc, byteAt, hen, how, leBytes]

theorem snsTestCmd_openWireNone (hc : c.payload = [3, 1]) (how : d.sns.owReq = []) : snsTestCmd c d = (.reply .ok [3], d) := by
  simp [snsTestCmd, hc, byteAt, hen, how, leBytes]

theorem snsTestCmd_selftestPending (hc : c.payload = [2, 0]) (hst : d.stDue = true) : snsTestCmd c d = (.reply .ok [1], d) := by
  simp [snsTestCmd, hc, byteAt, hen, hst, leBytes]

end

end

/-- Settles O21: the scan takes its settings at its start and shows each channel's result; of the tests that wait for a gap the first that fits
runs, and the commands read and ask for them. -/
theorem auxConverter : Obligations.AuxConverter := by
  intro s a p tag up d
  refine ⟨?start, ?early, ?next, ?last, ?openWire, ?pick, ?due, ?request, ?selftest, ?control, ?metering, ?meteringOff, ?rotation, ?askOw,
    ?owPending, ?owNone, ?stPending⟩
  case start =>
    intro hen hscan hconv hnext
    obtain ⟨x, hx, hs, he, hl, hr, how, hst, hch⟩ := Dev.auxScanStartDev_starts hen hscan hconv hnext
    exact ⟨_, State.run_eq up hx, hs, he, hl, hr, how, hst, hch, rfl⟩
  case early => exact fun hen ht => State.run_eq up (Dev.auxScanStartDev_early hen ht)
  case next =>
    intro n m l code die hscan hconv hleft hend
    obtain ⟨e, he, hcode, hseq, hl, hrange⟩ :=
      Dev.auxResult_spec { d with sns := { d.sns with scanLeft := m.val :: l, auxFrom := d.clk.ticks } } n code n.isLt
    refine ⟨e, State.run_eq up ?_, hcode, hseq, hl, hrange⟩
    rw [Dev.auxConversionDev_ends hscan hconv hleft hend, if_neg nofun, he]
  case last =>
    exact fun n code die hscan hconv hleft hend =>
      State.run_eq up ((Dev.auxConversionDev_ends hscan hconv hleft hend _ _).trans (if_pos rfl))
  case openWire =>
    intro n code hp hend
    obtain ⟨e, he⟩ : ∃ e, openWireDev code.toInt d = e := ⟨_, rfl⟩
    have hspec := Dev.owShown_spec (d.owTaken n) n (decide (513803 ≤ code.toInt))
    rw [← Dev.openWireDev_ends hp hend, he] at hspec
    obtain ⟨hsns, hbit, hevt⟩ := hspec
    refine ⟨_, State.run_eq up he, congrArg (·.owDue) hsns, congrArg (·.owReq) hsns, hbit, hevt.trans ?_⟩
    simp only [decide_eq_true_eq]
    rfl
  case pick =>
    intro n hp
    obtain ⟨hen, hscan, hconv⟩ := Dev.auxPick_gap hp
    exact ⟨hen, hscan, hconv, Dev.auxPick_first hp⟩
  case due =>
    intro hen hper
    obtain ⟨hst, hdone, hregs⟩ := Dev.stFallDue_spec d
    exact ⟨_, State.run_eq up (Dev.auxSelftestDueDev_due hen hper), hst, hdone, hregs⟩
  case request =>
    intro hok
    obtain ⟨e, he⟩ : ∃ e, (d.regWrite a (SNS_AUX_TEST_REQ.at 0) (2 ^ SNS_AUX_TEST_REQ.lo)).2 = e := ⟨_, rfl⟩
    have hreq : e.fg SNS_AUX_TEST_REQ = 1 := he ▸ Dev.regWrite_auxTest hok
    exact ⟨_, State.run_eq up he, Dev.stDue_of_req hreq, hreq⟩
  case selftest =>
    refine fun code hp hend => ⟨fun h0 => ?first, fun h2 hbad hin => ?good, fun h2 hbad => ?bad⟩
    case first => exact ⟨_, State.run_eq up (Dev.auxSelftestConvDev_first hp hend h0 _), rfl, rfl⟩
    case good =>
      have he := Dev.auxSelftestConvDev_last hp hend h2 code.toInt
      rw [hbad, decide_eq_true hin] at he
      exact ⟨_, State.run_eq up he, Dev.selftestEnded_good d⟩
    case bad =>
      have he := Dev.auxSelftestConvDev_last hp hend h2 code.toInt
      rw [hbad, Bool.true_or] at he
      exact ⟨_, State.run_eq up he, Dev.selftestEnded_bad d⟩
  case control => exact fun i h hen hcf => State.run_answers up h fun c hc => snsReadCmd_control i.isLt hc hen hcf
  case metering => exact fun i h hen => State.run_answers up h fun c hc => (snsReadCmd_metering i.isLt hc).trans (if_pos hen)
  case meteringOff =>
    exact fun i h hen => State.run_answers up h fun c hc => (snsReadCmd_metering i.isLt hc).trans (if_neg (Bool.eq_false_iff.1 hen))
  case rotation => exact fun h hen hreq => State.run_answers up h fun c hc => snsTestCmd_rotationWithdrawn hc hen hreq
  case askOw =>
    rintro h hen how e rfl
    exact State.run_answers up h fun c hc => snsTestCmd_openWireAsked hen hc how
  case owPending => exact fun h hen how => State.run_answers up h fun c hc => snsTestCmd_openWirePending hen hc how
  case owNone => exact fun h hen how => State.run_answers up h fun c hc => snsTestCmd_openWireNone hen hc how
  case stPending => exact fun h hen hst => State.run_answers up h fun c hc => snsTestCmd_selftestPending hen hc hst

end Sys2Proof.Machine
end

section
/-! SUPPORT. What a written word gives the fields of its register; signed fields. -/
set_option Elab.async false

namespace Sys2Proof.Machine

/-! ### A written word (R6) -/

/-- The fields of a list stand from the highest to the lowest, and none reaches into the one before. -/
abbrev descend (l : List FldSpec) : Prop := l.Pairwise fun f g => g.fld.lo + g.fld.len ≤ f.fld.lo

/-- A write can reach the field. -/
def FldSpec.reachable (s : FldSpec) : Bool := s.acc != .RO && s.acc != .RC

/-- The fields of a list at their places in a word. -/
def placed (w : Nat) (l : List FldSpec) : Nat := (l.map fun s => s.fld.of w * 2 ^ s.fld.lo).sum

/-- A field is read below what stands above it. -/
theorem Fld.of_add_above (F : Fld) {c k x : Nat} (h : F.lo + F.len ≤ k) : F.of (c * 2 ^ k + x) = F.of x := by
  obtain ⟨j, rfl⟩ := Nat.exists_eq_add_of_le h
  have hsplit : c * 2 ^ (F.lo + F.len + j) = 2 ^ F.lo * (2 ^ F.len * (2 ^ j * c)) := by ring
  rw [of, of, hsplit, Nat.mul_add_div (by positivity), Nat.mul_add_mod]

/-- A field is read above what stands below it. -/
theorem Fld.of_add_below (F : Fld) {w x : Nat} (h : x < 2 ^ F.lo) : F.of (F.of w * 2 ^ F.lo + x) = F.of w := by
  rw [of, Nat.mul_comm, Nat.mul_add_div (by positivity), Nat.div_eq_of_lt h, Nat.add_zero]
  exact Nat.mod_mod _ _

theorem placed_lt {w k : Nat} {l : List FldSpec} (hl : descend l)
    (hk : ∀ s ∈ l, s.fld.lo + s.fld.len ≤ k) : placed w l < 2 ^ k := by
  induction l generalizing k with
  | nil => exact Nat.two_pow_pos k
  | cons s t ih =>
    obtain ⟨hs, ht⟩ := List.pairwise_cons.1 hl
    calc placed w (s :: t) = s.fld.of w * 2 ^ s.fld.lo + placed w t := by simp [placed]
      _ < (s.fld.of w + 1) * 2 ^ s.fld.lo := by rw [Nat.succ_mul]; exact Nat.add_lt_add_left (ih ht hs) _
      _ ≤ 2 ^ s.fld.len * 2 ^ s.fld.lo := Nat.mul_le_mul_right _ (s.fld.of_lt w)
      _ = 2 ^ (s.fld.lo + s.fld.len) := by rw [Nat.mul_comm, Nat.pow_add]
      _ ≤ 2 ^ k := Nat.pow_le_pow_right (by decide) (hk s (.head _))

theorem of_placed {w : Nat} {l : List FldSpec} (hl : descend l) {f : FldSpec} (hf : f ∈ l) :
    f.fld.of (placed w l) = f.fld.of w := by
  induction l with
  | nil => cases hf
  | cons s t ih =>
    obtain ⟨hs, ht⟩ := List.pairwise_cons.1 hl
    have hword : placed w (s :: t) = s.fld.of w * 2 ^ s.fld.lo + placed w t := by simp [placed]
    rw [hword]
    rcases List.mem_cons.1 hf with rfl | hft
    · exact Fld.of_add_below _ (placed_lt ht hs)
    · rw [Fld.of_add_above _ (hs f hft), ih ht hft]

theorem foldl_placed {f : Nat → FldSpec → Nat} {w : Nat} (hf : ∀ m s, f m s = if s.reachable then m + s.fld.of w * 2 ^ s.fld.lo else m)
    (l : List FldSpec) (m : Nat) : l.foldl f m = m + placed w (l.filter FldSpec.reachable) := by
  induction l generalizing m with
  | nil => rfl
  | cons s t ih =>
    rw [List.foldl_cons, ih, hf]
    by_cases hs : s.reachable <;> simp [hs, placed, Nat.add_assoc]

theorem reached_eq_placed (r : Reg) (w : Nat) : Dev.reached r w = placed w (r.flds.filter FldSpec.reachable) := by
  refine (foldl_placed (fun m s => ?_) _ _).trans (Nat.zero_add _)
  cases hs : s.acc <;> simp [FldSpec.reachable, hs]

/-- The word that reaches a register gives each field that a write can reach the value it was written with. -/
theorem of_reached {r : Reg} (hr : descend r.flds) {s : FldSpec} (hs : s ∈ r.flds) (hw : s.reachable = true) (w : Nat) :
    s.fld.of (Dev.reached r w) = s.fld.of w := by
  rw [reached_eq_placed]
  exact of_placed (List.Pairwise.filter _ hr) (List.mem_filter.2 ⟨hs, hw⟩)

/-- A word written to a register of read-write fields gives each of them its value. -/
theorem Dev.storeWord_of {r : Reg} {a n : Nat} (hrw : ∀ s ∈ r.flds, s.acc = .RW) (hr : findReg a = some (r, n)) (hd : descend r.flds)
    {s : FldSpec} (hs : s ∈ r.flds) (d : Dev) (w : Nat) : (d.storeWord r n w).fg s.fld n = s.fld.of w := by
  have hreach : s.reachable = true := by rw [FldSpec.reachable, hrw s hs]; rfl
  exact (storeWord_fg hrw hr hs d w).trans (of_reached hd hs hreach w)

/-- A row that is a write, where its condition holds, by what the write comes to. -/
theorem State.run_wrIf {s : State} {p : Dev → Bool} {acc : Acc} {a w : Nat} {e : Dev} (up : s.up) (hp : p s.dev = true)
    (hw : (s.dev.regWrite acc a w).2 = e) : s.run (wrIf p acc a w) = .next (s.to e) :=
  State.run_eq up ((if_pos hp).trans hw)

/-! ### Signed fields -/

theorem uval_of_nonneg {w : Nat} {v : Int} (h0 : 0 ≤ v) (h : v < (2 ^ w : Nat)) : uval w v = v.toNat := by
  rw [uval, Int.emod_eq_of_lt h0 h]

theorem uval_of_neg {w : Nat} {v : Int} (h0 : v < 0) (h : -(2 ^ w : Nat) ≤ v) : uval w v = (v + (2 ^ w : Nat)).toNat := by
  rw [uval, ← Int.add_emod_right, Int.emod_eq_of_lt (by omega) (by omega)]

theorem sval_uval {w : Nat} {v : Int} (hlo : -(2 ^ w : Nat) ≤ v) (hhi : v < (2 ^ w : Nat)) : sval (w + 1) (uval (w + 1) v) = v := by
  have hpow : 2 ^ (w + 1) = 2 ^ w + 2 ^ w := by rw [Nat.pow_succ, Nat.mul_two]
  rw [sval, Nat.add_sub_cancel]
  rcases Int.lt_or_le v 0 with hv | hv
  · rw [uval_of_neg hv (by omega), Nat.mod_eq_of_lt (by omega), if_neg (by omega)]
    omega
  · rw [uval_of_nonneg hv (by omega), Nat.mod_eq_of_lt (by omega), if_pos (by omega)]
    omega

theorem clampI_of_mem {lo hi x : Int} (h : lo ≤ x) (h' : x ≤ hi) : clampI lo hi x = x := by
  rw [clampI, if_neg (by omega), if_neg (by omega)]

/-- A signed field reads back a value that its width holds. -/
theorem Dev.fgS_fsS {F : Fld} {w n : Nat} {v : Int} (hF : F.len = w + 1) (hlo : -(2 ^ w : Nat) ≤ v) (hhi : v < (2 ^ w : Nat)) (d : Dev) :
    (d.fsS F v n).fgS F n = v := by
  have hlt : uval (w + 1) v < 2 ^ (w + 1) := by
    have := Int.emod_lt_of_pos v (Int.natCast_pos.2 (Nat.two_pow_pos (w + 1)))
    have := Int.emod_nonneg v (Int.natCast_ne_zero.2 (Nat.two_pow_pos (w + 1)).ne')
    rw [uval]
    omega
  rw [fgS, fsS, fg_fs, hF, Nat.mod_eq_of_lt hlt, sval_uval hlo hhi]

end Sys2Proof.Machine
end

section
/-! SUPPORT. The statement about a leg's edges, its start and stop, the delay line and force codes (05). -/
set_option Elab.async false

namespace Sys2Proof.Machine
namespace Dev

/-! ### A leg and its outputs (R100 to R102) -/

@[simp] theorem fb_updLeg (d : Dev) (n : Nat) (f : Leg → Leg) (F : Fld) (m : Nat) : (d.updLeg n f).fb F m = d.fb F m := rfl
@[simp] theorem leg_startBlank (d : Dev) (n sw m : Nat) : (d.startBlank n sw).leg m = d.leg m := rfl

theorem riseH_leg (d : Dev) (n : Fin 24) (sub : Nat) :
    (d.riseH n sub).leg n = { d.leg n with outH := true, onH := false, roseH := d.now64 sub } :=
  (leg_startBlank ..).trans (leg_updLeg ..)

/-- Where not both switches are commanded, the interlock lets the commands through and closes its episode. -/
theorem interlock_single {d : Dev} {n : Nat} {h l : Bool} (hc : d.commands n = (h, l)) (hx : (h && l) = false) :
    d.interlock n = d.updLeg n fun x => { x with ilk := false, cH := h, cL := l } := by
  rw [interlock, hc]
  exact if_neg (Bool.eq_false_iff.1 hx)

/-- The dead times in effect rest on registers and on the leg's own settings. -/
theorem deadH_updLeg {d : Dev} {n : Fin 24} {f : Leg → Leg} (hf : (f (d.leg n)).dtH = (d.leg n).dtH) : (d.updLeg n f).deadH n = d.deadH n := by
  simp only [deadH, fb_updLeg, fg_updLeg, leg_updLeg, hf]

/-- The high output rises once the other has been low for the dead time: at the instant asked for. -/
theorem legDrive_riseH {d : Dev} {n : Fin 24} {sub : Nat} (hc : d.commands n = (true, false)) (hov : d.overlaid n = false)
    (hre : (d.tleg n).react = none) (hH : (d.leg n).outH = false) (hL : (d.leg n).outL = false)
    (hdt : (d.leg n).fellL + 64 * d.deadH n ≤ d.now64 sub) : d.legDrive n sub =
      ((d.updLeg n fun x => { x with ilk := false, cH := true, cL := false }).riseH n sub).updLeg n fun x => { x with onL := false } := by
  obtain ⟨e, he⟩ : ∃ e, e = d.updLeg n fun x => { x with ilk := false, cH := true, cL := false } := ⟨_, rfl⟩
  have hleg : e.leg n = { d.leg n with ilk := false, cH := true, cL := false } := he ▸ leg_updLeg ..
  have hdead : e.deadH n = d.deadH n := he ▸ deadH_updLeg rfl
  have hnow : e.now64 sub = d.now64 sub := he ▸ rfl
  have hfall : e.fallL n sub = e := if_neg (by simp [hleg, hL])
  have hrise : e.turnOnH n sub = e.riseH n sub := by
    simp [turnOnH, hleg, hH, hL, hdead, hnow, hdt]
  have hoff : (e.riseH n sub).turnOnL n sub = (e.riseH n sub).updLeg n fun x => { x with onL := false } := by
    simp [turnOnL, riseH_leg, hleg]
  have hov' : e.overlaid n = false := he ▸ hov
  have hre' : (e.tleg n).react = none := he ▸ hre
  rw [legDrive, interlock_single hc rfl, ← he]
  simp [hov', hre', hleg, hfall, hrise, hoff]

/-! ### What the stages behind the interlock leave alone (R100) -/

/-- `e` has the register file and the commands of leg `n` as `d` has them. -/
def KeepsCommands (n : Fin 24) (d e : Dev) : Prop := e.regs = d.regs ∧ (e.leg n).cH = (d.leg n).cH ∧ (e.leg n).cL = (d.leg n).cL

namespace KeepsCommands

variable {n : Fin 24} {d e : Dev} {sub : Nat}

theorem refl : KeepsCommands n d d := ⟨rfl, rfl, rfl⟩

theorem ite {c : Prop} [Decidable c] {a b : Dev} (ha : KeepsCommands n d a) (hb : KeepsCommands n d b) :
    KeepsCommands n d (if c then a else b) := by
  split
  · exact ha
  · exact hb

theorem updLeg {f : Leg → Leg} (h : KeepsCommands n d e) (hf : ∀ x, (f x).cH = x.cH ∧ (f x).cL = x.cL := by exact fun _ => ⟨rfl, rfl⟩) :
    KeepsCommands n d (e.updLeg n f) := by
  obtain ⟨hregs, hH, hL⟩ := h
  obtain ⟨hfH, hfL⟩ := hf (e.leg n)
  exact ⟨hregs, by rw [leg_updLeg, hfH, hH], by rw [leg_updLeg, hfL, hL]⟩

theorem startBlank {sw : Nat} (h : KeepsCommands n d e) : KeepsCommands n d (e.startBlank n sw) := h

theorem fallH (h : KeepsCommands n d e) : KeepsCommands n d (e.fallH n sub) := .ite h.updLeg h

theorem fallL (h : KeepsCommands n d e) : KeepsCommands n d (e.fallL n sub) := .ite h.updLeg h

theorem turnOnH (h : KeepsCommands n d e) : KeepsCommands n d (e.turnOnH n sub) := .ite h.updLeg (.ite h.updLeg.startBlank h.updLeg)

theorem turnOnL (h : KeepsCommands n d e) : KeepsCommands n d (e.turnOnL n sub) := .ite h.updLeg (.ite h.updLeg.startBlank h.updLeg)

/-- The stages behind the interlock move outputs alone. -/
theorem legDrive : KeepsCommands n (d.interlock n) (d.legDrive n sub) := by
  have hoff : KeepsCommands n (d.interlock n) ((d.interlock n).updLeg n fun x => { x with onH := false, onL := false }) := .updLeg .refl
  unfold Dev.legDrive
  dsimp only
  refine .ite hoff ?_
  split
  · exact .ite (.fallL (.ite hoff.fallH hoff)) (.ite hoff.fallH hoff)
  · exact .turnOnL (.turnOnH (.ite (.ite .refl (.fallH .refl)) (.fallL (.ite .refl (.fallH .refl)))))

end KeepsCommands

/-! ### What a stop of the grid functions leaves alone (R181) -/

/-- `e` has the state of the PWM unit, and every field of it and of the blocks before it, as `d` has them. -/
def KeepsPwm (d e : Dev) : Prop := e.pwm = d.pwm ∧ ∀ (F : Fld) (n : Nat), F.key n < 32 * 0x20030000 → e.fg F n = d.fg F n

namespace KeepsPwm

variable {d e : Dev}

theorem refl : KeepsPwm d d := ⟨rfl, fun _ _ _ => rfl⟩

theorem ite {c : Prop} [Decidable c] {a b : Dev} (ha : KeepsPwm d a) (hb : KeepsPwm d b) : KeepsPwm d (if c then a else b) := by
  split
  · exact ha
  · exact hb

theorem foldl {α : Type} {f : Dev → α → Dev} {l : List α} (h : KeepsPwm d e) (hf : ∀ e x, KeepsPwm d e → KeepsPwm d (f e x)) :
    KeepsPwm d (l.foldl f e) := by
  induction l generalizing e with
  | nil => exact h
  | cons x t ih => exact ih (hf e x h)

theorem fs {F : Fld} {v n : Nat} (h : KeepsPwm d e) (hF : 0x20030000 ≤ F.base := by decide) : KeepsPwm d (e.fs F v n) := by
  obtain ⟨hpwm, hregs⟩ := h
  refine ⟨hpwm, fun G m hG => (fg_fs_ne _ _ _ _ _ _ ?_).trans (hregs G m hG)⟩
  have hbase : 32 * 0x20030000 ≤ F.key n := by simp only [Fld.key]; omega
  omega

theorem dropCand {g k x : Nat} (h : KeepsPwm d e) : KeepsPwm d (e.dropCand g k x) := (h.fs : KeepsPwm d (e.setCand g k none))

theorem setValid {g mask : Nat} (h : KeepsPwm d e) : KeepsPwm d (e.setValid g mask) := .ite (.foldl (.fs (.fs h)) fun _ _ => .dropCand) h

theorem grdMasks {island : Bool} (h : KeepsPwm d e) : KeepsPwm d (e.grdMasks island) := .foldl h fun _ _ h => .ite h.setValid h

theorem grdState {st : Nat} (h : KeepsPwm d e) : KeepsPwm d (e.grdState st) := by
  unfold Dev.grdState
  exact .ite h (h.fs : KeepsPwm d (e.fs GRD_STAT_STATE st))

theorem grdLegCheck (h : KeepsPwm d e) : KeepsPwm d e.grdLegCheck := .ite (.grdState (.ite h.grdMasks h)) h

end KeepsPwm

/-! ### Starting and stopping a leg (R115, R116) -/

theorem legStart_spec (d : Dev) (n : Fin 24) : (d.legStart n).fg PWM_LEG_n_CTRL_EN n = 1 ∧ ((d.legStart n).leg n).starting = true ∧
    (d.legStart n).fg PWM_LEG_n_CARRY_CARRY n = 0 ∧ (d.legStart n).fg PWM_LEG_n_STAT_RUN n = d.fg PWM_LEG_n_STAT_RUN n ∧
    (d.fb PWM_LEG_n_CTRL_SRC n = true → ((d.legStart n).leg n).cmpA = (d.leg n).lastA ∧ ((d.legStart n).leg n).cmpB = (d.leg n).lastB) := by
  have hleg : (d.legStart n).leg n = { d.leg n with
      starting := true, k := 0, cutoff := false, expected := [], stopAtStart := false, mid := false
      cmpA := if d.fb PWM_LEG_n_CTRL_SRC n then (d.leg n).lastA else (d.leg n).cmpA
      cmpB := if d.fb PWM_LEG_n_CTRL_SRC n then (d.leg n).lastB else (d.leg n).cmpB } := leg_updLeg ..
  refine ⟨?en, by rw [hleg], ?carry, ?run, fun hsrc => ?compares⟩
  case en => exact Eq.trans (fg_fs_stride (F := PWM_LEG_n_CARRY_CARRY)) (fg_fs ..)
  case carry => exact fg_fs ..
  case run => exact Eq.trans (fg_fs_stride (F := PWM_LEG_n_CARRY_CARRY)) (fg_fs_stride (F := PWM_LEG_n_CTRL_EN))
  case compares => simp [hleg, hsrc]

/-- A leg that stops has neither switch commanded, where no code forces one. -/
theorem legStop_spec {d : Dev} {n : Fin 24} (hen : d.fb PWM_LEG_n_CTRL_EN n = true) (hH : (d.leg n).fH = 0) (hL : (d.leg n).fL = 0) :
    (d.legStop n).fg PWM_LEG_n_CTRL_EN n = 0 ∧ (d.legStop n).fg PWM_LEG_n_STAT_RUN n = 0 ∧
      ((d.legStop n).leg n).cH = false ∧ ((d.legStop n).leg n).cL = false := by
  have hleg : (d.legHalt n).leg n = { d.leg n with
      starting := false, r := false, rise := false, fall := false, cutoff := false, expected := []
      stopAtStart := false, mid := false } := leg_updLeg ..
  have hen0 : (d.legHalt n).fg PWM_LEG_n_CTRL_EN n = 0 :=
    Eq.trans (fg_fs_stride (F := PWM_LEG_n_CARRY_CARRY)) (Eq.trans (fg_fs_stride (F := PWM_LEG_n_STAT_RUN)) (fg_fs ..))
  have hrun0 : (d.legHalt n).fg PWM_LEG_n_STAT_RUN n = 0 := Eq.trans (fg_fs_stride (F := PWM_LEG_n_CARRY_CARRY)) (fg_fs ..)
  have hcmd : (d.legHalt n).commands n = (false, false) := by simp [commands, hleg, hH, hL, fb, hrun0]
  obtain ⟨hregs, hcH, hcL⟩ := KeepsCommands.legDrive (n := n) (d := d.legHalt n) (sub := 0)
  rw [interlock_single hcmd rfl, leg_updLeg] at hcH hcL
  rw [interlock_single hcmd rfl, updLeg_regs] at hregs
  obtain ⟨hpwm, hfld⟩ := KeepsPwm.grdLegCheck (.refl (d := (d.legHalt n).legDrive n))
  have hkey (F : Fld) (hF : F.base + F.stride * 24 < 0x20030000 ∧ F.lo < 32) : F.key n < 32 * 0x20030000 := by
    have := Nat.mul_le_mul_left F.stride n.isLt.le
    simp only [Fld.key]
    omega
  rw [legStop, if_pos hen]
  refine ⟨?en, ?run, ?high, ?low⟩
  case en => exact (hfld _ _ (hkey _ (by decide))).trans ((fg_of_regs hregs _ _).trans hen0)
  case run => exact (hfld _ _ (hkey _ (by decide))).trans ((fg_of_regs hregs _ _).trans hrun0)
  case high => rw [leg, hpwm]; exact hcH
  case low => rw [leg, hpwm]; exact hcL

/-! ### Edges and dead time (R98, R101) -/

theorem compareEdgeDev_rises {d : Dev} {n : Nat} (hr : (d.leg n).rise = true) (ht : (d.leg n).at_ + (d.leg n).cyc.riseQ / 64 = d.clk.ticks) :
    compareEdgeDev n true d = (d.updLeg n fun x => { x with r := true, rise := false }).legDrive n ((d.leg n).cyc.riseQ % 64) := by
  simp [compareEdgeDev, hr, ht]

theorem compareEdgeDev_falls {d : Dev} {n : Nat} (hr : (d.leg n).rise = false) (hf : (d.leg n).fall = true)
    (ht : (d.leg n).at_ + (d.leg n).cyc.fallQ / 64 = d.clk.ticks) :
    compareEdgeDev n false d = (d.updLeg n fun x => { x with r := false, fall := false }).legDrive n ((d.leg n).cyc.fallQ % 64) := by
  simp [compareEdgeDev, hr, hf, ht]

/-- An edge whose placed instant is another has no effect. -/
theorem compareEdgeDev_off {d : Dev} {n : Nat} {rising : Bool}
    (ht : (d.leg n).at_ + (if rising then (d.leg n).cyc.riseQ else (d.leg n).cyc.fallQ) / 64 ≠ d.clk.ticks) : compareEdgeDev n rising d = d := by
  cases rising <;> simp_all [compareEdgeDev]

theorem turnOnAt_high {d : Dev} {n : Nat} (hon : (d.leg n).onH = true) : d.turnOnAt n = (d.leg n).fellL + 64 * d.deadH n := if_pos hon

/-- The delayed turn-on of the high output takes place in the tick in which its dead time ends. -/
theorem deadTimeDev_high {d : Dev} {n : Nat} (hon : (d.leg n).onH = true) : deadTimeDev n d =
    if (d.leg n).fellL + 64 * d.deadH n < 64 * (d.clk.ticks + 1) then
      d.legDrive n ((d.leg n).fellL + 64 * d.deadH n - 64 * d.clk.ticks) else d := by
  have htick : (d.leg n).fellL + 64 * d.deadH n < 64 * (d.clk.ticks + 1) ↔ ((d.leg n).fellL + 64 * d.deadH n) / 64 ≤ d.clk.ticks := by omega
  simp [deadTimeDev, turnOnAt_high hon, hon, htick]

theorem deadTimeDev_riseH {d : Dev} {n : Fin 24} (hc : d.commands n = (true, false)) (hov : d.overlaid n = false)
    (hre : (d.tleg n).react = none) (hH : (d.leg n).outH = false) (hL : (d.leg n).outL = false) (hon : (d.leg n).onH = true)
    (ht : (d.leg n).fellL + 64 * d.deadH n < 64 * (d.clk.ticks + 1)) : ((deadTimeDev n d).leg n).outH = true ∧
      ((deadTimeDev n d).leg n).onH = false ∧ ((deadTimeDev n d).leg n).outL = false ∧
      (64 * d.clk.ticks ≤ (d.leg n).fellL + 64 * d.deadH n → ((deadTimeDev n d).leg n).roseH = (d.leg n).fellL + 64 * d.deadH n) := by
  obtain ⟨sub, hsub⟩ : ∃ sub, sub = (d.leg n).fellL + 64 * d.deadH n - 64 * d.clk.ticks := ⟨_, rfl⟩
  have hdrive := legDrive_riseH (sub := sub) hc hov hre hH hL (by rw [now64]; omega)
  have hleg : ((deadTimeDev n d).leg n) = { d.leg n with
      ilk := false, cH := true, cL := false, outH := true, onH := false, roseH := d.now64 sub, onL := false } := by
    rw [deadTimeDev_high hon, if_pos ht, ← hsub, hdrive, leg_updLeg, riseH_leg, leg_updLeg]
    rfl
  refine ⟨by rw [hleg], by rw [hleg], by rw [hleg, ← hL], fun hle => ?_⟩
  rw [hleg]
  show d.now64 sub = _
  rw [now64]
  omega

/-! ### The delay line (R105, R106) -/

/-- A comparison of the replica line is shown: the trim it leaves, its error, its count. -/
def dlShown (d : Dev) (trim : Nat) (err : Int) : Dev :=
  ((d.fs PWM_DLCAL_TRIM trim).fsS PWM_DLCAL_DL_ERR (clampI (-128) 127 err)).finc PWM_DLCAL_CAL_SEQ

theorem dlShown_fields {d : Dev} {trim : Nat} {err : Int} (ht : trim < 256) (hlo : -128 ≤ err) (hhi : err ≤ 127) :
    (d.dlShown trim err).fg PWM_DLCAL_TRIM = trim ∧ (d.dlShown trim err).fgS PWM_DLCAL_DL_ERR = err ∧
      (d.dlShown trim err).fg PWM_DLCAL_CAL_SEQ = (d.fg PWM_DLCAL_CAL_SEQ + 1) % 2 ^ PWM_DLCAL_CAL_SEQ.len := by
  refine ⟨?trim, ?err, ?seq⟩
  case trim =>
    refine (fg_fs_ne _ _ _ _ _ _ (by decide)).trans ((fg_fs_ne _ _ _ _ _ _ (by decide)).trans ((fg_fs ..).trans ?_))
    exact Nat.mod_eq_of_lt ht
  case err =>
    refine (congrArg (sval 8) (fg_fs_ne _ _ _ _ _ _ (by decide))).trans ?_
    rw [clampI_of_mem hlo hhi]
    exact fgS_fsS (w := 7) rfl (by omega) (by omega) _
  case seq =>
    refine (fg_fs ..).trans (congrArg (fun x => (x + 1) % 2 ^ PWM_DLCAL_CAL_SEQ.len) ?_)
    exact (fg_fs_ne _ _ _ _ _ _ (by decide)).trans (fg_fs_ne _ _ _ _ _ _ (by decide))

/-- One step up that stays inside the line's range, with a small error. -/
theorem delayCalDev_good {d : Dev} {err : Int} (hfb : d.fb CLK_PLL_STAT_FALLBACK = false) (herr : err.natAbs ≤ 2)
    (ht : d.fg PWM_DLCAL_TRIM < 254) : delayCalDev err 1 d = (d.dlShown (d.fg PWM_DLCAL_TRIM + 1) err).fs PWM_DLCAL_CAL_OK 1 := by
  have hmin : min 255 (d.fg PWM_DLCAL_TRIM + 1) = d.fg PWM_DLCAL_TRIM + 1 := by omega
  have hgood : (decide (2 < err.natAbs) || d.fg PWM_DLCAL_TRIM + 1 == 0 || d.fg PWM_DLCAL_TRIM + 1 == 255) = false := by
    simp [Nat.not_lt.2 herr]
    omega
  rw [delayCalDev, if_neg (by simp [hfb])]
  simp only [hmin, hgood]
  rfl

/-- A calibration that fails is shown, raises its event, and counts in the fault class. -/
def dlFailed (d : Dev) : Dev := ((d.fs PWM_DLCAL_CAL_OK 0).fs PWM_DLCAL_DL_FAULT 1).raise 9

theorem delayCalDev_bad {d : Dev} {err : Int} (hfb : d.fb CLK_PLL_STAT_FALLBACK = false) (herr : 2 < err.natAbs) : ∃ (x : Pwm) (c : Bool),
    delayCalDev err 0 d = (if c then ({ (d.dlShown (d.fg PWM_DLCAL_TRIM) err).dlFailed with pwm := x } : Dev).fs PWM_DLCAL_DL_COARSE 1
      else { (d.dlShown (d.fg PWM_DLCAL_TRIM) err).dlFailed with pwm := x }) := by
  have hbad : (decide (2 < err.natAbs) || d.fg PWM_DLCAL_TRIM == 0 || d.fg PWM_DLCAL_TRIM == 255) = true := by simp [herr]
  rw [delayCalDev, if_neg (by simp [hfb])]
  simp only [hbad]
  exact ⟨_, _, rfl⟩

theorem delayCalDev_bad_spec {d : Dev} {err : Int} (hfb : d.fb CLK_PLL_STAT_FALLBACK = false) (herr : 2 < err.natAbs) :
    (delayCalDev err 0 d).fg PWM_DLCAL_CAL_OK = 0 ∧ (delayCalDev err 0 d).fg PWM_DLCAL_DL_FAULT = 1 ∧
      (delayCalDev err 0 d).evt = (d.raise 9).evt := by
  obtain ⟨x, c, hd⟩ := delayCalDev_bad hfb herr
  have hevt : (d.dlShown (d.fg PWM_DLCAL_TRIM) err).dlFailed.evt = (d.raise 9).evt := by
    have hleaves : LeavesClk d (((d.dlShown (d.fg PWM_DLCAL_TRIM) err).fs PWM_DLCAL_CAL_OK 0).fs PWM_DLCAL_DL_FAULT 1) :=
      .fs (.fs (.finc (.fs (.fs .refl))))
    exact hleaves.raise_evt rfl _ _
  have hok : (d.dlShown (d.fg PWM_DLCAL_TRIM) err).dlFailed.fg PWM_DLCAL_CAL_OK = 0 := (fg_fs_ne _ _ _ _ _ _ (by decide)).trans (fg_fs ..)
  have hfault : (d.dlShown (d.fg PWM_DLCAL_TRIM) err).dlFailed.fg PWM_DLCAL_DL_FAULT = 1 := fg_fs ..
  rw [hd]
  split
  · exact ⟨(fg_fs_ne _ _ _ _ _ _ (by decide)).trans hok, (fg_fs_ne _ _ _ _ _ _ (by decide)).trans hfault, hevt⟩
  · exact ⟨hok, hfault, hevt⟩

end Dev

/-! ### Writes of a leg's control and of force codes (R115 to R117) -/

/-- `PWM_LEG_n_CTRL` in the register map. -/
def legCtrlReg : Reg := ⟨0x20020200, 0x20, 0, 24, [⟨PWM_LEG_n_CTRL_EN, .RW, .any⟩, ⟨PWM_LEG_n_CTRL_SRC, .RW, .any⟩,
  ⟨PWM_LEG_n_CTRL_LOAD, .RW, .nz⟩, ⟨PWM_LEG_n_CTRL_MINP_MODE, .RW, .any⟩, ⟨PWM_LEG_n_CTRL_CGRP, .RW, .any⟩,
  ⟨PWM_LEG_n_CTRL_FGRP, .RW, .oneOf [0, 1, 2, 3, 4, 5, 6, 7, 15]⟩, ⟨PWM_LEG_n_CTRL_SAFE, .RW, .rng 0 2⟩, ⟨PWM_LEG_n_CTRL_MINP, .RW, .any⟩]⟩

theorem findReg_legCtrl (n : Fin 24) : findReg (PWM_LEG_n_CTRL_EN.at n) = some (legCtrlReg, n.val) := by
  fin_cases n <;> rfl

theorem legCtrlReg_rw : ∀ s ∈ legCtrlReg.flds, s.acc = .RW := by decide

/-- A field of `PWM_LEG_n_CTRL` takes what the written word gives it. -/
theorem storeWord_legCtrl {s : FldSpec} (hs : s ∈ legCtrlReg.flds) (d : Dev) (n : Fin 24) (w : Nat) :
    (d.storeWord legCtrlReg n w).fg s.fld n = s.fld.of w := Dev.storeWord_of legCtrlReg_rw (findReg_legCtrl n) (by decide) hs d w

/-- `PWM_FORCE_g` in the register map. -/
def forceReg : Reg := ⟨0x200200C0, 0x4, 0, 8, [⟨PWM_FORCE_g_PEND, .RO, .any⟩,
  ⟨PWM_FORCE_g_L_CODE, .RW, .rng 0 2⟩, ⟨PWM_FORCE_g_H_CODE, .RW, .rng 0 2⟩]⟩

theorem findReg_force (g : Fin 8) : findReg (PWM_FORCE_g_H_CODE.at g) = some (forceReg, g.val) := by
  fin_cases g <;> rfl

theorem storeWord_force (d : Dev) (g w : Nat) : d.storeWord forceReg g w =
    (d.fs PWM_FORCE_g_L_CODE (PWM_FORCE_g_L_CODE.of w) g).fs PWM_FORCE_g_H_CODE (PWM_FORCE_g_H_CODE.of w) g := by
  have hL : PWM_FORCE_g_L_CODE.of (Dev.reached forceReg w) = PWM_FORCE_g_L_CODE.of w :=
    of_reached (r := forceReg) (by decide) (.tail _ (.head _)) rfl w
  have hH : PWM_FORCE_g_H_CODE.of (Dev.reached forceReg w) = PWM_FORCE_g_H_CODE.of w :=
    of_reached (r := forceReg) (by decide) (.tail _ (.tail _ (.head _))) rfl w
  rw [← hL, ← hH]
  rfl

theorem forceWrite_pends {s : State} {a : Acc} {g : Fin 8} {val : W32} (up : s.up)
    (hok : s.dev.accepts a (PWM_FORCE_g_H_CODE.at g) val.toNat) : ∃ t,
    exec (.forceWrite a g val) s = .next t ∧ t.dev.fg PWM_FORCE_g_H_CODE g = PWM_FORCE_g_H_CODE.of val.toNat ∧
      t.dev.fg PWM_FORCE_g_L_CODE g = PWM_FORCE_g_L_CODE.of val.toNat ∧
      vget t.dev.pwm.forceTf g = some (s.dev.clk.ticks + 8) ∧ t.dev.pwm.leg = s.dev.pwm.leg := by
  have hat : PWM_FORCE_g_H_CODE.at g = 0x200200C0 + 4 * g.val := rfl
  have hwrite : (s.dev.regWrite a (PWM_FORCE_g_H_CODE.at g) val.toNat).2 = (s.dev.storeWord forceReg g val.toNat).forceWrite g :=
    Dev.regWrite_accepted (findReg_force g) (by omega) (by omega) (by omega) rfl rfl hok
  rw [storeWord_force] at hwrite
  refine ⟨_, State.run_wrIf up rfl hwrite, ?high, ?low, ?time, rfl⟩
  case high => exact (Dev.fg_fs ..).trans (Nat.mod_eq_of_lt (Fld.of_lt _ _))
  case low =>
    refine Eq.trans (Dev.fg_fs_stride (F := PWM_FORCE_g_H_CODE)) ((Dev.fg_fs ..).trans ?_)
    exact Nat.mod_eq_of_lt (Fld.of_lt _ _)
  case time => exact vget_vset_same _ _ _ g.isLt

/-- What an accepted write to a leg's control does behind the storing. -/
theorem regWrite_legCtrl {d e : Dev} {a : Acc} {n : Fin 24} {w : Nat} (hok : d.accepts a (PWM_LEG_n_CTRL_EN.at n) w)
    (he : d.storeWord legCtrlReg n w = e) : (d.regWrite a (PWM_LEG_n_CTRL_EN.at n) w).2 = e.legCtrlWritten d n := by
  have hat : PWM_LEG_n_CTRL_EN.at n = 0x20020200 + 0x20 * n.val := rfl
  rw [Dev.regWrite_accepted (findReg_legCtrl n) (by omega) (by omega) (by omega) rfl rfl hok, he]
  rfl

namespace Dev

/-- A leg whose `FGRP` has been changed takes the codes of its new group 8 ticks later. -/
def refiled (d d0 : Dev) (n : Nat) : Dev :=
  if d.fg PWM_LEG_n_CTRL_FGRP n = d0.fg PWM_LEG_n_CTRL_FGRP n then d else d.updLeg n fun x => { x with fPend := some (d.clk.ticks + 8) }

theorem refiled_regs (d d0 : Dev) (n : Nat) : (d.refiled d0 n).regs = d.regs := by
  unfold refiled
  split <;> rfl

theorem refiled_last (d d0 : Dev) (n : Fin 24) : ((d.refiled d0 n).leg n).lastA = (d.leg n).lastA ∧
    ((d.refiled d0 n).leg n).lastB = (d.leg n).lastB := by
  unfold refiled
  split
  · exact ⟨rfl, rfl⟩
  · rw [leg_updLeg]
    exact ⟨rfl, rfl⟩

theorem legCtrlWritten_starts {d d0 : Dev} {n : Nat} (hen : d.fb PWM_LEG_n_CTRL_EN n = true) (hoff : d0.fb PWM_LEG_n_CTRL_EN n = false) :
    d.legCtrlWritten d0 n = (d.refiled d0 n).legStart n := by
  simp only [legCtrlWritten, hen, hoff]
  rfl

theorem legCtrlWritten_stops {d d0 : Dev} {n : Nat} (hen : d.fb PWM_LEG_n_CTRL_EN n = false) (hon : d0.fb PWM_LEG_n_CTRL_EN n = true)
    (hf : d.fg PWM_LEG_n_CTRL_FGRP n = d0.fg PWM_LEG_n_CTRL_FGRP n) :
    d.legCtrlWritten d0 n = (d.fs PWM_LEG_n_CTRL_EN 1 n).legStop n := by
  simp only [legCtrlWritten, hen, hon, if_pos hf]
  rfl

end Dev

section
variable {s : State} {a : Acc} {n : Fin 24} {val : W32} (up : s.up)
include up

theorem legStart_starts (hval : PWM_LEG_n_CTRL_EN.of val.toNat = 1) (hoff : s.dev.fb PWM_LEG_n_CTRL_EN n = false)
    (hok : s.dev.accepts a (PWM_LEG_n_CTRL_EN.at n) val.toNat) : ∃ t, exec (.legStart a n val) s = .next t ∧
      t.dev.fg PWM_LEG_n_CTRL_EN n = 1 ∧ (t.dev.leg n).starting = true ∧ t.dev.fg PWM_LEG_n_CARRY_CARRY n = 0 ∧
      t.dev.fg PWM_LEG_n_STAT_RUN n = s.dev.fg PWM_LEG_n_STAT_RUN n ∧
      (PWM_LEG_n_CTRL_SRC.of val.toNat = 1 → (t.dev.leg n).cmpA = (s.dev.leg n).lastA ∧ (t.dev.leg n).cmpB = (s.dev.leg n).lastB) := by
  obtain ⟨e, he⟩ : ∃ e, s.dev.storeWord legCtrlReg n val.toNat = e := ⟨_, rfl⟩
  have hen : e.fg PWM_LEG_n_CTRL_EN n = 1 := he ▸ (storeWord_legCtrl (.head _) _ n _).trans hval
  have hsrc : e.fg PWM_LEG_n_CTRL_SRC n = PWM_LEG_n_CTRL_SRC.of val.toNat := he ▸ storeWord_legCtrl (.tail _ (.head _)) _ n _
  have hrun : e.fg PWM_LEG_n_STAT_RUN n = s.dev.fg PWM_LEG_n_STAT_RUN n := by
    have hplace : ∀ f ∈ legCtrlReg.flds, PWM_LEG_n_STAT_RUN.stride = f.fld.stride ∧ PWM_LEG_n_STAT_RUN.key 0 ≠ f.fld.key 0 := by decide
    exact he ▸ Dev.storeWord_fg_ne legCtrlReg_rw (fun f hf => Fld.key_ne_of_stride (hplace f hf).1 (hplace f hf).2) _ _
  have hleg : e.leg n = s.dev.leg n := he ▸ Dev.storeWord_leg legCtrlReg_rw _ _ _ _
  obtain ⟨hstart, hwait, hcarry, hrun', hcmp⟩ := Dev.legStart_spec (e.refiled s.dev n) n
  obtain ⟨hlastA, hlastB⟩ := Dev.refiled_last e s.dev n
  have hwrite := (regWrite_legCtrl hok he).trans (Dev.legCtrlWritten_starts (by rw [Dev.fb, hen]; rfl) hoff)
  refine ⟨_, State.run_wrIf up (by simp [rises, hval, hoff]) hwrite, hstart, hwait, hcarry, ?run, ?cmp⟩
  case run => exact hrun'.trans ((Dev.fg_of_regs (Dev.refiled_regs ..) _ _).trans hrun)
  case cmp =>
    intro h1
    have hon : (e.refiled s.dev n).fb PWM_LEG_n_CTRL_SRC n = true := by
      rw [Dev.fb, Dev.fg_of_regs (Dev.refiled_regs ..), hsrc, h1]
      rfl
    rw [hlastA, hlastB, hleg] at hcmp
    exact hcmp hon

theorem legStart_held (hval : PWM_LEG_n_CTRL_EN.of val.toNat = 1) (hoff : s.dev.fb PWM_LEG_n_CTRL_EN n = false)
    (hhold : s.dev.fb CLK_PLL_STAT_PWM_HOLD = true) : ∃ t, exec (.legStart a n val) s = .next t ∧ t.dev.fg PWM_LEG_n_CTRL_EN n = 0 ∧
      t.dev.pwm = s.dev.pwm := by
  have hat : PWM_LEG_n_CTRL_EN.at n = 0x20020200 + 0x20 * n.val := rfl
  have hof : PWM_LEG_n_CTRL_EN.of (Dev.reached legCtrlReg val.toNat) = 1 :=
    (of_reached (r := legCtrlReg) (by decide) (.head _) rfl _).trans hval
  have hcan (g : Nat) : s.dev.canStart n g = false := by simp [Dev.canStart, hhold]
  have hstate : s.dev.stateReg legCtrlReg.base n (Dev.reached legCtrlReg val.toNat) = true := by
    show s.dev.statePWM 0x20020200 n _ = true
    simp [Dev.statePWM, hof, hoff, hcan]
  have hwrite : (s.dev.regWrite a (PWM_LEG_n_CTRL_EN.at n) val.toNat).2 = s.dev := by
    rw [Dev.regWrite_reg (findReg_legCtrl n) (by omega) (by simp [Dev.aonDead]; omega) (.inl (by omega)) rfl rfl]
    exact Dev.writeReg_state hstate (by decide)
  refine ⟨_, State.run_wrIf up (by simp [rises, hval, hoff]) hwrite, ?_, rfl⟩
  simpa [Dev.fb] using hoff

theorem legStop_stops (hval : PWM_LEG_n_CTRL_EN.of val.toNat = 0) (hon : s.dev.fb PWM_LEG_n_CTRL_EN n = true)
    (hH : (s.dev.leg n).fH = 0) (hL : (s.dev.leg n).fL = 0)
    (hfgrp : PWM_LEG_n_CTRL_FGRP.of val.toNat = s.dev.fg PWM_LEG_n_CTRL_FGRP n)
    (hok : s.dev.accepts a (PWM_LEG_n_CTRL_EN.at n) val.toNat) : ∃ t, exec (.legStop a n val) s = .next t ∧
      t.dev.fg PWM_LEG_n_CTRL_EN n = 0 ∧ t.dev.fg PWM_LEG_n_STAT_RUN n = 0 ∧ (t.dev.leg n).cH = false ∧ (t.dev.leg n).cL = false := by
  obtain ⟨e, he⟩ : ∃ e, s.dev.storeWord legCtrlReg n val.toNat = e := ⟨_, rfl⟩
  have hen : e.fg PWM_LEG_n_CTRL_EN n = 0 := he ▸ (storeWord_legCtrl (.head _) _ n _).trans hval
  have hgrp : e.fg PWM_LEG_n_CTRL_FGRP n = s.dev.fg PWM_LEG_n_CTRL_FGRP n :=
    he ▸ (storeWord_legCtrl (s := ⟨PWM_LEG_n_CTRL_FGRP, .RW, .oneOf [0, 1, 2, 3, 4, 5, 6, 7, 15]⟩) (by simp [legCtrlReg]) _ n _).trans hfgrp
  have hleg : e.leg n = s.dev.leg n := he ▸ Dev.storeWord_leg legCtrlReg_rw _ _ _ _
  have hwrite := (regWrite_legCtrl hok he).trans (Dev.legCtrlWritten_stops (by rw [Dev.fb, hen]; rfl) hon hgrp)
  refine ⟨_, State.run_wrIf up (by simp [falls, hval, hon]) hwrite, ?_⟩
  exact Dev.legStop_spec (congrArg (· != 0) (Dev.fg_fs ..)) (by rw [Dev.leg_fs, hleg, hH]) (by rw [Dev.leg_fs, hleg, hL])

end

/-- Settles O16: each event acts in the tick of its instant and not before; a write of a leg's control, or of force codes, is stored and then
starts or stops the leg, or pends. -/
theorem legEdges : Obligations.LegEdges := by
  intro s a up d
  refine ⟨?rise, ?fall, ?dead, ?good, ?bad, ?force, ?effect, ?start, ?held, ?stop⟩
  case rise =>
    rintro n q hr rfl
    exact ⟨fun ht => State.run_eq up (Dev.compareEdgeDev_rises hr ht), fun ht => State.run_eq up (Dev.compareEdgeDev_off ht)⟩
  case fall =>
    rintro n q hr hf rfl
    exact ⟨fun ht => State.run_eq up (Dev.compareEdgeDev_falls hr hf ht), fun ht => State.run_eq up (Dev.compareEdgeDev_off ht)⟩
  case dead =>
    intro n hc _ hov hre hH hL hon
    refine ⟨fun ht => ⟨_, State.run_up up _, Dev.deadTimeDev_riseH hc hov hre hH hL hon ht⟩, fun ht => State.run_eq up ?_⟩
    exact (Dev.deadTimeDev_high hon).trans (if_neg (Nat.not_lt.2 ht))
  case good =>
    intro err hfb herr ht
    obtain ⟨htrim, herr', hseq⟩ := Dev.dlShown_fields (d := d) (trim := d.fg PWM_DLCAL_TRIM + 1) (err := err) (by omega) (by omega) (by omega)
    refine ⟨_, State.run_eq up (Dev.delayCalDev_good hfb herr ht), ?_, ?_, Dev.fg_fs .., ?_, rfl⟩
    · exact (Dev.fg_fs_ne _ _ _ _ _ _ (by decide)).trans htrim
    · exact (congrArg (sval 8) (Dev.fg_fs_ne _ _ _ _ _ _ (by decide))).trans herr'
    · exact (Dev.fg_fs_ne _ _ _ _ _ _ (by decide)).trans hseq
  case bad => exact fun err hfb herr => ⟨_, State.run_up up _, Dev.delayCalDev_bad_spec hfb herr⟩
  case force => exact fun g val hok => forceWrite_pends up hok
  case effect =>
    intro g tf hfb htf ht
    refine State.run_eq up ?_
    rw [forceEffectDev, if_neg (Bool.eq_false_iff.1 hfb)]
    simp only [htf, if_pos ht, d]
  case start => exact fun n val hval hoff hok => legStart_starts up hval hoff hok
  case held => exact fun n val hval hoff hhold => legStart_held up hval hoff hhold
  case stop => exact fun n val hval hon hH hL hfgrp hok => legStop_stops up hval hon hH hL hfgrp hok

end Sys2Proof.Machine
end

section
/-! SUPPORT. The statement about carrier groups and their alignment (05). -/
set_option Elab.async false

namespace Sys2Proof.Machine

/-- A group whose marker has been sent: the next one's count follows. -/
def CGrp.nextMark (x : CGrp) : CGrp := { x with mark := (x.mark + 1) % 8 }

namespace Dev

/-! ### Carrier groups and markers (R97, R120, R315) -/

theorem cg_updCg (d : Dev) (g : Fin 8) (f : CGrp → CGrp) : vget (d.updCg g f).pwm.cg g = f (vget d.pwm.cg g) := vget_vset_same _ _ _ g.isLt

/-- What a carrier group's start and its marker leave alone: `e` has the registers, the clocks, the events and the legs as `d` has them. -/
def KeepsLegs (d e : Dev) : Prop := e.regs = d.regs ∧ e.clk = d.clk ∧ e.evt = d.evt ∧ e.pwm.leg = d.pwm.leg

namespace KeepsLegs

variable {d e : Dev}

theorem refl : KeepsLegs d d := ⟨rfl, rfl, rfl, rfl⟩

theorem ite {c : Prop} [Decidable c] {a b : Dev} (ha : KeepsLegs d a) (hb : KeepsLegs d b) : KeepsLegs d (if c then a else b) := by
  split
  · exact ha
  · exact hb

theorem foldl {α : Type} {f : Dev → α → Dev} {l : List α} (h : KeepsLegs d e) (hf : ∀ e x, KeepsLegs d e → KeepsLegs d (f e x)) :
    KeepsLegs d (l.foldl f e) := by
  induction l generalizing e with
  | nil => exact h
  | cons x t ih => exact ih (hf e x h)

theorem updCg {g : Nat} {f : CGrp → CGrp} (h : KeepsLegs d e) : KeepsLegs d (e.updCg g f) := h

theorem markOn {g count l : Nat} (h : KeepsLegs d e) : KeepsLegs d (e.markOn g count l) := .ite h h

theorem sendMark {g : Nat} (h : KeepsLegs d e) : KeepsLegs d (e.sendMark g) := .ite (.foldl h fun _ _ => .markOn) h

theorem cgRoll {g : Nat} (h : KeepsLegs d e) : KeepsLegs d (e.cgRoll g) := .ite (.sendMark h.updCg) h

theorem cgRollAll (h : KeepsLegs d e) : KeepsLegs d e.cgRollAll := .foldl h fun _ _ => .cgRoll

theorem fg_eq (h : KeepsLegs d e) (F : Fld) (n : Nat) : e.fg F n = d.fg F n := fg_of_regs h.1 F n

theorem fb_eq (h : KeepsLegs d e) (F : Fld) (n : Nat) : e.fb F n = d.fb F n := fb_of_fg (h.fg_eq F n)

theorem cgRuns_eq (h : KeepsLegs d e) (g : Nat) : e.cgRuns g = d.cgRuns g := by rw [cgRuns, cgRuns, h.fb_eq, h.fb_eq]

theorem cgAligned_eq (h : KeepsLegs d e) (g : Nat) : e.cgAligned g = d.cgAligned g := by
  rw [cgAligned, cgAligned, h.fb_eq, fbit, fbit, h.fg_eq]

theorem laneUp_eq (h : KeepsLegs d e) (l : Nat) : e.laneUp l = d.laneUp l := by
  obtain ⟨-, hclk, -, -⟩ := id h
  rw [laneUp, laneUp, ifClock, ifClock, hclk, h.fg_eq]

end KeepsLegs

/-- A marker leaves on a lane that is up, with its delay behind the carrier start. -/
theorem markOn_up {d : Dev} {l : Nat} (h : d.laneUp l = true) (g count : Nat) : ∃ x < 1024, (d.markOn g count l).tx =
    d.tx ++ [.ordered l 3 (32 * g + 4 * count + x / 256) (x % 256)] := by
  refine ⟨d.fresh.1 % 1024, Nat.mod_lt _ (by decide), ?_⟩
  rw [markOn, if_pos h]
  rfl

theorem markOn_down {d : Dev} {l : Nat} (h : d.laneUp l = false) (g count : Nat) : d.markOn g count l = d := if_neg (Bool.eq_false_iff.1 h)

theorem markOn_pwm (d : Dev) (g count l : Nat) : (d.markOn g count l).pwm = d.pwm := by
  unfold markOn
  split <;> rfl

theorem sendMark_leader {d : Dev} {g : Nat} (hm : d.fg SYS_ROLE_PAR_MODE = 1) (ha : d.cgAligned g = true) : d.sendMark g =
    ((d.updCg g CGrp.nextMark).markOn g (vget d.pwm.cg g).mark 0).markOn g (vget d.pwm.cg g).mark 1 :=
  if_pos (by simp [hm, ha])

theorem sendMark_other {d : Dev} {g : Nat} (h : d.fg SYS_ROLE_PAR_MODE ≠ 1) : d.sendMark g = d := if_neg (by simp [h])

/-- A marker changes nothing of its group but the count of the next. -/
theorem sendMark_cg (d : Dev) (g : Fin 8) : ∃ k, vget (d.sendMark g).pwm.cg g = { vget d.pwm.cg g with mark := k } := by
  by_cases h : (d.fg SYS_ROLE_PAR_MODE == 1 && d.cgAligned g) = true
  · obtain ⟨hm, ha⟩ : d.fg SYS_ROLE_PAR_MODE = 1 ∧ d.cgAligned g = true := by simpa using h
    exact ⟨_, by rw [sendMark_leader hm ha, markOn_pwm, markOn_pwm, cg_updCg]; rfl⟩
  · exact ⟨_, by rw [sendMark, if_neg h]⟩

theorem sendMark_oneLane {d : Dev} {g : Fin 8} (hm : d.fg SYS_ROLE_PAR_MODE = 1) (ha : d.cgAligned g = true) (h0 : d.laneUp 0 = true)
    (h1 : d.laneUp 1 = false) : ∃ x < 1024, (d.sendMark g).tx =
        d.tx ++ [.ordered 0 3 (32 * g + 4 * (vget d.pwm.cg g).mark + x / 256) (x % 256)] ∧
      (vget (d.sendMark g).pwm.cg g).mark = ((vget d.pwm.cg g).mark + 1) % 8 := by
  obtain ⟨x, hx, htx⟩ := markOn_up (d := d.updCg g CGrp.nextMark) h0 g (vget d.pwm.cg g).mark
  have hdown : ((d.updCg g CGrp.nextMark).markOn g (vget d.pwm.cg g).mark 0).laneUp 1 = false :=
    (KeepsLegs.laneUp_eq (.markOn (.updCg .refl)) 1).trans h1
  rw [sendMark_leader hm ha, markOn_down hdown]
  refine ⟨x, hx, htx, ?_⟩
  rw [markOn_pwm, cg_updCg]
  rfl

/-- A carrier group at its carrier start. -/
def begun (d : Dev) (g : Nat) (x : CGrp) : CGrp :=
  { x with on := true, start := x.next, per := d.fg PWM_CG_g_PER_PER g, next := x.next + d.cgTicks g (d.fg PWM_CG_g_PER_PER g)
           okRun := if x.noMark = 0 then x.okRun else 0, noMark := x.noMark + 1 }

theorem cgRoll_due {d : Dev} {g : Nat} (hr : d.cgRuns g = true) (ht : (vget d.pwm.cg g).next ≤ d.clk.ticks) :
    d.cgRoll g = (d.updCg g (d.begun g)).sendMark g := if_pos (by simp [hr, ht])

theorem cgRoll_stopped {d : Dev} {g : Nat} (hr : d.cgRuns g = false) : d.cgRoll g = d := if_neg (by simp [hr])

/-- Without a marker to send, a carrier start concerns its group alone. -/
theorem cgRoll_silent {d : Dev} {g : Nat} (h : d.fg SYS_ROLE_PAR_MODE ≠ 1) : d.cgRoll g =
    if d.cgRuns g && decide ((vget d.pwm.cg g).next ≤ d.clk.ticks) then d.updCg g (d.begun g) else d := by
  have hsend : (d.updCg g (d.begun g)).sendMark g = d.updCg g (d.begun g) := sendMark_other h
  exact congrArg (ite _ · d) hsend

theorem cgRoll_tx {d : Dev} {g : Nat} (h : d.fg SYS_ROLE_PAR_MODE ≠ 1) : (d.cgRoll g).tx = d.tx := by
  rw [cgRoll_silent h]
  split <;> rfl

theorem cgRoll_spec {d : Dev} {g : Fin 8} (hr : d.cgRuns g = true) (ht : (vget d.pwm.cg g).next ≤ d.clk.ticks) : ∃ k,
    vget (d.cgRoll g).pwm.cg g = { d.begun g (vget d.pwm.cg g) with mark := k } := by
  obtain ⟨k, hk⟩ := sendMark_cg (d.updCg g (d.begun g)) g
  rw [cg_updCg] at hk
  exact ⟨k, by rw [cgRoll_due hr ht, hk]⟩

/-! ### Carrier starts and centres of a leg (R97, R113, R115) -/

section
variable {d e : Dev} {n : Nat} (he : d.cgRoll (d.legGrp n) = e) (hr : e.cgRuns (e.legGrp n) = true)
include he hr

theorem carrierStartDev_early (ht : e.csNext n ≠ e.clk.ticks) : carrierStartDev n d = e := by
  subst he
  exact if_pos (by simp [hr, ht])

theorem carrierStartDev_now (ht : e.csNext n = e.clk.ticks) :
    carrierStartDev n d = if e.fb PWM_LEG_n_CTRL_EN n then e.legCarrierStart n else e.tryRelease n := by
  subst he
  exact if_neg (by simp [hr, ht])

end

theorem legCarrierStart_runs {e f r q : Dev} {n : Nat} {load : Bool} (hstop : (e.leg n).stopAtStart = false)
    (hload : ((e.leg n).starting || e.fg PWM_LEG_n_CTRL_LOAD n % 2 == 1) = load)
    (hf : (((if load then e.loadCompares n else e).fs PWM_LEG_n_STAT_RUN 1 n).updLeg n fun x => { x with starting := false }) = f)
    (hr : (if f.mayRelease n then f.releaseLeg n else f) = r)
    (hq : ((r.beginPeriod n (r.legGrp n) (vget r.pwm.cg (r.legGrp n)).per).legDrive n).filterSync n false = q) :
    e.legCarrierStart n = if load then q.lpTriggers n else q := by
  subst hload hf hr hq
  exact if_neg (Bool.eq_false_iff.1 hstop)

theorem carrierCentreDev_now {d e : Dev} {n : Nat} (hen : d.fb PWM_LEG_n_CTRL_EN n = true) (hr : d.cgRuns (d.legGrp n) = true)
    (hm : (d.leg n).mid = true) (ht : d.centreAt n = d.clk.ticks) (he : (d.updLeg n fun x => { x with mid := false }) = e) :
    carrierCentreDev n d = if 2 ≤ d.fg PWM_LEG_n_CTRL_LOAD n
      then ((((e.loadCompares n).centreLoad n).legDrive n).filterSync n true).lpTriggers n else e.filterSync n true := by
  subst he
  rw [carrierCentreDev, if_neg (by simp [hen, hr, hm, ht])]
  by_cases hload : 2 ≤ d.fg PWM_LEG_n_CTRL_LOAD n <;> simp [hload]

/-! ### Alignment (R120, R121) -/

/-- The device as a marker arrives: sent on along the chain, where it does not come from this device. -/
def forwarded (d : Dev) (m : MarkIn) : Dev :=
  if d.laneUp m.lane && d.fg SYS_ROLE_PAR_MODE != 1 then d.markOn m.group m.count.toNat (1 - m.lane) else d

theorem forwarded_keepsLegs (d : Dev) (m : MarkIn) : KeepsLegs d (d.forwarded m) := .ite (.markOn .refl) .refl

theorem forwarded_pwm (d : Dev) (m : MarkIn) : (d.forwarded m).pwm = d.pwm := by
  unfold forwarded
  split
  · exact markOn_pwm ..
  · rfl

/-- A marker is on its way while the follower's group starts its carrier: neither concerns the other. -/
theorem cgRoll_forwarded_pwm {d : Dev} {g : Nat} (m : MarkIn) (h : d.fg SYS_ROLE_PAR_MODE ≠ 1) :
    ((d.forwarded m).cgRoll g).pwm = (d.cgRoll g).pwm := by
  have hk := d.forwarded_keepsLegs m
  obtain ⟨-, hclk, -, -⟩ := id hk
  have hbegun : (d.forwarded m).begun g = d.begun g := by
    funext x
    simp only [begun, cgTicks, cgP, hk.fg_eq, hk.fb_eq]
  rw [cgRoll_silent h, cgRoll_silent (by rwa [hk.fg_eq]), hk.cgRuns_eq, forwarded_pwm, hclk, hbegun]
  split
  · rw [updCg, updCg, forwarded_pwm]
  · exact forwarded_pwm ..

/-- A follower's group takes the offset of its carrier start: shown, and corrected by at most `STEP` ticks. -/
def offsetTaken (d : Dev) (g : Nat) (off : Int) : Dev :=
  (d.fsS PWM_ALIGN_STAT_OFFSET (clampI (-32767) 32767 off)).updCg g fun x => { x with
    next := ((x.next : Int) - clampI (-(d.fg PWM_ALIGN_CTRL_STEP : Int)) (d.fg PWM_ALIGN_CTRL_STEP) (roundDiv off 64)).toNat
    noMark := 0, okRun := if off.natAbs * 10 ≤ 1024 then min (x.okRun + 1) 16 else 0 }

theorem fg_offsetTaken (d : Dev) (g : Nat) (off : Int) {F : Fld} (hF : F.key 0 ≠ PWM_ALIGN_STAT_OFFSET.key 0) :
    (d.offsetTaken g off).fg F = d.fg F := fg_fs_ne _ _ _ _ _ _ hF

theorem offsetTaken_offset (d : Dev) (g : Nat) {off : Int} (hlo : -32767 ≤ off) (hhi : off ≤ 32767) :
    (d.offsetTaken g off).fgS PWM_ALIGN_STAT_OFFSET = off := by
  rw [offsetTaken, clampI_of_mem hlo hhi]
  exact fgS_fsS (w := 15) rfl (by omega) (by omega) d

theorem offsetTaken_cg (d : Dev) (g : Fin 8) (off : Int) : (vget (d.offsetTaken g off).pwm.cg g).next = (((vget d.pwm.cg g).next : Int) -
      clampI (-(d.fg PWM_ALIGN_CTRL_STEP : Int)) (d.fg PWM_ALIGN_CTRL_STEP) (roundDiv off 64)).toNat ∧
    (vget (d.offsetTaken g off).pwm.cg g).noMark = 0 := by
  rw [offsetTaken, cg_updCg]
  exact ⟨rfl, rfl⟩

/-- What follows the correction: a loss by the window, or the group's part in becoming aligned. -/
theorem markerDev_follower {d e : Dev} {m : MarkIn} {off : Int} (he : ((d.forwarded m).cgRoll m.group).offsetTaken m.group off = e)
    (hm : d.fg SYS_ROLE_PAR_MODE = 2) (ha : d.cgAligned m.group = true) (hr : d.cgRuns m.group = true)
    (hon : (vget (d.cgRoll m.group).pwm.cg m.group).on = true) : markerDev m off d =
      if e.fb PWM_ALIGN_STAT_ALIGNED then
        if e.fg PWM_ALIGN_CTRL_LOSS_WIN * 512 < off.natAbs then e.alignLoss else e
      else if (bitsOf 8 (e.fg PWM_ALIGN_CTRL_CG_MASK)).all (fun h => (vget e.pwm.cg h).okRun == 16) then e.fs PWM_ALIGN_STAT_ALIGNED 1
      else e := by
  have hk : KeepsLegs d ((d.forwarded m).cgRoll m.group) := .cgRoll (d.forwarded_keepsLegs m)
  have hpwm := cgRoll_forwarded_pwm (g := m.group) m (show d.fg SYS_ROLE_PAR_MODE ≠ 1 by omega)
  have hstep : ((d.forwarded m).cgRoll m.group |>.fsS PWM_ALIGN_STAT_OFFSET (clampI (-32767) 32767 off)).fg PWM_ALIGN_CTRL_STEP =
      ((d.forwarded m).cgRoll m.group).fg PWM_ALIGN_CTRL_STEP := fg_fs_ne _ _ _ _ _ _ (by decide)
  have hfollows : ¬ (((d.forwarded m).cgRoll m.group).fg SYS_ROLE_PAR_MODE ≠ 2 ∨ ((d.forwarded m).cgRoll m.group).cgAligned m.group = false ∨
      ((d.forwarded m).cgRoll m.group).cgRuns m.group = false ∨ (vget ((d.forwarded m).cgRoll m.group).pwm.cg m.group).on = false) := by
    simp [hk.fg_eq, hk.cgAligned_eq, hk.cgRuns_eq, hpwm, hm, ha, hr, hon]
  subst he
  rw [offsetTaken, ← hstep]
  exact if_neg hfollows

/-- Alignment is lost: shown, with its event, counted in its fault class; every group's run of good offsets ends. -/
def alignLost (d : Dev) : Dev :=
  let e := ((d.fs PWM_ALIGN_STAT_ALIGNED 0).fs PWM_ALIGN_STAT_LOST 1).raise 10
  { e with pwm := { e.pwm with alOcc := (e.classHit 3 e.pwm.alOcc).1, cg := vmap (fun x => { x with okRun := 0 }) e.pwm.cg } }

theorem fg_alignLost (d : Dev) {F : Fld} {n : Nat} (hA : F.key n ≠ PWM_ALIGN_STAT_ALIGNED.key 0) (hL : F.key n ≠ PWM_ALIGN_STAT_LOST.key 0) :
    d.alignLost.fg F n = d.fg F n := (fg_fs_ne _ _ _ _ _ _ hL).trans (fg_fs_ne _ _ _ _ _ _ hA)

theorem alignLost_spec (d : Dev) : d.alignLost.fg PWM_ALIGN_STAT_ALIGNED = 0 ∧ d.alignLost.fg PWM_ALIGN_STAT_LOST = 1 ∧
    d.alignLost.evt = (d.raise 10).evt ∧ d.alignLost.pwm.leg = d.pwm.leg := by
  refine ⟨(fg_fs_ne _ _ _ _ _ _ (by decide)).trans (fg_fs ..), fg_fs .., ?_, rfl⟩
  exact (raise_fs_evt _ _ _).trans (raise_fs_evt _ _ _)

theorem alignLoss_eq (d : Dev) : d.alignLoss = if d.alignLost.fb PWM_ALIGN_CTRL_LOSS_ACT then
    ((List.range 24).filter fun n => d.alignLost.cgAligned (d.alignLost.legGrp n) && d.alignLost.fb PWM_LEG_n_CTRL_EN n).foldl
      (fun d n => d.updLeg n fun x => { x with stopAtStart := true }) d.alignLost
    else d.alignLost := rfl

/-- Changes of legs one by one change nothing else. -/
theorem foldl_updLeg_pwm (f : Leg → Leg) (l : List Nat) (d : Dev) : ∃ x : Pwm, l.foldl (fun d n => d.updLeg n f) d = { d with pwm := x } := by
  induction l generalizing d with
  | nil => exact ⟨d.pwm, rfl⟩
  | cons n t ih =>
    obtain ⟨x, hx⟩ := ih (d.updLeg n f)
    exact ⟨x, hx⟩

theorem foldl_stopAtStart_leg (l : List Nat) (d : Dev) (n : Fin 24) :
    ((l.foldl (fun d n => d.updLeg n fun x => { x with stopAtStart := true }) d).leg n).stopAtStart =
      (decide (n.val ∈ l) || (d.leg n).stopAtStart) := by
  induction l generalizing d with
  | nil => rfl
  | cons m t ih =>
    rw [List.foldl_cons, ih]
    by_cases h : m = n
    · subst h
      simp
    · simp [leg_updLeg_ne d _ h, Ne.symm h]

theorem alignLoss_keeps {d : Dev} (h : d.fb PWM_ALIGN_CTRL_LOSS_ACT = false) : d.alignLoss = d.alignLost := by
  have hact : d.alignLost.fb PWM_ALIGN_CTRL_LOSS_ACT = false := (fb_of_fg (fg_alignLost d (by decide) (by decide))).trans h
  rw [alignLoss_eq, if_neg (Bool.eq_false_iff.1 hact)]

/-- Where the loss acts, the aligned groups' legs are to stop at their next carrier starts. -/
theorem alignLoss_stops {d : Dev} (h : d.fb PWM_ALIGN_CTRL_LOSS_ACT = true) : d.alignLoss.fg PWM_ALIGN_STAT_ALIGNED = 0 ∧
    d.alignLoss.fg PWM_ALIGN_STAT_LOST = 1 ∧ d.alignLoss.evt = (d.raise 10).evt ∧
    ∀ n : Fin 24, d.cgAligned (d.legGrp n) = true → d.fb PWM_LEG_n_CTRL_EN n = true → (d.alignLoss.leg n).stopAtStart = true := by
  obtain ⟨haligned, hlost, hevt, -⟩ := d.alignLost_spec
  have hkept (F : Fld) (hF : F.key 0 ≠ PWM_ALIGN_STAT_ALIGNED.key 0 ∧ F.key 0 ≠ PWM_ALIGN_STAT_LOST.key 0) : d.alignLost.fg F = d.fg F :=
    fg_alignLost d hF.1 hF.2
  have hleg (F : Fld) (hF : F.base = 0x20020200 ∧ F.stride = 0x20) (n : Nat) : d.alignLost.fg F n = d.fg F n := by
    obtain ⟨hb, hs⟩ := hF
    refine fg_alignLost d ?_ ?_ <;> simp only [Fld.key, hb, hs, PWM_ALIGN_STAT_ALIGNED, PWM_ALIGN_STAT_LOST] <;> omega
  have hact : d.alignLost.fb PWM_ALIGN_CTRL_LOSS_ACT = true := (fb_of_fg (hkept _ (by decide))).trans h
  have hmask (g : Nat) : d.alignLost.cgAligned g = d.cgAligned g := by
    rw [cgAligned, cgAligned, fb, fbit, hkept _ (by decide), hkept _ (by decide), fb, fbit]
  have hgrp (n : Nat) : d.alignLost.legGrp n = d.legGrp n := hleg _ (by decide) n
  have hen (n : Nat) : d.alignLost.fb PWM_LEG_n_CTRL_EN n = d.fb PWM_LEG_n_CTRL_EN n := fb_of_fg (hleg _ (by decide) n)
  have hloss : d.alignLoss = _ := d.alignLoss_eq.trans (if_pos hact)
  obtain ⟨x, hx⟩ := foldl_updLeg_pwm (fun x => { x with stopAtStart := true })
    ((List.range 24).filter fun n => d.alignLost.cgAligned (d.alignLost.legGrp n) && d.alignLost.fb PWM_LEG_n_CTRL_EN n) d.alignLost
  refine ⟨?_, ?_, ?_, fun n ha hn => ?_⟩
  · rw [hloss, hx]
    exact haligned
  · rw [hloss, hx]
    exact hlost
  · rw [hloss, hx]
    exact hevt
  · rw [hloss, foldl_stopAtStart_leg]
    simp [hmask, hgrp, hen, ha, hn]

end Dev
/-! ### The start of a group (R96) -/

/-- `PWM_CG_g_CFG` in the register map. -/
def cgCfgReg : Reg := ⟨0x20020040, 0x10, 0, 8, [⟨PWM_CG_g_CFG_RUN, .RW, .any⟩, ⟨PWM_CG_g_CFG_TT_START, .RW, .any⟩,
  ⟨PWM_CG_g_CFG_PRESC, .RW, .any⟩, ⟨PWM_CG_g_CFG_MODE, .RW, .any⟩]⟩

theorem findReg_cgCfg (g : Fin 8) : findReg (PWM_CG_g_CFG_RUN.at g) = some (cgCfgReg, g.val) := by
  fin_cases g <;> rfl

theorem cgCfgReg_rw : ∀ s ∈ cgCfgReg.flds, s.acc = .RW := by decide

/-- A field of `PWM_CG_g_CFG` takes what the written word gives it. -/
theorem storeWord_cgCfg {s : FldSpec} (hs : s ∈ cgCfgReg.flds) (d : Dev) (g : Fin 8) (w : Nat) :
    (d.storeWord cgCfgReg g w).fg s.fld g = s.fld.of w := Dev.storeWord_of cgCfgReg_rw (findReg_cgCfg g) (by decide) hs d w

/-- A group that is set running waits for its time trigger, or starts in the next tick. -/
theorem Dev.cgRunWritten_starts {d d0 : Dev} {g : Nat} (hrun : d.fb PWM_CG_g_CFG_RUN g = true) (hoff : d0.fb PWM_CG_g_CFG_RUN g = false) :
    d.cgRunWritten d0 g = if d.fb PWM_CG_g_CFG_TT_START g then (d.fs PWM_CG_g_CNT_WAIT 1 g).updCg g fun _ => {}
      else d.cgStart g (d.clk.ticks + 1) := if_pos (by simp [hrun, hoff])

theorem carrierGroupRun_starts {s : State} {a : Acc} {g : Fin 8} {val : W32} (up : s.up) (hval : PWM_CG_g_CFG_RUN.of val.toNat = 1)
    (hoff : s.dev.fb PWM_CG_g_CFG_RUN g = false) (hok : s.dev.accepts a (PWM_CG_g_CFG_RUN.at g) val.toNat) : ∃ t,
    exec (.carrierGroupRun a g val) s = .next t ∧ t.dev.fg PWM_CG_g_CFG_RUN g = 1 ∧
      (PWM_CG_g_CFG_TT_START.of val.toNat = 1 → t.dev.fg PWM_CG_g_CNT_WAIT g = 1) ∧
      (PWM_CG_g_CFG_TT_START.of val.toNat = 0 → t.dev.fg PWM_CG_g_CNT_WAIT g = 0 ∧
        vget t.dev.pwm.cg g = { next := s.dev.clk.ticks + 1 }) := by
  have hat : PWM_CG_g_CFG_RUN.at g = 0x20020040 + 0x10 * g.val := rfl
  obtain ⟨e, he⟩ : ∃ e, s.dev.storeWord cgCfgReg g val.toNat = e := ⟨_, rfl⟩
  have hrun : e.fg PWM_CG_g_CFG_RUN g = 1 :=
    he ▸ (storeWord_cgCfg (.head _) _ g _).trans hval
  have htt : e.fg PWM_CG_g_CFG_TT_START g = PWM_CG_g_CFG_TT_START.of val.toNat :=
    he ▸ storeWord_cgCfg (.tail _ (.head _)) _ g _
  have hclk : e.clk = s.dev.clk := he ▸ Dev.storeWord_clk cgCfgReg_rw _ _ _
  have hwrite : (s.dev.regWrite a (PWM_CG_g_CFG_RUN.at g) val.toNat).2 = e.cgRunWritten s.dev g :=
    he ▸ Dev.regWrite_accepted (findReg_cgCfg g) (by omega) (by omega) (by omega) rfl rfl hok
  rw [Dev.cgRunWritten_starts (by rw [Dev.fb, hrun]; rfl) hoff] at hwrite
  refine ⟨_, State.run_wrIf up (by simp [rises, hval, hoff]) hwrite, ?run, fun h1 => ?waits, fun h0 => ?starts⟩
  case run =>
    rw [State.to_dev, Dev.fg_land]
    split
    · exact Eq.trans (Dev.fg_fs_stride (F := PWM_CG_g_CNT_WAIT)) hrun
    · exact Eq.trans (Dev.fg_fs_stride (F := PWM_CG_g_CNT_WAIT)) hrun
  case waits =>
    rw [if_pos (by rw [Dev.fb, htt, h1]; rfl)]
    exact Dev.fg_fs ..
  case starts =>
    rw [if_neg (by rw [Dev.fb, htt, h0]; exact Bool.false_ne_true), ← hclk]
    exact ⟨Dev.fg_fs .., Dev.cg_updCg (e.fs PWM_CG_g_CNT_WAIT 0 g) g fun _ => { next := e.clk.ticks + 1 }⟩

/-! ### A marker's arrival -/

section
variable {s : State} {m : MarkIn} {off : Int} (up : s.up) (href : s.dev.clk.refPresent = true)
include up href

/-- A node that neither leads nor follows sends the marker on along the chain, and nothing else. -/
theorem markerReceived_forwards (hm : s.dev.fg SYS_ROLE_PAR_MODE = 0) (h0 : s.dev.laneUp m.lane = true) (h1 : s.dev.laneUp (1 - m.lane) = true)
    (hr : s.dev.cgRuns m.group = false) : ∃ t, ∃ x < 1024, exec (.markerReceived m off) s = .next t ∧
      t.dev.tx = s.dev.tx ++ [.ordered (1 - m.lane) 3 (32 * m.group + 4 * m.count.toNat + x / 256) (x % 256)] ∧ t.dev.regs = s.dev.regs := by
  have hsent : s.dev.forwarded m = s.dev.markOn m.group m.count.toNat (1 - m.lane) := if_pos (by simp [h0, hm])
  have hk := s.dev.forwarded_keepsLegs m
  have hroll : (s.dev.forwarded m).cgRoll m.group = s.dev.forwarded m := Dev.cgRoll_stopped ((hk.cgRuns_eq _).trans hr)
  have hdev : markerDev m off s.dev = s.dev.forwarded m := by
    have hmode : ((s.dev.forwarded m).cgRoll m.group).fg SYS_ROLE_PAR_MODE ≠ 2 := by rw [hroll, hk.fg_eq, hm]; decide
    exact (if_pos (.inl hmode)).trans hroll
  obtain ⟨x, hx, htx⟩ := Dev.markOn_up h1 m.group m.count.toNat
  obtain ⟨hregs, -⟩ := hk
  exact ⟨_, x, hx, State.runIf_on up href _, by rw [hdev, hsent]; exact htx, by rw [hdev]; exact hregs⟩

variable (hm : s.dev.fg SYS_ROLE_PAR_MODE = 2) (ha : s.dev.cgAligned m.group = true) (hr : s.dev.cgRuns m.group = true)
  (hon : (vget (s.dev.cgRoll m.group).pwm.cg m.group).on = true)
include hm ha hr hon

/-- A follower that is not aligned yet takes the offset; it may become aligned by it. -/
theorem markerReceived_corrects (hlo : -32767 ≤ off) (hhi : off ≤ 32767) (hal : s.dev.fb PWM_ALIGN_STAT_ALIGNED = false) : ∃ t,
    exec (.markerReceived m off) s = .next t ∧ t.dev.fgS PWM_ALIGN_STAT_OFFSET = off ∧
      (vget t.dev.pwm.cg m.group).next = (((vget (s.dev.cgRoll m.group).pwm.cg m.group).next : Int) -
        clampI (-(s.dev.fg PWM_ALIGN_CTRL_STEP : Int)) (s.dev.fg PWM_ALIGN_CTRL_STEP) (roundDiv off 64)).toNat ∧
      (vget t.dev.pwm.cg m.group).noMark = 0 ∧ t.dev.evt = s.dev.evt := by
  obtain ⟨r, hr'⟩ : ∃ r, (s.dev.forwarded m).cgRoll m.group = r := ⟨_, rfl⟩
  have hk : Dev.KeepsLegs s.dev r := hr' ▸ .cgRoll (s.dev.forwarded_keepsLegs m)
  have hpwm : r.pwm = (s.dev.cgRoll m.group).pwm := hr' ▸ Dev.cgRoll_forwarded_pwm m (by omega)
  have hal' : (r.offsetTaken m.group off).fb PWM_ALIGN_STAT_ALIGNED = false :=
    (Dev.fb_of_fg ((Dev.fg_offsetTaken _ _ _ (by decide)).trans (hk.fg_eq _ _))).trans hal
  have hoff := r.offsetTaken_offset m.group hlo hhi
  obtain ⟨hnext, hmark⟩ := r.offsetTaken_cg m.group off
  rw [hpwm, hk.fg_eq] at hnext
  obtain ⟨-, -, hevt, -⟩ := hk
  have hdev := Dev.markerDev_follower (congrArg (Dev.offsetTaken · m.group off) hr') hm ha hr hon
  rw [if_neg (Bool.eq_false_iff.1 hal')] at hdev
  refine ⟨_, (State.runIf_on up href _).trans (by rw [hdev]), ?_⟩
  split
  · exact ⟨(congrArg (sval 16) (Dev.fg_fs_ne _ _ _ _ _ _ (by decide))).trans hoff, hnext, hmark, hevt⟩
  · exact ⟨hoff, hnext, hmark, hevt⟩

/-- One that is aligned loses its alignment by an offset beyond the window. -/
theorem markerReceived_loses (hal : s.dev.fb PWM_ALIGN_STAT_ALIGNED = true) (hact : s.dev.fb PWM_ALIGN_CTRL_LOSS_ACT = false)
    (hwin : s.dev.fg PWM_ALIGN_CTRL_LOSS_WIN * 512 < off.natAbs) : ∃ t, exec (.markerReceived m off) s = .next t ∧
      t.dev.fg PWM_ALIGN_STAT_ALIGNED = 0 ∧ t.dev.fg PWM_ALIGN_STAT_LOST = 1 ∧ t.dev.evt = (s.dev.raise 10).evt ∧
      t.dev.pwm.leg = s.dev.pwm.leg := by
  obtain ⟨r, hr'⟩ : ∃ r, (s.dev.forwarded m).cgRoll m.group = r := ⟨_, rfl⟩
  have hk : Dev.KeepsLegs s.dev r := hr' ▸ .cgRoll (s.dev.forwarded_keepsLegs m)
  have hfld (F : Fld) (hF : F.key 0 ≠ PWM_ALIGN_STAT_OFFSET.key 0) : (r.offsetTaken m.group off).fg F = s.dev.fg F :=
    (Dev.fg_offsetTaken _ _ _ hF).trans (hk.fg_eq _ _)
  have hdev := Dev.markerDev_follower (congrArg (Dev.offsetTaken · m.group off) hr') hm ha hr hon
  rw [if_pos ((Dev.fb_of_fg (hfld _ (by decide))).trans hal), if_pos (by rwa [hfld _ (by decide)]),
    Dev.alignLoss_keeps ((Dev.fb_of_fg (hfld _ (by decide))).trans hact)] at hdev
  have hleaves : Dev.LeavesClk s.dev (r.offsetTaken m.group off) := by
    rw [← hr']
    exact .updCg (.fs (.cgRoll (.ite (.markOn .refl) .refl)))
  obtain ⟨haligned, hlost, hevt, hlegs⟩ := (r.offsetTaken m.group off).alignLost_spec
  obtain ⟨-, -, hevt', hlegs'⟩ := hk
  have hraise : ((r.offsetTaken m.group off).raise 10).evt = (s.dev.raise 10).evt := hleaves.raise_evt hevt' 10 0
  exact ⟨_, (State.runIf_on up href _).trans (by rw [hdev]), haligned, hlost, hevt.trans hraise, hlegs.trans hlegs'⟩

end

theorem markerTimeoutDev_none {d : Dev} (h : d.cgRollAll.markerLost = false) : markerTimeoutDev d = d.cgRollAll := by
  simp [markerTimeoutDev, h]

/-- A loss of markers that acts stops the legs of the aligned groups. -/
theorem markerTimeoutDev_lost {d : Dev} (hm : d.fg SYS_ROLE_PAR_MODE = 2) (hen : d.fb PWM_ALIGN_CTRL_EN = true)
    (hal : d.fb PWM_ALIGN_STAT_ALIGNED = true) (hact : d.fb PWM_ALIGN_CTRL_LOSS_ACT = true) (hlost : d.cgRollAll.markerLost = true) :
    ∃ e, markerTimeoutDev d = e ∧ e.fg PWM_ALIGN_STAT_ALIGNED = 0 ∧ e.fg PWM_ALIGN_STAT_LOST = 1 ∧ e.evt = (d.raise 10).evt ∧
      ∀ n : Fin 24, d.cgAligned (d.legGrp n) = true → d.fb PWM_LEG_n_CTRL_EN n = true → (e.leg n).stopAtStart = true := by
  have hk : Dev.KeepsLegs d d.cgRollAll := .cgRollAll .refl
  have hleaves : Dev.LeavesClk d d.cgRollAll := .cgRollAll .refl
  have hraise : (d.cgRollAll.raise 10).evt = (d.raise 10).evt := by
    obtain ⟨-, -, hevt, -⟩ := hk
    exact hleaves.raise_evt hevt 10 0
  obtain ⟨haligned, hshown, hevt, hstop⟩ := Dev.alignLoss_stops ((hk.fb_eq _ _).trans hact)
  refine ⟨d.cgRollAll.alignLoss, ?loss, haligned, hshown, hevt.trans hraise, fun n ha hn => hstop n ?mask ((hk.fb_eq _ _).trans hn)⟩
  case loss => simp [markerTimeoutDev, hk.fg_eq, hk.fb_eq, hm, hen, hal, hlost]
  case mask =>
    rw [hk.cgAligned_eq, Dev.legGrp, hk.fg_eq]
    exact ha

/-- Settles O14: a group's carrier start concerns its group and, on a leader, its marker; a leg follows its group at the instants that its phase
gives; a marker corrects a follower, and a loss of alignment is shown, raised, and acts where it is to. -/
theorem carrierGroups : Obligations.CarrierGroups := by
  refine ⟨fun s a up => ?groups, fun s up => ?markers⟩
  case groups =>
    intro d
    refine ⟨?run, ?roll, ?mark, ?start, ?centre, ?early⟩
    case run => exact fun g val hval hoff hok => carrierGroupRun_starts up hval hoff hok
    case roll =>
      rintro g x y hr rfl ht rfl
      obtain ⟨k, hk⟩ := Dev.cgRoll_spec hr ht
      obtain ⟨hregs, -⟩ := Dev.KeepsLegs.cgRoll (g := g) (.refl (d := d))
      rw [hk]
      exact ⟨rfl, rfl, rfl, rfl, rfl, hregs, Dev.cgRoll_tx⟩
    case mark => exact fun g hm ha h0 h1 => Dev.sendMark_oneLane hm ha h0 h1
    case start =>
      intro n e he hr
      refine ⟨fun ht => ?notYet, fun ht hen hstop => ?stops, fun ht hen => ?off, fun ht hen hstop load f r hload hf hr' q hq => ?runs⟩
      case notYet => exact State.run_eq up (Dev.carrierStartDev_early he hr ht)
      case stops => exact State.run_eq up ((Dev.carrierStartDev_now he hr ht).trans ((if_pos hen).trans (if_pos hstop)))
      case off => exact State.run_eq up ((Dev.carrierStartDev_now he hr ht).trans (if_neg (Bool.eq_false_iff.1 hen)))
      case runs =>
        refine State.run_eq up ((Dev.carrierStartDev_now he hr ht).trans ((if_pos hen).trans ?_))
        exact Dev.legCarrierStart_runs hstop hload hf hr' hq
    case centre => exact fun n e hen hr hmid ht he => State.run_eq up (Dev.carrierCentreDev_now hen hr hmid ht he)
    case early => exact fun n ht => State.run_eq up (if_pos (by simp [ht, d]))
  case markers =>
    intro d
    refine ⟨?corrects, ?forwards, ?loses, ?none, ?timeout⟩
    case corrects =>
      rintro m g off x rfl href hm ha hr rfl hon hlo hhi hal
      exact markerReceived_corrects up href hm ha hr hon hlo hhi hal
    case forwards => exact fun m off href hm h0 h1 hr => markerReceived_forwards up href hm h0 h1 hr
    case loses =>
      rintro m g off rfl href hm ha hr hon hal hact hwin
      exact markerReceived_loses up href hm ha hr hon hal hact hwin
    case none => exact fun h => State.run_eq up (markerTimeoutDev_none h)
    case timeout =>
      intro hm hen hal hact hlost
      obtain ⟨e, he, hspec⟩ := markerTimeoutDev_lost hm hen hal hact hlost
      exact ⟨_, State.run_eq up he, hspec⟩

end Sys2Proof.Machine
end

section
/-! SUPPORT. The statement about the PWM and trip commands (05). -/
set_option Elab.async false

namespace Sys2Proof.Machine

/-! ### Masks and values in a payload -/

theorem bitsOf_two_pow {i n : Nat} (h : i < n) : bitsOf n (2 ^ i) = [i] := by
  have hbit : (2 ^ i).testBit = fun j => decide (j = i) := funext fun j => by rw [Nat.testBit_two_pow, decide_eq_decide]; exact eq_comm
  rw [bitsOf, hbit, List.filter_eq, List.count_eq_one_of_mem List.nodup_range (List.mem_range.2 h), List.replicate_one]

theorem leAt_drop (l : List Byte) (k i n : Nat) : leAt (l.drop k) i n = leAt l (k + i) n := by
  rw [leAt, leAt, List.drop_drop]

/-- The legs of a mask that are not enabled: those a start acts on. -/
def Dev.idleLegs (d : Dev) (m : Nat) : List Nat := (bitsOf 24 m).filter fun n => !d.fb PWM_LEG_n_CTRL_EN n

theorem Dev.mem_idleLegs {d : Dev} {m n : Nat} : n ∈ d.idleLegs m ↔ n ∈ bitsOf 24 m ∧ d.fb PWM_LEG_n_CTRL_EN n = false := by
  simp [idleLegs]

/-! ### The commands (R122, R136) -/

section
variable {c : Cmd} {d : Dev}

/-- A payload that is a mask of legs and nothing more. -/
def Cmd.hasMask (c : Cmd) (m : Nat) : Prop := c.payload.length = 4 ∧ leAt c.payload 0 4 = m ∧ m < 2 ^ 24

/-- None of the commands that take a mask refuses such a payload. -/
theorem Cmd.hasMask.inRange {m : Nat} (h : c.hasMask m) : ¬ (c.payload.length ≠ 4 ∨ 2 ^ 24 ≤ leAt c.payload 0 4) := by
  obtain ⟨hlen, hmask, hlt⟩ := h
  omega

theorem pwmStartCmd_all {m : Nat} (h : c.hasMask m) (hcan : ∀ n ∈ d.idleLegs m, d.canStart n (d.legGrp n) = true) :
    pwmStartCmd c d = (.st .ok, (d.idleLegs m).foldl Dev.legStart d) := by
  obtain ⟨-, rfl, -⟩ := id h
  rw [pwmStartCmd, if_neg h.inRange]
  exact if_pos (List.all_eq_true.2 hcan)

theorem pwmStartCmd_none {m n : Nat} (h : c.hasMask m) (hn : n ∈ d.idleLegs m) (hcan : d.canStart n (d.legGrp n) = false) :
    pwmStartCmd c d = (.st .state, d) := by
  obtain ⟨-, rfl, -⟩ := id h
  rw [pwmStartCmd, if_neg h.inRange]
  exact if_neg fun hall => Bool.eq_false_iff.1 hcan (List.all_eq_true.1 hall n hn)

theorem pwmStopCmd_mask {m : Nat} (h : c.hasMask m) : pwmStopCmd c d = (.st .ok, (bitsOf 24 m).foldl Dev.legStop d) := by
  obtain ⟨-, hmask, -⟩ := id h
  rw [pwmStopCmd, if_neg h.inRange, hmask]

theorem trpClearCmd_mask {m : Nat} (h : c.hasMask m) :
    trpClearCmd c d = (.st (if (d.clearLegs m).1 then .ok else .state), (d.clearLegs m).2) := by
  obtain ⟨-, hmask, -⟩ := id h
  rw [trpClearCmd, if_neg h.inRange, hmask]

theorem trpSoftCmd_mask {m : Nat} (h : c.hasMask m) : trpSoftCmd c d = (.st .ok, d.softTrip m) := by
  obtain ⟨-, hmask, -⟩ := id h
  rw [trpSoftCmd, if_neg h.inRange, hmask]

/-- The codes of a force command share a byte, the low switch's above the high one's. -/
theorem pwmForceCmd_codes {g h l : Nat} (hc : c.payload = [BitVec.ofNat 8 g, BitVec.ofNat 8 (h + 4 * l)]) (hg : g < 8) (hh : h < 3) (hl : l < 3)
    (hhold : d.fb CLK_PLL_STAT_PWM_HOLD = false) : pwmForceCmd c d = (.reply .ok (leBytes 6 (d.clk.ticks + 8)),
      ((d.fs PWM_FORCE_g_H_CODE h g).fs PWM_FORCE_g_L_CODE l g).forceWrite g) := by
  have hgrp : byteAt c.payload 0 = g := by simp [hc, byteAt]; omega
  have hcodes : byteAt c.payload 1 = h + 4 * l := by simp [hc, byteAt]; omega
  have hlen : c.payload.length = 2 := by rw [hc]; rfl
  have hhigh : (h + 4 * l) % 4 = h := by omega
  have hlow : (h + 4 * l) / 4 = l := by omega
  simp only [pwmForceCmd, hgrp, hcodes, hlen, hhigh, hlow]
  rw [if_neg (by omega), if_neg (by simp [hhold])]

/-- One leg's shadows. -/
theorem pwmSetCmd_one {n : Nat} (hn : n < 24) (hlen : c.payload.length = 12) (hmask : leAt c.payload 0 4 = 2 ^ n)
    (ha : leAt c.payload 4 4 < 2 ^ 26) (hb : leAt c.payload 8 4 < 2 ^ 26) (hsrc : d.fb PWM_LEG_n_CTRL_SRC n = false) :
    pwmSetCmd c d = (.st .ok,
      ((d.fs PWM_LEG_n_CMPA_CMP (leAt c.payload 4 4) n).fs PWM_LEG_n_CMPB_CMP (leAt c.payload 8 4) n).shadowWritten n) := by
  have hlt : 2 ^ n < 2 ^ 24 := Nat.pow_lt_pow_right (by decide) hn
  have hvals : (List.range 2).any (fun i => decide (2 ^ 26 ≤ leAt (c.payload.drop 4) (4 * i) 4)) = false := by
    simpa [leAt_drop, List.range_succ] using ⟨ha, hb⟩
  simp only [pwmSetCmd, hmask, bitsOf_two_pow hn, hlen, List.length_singleton, hvals]
  rw [if_neg (by simpa using hlt), if_neg (by simp [hsrc]), setShadows, setShadows, leAt_drop, leAt_drop]

end

/-- Settles O17: a command whose payload names legs acts on them all, or is refused and changes nothing; each reply stands with its command. -/
theorem legCommands : Obligations.LegCommands := by
  intro s p tag b up d
  have answers {op : Nat} {l : List Byte} {f : Cmd → Dev → Res × Dev} {e : Dev} {st : St} {r : List Byte} :=
    @State.run_answers s op p tag l f e st r up
  have mask {c : Cmd} (hc : c.payload = b) (hlen : b.length = 4) (hlt : leAt b 0 4 < 2 ^ 24) : c.hasMask (leAt b 0 4) := by
    subst hc; exact ⟨hlen, rfl, hlt⟩
  refine ⟨?start, ?refused, ?stop, ?force, ?set, ?clear, ?soft⟩
  case start =>
    rintro l h hlen hlt rfl hcan
    exact answers h fun c hc => pwmStartCmd_all (mask hc hlen hlt) hcan
  case refused =>
    rintro h hlen hlt ⟨n, hn, hen, hcan⟩
    exact answers h fun c hc => pwmStartCmd_none (mask hc hlen hlt) (Dev.mem_idleLegs.2 ⟨hn, hen⟩) hcan
  case stop => exact fun h hlen hlt => answers h fun c hc => pwmStopCmd_mask (mask hc hlen hlt)
  case force => exact fun g h l hst hg hh hl hhold => answers hst fun c hc => pwmForceCmd_codes hc hg hh hl hhold
  case set =>
    intro n h hlen hmask ha hb hsrc
    refine answers h fun c hc => ?_
    subst hc
    exact pwmSetCmd_one n.isLt hlen hmask ha hb hsrc
  case clear => exact fun h hlen hlt => answers h fun c hc => trpClearCmd_mask (mask hc hlen hlt)
  case soft => exact fun h hlen hlt => answers h fun c hc => trpSoftCmd_mask (mask hc hlen hlt)

end Sys2Proof.Machine
end

section
/-! SUPPORT. The statement about trips: inputs, blanking, reactions, releases, and the writes of the trip registers (06). -/
set_option Elab.async false

namespace Sys2Proof.Machine
namespace Dev

/-! ### Trip inputs (R124, R125) -/

/-- A field of an input's setup shares no place with a single register that stands above the setups. -/
theorem inCfg_key_ne {F G : Fld} {n : Nat} (hn : n < 24) (hF : F.base = 0x20040100 ∧ F.stride = 4 ∧ F.lo < 32)
    (hG : G.stride = 0 ∧ 0x20040180 ≤ G.base) : F.key n ≠ G.key 0 := by
  obtain ⟨hbase, hstride, hlo⟩ := hF
  obtain ⟨hstride', hbase'⟩ := hG
  simp only [Fld.key, hbase, hstride, hstride']
  omega

/-- Neither an input's level nor its mark of having been active is part of its setup. -/
theorem fg_fsBit_inCfg {F G : Fld} {n i : Nat} {b : Bool} {d : Dev} (hn : n < 24)
    (hF : F.base = 0x20040100 ∧ F.stride = 4 ∧ F.lo < 32 := by decide) (hG : G.stride = 0 ∧ 0x20040180 ≤ G.base := by decide) :
    (d.fsBit G i b).fg F n = d.fg F n := fg_fs_ne _ _ _ _ _ _ (inCfg_key_ne hn hF hG)

/-- An enabled input that acts is marked and becomes active on its leg. -/
theorem inputActs_enabled {d : Dev} {n : Nat} (hn : n < 24) (hen : d.fb TRP_IN_n_CFG_EN n = true) :
    d.inputActs n = (d.fsBit TRP_IN_SEEN_SEEN n true).activate (d.fg TRP_IN_n_CFG_LEG n) n (d.fg TRP_IN_n_CFG_SW n) := by
  have hen' : (d.fsBit TRP_IN_SEEN_SEEN n true).fb TRP_IN_n_CFG_EN n = true := (fb_of_fg (fg_fsBit_inCfg hn)).trans hen
  refine (if_pos hen').trans ?_
  rw [inSw, fg_fsBit_inCfg hn, fg_fsBit_inCfg hn]

theorem setInput_same {d : Dev} {n : Nat} {act : Bool} (h : d.fbit TRP_IN_STAT_ACT n = act) : d.setInput n act = d := if_pos h

/-- An input that is not blanked acts when its filtered level becomes active. -/
theorem setInput_rises {d : Dev} {n : Nat} (h : d.fbit TRP_IN_STAT_ACT n = false) (hb : d.blanked n = false) :
    d.setInput n true = (d.fsBit TRP_IN_STAT_ACT n true).inputActs n := by
  have hb' : (d.fsBit TRP_IN_STAT_ACT n true).blanked n = false := hb
  rw [setInput, if_neg (by simp [h]), if_pos rfl, if_neg (Bool.eq_false_iff.1 hb')]

/-! ### Blanking (R127) -/

/-- The device in which input `n` is no longer blanked. -/
def unblanked (d : Dev) (n : Nat) : Dev := { d with trp := { d.trp with blank := d.trp.blank.filter (·.1 != n) } }

theorem blanked_unblanked (d : Dev) (n : Nat) : (d.unblanked n).blanked n = false := by simp [blanked, unblanked]

/-- A blanking fault of a leg is shown and raises its event. -/
def blankFault (d : Dev) (leg : Nat) : Dev := (d.fs TRP_LEG_n_STAT_BLANK_FLT 1 leg).raise 13 leg

theorem blankFault_fg (d : Dev) (leg : Nat) : (d.blankFault leg).fg TRP_LEG_n_STAT_BLANK_FLT leg = 1 := fg_fs ..

theorem blankFault_evt (d : Dev) (leg : Nat) : (d.blankFault leg).evt = (d.raise 13 leg).evt :=
  raise_fs_evt _ _ _ (degraded_key_ne_leg _ (by decide))

theorem blankingEndDev_early {d : Dev} {n : Nat} (h : ∀ x ∈ d.trp.blank, x.1 = n → d.clk.ticks < x.2) : blankingEndDev n d = d :=
  if_pos (by simpa using fun m t hx hm => h (m, t) hx hm)

theorem blankingEndDev_due {d : Dev} {n t : Nat} (hx : (n, t) ∈ d.trp.blank) (ht : t ≤ d.clk.ticks) : blankingEndDev n d =
    if d.fbit TRP_IN_STAT_ACT n then
      (if d.fb TRP_IN_n_CFG_EN n then (d.unblanked n).blankFault (d.fg TRP_IN_n_CFG_LEG n) else d.unblanked n).inputActs n
    else d.unblanked n :=
  if_neg (by simpa using ⟨t, hx, ht⟩)

/-! ### Reactions and releases (R128, R130, R133) -/

theorem fallH_trp (d : Dev) (n sub : Nat) : (d.fallH n sub).trp = d.trp := by
  unfold fallH
  split <;> rfl

theorem fallL_trp (d : Dev) (n sub : Nat) : (d.fallL n sub).trp = d.trp := by
  unfold fallL
  split <;> rfl

/-- The safe state concerns the leg's outputs and its carry, not the trip logic. -/
theorem imposeSafe_trp (d : Dev) (n : Nat) : (d.imposeSafe n).trp = d.trp := by
  unfold imposeSafe
  dsimp only
  split
  · exact fallH_trp ..
  · exact fallL_trp ..
  · exact (fallL_trp ..).trans (fallH_trp ..)

theorem tripSafe_offWait (d : Dev) (n : Nat) : (d.tripSafe n).trp.offWait = d.trp.offWait := by rw [tripSafe, imposeSafe_trp, updTLeg]

/-- Where no group waits for an all-off, the end of a reaction concerns its leg alone. -/
theorem reactEnd_alone {d : Dev} (h : d.trp.offWait = []) (n : Nat) :
    d.reactEnd n = ({ d.tripSafe n with trp := { (d.tripSafe n).trp with offWait := [] } } : Dev).releaseNow n := by
  simp only [reactEnd, (tripSafe_offWait d n).trans h]
  rfl

theorem tripSafeStateDev_early {d : Dev} {n : Nat} {r : React} (hr : (d.tleg n).react = some r) (ht : d.clk.ticks < r.until_) :
    tripSafeStateDev n d = d := by
  simp only [tripSafeStateDev, hr]
  exact if_neg (Nat.not_le.2 ht)

theorem tripSafeStateDev_due {d : Dev} {n : Nat} {r : React} (hr : (d.tleg n).react = some r) (ht : r.until_ ≤ d.clk.ticks) :
    tripSafeStateDev n d = d.reactEnd n := by
  simp only [tripSafeStateDev, hr]
  exact if_pos ht

/-- A tripped leg without a reaction, a wait of its group or an active source may be released once its hold-off is over. -/
theorem mayRelease_holdoff {d : Dev} {n : Nat} (hst : d.fg TRP_LEG_n_STAT_STATE n = 1) (hreact : (d.tleg n).react = none)
    (hoff : d.offPending n = false) (hsrc : d.srcActive n false = false)
    (ht : (d.tleg n).inactiveAt + d.fg TRP_CLS_k_HOLDOFF (d.fg TRP_LEG_n_CFG_CLS n) * 8000 ≤ d.clk.ticks) : d.mayRelease n = true := by
  simp [mayRelease, fb, hst, hreact, hoff, hsrc, ht]

theorem releaseNow_stopped {d : Dev} {n : Nat} (hr : d.cgRuns (d.legGrp n) = false) (hm : d.mayRelease n = true) :
    d.releaseNow n = (d.releaseLeg n).legDrive n := by
  rw [releaseNow, if_neg (Bool.eq_false_iff.1 hr), tryRelease, if_pos hm]

/-! ### Clears and software trips by register (R131, R134) -/

/-- A refused clear is recorded and raises its event. -/
theorem clearLegs_refused {d : Dev} {m : Nat} (h : (d.clearLegs m).1 = false) : (d.clearLegs m).2 = (d.fs TRP_STAT_CLR_REFUSED 1).raise 3 := by
  unfold clearLegs at h ⊢
  dsimp only at h ⊢
  split at h
  · next hany => rw [if_pos hany]
  · cases h

/-- `TRP_CLR` and `TRP_SWTRIP` in the register map, by their one field. -/
def maskReg (F : Fld) : Reg := ⟨F.base, 0x0, 0, 1, [⟨F, .WO, .any⟩]⟩

/-- A write of either acts on the legs that the word names, unless the state refuses it; nothing is stored. -/
theorem regWrite_mask {F : Fld} (hF : F = TRP_CLR_LEGS ∨ F = TRP_SWTRIP_LEGS) (d : Dev) (a : Acc) (w : Nat) :
    (d.regWrite a (F.at 0) w).2 =
      if d.stateTRP F.base 0 (F.of w) then d.refusedFxTRP F.base (F.of w) else d.afterTRP d F.base 0 (F.of w) := by
  have hwrite : d.regWrite a (F.at 0) w = d.writeReg (maskReg F) 0 w := by rcases hF with rfl | rfl <;> rfl
  have hw : reached (maskReg F) w = F.of w := by
    rcases hF with rfl | rfl <;> exact (Nat.zero_add _).trans (Nat.mul_one _)
  have hauth : d.authReg (maskReg F).base 0 (F.of w) = false := by rcases hF with rfl | rfl <;> rfl
  have hrange : (badEncoding (maskReg F) (F.of w) || d.rangeReg (maskReg F).base 0 (F.of w)) = false := by
    rcases hF with rfl | rfl <;> rfl
  have hlock : d.lockedReg (maskReg F).base 0 = false := by rcases hF with rfl | rfl <;> rfl
  rw [hwrite, writeReg, hw, hauth, hrange, hlock, Bool.false_and, Bool.or_false, if_neg Bool.false_ne_true, if_neg Bool.false_ne_true,
    apply_ite Prod.snd]
  rcases hF with rfl | rfl <;> rfl

/-- A field at bit 0 reads the same from its own value as from the word. -/
theorem of_of {F : Fld} (hF : F.lo = 0) (w : Nat) : F.of (F.of w) = F.of w := by simp [Fld.of, hF]

/-- A write of `TRP_CLR` has the effect of the clear, whether the clear is accepted or refused. -/
theorem regWrite_trpClr (d : Dev) (a : Acc) (w : Nat) :
    (d.regWrite a (TRP_CLR_LEGS.at 0) w).2 = (d.clearLegs (TRP_CLR_LEGS.of w)).2 := by
  have hof : TRP_CLR_LEGS.of (TRP_CLR_LEGS.of w) = TRP_CLR_LEGS.of w := of_of rfl w
  refine (regWrite_mask (.inl rfl) d a w).trans ?_
  conv_rhs => rw [← hof]
  exact ite_self _

/-- A write of `TRP_SWTRIP` is a software trip of the legs it names. -/
theorem regWrite_trpSwtrip (d : Dev) (a : Acc) (w : Nat) :
    (d.regWrite a (TRP_SWTRIP_LEGS.at 0) w).2 = d.softTrip (TRP_SWTRIP_LEGS.of w) := by
  have hof : TRP_SWTRIP_LEGS.of (TRP_SWTRIP_LEGS.of w) = TRP_SWTRIP_LEGS.of w := of_of rfl w
  refine (regWrite_mask (.inr rfl) d a w).trans ?_
  conv_rhs => rw [← hof]
  rfl

/-! ### A write of a class (R132) -/

/-- `TRP_CLS_k` in the register map. -/
def trpClsReg : Reg := ⟨0x20040400, 0x4, 0, 8, [⟨TRP_CLS_k_LIMIT, .RW, .nz⟩, ⟨TRP_CLS_k_HOLDOFF, .RW, .any⟩, ⟨TRP_CLS_k_WINDOW, .RW, .rng 1 60000⟩]⟩

theorem findReg_trpCls (k : Fin 8) : findReg (TRP_CLS_k_LIMIT.at k) = some (trpClsReg, k.val) := by
  fin_cases k <;> rfl

theorem trpClsReg_rw : ∀ s ∈ trpClsReg.flds, s.acc = .RW := by decide

/-- A field of `TRP_CLS_k` takes what the written word gives it. -/
theorem storeWord_trpCls {s : FldSpec} (hs : s ∈ trpClsReg.flds) (d : Dev) (k : Fin 8) (w : Nat) :
    (d.storeWord trpClsReg k w).fg s.fld k = s.fld.of w := storeWord_of trpClsReg_rw (findReg_trpCls k) (by decide) hs d w

/-- The class of a leg is not part of a class. -/
theorem storeWord_trpCls_legCls (d : Dev) (k : Fin 8) (w : Nat) (n : Fin 24) :
    (d.storeWord trpClsReg k w).fg TRP_LEG_n_CFG_CLS n = d.fg TRP_LEG_n_CFG_CLS n := by
  have hbelow : TRP_LEG_n_CFG_CLS.key n < 32 * 0x20040400 := by simp only [Fld.key, TRP_LEG_n_CFG_CLS]; omega
  have habove : ∀ s ∈ trpClsReg.flds, s.fld.base = 0x20040400 := by decide
  refine storeWord_fg_ne trpClsReg_rw (fun s hs => ?_) d w
  have hbase := habove s hs
  simp only [Fld.key] at hbelow ⊢
  omega

theorem storeWord_tleg {r : Reg} (hrw : ∀ s ∈ r.flds, s.acc = .RW) (d : Dev) (n w m : Nat) : (d.storeWord r n w).tleg m = d.tleg m := by
  obtain ⟨x, hx⟩ := storeWord_regs hrw d n w
  rw [hx]
  rfl

theorem tleg_updTLeg (d : Dev) (n : Fin 24) (f : TLeg → TLeg) : (d.updTLeg n f).tleg n = f (d.tleg n) := vget_vset_same _ _ _ n.isLt

theorem tleg_updTLeg_ne (d : Dev) {n m : Nat} (f : TLeg → TLeg) (h : n ≠ m) : (d.updTLeg n f).tleg m = d.tleg m := vget_vset_ne _ _ h

/-- The device in which the legs of a list have no counted occurrences. -/
def countsCleared (d : Dev) (l : List Nat) : Dev := l.foldl (fun d m => d.updTLeg m fun x => { x with occ := [] }) d

theorem countsCleared_regs (d : Dev) (l : List Nat) : (d.countsCleared l).regs = d.regs := by
  induction l generalizing d with
  | nil => rfl
  | cons m t ih => exact ih _

theorem countsCleared_occ (d : Dev) (l : List Nat) (n : Fin 24) :
    ((d.countsCleared l).tleg n).occ = if n.val ∈ l then [] else (d.tleg n).occ := by
  induction l generalizing d with
  | nil => rfl
  | cons m t ih =>
    refine (ih (d.updTLeg m fun x => { x with occ := [] })).trans ?_
    by_cases h : m = n
    · subst h
      simp [tleg_updTLeg]
    · simp [tleg_updTLeg_ne d _ h, Ne.symm h]

/-- An accepted write of a class is stored and clears the counts of the legs that use the class. -/
theorem regWrite_trpCls {d e : Dev} {a : Acc} {k : Fin 8} {w : Nat} (hok : d.accepts a (TRP_CLS_k_LIMIT.at k) w)
    (he : d.storeWord trpClsReg k w = e) : (d.regWrite a (TRP_CLS_k_LIMIT.at k) w).2 =
      e.countsCleared ((List.range 24).filter fun m => e.fg TRP_LEG_n_CFG_CLS m == k.val) := by
  have hat : TRP_CLS_k_LIMIT.at k = 0x20040400 + 4 * k.val := rfl
  rw [regWrite_accepted (findReg_trpCls k) (by omega) (by omega) (by omega) rfl rfl hok, he]
  rfl

end Dev

theorem tripClassWrite_stores {s : State} {a : Acc} {k : Fin 8} {val : W32} (up : s.up)
    (hok : s.dev.accepts a (TRP_CLS_k_LIMIT.at k) val.toNat) : ∃ t, exec (.tripClassWrite a k val) s = .next t ∧
      t.dev.fg TRP_CLS_k_LIMIT k = TRP_CLS_k_LIMIT.of val.toNat ∧ t.dev.fg TRP_CLS_k_WINDOW k = TRP_CLS_k_WINDOW.of val.toNat ∧
      t.dev.fg TRP_CLS_k_HOLDOFF k = TRP_CLS_k_HOLDOFF.of val.toNat ∧
      ∀ n : Fin 24, (t.dev.tleg n).occ = if s.dev.fg TRP_LEG_n_CFG_CLS n = k then [] else (s.dev.tleg n).occ := by
  obtain ⟨e, he⟩ : ∃ e, s.dev.storeWord Dev.trpClsReg k val.toNat = e := ⟨_, rfl⟩
  have holds {f : FldSpec} (hf : f ∈ Dev.trpClsReg.flds) (l : List Nat) : (e.countsCleared l).fg f.fld k = f.fld.of val.toNat :=
    (Dev.fg_of_regs (e.countsCleared_regs l) _ _).trans (he ▸ Dev.storeWord_trpCls hf _ k _)
  refine ⟨_, State.run_wrIf up rfl (Dev.regWrite_trpCls hok he), holds (.head _) _, holds (.tail _ (.tail _ (.head _))) _,
    holds (.tail _ (.head _)) _, fun n => ?_⟩
  have hcls : e.fg TRP_LEG_n_CFG_CLS n = s.dev.fg TRP_LEG_n_CFG_CLS n := he ▸ Dev.storeWord_trpCls_legCls ..
  have hleg : e.tleg n = s.dev.tleg n := he ▸ Dev.storeWord_tleg Dev.trpClsReg_rw ..
  refine (Dev.countsCleared_occ ..).trans ?_
  simp [hcls, hleg, n.isLt]

/-- Settles O18: an input, a blanking, a reaction or a hold-off acts when its condition is met and not before; a write of `TRP_CLR` or
`TRP_SWTRIP` is the clear or the trip of the legs it names, and a write of a class is stored and clears the counts of the legs that use it. -/
theorem tripSources : Obligations.TripSources := by
  intro s a up d
  refine ⟨?same, ?input, ?blanked, ?inactive, ?blankFault, ?reacts, ?safe, ?holdoff, ?refused, ?clears, ?soft, ?cls⟩
  case same => exact fun n high h => State.run_eq up (Dev.setInput_same h)
  case input =>
    intro n high hact hlevel hb hen
    have hrise : (high != d.fb TRP_IN_n_CFG_POL n) = true := bne_iff_ne.2 hlevel
    refine State.run_eq up ?_
    rw [hrise, Dev.setInput_rises hact hb, Dev.inputActs_enabled n.isLt ((Dev.fb_of_fg (Dev.fg_fsBit_inCfg n.isLt)).trans hen),
      Dev.fg_fsBit_inCfg n.isLt, Dev.fg_fsBit_inCfg n.isLt]
  case blanked => exact fun n h => State.run_eq up (Dev.blankingEndDev_early h)
  case inactive =>
    intro n t hx ht hact
    exact State.run_eq up ((Dev.blankingEndDev_due hx ht).trans (if_neg (Bool.eq_false_iff.1 hact)))
  case blankFault =>
    intro n t hx ht hact hen
    have hend := (Dev.blankingEndDev_due hx ht).trans ((if_pos hact).trans (by rw [if_pos hen]))
    exact ⟨_, State.run_eq up hend, Dev.blankFault_fg .., Dev.blankFault_evt .., d.blanked_unblanked n⟩
  case reacts => exact fun n r hr ht => State.run_eq up (Dev.tripSafeStateDev_early hr ht)
  case safe => exact fun n r hr ht hw => State.run_eq up ((Dev.tripSafeStateDev_due hr ht).trans (Dev.reactEnd_alone hw n))
  case holdoff =>
    intro n hrun hst hreact hoff hsrc ht
    exact State.run_eq up (Dev.releaseNow_stopped hrun (Dev.mayRelease_holdoff hst hreact hoff hsrc ht))
  case refused =>
    intro val hc _
    have hwrite := (d.regWrite_trpClr a val.toNat).trans (Dev.clearLegs_refused hc)
    exact ⟨_, State.run_wrIf up rfl hwrite, Dev.fg_fs .., Dev.raise_fs_evt .., rfl, rfl⟩
  case clears => exact fun val _ _ => State.run_wrIf up rfl (d.regWrite_trpClr a val.toNat)
  case soft =>
    intro val hlt
    have hmask : TRP_SWTRIP_LEGS.of val.toNat = val.toNat := by simpa [Fld.of, TRP_SWTRIP_LEGS] using hlt
    exact State.run_wrIf up rfl ((d.regWrite_trpSwtrip a val.toNat).trans (congrArg d.softTrip hmask))
  case cls => exact fun k val hok => tripClassWrite_stores up hok

end Sys2Proof.Machine
end

section
/-! SUPPORT. The statements about Cooper's arithmetic and about its moves between registers and memories (07). -/
set_option Elab.async false

namespace Sys2Proof.Machine

/-! ### An instruction whose turn it is (R147, R149) -/

section
variable {s : State} {sl : Nat} {i : Ins} {f : Dev → Ran} {e : Dev} {n : Nat} (up : s.up) (h : s.dev.atIns sl i)
include up h

/-- It has its effect and is over. -/
theorem State.run_coopDo (hf : f (s.dev.fetched sl) = { dev := e, steps := n }) :
    s.run (fun d => d.coopDo sl i f) = .next (s.to (e.done sl n)) :=
  State.run_eq up ((Dev.coopDo_at h f).trans (by rw [hf, if_pos rfl]))

/-- A contribution to an accumulator is such an effect (R142). -/
theorem State.run_accum {a : Nat} {p ec : Int} (hf : f (s.dev.fetched sl) = e.accum sl a (p, ec)) :
    s.run (fun d => d.coopDo sl i f) = .next (s.to (e.added sl a p ec)) := State.run_coopDo up h hf

/-- It faults its slot (R156). -/
theorem State.run_coopDo_fault {c : Nat} (hc : c ≠ 0) (hf : f (s.dev.fetched sl) = { dev := e, steps := n, cause := c }) :
    s.run (fun d => d.coopDo sl i f) = .next (s.to ((e.countSteps sl n).slotFault sl c)) :=
  State.run_eq up ((Dev.coopDo_at h f).trans (by rw [hf, if_neg hc]))

/-- One that moves the program counter itself has its effect, and its steps are counted. -/
theorem State.run_coopJump (hf : f (s.dev.fetched sl) = { dev := e, steps := n }) :
    s.run (fun d => d.coopJump sl i f) = .next (s.to (e.countSteps sl n)) :=
  State.run_eq up ((Dev.coopJump_at h f).trans (by rw [hf, if_pos rfl]))

end

namespace Dev

/-! ### Effects where every read and store succeeds (R142 to R145) -/

variable {d d1 d2 : Dev} {sl a : Nat}

/-- A word that has been read without a fault contributes its product with the other. -/
theorem accMem_read (sgn : Int) (v w : BitVec 32) :
    accMem sl a sgn (0, v, d) w = d.accum sl a (sgn * (wm v * wm w), we v + we w) := if_neg (not_not.2 rfl)

theorem coMac_read {c n : Nat} {v w : BitVec 32} (hw : d.rdC sl (c + d.repC sl) = (0, w, d1))
    (hv : d1.rdS sl (n + d.repS sl) = (0, v, d2)) (sgn : Int) :
    coMac sgn sl a c n d = d2.accum sl a (sgn * (wm v * wm w), we v + we w) := by
  simp only [coMac, hw, hv, ne_eq, not_true_eq_false, if_false]
  exact accMem_read sgn v w

theorem coMacx_read {n : Nat} {w : BitVec 32} (hw : d.rdC sl (n + d.repC sl) = (0, w, d1)) (sgn : Int) (x : Nat) :
    coMacx sgn sl a x n d = d1.accum sl a (sgn * (wm w * wm (d.xr sl x)), we w + we (d.xr sl x)) := by
  rw [coMacx, hw]
  exact accMem_read sgn w _

theorem coMacs_read {n : Nat} {w : BitVec 32} (hw : d.rdS sl (n + d.repS sl) = (0, w, d1)) (x : Nat) :
    coMacs sl a x n d = d1.accum sl a (1 * (wm w * wm (d.xr sl x)), we w + we (d.xr sl x)) := by
  rw [coMacs, hw]
  exact accMem_read 1 w _

theorem coLim_read {n : Nat} {lo hi : BitVec 32} {y : Accu} {ch : Bool} (hlo : d.rdC sl n = (0, lo, d1)) (hhi : d1.rdC sl (n + 1) = (0, hi, d2))
    (hlim : (d2.ac sl a).lim lo hi = (y, ch)) : coLim sl a n d =
    { dev := if ch then (d2.setA sl a y).updSlot sl fun x => { x with fL := true } else d2.setA sl a y
      steps := 2 } := by
  simp only [coLim, hlo, hhi, hlim, ne_eq, not_true_eq_false, if_false]

theorem coLd_read (x : Nat) (w : BitVec 32) : coLd sl x (0, w, d) = { dev := d.setX sl x w } := if_neg (not_not.2 rfl)

/-- A delay of two words moves one. -/
theorem dlyMoves_one {n : Nat} {w : BitVec 32} (hw : d.rdS sl n = (0, w, d1)) (hst : d1.stS sl (n + 1) w = (0, d2)) :
    dlyMoves sl n 1 d = (0, d2) := by
  simp only [dlyMoves, Nat.add_zero, hw, hst, ne_eq, not_true_eq_false, if_false]

theorem coDly_moved {k n : Nat} (h : dlyMoves sl n (k - 1) d = (0, d1)) : coDly sl k n d = { dev := d1, steps := k - 1 } := by
  rw [coDly, h]

theorem coStx_stored {x n : Nat} (h : d.stS sl (n + d.repS sl) (d.xr sl x) = (0, d1)) : coStx sl x n d = { dev := d1 } := by
  rw [coStx, h]

theorem coPick_lower (x y : Nat) : coPick sl x y true d =
    { dev := if wv (d.xr sl y) < wv (d.xr sl x) then d.setX sl x (d.xr sl y) else d } := by
  simp only [coPick, if_true, decide_eq_true_eq]

theorem coPick_higher (x y : Nat) : coPick sl x y false d =
    { dev := if wv (d.xr sl x) < wv (d.xr sl y) then d.setX sl x (d.xr sl y) else d } := by
  simp only [coPick, Bool.false_eq_true, if_false, decide_eq_true_eq]

theorem coLds_sample {kind i : Nat} {w : BitVec 32} {bad : Bool} (h : d.sample kind i = (w, bad)) (x : Nat) : coLds sl x kind i d =
    { dev := if bad then (d.setX sl x w).updSlot sl fun y => { y with fINV := true } else d.setX sl x w
      steps := 2 } := by
  rw [coLds, h]

theorem coChk_read {n : Nat} {w : BitVec 32} (h : d.rdC sl n = (0, w, d1)) (x y : Nat) : coChk sl x y n d =
    { dev := d1.updSlot sl fun z => { z with fT := decide ((wv (d1.xr sl x) - wv (d1.xr sl y)).natAbs ≤ wv w) }
      steps := 2 } := by
  simp only [coChk, h, ne_eq, not_true_eq_false, if_false]

end Dev

/-- A signed operand field of six bits. -/
theorem sval_toNat (k : BitVec 6) : sval 6 k.toNat = k.toInt := by
  have hlt := k.isLt
  rw [sval, BitVec.toInt]
  omega

/-- Settles O6: each instruction's turn has come, the words it names are read, and its effect is the contribution, or the accumulator or word,
that the rule gives. -/
theorem cooperArithmetic : Obligations.CooperArithmetic := by
  refine ⟨fun s sl a up => ?accumulate, fun s sl a up => ?convert⟩
  case accumulate =>
    intro d
    refine ⟨?mac, ?msu, ?macx, ?msux, ?macs, ?mulx, ?addx, ?subx, ?clr⟩
    case mac => exact fun c n w v d1 d2 h hw hv => State.run_accum up h (by rw [Dev.coMac_read hw hv, one_mul])
    case msu => exact fun c n w v d1 d2 h hw hv => State.run_accum up h (by rw [Dev.coMac_read hw hv, neg_one_mul])
    case macx => exact fun x n w d1 h hw => State.run_accum up h (by rw [Dev.coMacx_read hw, one_mul])
    case msux => exact fun x n w d1 h hw => State.run_accum up h (by rw [Dev.coMacx_read hw, neg_one_mul])
    case macs => exact fun x n w d1 h hw => State.run_accum up h (by rw [Dev.coMacs_read hw, one_mul])
    case mulx => exact fun x y h => State.run_accum up h rfl
    case addx => exact fun x h => State.run_accum up h (by rw [Dev.coAddx, singleW, one_mul])
    case subx => exact fun x h => State.run_accum up h (by rw [Dev.coAddx, singleW, neg_one_mul])
    case clr => exact fun h => State.run_coopDo up h rfl
  case convert =>
    intro d
    refine ⟨?shx, ?lim, ?rnd, ?sta, ?nrm⟩
    case shx => exact fun k h => State.run_coopDo up h (by rw [Dev.coShx, sval_toNat])
    case lim =>
      intro n lo hi d1 d2 y ch h hlo hhi hlim
      exact State.run_coopDo up h (Dev.coLim_read hlo hhi hlim)
    case rnd =>
      intro x m e sat h hr
      exact State.run_coopDo up h (by rw [Dev.coRnd, hr])
    case sta =>
      intro k n w sat d1 h hw hst
      exact State.run_coopDo up h (by rw [Dev.coSta, sval_toNat, hw, hst])
    case nrm =>
      intro k n l sat d1 h hl hst
      exact State.run_coopDo up h (by rw [Dev.coNrm, sval_toNat, hl, hst])

/-- Settles O8: each instruction's turn has come, its reads and stores succeed, and the words have moved. -/
theorem cooperMoves : Obligations.CooperMoves := by
  intro s sl x up d
  refine ⟨?ldx, ?ldxc, ?stx, ?movx, ?dly2, ?dly, ?minx, ?maxx, ?lds, ?chk⟩
  case ldx => exact fun n w d1 h hw => State.run_coopDo up h (by rw [hw, Dev.coLd_read])
  case ldxc => exact fun n w d1 h hw => State.run_coopDo up h (by rw [hw, Dev.coLd_read])
  case stx => exact fun n d1 h hst => State.run_coopDo up h (Dev.coStx_stored hst)
  case movx => exact fun y h => State.run_coopDo up h rfl
  case dly2 => exact fun n w d1 d2 h hw hst => State.run_coopDo up h (Dev.coDly_moved (Dev.dlyMoves_one hw hst))
  case dly => exact fun k n d1 h hm => State.run_coopDo up h (Dev.coDly_moved hm)
  case minx => exact fun y h => State.run_coopDo up h (Dev.coPick_lower x y)
  case maxx => exact fun y h => State.run_coopDo up h (Dev.coPick_higher x y)
  case lds => exact fun kind i w bad h hs => State.run_coopDo up h (Dev.coLds_sample hs x)
  case chk => exact fun y n w d1 h hw => State.run_coopDo up h (Dev.coChk_read hw x y)

end Sys2Proof.Machine
end

section
/-! SUPPORT. The statement about rounding to a data word (07): magnitudes as rational numbers, rounded quotients as floors. -/
set_option Elab.async false

namespace Sys2Proof.Machine

/-! ### Rounded quotients (R143) -/

/-- The magnitude of a fraction. -/
def Q.mag (v : Q) : ℚ := v.n.natAbs / v.d

/-- The magnitude of a rounded quotient: the quotient's magnitude and a half, rounded down. -/
theorem natAbs_roundDiv (n : Int) {d : Nat} (hd : 0 < d) : (roundDiv n d).natAbs = ⌊(n.natAbs : ℚ) / d + 1 / 2⌋₊ := by
  have hsum : (n.natAbs : ℚ) / d + 1 / 2 = ((2 * n.natAbs + d : Nat) : ℚ) / (2 * d : Nat) := by
    push_cast
    field_simp
  rw [hsum, Nat.floor_div_eq_div, roundDiv]
  split
  · exact (Int.natAbs_neg _).trans (Int.natAbs_natCast _)
  · exact Int.natAbs_natCast _

theorem two_zpow_of_nonneg {k : Int} (hk : 0 ≤ k) : (2 : ℚ) ^ k = 2 ^ k.toNat := by
  rw [← zpow_natCast, Int.toNat_of_nonneg hk]

theorem two_zpow_of_neg {k : Int} (hk : k < 0) : (2 : ℚ) ^ k = (2 ^ (-k).toNat)⁻¹ := by
  rw [← two_zpow_of_nonneg (by omega), zpow_neg, inv_inv]

theorem natAbs_roundSh (n : Int) {d : Nat} (hd : 0 < d) (k : Int) : (roundSh n d k).natAbs = ⌊(n.natAbs : ℚ) / d * 2 ^ k + 1 / 2⌋₊ := by
  rw [roundSh]
  split
  · next hk =>
    rw [natAbs_roundDiv _ hd, two_zpow_of_nonneg hk, Int.natAbs_mul, Int.natAbs_pow]
    push_cast
    rw [mul_div_right_comm]
  · next hk =>
    rw [natAbs_roundDiv _ (by positivity), two_zpow_of_neg (by omega)]
    push_cast
    rw [div_mul_eq_div_mul_one_div, one_div]

namespace Q

/-! ### The exponent of a value and its mantissa there (R143) -/

/-- The exponents are tried from -32 on. -/
theorem expo_eq (v : Q) : v.expo = ((List.range 64).find? fun i : Nat => v.below ((i : Int) - 32)).map fun i : Nat => (i : Int) - 32 := by
  have hlist : (List.range 64 >>= fun i => pure (i : Int)) = (List.range 64).map Nat.cast := List.map_eq_flatMap.symm
  rw [expo, hlist, List.map_map, List.find?_map]
  rfl

section
variable {v : Q} (hd : 0 < v.d)
include hd

theorem natAbs_mant (e : Int) : (v.mant e).natAbs = ⌊v.mag * 2 ^ (23 - e) + 1 / 2⌋₊ := natAbs_roundSh v.n hd _

theorem below_iff (e : Int) : v.below e = true ↔ v.mag < 2 ^ e := by
  have hpos : (0 : ℚ) < v.d := Nat.cast_pos.2 hd
  rw [below, mag, div_lt_iff₀ hpos]
  split
  · next he =>
    rw [two_zpow_of_nonneg he, decide_eq_true_eq, mul_comm]
    exact_mod_cast Iff.rfl
  · next he =>
    rw [two_zpow_of_neg (by omega), decide_eq_true_eq, inv_mul_eq_div, lt_div_iff₀ (by positivity)]
    exact_mod_cast Iff.rfl

/-- The exponent is the smallest that holds the value. -/
theorem expo_spec {e : Int} (h : v.expo = some e) : v.mag < 2 ^ e ∧ (e = -32 ∨ 2 ^ (e - 1) ≤ v.mag) := by
  rw [expo_eq, Option.map_eq_some_iff] at h
  obtain ⟨i, hi, rfl⟩ := h
  obtain ⟨hbelow, -, hleast⟩ := List.find?_range_eq_some.1 hi
  refine ⟨(below_iff hd _).1 hbelow, ?_⟩
  rcases Nat.eq_zero_or_pos i with rfl | hpos
  · exact .inl rfl
  · have hnot := hleast (i - 1) (by omega)
    rw [show ((i - 1 : Nat) : Int) - 32 = i - 32 - 1 by omega, Bool.not_eq_true', Bool.eq_false_iff, ne_eq, below_iff hd, not_lt] at hnot
    exact .inr hnot

/-- At its exponent the value's magnitude in units of the mantissa is below 2^23, and fills its bits unless the exponent is the smallest. -/
theorem expo_scaled {e : Int} (h : v.expo = some e) : v.mag * 2 ^ (23 - e) < 2 ^ 23 ∧ (e = -32 ∨ 2 ^ 22 ≤ v.mag * 2 ^ (23 - e)) := by
  obtain ⟨hlt, hleast⟩ := expo_spec hd h
  have hpos : (0 : ℚ) < 2 ^ (23 - e) := by positivity
  have hscale (k : Int) : (2 : ℚ) ^ k * 2 ^ (23 - e) = 2 ^ (k + 23 - e) := by rw [← zpow_add₀ (by norm_num), add_sub_assoc]
  constructor
  · calc v.mag * 2 ^ (23 - e) < 2 ^ e * 2 ^ (23 - e) := mul_lt_mul_of_pos_right hlt hpos
      _ = 2 ^ 23 := by rw [hscale, add_sub_cancel_left]; rfl
  · refine hleast.imp_right fun hge => ?_
    calc (2 : ℚ) ^ 22 = 2 ^ (e - 1) * 2 ^ (23 - e) := by rw [hscale, show e - 1 + 23 - e = 22 by ring]; rfl
      _ ≤ v.mag * 2 ^ (23 - e) := mul_le_mul_of_nonneg_right hge hpos.le

/-- One exponent up the magnitude in units of the mantissa is half as large. -/
theorem natAbs_mant_succ (e : Int) : (v.mant (e + 1)).natAbs = ⌊v.mag * 2 ^ (23 - e) / 2 + 1 / 2⌋₊ := by
  rw [natAbs_mant hd, show 23 - e = 23 - (e + 1) + 1 by ring, zpow_add_one₀ two_ne_zero, ← mul_assoc, mul_div_cancel_right₀ _ two_ne_zero]

end

end Q

/-! ### Rounding halves up, between powers of two -/

theorem floor_half_le {y : ℚ} {m : Nat} (h : y < m) : ⌊y + 1 / 2⌋₊ ≤ m :=
  Nat.lt_succ_iff.1 ((Nat.floor_lt' (by omega)).2 (by push_cast; linarith))

theorem le_floor_half {y : ℚ} {m : Nat} (h : m ≤ y) : m ≤ ⌊y + 1 / 2⌋₊ := Nat.le_floor (by linarith)

theorem sub_half_le_of_floor_half {y : ℚ} {m : Nat} (hm : m ≠ 0) (h : ⌊y + 1 / 2⌋₊ = m) : m - 1 / 2 ≤ y := by
  have := (Nat.le_floor_iff' hm).1 h.ge
  linarith

/-- Settles O7: in units of the mantissa the value lies below 2^23 and, unless its exponent is the smallest, not below 2^22. Rounding keeps it
there, or takes it to 2^23; then the value is nearer than a half to 2^23, and at the next exponent it rounds to 2^22. -/
theorem rndNormalises : Obligations.RndNormalises := by
  intro v e hd hn he hmax
  obtain ⟨hlt, hge⟩ := Q.expo_scaled hd he
  have hm := Q.natAbs_mant hd e
  have hm' := Q.natAbs_mant_succ hd e
  generalize v.mag * 2 ^ (23 - e) = y at hlt hge hm hm'
  have hle : ⌊y + 1 / 2⌋₊ ≤ 2 ^ 23 := floor_half_le (by exact_mod_cast hlt)
  rw [Q.rnd, if_neg hn, he]
  dsimp only
  split
  · next hfull =>
    have hnear := sub_half_le_of_floor_half (by decide) (hm.symm.trans hfull)
    push_cast at hnear
    have hhalf : ⌊y / 2 + 1 / 2⌋₊ = 2 ^ 22 := (Nat.floor_eq_iff (by linarith)).2 ⟨by push_cast; linarith, by push_cast; linarith⟩
    rw [hhalf] at hm'
    rw [if_neg (by omega)]
    exact ⟨rfl, by omega, .inr hm'.ge, .inr rfl⟩
  · next hfull =>
    exact ⟨rfl, by omega, hge.imp_right fun h => hm ▸ le_floor_half (by exact_mod_cast h), .inl rfl⟩

end Sys2Proof.Machine
end

section
/-! SUPPORT. The statements about Cooper's control flow, dispatch and faults, about the instructions that act outside their slot, and about
those that a speculative window refuses (07). -/
set_option Elab.async false

namespace Sys2Proof.Machine
namespace Dev

variable {d : Dev} {sl : Nat}

/-! ### Accesses that fault (R140, R150) -/

theorem rdS_beyond {off : Nat} (h : 32768 ≤ (d.slot sl).sb + off) : d.rdS sl off = (4, 0, d) := if_pos h

theorem rdC_beyond {off : Nat} (h : 8192 ≤ (d.slot sl).cb + off) : d.rdC sl off = (4, 0, d) := if_pos h

theorem stS_full {off : Nat} (ha : (d.slot sl).sb + off < 32768) (hb : inBuf ((d.slot sl).sb + off) (d.slot sl).buf = none)
    (hfull : 64 ≤ (d.slot sl).buf.length) (w : BitVec 32) : d.stS sl off w = (3, d) :=
  (if_neg (by omega)).trans ((if_neg (by simp [hb])).trans (if_pos hfull))

theorem coLd_fault {c : Nat} (hc : c ≠ 0) (x : Nat) (w : BitVec 32) : coLd sl x (c, w, d) = { dev := d, cause := c } := if_pos hc

theorem coTent_foreign {leg : Nat} (h : d.fbit CEN_SLOT_s_LEGS_LEGS leg sl = false) (x y : Nat) :
    coTent sl x y leg d = { dev := d, steps := 2, cause := 7 } := if_pos (by rw [h]; rfl)

/-! ### Control flow (R145, R147, R149, R152) -/

theorem coBr_taken {c : Nat} (h : coopCond (d.slot sl) c = true) (t : Nat) :
    coBr sl c t d = { dev := d.updSlot sl (fun x => { x with pc := t }), steps := 2 } := if_pos h

theorem coBr_passed {c : Nat} (h : ¬ coopCond (d.slot sl) c = true) (t : Nat) :
    coBr sl c t d = { dev := d.updSlot sl fun x => { x with pc := x.pc + 1 } } := if_neg h

theorem coRpt_repeats {i : Ins} (hpc : (d.slot sl).pc + 1 < 16384) (hbad : d.coopBad 0 ((d.slot sl).pc + 1) = false)
    (hdec : decodeCoop (d.coopRaw 0 ((d.slot sl).pc + 1)).toNat = some i) (hi : i.repeatable = true) (n ci si : Nat) :
    coRpt sl n ci si d = { dev := d.updSlot sl fun x =>
      { x with pc := (d.slot sl).pc + 1, repLeft := some (n + 1), repCI := ci, repSI := si, repI := 0 } } :=
  (if_neg (by omega)).trans ((if_neg (by simp [hbad])).trans (if_pos (by simpa [hdec] using hi)))

theorem coWsmp_come {k kind i : Nat} (h : k ≤ d.mbSince sl kind i) : coWsmp sl k kind i d = { dev := d } := if_pos h

theorem coWsmp_waits {k kind i : Nat} (h : d.mbSince sl kind i < k) : coWsmp sl k kind i d =
    { dev := (((d.updSlot sl fun x => { x with wait := some { kind := kind, idx := i, count := k } }).fs CEN_SLOT_s_STAT_STATE 3 sl).offLane
        sl).dropSlot sl } := if_neg (by omega)

theorem coSpec_opens (h : d.inWindow sl = false) : coSpec sl d = { dev := d.updSlot sl fun x => { x with spec := some x.buf } } :=
  if_neg (by simp [h])

/-- A word in instruction memory that can be read and spells no instruction is illegal (R156). -/
theorem coIllegal_undecodable (ht : d.coopTurn sl = true) (hpc : (d.slot sl).pc < 16384) (hbad : d.coopBad 0 (d.slot sl).pc = false)
    (hdec : decodeCoop (d.coopRaw 0 (d.slot sl).pc).toNat = none) : coIllegal sl d = (d.fetched sl).slotFault sl 1 :=
  (if_neg (by simp [ht])).trans ((if_neg (by omega)).trans ((if_neg (by simp [hbad])).trans (if_pos (by simp [hdec]))))

theorem coDispatch_takes {l : Nat} (hp : d.pick l = some sl) (hc : (vget d.cen.lane l).cur ≠ some sl) :
    coDispatch l d = { d with cen := { d.cen with lane := vset d.cen.lane l { vget d.cen.lane l with cur := some sl } } } := by
  simp only [coDispatch, hp]
  exact if_pos (by simpa using hc)

theorem slotTimerDev_due (hen : d.fg CEN_SLOT_s_CFG_EN sl = 1) (htype : d.fg CEN_SLOT_s_CFG_TRG_TYPE sl = 2)
    (hdue : (d.slot sl).trgOrigin + d.fg CEN_SLOT_s_TRG_SRC sl * 80 ≤ d.clk.ticks) : slotTimerDev sl d =
      (d.updSlot sl fun x => { x with trgOrigin := (d.slot sl).trgOrigin + d.fg CEN_SLOT_s_TRG_SRC sl * 80 }).triggerAll [sl] :=
  if_pos (by simp [fb, hen, htype, hdue])

/-! ### Acts outside the slot (R145, R150, R152, R153) -/

@[simp] theorem fb_satIf (d : Dev) (sl : Nat) (b : Bool) (F : Fld) (n : Nat) : (d.satIf sl b).fb F n = d.fb F n := by
  cases b <;> rfl

/-- A leg of the slot that takes its compare values from Cooper takes the pair. -/
theorem coTent_takes {x y leg a b : Nat} {sa sb : Bool} (hleg : d.fbit CEN_SLOT_s_LEGS_LEGS leg sl = true)
    (hsrc : d.fb PWM_LEG_n_CTRL_SRC leg = true) (ha : tentCount (d.xr sl x) = (a, sa)) (hb : tentCount (d.xr sl y) = (b, sb)) :
    coTent sl x y leg d =
    { dev := ((d.satIf sl (sa || sb)).updLeg leg fun z =>
        { z with tent := some { a := a, b := b, seq := (d.satIf sl (sa || sb)).nextLp leg, slot := sl } }).trcSource 1 leg a 23 true
          (some sl) (some leg)
      steps := 2 } := by
  refine (if_neg (by simp [hleg])).trans ?_
  simp only [ha, hb]
  exact if_pos (by rw [fb_satIf, hsrc])

/-- A commit of legs of the slot: the outcome is recorded, the pairs leave their legs, the token sets out and the window closes. -/
theorem coCommit_legs {m : Nat} {l : List Nat} {e : Dev} (h : d.legsOk sl m = true) (hl : bitsOf 24 m = l)
    (he : (d.trcOutcome sl l 1 (d.outcomeLp l)).dropTents l (fun _ => true) = e) : coCommit sl m d =
    { dev := Dev.updSlot { e with cen := { e.cen with tokens := e.cen.tokens ++ [d.tokenOf sl l] } } sl fun x => { x with spec := none } } := by
  subst hl he
  exact if_neg (by simp [h])

theorem coCancel_legs {m : Nat} (h : d.legsOk sl m = true) : coCancel sl m d = { dev := d.coopCancel sl (bitsOf 24 m) } := if_neg (by simp [h])

/-- The end of an execution that has no window open. -/
theorem coEnd_closed (h : d.atIns sl .stop) (hw : (d.fetched sl).inWindow sl = false) : coEnd sl d =
    ((d.fetched sl).countSteps sl (1 + (((d.fetched sl).slot sl).buf.length + 3) / 4)).endExecution sl := by
  obtain ⟨hturn, hfetch⟩ := h
  refine (if_pos (by simp [hturn, hfetch])).trans ?_
  exact congrArg (fun e : Dev => (e.countSteps sl (1 + ((e.slot sl).buf.length + 3) / 4)).endExecution sl) (if_neg (Bool.eq_false_iff.1 hw))

theorem coTrc_program {c : Nat} (h : d.fg CEN_TRC_c_CFG_SRC c = 0) (x : Nat) : coTrc sl x c d =
    { dev := d.trcValue c (uval 24 (wm (d.xr sl x))) (uval 6 (we (d.xr sl x))) (d.inWindow sl) (some sl) none } := by
  rw [coTrc, if_pos h]

theorem outside_open (h : d.inWindow sl = true) (n : Nat) (f : Dev → Dev) : outside sl n f d = { dev := d, steps := n, cause := 2 } := if_pos h

theorem outside_closed (h : d.inWindow sl = false) (n : Nat) (f : Dev → Dev) : outside sl n f d = { dev := f d, steps := n } :=
  if_neg (by simp [h])

theorem progEvent_first (h : d.cen.evUnread = false) (code : Nat) : progEvent sl code d =
    { ((d.fs CEN_EVCODE_SLOT sl).fs CEN_EVCODE_CODE code).raise 44 sl with cen := { d.cen with evUnread := true } } := by
  simp only [progEvent, h]
  rfl

/-! ### The tag of a speculative record (R165) -/

/-- Bit 33 of a record says whether its value is speculative. -/
theorem trcRec_spec (d : Dev) (data exp : Nat) (spec : Bool) : (d.trcRec data exp spec 0).getLsbD 33 = spec := by
  have hts : d.trcTs < 2 ^ 30 := Nat.mod_lt _ (by decide)
  have hdeg : b2n d.deg ≤ 1 := by cases d.deg <;> decide
  have hword : data % 2 ^ 24 * 2 ^ 40 + exp % 64 * 2 ^ 34 + b2n spec * 2 ^ 33 + 0 * 2 ^ 31 + b2n d.deg * 2 ^ 30 + d.trcTs =
      (data % 2 ^ 24 * 2 ^ 7 + exp % 64 * 2 + b2n spec) * 2 ^ 33 + (b2n d.deg * 2 ^ 30 + d.trcTs) := by ring
  have hdiv : ((data % 2 ^ 24 * 2 ^ 7 + exp % 64 * 2 + b2n spec) * 2 ^ 33 + (b2n d.deg * 2 ^ 30 + d.trcTs)) / 2 ^ 33 % 2 = b2n spec := by
    have : b2n spec < 2 := by cases spec <;> decide
    omega
  rw [trcRec, hword, BitVec.getLsbD_ofNat, Nat.testBit_eq_decide_div_mod_eq, hdiv]
  cases spec <;> rfl

/-- A speculative value of a slot is recorded, and a channel that records notes the slot until the outcome. -/
theorem trcValue_spec {e : Dev} {c m x : Nat} (he : d.trcPush c (d.trcRec m x true 0) = e) : d.trcValue c m x true (some sl) none =
    if (vget e.cen.trc c).running then
      e.setTrc c { vget e.cen.trc c with specSlots := sl :: (vget e.cen.trc c).specSlots }
    else e := by
  simp only [trcValue, Bool.true_and, he]
  rfl

end Dev

/-- Settles O9: each instruction's turn has come and its condition is met; an access beyond a memory, a full store buffer or a foreign leg ends it
with the cause of R156. -/
theorem cooperFlow : Obligations.CooperFlow := by
  refine ⟨fun s sl up => ?flow, fun s sl up => ?faults⟩
  case flow =>
    intro d
    refine ⟨?br, ?rpt, ?nop, ?come, ?waits, ?spec, ?illegal, ?dispatch, ?timer⟩
    case br =>
      intro c t h
      split
      · next hc => exact State.run_coopJump up h (Dev.coBr_taken hc _)
      · next hc => exact State.run_coopJump up h (Dev.coBr_passed hc _)
    case rpt => exact fun n ci si i h hpc hbad hdec hi => State.run_coopJump up h (Dev.coRpt_repeats hpc hbad hdec hi _ _ _)
    case nop => exact fun h => State.run_coopDo up h rfl
    case come => exact fun k kind i h hk => State.run_coopDo up h (Dev.coWsmp_come hk)
    case waits => exact fun k kind i h hk => State.run_coopDo up h (Dev.coWsmp_waits hk)
    case spec => exact fun h hw => State.run_coopDo up h (Dev.coSpec_opens hw)
    case illegal => exact fun ht hpc hbad hdec => State.run_eq up (Dev.coIllegal_undecodable ht hpc hbad hdec)
    case dispatch => exact fun l hp hc => State.run_eq up (Dev.coDispatch_takes hp hc)
    case timer => exact fun hen htype hdue => State.run_eq up (Dev.slotTimerDev_due hen htype hdue)
  case faults =>
    intro d
    refine ⟨?ldx, ?ldxc, ?stx, ?tent⟩
    case ldx => exact fun x n h hb => State.run_coopDo_fault up h (by decide) (by rw [Dev.rdS_beyond hb, Dev.coLd_fault (by decide)])
    case ldxc => exact fun x n h hb => State.run_coopDo_fault up h (by decide) (by rw [Dev.rdC_beyond hb, Dev.coLd_fault (by decide)])
    case stx => exact fun x n h ha hb hfull => State.run_coopDo_fault up h (by decide) (by rw [Dev.coStx, Dev.stS_full ha hb hfull])
    case tent => exact fun x y leg h hleg => State.run_coopDo_fault up h (by decide) (Dev.coTent_foreign hleg x y)

/-- Settles O10: each instruction's turn has come and nothing refuses it; its effect is the operation that the rule names. -/
theorem cooperActs : Obligations.CooperActs := by
  intro s sl up d
  refine ⟨?tent, ?commit, ?cancel, ?endExec, ?trc, ?trig, ?evt, ?gpost, ?gsel, ?wreq⟩
  case tent => exact fun x y leg a b sa sb h hleg hsrc ha hb => State.run_coopDo up h (Dev.coTent_takes hleg hsrc ha hb)
  case commit => exact fun m l e h hlegs hl he => State.run_coopDo up h (Dev.coCommit_legs hlegs hl he)
  case cancel => exact fun m h hl => State.run_coopDo up h (Dev.coCancel_legs hl)
  case endExec => exact fun h hw => State.run_eq up (Dev.coEnd_closed h hw)
  case trc => exact fun x c h hc => State.run_coopDo up h (Dev.coTrc_program hc x)
  case trig => exact fun h => State.run_coopDo up h rfl
  case evt => exact fun c h hw hu => State.run_coopDo up h ((Dev.outside_closed hw _ _).trans (by rw [Dev.progEvent_first hu]))
  case gpost => exact fun x h hw => State.run_coopDo up h (Dev.outside_closed hw _ _)
  case gsel => exact fun x g w d1 h hw hg => State.run_coopDo up h ((Dev.outside_closed hw _ _).trans (by simp only [hg]))
  case wreq => exact fun x n h hw hen => State.run_coopDo up h ((Dev.outside_closed hw _ _).trans (by rw [Dev.wreq, if_pos hen]))

/-- Settles O11: inside a window the four instructions fault before they act, and the record that `TRC` makes there has its tag set. -/
theorem windowRule : Obligations.WindowRule := by
  intro s sl up d
  refine ⟨?evt, ?gpost, ?gsel, ?wreq, ?trc⟩
  case evt => exact fun c h hw => State.run_coopDo_fault up h (by decide) (Dev.outside_open hw _ _)
  case gpost => exact fun x h hw => State.run_coopDo_fault up h (by decide) (Dev.outside_open hw _ _)
  case gsel => exact fun x g h hw => State.run_coopDo_fault up h (by decide) (Dev.outside_open hw _ _)
  case wreq => exact fun x n h hw => State.run_coopDo_fault up h (by decide) (Dev.outside_open hw _ _)
  case trc =>
    intro x c h hc hw
    have heff := Dev.coTrc_program (sl := sl) hc x
    rw [hw, Dev.trcValue_spec rfl] at heff
    exact ⟨_, _, d.trcRec_spec _ _ true, rfl, State.run_coopDo up h heff⟩

end Sys2Proof.Machine
end

section
/-! SUPPORT. What Scrivener's records and the end of a slot's execution leave alone (07). -/
set_option Elab.async false

namespace Sys2Proof.Machine

theorem vget_vset {α : Type} [Inhabited α] {n : Nat} (v : Vector α n) (i j : Nat) (x : α) :
    vget (vset v i x) j = if i = j ∧ i < n then x else vget v j := by
  by_cases hij : i = j
  · subst hij
    by_cases hi : i < n
    · rw [if_pos ⟨rfl, hi⟩, vget_vset_same _ _ _ hi]
    · simp [vget, vset, hi]
  · rw [if_neg (fun h => hij h.1), vget_vset_ne _ _ hij]

theorem any_toList_eq_false {α : Type} [Inhabited α] {n : Nat} {v : Vector α n} {p : α → Bool} :
    v.toList.any p = false ↔ ∀ i : Fin n, p (vget v i) = false := by
  constructor
  · intro h i
    have hmem : vget v i ∈ v.toList := by simp [vget]
    simpa using List.any_eq_false.1 h _ hmem
  · refine fun h => List.any_eq_false.2 fun x hx => ?_
    obtain ⟨i, hi, rfl⟩ := Vector.mem_iff_getElem.1 (Vector.mem_toList_iff.1 hx)
    simpa [vget, hi] using h ⟨i, hi⟩

namespace Dev

/-! ### Records (R165 to R167) -/

/-- `e` is `d` but for what records leave: the channels' write offsets and overrun marks, which stand at bits 3 and 4 of their registers, what
the channels hold, memory and events. A channel records as it did, and counts no records after a trigger where it counted none. -/
def Records (d e : Dev) : Prop :=
  (∀ (F : Fld) (n : Nat), F.lo < 32 ∧ F.lo ≠ 3 ∧ F.lo ≠ 4 → e.fg F n = d.fg F n) ∧ e.cen.slot = d.cen.slot ∧
  (∀ c, (vget e.cen.trc c).running = (vget d.cen.trc c).running) ∧
  ∀ c, (vget d.cen.trc c).postLeft = none → (vget e.cen.trc c).postLeft = none

namespace Records

variable {d e : Dev}

theorem refl : Records d d := ⟨fun _ _ _ => rfl, rfl, fun _ => rfl, fun _ h => h⟩

theorem fg_eq {F : Fld} (h : Records d e) (n : Nat) (hF : F.lo < 32 ∧ F.lo ≠ 3 ∧ F.lo ≠ 4 := by decide) : e.fg F n = d.fg F n := h.1 F n hF

theorem running_eq (h : Records d e) (c : Nat) : (vget e.cen.trc c).running = (vget d.cen.trc c).running := h.2.2.1 c

theorem postLeft_none (h : Records d e) (c : Nat) : (vget d.cen.trc c).postLeft = none → (vget e.cen.trc c).postLeft = none := h.2.2.2 c

theorem slot_eq (h : Records d e) (s : Nat) : e.slot s = d.slot s := congrArg (vget · s) h.2.1

theorem ite {c : Prop} [Decidable c] {a b : Dev} (ha : Records d a) (hb : Records d b) : Records d (if c then a else b) := by
  split
  · exact ha
  · exact hb

theorem foldl {α : Type} {f : Dev → α → Dev} {l : List α} (h : Records d e) (hf : ∀ e x, Records d e → Records d (f e x)) :
    Records d (l.foldl f e) := by
  induction l generalizing e with
  | nil => exact h
  | cons x t ih => exact ih (hf e x h)

theorem fs {F : Fld} {v n : Nat} (h : Records d e) (hF : F.lo = 3 ∨ F.lo = 4 := by decide) : Records d (e.fs F v n) := by
  obtain ⟨hfld, hrest⟩ := h
  refine ⟨fun G m hG => (fg_fs_ne _ _ _ _ _ _ ?_).trans (hfld G m hG), hrest⟩
  simp only [Fld.key]
  omega

theorem fsBit {F : Fld} {i n : Nat} {b : Bool} (h : Records d e) (hF : F.lo = 3 ∨ F.lo = 4 := by decide) : Records d (e.fsBit F i b n) := h.fs hF

theorem raise {ev x : Nat} (h : Records d e) : Records d (e.raise ev x) := h

theorem wr8 {a : Nat} {v : Byte} (h : Records d e) : Records d (e.wr8 a v) := .ite h h

theorem wrRaw {a : Nat} {l : List Byte} (h : Records d e) : Records d (e.wrRaw a l) := by
  induction l generalizing a e with
  | nil => exact h
  | cons b t ih => exact ih h.wr8

theorem wrN {a : Nat} {l : List Byte} (h : Records d e) : Records d (e.wrN a l) := .ite h.wrRaw h.wrRaw

/-- A channel takes new contents. -/
theorem setTrc {c : Nat} {t : TrcCh} (h : Records d e) (hrun : t.running = (vget d.cen.trc c).running)
    (hpost : (vget d.cen.trc c).postLeft = none → t.postLeft = none) : Records d (e.setTrc c t) := by
  obtain ⟨hfld, hslot, hr, hp⟩ := h
  refine ⟨hfld, hslot, fun k => ?_, fun k hk => ?_⟩ <;> simp only [Dev.setTrc, vget_vset] <;> split
  case refine_1.isTrue hck => rw [hrun, hck.1]
  case refine_1.isFalse => exact hr k
  case refine_2.isTrue hck => exact hpost (by rw [hck.1, hk])
  case refine_2.isFalse => exact hp k hk

theorem trcStore {c : Nat} {r : BitVec 64} (h : Records d e) : Records d (e.trcStore c r) := .fs h.wrN

theorem trcDrain {c n : Nat} (h : Records d e) : Records d (e.trcDrain c n) := by
  induction n generalizing e with
  | zero => exact h
  | succ n ih =>
    unfold Dev.trcDrain
    refine .ite h ?_
    dsimp only
    split
    · exact h
    · exact .ite (ih (h.trcStore.setTrc (h.running_eq c) (h.postLeft_none c))) (ih (h.trcStore.setTrc (h.running_eq c) (h.postLeft_none c)))

theorem trcPush {c : Nat} {r : BitVec 64} (h : Records d e) : Records d (e.trcPush c r) := by
  have hrun := h.running_eq c
  have hpost := h.postLeft_none c
  unfold Dev.trcPush
  refine .ite h (.ite (.ite h.trcStore (.ite (.trcDrain (h.setTrc hrun hpost)) (.fsBit (.setTrc (.ite h.raise h) hrun hpost)))) (.fs (h.setTrc hrun ?_)))
  exact fun hn => congrArg (Option.map (· - 1)) (hpost hn)

theorem trcOutcome {s code target : Nat} {legs : List Nat} (h : Records d e) : Records d (e.trcOutcome s legs code target) :=
  .foldl h fun _ c h => .ite (.trcPush (h.setTrc (h.running_eq c) (h.postLeft_none c))) h

end Records

/-! ### The end of a slot's execution (R151) -/

@[simp] theorem slot_updSlot (d : Dev) (s : Fin 64) (f : Slot → Slot) : (d.updSlot s f).slot s = f (d.slot s) := vget_vset_same _ _ _ s.isLt

@[simp] theorem fg_updSlot (d : Dev) (s : Nat) (f : Slot → Slot) (F : Fld) (n : Nat) : (d.updSlot s f).fg F n = d.fg F n := rfl

/-- `e` shows every slot in the state it has in `d`, and executing or not as there. -/
def KeepsState (d e : Dev) : Prop :=
  ∀ n, e.fg CEN_SLOT_s_STAT_STATE n = d.fg CEN_SLOT_s_STAT_STATE n ∧ (e.slot n).active = (d.slot n).active

namespace KeepsState

variable {d e : Dev}

theorem refl : KeepsState d d := fun _ => ⟨rfl, rfl⟩

theorem ite {c : Prop} [Decidable c] {a b : Dev} (ha : KeepsState d a) (hb : KeepsState d b) : KeepsState d (if c then a else b) := by
  split
  · exact ha
  · exact hb

theorem foldl {α : Type} {f : Dev → α → Dev} {l : List α} (h : KeepsState d e) (hf : ∀ e x, KeepsState d e → KeepsState d (f e x)) :
    KeepsState d (l.foldl f e) := by
  induction l generalizing e with
  | nil => exact h
  | cons x t ih => exact ih (hf e x h)

theorem records (h : Records d e) : KeepsState d e := fun n => ⟨h.fg_eq n, congrArg Slot.active (h.slot_eq n)⟩

theorem updLeg {n : Nat} {f : Leg → Leg} (h : KeepsState d e) : KeepsState d (e.updLeg n f) := h

theorem offLane {s : Nat} (h : KeepsState d e) : KeepsState d (e.offLane s) := h

theorem dropTents {l : List Nat} {f : CmpPair → Bool} (h : KeepsState d e) : KeepsState d (e.dropTents l f) := .foldl h fun _ _ => .updLeg

theorem withdraw {s : Nat} (h : KeepsState d e) : KeepsState d (e.withdraw s) := .foldl h fun _ _ => .updLeg

theorem updSlot {s : Nat} {f : Slot → Slot} (h : KeepsState d e) (hf : ∀ x, (f x).active = x.active := by exact fun _ => rfl) :
    KeepsState d (e.updSlot s f) := by
  refine fun n => ⟨(h n).1, Eq.trans ?_ (h n).2⟩
  simp only [Dev.updSlot, Dev.setSlot, Dev.slot, vget_vset]
  split
  · next hsn => rw [hf, hsn.1]
  · rfl

/-- A group's fields stand in registers other than the slots' states. -/
theorem setCand {g k : Nat} {c : Option (BitVec 32)} (h : KeepsState d e) : KeepsState d (e.setCand g k c) := by
  refine fun n => ⟨(fg_fs_ne _ _ _ _ _ _ ?_).trans (h n).1, (h n).2⟩
  simp only [Fld.key, CEN_SLOT_s_STAT_STATE, CEN_GRP_g_STAT_ACTIVE]
  omega

theorem dropSlot {s : Nat} (h : KeepsState d e) : KeepsState d (e.dropSlot s) :=
  .foldl h fun _ _ h => .foldl h fun _ _ h => .updSlot h.setCand

end KeepsState

/-- An execution that is abandoned has its outcome recorded, and its pairs and its lane are gone. -/
def released (d : Dev) (s : Nat) : Dev :=
  ((d.trcOutcome s (bitsOf 24 (d.fg CEN_SLOT_s_LEGS_LEGS s)) 3 (d.outcomeLp (bitsOf 24 (d.fg CEN_SLOT_s_LEGS_LEGS s)))).dropTents
    (List.range 24) (·.slot == s)).offLane s

theorem released_keepsState (d : Dev) (s : Nat) : KeepsState d (d.released s) := .offLane (.dropTents (.records (.trcOutcome .refl)))

theorem abandon_active {d : Dev} {s : Nat} (h : (d.slot s).active = true) : d.abandon s =
    (d.released s).updSlot s fun x => { x with active := false, buf := [], spec := none, wait := none, repLeft := none } := if_pos h

theorem abandon_spec (d : Dev) (s : Fin 64) : (d.abandon s).fg CEN_SLOT_s_STAT_STATE s = d.fg CEN_SLOT_s_STAT_STATE s ∧
    ((d.abandon s).slot s).active = false := by
  by_cases h : (d.slot s).active = true
  · rw [abandon_active h, slot_updSlot, fg_updSlot]
    exact ⟨(d.released_keepsState s s).1, rfl⟩
  · rw [abandon, if_neg h]
    exact ⟨rfl, Bool.eq_false_iff.2 h⟩

/-- A slot that has not faulted is disabled. -/
theorem slotDisable_spec {d : Dev} {s : Fin 64} (h : d.fg CEN_SLOT_s_STAT_STATE s ≠ 4) : (d.slotDisable s).fg CEN_SLOT_s_CFG_EN s = 0 ∧
    (d.slotDisable s).fg CEN_SLOT_s_STAT_STATE s = 0 ∧ ((d.slotDisable s).slot s).active = false := by
  obtain ⟨e, he⟩ : ∃ e, ((d.abandon s).withdraw s).dropSlot s = e := ⟨_, rfl⟩
  have hkeeps : KeepsState (d.abandon s) e := he ▸ .dropSlot (.withdraw .refl)
  obtain ⟨hstate, hactive⟩ := hkeeps s
  obtain ⟨hstate', hactive'⟩ := d.abandon_spec s
  have hoff : d.slotDisable s = (e.fs CEN_SLOT_s_CFG_EN 0 s).fs CEN_SLOT_s_STAT_STATE 0 s := by
    rw [slotDisable, he]
    exact if_neg (by rwa [fg_fs_stride, hstate, hstate'])
  rw [hoff]
  exact ⟨Eq.trans fg_fs_stride (fg_fs ..), fg_fs .., hactive.trans hactive'⟩

end Dev
end Sys2Proof.Machine
end

section
/-! SUPPORT. The statement about Cooper by register and by command (07). -/
set_option Elab.async false

namespace Sys2Proof.Machine
namespace Dev

/-! ### A command that has completed (R287, R288) -/

theorem findCmd_updCmd (d : Dev) (p : Path) (tag : Nat) {f : Cmd → Cmd} (hf : ∀ c, (f c).path = c.path ∧ (f c).tag = c.tag) :
    (d.updCmd p tag f).findCmd p tag = (d.findCmd p tag).map f := by
  have hkey : ((fun c : Cmd => c.path == p && c.tag == tag) ∘ fun c => if c.path == p && c.tag == tag then f c else c) =
      fun c => c.path == p && c.tag == tag := by
    funext c
    simp only [Function.comp_apply]
    split
    · rw [(hf c).1, (hf c).2]
    · rfl
  rw [findCmd, updCmd, List.find?_map, hkey, findCmd]
  refine Option.map_congr fun c hc => ?_
  exact if_pos (List.find?_some hc)

theorem findCmd_dropCmd (d : Dev) (p : Path) (tag : Nat) : (d.dropCmd p tag).findCmd p tag = none := by
  refine List.find?_eq_none.2 fun c hc => ?_
  obtain ⟨-, hkept⟩ := List.mem_filter.1 hc
  exact Bool.eq_false_iff.1 (by rwa [Bool.not_eq_true'] at hkept)

/-- A started command whose effect leaves the outstanding commands alone has completed once its status stands with it. -/
theorem complete_completed {d e : Dev} {p : Path} {tag : Byte} {op : Nat} {l : List Byte} (h : d.started p tag op l)
    (he : e.hst.outst = d.hst.outst) (st : St) (b : List Byte) : d.completed (e.complete p tag.toNat st b) p tag st b := by
  have hfind : e.findCmd p tag.toNat = d.findCmd p tag.toNat := by rw [findCmd, he, findCmd]
  have hno : e.noReply p tag.toNat = d.noReply p tag.toNat := by rw [noReply, hfind, noReply]
  rw [completed, complete, hno]
  split
  · exact findCmd_dropCmd ..
  · obtain ⟨c, hc, -⟩ := h
    rw [startedCmd] at hc
    split at hc
    · next x hx =>
      have hupd := e.findCmd_updCmd p tag.toNat (f := fun c => { c with ran := true, done := some (st, b) }) fun _ => ⟨rfl, rfl⟩
      rw [hupd, hfind, hx]
      rfl
    · cases hc

/-- Completing a command writes one field of HST. -/
theorem fg_complete (d : Dev) {p : Path} {tag : Nat} {st : St} {b : List Byte} {F : Fld} {n : Nat} (hF : F.key n ≠ HST_STAT_OUTST.key 0) :
    (d.complete p tag st b).fg F n = d.fg F n := by
  rw [complete]
  split
  · exact fg_fs_ne _ _ _ _ _ _ hF
  · rfl

/-! ### Self-tests of the lanes (R162) -/

/-- A lane whose pending self-test has no context borrows one. -/
def lent (d : Dev) (x : Lane) : Lane := if x.testPend && x.testSlot.isNone then { x with testSlot := d.idleSlot } else x

@[simp] theorem testStart_regs (d : Dev) : d.testStart.regs = d.regs := rfl

@[simp] theorem slot_testStart (d : Dev) (s : Nat) : d.testStart.slot s = d.slot s := rfl

theorem lane_testStart (d : Dev) (l : Fin 4) : vget d.testStart.cen.lane l = d.lent (vget d.cen.lane l) := vget_vmap _ _ l.isLt

theorem lent_testPend (d : Dev) (x : Lane) : (d.lent x).testPend = x.testPend := by
  unfold lent
  split <;> rfl

/-- Where some slot is idle, no lane that has asked for one goes without. -/
theorem lent_testSlot {d : Dev} (h : d.idleSlot ≠ none) (x : Lane) : ((d.lent x).testPend && (d.lent x).testSlot.isNone) = false := by
  unfold lent
  split
  · obtain ⟨s, hs⟩ := Option.ne_none_iff_exists'.1 h
    simp [hs]
  · next hx => exact Bool.eq_false_iff.2 hx

theorem testAsk_regs (d : Dev) : d.testAsk.regs = d.regs := rfl

/-- The lanes with a self-test asked of each. -/
def asked (d : Dev) : Dev := { d with cen := { d.cen with lane := vmap (fun l => { l with testPend := true }) d.cen.lane } }

theorem lane_testAsk (d : Dev) (l : Fin 4) : vget d.testAsk.cen.lane l = d.lent { vget d.cen.lane l with testPend := true } := by
  have hasked : vget d.asked.cen.lane l = { vget d.cen.lane l with testPend := true } := vget_vmap _ _ l.isLt
  exact (d.asked.lane_testStart l).trans (congrArg d.lent hasked)

theorem testAsk_pends (d : Dev) (l : Fin 4) : (vget d.testAsk.cen.lane l).testPend = true := by
  rw [lane_testAsk, lent_testPend]

/-- `CEN_TEST` in the register map. -/
def cenTestReg : Reg := ⟨0x20050020, 0x0, 0, 1, [⟨CEN_TEST_ST_SEQ, .RO, .any⟩, ⟨CEN_TEST_LATCH, .W1C, .any⟩, ⟨CEN_TEST_FAIL, .RO, .any⟩,
  ⟨CEN_TEST_REQ, .W1S, .any⟩]⟩

theorem findReg_cenTest : findReg (CEN_TEST_REQ.at 0) = some (cenTestReg, 0) := rfl

/-- A write that nothing refuses is accepted. -/
theorem writeReg_accepted {d : Dev} {r : Reg} {n word w : Nat} (hw : reached r word = w) (hauth : d.authReg r.base n w = false)
    (henc : (badEncoding r w || d.rangeReg r.base n w) = false) (hstate : (d.stateReg r.base n w || (d.lockedReg r.base n && d.rwChanges r n w)) = false)
    (hheld : (r.flds.any (d.w1cHeld r.base n w)) = false) : (d.writeReg r n word).1 = .ok := by
  subst hw
  simp only [writeReg, hauth, henc, hstate, hheld, Bool.false_eq_true, if_false]

/-- A request alone is never refused. -/
theorem accepts_cenTest (d : Dev) (a : Acc) : d.accepts a (CEN_TEST_REQ.at 0) (2 ^ CEN_TEST_REQ.lo) := by
  have hstate : d.stateReg cenTestReg.base 0 1 = false := Bool.and_false _
  rw [accepts, regWrite_reg findReg_cenTest rfl rfl (.inl (by decide)) rfl rfl]
  exact writeReg_accepted (w := 1) rfl rfl rfl (by rw [hstate]; rfl) rfl

theorem regWrite_cenTest (d : Dev) (a : Acc) : (d.regWrite a (CEN_TEST_REQ.at 0) (2 ^ CEN_TEST_REQ.lo)).2 =
    (d.fs CEN_TEST_REQ (Nat.lor (d.fg CEN_TEST_REQ) 1)).testAsk := by
  have hlatch : d.storeFld cenTestReg.base 0 1 d ⟨CEN_TEST_LATCH, .W1C, .any⟩ = d := if_pos rfl
  have hstore : d.storeWord cenTestReg 0 (2 ^ CEN_TEST_REQ.lo) = d.fs CEN_TEST_REQ (Nat.lor (d.fg CEN_TEST_REQ) 1) :=
    congrArg (fun e : Dev => e.fs CEN_TEST_REQ (Nat.lor (e.fg CEN_TEST_REQ) 1)) hlatch
  rw [regWrite_accepted findReg_cenTest rfl (by decide) (by decide) rfl rfl (d.accepts_cenTest a), hstore]
  rfl

/-- A self-test of a lane that has passed: the lane is free of it, and the result is shown and raised. -/
def testPassed (d : Dev) (l : Nat) : Dev :=
  (((d.testStart.updLane l fun x => { x with testPend := false, testSlot := none, passedSince := x.passedSince || true }).finc
    CEN_TEST_ST_SEQ).fsBit CEN_TEST_FAIL l false).raise 39 l

theorem coopTestDoneDev_pass {d : Dev} {l : Fin 4} {n : Nat} (hpend : (vget d.cen.lane l).testPend = true)
    (hslot : (vget d.cen.lane l).testSlot = some n) : coopTestDoneDev l true d =
      if (d.testPassed l).cen.lane.toList.any (·.testPend) then d.testPassed l else (d.testPassed l).fs CEN_TEST_REQ 0 := by
  have hlent : vget d.testStart.cen.lane l = vget d.cen.lane l := by
    rw [lane_testStart, lent, hslot]
    simp
  exact (if_neg (by simp [hlent, hpend, hslot])).trans (if_pos rfl)

/-- Counting a passed test and raising its event. -/
theorem testPassed_counts (e : Dev) (l : Nat) :
    (((e.finc CEN_TEST_ST_SEQ).fsBit CEN_TEST_FAIL l false).raise 39 l).fg CEN_TEST_ST_SEQ =
      (e.fg CEN_TEST_ST_SEQ + 1) % 2 ^ CEN_TEST_ST_SEQ.len ∧
    (((e.finc CEN_TEST_ST_SEQ).fsBit CEN_TEST_FAIL l false).raise 39 l).evt = (e.raise 39 l).evt := by
  obtain ⟨f, hf⟩ : ∃ f, e.finc CEN_TEST_ST_SEQ = f := ⟨_, rfl⟩
  have hcount : f.fg CEN_TEST_ST_SEQ = (e.fg CEN_TEST_ST_SEQ + 1) % 2 ^ CEN_TEST_ST_SEQ.len := hf ▸ fg_fs ..
  have hevt : (f.raise 39 l).evt = (e.raise 39 l).evt := hf ▸ raise_fs_evt e 39 l
  rw [hf]
  exact ⟨Eq.trans (fg_fs_ne _ _ _ _ _ _ (by decide)) hcount, (raise_fs_evt f 39 l).trans hevt⟩

theorem testPassed_spec (d : Dev) (l : Fin 4) : (vget (d.testPassed l).cen.lane l).testPend = false ∧
    (vget (d.testPassed l).cen.lane l).testSlot = none ∧ (vget (d.testPassed l).cen.lane l).passedSince = true ∧
    (d.testPassed l).fg CEN_TEST_ST_SEQ = (d.fg CEN_TEST_ST_SEQ + 1) % 2 ^ CEN_TEST_ST_SEQ.len ∧ (d.raise 39 l).evt = (d.testPassed l).evt := by
  have hlane : vget (d.testPassed l).cen.lane l = { vget d.testStart.cen.lane l with
      testPend := false, testSlot := none, passedSince := (vget d.testStart.cen.lane l).passedSince || true } := vget_vset_same _ _ _ l.isLt
  obtain ⟨hcount, hevt⟩ := testPassed_counts
    (d.testStart.updLane l fun x => { x with testPend := false, testSlot := none, passedSince := x.passedSince || true }) l
  refine ⟨by rw [hlane], by rw [hlane], by rw [hlane, Bool.or_true], ?_⟩
  rw [testPassed, hevt]
  exact ⟨hcount, rfl⟩

/-! ### Enabling and disabling a slot (R151, R171) -/

/-- `CEN_SLOT_s_CFG` in the register map. -/
def slotCfgReg : Reg := ⟨0x20050100, 0x20, 0, 64, [⟨CEN_SLOT_s_CFG_EN, .RW, .any⟩, ⟨CEN_SLOT_s_CFG_LEGCOMMIT, .RW, .any⟩,
  ⟨CEN_SLOT_s_CFG_LANE, .RW, .any⟩, ⟨CEN_SLOT_s_CFG_PRIO, .RW, .any⟩, ⟨CEN_SLOT_s_CFG_TRG_TYPE, .RW, (.rng 0 4)⟩]⟩

theorem findReg_slotCfg (s : Fin 64) : findReg (CEN_SLOT_s_CFG_EN.at s) = some (slotCfgReg, s.val) := by
  fin_cases s <;> rfl

theorem slotCfgReg_rw : ∀ s ∈ slotCfgReg.flds, s.acc = .RW := by decide

theorem storeWord_slotCfg_en (d : Dev) (s : Fin 64) (w : Nat) : (d.storeWord slotCfgReg s w).fg CEN_SLOT_s_CFG_EN s = CEN_SLOT_s_CFG_EN.of w :=
  storeWord_of slotCfgReg_rw (findReg_slotCfg s) (by decide) (.head _) d w

theorem storeWord_slotCfg_state (d : Dev) (s : Fin 64) (w : Nat) :
    (d.storeWord slotCfgReg s w).fg CEN_SLOT_s_STAT_STATE s = d.fg CEN_SLOT_s_STAT_STATE s := by
  have hplace : ∀ f ∈ slotCfgReg.flds, CEN_SLOT_s_STAT_STATE.stride = f.fld.stride ∧ CEN_SLOT_s_STAT_STATE.key 0 ≠ f.fld.key 0 := by decide
  exact storeWord_fg_ne slotCfgReg_rw (fun f hf => Fld.key_ne_of_stride (hplace f hf).1 (hplace f hf).2) _ _

/-- An accepted write of a slot's setup enables the slot, or disables it, or only stores it. -/
theorem regWrite_slotCfg {d e : Dev} {a : Acc} {s : Fin 64} {w : Nat} (hok : d.accepts a (CEN_SLOT_s_CFG_EN.at s) w)
    (he : d.storeWord slotCfgReg s w = e) : (d.regWrite a (CEN_SLOT_s_CFG_EN.at s) w).2 =
      if e.fb CEN_SLOT_s_CFG_EN s && !d.fb CEN_SLOT_s_CFG_EN s then e.slotEnable s
      else if !e.fb CEN_SLOT_s_CFG_EN s && d.fb CEN_SLOT_s_CFG_EN s then (e.slotDisable s).testStart
      else e := by
  have hat : CEN_SLOT_s_CFG_EN.at s = 0x20050100 + 0x20 * s.val := rfl
  rw [regWrite_accepted (findReg_slotCfg s) (by omega) (by omega) (by omega) rfl rfl hok, he]
  rfl

theorem slotEnable_spec (d : Dev) (s : Fin 64) : (d.slotEnable s).fg CEN_SLOT_s_CFG_EN s = 1 ∧ (d.slotEnable s).fg CEN_SLOT_s_STAT_STATE s = 1 ∧
    (d.slotEnable s).slot s = { trgOrigin := d.clk.ticks, occ := (d.slot s).occ, exec := (d.slot s).exec,
                                missed := (d.slot s).missed, missedOld := (d.slot s).missedOld } := by
  have hregs : (d.slotEnable s).regs = ((d.fs CEN_SLOT_s_CFG_EN 1 s).fs CEN_SLOT_s_STAT_STATE 1 s).regs := rfl
  refine ⟨?_, ?_, vget_vset_same _ _ _ s.isLt⟩
  · rw [fg_of_regs hregs, fg_fs_stride, fg_fs]
    rfl
  · rw [fg_of_regs hregs, fg_fs]
    rfl

/-! ### Faults cleared (R168) -/

/-- The fault of a slot is cleared, and with it the state that shows it. -/
def faultCleared (d : Dev) (s : Nat) : Dev := (d.fs CEN_SLOT_s_STAT_FAULT 0 s).clearedCEN 0x20050118 s 13

theorem faultCleared_eq (d : Dev) (s : Nat) : d.faultCleared s = if d.fg CEN_SLOT_s_STAT_STATE s = 4
    then (d.fs CEN_SLOT_s_STAT_FAULT 0 s).fs CEN_SLOT_s_STAT_STATE 0 s else d.fs CEN_SLOT_s_STAT_FAULT 0 s := by
  rw [faultCleared, clearedCEN, if_neg (by decide), if_pos (by decide), fg_fs_stride]

/-- Slot `n` shows no fault. -/
def Sound (d : Dev) (n : Nat) : Prop := d.fg CEN_SLOT_s_STAT_FAULT n = 0 ∧ d.fg CEN_SLOT_s_STAT_STATE n ≠ 4

theorem faultCleared_sound (d : Dev) (s : Nat) : (d.faultCleared s).Sound s := by
  rw [faultCleared_eq]
  split
  · exact ⟨Eq.trans fg_fs_stride (fg_fs ..), by rw [fg_fs]; decide⟩
  · next h => exact ⟨fg_fs .., by rwa [fg_fs_stride]⟩

/-- The faults and states of two slots stand apart. -/
theorem slotStat_key_ne {F G : Fld} {n s : Nat} (h : n ≠ s) (hF : F = CEN_SLOT_s_STAT_FAULT ∨ F = CEN_SLOT_s_STAT_STATE)
    (hG : G = CEN_SLOT_s_STAT_FAULT ∨ G = CEN_SLOT_s_STAT_STATE) : F.key n ≠ G.key s := by
  rcases hF with rfl | rfl <;> rcases hG with rfl | rfl <;> simp [Fld.key, CEN_SLOT_s_STAT_FAULT, CEN_SLOT_s_STAT_STATE] <;> omega

theorem faultCleared_keeps {d : Dev} {n : Nat} (h : d.Sound n) (s : Nat) : (d.faultCleared s).Sound n := by
  by_cases hn : n = s
  · exact hn ▸ d.faultCleared_sound n
  · have hkept (e : Dev) {F G : Fld} {v : Nat} (hF : F = CEN_SLOT_s_STAT_FAULT ∨ F = CEN_SLOT_s_STAT_STATE)
        (hG : G = CEN_SLOT_s_STAT_FAULT ∨ G = CEN_SLOT_s_STAT_STATE) : (e.fs G v s).fg F n = e.fg F n := fg_fs_ne _ _ _ _ _ _ (slotStat_key_ne hn hF hG)
    rw [faultCleared_eq]
    split <;> simpa [Sound, hkept] using h

/-- Clearing the faults of the slots of a list leaves each of them sound. -/
theorem foldl_faultCleared {l : List Nat} {d : Dev} {n : Nat} (h : d.Sound n ∨ n ∈ l) : (l.foldl faultCleared d).Sound n := by
  induction l generalizing d with
  | nil => exact h.resolve_right nofun
  | cons s t ih =>
    refine ih ?_
    rcases h with h | h
    · exact .inl (faultCleared_keeps h s)
    · rcases List.mem_cons.1 h with rfl | ht
      · exact .inl (faultCleared_sound d n)
      · exact .inr ht

/-- Clearing faults writes registers alone. -/
theorem foldl_faultCleared_hst (l : List Nat) (d : Dev) : (l.foldl faultCleared d).hst = d.hst := by
  induction l generalizing d with
  | nil => rfl
  | cons s t ih =>
    rw [List.foldl_cons, ih, faultCleared_eq]
    split <;> rfl

end Dev
end Sys2Proof.Machine
end

section
/-! SUPPORT. Cooper by register and by command (07): the rows. -/
set_option Elab.async false

namespace Sys2Proof.Machine

/-! ### Cooper by register -/

/-- Enabling a slot: it waits, and of its past only the counts and the numbers of its executions stay. -/
theorem State.run_slotEnable {s : State} {a : Acc} {sl : Fin 64} {val : W32} (up : s.up) (hval : CEN_SLOT_s_CFG_EN.of val.toNat = 1)
    (hoff : s.dev.fb CEN_SLOT_s_CFG_EN sl = false) (hacc : s.dev.accepts a (CEN_SLOT_s_CFG_EN.at sl) val.toNat) :
    ∃ x, exec (.slotEnable a sl val) s = .next (s.to (Dev.slotEnable { s.dev with regs := x } sl)) := by
  obtain ⟨x, hx⟩ := s.dev.storeWord_regs Dev.slotCfgReg_rw sl val.toNat
  have hen : Dev.fb { s.dev with regs := x } CEN_SLOT_s_CFG_EN sl = true := by
    rw [← hx, Dev.fb, Dev.storeWord_slotCfg_en, hval]
    rfl
  refine ⟨x, State.run_wrIf up (by simp [rises, hval, hoff]) ((Dev.regWrite_slotCfg hacc hx).trans (if_pos ?_))⟩
  rw [hen, hoff]
  rfl

/-- Disabling a slot: it neither waits nor executes. -/
theorem State.run_slotDisable {s : State} {a : Acc} {sl : Fin 64} {val : W32} (up : s.up) (hval : CEN_SLOT_s_CFG_EN.of val.toNat = 0)
    (hon : s.dev.fb CEN_SLOT_s_CFG_EN sl = true) (hstate : s.dev.fg CEN_SLOT_s_STAT_STATE sl ≠ 4)
    (hacc : s.dev.accepts a (CEN_SLOT_s_CFG_EN.at sl) val.toNat) : ∃ e : Dev, exec (.slotDisable a sl val) s = .next (s.to e) ∧
      e.fg CEN_SLOT_s_CFG_EN sl = 0 ∧ e.fg CEN_SLOT_s_STAT_STATE sl = 0 ∧ (e.slot sl).active = false := by
  obtain ⟨e, he⟩ : ∃ e, s.dev.storeWord Dev.slotCfgReg sl val.toNat = e := ⟨_, rfl⟩
  have hen : e.fb CEN_SLOT_s_CFG_EN sl = false := by
    rw [← he, Dev.fb, Dev.storeWord_slotCfg_en, hval]
    rfl
  have hstored : e.fg CEN_SLOT_s_STAT_STATE sl ≠ 4 := by rwa [← he, Dev.storeWord_slotCfg_state]
  refine ⟨(e.slotDisable sl).testStart, State.run_wrIf up (by simp [falls, hval, hon]) ((Dev.regWrite_slotCfg hacc he).trans ?_), ?_⟩
  · rw [hen, hon]
    rfl
  · rw [Dev.fg_of_regs (Dev.testStart_regs _), Dev.fg_of_regs (Dev.testStart_regs _), Dev.slot_testStart]
    exact Dev.slotDisable_spec hstored

theorem State.run_selftestRequest {s : State} (up : s.up) (a : Acc) : exec (.cooperSelftestRequest a) s =
    .next (s.to (s.dev.fs CEN_TEST_REQ (Nat.lor (s.dev.fg CEN_TEST_REQ) 1)).testAsk) := State.run_wrIf up rfl (s.dev.regWrite_cenTest a)

/-- The request stands, and every lane has a self-test to do. -/
theorem Dev.testRequested (d : Dev) : (d.fs CEN_TEST_REQ (Nat.lor (d.fg CEN_TEST_REQ) 1)).testAsk.fg CEN_TEST_REQ = 1 :=
  (fg_of_regs (testAsk_regs _) _ _).trans (d.fg_fs_lor_one rfl _ _)

/-- A read of the event code frees its place for the next. -/
theorem Dev.regRead_evcode (d : Dev) (a : Acc) : (d.regRead a (CEN_EVCODE_CODE.at 0)).2 =
    { d with hst := { d.hst with lastRead := d.word (CEN_EVCODE_CODE.at 0) }, cen := { d.cen with evUnread := false } } := rfl

theorem State.run_evcodeRead {s : State} (up : s.up) (a : Acc) : exec (.evcodeRead a) s =
    .next (s.to { s.dev with hst := { s.dev.hst with lastRead := s.dev.word (CEN_EVCODE_CODE.at 0) }, cen := { s.dev.cen with evUnread := false } }) :=
  State.run_eq up ((if_pos rfl).trans (s.dev.regRead_evcode a))

theorem State.run_selftestDue {s : State} (up : s.up) (hen : s.dev.fb CEN_CTRL_EN = true) (hper : s.dev.fb CEN_CTRL_ST_PER = true) :
    exec .cooperSelftestDue s = .next (s.to s.dev.testAsk) := State.run_eq up (if_pos (by simp [hen, hper]))

/-- A lane's self-test passes; the last one withdraws the request. -/
theorem State.run_selftestPass {s : State} {l : Fin 4} {n : Nat} (up : s.up) (hpend : (vget s.dev.cen.lane l).testPend = true)
    (hslot : (vget s.dev.cen.lane l).testSlot = some n) : ∃ e, exec (.cooperSelftestComplete l true) s = .next (s.to e) ∧
      e.cen = (s.dev.testPassed l).cen ∧ e.fg CEN_TEST_ST_SEQ = (s.dev.testPassed l).fg CEN_TEST_ST_SEQ ∧
      e.evt = (s.dev.testPassed l).evt := by
  refine ⟨_, State.run_eq up (Dev.coopTestDoneDev_pass hpend hslot), ?_⟩
  split
  · exact ⟨rfl, rfl, rfl⟩
  · exact ⟨rfl, Dev.fg_fs_ne _ _ _ _ _ _ (by decide), rfl⟩

/-! ### Cooper by command (R168) -/

theorem cenWriteCmd_ok {c : Cmd} {d : Dev} (h4 : 4 ≤ c.payload.length) (hlen : c.payload.length % 4 = 0) (hreg : byteAt c.payload 0 ≤ 2)
    (hres : byteAt c.payload 1 = 0) (hend : leAt c.payload 2 2 + (c.payload.length - 4) / 4 ≤ Dev.coopWords (byteAt c.payload 0))
    (hctl : byteAt c.payload 0 = 2 → (c.payload.length - 4) / 4 ≤ 64) : cenWriteCmd c d =
      (.st .ok, d.coopPutAll (byteAt c.payload 0) (leAt c.payload 2 2) (wordsOf ((c.payload.length - 4) / 4) (c.payload.drop 4))) :=
  if_neg (by omega)

theorem cenReadCmd_ok {c : Cmd} {d : Dev} (hlen : c.payload.length = 6) (hreg : byteAt c.payload 0 ≤ 2) (hres : byteAt c.payload 1 = 0)
    (hpos : 1 ≤ leAt c.payload 4 2) (hmax : leAt c.payload 4 2 ≤ 1024)
    (hend : leAt c.payload 2 2 + leAt c.payload 4 2 ≤ Dev.coopWords (byteAt c.payload 0)) : cenReadCmd c d =
      (.reply .ok (d.coopHostReadN (byteAt c.payload 0) (leAt c.payload 2 2) (leAt c.payload 4 2)).1,
        (d.coopHostReadN (byteAt c.payload 0) (leAt c.payload 2 2) (leAt c.payload 4 2)).2) := if_neg (by omega)

theorem cenStartCmd_ok {c : Cmd} {d : Dev} {l : List Nat} (hlen : c.payload.length = 8)
    (hl : ((maskSlots c).filter fun n => !d.fb CEN_SLOT_s_CFG_EN n) = l)
    (hok : ∀ n ∈ l, d.enableBad n (d.fg CEN_SLOT_s_CFG_LANE n) (d.fb CEN_SLOT_s_CFG_LEGCOMMIT n) l = false ∧
      Dev.trgOk (d.fg CEN_SLOT_s_CFG_TRG_TYPE n) (d.fg CEN_SLOT_s_TRG_SRC n) = true) :
    cenStartCmd c d = (.st .ok, l.foldl Dev.slotEnable d) := by
  subst hl
  refine (if_neg (not_not.2 hlen)).trans (if_neg ?_)
  rw [List.any_eq_true]
  rintro ⟨n, hn, hbad⟩
  obtain ⟨hgood, htrg⟩ := hok n hn
  rw [hgood, htrg] at hbad
  cases hbad

theorem cenStopCmd_ok {c : Cmd} {d : Dev} (hlen : c.payload.length = 8) : cenStopCmd c d =
    (.st .ok, (((maskSlots c).filter fun n => d.fb CEN_SLOT_s_CFG_EN n).foldl Dev.slotDisable d).testStart) := if_neg (not_not.2 hlen)

theorem cenKickCmd_ok {c : Cmd} {d : Dev} {l : List Nat} (hlen : c.payload.length = 8)
    (hl : ((maskSlots c).filter fun n => d.fb CEN_SLOT_s_CFG_EN n && d.fg CEN_SLOT_s_STAT_STATE n == 1) = l) : cenKickCmd c d =
      (.reply .ok (leBytes 8 (l.foldl (fun m n => m + 2 ^ n) 0)), d.triggerFabric l) := by
  subst hl
  exact if_neg (not_not.2 hlen)

theorem cenClearCmd_ok {c : Cmd} {d : Dev} (hlen : c.payload.length = 8) : cenClearCmd c d =
    (.st .ok, (maskSlots c).foldl Dev.faultCleared d) := if_neg (not_not.2 hlen)

theorem cenGroupCmd_ok {c : Cmd} {d : Dev} {m : Nat × Nat} (hlen : c.payload.length = 2) (hg : byteAt c.payload 0 < 16)
    (hen : d.fb CEN_GRP_g_CFG_EN (byteAt c.payload 0) = true) (hm : d.withValid (byteAt c.payload 0) (byteAt c.payload 1) = m)
    (hok : d.membersOk (byteAt c.payload 0) m.1 m.2 = true) : cenGroupCmd c d = (.st .ok, d.setMembers (byteAt c.payload 0) m.1 m.2) := by
  subst hm
  exact (if_neg (by omega)).trans (if_neg (by simp [hen, hok]))

/-- A lane waits for a context to test itself in. -/
def Dev.laneWaits (d : Dev) : Bool := d.cen.lane.toList.any fun l => l.testPend && l.testSlot.isNone

/-- Where some slot is idle, no lane waits once a self-test has been asked for. -/
theorem Dev.laneWaits_testAsk {d : Dev} (h : d.idleSlot ≠ none) : d.testAsk.laneWaits = false := by
  refine any_toList_eq_false.2 fun l => ?_
  rw [lane_testAsk]
  exact lent_testSlot h _

/-- Asking for a self-test leaves the idle slots as they were. -/
theorem Dev.idleSlot_fs_testReq (d : Dev) (v : Nat) : (d.fs CEN_TEST_REQ v).idleSlot = d.idleSlot := by
  have hen (n : Nat) : (d.fs CEN_TEST_REQ v).fb CEN_SLOT_s_CFG_EN n = d.fb CEN_SLOT_s_CFG_EN n := by
    refine fb_of_fg (fg_fs_ne _ _ _ _ _ _ ?_)
    simp only [Fld.key, CEN_SLOT_s_CFG_EN, CEN_TEST_REQ]
    omega
  simp only [idleSlot, hen]

theorem cenSelftestCmd_ask {c : Cmd} {d : Dev} (hc : c.payload = [0]) (hfree : ∀ l : Fin 4, (vget d.cen.lane l).testPend = false)
    (hidle : d.idleSlot ≠ none) : cenSelftestCmd c d = (.reply .ok [0], (d.fs CEN_TEST_REQ 1).testAsk) := by
  have hwaits : (d.fs CEN_TEST_REQ 1).testAsk.laneWaits = false := Dev.laneWaits_testAsk (by rwa [Dev.idleSlot_fs_testReq])
  have hpend : d.cen.lane.toList.any (·.testPend) = false := any_toList_eq_false.2 hfree
  have hreply : cenSelftestCmd c d = (.reply .ok (leBytes 1 (b2n (d.fs CEN_TEST_REQ 1).testAsk.laneWaits)), (d.fs CEN_TEST_REQ 1).testAsk) := by
    rw [cenSelftestCmd, hc]
    exact (if_neg (by decide)).trans ((if_neg (by decide)).trans (if_neg (Bool.eq_false_iff.1 hpend)))
  rw [hreply, hwaits]
  rfl

/-- A started command that clears faults completes, and every slot of its mask is sound. -/
theorem State.run_cenClear {s : State} {p : Path} {tag : Byte} {b : List Byte} (up : s.up) (h : s.dev.started p tag 0x306 b) (hlen : b.length = 8) :
    ∃ t, exec (.cenClear p tag) s = .next t ∧ s.dev.completed t.dev p tag .ok [] ∧ ∀ n : Fin 64, (leAt b 0 8).testBit n → t.dev.Sound n := by
  refine ⟨_, State.run_answers up h fun c hc => ?_, Dev.complete_completed h (congrArg Hst.outst (Dev.foldl_faultCleared_hst (bitsOf 64 (leAt b 0 8)) s.dev)) .ok [],
    fun n hn => ?_⟩
  · subst hc
    exact cenClearCmd_ok hlen
  · have hmem : n.val ∈ bitsOf 64 (leAt b 0 8) := List.mem_filter.2 ⟨List.mem_range.2 n.isLt, hn⟩
    obtain ⟨hfault, hstate⟩ := Dev.foldl_faultCleared (d := s.dev) (.inr hmem)
    have hkey {F : Fld} (hF : F = CEN_SLOT_s_STAT_FAULT ∨ F = CEN_SLOT_s_STAT_STATE) : F.key n ≠ HST_STAT_OUTST.key 0 := by
      rcases hF with rfl | rfl <;> simp only [Fld.key, CEN_SLOT_s_STAT_FAULT, CEN_SLOT_s_STAT_STATE, HST_STAT_OUTST] <;> omega
    exact ⟨(Dev.fg_complete _ (hkey (.inl rfl))).trans hfault, fun h4 => hstate ((Dev.fg_complete _ (hkey (.inr rfl))).symm.trans h4)⟩

/-- Settles O12: by register, each row is what the write of its register comes to; by command, each is its payload's one answer. -/
theorem cooperControl : Obligations.CooperControl := by
  unfold Obligations.CooperControl
  refine ⟨fun s a up => ⟨?enable, ?disable, ?request, ?code, ?due, ?pass⟩,
    fun s p tag b up => ⟨?write, ?read, ?start, ?stop, ?kick, ?clear, ?group, ?selftest⟩⟩
  case enable =>
    intro sl val hval hoff hacc
    obtain ⟨x, hx⟩ := State.run_slotEnable up hval hoff hacc
    exact ⟨_, hx, Dev.slotEnable_spec _ sl⟩
  case disable =>
    intro sl val hval hon hstate hacc
    obtain ⟨e, he, hspec⟩ := State.run_slotDisable up hval hon hstate hacc
    exact ⟨_, he, hspec⟩
  case request => exact ⟨_, State.run_selftestRequest up a, (Dev.fg_land ..).trans s.dev.testRequested, Dev.testAsk_pends _⟩
  case code => exact ⟨_, State.run_evcodeRead up a, rfl, rfl, rfl⟩
  case due => exact fun hen hper => ⟨_, State.run_selftestDue up hen hper, Dev.testAsk_pends _, rfl⟩
  case pass =>
    intro l n hpend hslot
    obtain ⟨e, he, hcen, hseq, hevt⟩ := State.run_selftestPass up hpend hslot
    obtain ⟨hfree, hnone, hsince, hcount, hraise⟩ := s.dev.testPassed_spec l
    refine ⟨_, he, ?_, ?_, ?_, hseq.trans hcount, hraise.trans hevt.symm⟩ <;> rw [State.to_dev, Dev.land_cen, hcen] <;> assumption
  case write => exact fun h h4 hlen hreg hres hend hctl => State.run_answers up h fun c hc => by subst hc; exact cenWriteCmd_ok h4 hlen hreg hres hend hctl
  case read =>
    intro l e h hlen hreg hres hpos hmax hend hread
    refine State.run_answers up h fun c hc => ?_
    subst hc
    rw [cenReadCmd_ok hlen hreg hres hpos hmax hend, hread]
  case start => exact fun l h hlen hl hok => State.run_answers up h fun c hc => by subst hc; exact cenStartCmd_ok hlen hl hok
  case stop => exact fun h hlen => State.run_answers up h fun c hc => by subst hc; exact cenStopCmd_ok hlen
  case kick => exact fun l h hlen hl => State.run_answers up h fun c hc => by subst hc; exact cenKickCmd_ok hlen hl
  case clear => exact fun h hlen => State.run_cenClear up h hlen
  case group => exact fun m h hlen hg hen hm hok => State.run_answers up h fun c hc => by subst hc; exact cenGroupCmd_ok hlen hg hen hm hok
  case selftest => exact fun h hfree hidle => State.run_answers up h fun c hc => cenSelftestCmd_ask hc hfree hidle

end Sys2Proof.Machine
end

section
/-! SUPPORT. The statement about Scrivener's arming, triggers and stops (07). -/
set_option Elab.async false

namespace Sys2Proof.Machine
namespace Dev

/-! ### Arming (R166) -/

/-- An enabled channel starts, with a time record. -/
def trcBegin (d : Dev) (c : Nat) : Dev :=
  if d.fb CEN_TRC_c_CFG_EN c then
    (d.setTrc c { vget d.cen.trc c with running := true, postLeft := none, specSlots := [], specLegs := [] }).trcTime c
  else d

theorem trcArm_eq (d : Dev) : d.trcArm =
    ((List.range 4).foldl trcBegin (((d.fs CEN_TRC_CTRL_ARM 1).fs CEN_TRC_STAT_TRIGGERED 0).fs CEN_TRC_STAT_DONE 0)).showRec := rfl

/-- Channel `c` records, and no trigger has begun to count its records. -/
def Runs (d : Dev) (c : Nat) : Prop := (vget d.cen.trc c).running = true ∧ (vget d.cen.trc c).postLeft = none

theorem Records.runs {d e : Dev} (h : Records d e) {c : Nat} (hc : d.Runs c) : e.Runs c :=
  ⟨(h.running_eq c).trans hc.1, h.postLeft_none c hc.2⟩

theorem runs_fs {d : Dev} {F : Fld} {v n c : Nat} : (d.fs F v n).Runs c ↔ d.Runs c := .rfl

theorem trcBegin_fg (d : Dev) (c : Nat) (F : Fld) (n : Nat) (hF : F.lo < 32 ∧ F.lo ≠ 3 ∧ F.lo ≠ 4) : (d.trcBegin c).fg F n = d.fg F n := by
  unfold trcBegin
  split
  · exact (Records.trcPush .refl).fg_eq n hF
  · rfl

theorem trcBegin_starts {d : Dev} {c : Nat} (hc : c < 4) (hen : d.fb CEN_TRC_c_CFG_EN c = true) : (d.trcBegin c).Runs c := by
  rw [trcBegin, if_pos hen]
  refine (Records.trcPush .refl).runs ?_
  rw [Runs, setTrc, vget_vset_same _ _ _ hc]
  exact ⟨rfl, rfl⟩

theorem trcBegin_runs {d : Dev} {k : Nat} (h : d.Runs k) (c : Nat) : (d.trcBegin c).Runs k := by
  unfold trcBegin
  split
  · refine (Records.trcPush .refl).runs ?_
    rw [Runs, setTrc, vget_vset]
    split
    · exact ⟨rfl, rfl⟩
    · exact h
  · exact h

/-- Starting the channels of a list changes no field but those that records write. -/
theorem foldl_trcBegin_fg (l : List Nat) (d : Dev) (F : Fld) (n : Nat) (hF : F.lo < 32 ∧ F.lo ≠ 3 ∧ F.lo ≠ 4 := by decide) :
    (l.foldl trcBegin d).fg F n = d.fg F n := by
  induction l generalizing d with
  | nil => rfl
  | cons c t ih => exact (ih _).trans (d.trcBegin_fg c F n hF)

/-- Each enabled channel of the list runs, and so does each that ran. -/
theorem foldl_trcBegin_runs {l : List Nat} {d : Dev} {k : Nat} (hk : k < 4) (h : d.Runs k ∨ k ∈ l ∧ d.fb CEN_TRC_c_CFG_EN k = true) :
    (l.foldl trcBegin d).Runs k := by
  induction l generalizing d with
  | nil => exact h.resolve_right (nomatch ·.1)
  | cons c t ih =>
    refine ih ?_
    rcases h with hruns | ⟨hmem, hen⟩
    · exact .inl (trcBegin_runs hruns c)
    · rcases List.mem_cons.1 hmem with rfl | ht
      · exact .inl (trcBegin_starts hk hen)
      · exact .inr ⟨ht, (fb_of_fg (d.trcBegin_fg c _ k (by decide))).trans hen⟩

theorem trcArm_fg (d : Dev) {F : Fld} (hF : F.lo < 32 ∧ F.lo ≠ 3 ∧ F.lo ≠ 4) (hrec : F.key 0 ≠ CEN_TRC_STAT_RECORDING.key 0) :
    d.trcArm.fg F = (((d.fs CEN_TRC_CTRL_ARM 1).fs CEN_TRC_STAT_TRIGGERED 0).fs CEN_TRC_STAT_DONE 0).fg F := by
  rw [trcArm_eq]
  exact (fg_fs_ne _ _ _ _ _ _ hrec).trans (foldl_trcBegin_fg _ _ F 0 hF)

theorem trcArm_spec (d : Dev) : d.trcArm.fg CEN_TRC_CTRL_ARM = 1 ∧ d.trcArm.fg CEN_TRC_STAT_TRIGGERED = 0 ∧ d.trcArm.fg CEN_TRC_STAT_DONE = 0 ∧
    ∀ c : Fin 4, d.fb CEN_TRC_c_CFG_EN c = true → d.trcArm.Runs c := by
  refine ⟨?arm, ?triggered, ?done, fun c hen => ?runs⟩
  case arm => rw [trcArm_fg d (by decide) (by decide), fg_fs_ne _ _ _ _ _ _ (by decide), fg_fs_ne _ _ _ _ _ _ (by decide), fg_fs]; rfl
  case triggered => rw [trcArm_fg d (by decide) (by decide), fg_fs_ne _ _ _ _ _ _ (by decide), fg_fs]; rfl
  case done => rw [trcArm_fg d (by decide) (by decide), fg_fs]; rfl
  case runs =>
    have hkept : (((d.fs CEN_TRC_CTRL_ARM 1).fs CEN_TRC_STAT_TRIGGERED 0).fs CEN_TRC_STAT_DONE 0).fg CEN_TRC_c_CFG_EN c = d.fg CEN_TRC_c_CFG_EN c := by
      have hkey (G : Fld) (hG : G.key 0 / 32 < 0x20050C10 := by decide) : CEN_TRC_c_CFG_EN.key c / 32 ≠ G.key 0 / 32 := by
        simp only [Fld.key, CEN_TRC_c_CFG_EN]
        simp only [Fld.key] at hG
        omega
      rw [fg_fs_reg (hkey _), fg_fs_reg (hkey _), fg_fs_reg (hkey _)]
    rw [trcArm_eq, showRec, runs_fs]
    exact foldl_trcBegin_runs c.isLt (.inr ⟨List.mem_range.2 c.isLt, (fb_of_fg hkept).trans hen⟩)

/-! ### Stopping (R168) -/

/-- Every channel has stopped. -/
def trcStopped (d : Dev) : Dev :=
  { d.fs CEN_TRC_CTRL_ARM 0 with cen := { d.cen with trc := vmap (fun t => { t with running := false, postLeft := none }) d.cen.trc } }

theorem trcDisarm_eq (d : Dev) : d.trcDisarm = d.trcStopped.showRec := rfl

theorem trcStopped_running (d : Dev) (c : Fin 4) : (vget d.trcStopped.cen.trc c).running = false :=
  congrArg TrcCh.running (vget_vmap (fun t : TrcCh => { t with running := false, postLeft := none }) d.cen.trc c.isLt)

theorem trcStopped_regs (d : Dev) : d.trcStopped.regs = (d.fs CEN_TRC_CTRL_ARM 0).regs := rfl

theorem trcStopped_raise_evt (d : Dev) (e x : Nat) : (d.trcStopped.raise e x).evt = ((d.fs CEN_TRC_CTRL_ARM 0).raise e x).evt := rfl

theorem trcDisarm_arm (d : Dev) : d.trcDisarm.fg CEN_TRC_CTRL_ARM = 0 := by
  rw [trcDisarm_eq, showRec, fg_fs_ne _ _ _ _ _ _ (by decide), fg_of_regs d.trcStopped_regs, fg_fs]
  rfl

theorem trcDisarm_recording (d : Dev) : d.trcDisarm.fg CEN_TRC_STAT_RECORDING = 0 := by
  have hnone : d.trcStopped.cen.trc.toList.any (·.running) = false := any_toList_eq_false.2 d.trcStopped_running
  rw [trcDisarm_eq, showRec, hnone, fg_fs]
  rfl

theorem trcDisarm_running (d : Dev) (c : Fin 4) : (vget d.trcDisarm.cen.trc c).running = false := d.trcStopped_running c

/-- An event bears no trace of Scrivener's stop. -/
theorem trcDisarm_raise_evt (d : Dev) (e x : Nat) : (d.trcDisarm.raise e x).evt = (d.raise e x).evt := by
  rw [trcDisarm_eq, showRec, raise_fs_evt, trcStopped_raise_evt, raise_fs_evt]

/-! ### Triggers (R166) -/

/-- A ring channel that records begins to count the records after the trigger. -/
def trcCount (d : Dev) (c : Nat) : Dev :=
  if (vget d.cen.trc c).running && !d.fb CEN_TRC_c_CFG_STREAM c then
    d.setTrc c { vget d.cen.trc c with postLeft := some (d.fg CEN_TRC_CTRL_POST) }
  else d

theorem foldl_trcCount (l : List Nat) (d : Dev) : (l.foldl trcCount d).regs = d.regs ∧ (l.foldl trcCount d).evt = d.evt := by
  induction l generalizing d with
  | nil => exact ⟨rfl, rfl⟩
  | cons c t ih =>
    rw [List.foldl_cons, (ih _).1, (ih _).2, trcCount]
    split <;> exact ⟨rfl, rfl⟩

/-- The first trigger after arming is counted, shown and raised. -/
theorem trcTrigger_first {d : Dev} (harm : d.fb CEN_TRC_CTRL_ARM = true) (hfirst : d.fb CEN_TRC_STAT_TRIGGERED = false) :
    d.trcTrigger.fg CEN_TRC_STAT_TRIGGERED = 1 ∧
    d.trcTrigger.fg CEN_TRC_STAT_TRIG_SEQ = (d.fg CEN_TRC_STAT_TRIG_SEQ + 1) % 2 ^ CEN_TRC_STAT_TRIG_SEQ.len ∧
    d.trcTrigger.evt = (d.raise 40).evt := by
  obtain ⟨f, hf⟩ : ∃ f, d.finc CEN_TRC_STAT_TRIG_SEQ = f := ⟨_, rfl⟩
  have hseq : f.fg CEN_TRC_STAT_TRIG_SEQ = (d.fg CEN_TRC_STAT_TRIG_SEQ + 1) % 2 ^ CEN_TRC_STAT_TRIG_SEQ.len := hf ▸ fg_fs ..
  have hraise : (f.raise 40).evt = (d.raise 40).evt := hf ▸ raise_fs_evt d 40 0
  have htrigger : d.trcTrigger = (List.range 4).foldl trcCount ((f.fs CEN_TRC_STAT_TRIGGERED 1).raise 40) := by
    rw [trcTrigger, if_pos (by rw [harm, hfirst]; rfl), hf]
    rfl
  obtain ⟨hregs, hevt⟩ := foldl_trcCount (List.range 4) ((f.fs CEN_TRC_STAT_TRIGGERED 1).raise 40)
  rw [htrigger, hevt, fg_of_regs hregs, fg_of_regs hregs, raise_fs_evt, hraise]
  exact ⟨(f.fg_fs ..).trans rfl, Eq.trans (fg_fs_ne _ _ _ _ _ _ (by decide)) hseq, rfl⟩

/-! ### `CEN_TRC_CTRL` -/

/-- `CEN_TRC_CTRL` in the register map. -/
def trcCtrlReg : Reg := ⟨0x20050C00, 0x0, 0, 1, [⟨CEN_TRC_CTRL_ARM, .RW, .any⟩, ⟨CEN_TRC_CTRL_SWTRIG, .WO, .any⟩,
  ⟨CEN_TRC_CTRL_EV_EN, .RW, .any⟩, ⟨CEN_TRC_CTRL_EV_SEL, .RW, .any⟩, ⟨CEN_TRC_CTRL_POST, .RW, .any⟩]⟩

theorem findReg_trcCtrl : findReg (CEN_TRC_CTRL_ARM.at 0) = some (trcCtrlReg, 0) := rfl

theorem trcCtrl_of_reached {s : FldSpec} (hs : s ∈ trcCtrlReg.flds) (w : Nat) : s.fld.of (reached trcCtrlReg w) = s.fld.of w :=
  of_reached (by decide) hs ((show ∀ s ∈ trcCtrlReg.flds, s.reachable = true by decide) s hs) w

theorem storeWord_trcCtrl (d : Dev) (w : Nat) : d.storeWord trcCtrlReg 0 w =
    (((d.fs CEN_TRC_CTRL_ARM (CEN_TRC_CTRL_ARM.of (reached trcCtrlReg w))).fs CEN_TRC_CTRL_EV_EN (CEN_TRC_CTRL_EV_EN.of (reached trcCtrlReg w))).fs
      CEN_TRC_CTRL_EV_SEL (CEN_TRC_CTRL_EV_SEL.of (reached trcCtrlReg w))).fs CEN_TRC_CTRL_POST (CEN_TRC_CTRL_POST.of (reached trcCtrlReg w)) := rfl

/-- `e` is `d` once a word that gives `ARM` the value `v` is stored in `CEN_TRC_CTRL`. -/
def CtrlStored (d e : Dev) (v : Nat) : Prop :=
  e.fg CEN_TRC_CTRL_ARM = v ∧ (∀ (F : Fld) (n : Nat), F.key n / 32 ≠ 0x20050C00 → e.fg F n = d.fg F n) ∧ (e.raise 40).evt = (d.raise 40).evt

theorem ctrlStored (d : Dev) (w : Nat) : CtrlStored d (d.storeWord trcCtrlReg 0 w) (CEN_TRC_CTRL_ARM.of w) := by
  rw [storeWord_trcCtrl]
  refine ⟨?arm, fun F n hF => ?kept, ?evt⟩
  case arm =>
    rw [fg_fs_ne _ _ _ _ _ _ (by decide), fg_fs_ne _ _ _ _ _ _ (by decide), fg_fs_ne _ _ _ _ _ _ (by decide), fg_fs, trcCtrl_of_reached (.head _)]
    exact Nat.mod_mod _ _
  case kept => rw [fg_fs_reg hF, fg_fs_reg hF, fg_fs_reg hF, fg_fs_reg hF]
  case evt => rw [raise_fs_evt, raise_fs_evt, raise_fs_evt, raise_fs_evt]

theorem afterReg_trcCtrl (e d : Dev) (w : Nat) : e.afterReg d 0x20050C00 0 w = e.afterTRC d 0x20050C00 0 w := by
  have hcen : e.afterReg d 0x20050C00 0 w = e.afterCEN d 0x20050C00 0 w := rfl
  rw [hcen, afterCEN, if_neg (by decide), if_neg (by decide), if_neg (by decide)]

/-- An accepted write of `CEN_TRC_CTRL`. -/
theorem regWrite_trcCtrl {d : Dev} {a : Acc} {w : Nat} (hok : d.accepts a (CEN_TRC_CTRL_ARM.at 0) w) :
    (d.regWrite a (CEN_TRC_CTRL_ARM.at 0) w).2 = (d.storeWord trcCtrlReg 0 w).afterTRC d 0x20050C00 0 (reached trcCtrlReg w) := by
  rw [regWrite_accepted findReg_trcCtrl (by decide) (by decide) (by decide) rfl rfl hok]
  exact afterReg_trcCtrl ..

/-- What follows the write: `ARM` set starts the channels, `ARM` cleared stops them, and `SWTRIG` triggers. -/
theorem afterTRC_ctrl (e d : Dev) (w : Nat) : e.afterTRC d 0x20050C00 0 (reached trcCtrlReg w) =
    if CEN_TRC_CTRL_SWTRIG.of w ≠ 0 then
      (if CEN_TRC_CTRL_ARM.of w != 0 && !d.fb CEN_TRC_CTRL_ARM then e.trcArm
        else if !(CEN_TRC_CTRL_ARM.of w != 0) && d.fb CEN_TRC_CTRL_ARM then e.trcDisarm else e).trcTrigger
    else if CEN_TRC_CTRL_ARM.of w != 0 && !d.fb CEN_TRC_CTRL_ARM then e.trcArm
      else if !(CEN_TRC_CTRL_ARM.of w != 0) && d.fb CEN_TRC_CTRL_ARM then e.trcDisarm else e := by
  have harm : CEN_TRC_CTRL_ARM.of (reached trcCtrlReg w) = CEN_TRC_CTRL_ARM.of w := trcCtrl_of_reached (.head _) w
  have hsw : CEN_TRC_CTRL_SWTRIG.of (reached trcCtrlReg w) = CEN_TRC_CTRL_SWTRIG.of w := trcCtrl_of_reached (.tail _ (.head _)) w
  rw [afterTRC, if_pos rfl, harm, hsw]

end Dev
end Sys2Proof.Machine
end

section
/-! SUPPORT. Scrivener's arming, triggers and stops (07): the rows. -/
set_option Elab.async false

namespace Sys2Proof.Machine
namespace Dev

/-! ### The last ring channel is full (R166) -/

/-- Channel `c` has stopped. -/
def ringStopped (d : Dev) (c : Nat) : Dev := (d.setTrc c { vget d.cen.trc c with running := false, postLeft := none }).showRec

theorem ringStopped_running (d : Dev) (c o : Fin 4) :
    (vget (d.ringStopped c).cen.trc o).running = if c = o then false else (vget d.cen.trc o).running := by
  have htrc : (d.ringStopped c).cen.trc = vset d.cen.trc c { vget d.cen.trc c with running := false, postLeft := none } := rfl
  rw [htrc]
  by_cases h : c = o
  · subst h
    rw [if_pos rfl, vget_vset_same _ _ _ c.isLt]
  · rw [if_neg h, vget_vset_ne _ _ (Fin.val_ne_of_ne h)]

theorem ringStopped_stream (d : Dev) (c o : Fin 4) : (d.ringStopped c).fb CEN_TRC_c_CFG_STREAM o = d.fb CEN_TRC_c_CFG_STREAM o := by
  refine fb_of_fg (fg_fs_reg ?_)
  simp only [Fld.key, CEN_TRC_c_CFG_STREAM, CEN_TRC_STAT_RECORDING]
  omega

theorem ringStopped_raise_evt (d : Dev) (c e x : Nat) : ((d.ringStopped c).raise e x).evt = (d.raise e x).evt := raise_fs_evt _ e x

/-- A ring channel that has its records stops; where no other ring channel records, the capture is complete. -/
theorem postDoneDev_last {d : Dev} {c : Fin 4} (hrun : (vget d.cen.trc c).running = true) (hfull : (vget d.cen.trc c).postLeft = some 0)
    (hlast : ∀ o : Fin 4, o ≠ c → (vget d.cen.trc o).running = false ∨ d.fb CEN_TRC_c_CFG_STREAM o = true) :
    postDoneDev c d = ((d.ringStopped c).trcDisarm.fs CEN_TRC_STAT_DONE 1).raise 41 := by
  have hnone : ¬ ((List.range 4).any fun o => (vget (d.ringStopped c).cen.trc o).running && !(d.ringStopped c).fb CEN_TRC_c_CFG_STREAM o) = true := by
    rw [List.any_eq_true]
    rintro ⟨o, ho, hrec⟩
    rw [ringStopped_running d c ⟨o, List.mem_range.1 ho⟩, ringStopped_stream d c ⟨o, List.mem_range.1 ho⟩] at hrec
    split at hrec
    · cases hrec
    · next hne =>
      rcases hlast _ (Ne.symm hne) with hoff | hstream
      · rw [hoff] at hrec
        cases hrec
      · rw [hstream, Bool.not_true, Bool.and_false] at hrec
        cases hrec
  exact (if_pos (by simp [hrun, hfull])).trans (if_neg hnone)

theorem captureDone_spec (d : Dev) (c : Nat) (o : Fin 4) :
    (vget (((d.ringStopped c).trcDisarm.fs CEN_TRC_STAT_DONE 1).raise 41).cen.trc o).running = false ∧
    (((d.ringStopped c).trcDisarm.fs CEN_TRC_STAT_DONE 1).raise 41).fg CEN_TRC_STAT_DONE = 1 ∧
    (((d.ringStopped c).trcDisarm.fs CEN_TRC_STAT_DONE 1).raise 41).fg CEN_TRC_CTRL_ARM = 0 ∧
    (((d.ringStopped c).trcDisarm.fs CEN_TRC_STAT_DONE 1).raise 41).evt = (d.raise 41).evt := by
  have hevt := raise_fs_evt (d.ringStopped c).trcDisarm (F := CEN_TRC_STAT_DONE) (v := 1) (n := 0) 41 0
  refine ⟨(d.ringStopped c).trcDisarm_running o, (fg_fs (d.ringStopped c).trcDisarm ..).trans rfl, ?arm, ?evt⟩
  case arm => exact (fg_fs_ne (d.ringStopped c).trcDisarm _ _ _ _ _ (by decide)).trans (d.ringStopped c).trcDisarm_arm
  case evt => rw [hevt, trcDisarm_raise_evt, ringStopped_raise_evt]

end Dev

/-! ### Scrivener by register (R166) -/

/-- An accepted write that sets `ARM`: the word is stored and the channels start. -/
theorem State.run_scrivenerArm {s : State} {a : Acc} {val : W32} (up : s.up) (harm : CEN_TRC_CTRL_ARM.of val.toNat = 1)
    (hsw : CEN_TRC_CTRL_SWTRIG.of val.toNat = 0) (hoff : s.dev.fb CEN_TRC_CTRL_ARM = false)
    (hacc : s.dev.accepts a (CEN_TRC_CTRL_ARM.at 0) val.toNat) :
    ∃ e, Dev.CtrlStored s.dev e 1 ∧ exec (.scrivenerArm a val) s = .next (s.to e.trcArm) := by
  refine ⟨_, harm ▸ s.dev.ctrlStored val.toNat, State.run_wrIf up (by simp [rises, harm, hoff]) ((Dev.regWrite_trcCtrl hacc).trans ?_)⟩
  rw [Dev.afterTRC_ctrl, harm, hsw, hoff]
  rfl

/-- An accepted write that clears `ARM`: the word is stored and the channels stop. -/
theorem State.run_scrivenerDisarm {s : State} {a : Acc} {val : W32} (up : s.up) (harm : CEN_TRC_CTRL_ARM.of val.toNat = 0)
    (hsw : CEN_TRC_CTRL_SWTRIG.of val.toNat = 0) (hon : s.dev.fb CEN_TRC_CTRL_ARM = true)
    (hacc : s.dev.accepts a (CEN_TRC_CTRL_ARM.at 0) val.toNat) :
    ∃ e, Dev.CtrlStored s.dev e 0 ∧ exec (.scrivenerDisarm a val) s = .next (s.to e.trcDisarm) := by
  refine ⟨_, harm ▸ s.dev.ctrlStored val.toNat, State.run_wrIf up (by simp [falls, harm, hon]) ((Dev.regWrite_trcCtrl hacc).trans ?_)⟩
  rw [Dev.afterTRC_ctrl, harm, hsw, hon]
  rfl

/-- An accepted write of `SWTRIG` that leaves `ARM` set: the word is stored and the trigger acts. -/
theorem State.run_scrivenerSwtrig {s : State} {a : Acc} {val : W32} (up : s.up) (harm : CEN_TRC_CTRL_ARM.of val.toNat = 1)
    (hsw : CEN_TRC_CTRL_SWTRIG.of val.toNat = 1) (hon : s.dev.fb CEN_TRC_CTRL_ARM = true)
    (hacc : s.dev.accepts a (CEN_TRC_CTRL_ARM.at 0) val.toNat) :
    ∃ e, Dev.CtrlStored s.dev e 1 ∧ exec (.scrivenerSwtrig a val) s = .next (s.to e.trcTrigger) := by
  have hat : CEN_TRC_CTRL_SWTRIG.at 0 = CEN_TRC_CTRL_ARM.at 0 := rfl
  have hwrite := (congrArg (fun x => (s.dev.regWrite a x val.toNat).2) hat).trans (Dev.regWrite_trcCtrl hacc)
  refine ⟨_, harm ▸ s.dev.ctrlStored val.toNat, State.run_wrIf up (by simp [hsw]) (hwrite.trans ?_)⟩
  rw [Dev.afterTRC_ctrl, harm, hsw, hon, if_pos (by decide), if_neg (by decide), if_neg (by decide)]

/-- The fields of `CEN_TRC_c_CFG` stand outside `CEN_TRC_CTRL`. -/
theorem trcCfgEn_key_div (c : Nat) : CEN_TRC_c_CFG_EN.key c / 32 ≠ 0x20050C00 := by
  simp only [Fld.key, CEN_TRC_c_CFG_EN]
  omega

/-! ### Scrivener by command (R168) -/

theorem trcArmCmd_ok {c : Cmd} {d : Dev} {k : Fin 4} (hc : c.payload = []) (hen : d.fb CEN_TRC_c_CFG_EN k = true)
    (hoff : d.fb CEN_TRC_CTRL_ARM = false) : trcArmCmd c d = (.st .ok, d.trcArm) := by
  have hany : (List.range 4).any (fun k => d.fb CEN_TRC_c_CFG_EN k) = true := List.any_eq_true.2 ⟨k, List.mem_range.2 k.isLt, hen⟩
  rw [trcArmCmd, if_neg (not_not.2 hc), if_neg (by rw [hany]; decide), hoff]
  rfl

theorem trcTriggerCmd_ok {c : Cmd} {d : Dev} (hc : c.payload = []) (hon : d.fb CEN_TRC_CTRL_ARM = true) :
    trcTriggerCmd c d = (.st .ok, d.trcTrigger) := (if_neg (not_not.2 hc)).trans (if_pos hon)

theorem trcReadCmd_ok {c : Cmd} {d : Dev} (hlen : c.payload.length = 6) (hres : byteAt c.payload 1 = 0) (hch : byteAt c.payload 0 < 4)
    (hpos : 1 ≤ leAt c.payload 4 2) (hmax : leAt c.payload 4 2 ≤ 4096) (hend : leAt c.payload 2 2 + leAt c.payload 4 2 ≤ 16384) :
    trcReadCmd c d = (.reply .ok (d.trcRecords (byteAt c.payload 0) (leAt c.payload 2 2) (leAt c.payload 4 2)), d) := by
  have hbuf : Dev.trcBuf = 16384 := rfl
  exact if_neg (by omega)

/-- Settles O13: a write of `CEN_TRC_CTRL` is its stored word and then Scrivener's own step; each command is its payload's one answer. -/
theorem scrivenerRuns : Obligations.ScrivenerRuns := by
  unfold Obligations.ScrivenerRuns
  refine fun s a p tag up => ⟨?arm, ?disarm, ?swtrig, ?postDone, ?tsWrap, ?cmdArm, ?cmdTrigger, ?cmdRead, ?cmdStop⟩
  case arm =>
    intro val harm hsw hoff hacc
    obtain ⟨e, ⟨-, hkept, -⟩, he⟩ := State.run_scrivenerArm up harm hsw hoff hacc
    obtain ⟨hon, htriggered, hdone, hruns⟩ := e.trcArm_spec
    refine ⟨_, he, ?_⟩
    simp only [State.to_dev, Dev.fg_land, Dev.land_cen]
    exact ⟨hon, htriggered, hdone, fun c hen => hruns c ((Dev.fb_of_fg (hkept _ _ (trcCfgEn_key_div c))).trans hen)⟩
  case disarm =>
    intro val harm hsw hon hacc
    obtain ⟨e, -, he⟩ := State.run_scrivenerDisarm up harm hsw hon hacc
    exact ⟨_, he, e.trcDisarm_arm, e.trcDisarm_recording, e.trcDisarm_running⟩
  case swtrig =>
    intro val harm hsw hon hfirst hacc
    obtain ⟨e, ⟨hval, hkept, hevt⟩, he⟩ := State.run_scrivenerSwtrig up harm hsw hon hacc
    obtain ⟨htriggered, hseq, hraised⟩ := Dev.trcTrigger_first (d := e) (congrArg (· != 0) hval)
      ((Dev.fb_of_fg (hkept _ 0 (by decide))).trans hfirst)
    refine ⟨_, he, ?_⟩
    simp only [State.to_dev, Dev.fg_land, Dev.land_evt]
    exact ⟨htriggered, hraised.trans hevt, hseq.trans (by rw [hkept _ 0 (by decide)])⟩
  case postDone =>
    exact fun c hrun hfull hlast => ⟨_, State.run_eq up (Dev.postDoneDev_last hrun hfull hlast), s.dev.captureDone_spec c c⟩
  case tsWrap => exact fun hwrap => State.run_eq up (if_pos hwrap)
  case cmdArm => exact fun c h hen hoff => State.run_answers up h fun _ hc => trcArmCmd_ok hc hen hoff
  case cmdTrigger => exact fun h hon => State.run_answers up h fun _ hc => trcTriggerCmd_ok hc hon
  case cmdRead =>
    exact fun b h hlen hres hch hpos hmax hend => State.run_answers up h fun c hc => by subst hc; exact trcReadCmd_ok hlen hres hch hpos hmax hend
  case cmdStop => exact fun h => State.run_answers up h fun c hc => if_neg (not_not.2 hc)

end Sys2Proof.Machine
end

section
/-! SUPPORT. The grid functions' changes of state, and what the supervisor's evaluation leaves of them while it drives nothing (08, 11). -/
set_option Elab.async false

namespace Sys2Proof.Machine

/-- A row of the supervisor's, out of reset, by what its effect comes to. -/
theorem State.runSaf_eq {s : State} {f : Dev → Dev} {e : Dev} (up : s.up) (h : f s.dev = e) : s.runSaf f = .next (s.toSaf e) :=
  h ▸ State.runSaf_up up f

/-- A row of the grid functions after which the supervisor evaluates. -/
theorem State.runSaf_eval {s : State} {f : Dev → Dev} {e : Dev} (up : s.up) (h : f s.dev = e) :
    s.runSaf (fun d => (f d).safEval) = .next (s.toSaf e.safEval) := State.runSaf_eq up (congrArg Dev.safEval h)

/-- A started command that the grid functions answer at once, after which the supervisor evaluates. -/
theorem State.runSaf_answers {s : State} {op : Nat} {p : Path} {tag : Byte} {l : List Byte} {f : Cmd → Dev → Res × Dev} {e : Dev} {st : St}
    {b : List Byte} (up : s.up) (h : s.dev.started p tag op l) (hf : ∀ c : Cmd, c.payload = l → f c s.dev = (.reply st b, e)) :
    s.runSaf (fun d => (d.runCmd op p tag f).safEval) = .next (s.toSaf (e.complete p tag.toNat st b).safEval) := by
  obtain ⟨c, hc, hl⟩ := h
  exact State.runSaf_eval up (Dev.runCmd_reply hc (hf c hl))

namespace Dev

/-! ### The supervisor evaluates while both functions are safe and no output is driven (R255, R258) -/

/-- No output of the supervisor is driven, and both of its functions are in their safe state. -/
def SafIdle (d : Dev) : Prop := d.saf.cmd = 0 ∧ ∀ f < 2, (vget d.saf.fn f).st = 0

theorem safIdle_of {d : Dev} (hcmd : d.saf.cmd = 0) (h0 : (vget d.saf.fn 0).st = 0) (h1 : (vget d.saf.fn 1).st = 0) : d.SafIdle := by
  refine ⟨hcmd, fun f hf => ?_⟩
  match f, hf with
  | 0, _ => exact h0
  | 1, _ => exact h1

/-- `e` has the registers, the events and the grid functions of `d`, and its supervisor is idle. -/
def IdleLike (d e : Dev) : Prop := e.SafIdle ∧ e.regs = d.regs ∧ e.evt = d.evt ∧ e.grd = d.grd

theorem SafIdle.updFn {d : Dev} {f : Nat} {g : SFn → SFn} (h : d.SafIdle) (hg : ∀ x, (g x).st = x.st) : (d.updFn f g).SafIdle := by
  obtain ⟨hcmd, hst⟩ := h
  refine ⟨hcmd, fun j hj => ?_⟩
  by_cases hfj : f = j
  · subst hfj
    exact (congrArg SFn.st (vget_vset_same _ _ _ hj)).trans ((hg _).trans (hst f hj))
  · exact (congrArg SFn.st (vget_vset_ne _ _ hfj)).trans (hst j hj)

namespace IdleLike

theorem updFn {d e : Dev} {f : Nat} {g : SFn → SFn} (h : IdleLike d e) (hg : ∀ x, (g x).st = x.st := by exact fun _ => rfl) :
    IdleLike d (e.updFn f g) := ⟨h.1.updFn hg, h.2⟩

theorem causeMore {d e : Dev} {f ch : Nat} {l : List Nat} (h : IdleLike d e) : IdleLike d (e.causeMore f ch l) := by
  unfold Dev.causeMore
  dsimp only
  split
  · exact h
  · split
    · exact h.updFn
    · exact h

/-- There is no output to withdraw, so a failing condition is at most recorded. -/
theorem fnEval {d e : Dev} {f ch : Nat} (h : IdleLike d e) (hf : f < 2) : IdleLike d (e.fnEval f ch) := by
  obtain ⟨hcmd, hst⟩ := h.1
  unfold Dev.fnEval
  split
  · exact h
  · dsimp only
    rw [hst f hf, hcmd, if_neg (by decide), if_neg (by simp)]
    exact h.causeMore.updFn

end IdleLike

/-- The evaluation shows the inputs' permits, and else touches the supervisor's own state alone. -/
theorem safEval_idle {d : Dev} (h : d.SafIdle) : IdleLike d.showPermit d.safEval := by
  have hshow : IdleLike d.showPermit d.showPermit := ⟨h, rfl, rfl, rfl⟩
  exact (((hshow.fnEval (by decide)).fnEval (by decide)).fnEval (by decide)).fnEval (by decide)

theorem fg_safEval {d : Dev} (h : d.SafIdle) {F : Fld} {n : Nat} (hF : F.key n ≠ SAF_IN_STAT_PERMIT.key 0 := by decide) :
    d.safEval.fg F n = d.fg F n := by
  obtain ⟨-, hregs, -⟩ := safEval_idle h
  exact (fg_of_regs hregs F n).trans (fg_fs_ne _ _ _ _ _ _ hF)

theorem safEval_evt {d : Dev} (h : d.SafIdle) : d.safEval.evt = d.evt := by
  obtain ⟨-, -, hevt, -⟩ := safEval_idle h
  exact hevt

theorem safEval_grd {d : Dev} (h : d.SafIdle) : d.safEval.grd = d.grd := by
  obtain ⟨-, -, -, hgrd⟩ := safEval_idle h
  exact hgrd

/-! ### A change of grid state (R178) -/

theorem grdState_saf (d : Dev) (st : Nat) : (d.grdState st).saf = d.saf := by
  unfold grdState
  split
  · rfl
  · rfl

theorem grdState_demOpen (d : Dev) (st : Nat) : (d.grdState st).grd.demOpen = d.grd.demOpen := by
  unfold grdState
  split
  · rfl
  · rfl

/-- What stands outside the register file is as the change of state leaves it. -/
theorem grdGo_keeps (d : Dev) (st : Nat) :
    (d.grdGo st).saf = (d.grdState st).saf ∧ (d.grdGo st).grd = (d.grdState st).grd ∧ (d.grdGo st).evt = (d.grdState st).evt := by
  unfold grdGo showPend
  dsimp only
  split
  · exact ⟨rfl, rfl, rfl⟩
  · exact ⟨rfl, rfl, rfl⟩

theorem grdGo_saf (d : Dev) (st : Nat) : (d.grdGo st).saf = d.saf := by
  obtain ⟨hsaf, -, -⟩ := d.grdGo_keeps st
  exact hsaf.trans (d.grdState_saf st)

theorem grdGo_demOpen (d : Dev) (st : Nat) : (d.grdGo st).grd.demOpen = d.grd.demOpen := by
  obtain ⟨-, hgrd, -⟩ := d.grdGo_keeps st
  rw [hgrd, grdState_demOpen]

/-- Only fields of `GRD_STAT` change. -/
theorem fg_grdGo {d : Dev} {st n : Nat} {F : Fld} (hF : F.key n / 32 ≠ 0x20060004 := by decide) : (d.grdGo st).fg F n = d.fg F n := by
  have hstate : (d.grdState st).fg F n = d.fg F n := by
    unfold grdState
    split
    · rfl
    · exact fg_fs_reg hF
  unfold grdGo showPend
  rw [fg_fs_reg hF]
  split
  · exact hstate
  · exact (fg_fs_reg hF).trans hstate

/-- Another state than the present one is shown. -/
theorem grdState_new {d : Dev} {st : Nat} (h : d.fg GRD_STAT_STATE ≠ st) (hst : st < 16) :
    (d.grdState st).fg GRD_STAT_STATE = st ∧ (d.grdState st).evt = (d.raise 48).evt := by
  have hregs : (d.grdState st).regs = (d.fs GRD_STAT_STATE st).regs := by rw [grdState, if_neg h]; rfl
  refine ⟨?_, ?_⟩
  · rw [fg_of_regs hregs, fg_fs]
    exact Nat.mod_eq_of_lt hst
  · rw [grdState, if_neg h]
    exact raise_fs_evt d 48 0

theorem grdGo_new {d : Dev} {st : Nat} (h : d.fg GRD_STAT_STATE ≠ st) (hst : st < 16) :
    (d.grdGo st).fg GRD_STAT_STATE = st ∧ (d.grdGo st).evt = (d.raise 48).evt := by
  obtain ⟨hshown, hevt⟩ := grdState_new h hst
  obtain ⟨-, -, hkept⟩ := d.grdGo_keeps st
  refine ⟨?_, hkept.trans hevt⟩
  unfold grdGo showPend
  rw [fg_fs_ne _ _ _ _ _ _ (by decide)]
  split
  · exact hshown
  · exact (fg_fs_ne _ _ _ _ _ _ (by decide)).trans hshown

/-- With the supervisor idle, its evaluation after a change of grid state leaves what the change has made. -/
theorem grdGo_safEval {d : Dev} {st : Nat} (hidle : d.SafIdle) (h : d.fg GRD_STAT_STATE ≠ st) (hst : st < 16) :
    (d.grdGo st).safEval.fg GRD_CTRL_EN = d.fg GRD_CTRL_EN ∧ (d.grdGo st).safEval.fg GRD_STAT_STATE = st ∧
    (d.grdGo st).safEval.grd.demOpen = d.grd.demOpen ∧ (d.grdGo st).safEval.evt = (d.raise 48).evt := by
  have hgo : (d.grdGo st).SafIdle := by rwa [SafIdle, grdGo_saf]
  obtain ⟨hshown, hevt⟩ := grdGo_new h hst
  exact ⟨(fg_safEval hgo).trans fg_grdGo, (fg_safEval hgo).trans hshown, (congrArg Grd.demOpen (safEval_grd hgo)).trans (grdGo_demOpen d st),
    (safEval_evt hgo).trans hevt⟩

/-! ### The functions start and stop (R178, R199) -/

/-- `e` has the state of `d` in all that a change of grid state and the supervisor's evaluation look at outside GRD's settings. -/
def GrdSet (d e : Dev) : Prop := e.saf = d.saf ∧ e.evt = d.evt ∧ e.clk = d.clk ∧
  ∀ F ∈ [CLK_TB_HI_DEGRADED, SYS_ROLE_PAR_MODE, GRD_STAT_STATE], e.fg F = d.fg F

namespace GrdSet

variable {d e f : Dev}

theorem fg_state (h : GrdSet d e) : e.fg GRD_STAT_STATE = d.fg GRD_STAT_STATE := by
  obtain ⟨-, -, -, hkept⟩ := h
  exact hkept _ (.tail _ (.tail _ (.head _)))

theorem follower_eq (h : GrdSet d e) : e.follower = d.follower := by
  obtain ⟨-, -, -, hkept⟩ := h
  rw [follower, follower, hkept _ (.tail _ (.head _))]

theorem safIdle (h : GrdSet d e) (hidle : d.SafIdle) : e.SafIdle := by rwa [SafIdle, h.1]

theorem raise_evt (h : GrdSet d e) (x y : Nat) : (e.raise x y).evt = (d.raise x y).evt := by
  obtain ⟨-, hevt, hclk, hkept⟩ := h
  simp only [raise, deg, fb, hevt, hclk, hkept _ (.head _)]

theorem trans (h : GrdSet d e) (h' : GrdSet e f) : GrdSet d f := by
  obtain ⟨hsaf, hevt, hclk, hkept⟩ := h
  obtain ⟨hsaf', hevt', hclk', hkept'⟩ := h'
  exact ⟨hsaf'.trans hsaf, hevt'.trans hevt, hclk'.trans hclk, fun F hF => (hkept' F hF).trans (hkept F hF)⟩

end GrdSet

/-- The fields that the functions' start clears. -/
def startClears : List Fld := [GRD_STG_STAT_PICKUP, GRD_STAT_MEAS_LOST, GRD_COOP_STAT_VALID, GRD_COOP_STAT_DIVERGE, GRD_ISL_STAT_SUSPECT,
  GRD_ISL_STAT_ACT_INVALID, GRD_PROBE_STAT_VALID]

/-- The functions at their start, before they enter a state: the history of the samples is empty. -/
def grdInit (d : Dev) : Dev := startClears.foldl (fun e F => e.fs F 0) (d.updGrd fun g => {
  k := g.k, ts := g.ts, deg := g.deg, rep := g.rep, openAt := g.openAt, occ := g.occ, coopSeq := g.coopSeq,
  trk := g.trk, pubAt := g.pubAt, leadState := g.leadState, v3At := d.clk.ticks, unmetAt := d.clk.ticks })

theorem grdStart_eq (d : Dev) : d.grdStart = if d.grd.rep = 0 then d.grdInit else
    d.grdInit.grdGo (if d.grd.rep = 2 then 4 else if d.grdInit.fb GRD_CTRL_LI_EN then 2 else 1) := rfl

theorem fg_foldl_clear {l : List Fld} {G : Fld} (h : ∀ F ∈ l, G.key 0 ≠ F.key 0) (d : Dev) :
    (l.foldl (fun e F => e.fs F 0) d).fg G = d.fg G := by
  induction l generalizing d with
  | nil => rfl
  | cons F t ih => exact (ih (fun F hF => h F (.tail _ hF)) _).trans (fg_fs_ne _ _ _ _ _ _ (h F (.head _)))

theorem fg_grdInit (d : Dev) {G : Fld} (h : ∀ F ∈ startClears, G.key 0 ≠ F.key 0 := by decide) : d.grdInit.fg G = d.fg G := fg_foldl_clear h _

theorem grdInit_set (d : Dev) : GrdSet d d.grdInit := by
  have hplace : ∀ G ∈ [CLK_TB_HI_DEGRADED, SYS_ROLE_PAR_MODE, GRD_STAT_STATE], ∀ F ∈ startClears, G.key 0 ≠ F.key 0 := by decide
  exact ⟨rfl, rfl, rfl, fun G hG => d.fg_grdInit (hplace G hG)⟩

/-- With the contactors reported open and no lighting island the functions start in state 1. -/
theorem grdStart_open {d : Dev} (hrep : d.grd.rep = 1) (hli : d.fb GRD_CTRL_LI_EN = false) : d.grdStart = d.grdInit.grdGo 1 := by
  have hli' : d.grdInit.fb GRD_CTRL_LI_EN = false := (fb_of_fg d.fg_grdInit).trans hli
  rw [grdStart_eq, hrep, hli']
  rfl

/-- The functions stop with no demand left. -/
theorem grdStop_eq (d : Dev) :
    ∃ e, d.grdStop = e.grdGo 0 ∧ GrdSet d e ∧ e.fg GRD_CTRL_EN = d.fg GRD_CTRL_EN ∧ e.grd.demOpen = false :=
  ⟨_, rfl, ⟨rfl, rfl, rfl, fun _ _ => rfl⟩, rfl, rfl⟩

/-! ### `GRD_CTRL` -/

/-- `GRD_CTRL` in the register map. -/
def grdCtrlReg : Reg := ⟨0x20060000, 0x0, 0, 1, [⟨GRD_CTRL_EN, .RW, .any⟩, ⟨GRD_CTRL_LI_EN, .RW, .any⟩, ⟨GRD_CTRL_RC_AUTO, .RW, .any⟩,
  ⟨GRD_CTRL_NOM_F, .RW, .any⟩, ⟨GRD_CTRL_DRC_EN, .RW, .any⟩, ⟨GRD_CTRL_ACT_INV_DISC, .RW, .any⟩]⟩

theorem findReg_grdCtrl : findReg (GRD_CTRL_EN.at 0) = some (grdCtrlReg, 0) := rfl

theorem grdCtrlReg_rw : ∀ s ∈ grdCtrlReg.flds, s.acc = .RW := by decide

/-- `e` is `d` once the word `w` is stored in `GRD_CTRL` and the active bound follows it (R192). -/
def GrdCtrlStored (d e : Dev) (w : Nat) : Prop :=
  GrdSet d e ∧ e.grd = d.grd ∧ e.fg GRD_CTRL_EN = GRD_CTRL_EN.of w ∧ e.fg GRD_CTRL_LI_EN = GRD_CTRL_LI_EN.of w

theorem grdCtrlStored (d : Dev) (w v : Nat) : GrdCtrlStored d ((d.storeWord grdCtrlReg 0 w).fs GRD_ISL_BOUND_BOUND v) w := by
  obtain ⟨x, hx⟩ := d.storeWord_regs grdCtrlReg_rw 0 w
  have hplace : ∀ G ∈ [CLK_TB_HI_DEGRADED, SYS_ROLE_PAR_MODE, GRD_STAT_STATE], G.key 0 ≠ GRD_ISL_BOUND_BOUND.key 0 ∧
      ∀ s ∈ grdCtrlReg.flds, G.key 0 ≠ s.fld.key 0 := by decide
  refine ⟨⟨by rw [hx]; rfl, by rw [hx]; rfl, by rw [hx]; rfl, fun G hG => ?kept⟩, by rw [hx]; rfl, ?en, ?li⟩
  case kept => exact (fg_fs_ne _ _ _ _ _ _ (hplace G hG).1).trans (storeWord_fg_ne grdCtrlReg_rw (hplace G hG).2 d w)
  case en =>
    exact (fg_fs_ne _ _ _ _ _ _ (by decide)).trans (storeWord_of grdCtrlReg_rw findReg_grdCtrl (by decide) (.head _) d w)
  case li =>
    exact (fg_fs_ne _ _ _ _ _ _ (by decide)).trans (storeWord_of grdCtrlReg_rw findReg_grdCtrl (by decide) (.tail _ (.head _)) d w)

/-- After the word is stored the active bound follows it; the functions start, or stop, or show whether a reconnection is pending, and the
supervisor evaluates. -/
theorem afterReg_grdCtrl {e f d : Dev} {w : Nat}
    (hf : e.fs GRD_ISL_BOUND_BOUND (bound e.probeLen (e.fg GRD_PROBE_CFG_CONFIRM) (e.fg GRD_PROBE_CFG_CHIP + 1) e.grdN) = f) :
    e.afterReg d 0x20060000 0 w =
      (if f.grdRuns && !d.grdRuns then f.grdStart else if d.grdRuns && !f.grdRuns then f.grdStop else f.showPend).safEval := by
  subst hf
  rfl

theorem regWrite_grdCtrl {d : Dev} {a : Acc} {w : Nat} (hok : d.accepts a (GRD_CTRL_EN.at 0) w) :
    ∃ e, GrdCtrlStored d e w ∧ (d.regWrite a (GRD_CTRL_EN.at 0) w).2 =
      (if e.grdRuns && !d.grdRuns then e.grdStart else if d.grdRuns && !e.grdRuns then e.grdStop else e.showPend).safEval :=
  ⟨_, d.grdCtrlStored w _,
    (regWrite_accepted findReg_grdCtrl (by decide) (by decide) (by decide) rfl rfl hok).trans (afterReg_grdCtrl rfl)⟩

/-- A write of `EN` from 0 to 1. -/
theorem regWrite_grdEnable {d : Dev} {a : Acc} {w : Nat} (hok : d.accepts a (GRD_CTRL_EN.at 0) w) (hen : GRD_CTRL_EN.of w = 1)
    (hoff : d.fb GRD_CTRL_EN = false) (hfol : d.follower = false) :
    ∃ e, GrdCtrlStored d e w ∧ (d.regWrite a (GRD_CTRL_EN.at 0) w).2 = e.grdStart.safEval := by
  obtain ⟨e, he, hw⟩ := regWrite_grdCtrl hok
  have ⟨hset, _, hon, _⟩ := he
  have hruns : e.grdRuns = true := by rw [grdRuns, fb, hon, hen, hset.follower_eq, hfol]; rfl
  have hidle : d.grdRuns = false := by rw [grdRuns, hoff]; rfl
  exact ⟨e, he, by rw [hw, hruns, hidle]; rfl⟩

/-- A write of `EN` from 1 to 0. -/
theorem regWrite_grdDisable {d : Dev} {a : Acc} {w : Nat} (hok : d.accepts a (GRD_CTRL_EN.at 0) w) (hen : GRD_CTRL_EN.of w = 0)
    (hruns : d.grdRuns = true) : ∃ e, GrdCtrlStored d e w ∧ (d.regWrite a (GRD_CTRL_EN.at 0) w).2 = e.grdStop.safEval := by
  obtain ⟨e, he, hw⟩ := regWrite_grdCtrl hok
  have ⟨_, _, hoff, _⟩ := he
  have hstop : e.grdRuns = false := by rw [grdRuns, fb, hoff, hen]; rfl
  exact ⟨e, he, by rw [hw, hruns, hstop]; rfl⟩

end Dev
end Sys2Proof.Machine
end

section
/-! SUPPORT. The statement about what the grid functions decide (08). -/
set_option Elab.async false

namespace Sys2Proof.Machine

/-! ### The functions start and stop (R178, R199) -/

theorem State.run_gridEnable {s : State} {a : Acc} {val : W32} (up : s.up) (hen : GRD_CTRL_EN.of val.toNat = 1)
    (hli : GRD_CTRL_LI_EN.of val.toNat = 0) (hoff : s.dev.fb GRD_CTRL_EN = false) (hfol : s.dev.follower = false)
    (hok : s.dev.accepts a (GRD_CTRL_EN.at 0) val.toNat) (hrep : s.dev.grd.rep = 1) (hst : s.dev.fg GRD_STAT_STATE = 0) (hsaf : s.dev.SafIdle) :
    ∃ e : Dev, exec (.gridEnable a val) s = .next (s.toSaf e) ∧ e.fg GRD_CTRL_EN = 1 ∧ e.fg GRD_STAT_STATE = 1 ∧ e.evt = (s.dev.raise 48).evt := by
  obtain ⟨e, ⟨hset, hgrd, hon, hisl⟩, hw⟩ := Dev.regWrite_grdEnable hok hen hoff hfol
  have hinit : Dev.GrdSet s.dev e.grdInit := hset.trans e.grdInit_set
  have hgo : e.grdStart = e.grdInit.grdGo 1 := Dev.grdStart_open (by rw [hgrd, hrep]) (by rw [Dev.fb, hisl, hli]; rfl)
  obtain ⟨hen', hst', -, hevt⟩ := Dev.grdGo_safEval (hinit.safIdle hsaf) (st := 1) (by rw [hinit.fg_state, hst]; decide) (by decide)
  refine ⟨_, State.runSaf_eq up ((if_pos (by simp [rises, hen, hoff])).trans hw), ?_⟩
  rw [hgo]
  exact ⟨hen'.trans (e.fg_grdInit.trans (hon.trans hen)), hst', hevt.trans (hinit.raise_evt 48 0)⟩

theorem State.run_gridDisable {s : State} {a : Acc} {val : W32} (up : s.up) (hen : GRD_CTRL_EN.of val.toNat = 0)
    (hruns : s.dev.grdRuns = true) (hok : s.dev.accepts a (GRD_CTRL_EN.at 0) val.toNat) (hst : s.dev.fg GRD_STAT_STATE = 1) (hsaf : s.dev.SafIdle) :
    ∃ e : Dev, exec (.gridDisable a val) s = .next (s.toSaf e) ∧ e.fg GRD_CTRL_EN = 0 ∧ e.fg GRD_STAT_STATE = 0 ∧
      e.grd.demOpen = false ∧ e.evt = (s.dev.raise 48).evt := by
  obtain ⟨e, ⟨hset, -, hoff, -⟩, hw⟩ := Dev.regWrite_grdDisable hok hen hruns
  obtain ⟨f, hgo, hstop, hkept, hnone⟩ := e.grdStop_eq
  have hwith : Dev.GrdSet s.dev f := hset.trans hstop
  obtain ⟨hen', hst', hdem, hevt⟩ := Dev.grdGo_safEval (hwith.safIdle hsaf) (st := 0) (by rw [hwith.fg_state, hst]; decide) (by decide)
  obtain ⟨hon, -⟩ := Bool.and_eq_true_iff.1 hruns
  refine ⟨_, State.runSaf_eq up ((if_pos (by simp [falls, hen, hon])).trans hw), ?_⟩
  rw [hgo]
  exact ⟨hen'.trans (hkept.trans (hoff.trans hen)), hst', hdem.trans hnone, hevt.trans (hwith.raise_evt 48 0)⟩

/-! ### A sample (R174) -/

theorem gridSampleDev_new {d : Dev} {k : Nat} (hruns : d.grdRuns = true) (hk : d.grdTs = 100000 * k) (hnew : d.grd.ts < d.grdTs) :
    gridSampleDev k d = d.grdSample := by
  have hnew' : decide (d.grdTs ≤ d.grd.ts) = false := decide_eq_false (Nat.not_le.2 hnew)
  rw [gridSampleDev, hruns, hnew', hk]
  simp

theorem gridSampleDev_none {d : Dev} {k : Nat} (h : d.grdRuns = false ∨ d.grdTs ≠ 100000 * k ∨ d.grdTs ≤ d.grd.ts) : gridSampleDev k d = d := by
  refine if_pos ?_
  rcases h with hruns | hk | hold
  · simp [hruns]
  · simp [hk]
  · simp [hold]

/-- The work on a sample, by its measurement, the checks on it, and what is decided and demanded. -/
theorem Dev.grdSample_eq {d d1 e f : Dev} {m : Dev.GridMeas} (hm : d.gridMeas = (m, d1))
    (he : ((d1.grdMeasure m).grdHealth m).grdWindows.grdBlock = e)
    (hf : (((e.stages false).grdRegion m).grdDecide m).grdDemand m.vpos = f) :
    d.grdSample = (f.publish (d.connected && !f.connected)).openDone := by
  rw [grdSample, hm]
  dsimp only
  rw [he, hf]

/-! ### Commands (R197) -/

/-- A reconnection is asked for before its delay has passed. -/
theorem grdReconnectCmd_wait {c : Cmd} {d e : Dev} (hc : c.payload = [0]) (hst : d.fg GRD_STAT_STATE = 1) (hlock : d.fb GRD_STAT_LOCKOUT = false)
    (he : (d.updGrd fun x => { x with rcAsked := true }).showPend = e) (hdue : e.reconnectDue = false) :
    grdReconnectCmd c d = (.reply .ok [1], e) := by
  have hask : byteAt [0] 0 = 0 := rfl
  simp only [grdReconnectCmd, hc, hask, hst, hlock, he, hdue]
  rfl

theorem byteAt_byte {x : Nat} (hx : x < 2) : byteAt [BitVec.ofNat 8 x] 0 = x := Nat.mod_eq_of_lt (by omega)

theorem grdDisconnectCmd_connected {c : Cmd} {d : Dev} {x : Nat} (hx : x < 2) (hc : c.payload = [BitVec.ofNat 8 x]) (hcon : d.connected = true) :
    grdDisconnectCmd c d = (.st .ok, (d.disconnect (x == 1) false).publishTrip) := by
  have hwf : ¬(c.payload.length ≠ 1 ∨ 1 < x) := by rw [hc, List.length_singleton]; omega
  rw [grdDisconnectCmd, hc, byteAt_byte hx, ← hc, if_neg hwf, hcon]
  rfl

theorem grdDisconnectCmd_open {c : Cmd} {d : Dev} (hc : c.payload = [0]) (hcon : d.connected = false) :
    grdDisconnectCmd c d = (.st .state, d) := by
  rw [grdDisconnectCmd, hc, hcon]
  rfl

/-- Settles O22: a write of `EN` is stored, the functions start or stop by a change of grid state, and the supervisor, which drives nothing,
leaves it so; a new sample is worked on in the model's order; each command is its payload's one answer. -/
theorem gridDecides : Obligations.GridDecides := by
  unfold Obligations.GridDecides
  refine fun s a p tag up => ⟨?enable, ?disable, ?sample, ?noSample, ?due, ?reconnect, ?disconnect, ?apart, ?clear, ?status⟩
  case enable =>
    intro val hen hli hoff hfol hok hrep hst hcmd h0 h1
    obtain ⟨e, he, hshown⟩ := State.run_gridEnable up hen hli hoff hfol hok hrep hst (Dev.safIdle_of hcmd h0 h1)
    exact ⟨_, he, hshown⟩
  case disable =>
    intro val hen hruns hok hst hcmd h0 h1
    obtain ⟨e, he, hshown⟩ := State.run_gridDisable up hen hruns hok hst (Dev.safIdle_of hcmd h0 h1)
    exact ⟨_, he, hshown⟩
  case sample =>
    exact fun k m d1 e f hruns hk hnew hm he hf => State.runSaf_eval up ((gridSampleDev_new hruns hk hnew).trans (Dev.grdSample_eq hm he hf))
  case noSample => exact fun k h => State.runSaf_eval up (gridSampleDev_none h)
  case due => exact fun h => State.runSaf_eval up (if_pos h)
  case reconnect =>
    exact fun e he h hst hlock hdue => State.runSaf_answers up h fun c hc => grdReconnectCmd_wait hc hst hlock he hdue
  case disconnect => exact fun x hx h hcon => State.runSaf_answers up h fun c hc => grdDisconnectCmd_connected hx hc hcon
  case apart => exact fun h hcon => State.runSaf_answers up h fun c hc => grdDisconnectCmd_open hc hcon
  case clear => exact fun h => State.run_answers up h fun c hc => by rw [grdClearCmd, hc]; rfl
  case status =>
    intro c hc hpay hver
    exact State.run_eq up (Dev.runCmd_reply hc (by rw [grdStatusCmd, if_neg (not_not.2 hpay), hver]; rfl))

end Sys2Proof.Machine
end

section
/-! SUPPORT. The statement about the timeouts of the grid functions (08). -/
set_option Elab.async false

namespace Sys2Proof.Machine

/-! ### Measurement and intervals (R173, R175) -/

/-- The last sample that a configured channel delivered lies too far back (R175). -/
theorem measTimeoutDev_silent {d : Dev} (q : Fin 7) (hruns : d.grdRuns = true) (hlost : d.fb GRD_STAT_MEAS_LOST = false)
    (hold : (vget d.sns.mtr (d.grdCh q)).mb.ts + 550000 ≤ d.clk.ticks) :
    measTimeoutDev d = if d.connected then d.measLost.publishTrip else d.measLost := by
  have hany : (List.range 7).any (fun q => decide ((vget d.sns.mtr (d.grdCh q)).mb.ts + 550000 ≤ d.clk.ticks)) = true :=
    List.any_eq_true.2 ⟨q, List.mem_range.2 q.isLt, decide_eq_true hold⟩
  exact if_pos (by rw [hruns, hany, hlost]; rfl)

/-- The device at the end of an interval of 3 s, before the stages of `V10` are evaluated: `l` are the means. -/
def Dev.v10Shown (d : Dev) (l : List Nat) : Dev :=
  (d.updGrd fun x => { x with v10 := l, v3sum := 0, v3n := 0, v3At := d.grd.v3At + 3000 * Dev.msTicks }).fs GRD_MEAS_UNB_V10
    (Dev.code16 l.sum (256 * l.length))

theorem v10UpdateDev_due {d f : Dev} {l : List Nat} (hruns : d.grdRuns = true) (hn : d.grd.v3n ≠ 0)
    (hdue : d.grd.v3At + 3000 * Dev.msTicks ≤ d.grd.ts + 100000) (hl : (d.grd.v3sum * 256 / d.grd.v3n :: d.grd.v10).take 200 = l)
    (hf : (d.v10Shown l).stages true = f) :
    v10UpdateDev d = if f.stageTrips && f.connected then (f.disconnect false true).publishTrip else f := by
  subst hl hf
  have hdue' : decide (d.grd.ts + 100000 < d.grd.v3At + 3000 * Dev.msTicks) = false := decide_eq_false (Nat.not_lt.2 hdue)
  exact if_neg (by rw [hruns, hdue', beq_false_of_ne hn]; decide)

/-! ### Cessation and the active layer (R188, R192) -/

theorem ceaseTimeoutDev_due {d : Dev} {t : Nat} (ht : d.grd.ceaseAt = some t) (hst : d.fg GRD_STAT_STATE = 7)
    (hdue : t + d.fg GRD_CEASE_CEASE_T * Dev.msTicks ≤ d.clk.ticks) :
    ceaseTimeoutDev d = (((d.fs GRD_STAT_CEASE_FAIL 1).raise 59).disconnect false true).publishTrip := by
  rw [ceaseTimeoutDev, ht]
  exact if_pos ⟨hst, hdue⟩

theorem ceaseTimeoutDev_early {d : Dev} {t : Nat} (ht : d.grd.ceaseAt = some t)
    (hearly : d.clk.ticks < t + d.fg GRD_CEASE_CEASE_T * Dev.msTicks) : ceaseTimeoutDev d = d := by
  rw [ceaseTimeoutDev, ht]
  exact if_neg fun h => Nat.not_le.2 hearly h.2

/-- Where an invalid estimate does not disconnect, it is shown and raised alone. -/
theorem actInvalidDev_shown {d : Dev} (hruns : d.grdRuns = true) (hvalid : d.fb GRD_ISL_STAT_ACT_INVALID = false)
    (hbound : 8 * d.fg GRD_ISL_BOUND_BOUND < d.grd.invN) (hdisc : d.fb GRD_CTRL_ACT_INV_DISC = false) :
    actInvalidDev d = (d.fs GRD_ISL_STAT_ACT_INVALID 1).raise 60 := by
  have hdisc' : ((d.fs GRD_ISL_STAT_ACT_INVALID 1).raise 60).fb GRD_CTRL_ACT_INV_DISC = false :=
    (Dev.fb_of_fg (Dev.fg_fs_ne _ _ _ _ _ _ (by decide))).trans hdisc
  rw [actInvalidDev, if_pos (by rw [hruns, hvalid, decide_eq_true hbound]; rfl)]
  exact if_neg (by rw [hdisc']; exact Bool.false_ne_true)

/-! ### The contactors (R180, R183) -/

theorem Dev.grdCount_retState (d : Dev) : d.grdCount.grd.retState = d.grd.retState := by
  unfold grdCount
  dsimp only
  split
  · rfl
  · rfl

/-- A close that has failed: the demand is withdrawn, the failure is shown, raised and counted, and GRD returns to the state it came from. -/
theorem Dev.closeFail_closing {d e : Dev} (hst : d.fg GRD_STAT_STATE = 3)
    (he : ((d.updGrd fun x => { x with demClose := false }).fs GRD_STAT_CONTACT_FAIL 1).raise 56 = e) :
    d.closeFail = (e.grdCount.updGrd fun x => { x with unmetAt := e.grdCount.clk.ticks }).grdGo d.grd.retState := by
  have hret : e.grdCount.grd.retState = d.grd.retState := e.grdCount_retState.trans (by rw [← he]; rfl)
  rw [closeFail, if_neg (not_not.2 hst)]
  subst he
  exact congrArg (Dev.grdGo _) hret

theorem rampEndDev_due {d : Dev} {t : Nat} (ht : d.grd.ramp = some t) (hdue : t + d.fg GRD_RC_T_ES_RAMP * 1000 * Dev.msTicks ≤ d.clk.ticks) :
    rampEndDev d = (d.updGrd fun x => { x with ramp := none }).raise 55 := by
  rw [rampEndDev, ht]
  exact if_pos hdue

/-- Settles O23: each timeout acts once its time has passed, and not before. -/
theorem gridTimeouts : Obligations.GridTimeouts := by
  unfold Obligations.GridTimeouts
  refine fun s up => ⟨?silent, ?interval, ?cease, ?early, ?suspect, ?invalid, ?openFail, ?closeFail, ?ramp⟩
  case silent => exact fun q hruns hlost hold => State.runSaf_eval up (measTimeoutDev_silent q hruns hlost hold)
  case interval =>
    exact fun l hruns hn hdue hl => ⟨s.dev.v10Shown l, _, rfl, State.runSaf_eval up (v10UpdateDev_due hruns hn hdue hl rfl),
      Dev.fg_fs .., rfl⟩
  case cease => exact fun t ht hst hdue => State.runSaf_eval up (ceaseTimeoutDev_due ht hst hdue)
  case early => exact fun t ht hearly => State.runSaf_eval up (ceaseTimeoutDev_early ht hearly)
  case suspect => exact fun hdue => State.run_eq up (if_pos hdue)
  case invalid => exact fun hruns hvalid hbound hdisc => State.runSaf_eval up (actInvalidDev_shown hruns hvalid hbound hdisc)
  case openFail => exact fun hst hrep hdue => State.run_eq up (if_pos ⟨hst, hrep, hdue⟩)
  case closeFail =>
    intro hst hdue
    refine ⟨_, State.runSaf_eval up ((if_pos hdue).trans (Dev.closeFail_closing hst rfl)), ?_, ?_, rfl⟩
    · exact Dev.fg_fs ..
    · exact Dev.raise_fs_evt _ 56 0
  case ramp => exact fun t ht hdue => State.run_eq up (rampEndDev_due ht hdue)

end Sys2Proof.Machine
end

section
/-! SUPPORT. The statement about publications and phasor records between devices (08). -/
set_option Elab.async false

namespace Sys2Proof.Machine

/-! ### Publications (R177) -/

theorem pubReceivedDev_follower {d e : Dev} {trip : Bool} {l : List W32} (hfol : d.follower = true)
    (he : (d.updGrd fun x => { x with pubAt := d.clk.ticks, pubLost := false, leadState := (l.getD 0 0).toNat / 256 % 16 }).pubWrite l = e) :
    pubReceivedDev trip l d = if trip then e.softTrip (Nat.lor (e.fg GRD_LEGS_LEGS) (e.fg GRD_DCLEGS_LEGS)) else e := by
  rw [pubReceivedDev, hfol, ← he]
  rfl

theorem pubLossDev_due {d : Dev} (hfol : d.follower = true) (hlost : d.grd.pubLost = false) (hdue : d.grd.pubAt + 300000 ≤ d.clk.ticks) :
    pubLossDev d = ((d.updGrd fun x => { x with pubLost := true }).softTrip (d.fg GRD_LEGS_LEGS)).raise 58 := by
  rw [pubLossDev, if_pos (by rw [hfol, hlost, decide_eq_true hdue]; rfl)]

/-! ### Records taken (R193) -/

/-- The instant of the record due now, in ns of PTP time: the last multiple of `PER`. -/
def Dev.recordAt (d : Dev) : Nat := d.ptpUnits / 2 ^ 28 / (d.fg GRD_COOP_CFG_PER * 10 ^ 6) * (d.fg GRD_COOP_CFG_PER * 10 ^ 6)

/-- The device's own record of that instant. -/
def Dev.ownRecord (d : Dev) : CoopRec where
  sec := d.recordAt / 10 ^ 9
  ns := d.recordAt % 10 ^ 9
  valid := d.fb CLK_PTP_CTRL_TIME_VALID
  deg := d.deg || d.grd.deg
  theta := d.theta (d.recordAt % 10 ^ 9)

theorem Dev.ownRecord_instant (d : Dev) :
    (d.ownRecord.sec * 10 ^ 9 + d.ownRecord.ns) % (d.fg GRD_COOP_CFG_PER * 10 ^ 6) = 0 := by
  have hat : d.ownRecord.sec * 10 ^ 9 + d.ownRecord.ns = d.recordAt := Nat.div_add_mod' _ _
  rw [hat]
  exact Nat.mul_mod_left _ _

/-- A record goes to enabled peers only. -/
theorem Dev.foldl_coopSend_none {d : Dev} {l : List Byte} {ns : List Nat} (h : ∀ n ∈ ns, d.fb GRD_PEER_n_CFG_EN n = false) :
    ns.foldl (fun d n => d.coopSend l n) d = d := by
  induction ns with
  | nil => rfl
  | cons n t ih =>
    have hnone : d.coopSend l n = d := if_pos (by rw [h n (.head _)]; rfl)
    rw [List.foldl_cons, hnone]
    exact ih fun m hm => h m (.tail _ hm)

/-- With no peer enabled the record is taken and kept. -/
theorem coopTimerDev_alone {d : Dev} (hruns : d.grdRuns = true) (hen : d.fb GRD_ISL_CFG_COOP_EN = true) (hat : d.coopInstant = true)
    (hpeer : ∀ n : Fin 8, d.fb GRD_PEER_n_CFG_EN n = false) :
    coopTimerDev d = d.updGrd fun x => { x with coopSeq := (x.coopSeq + 1) % 65536, localRec := (d.ownRecord :: x.localRec).take 32 } := by
  rw [coopTimerDev, if_neg (by rw [hruns, hen, hat]; decide)]
  exact Dev.foldl_coopSend_none fun n hn => hpeer ⟨n, List.mem_range.1 hn⟩

/-! ### Records received (R193, R194) -/

/-- A record that was taken more than two periods ago is late. -/
theorem not_late {now sec ns per : Nat} (h : now ≤ sec * 10 ^ 9 + ns + 2 * per * 10 ^ 6) :
    decide (((2 * per * 10 ^ 6 : Nat) : Int) < (now : Int) - ((sec * 10 ^ 9 + ns : Nat) : Int)) = false := by
  refine decide_eq_false ?_
  omega

/-- A record of an enabled peer, sound and in time, for which the device has a sound record of its own. -/
theorem coopReceive_valid {d : Dev} {l : List Byte} {n : Nat} {own : CoopRec}
    (hn : ((List.range 8).find? fun n => d.fb GRD_PEER_n_CFG_EN n && d.fg GRD_PEER_n_ID_ID n == leAt l 4 4) = some n)
    (hown : (d.grd.localRec.find? fun r => r.sec == leAt l 8 6 && r.ns == leAt l 14 4) = some own) (hruns : d.grdRuns = true)
    (hen : d.fb GRD_ISL_CFG_COOP_EN = true) (hlen : l.length = 32) (hver : 1 ≤ byteAt l 0) (hflags : byteAt l 1 = 3)
    (hvalid : own.valid = true) (hdeg : own.deg = false)
    (htime : d.ptpUnits / 2 ^ 28 ≤ leAt l 8 6 * 10 ^ 9 + leAt l 14 4 + 2 * d.fg GRD_COOP_CFG_PER * 10 ^ 6) :
    coopReceive l d = coopValid d n (leAt l 18 4) own := by
  rw [coopReceive, hn, hown]
  refine if_pos ?_
  rw [hruns, hen, hlen, decide_eq_true hver, hflags, not_late htime, hvalid, hdeg]
  rfl

/-! ### Peers that fall silent (R193) -/

theorem Dev.fbit_fsBit_ne {F G : Fld} {i j n m : Nat} (h : G.key m ≠ F.key n) (d : Dev) (b : Bool) :
    (d.fsBit F i b n).fbit G j m = d.fbit G j m := congrArg (Nat.testBit · j) (Dev.fg_fs_ne _ _ _ _ _ _ h)

theorem Dev.fbit_raise (d : Dev) (e x : Nat) (F : Fld) (i n : Nat) : (d.raise e x).fbit F i n = d.fbit F i n := rfl

/-- Peer `n` has been lost: its flags say so, and its run of divergent records starts again. -/
def Dev.peerLost (d : Dev) (n : Nat) : Dev :=
  ((((d.updGrd fun x => { x with peer := vset x.peer n { vget x.peer n with run := 0 } }).fsBit GRD_COOP_STAT_VALID n false).fsBit
    GRD_COOP_STAT_DIVERGE n false).fsBit GRD_COOP_STAT_LOST_SEEN n true).raise 61 n

theorem coopTimeoutDev_due {d : Dev} {n : Nat} (hvalid : d.fbit GRD_COOP_STAT_VALID n = true)
    (hdue : (vget d.grd.peer n).last + 3 * d.fg GRD_COOP_CFG_PER * Dev.msTicks < d.clk.ticks) : coopTimeoutDev n d = d.peerLost n :=
  if_pos (by rw [hvalid, decide_eq_true hdue]; rfl)

theorem Dev.peerLost_spec (d : Dev) (n : Fin 8) : (d.peerLost n).fbit GRD_COOP_STAT_VALID n = false ∧
    (d.peerLost n).fbit GRD_COOP_STAT_DIVERGE n = false ∧ (d.peerLost n).fbit GRD_COOP_STAT_LOST_SEEN n = true ∧
    (d.peerLost n).evt = (d.raise 61 n).evt ∧ (vget (d.peerLost n).grd.peer n).run = 0 := by
  refine ⟨?valid, ?diverge, ?lost, ?event, ?run⟩
  case valid => rw [peerLost, fbit_raise, fbit_fsBit_ne (by decide), fbit_fsBit_ne (by decide), fbit_fsBit_same n.isLt]
  case diverge => rw [peerLost, fbit_raise, fbit_fsBit_ne (by decide), fbit_fsBit_same n.isLt]
  case lost => rw [peerLost, fbit_raise, fbit_fsBit_same n.isLt]
  case event => exact (raise_fs_evt _ 61 n).trans ((raise_fs_evt _ 61 n).trans (raise_fs_evt _ 61 n))
  case run => exact congrArg Peer.run (vget_vset_same _ _ _ n.isLt)

/-- A peer of which no valid record has come for three periods is lost. -/
theorem State.run_peerLost {s : State} {n : Fin 8} (up : s.up) (hvalid : s.dev.fbit GRD_COOP_STAT_VALID n = true)
    (hdue : (vget s.dev.grd.peer n).last + 3 * s.dev.fg GRD_COOP_CFG_PER * Dev.msTicks < s.dev.clk.ticks) :
    ∃ e : Dev, exec (.coopPeerTimeout n) s = .next (s.to e) ∧ e.fbit GRD_COOP_STAT_VALID n = false ∧ e.fbit GRD_COOP_STAT_DIVERGE n = false ∧
      e.fbit GRD_COOP_STAT_LOST_SEEN n = true ∧ e.evt = (s.dev.raise 61 n).evt ∧ (vget e.grd.peer n).run = 0 := by
  refine ⟨s.dev.peerLost n, ?_, s.dev.peerLost_spec n⟩
  rw [← coopTimeoutDev_due hvalid hdue]
  exact State.run_up up _

/-- Settles O24: a follower takes over what its leader publishes and trips without it; a record is taken at its instant and kept, one that is
received is compared with the device's own of the same instant, and a silent peer is lost. -/
theorem gridPeers : Obligations.GridPeers := by
  unfold Obligations.GridPeers
  refine fun s up => ⟨?publication, ?loss, ?taken, ?received, ?silent⟩
  case publication =>
    exact fun href trip l e hfol he => (State.runIf_on up href _).trans (by rw [pubReceivedDev_follower hfol he])
  case loss => exact fun hfol hlost hdue => State.run_eq up (pubLossDev_due hfol hlost hdue)
  case taken =>
    intro hruns hen hat hpeer
    exact ⟨_, s.dev.ownRecord, State.run_eq up (coopTimerDev_alone hruns hen hat hpeer), rfl, rfl, rfl, rfl,
      Nat.mod_lt _ (by decide), rfl, s.dev.ownRecord_instant⟩
  case received =>
    exact fun l n own href hn hown hruns hen hlen hver hflags hvalid hdeg htime => (State.runIf_on up href _).trans
      (by rw [coopReceive_valid hn hown hruns hen hlen hver hflags hvalid hdeg htime])
  case silent =>
    intro n hvalid hdue
    obtain ⟨e, he, hshown⟩ := State.run_peerLost up hvalid hdue
    exact ⟨_, he, hshown⟩

end Sys2Proof.Machine
end

section
/-! SUPPORT. The statement about Weighmaster's arbitration (09). -/
set_option Elab.async false

namespace Sys2Proof.Machine
namespace Dev

/-! ### A sink draws from the sources (R205 step 1) -/

/-- A sink that wanted `want` has drawn from the offers of the sources `l`: `r` is what it still wants and what they still offer. -/
structure Drawn (l : List Nat) (want : Nat) (offer : Nat → Nat) (r : Nat × (Nat → Nat)) : Prop where
  left_le : r.1 ≤ want
  offer_le : ∀ i, r.2 i ≤ offer i
  others : ∀ i, i ∉ l → r.2 i = offer i
  balance : want + (l.map r.2).sum = r.1 + (l.map offer).sum

/-- Its own partner gives a sink nothing. -/
theorem Drawn.skip {k : Nat} {t : List Nat} {want : Nat} {offer : Nat → Nat} {r : Nat × (Nat → Nat)} (h : Drawn t want offer r) (hk : k ∉ t) :
    Drawn (k :: t) want offer r where
  left_le := h.left_le
  offer_le := h.offer_le
  others i hi := h.others i fun ht => hi (.tail _ ht)
  balance := by
    have hbal := h.balance
    rw [List.map_cons, List.sum_cons, List.map_cons, List.sum_cons, h.others k hk]
    omega

/-- A source gives a sink `x`, and the sources after it give their parts. -/
theorem Drawn.take {k x : Nat} {t : List Nat} {want : Nat} {offer : Nat → Nat} {r : Nat × (Nat → Nat)} (hx : x ≤ min want (offer k))
    (h : Drawn t (want - x) (fun i => if i = k then offer k - x else offer i) r) (hk : k ∉ t) : Drawn (k :: t) want offer r where
  left_le := h.left_le.trans (Nat.sub_le ..)
  offer_le i := by
    have hi := h.offer_le i
    split at hi
    · next heq => rw [heq] at hi ⊢; omega
    · exact hi
  others i hi := by
    rw [List.mem_cons, not_or] at hi
    rw [h.others i hi.2, if_neg hi.1]
  balance := by
    have hbal := h.balance
    have hrest : t.map (fun i => if i = k then offer k - x else offer i) = t.map offer :=
      List.map_congr_left fun i hi => if_neg (ne_of_mem_of_not_mem hi hk)
    rw [List.map_cons, List.sum_cons, List.map_cons, List.sum_cons, h.others k hk, if_pos rfl]
    rw [hrest] at hbal
    omega

theorem draw_drawn (pair : Option Nat) {l : List Nat} (hl : l.Nodup) (want : Nat) (offer : Nat → Nat) :
    Drawn l want offer (draw pair l want offer) := by
  induction l generalizing want offer with
  | nil => exact ⟨le_rfl, fun _ => le_rfl, fun _ _ => rfl, rfl⟩
  | cons k t ih =>
    obtain ⟨hk, ht⟩ := List.nodup_cons.1 hl
    rw [draw]
    split
    · exact (ih ht want offer).skip hk
    · exact (ih ht _ _).take le_rfl hk

/-! ### The sinks in turn (R205 step 1) -/

/-- The sinks of a list have been served from the sources `srcs`, with room for `room`: `r` is what the sources still offer and what each
requester has been granted. -/
structure Served (eff : Nat → Nat) (srcs sinks : List Nat) (room : Nat) (offer g : Nat → Nat) (r : (Nat → Nat) × (Nat → Nat)) : Prop where
  offer_le : ∀ i, r.1 i ≤ offer i
  granted_le : ∀ i ∈ sinks, r.2 i ≤ eff i
  others : ∀ i, i ∉ sinks → r.2 i = g i
  room_le : (sinks.map r.2).sum ≤ room
  balance : (sinks.map r.2).sum + (srcs.map r.1).sum = (srcs.map offer).sum

theorem serve_served (d : Dev) (eff : Nat → Nat) {srcs sinks : List Nat} (hsrcs : srcs.Nodup) (hsinks : sinks.Nodup) (room : Nat)
    (offer g : Nat → Nat) : Served eff srcs sinks room offer g (serve d eff srcs sinks room offer g) := by
  induction sinks generalizing room offer g with
  | nil => exact ⟨fun _ => le_rfl, nofun, fun _ _ => rfl, Nat.zero_le _, Nat.zero_add _⟩
  | cons k t ih =>
    obtain ⟨hk, ht⟩ := List.nodup_cons.1 hsinks
    rw [serve]
    obtain ⟨want, hwant⟩ : ∃ want, min (eff k) room = want := ⟨_, rfl⟩
    obtain ⟨x, hx⟩ : ∃ x, draw (d.pairOf k) srcs want offer = x := ⟨_, rfl⟩
    obtain ⟨hleft, hoffer, -, hdrawn⟩ := hx ▸ draw_drawn (d.pairOf k) hsrcs want offer
    obtain ⟨got, hgot⟩ : ∃ got, want - x.1 = got := ⟨_, rfl⟩
    simp only [hwant, hx, hgot]
    obtain ⟨hle, hgranted, hothers, hroom, hbal⟩ := ih ht (room - got) x.2 fun i => if i = k then got else g i
    obtain ⟨r, hr⟩ : ∃ r, serve d eff srcs t (room - got) x.2 (fun i => if i = k then got else g i) = r := ⟨_, rfl⟩
    rw [hr] at hle hgranted hothers hroom hbal ⊢
    have hown : r.2 k = got := (hothers k hk).trans (if_pos rfl)
    refine ⟨fun i => (hle i).trans (hoffer i), fun i hi => ?granted, fun i hi => ?others, ?room, ?balance⟩
    case granted =>
      rcases List.mem_cons.1 hi with rfl | hit
      · rw [hown]
        omega
      · exact hgranted i hit
    case others =>
      rw [List.mem_cons, not_or] at hi
      rw [hothers i hi.2, if_neg hi.1]
    all_goals
      rw [List.map_cons, List.sum_cons, hown]
      omega

/-! ### Requesters of one kind -/

/-- The enabled sinks, or the enabled sources. -/
def side (d : Dev) (sink : Bool) : Finset Nat := (d.reqs.filter fun r => d.isSink r == sink).toFinset

/-- They in descending priority. -/
def ranked (d : Dev) (sink : Bool) : List Nat := d.byPrio (d.reqs.filter fun r => d.isSink r == sink)

theorem reqs_nodup (d : Dev) : d.reqs.Nodup := List.nodup_range.filter _

theorem isSink_of_mem_side {d : Dev} {sink : Bool} {r : Nat} (h : r ∈ d.side sink) : d.isSink r = sink := by
  simpa using (List.mem_filter.1 (List.mem_toFinset.1 h)).2

theorem sum_side (d : Dev) (sink : Bool) (f : Nat → Nat) :
    ((d.reqs.filter fun r => d.isSink r == sink).map f).sum = ∑ r ∈ d.side sink, f r :=
  (List.sum_toFinset f (d.reqs_nodup.filter _)).symm

theorem byPrio_nodup (d : Dev) {l : List Nat} (hl : l.Nodup) : (d.byPrio l).Nodup := by
  refine List.nodup_flatMap.2 ⟨fun _ _ => hl.filter _, ?_⟩
  refine (List.nodup_reverse.2 List.nodup_range).imp fun hne r hr hr' => hne ?_
  have hp := (List.mem_filter.1 hr).2
  have hp' := (List.mem_filter.1 hr').2
  rw [beq_iff_eq] at hp hp'
  exact hp.symm.trans hp'

theorem ranked_nodup (d : Dev) (sink : Bool) : (d.ranked sink).Nodup := d.byPrio_nodup (d.reqs_nodup.filter _)

theorem mem_side_of_ranked {d : Dev} {sink : Bool} {r : Nat} (h : r ∈ d.ranked sink) : r ∈ d.side sink := by
  obtain ⟨p, -, hp⟩ := List.mem_flatMap.1 h
  exact List.mem_toFinset.2 (List.mem_of_mem_filter hp)

/-- A sum over the requesters of one kind goes by those that have a rank, where it is 0 at the others. -/
theorem sum_ranked {d : Dev} {sink : Bool} {f : Nat → Nat} (h : ∀ r ∈ d.side sink, r ∉ d.ranked sink → f r = 0) :
    ((d.ranked sink).map f).sum = ∑ r ∈ d.side sink, f r := by
  rw [← List.sum_toFinset f (d.ranked_nodup sink)]
  exact Finset.sum_subset (fun r hr => mem_side_of_ranked (List.mem_toFinset.1 hr)) fun r hr hnot =>
    h r hr fun hin => hnot (List.mem_toFinset.2 hin)

/-! ### Grants before netting (R205 steps 1 and 2) -/

/-- The offers left and the sinks' grants once every sink has been served. -/
def served (d : Dev) (eff : Nat → Nat) : (Nat → Nat) × (Nat → Nat) :=
  serve d eff (d.ranked false) (d.ranked true) (d.fg WGH_LINK_PMAX) eff fun _ => 0

/-- What a requester is granted before pairs are netted: a source what it no longer offers. -/
def gross (d : Dev) (eff : Nat → Nat) (i : Nat) : Nat :=
  if (d.ranked false).contains i then eff i - (d.served eff).1 i else (d.served eff).2 i

theorem served_spec (d : Dev) (eff : Nat → Nat) :
    Served eff (d.ranked false) (d.ranked true) (d.fg WGH_LINK_PMAX) eff (fun _ => 0) (d.served eff) :=
  serve_served d eff (d.ranked_nodup _) (d.ranked_nodup _) _ _ _

theorem gross_source {d : Dev} {i : Nat} (h : i ∈ d.ranked false) (eff : Nat → Nat) : d.gross eff i = eff i - (d.served eff).1 i :=
  if_pos (List.contains_iff_mem.2 h)

theorem gross_other {d : Dev} {i : Nat} (h : i ∉ d.ranked false) (eff : Nat → Nat) : d.gross eff i = (d.served eff).2 i :=
  if_neg fun hc => h (List.contains_iff_mem.1 hc)

theorem not_source_of_sink {d : Dev} {i : Nat} (h : d.isSink i = true) : i ∉ d.ranked false := fun hin =>
  Bool.noConfusion (h.symm.trans (isSink_of_mem_side (mem_side_of_ranked hin)))

/-- Without a rank no requester is granted anything. -/
theorem gross_unranked {d : Dev} {i : Nat} (h : i ∉ d.ranked (d.isSink i)) (eff : Nat → Nat) : d.gross eff i = 0 := by
  have hnot (k : Bool) : i ∉ d.ranked k := fun hin => h (isSink_of_mem_side (mem_side_of_ranked hin) ▸ hin)
  rw [gross_other (hnot false)]
  exact (d.served_spec eff).others i (hnot true)

theorem gross_le (d : Dev) (eff : Nat → Nat) (i : Nat) : d.gross eff i ≤ eff i := by
  by_cases hi : i ∈ d.ranked (d.isSink i)
  · cases hk : d.isSink i with
    | false =>
      rw [gross_source (hk ▸ hi)]
      exact Nat.sub_le ..
    | true =>
      rw [gross_other (not_source_of_sink hk)]
      exact (d.served_spec eff).granted_le i (hk ▸ hi)
  · rw [gross_unranked hi]
    exact Nat.zero_le _

/-- The sum of one kind's grants goes by those that have a rank. -/
theorem sum_gross (d : Dev) (eff : Nat → Nat) (sink : Bool) :
    ((d.ranked sink).map (d.gross eff)).sum = ∑ r ∈ d.side sink, d.gross eff r :=
  sum_ranked fun r hr hnot => gross_unranked (by rwa [isSink_of_mem_side hr]) eff

theorem gross_sinks (d : Dev) (eff : Nat → Nat) : (d.ranked true).map (d.gross eff) = (d.ranked true).map (d.served eff).2 :=
  List.map_congr_left fun _ hr => gross_other (not_source_of_sink (isSink_of_mem_side (mem_side_of_ranked hr))) eff

/-- The sources' grants and what they still offer make up what they offered. -/
theorem gross_sources (d : Dev) (eff : Nat → Nat) :
    ((d.ranked false).map (d.gross eff)).sum + ((d.ranked false).map (d.served eff).1).sum = ((d.ranked false).map eff).sum := by
  rw [← List.sum_map_add]
  refine congrArg List.sum (List.map_congr_left fun r hr => ?_)
  rw [gross_source hr]
  exact Nat.sub_add_cancel ((d.served_spec eff).offer_le r)

theorem gross_room (d : Dev) (eff : Nat → Nat) : ∑ r ∈ d.side true, d.gross eff r ≤ d.fg WGH_LINK_PMAX := by
  rw [← sum_gross, gross_sinks]
  exact (d.served_spec eff).room_le

theorem gross_balance (d : Dev) (eff : Nat → Nat) : ∑ r ∈ d.side true, d.gross eff r = ∑ r ∈ d.side false, d.gross eff r := by
  have hsinks := (d.served_spec eff).balance
  have hsources := d.gross_sources eff
  rw [← sum_gross, ← sum_gross, gross_sinks]
  omega

/-! ### Netting of pairs (R205 step 3) -/

/-- What netting takes from the grants `g` of `i` and `j` where they are a pair. -/
def netted (d : Dev) (g : Nat → Nat) (i j : Nat) : Nat := if d.pairOf i = some j then min (g i) (g j) else 0

/-- What netting takes from the grant of `i`. -/
def netOf (d : Dev) (g : Nat → Nat) (i : Nat) : Nat :=
  match d.pairOf i with
  | some p => min (g i) (g p)
  | none => 0

/-- A pair in effect is one of both its members, a sink and a source. -/
theorem pairOf_partner {d : Dev} {i j : Nat} (h : d.pairOf i = some j) : d.pairOf j = some i ∧ d.isSink j = !d.isSink i := by
  simp only [pairOf, Option.ite_none_right_eq_some, Option.some.injEq, Bool.and_eq_true, bne_iff_ne, beq_iff_eq] at h ⊢
  obtain ⟨⟨⟨⟨⟨⟨hpi, heni⟩, henj⟩, hkind⟩, hpj⟩, hback⟩, rfl⟩ := h
  rw [hback]
  exact ⟨⟨⟨⟨⟨⟨⟨hpj, henj⟩, heni⟩, hkind.symm⟩, hpi⟩, rfl⟩, rfl⟩, Bool.eq_not.2 hkind⟩

theorem netted_comm (d : Dev) (g : Nat → Nat) (i j : Nat) : d.netted g i j = d.netted g j i := by
  have hpair : d.pairOf i = some j ↔ d.pairOf j = some i := ⟨fun h => (pairOf_partner h).1, fun h => (pairOf_partner h).1⟩
  simp only [netted, hpair, Nat.min_comm]

theorem netOf_le (d : Dev) (g : Nat → Nat) (i : Nat) : d.netOf g i ≤ g i := by
  rw [netOf]
  split
  · exact Nat.min_le_left ..
  · exact Nat.zero_le _

/-- What netting takes from a grant is what it takes in the pairs with the other kind. -/
theorem netOf_eq_sum {d : Dev} {g : Nat → Nat} {i : Nat} (h : ∀ j, j ∉ d.side (d.isSink j) → g j = 0) :
    d.netOf g i = ∑ j ∈ d.side (!d.isSink i), d.netted g i j := by
  cases hp : d.pairOf i with
  | none => simp [netOf, netted, hp]
  | some p =>
    simp only [netOf, netted, hp, Option.some.injEq, Finset.sum_ite_eq]
    split
    · rfl
    · next hout => rw [h p (by rwa [(pairOf_partner hp).2]), Nat.min_zero]

/-- Netting takes as much from the sinks as from the sources. -/
theorem netOf_balance {d : Dev} {g : Nat → Nat} (h : ∀ j, j ∉ d.side (d.isSink j) → g j = 0) :
    ∑ i ∈ d.side true, d.netOf g i = ∑ j ∈ d.side false, d.netOf g j := by
  have hside (k : Bool) : ∑ i ∈ d.side k, d.netOf g i = ∑ i ∈ d.side k, ∑ j ∈ d.side (!k), d.netted g i j :=
    Finset.sum_congr rfl fun i hi => by rw [netOf_eq_sum h, isSink_of_mem_side hi]
  calc ∑ i ∈ d.side true, d.netOf g i = ∑ i ∈ d.side true, ∑ j ∈ d.side false, d.netted g i j := hside true
    _ = ∑ j ∈ d.side false, ∑ i ∈ d.side true, d.netted g i j := Finset.sum_comm
    _ = ∑ j ∈ d.side false, ∑ i ∈ d.side true, d.netted g j i := by simp only [d.netted_comm g]
    _ = ∑ j ∈ d.side false, d.netOf g j := (hside false).symm

/-! ### The grants -/

/-- The grant of requester `r`. -/
def grantOf (d : Dev) (eff : Nat → Nat) (r : Nat) : Nat := (d.grants eff).getD r 0

theorem grants_eq (d : Dev) (eff : Nat → Nat) : d.grants eff = (List.range 32).map fun i => d.gross eff i - d.netOf (d.gross eff) i := by
  have hsinks : d.ranked true = d.byPrio (d.reqs.filter d.isSink) := by simp [ranked]
  have hsources : d.ranked false = d.byPrio (d.reqs.filter fun r => !d.isSink r) := by simp [ranked]
  rw [grants, ← hsinks, ← hsources]
  refine List.map_congr_left fun i _ => ?_
  rw [netOf]
  cases d.pairOf i <;> rfl

theorem grantOf_eq {d : Dev} {r : Nat} (h : r < 32) (eff : Nat → Nat) : d.grantOf eff r = d.gross eff r - d.netOf (d.gross eff) r := by
  rw [grantOf, grants_eq, List.getD_eq_getElem _ _ (by simpa using h), List.getElem_map, List.getElem_range]

theorem grantOf_le (d : Dev) (eff : Nat → Nat) (r : Nat) : d.grantOf eff r ≤ eff r := by
  rcases Nat.lt_or_ge r 32 with hr | hr
  · rw [grantOf_eq hr]
    exact (Nat.sub_le ..).trans (d.gross_le eff r)
  · rw [grantOf, grants_eq, List.getD_eq_default _ _ (by simpa using hr)]
    exact Nat.zero_le _

theorem lt_of_mem_side {d : Dev} {sink : Bool} {r : Nat} (h : r ∈ d.side sink) : r < 32 :=
  List.mem_range.1 (List.mem_of_mem_filter (List.mem_of_mem_filter (List.mem_toFinset.1 h)))

/-- The grants of one kind, with what netting takes from them. -/
theorem sum_grantOf (d : Dev) (eff : Nat → Nat) (sink : Bool) :
    ∑ r ∈ d.side sink, d.grantOf eff r + ∑ r ∈ d.side sink, d.netOf (d.gross eff) r = ∑ r ∈ d.side sink, d.gross eff r := by
  rw [← Finset.sum_add_distrib]
  refine Finset.sum_congr rfl fun r hr => ?_
  rw [grantOf_eq (lt_of_mem_side hr), Nat.sub_add_cancel (d.netOf_le _ r)]

theorem grantOf_room (d : Dev) (eff : Nat → Nat) : ∑ r ∈ d.side true, d.grantOf eff r ≤ d.fg WGH_LINK_PMAX :=
  (Nat.le_of_add_right_le (d.sum_grantOf eff true).le).trans (d.gross_room eff)

theorem grantOf_balance (d : Dev) (eff : Nat → Nat) : ∑ r ∈ d.side true, d.grantOf eff r = ∑ r ∈ d.side false, d.grantOf eff r := by
  have hnet := netOf_balance (g := d.gross eff) fun j hj => gross_unranked (fun hin => hj (mem_side_of_ranked hin)) eff
  have hsinks := d.sum_grantOf eff true
  have hsources := d.sum_grantOf eff false
  have hgross := d.gross_balance eff
  omega

end Dev

/-- Settles O25: sinks are served within the room from what the sources offer, and netting takes as much from a sink as from the source it is
paired with. -/
theorem arbitrationBalances : Obligations.ArbitrationBalances := by
  unfold Obligations.ArbitrationBalances
  intro d eff
  have hsinks : ((d.reqs.filter d.isSink).map (d.grantOf eff)).sum = ∑ r ∈ d.side true, d.grantOf eff r := by
    simpa using d.sum_side true (d.grantOf eff)
  have hsources : ((d.reqs.filter fun r => !d.isSink r).map (d.grantOf eff)).sum = ∑ r ∈ d.side false, d.grantOf eff r := by
    simpa using d.sum_side false (d.grantOf eff)
  refine ⟨d.grantOf_le eff, ?room, ?balance⟩
  case room => exact hsinks.le.trans (d.grantOf_room eff)
  case balance => exact hsinks.trans ((d.grantOf_balance eff).trans hsources.symm)

end Sys2Proof.Machine
end

section
/-! SUPPORT. What Lamplighter's batches and bursts leave alone (13): grants that wait for their boundary, and the registers of the blocks that
show them. -/
set_option Elab.async false

namespace Sys2Proof.Machine
namespace Dev

/-- `e` has Weighmaster's arbitration and release as `d` has them, and every field below the registers of HST but the status of bursts. -/
def KeepsGrants (d e : Dev) : Prop :=
  e.wgh.arb = d.wgh.arb ∧ e.wgh.release = d.wgh.release ∧
    ∀ (F : Fld) (n : Nat), F.key n / 32 < 0x200A0000 → F.key n / 32 ≠ 0x20070024 → e.fg F n = d.fg F n

namespace KeepsGrants

variable {d e : Dev}

theorem refl : KeepsGrants d d := ⟨rfl, rfl, fun _ _ _ _ => rfl⟩

/-! ### How changes follow one another -/

theorem ite {c : Prop} [Decidable c] {a b : Dev} (ha : KeepsGrants d a) (hb : KeepsGrants d b) : KeepsGrants d (if c then a else b) := by
  split
  · exact ha
  · exact hb

theorem foldl {α : Type} {f : Dev → α → Dev} {l : List α} (h : KeepsGrants d e) (hf : ∀ e x, KeepsGrants d e → KeepsGrants d (f e x)) :
    KeepsGrants d (l.foldl f e) := List.foldlRecOn l f h fun e he x _ => hf e x he

/-! ### The register file, memory and Weighmaster -/

theorem fs {F : Fld} {v n : Nat} (h : KeepsGrants d e)
    (hF : 0x200A0000 ≤ F.base ∨ F.base = 0x20070024 ∧ F.stride = 0 ∧ F.lo < 32 := by decide) : KeepsGrants d (e.fs F v n) := by
  obtain ⟨harb, hrel, hregs⟩ := h
  refine ⟨harb, hrel, fun G m hlow hne => (fg_fs_reg ?_).trans (hregs G m hlow hne)⟩
  have hplace : 0x200A0000 ≤ F.key n / 32 ∨ F.key n / 32 = 0x20070024 := by
    rcases hF with hbase | ⟨hbase, hstride, hlo⟩
    · simp only [Fld.key]
      omega
    · simp only [Fld.key, hbase, hstride]
      omega
  omega

theorem wr8 {a : Nat} {v : Byte} (h : KeepsGrants d e) : KeepsGrants d (e.wr8 a v) := .ite h h

theorem wrRaw {a : Nat} {l : List Byte} (h : KeepsGrants d e) : KeepsGrants d (e.wrRaw a l) := by
  induction l generalizing a e with
  | nil => exact h
  | cons b t ih => exact ih h.wr8

theorem wrN {a : Nat} {l : List Byte} (h : KeepsGrants d e) : KeepsGrants d (e.wrN a l) := .ite h.wrRaw h.wrRaw

theorem updWgh {f : Wgh → Wgh} (h : KeepsGrants d e) (hf : ∀ w, (f w).arb = w.arb ∧ (f w).release = w.release) :
    KeepsGrants d (e.updWgh f) := by
  obtain ⟨harb, hrel, hregs⟩ := h
  exact ⟨(hf _).1.trans harb, (hf _).2.trans hrel, hregs⟩

theorem burstStart {r dp t : Nat} {cmd : Option (Path × Nat)} (h : KeepsGrants d e) : KeepsGrants d (e.burstStart r dp t cmd) :=
  .ite (.updWgh (.updWgh h.fs.fs fun _ => ⟨rfl, rfl⟩) fun _ => ⟨rfl, rfl⟩) (.updWgh h.fs.fs fun _ => ⟨rfl, rfl⟩)

/-! ### Commands and messages -/

theorem updLmp {f : Lmp → Lmp} (h : KeepsGrants d e) : KeepsGrants d (e.updLmp f) := h

theorem raise {ev x : Nat} (h : KeepsGrants d e) : KeepsGrants d (e.raise ev x) := h

theorem complete {p : Path} {tag : Nat} {st : St} {b : List Byte} (h : KeepsGrants d e) : KeepsGrants d (e.complete p tag st b) := by
  unfold Dev.complete Dev.dropCmd Dev.showOutst
  exact .ite (.fs h) h

theorem sessSend {n ty : Nat} {m : List Byte} (h : KeepsGrants d e) : KeepsGrants d (e.sessSend n ty m) := by
  unfold Dev.sessSend
  refine .ite h (.ite (.ite h (.raise (.fs h))) ?_)
  split
  · exact h
  · exact .ite h (.fs (.fs h))

theorem nqlTx {dst ty cls : Nat} {m : List Byte} (h : KeepsGrants d e) : KeepsGrants d (e.nqlTx dst ty cls m) := .ite h h

theorem lmpSend {k ty n : Nat} {m : List Byte} (h : KeepsGrants d e) : KeepsGrants d (e.lmpSend k ty n m) :=
  .ite h (.ite h.sessSend h.nqlTx)

/-! ### Entries (R320, R340) -/

theorem wrE {n : Nat} {l : List Byte} (h : KeepsGrants d e) : KeepsGrants d (e.wrE n l) := .updLmp h.wrN

theorem publishE {n : Nat} (h : KeepsGrants d e) : KeepsGrants d (e.publishE n) := by
  unfold Dev.publishE
  split
  · exact h
  · exact .ite (.foldl h fun _ _ h => .ite h.lmpSend h) h

theorem putStat {n : Nat} {l : List Byte} (h : KeepsGrants d e) : KeepsGrants d (e.putStat n l) :=
  .ite (.ite h h.wrE) (.ite h.wrE (.updLmp (.publishE h.wrE)))

/-! ### Those who wait for an endpoint (R329, R332) -/

theorem groupMember {g : Nat} {ok : Bool} (h : KeepsGrants d e) : KeepsGrants d (e.groupMember g ok) := by
  unfold Dev.groupMember
  split
  · exact h
  · refine .ite ?_ (.updLmp h)
    split
    · exact .complete (.raise (.updLmp h))
    · exact .raise (.updLmp h)

theorem tell {o : Owner} {level : Option Nat} {st : St} (h : KeepsGrants d e) : KeepsGrants d (e.tell o level st) := by
  unfold Dev.tell
  split
  · exact h
  · split <;> exact h.complete
  · exact h.groupMember

theorem purge {n : Nat} (h : KeepsGrants d e) : KeepsGrants d (e.purge n) := .foldl (.updLmp h) fun _ _ h => h.tell

/-! ### Batches and bursts (R336, R337) -/

theorem command {cls n level fade : Nat} {l : List Byte} (h : KeepsGrants d e) : KeepsGrants d (e.command cls n level fade l) :=
  .updLmp (.updLmp h.putStat)

theorem releaseOne {cls : Nat} {x : Nat × Nat × Nat} (h : KeepsGrants d e) : KeepsGrants d (e.releaseOne cls x) := by
  unfold Dev.releaseOne
  split
  · exact h.command
  · exact h.purge

theorem releaseUpTo {grant sum : Nat} {l : List (Nat × Nat × Nat)} (h : KeepsGrants d e) : KeepsGrants d (e.releaseUpTo grant sum l).2.2 := by
  induction l generalizing e sum with
  | nil => exact h
  | cons x t ih =>
    rw [Dev.releaseUpTo]
    split
    · exact ih h.releaseOne
    · exact h

theorem defer {n : Nat} (h : KeepsGrants d e) : KeepsGrants d (e.defer n) := by
  unfold Dev.defer
  split
  · exact h.putStat
  · exact h.purge

theorem batchOver {l : List (Nat × Nat × Nat)} (h : KeepsGrants d e) : KeepsGrants d (e.batchOver l) := .foldl (.updLmp h) fun _ _ h => h.defer

theorem pump {k : Nat} (h : KeepsGrants d e) : KeepsGrants d (Dev.pump k e) := by
  induction k generalizing e with
  | zero => exact h
  | succ k ih =>
    rw [Dev.pump]
    split
    · exact h
    · exact .ite (.ite (ih (.batchOver (.updLmp h.releaseUpTo))) (.updLmp h.releaseUpTo))
        (.ite (ih h.batchOver) (.ite (ih h.batchOver) (.ite h (.burstStart (.updLmp h)))))

theorem lampRow_runBursts (h : KeepsGrants d e) : KeepsGrants d (lampRow Dev.runBursts e) := .ite h.pump h

end KeepsGrants

end Dev
end Sys2Proof.Machine
end

section
/-! SUPPORT. The boundaries of Weighmaster's grants, a write of its control, and a zone's grace time (09). -/
set_option Elab.async false

namespace Sys2Proof.Machine
namespace Dev

/-! ### Changes one after another -/

/-- What each change of a list leaves alone, all of them leave alone. -/
theorem foldl_keeps {α β : Type} {f : Dev → α → Dev} {g : Dev → β} {l : List α} (h : ∀ d, ∀ x ∈ l, g (f d x) = g d) (d : Dev) :
    g (l.foldl f d) = g d := by
  induction l generalizing d with
  | nil => rfl
  | cons x t ih => exact (ih (fun d y hy => h d y (.tail _ hy)) _).trans (h d x (.head _))

/-- What one change of a list brings about and each of them keeps, holds after all of them. -/
theorem foldl_brings {α : Type} {f : Dev → α → Dev} {p : Dev → Prop} {x : α} (hx : ∀ d, p (f d x)) (hk : ∀ d y, p d → p (f d y)) {l : List α}
    (hl : x ∈ l) (d : Dev) : p (l.foldl f d) := by
  obtain ⟨a, b, rfl⟩ := List.append_of_mem hl
  rw [List.foldl_append, List.foldl_cons]
  exact List.foldlRecOn b f (hx _) fun e he y _ => hk e y he

/-! ### Groups released (R211) -/

/-- Group `g` is given the largest ceiling. -/
def freeCeil (d : Dev) (g : Nat) : Dev := d.fs CEN_GRP_g_CEIL_VAL 0x7FFFFF1F g

theorem fg_freeCeil (d : Dev) (g : Nat) : (d.freeCeil g).fg CEN_GRP_g_CEIL_VAL g = 0x7FFFFF1F := fg_fs ..

theorem fg_freeCeil_ne (d : Dev) {g j : Nat} (h : g ≠ j) : (d.freeCeil j).fg CEN_GRP_g_CEIL_VAL g = d.fg CEN_GRP_g_CEIL_VAL g :=
  fg_fs_ne _ _ _ _ _ _ (key_ne_of_index _ _ _ (by decide) h)

theorem foldl_freeCeil_wgh (l : List Nat) (d : Dev) : (l.foldl freeCeil d).wgh = d.wgh :=
  foldl_keeps (f := freeCeil) (g := Dev.wgh) (fun _ _ _ => rfl) d

theorem fg_foldl_freeCeil (d : Dev) (m : Nat) (g : Fin 16) : ((bitsOf 16 m).foldl freeCeil d).fg CEN_GRP_g_CEIL_VAL g =
    if m.testBit g then 0x7FFFFF1F else d.fg CEN_GRP_g_CEIL_VAL g := by
  split
  · next hbit =>
    refine foldl_brings (p := fun e => e.fg CEN_GRP_g_CEIL_VAL g = 0x7FFFFF1F) (fun e => e.fg_freeCeil g) (fun e j he => ?_)
      (List.mem_filter.2 ⟨List.mem_range.2 g.isLt, hbit⟩) d
    by_cases hj : g.val = j
    · rw [← hj]
      exact e.fg_freeCeil g
    · exact (e.fg_freeCeil_ne hj).trans he
  · next hbit =>
    refine foldl_keeps (g := fun e => e.fg CEN_GRP_g_CEIL_VAL g) (fun e j hj => e.fg_freeCeil_ne fun hgj => hbit ?_) d
    rw [hgj]
    exact (List.mem_filter.1 hj).2

/-- A boundary that releases groups while no arbitration waits for it. -/
theorem boundaryStep_release {d e : Dev} {m : Nat} (hm : d.wgh.release = some m) (harb : d.wgh.arb = false)
    (he : (bitsOf 16 m).foldl freeCeil (d.updWgh fun x => { x with release := none }) = e) :
    d.boundaryStep = e.updWgh fun x => { x with arb := false } := by
  have hnone : e.wgh.arb = false := by
    rw [← he, foldl_freeCeil_wgh]
    exact harb
  have hidle : ¬(e.wgh.arb && e.wghRuns) = true := by rw [hnone]; exact Bool.false_ne_true
  rw [boundaryStep, hm]
  subst he
  exact if_neg hidle

theorem boundaryStep_releases {d : Dev} {m : Nat} (hm : d.wgh.release = some m) (harb : d.wgh.arb = false) :
    d.boundaryStep.wgh.release = none ∧ ∀ g : Fin 16, d.boundaryStep.fg CEN_GRP_g_CEIL_VAL g =
      if m.testBit g then 0x7FFFFF1F else d.fg CEN_GRP_g_CEIL_VAL g := by
  obtain ⟨e, he⟩ : ∃ e, (bitsOf 16 m).foldl freeCeil (d.updWgh fun x => { x with release := none }) = e := ⟨_, rfl⟩
  have hnone : e.wgh.release = none := by rw [← he, foldl_freeCeil_wgh]; rfl
  have hceil (g : Fin 16) : e.fg CEN_GRP_g_CEIL_VAL g = if m.testBit g then 0x7FFFFF1F else d.fg CEN_GRP_g_CEIL_VAL g := by
    rw [← he, fg_foldl_freeCeil]
    rfl
  rw [boundaryStep_release hm harb he]
  exact ⟨hnone, hceil⟩

/-! ### An arbitration published (R206) -/

/-- The request and the grant of requester `r` are shown. -/
def showReq (d : Dev) (r : Nat) : Dev := (d.fs WGH_REQ_r_STAT_REQ (d.rq r).shown r).fs WGH_REQ_r_STAT_GRANT (d.rq r).grant r

/-- `x` is shown as requester `r`. -/
def ShowsReq (d : Dev) (r : Nat) (x : Req) : Prop :=
  d.fg WGH_REQ_r_STAT_REQ r = x.shown % 2 ^ WGH_REQ_r_STAT_REQ.len ∧ d.fg WGH_REQ_r_STAT_GRANT r = x.grant % 2 ^ WGH_REQ_r_STAT_GRANT.len

/-- Writes outside the requesters' status keep what it shows. -/
theorem ShowsReq.fs {d : Dev} {r : Nat} {x : Req} (h : d.ShowsReq r x) {F : Fld} {v n : Nat}
    (hF : WGH_REQ_r_STAT_REQ.key r / 32 ≠ F.key n / 32) : (d.fs F v n).ShowsReq r x := by
  have hgrant : WGH_REQ_r_STAT_GRANT.key r / 32 = WGH_REQ_r_STAT_REQ.key r / 32 := by
    simp only [Fld.key, WGH_REQ_r_STAT_REQ, WGH_REQ_r_STAT_GRANT]
    omega
  exact ⟨(fg_fs_reg hF).trans h.1, (fg_fs_reg (hgrant ▸ hF)).trans h.2⟩

theorem showReq_shows (d : Dev) (r : Nat) : (d.showReq r).ShowsReq r (d.rq r) :=
  ⟨Eq.trans fg_fs_stride (fg_fs ..), fg_fs ..⟩

theorem showReq_keeps {d : Dev} {r j : Nat} {x : Req} (h : d.ShowsReq r x) (hrj : r ≠ j) : (d.showReq j).ShowsReq r x := by
  refine (h.fs ?_).fs ?_ <;> simp only [Fld.key, WGH_REQ_r_STAT_REQ, WGH_REQ_r_STAT_GRANT] <;> omega

theorem foldl_showReq_wgh (l : List Nat) (d : Dev) : (l.foldl showReq d).wgh = d.wgh :=
  foldl_keeps (f := showReq) (g := Dev.wgh) (fun _ _ _ => rfl) d

theorem foldl_showReq_shows (d : Dev) (r : Fin 32) : ((List.range 32).foldl showReq d).ShowsReq r (d.rq r) := by
  have hrq : ((List.range 32).foldl showReq d).rq r = d.rq r := congrArg (fun w : Wgh => vget w.req r) (foldl_showReq_wgh _ d)
  rw [← hrq]
  refine foldl_brings (p := fun e => e.ShowsReq r (e.rq r)) (fun e => e.showReq_shows r) (fun e j he => ?_) (List.mem_range.2 r.isLt) d
  by_cases hj : r.val = j
  · rw [← hj]
    exact e.showReq_shows r
  · exact showReq_keeps he hj

/-- The number of an arbitration stands in no group's ceiling and in no requester's status. -/
theorem fg_putCeil_seq (d : Dev) (r c scale : Nat) : (d.putCeil r c scale).fg WGH_STAT_SEQ = d.fg WGH_STAT_SEQ := by
  rw [putCeil]
  split
  · exact fg_fs_reg (by simp only [Fld.key, WGH_STAT_SEQ, CEN_GRP_g_CEIL_VAL]; omega)
  · rfl

theorem fg_showReq_seq (d : Dev) (r : Nat) : (d.showReq r).fg WGH_STAT_SEQ = d.fg WGH_STAT_SEQ :=
  Eq.trans (fg_fs_reg (by simp only [Fld.key, WGH_STAT_SEQ, WGH_REQ_r_STAT_GRANT]; omega))
    (fg_fs_reg (by simp only [Fld.key, WGH_STAT_SEQ, WGH_REQ_r_STAT_REQ]; omega))

theorem putCeil_wgh (d : Dev) (r c scale : Nat) : (d.putCeil r c scale).wgh = d.wgh := by
  rw [putCeil]
  split <;> rfl

/-- The ceilings of the arbitration that waits are in force, and its requests and grants are shown. -/
def granted (d : Dev) : Dev := (List.range 32).foldl showReq (d.reqs.foldl (fun e r => e.putCeil r (e.rq r).ceil (e.rq r).scale) d)

theorem granted_wgh (d : Dev) : d.granted.wgh = d.wgh :=
  (foldl_showReq_wgh _ _).trans (foldl_keeps (g := Dev.wgh) (fun _ _ _ => putCeil_wgh ..) d)

theorem fg_granted_seq (d : Dev) : d.granted.fg WGH_STAT_SEQ = d.fg WGH_STAT_SEQ :=
  (foldl_keeps (g := fun e => e.fg WGH_STAT_SEQ) (fun e r _ => e.fg_showReq_seq r) _).trans
    (foldl_keeps (g := fun e => e.fg WGH_STAT_SEQ) (fun e r _ => e.fg_putCeil_seq r _ _) d)

theorem granted_shows (d : Dev) (r : Fin 32) : d.granted.ShowsReq r (d.rq r) := by
  have hput : (d.reqs.foldl (fun e r => e.putCeil r (e.rq r).ceil (e.rq r).scale) d).rq r = d.rq r :=
    foldl_keeps (g := fun e => e.rq r) (fun _ _ _ => congrArg (fun w : Wgh => vget w.req r) (putCeil_wgh ..)) d
  rw [← hput]
  exact foldl_showReq_shows _ r

/-- The summary of an arbitration: which requesters were stale or capped, whether a pair was not in effect, and the arbitration's number. -/
def published (d : Dev) : Dev :=
  (((d.fs WGH_STALE_STALE (maskOf 32 fun r => (d.rq r).late)).fs WGH_CAPPED_CAPPED (maskOf 32 fun r => (d.rq r).capped)).fs
    WGH_STAT_PAIR_BAD (b2n d.wgh.pairBad)).finc WGH_STAT_SEQ

theorem boundaryStep_arb {d : Dev} (hrel : d.wgh.release = none) (harb : d.wgh.arb = true) (hruns : d.wghRuns = true) :
    d.boundaryStep = d.granted.published.updWgh fun x => { x with arb := false } := by
  rw [boundaryStep, hrel]
  exact if_pos (by rw [harb, hruns]; rfl)

theorem published_seq (d : Dev) : d.published.fg WGH_STAT_SEQ = (d.fg WGH_STAT_SEQ + 1) % 2 ^ WGH_STAT_SEQ.len := by
  rw [published, finc, fg_fs, fg_fs_ne _ _ _ _ _ _ (by decide), fg_fs_ne _ _ _ _ _ _ (by decide), fg_fs_ne _ _ _ _ _ _ (by decide)]

theorem published_shows {d : Dev} {r : Nat} {x : Req} (h : d.ShowsReq r x) : d.published.ShowsReq r x := by
  refine (((h.fs ?_).fs ?_).fs ?_).fs ?_ <;>
    simp only [Fld.key, WGH_REQ_r_STAT_REQ, WGH_STALE_STALE, WGH_CAPPED_CAPPED, WGH_STAT_PAIR_BAD, WGH_STAT_SEQ] <;> omega

theorem boundaryStep_publishes {d : Dev} (hrel : d.wgh.release = none) (harb : d.wgh.arb = true) (hruns : d.wghRuns = true) :
    d.boundaryStep.wgh.arb = false ∧ d.boundaryStep.fg WGH_STAT_SEQ = (d.fg WGH_STAT_SEQ + 1) % 2 ^ WGH_STAT_SEQ.len ∧
      ∀ r : Fin 32, d.boundaryStep.ShowsReq r (d.rq r) := by
  obtain ⟨e, he⟩ : ∃ e, d.granted.published = e := ⟨_, rfl⟩
  have hseq : e.fg WGH_STAT_SEQ = (d.fg WGH_STAT_SEQ + 1) % 2 ^ WGH_STAT_SEQ.len := by rw [← he, published_seq, fg_granted_seq]
  have hshown (r : Fin 32) : e.ShowsReq r (d.rq r) := he ▸ published_shows (d.granted_shows r)
  rw [boundaryStep_arb hrel harb hruns, he]
  exact ⟨rfl, hseq, hshown⟩

/-- Lamplighter's batches and bursts leave what requesters show. -/
theorem KeepsGrants.showsReq {d e : Dev} {r : Nat} {x : Req} (h : KeepsGrants d e) (hr : r < 32) (hd : d.ShowsReq r x) : e.ShowsReq r x := by
  obtain ⟨-, -, hfld⟩ := h
  obtain ⟨hreq, hgrant⟩ := hd
  refine ⟨(hfld _ _ ?_ ?_).trans hreq, (hfld _ _ ?_ ?_).trans hgrant⟩ <;>
    simp only [Fld.key, WGH_REQ_r_STAT_REQ, WGH_REQ_r_STAT_GRANT] <;> omega

/-! ### `WGH_CTRL` (R211) -/

/-- `WGH_CTRL` in the register map. -/
def wghCtrlReg : Reg := ⟨0x20070000, 0x0, 0, 1, [⟨WGH_CTRL_EN, .RW, .any⟩, ⟨WGH_CTRL_SOC_EN, .RW, .any⟩, ⟨WGH_CTRL_STALE, .RW, .nz⟩,
  ⟨WGH_CTRL_SOC_ADDR, .RW, .any⟩]⟩

theorem findReg_wghCtrl : findReg (WGH_CTRL_EN.at 0) = some (wghCtrlReg, 0) := rfl

theorem wghCtrlReg_rw : ∀ s ∈ wghCtrlReg.flds, s.acc = .RW := by decide

/-- The requesters' setup is another register's. -/
theorem fg_storeWord_wghCtrl {F : Fld} (hF : 0x20070004 ≤ F.base) (d : Dev) (w r : Nat) : (d.storeWord wghCtrlReg 0 w).fg F r = d.fg F r := by
  refine storeWord_fg_ne wghCtrlReg_rw (fun s hs => ?_) d w
  have hlow : ∀ s ∈ wghCtrlReg.flds, s.fld.key 0 < 32 * 0x20070004 := by decide
  have hs' := hlow s hs
  rw [Fld.key]
  omega

theorem namedGroups_storeWord (d : Dev) (w : Nat) : (d.storeWord wghCtrlReg 0 w).namedGroups = d.namedGroups := by
  have hkept (F : Fld) (hF : 0x20070004 ≤ F.base) (r : Nat) := fg_storeWord_wghCtrl hF d w r
  simp only [namedGroups, reqs, fb, hkept WGH_REQ_r_CFG_EN (by decide), hkept WGH_REQ_r_CFG_GRP_EN (by decide), hkept WGH_REQ_r_CFG_GRP (by decide)]

/-- `EN` cleared while no burst runs: the arbitration that waits is dropped, and the groups are released at the next boundary. -/
theorem afterWGH_off {d d0 : Dev} {n w : Nat} (hoff : d.fb WGH_CTRL_EN = false) (hon : d0.fb WGH_CTRL_EN = true) (hburst : d.wgh.burst = none) :
    d.afterWGH d0 0x20070000 n w = d.updWgh fun x => { x with arb := false, release := some d.namedGroups } := by
  rw [afterWGH, if_pos ⟨rfl, hoff, hon⟩, hburst]

theorem regWrite_wghCtrl {d e : Dev} {a : Acc} {w : Nat} (hok : d.accepts a (WGH_CTRL_EN.at 0) w) (he : d.storeWord wghCtrlReg 0 w = e) :
    (d.regWrite a (WGH_CTRL_EN.at 0) w).2 = e.afterWGH d 0x20070000 0 (reached wghCtrlReg w) := by
  rw [regWrite_accepted findReg_wghCtrl (by decide) (by decide) (by decide) rfl rfl hok, he]
  rfl

theorem regWrite_wghDisable {d : Dev} {a : Acc} {w : Nat} (hw : WGH_CTRL_EN.of w = 0) (hon : d.fb WGH_CTRL_EN = true)
    (hburst : d.wgh.burst = none) (hok : d.accepts a (WGH_CTRL_EN.at 0) w) : ∃ e : Dev, (d.regWrite a (WGH_CTRL_EN.at 0) w).2 = e ∧
      e.fg WGH_CTRL_EN = 0 ∧ e.wgh = { d.wgh with arb := false, release := some d.namedGroups } := by
  obtain ⟨e, he⟩ : ∃ e, d.storeWord wghCtrlReg 0 w = e := ⟨_, rfl⟩
  obtain ⟨x, hx⟩ := d.storeWord_regs wghCtrlReg_rw 0 w
  have hen : e.fg WGH_CTRL_EN = 0 := he ▸ (storeWord_of wghCtrlReg_rw findReg_wghCtrl (by decide) (.head _) d w).trans hw
  have hwgh : e.wgh = d.wgh := by rw [← he, hx]
  have hgroups : e.namedGroups = d.namedGroups := he ▸ d.namedGroups_storeWord w
  refine ⟨_, (regWrite_wghCtrl hok he).trans (afterWGH_off (by rw [fb, hen]; rfl) hon (by rw [hwgh, hburst])), hen, ?_⟩
  rw [updWgh, hwgh, hgroups]

/-! ### A zone's grace time (R215) -/

theorem fg_showThm {F : Fld} {n : Nat} (d : Dev) (h : F.key n / 32 ≠ 0x20100004) : d.showThm.fg F n = d.fg F n := by
  rw [showThm, fg_fs_reg h, fg_fs_reg h, fg_fs_reg h, fg_fs_reg h]

/-- A zone enforces its derating from now on. -/
theorem enforce_spec (d : Dev) (z : Fin 8) : (d.enforce z).fg THM_ZONE_z_STAT_STATE z = 2 ∧
    (d.enforce z).fg THM_ZONE_z_STAT_FRAC z = d.derate z (d.fgS THM_ZONE_z_TEMP_TMAX z) % 2 ^ THM_ZONE_z_STAT_FRAC.len ∧
    (d.enforce z).evt = (d.raise 65 z).evt ∧ vget (d.enforce z).thm.grace z = none := by
  refine ⟨Eq.trans fg_fs_stride (fg_fs ..), fg_fs .., ?event, vget_vset_same _ _ _ z.isLt⟩
  case event =>
    exact (raise_fs_evt _ 65 z (degraded_key_ne_leg _ (by decide))).trans (raise_fs_evt _ 65 z (degraded_key_ne_leg _ (by decide)))

theorem enforce_showThm (d : Dev) (z : Fin 8) : (d.enforce z).showThm.fg THM_ZONE_z_STAT_STATE z = 2 ∧
    (d.enforce z).showThm.evt = (d.raise 65 z).evt ∧ vget (d.enforce z).showThm.thm.grace z = none ∧
    (d.enforce z).showThm.fg THM_ZONE_z_STAT_FRAC z = d.derate z (d.fgS THM_ZONE_z_TEMP_TMAX z) % 2 ^ THM_ZONE_z_STAT_FRAC.len := by
  obtain ⟨hstate, hfrac, hevt, hgrace⟩ := d.enforce_spec z
  refine ⟨(fg_showThm _ ?_).trans hstate, hevt, hgrace, (fg_showThm _ ?_).trans hfrac⟩ <;>
    simp only [Fld.key, THM_ZONE_z_STAT_STATE, THM_ZONE_z_STAT_FRAC] <;> omega

end Dev

theorem graceExpiryDev_due {d : Dev} {z t0 : Nat} (ht : vget d.thm.grace z = some t0) (hst : d.fg THM_ZONE_z_STAT_STATE z = 1)
    (hdue : t0 + d.zoneCfg THM_ZONE_z_CFG_GRACE z * 100 * Dev.msTicks ≤ d.clk.ticks) : graceExpiryDev z d = (d.enforce z).showThm := by
  rw [graceExpiryDev, ht]
  exact if_pos ⟨hst, hdue⟩

theorem State.run_graceExpiry {s : State} {z : Fin 8} {t0 : Nat} (up : s.up) (ht : vget s.dev.thm.grace z = some t0)
    (hst : s.dev.fg THM_ZONE_z_STAT_STATE z = 1) (hdue : t0 + s.dev.zoneCfg THM_ZONE_z_CFG_GRACE z * 100 * Dev.msTicks ≤ s.dev.clk.ticks) :
    ∃ e : Dev, exec (.graceExpiry z) s = .next (s.to e) ∧ e.fg THM_ZONE_z_STAT_STATE z = 2 ∧ e.evt = (s.dev.raise 65 z).evt ∧
      vget e.thm.grace z = none ∧
      e.fg THM_ZONE_z_STAT_FRAC z = s.dev.derate z (s.dev.fgS THM_ZONE_z_TEMP_TMAX z) % 2 ^ THM_ZONE_z_STAT_FRAC.len :=
  ⟨_, State.run_eq up (graceExpiryDev_due ht hst hdue), s.dev.enforce_showThm z⟩

end Sys2Proof.Machine
end

section
/-! SUPPORT. The statement about Weighmaster's cutoffs, boundaries, bursts and frames (09). -/
set_option Elab.async false

namespace Sys2Proof.Machine

/-! ### Cutoffs and boundaries (R203, R206, R211) -/

theorem requestCutoffDev_due {d : Dev} (hen : d.fb WGH_CTRL_EN = true) (harb : d.wgh.arb = false) (hlo : 60000 ≤ d.clk.ticks % 80000)
    (hhi : d.clk.ticks % 80000 < 60000 + d.advance) : requestCutoffDev d = if d.follower then d.supplyStep else d.cutoffStep :=
  if_neg (by simp [hen, harb, hlo, hhi])

theorem Dev.wghRuns_iff {d : Dev} : d.wghRuns = true ↔ d.fb WGH_CTRL_EN = true ∧ d.follower = false := by
  rw [wghRuns, Bool.and_eq_true, Bool.not_eq_true']

/-- What a boundary does stands also once Lamplighter's bursts have gone on. -/
theorem State.run_grantBoundary {s : State} (up : s.up) (hdue : s.dev.clk.ticks % 80000 < s.dev.advance) :
    ∃ e : Dev, exec .grantBoundary s = .next (s.to e) ∧ s.dev.boundaryStep.KeepsGrants e :=
  ⟨_, State.run_eq up (congrArg (lampRow Dev.runBursts) (if_pos hdue)), Dev.KeepsGrants.refl.lampRow_runBursts⟩

/-- A boundary publishes the arbitration that waits for it. -/
theorem State.run_grantBoundary_arb {s : State} (up : s.up) (hdue : s.dev.clk.ticks % 80000 < s.dev.advance) (hrel : s.dev.wgh.release = none)
    (harb : s.dev.wgh.arb = true) (hruns : s.dev.wghRuns = true) : ∃ e : Dev, exec .grantBoundary s = .next (s.to e) ∧ e.wgh.arb = false ∧
      e.fg WGH_STAT_SEQ = (s.dev.fg WGH_STAT_SEQ + 1) % 2 ^ WGH_STAT_SEQ.len ∧ ∀ r : Fin 32, e.ShowsReq r (s.dev.rq r) := by
  obtain ⟨e, he, hkept⟩ := State.run_grantBoundary up hdue
  obtain ⟨hdone, hseq, hshown⟩ := Dev.boundaryStep_publishes hrel harb hruns
  have ⟨harb', _, hfld⟩ := hkept
  exact ⟨e, he, harb'.trans hdone, (hfld _ _ (by decide) (by decide)).trans hseq, fun r => hkept.showsReq r.isLt (hshown r)⟩

/-- A boundary releases the groups owed the largest ceiling. -/
theorem State.run_grantBoundary_release {s : State} {m : Nat} (up : s.up) (hdue : s.dev.clk.ticks % 80000 < s.dev.advance)
    (hrel : s.dev.wgh.release = some m) (harb : s.dev.wgh.arb = false) : ∃ e : Dev, exec .grantBoundary s = .next (s.to e) ∧
      e.wgh.release = none ∧ ∀ g : Fin 16, e.fg CEN_GRP_g_CEIL_VAL g = if m.testBit g then 0x7FFFFF1F else s.dev.fg CEN_GRP_g_CEIL_VAL g := by
  obtain ⟨e, he, -, hrel', hfld⟩ := State.run_grantBoundary up hdue
  obtain ⟨hnone, hceil⟩ := Dev.boundaryStep_releases hrel harb
  refine ⟨e, he, hrel'.trans hnone, fun g => (hfld _ _ ?_ ?_).trans (hceil g)⟩ <;> simp only [Fld.key, CEN_GRP_g_CEIL_VAL] <;> omega

/-! ### Frames of a parallel group (R210) -/

theorem forwardDev_one {d : Dev} {l : List (Nat × Nat)} (hen : d.fb WGH_CTRL_EN = true) (hfol : d.follower = true)
    (hl : ((d.reqs.filter fun r => !d.staleNow r).map fun r => (r, min (d.rq r).req (d.capOf r))) = l) (hlen : l.length ≤ 30) :
    forwardDev d = d.nqlTx 0xFF 0x20 0 (leBytes 1 (d.fg SYS_ROLE_PAR_POS) ++ leBytes 1 l.length ++
      l.flatMap fun x => leBytes 1 x.1 ++ leBytes 2 x.2) := by
  rw [forwardDev, if_neg (by rw [hen, hfol]; decide)]
  simp only [hl, if_neg (Nat.not_lt.2 hlen)]
  rfl

theorem wghReqDev_one {d : Dev} {r : Fin 32} {q : Nat} {pos : Fin 4} (hruns : d.wghRuns = true) (hlead : d.leader = true)
    (hen : d.fb WGH_REQ_r_CFG_EN r = true) (hnode : d.fg WGH_REQ_r_CFG_NODE r = pos) (hpos : pos ≠ 0) :
    wghReqDev pos [(r.val, q)] d = d.updReq r fun x => { x with req := q % 65536, reqAt := some d.clk.ticks, stale := false } := by
  have hpos' : pos.val ≠ 0 := fun h => hpos (Fin.ext h)
  rw [wghReqDev, if_neg (by rw [hruns, hlead]; decide)]
  exact if_pos (by simp [hen, hnode, hpos', r.isLt])

theorem wghCeilDev_follower {d : Dev} (hen : d.fb WGH_CTRL_EN = true) (hfol : d.follower = true) (parts part : Nat) (l : List (Nat × Nat)) :
    wghCeilDev parts part l d = d.updWgh fun x => { x with rx := x.rx ++ l.take 30, rxParts := part :: x.rxParts, rxOf := parts } :=
  if_neg (by rw [hen, hfol]; decide)

/-- Every part of the leader's ceilings has come. -/
theorem followerCeilDev_whole {d : Dev} (hen : d.fb WGH_CTRL_EN = true) (hfol : d.follower = true) (hsome : d.wgh.rxParts ≠ [])
    (hall : ∀ k < d.wgh.rxOf, k ∈ d.wgh.rxParts) : followerCeilDev d = (d.wgh.rx.foldl (fun d x =>
      if d.fb WGH_REQ_r_CFG_EN x.1 && decide (x.1 < 32) then d.putCeil x.1 x.2 (d.fg WGH_REQ_r_SCALE_SCALE x.1) else d) d).updWgh fun x =>
        { x with rx := [], rxParts := [], rxMiss := 0 } := by
  have hwhole : (!d.wgh.rxParts.isEmpty && (List.range d.wgh.rxOf).all d.wgh.rxParts.contains) = true := by simpa [hsome] using hall
  rw [followerCeilDev, if_neg (by rw [hen, hfol]; decide)]
  dsimp only
  rw [hwhole]
  rfl

/-- The third boundary in a row without a complete set, when nothing has come. -/
theorem followerCeilDev_third {d e : Dev} (hen : d.fb WGH_CTRL_EN = true) (hfol : d.follower = true) (hparts : d.wgh.rxParts = [])
    (hrx : d.wgh.rx = []) (hmiss : d.wgh.rxMiss = 2) (he : (d.updWgh fun x => { x with rx := [], rxParts := [], rxMiss := 3 }) = e) :
    followerCeilDev d = ((e.reqs.foldl (fun d r => d.putCeil r 0 (d.fg WGH_REQ_r_SCALE_SCALE r)) e).fs WGH_STAT_PAR_LOST 1).raise 71 := by
  rw [followerCeilDev, if_neg (by rw [hen, hfol]; decide), ← he]
  dsimp only
  rw [hparts, hrx, hmiss]
  rfl

theorem State.run_followerLost {s : State} (up : s.up) (hen : s.dev.fb WGH_CTRL_EN = true) (hfol : s.dev.follower = true)
    (hparts : s.dev.wgh.rxParts = []) (hrx : s.dev.wgh.rx = []) (hmiss : s.dev.wgh.rxMiss = 2) : ∃ e : Dev, exec .followerCeilingWrite s =
      .next (s.to (((e.reqs.foldl (fun d r => d.putCeil r 0 (d.fg WGH_REQ_r_SCALE_SCALE r)) e).fs WGH_STAT_PAR_LOST 1).raise 71)) ∧
        e.wgh = { s.dev.wgh with rxMiss := 3 } ∧ e.regs = s.dev.regs := by
  refine ⟨_, State.run_eq up (followerCeilDev_third hen hfol hparts hrx hmiss rfl), ?_, rfl⟩
  rw [Dev.updWgh, ← hparts, ← hrx]

/-! ### Bursts (R208, R218) -/

theorem wghBurstCmd_starts {c : Cmd} {d : Dev} {r : Fin 32} (hlen : c.payload.length = 6) (hr : byteAt c.payload 0 = r)
    (hop : byteAt c.payload 1 = 0) (hdp : leAt c.payload 2 2 ≠ 0) (ht : leAt c.payload 4 2 ≠ 0) (hen : d.fb WGH_REQ_r_CFG_EN r = true)
    (hsink : d.isSink r = true) (hess : d.fb WGH_REQ_r_CFG_ESS r = true) (hruns : d.wghRuns = true) (hburst : d.wgh.burst = none) :
    wghBurstCmd c d = (.owed, d.burstStart r (leAt c.payload 2 2) (leAt c.payload 4 2) (some (c.path, c.tag))) := by
  have hwf : ¬(c.payload.length ≠ 6 ∨ 1 < 0) := by omega
  have hrange : ¬(31 < r.val ∨ leAt c.payload 2 2 = 0 ∨ leAt c.payload 4 2 = 0 ∨ d.fb WGH_REQ_r_CFG_EN r = false ∨ d.isSink r = false ∨
      d.fb WGH_REQ_r_CFG_ESS r = false) := by
    have hlt := r.isLt
    simp only [hdp, ht, hen, hsink, hess, Bool.true_eq_false, or_false]
    omega
  simp only [wghBurstCmd, hr, hop, if_neg hwf, if_neg hrange, hruns, hburst]
  rfl

/-- Settles O26: each row is the one step of the model that its condition selects; of a step that goes through the requesters, or through
groups, what each change brings about the others keep. -/
theorem weighmasterGrants : Obligations.WeighmasterGrants := by
  unfold Obligations.WeighmasterGrants
  refine fun s a p tag up => ⟨?cutoff, ?energy, ?boundary, ?release, ?lapse, ?disable, ?forward, ?request, ?ceilings, ?whole, ?lost, ?burst, ?grace⟩
  case cutoff =>
    intro hruns harb hlo hhi
    obtain ⟨hen, hfol⟩ := Dev.wghRuns_iff.1 hruns
    exact State.run_eq up ((requestCutoffDev_due hen harb hlo hhi).trans (by rw [hfol]; rfl))
  case energy => exact fun hen hfol harb hlo hhi => State.run_eq up ((requestCutoffDev_due hen harb hlo hhi).trans (if_pos hfol))
  case boundary =>
    intro hdue hrel harb hruns
    obtain ⟨e, he, hshown⟩ := State.run_grantBoundary_arb up hdue hrel harb hruns
    exact ⟨_, he, hshown⟩
  case release =>
    intro m hdue hrel harb
    obtain ⟨e, he, hshown⟩ := State.run_grantBoundary_release up hdue hrel harb
    exact ⟨_, he, hshown⟩
  case lapse => exact State.run_up up _
  case disable =>
    intro val hval hon hok hburst
    obtain ⟨e, he, hshown⟩ := Dev.regWrite_wghDisable hval hon hburst hok
    exact ⟨_, State.run_wrIf up (by simp [falls, hval, hon]) he, hshown⟩
  case forward => exact fun l hen hfol hl hlen => State.run_eq up (forwardDev_one hen hfol hl hlen)
  case request =>
    exact fun r q pos href hruns hlead hen hnode hpos => (State.runIf_on up href _).trans
      (by rw [wghReqDev_one hruns hlead hen hnode hpos])
  case ceilings =>
    exact fun parts part l href hen hfol => (State.runIf_on up href _).trans (by rw [wghCeilDev_follower hen hfol])
  case whole => exact fun hen hfol hsome hall => State.run_eq up (followerCeilDev_whole hen hfol hsome hall)
  case lost => exact fun hen hfol hparts hrx hmiss => State.run_followerLost up hen hfol hparts hrx hmiss
  case burst =>
    rintro r b ⟨c, hc, rfl⟩ hlen hr hop hdp ht hen hsink hess hruns hburst
    rw [← Dev.startedCmd_key hc]
    exact State.run_eq up (Dev.runCmd_owed hc (wghBurstCmd_starts hlen hr hop hdp ht hen hsink hess hruns hburst))
  case grace =>
    intro z t0 ht hst hdue
    obtain ⟨e, he, hshown⟩ := State.run_graceExpiry up ht hst hdue
    exact ⟨_, he, hshown⟩

end Sys2Proof.Machine
end

section
/-! SUPPORT. What writes to the ledger, flags of the interval and log records of Tallyman leave of the device (10). -/
set_option Elab.async false

namespace Sys2Proof.Machine
namespace Dev

/-! ### What the steps of Tallyman leave alone -/

theorem wrMN_eq (l : List Byte) (a : Nat) (d : Dev) : ∃ x, d.wrMN a l = { d with outM := x } := by
  induction l generalizing a d with
  | nil => exact ⟨d.outM, rfl⟩
  | cons b t ih =>
    obtain ⟨x, hx⟩ : ∃ x, d.wrM8 a b = { d with outM := x } := by
      unfold wrM8
      split
      · exact ⟨_, rfl⟩
      · exact ⟨d.outM, rfl⟩
    obtain ⟨y, hy⟩ := ih (a + 1) (d.wrM8 a b)
    exact ⟨y, by rw [wrMN, hy, hx]⟩

theorem freshBytes_eq (n : Nat) (d : Dev) : ∃ x, (d.freshBytes n).2 = { d with free := x } := by
  induction n generalizing d with
  | zero => exact ⟨d.free, rfl⟩
  | succ n ih =>
    obtain ⟨x, hx⟩ := ih d.fresh.2
    exact ⟨x, hx⟩

theorem freshBytes_length (n : Nat) (d : Dev) : (d.freshBytes n).1.length = n := by
  induction n generalizing d with
  | zero => rfl
  | succ n ih => exact congrArg (· + 1) (ih d.fresh.2)

theorem talFlag_eq (d : Dev) (i : Nat) : ∃ x, d.talFlag i = { d with regs := x } := by
  unfold talFlag
  split
  · exact ⟨_, rfl⟩
  · exact ⟨d.regs, rfl⟩

@[simp] theorem talFlag_tal (d : Dev) (i : Nat) : (d.talFlag i).tal = d.tal := by
  obtain ⟨x, hx⟩ := d.talFlag_eq i
  rw [hx]

@[simp] theorem talFlag_hst (d : Dev) (i : Nat) : (d.talFlag i).hst = d.hst := by
  obtain ⟨x, hx⟩ := d.talFlag_eq i
  rw [hx]

@[simp] theorem talFlag_evt (d : Dev) (i : Nat) : (d.talFlag i).evt = d.evt := by
  obtain ⟨x, hx⟩ := d.talFlag_eq i
  rw [hx]

theorem fg_talFlag_ne (d : Dev) {F : Fld} {n : Nat} (i : Nat) (h : F.key n ≠ TAL_INT_CUR_FLAGS.key 0) :
    (d.talFlag i).fg F n = d.fg F n := by
  unfold talFlag
  split
  · exact fg_fs_ne _ _ _ _ _ _ h
  · rfl

section
variable (d : Dev) (ty fl a b c dur extra : Nat)

/-- A log record is bytes of the ledger and the next sequence number. -/
theorem talLog_eq : ∃ x, d.talLog ty fl a b c dur extra =
    ({ d with outM := x } : Dev).fs TAL_LED_LOGSEQ_SEQ ((d.fg TAL_LED_LOGSEQ_SEQ + 1) % 2 ^ 32) := by
  obtain ⟨x, hx⟩ := wrMN_eq _ _ d
  exact ⟨x, congrArg (fs · TAL_LED_LOGSEQ_SEQ _) hx⟩

@[simp] theorem talLog_tal : (d.talLog ty fl a b c dur extra).tal = d.tal := by
  obtain ⟨x, hx⟩ := d.talLog_eq ty fl a b c dur extra
  rw [hx, fs_tal]

@[simp] theorem talLog_hst : (d.talLog ty fl a b c dur extra).hst = d.hst := by
  obtain ⟨x, hx⟩ := d.talLog_eq ty fl a b c dur extra
  rw [hx, fs_hst]

@[simp] theorem talLog_evt : (d.talLog ty fl a b c dur extra).evt = d.evt := by
  obtain ⟨x, hx⟩ := d.talLog_eq ty fl a b c dur extra
  rw [hx, fs_evt]

@[simp] theorem talLog_clk : (d.talLog ty fl a b c dur extra).clk = d.clk := by
  obtain ⟨x, hx⟩ := d.talLog_eq ty fl a b c dur extra
  rw [hx, fs_clk]

theorem fg_talLog_seq : (d.talLog ty fl a b c dur extra).fg TAL_LED_LOGSEQ_SEQ = (d.fg TAL_LED_LOGSEQ_SEQ + 1) % 2 ^ 32 := by
  obtain ⟨x, hx⟩ := d.talLog_eq ty fl a b c dur extra
  rw [hx, fg_fs]
  exact Nat.mod_mod _ _

theorem fg_talLog_ne {F : Fld} {n : Nat} (h : F.key n ≠ TAL_LED_LOGSEQ_SEQ.key 0) :
    (d.talLog ty fl a b c dur extra).fg F n = d.fg F n := by
  obtain ⟨x, hx⟩ := d.talLog_eq ty fl a b c dur extra
  rw [hx, fg_fs_ne _ _ _ _ _ _ h]
  rfl

end

theorem LeavesClk.talLog {d e : Dev} (h : LeavesClk d e) (ty fl a b c dur extra : Nat) : LeavesClk d (e.talLog ty fl a b c dur extra) := by
  obtain ⟨x, hx⟩ := e.talLog_eq ty fl a b c dur extra
  rw [hx]
  exact LeavesClk.fs h

end Dev
end Sys2Proof.Machine
end

section
/-! SUPPORT. The statement about booking (10). -/
set_option Elab.async false

namespace Sys2Proof.Machine
namespace Dev

/-! ### Booking to a total (R229) -/

/-- What a total holds in 2^-32 mWh, its wraps aside, once `e` units are booked to it. -/
def unitsWith (t : Tot) (e : Nat) : Nat := t.val * 2 ^ 32 + t.res + e

/-- The total that then stands. -/
def totWith (t : Tot) (e : Nat) : Tot :=
  { val := unitsWith t e / 2 ^ 32 % 10 ^ 15, res := unitsWith t e % 2 ^ 32, wrap := (t.wrap + unitsWith t e / 2 ^ 32 / 10 ^ 15) % 256 }

/-- Value, residue and wraps together hold what the total and the energy came to. -/
theorem units_totWith (t : Tot) (e : Nat) :
    unitsWith t e = (unitsWith t e / 2 ^ 32 / 10 ^ 15 * 10 ^ 15 + (totWith t e).val) * 2 ^ 32 + (totWith t e).res := by
  simp only [totWith, Nat.div_add_mod']

/-- Pulses of a total whose value goes from `v` to `w` (R241). -/
def pulses (d : Dev) (i v w : Nat) : Nat :=
  if d.fb TAL_PULSE_EN && d.fg TAL_PULSE_TOT == i then w / d.fg TAL_PULSE_CONST - v / d.fg TAL_PULSE_CONST else 0

/-- The device with the energy booked and its pulses raised, before a wrap is reported. -/
def booked (d : Dev) (ts : Nat) (dg : Bool) (i e : Nat) : Dev :=
  let t := vget d.tal.tot i
  let evs := List.replicate (d.pulses i t.val (unitsWith t e / 2 ^ 32)) { num := 77, ts := ts, deg := dg }
  { d with tal := { d.tal with tot := vset d.tal.tot i (totWith t e) }, evt := { d.evt with inflight := d.evt.inflight ++ evs } }

theorem bookTo_eq (d : Dev) (ts : Nat) (dg : Bool) (i e : Nat) : d.bookTo ts dg i e =
    if decide (10 ^ 15 ≤ unitsWith (vget d.tal.tot i) e / 2 ^ 32) = true then
      (((d.booked ts dg i e).raise 76).talFlag 10).talLog 6 0 d.aon.rtc 0 0 0 i
    else d.booked ts dg i e := rfl

theorem bookTo_tot (d : Dev) (ts : Nat) (dg : Bool) (i e : Nat) :
    (d.bookTo ts dg i e).tal.tot = vset d.tal.tot i (totWith (vget d.tal.tot i) e) := by
  rw [bookTo_eq]
  split
  · rw [talLog_tal, talFlag_tal, raise_tal, booked]
  · rw [booked]

/-- A total that does not wrap gives a pulse for each multiple of `CONST` that its value crosses (R241). -/
theorem bookTo_pulses {d : Dev} {ts i e : Nat} {dg : Bool} (hen : d.fb TAL_PULSE_EN = true) (htot : d.fg TAL_PULSE_TOT = i)
    (hwrap : unitsWith (vget d.tal.tot i) e / 2 ^ 32 < 10 ^ 15) : (d.bookTo ts dg i e).evt.inflight = d.evt.inflight ++
      List.replicate (unitsWith (vget d.tal.tot i) e / 2 ^ 32 / d.fg TAL_PULSE_CONST - (vget d.tal.tot i).val / d.fg TAL_PULSE_CONST)
        { num := 77, ts := ts, deg := dg } := by
  have hpulse (v w : Nat) : d.pulses i v w = w / d.fg TAL_PULSE_CONST - v / d.fg TAL_PULSE_CONST :=
    if_pos (by rw [hen, htot, beq_self_eq_true, Bool.and_self])
  rw [bookTo_eq, if_neg (by rw [decide_eq_true_eq]; exact Nat.not_le.2 hwrap), booked, hpulse]

end Dev

/-- Settles O27: booked to a total, the energy is in its value, its residue and its wraps; only its own entry of the table is written, and the
pulses are those that its value crosses. -/
theorem energyBooked : Obligations.EnergyBooked := by
  unfold Obligations.EnergyBooked
  intro d ts e dg i t
  have htot := d.bookTo_tot ts dg i e
  refine ⟨Dev.unitsWith t e / 2 ^ 32 / 10 ^ 15, Dev.totWith t e, ?total, Nat.mod_lt _ (by decide), Nat.mod_lt _ (by decide), rfl,
    Dev.units_totWith t e, ?others, ?pulses⟩
  case total => rw [htot, vget_vset_same _ _ _ i.isLt]
  case others => exact fun j hj => by rw [htot, vget_vset_ne _ _ fun h => hj (Fin.ext h.symm)]
  case pulses =>
    intro hen hpt hwrap
    have hfits : Dev.unitsWith t e / 2 ^ 32 < 10 ^ 15 := Nat.div_lt_of_lt_mul (by rwa [Nat.mul_comm])
    have hval : (Dev.totWith t e).val = Dev.unitsWith t e / 2 ^ 32 := Nat.mod_eq_of_lt hfits
    rw [hval]
    exact Dev.bookTo_pulses hen hpt hfits

end Sys2Proof.Machine
end

section
/-! SUPPORT. Tallyman's ledger and seal (10): a write that may fail, and unsealing. -/
set_option Elab.async false

namespace Sys2Proof.Machine
namespace Dev

/-! ### A write to the ledger that verifies or fails (R236) -/

/-- `e` is `d` after a write to the ledger: the write has verified, or it has failed, which is shown, raised and logged. -/
structure LedgerWritten (d e : Dev) : Prop where
  clk : e.clk = d.clk
  hst : e.hst = d.hst
  nonce : e.tal.nonce = d.tal.nonce
  cfgSeq : e.tal.cfgSeq = d.tal.cfgSeq
  fld : ∀ (F : Fld) (n : Nat), F.key n / 32 ≠ 0x20080004 → F.key n / 32 ≠ 0x20080610 → e.fg F n = d.fg F n
  outcome : e.evt = d.evt ∧ e.fg TAL_LED_LOGSEQ_SEQ = d.fg TAL_LED_LOGSEQ_SEQ ∨
    e.evt = (d.raise 75).evt ∧ e.fg TAL_STAT_LEDGER_FAULT = 1 ∧ e.fg TAL_LED_LOGSEQ_SEQ = (d.fg TAL_LED_LOGSEQ_SEQ + 1) % 2 ^ 32

theorem LedgerWritten.leavesClk {d e : Dev} (h : LedgerWritten d e) : LeavesClk d e :=
  ⟨h.clk, fun F n hF => h.fld F n (by omega) (by omega)⟩

theorem wrMN_written (d : Dev) (a : Nat) (l : List Byte) : LedgerWritten d (d.wrMN a l) := by
  obtain ⟨x, hx⟩ := wrMN_eq l a d
  rw [hx]
  exact ⟨rfl, rfl, rfl, rfl, fun _ _ _ _ => rfl, .inl ⟨rfl, rfl⟩⟩

theorem talWriteFail_written (d : Dev) (off : Nat) : LedgerWritten d (d.talWriteFail off) ∧
    (d.talWriteFail off).evt = (d.raise 75).evt ∧ (d.talWriteFail off).fg TAL_STAT_LEDGER_FAULT = 1 ∧
    (d.talWriteFail off).fg TAL_LED_LOGSEQ_SEQ = (d.fg TAL_LED_LOGSEQ_SEQ + 1) % 2 ^ 32 := by
  obtain ⟨e, he⟩ : ∃ e, (d.fs TAL_STAT_LEDGER_FAULT 1).raise 75 = e := ⟨_, rfl⟩
  have hevt : e.evt = (d.raise 75).evt := he ▸ raise_fs_evt d 75 0
  have hfault : e.fg TAL_STAT_LEDGER_FAULT = 1 := he ▸ fg_fs ..
  have hseq : e.fg TAL_LED_LOGSEQ_SEQ = d.fg TAL_LED_LOGSEQ_SEQ := he ▸ fg_fs_ne _ _ _ _ _ _ (by decide)
  have htal : e.tal = d.tal := he ▸ rfl
  have hhst : e.hst = d.hst := he ▸ rfl
  have hclk : e.clk = d.clk := he ▸ rfl
  have hshown : (d.talWriteFail off).evt = (d.raise 75).evt ∧ (d.talWriteFail off).fg TAL_STAT_LEDGER_FAULT = 1 ∧
      (d.talWriteFail off).fg TAL_LED_LOGSEQ_SEQ = (d.fg TAL_LED_LOGSEQ_SEQ + 1) % 2 ^ 32 := by
    rw [talWriteFail, he, talLog_evt, fg_talLog_ne _ _ _ _ _ _ _ _ (by decide), fg_talLog_seq, hevt, hfault, hseq]
    exact ⟨rfl, rfl, rfl⟩
  refine ⟨⟨?_, ?_, ?_, ?_, fun F n hs hl => ?_, .inr hshown⟩, hshown⟩
  · rw [talWriteFail, he, talLog_clk, hclk]
  · rw [talWriteFail, he, talLog_hst, hhst]
  · rw [talWriteFail, he, talLog_tal, htal]
  · rw [talWriteFail, he, talLog_tal, htal]
  · rw [talWriteFail, he, fg_talLog_ne _ _ _ _ _ _ _ _ fun h => hl (congrArg (· / 32) h)]
    exact he ▸ fg_fs_reg hs

/-- Both writes of a copy have failed. -/
theorem talFailed_written (d : Dev) (off n : Nat) : LedgerWritten d (d.talFailed off n) := by
  obtain ⟨x, hx⟩ := freshBytes_eq n d
  obtain ⟨y, hy⟩ := wrMN_eq (d.freshBytes n).1 off { d with free := x }
  obtain ⟨e, he⟩ : ∃ e, ({ d with free := x, outM := y } : Dev).talWriteFail off = e := ⟨_, rfl⟩
  obtain ⟨⟨hclk, hhst, hnonce, hcfg, hfld, -⟩, hevt, hfault, hseq⟩ := he ▸ talWriteFail_written { d with free := x, outM := y } off
  have hfail : d.talFailed off n =
      let f : Dev := { e with tal := { e.tal with occ := (e.classHit 8 e.tal.occ).1 } }
      if (e.classHit 8 e.tal.occ).2 then f.fs TAL_STAT_LEDGER_LATCH 1 else f := by
    rw [← he, ← hy, ← hx]
    rfl
  rw [hfail]
  dsimp only
  split
  · refine ⟨hclk, hhst, hnonce, hcfg, fun F k hs hl => (fg_fs_reg hs).trans (hfld F k hs hl), .inr ⟨hevt, ?_, ?_⟩⟩
    · exact (fg_fs_ne _ _ _ _ _ _ (by decide)).trans hfault
    · exact (fg_fs_ne _ _ _ _ _ _ (by decide)).trans hseq
  · exact ⟨hclk, hhst, hnonce, hcfg, hfld, .inr ⟨hevt, hfault, hseq⟩⟩

/-- The device as it writes its next configuration copy. -/
def cfgNext (d : Dev) : Dev := { d with free := d.free + 1, tal := { d.tal with cfgSeq := (d.tal.cfgSeq + 1) % 2 ^ 32 } }

theorem cfgSave_eq (d : Dev) : ∃ (b : Bool) (off : Nat) (l : List Byte) (n : Nat),
    d.cfgSave = if b then d.cfgNext.wrMN off l else d.cfgNext.talFailed off n := ⟨_, _, _, _, rfl⟩

theorem cfgSave_written (d : Dev) : LedgerWritten d.cfgNext d.cfgSave := by
  obtain ⟨b, off, l, n, hsave⟩ := d.cfgSave_eq
  rw [hsave]
  split
  · exact wrMN_written _ _ _
  · exact talFailed_written _ _ _

/-! ### The seal (R240) -/

theorem talSeal_open {d : Dev} (h : d.fb TAL_SEAL_SEALED = false) :
    d.talSeal = (d.fs TAL_SEAL_SEALED 1).cfgSave.talLog 4 0 d.aon.rtc 0 0 0 := if_neg (by rw [h]; decide)

/-- The device is sealed, and its configuration is saved and logged; a failed write is logged before. -/
theorem talSeal_spec {d : Dev} (h : d.fb TAL_SEAL_SEALED = false) : d.talSeal.fg TAL_SEAL_SEALED = 1 ∧
    d.talSeal.tal.cfgSeq = (d.tal.cfgSeq + 1) % 2 ^ 32 ∧
    (d.talSeal.fg TAL_LED_LOGSEQ_SEQ = (d.fg TAL_LED_LOGSEQ_SEQ + 1) % 2 ^ 32 ∨
      d.talSeal.fg TAL_STAT_LEDGER_FAULT = 1 ∧ d.talSeal.fg TAL_LED_LOGSEQ_SEQ = (d.fg TAL_LED_LOGSEQ_SEQ + 2) % 2 ^ 32) := by
  obtain ⟨-, -, -, hcfg, hfld, hout⟩ := (d.fs TAL_SEAL_SEALED 1).cfgSave_written
  have hseq : (d.fs TAL_SEAL_SEALED 1).cfgNext.fg TAL_LED_LOGSEQ_SEQ = d.fg TAL_LED_LOGSEQ_SEQ := fg_fs_ne _ _ _ _ _ _ (by decide)
  rw [talSeal_open h, talLog_tal, hcfg, fg_talLog_seq, fg_talLog_ne _ _ _ _ _ _ _ _ (by decide), fg_talLog_ne _ _ _ _ _ _ _ _ (by decide)]
  refine ⟨(hfld _ _ (by decide) (by decide)).trans (fg_fs ..), rfl, hout.imp ?verified ?failed⟩
  case verified =>
    rintro ⟨-, hlog⟩
    rw [hlog, hseq]
  case failed =>
    rintro ⟨-, hfault, hlog⟩
    exact ⟨hfault, by rw [hlog, hseq, Nat.mod_add_mod]⟩

/-- The device with its seal broken and the break counted. -/
def sealBroken (d : Dev) : Dev := (d.fs TAL_SEAL_SEALED 0).fcnt TAL_SEAL_BREAK_CNT TAL_SEAL_BREAK_OVF

/-- The device unsealed: the break is saved, logged, marked in the open interval and raised. -/
def unsealed (d : Dev) : Dev :=
  ((d.sealBroken.cfgSave.talLog 3 0 d.sealBroken.cfgSave.aon.rtc 0 0 0).talFlag 6).raise 78

theorem sealBroken_eq (d : Dev) : ∃ x, d.sealBroken = { d with regs := x } := by
  unfold sealBroken fcnt
  split <;> exact ⟨_, rfl⟩

theorem sealBroken_leavesClk (d : Dev) : LeavesClk d d.sealBroken := .fcnt (.fs .refl)

theorem fg_sealBroken (d : Dev) : d.sealBroken.fg TAL_SEAL_SEALED = 0 :=
  (fg_fcnt_ne _ _ _ _ _ _ (by decide) (by decide)).trans (fg_fs ..)

theorem LeavesClk.cfgSave {d e : Dev} (h : LeavesClk d e) : LeavesClk d e.cfgSave := by
  obtain ⟨hclk, hregs⟩ := e.cfgSave_written.leavesClk
  obtain ⟨hclk', hregs'⟩ := h
  exact ⟨hclk.trans hclk', fun F n hF => (hregs F n hF).trans (hregs' F n hF)⟩

theorem unsealed_spec (d : Dev) : d.unsealed.tal.nonce = d.tal.nonce ∧ d.unsealed.hst = d.hst ∧ d.unsealed.fg TAL_SEAL_SEALED = 0 ∧
    (d.unsealed.evt = (d.raise 78).evt ∨ d.unsealed.fg TAL_STAT_LEDGER_FAULT = 1 ∧ d.unsealed.evt = ((d.raise 75).raise 78).evt) := by
  obtain ⟨x, hx⟩ := d.sealBroken_eq
  obtain ⟨-, hhst, hnonce, -, hfld, hout⟩ := d.sealBroken.cfgSave_written
  have hshown {F : Fld} (h : F.key 0 ≠ TAL_INT_CUR_FLAGS.key 0) (h' : F.key 0 ≠ TAL_LED_LOGSEQ_SEQ.key 0) :
      d.unsealed.fg F = d.sealBroken.cfgSave.fg F := by
    rw [unsealed, fg_raise, fg_talFlag_ne _ _ h, fg_talLog_ne _ _ _ _ _ _ _ _ h']
  have hclk : LeavesClk d ((d.sealBroken.cfgSave.talLog 3 0 d.sealBroken.cfgSave.aon.rtc 0 0 0).talFlag 6) :=
    .talFlag (.talLog (.cfgSave d.sealBroken_leavesClk) ..)
  refine ⟨?nonce, ?hst, ?broken, hout.imp ?verified ?failed⟩
  case nonce => rw [unsealed, raise_tal, talFlag_tal, talLog_tal, hnonce, cfgNext, hx]
  case hst => rw [unsealed, raise_hst, talFlag_hst, talLog_hst, hhst, cfgNext, hx]
  case broken =>
    rw [hshown (by decide) (by decide), hfld _ _ (by decide) (by decide)]
    exact d.fg_sealBroken
  case verified =>
    rintro ⟨hevt, -⟩
    refine hclk.raise_evt ?_ 78 0
    rw [talFlag_evt, talLog_evt, hevt, cfgNext, hx]
  case failed =>
    rintro ⟨hevt, hfault, -⟩
    refine ⟨(hshown (by decide) (by decide)).trans hfault, LeavesClk.raise_evt (d := d.raise 75) hclk ?_ 78 0⟩
    rw [talFlag_evt, talLog_evt, hevt]
    exact d.sealBroken_leavesClk.raise_evt (by rw [hx]) 75 0

end Dev
end Sys2Proof.Machine
end

section
/-! SUPPORT. Writes to Tallyman's registers (10): what an accepted write does, and which writes the seal and the role refuse. -/
set_option Elab.async false

namespace Sys2Proof.Machine
namespace Dev

/-! ### Refused writes (R8) -/

/-- Whether a word's encodings are admitted is a matter of the fields that it reaches. -/
theorem badEncoding_reached {r : Reg} (hr : descend r.flds) (w : Nat) : badEncoding r (reached r w) = badEncoding r w := by
  have hfld : ∀ s ∈ r.flds, ((s.acc == .RW || s.acc == .WO) && !s.legal.ok (s.fld.of (reached r w))) =
      ((s.acc == .RW || s.acc == .WO) && !s.legal.ok (s.fld.of w)) := by
    intro s hs
    by_cases hw : s.reachable = true
    · rw [of_reached hr hs hw]
    · have hro : (s.acc == .RW || s.acc == .WO) = false := by
        cases hacc : s.acc <;> simp_all [FldSpec.reachable]
      rw [hro, Bool.false_and, Bool.false_and]
  rw [badEncoding, badEncoding, Bool.eq_iff_iff, List.any_eq_true, List.any_eq_true]
  exact exists_congr fun s => and_congr_right fun hs => by rw [hfld s hs]

/-- A write for which the authority is wanting is refused whole. -/
theorem writeReg_auth {d : Dev} {r : Reg} {n word : Nat} (h : d.authReg r.base n (reached r word) = true) :
    d.writeReg r n word = (.auth, d) := if_pos h

/-- A write of admitted values that the state refuses changes nothing, but for what the trip logic notes. -/
theorem writeReg_stateRefused {d : Dev} {r : Reg} {n word w : Nat} (hw : reached r word = w) (hauth : d.authReg r.base n w = false)
    (henc : (badEncoding r w || d.rangeReg r.base n w) = false) (hstate : d.stateReg r.base n w = true) (hb : r.base / 65536 ≠ 0x2004) :
    d.writeReg r n word = (.state, d) := by
  subst hw
  simp only [writeReg, hauth, henc, hstate, Bool.false_eq_true, if_false, Bool.true_or, if_true, if_neg hb]

/-! ### `TAL_CTRL` (R222, R238, R242) -/

/-- `TAL_CTRL` in the register map. -/
def talCtrlReg : Reg := ⟨0x20080000, 0x0, 0, 1, [⟨TAL_CTRL_EN, .RW, .any⟩, ⟨TAL_CTRL_TOT_MODE, .RW, .any⟩, ⟨TAL_CTRL_NOM_F, .RW, .any⟩,
  ⟨TAL_CTRL_INT_LEN, .RW, (.rng 0 5)⟩]⟩

theorem findReg_talCtrl : findReg (TAL_CTRL_EN.at 0) = some (talCtrlReg, 0) := rfl

theorem talCtrlReg_rw : ∀ s ∈ talCtrlReg.flds, s.acc = .RW := by decide

theorem talCtrlReg_descend : descend talCtrlReg.flds := by decide

theorem talCtrl_of_reached {s : FldSpec} (hs : s ∈ talCtrlReg.flds) (w : Nat) : s.fld.of (reached talCtrlReg w) = s.fld.of w :=
  of_reached talCtrlReg_descend hs (by rw [FldSpec.reachable, talCtrlReg_rw s hs]; rfl) w

theorem ctrlChanges_reached (d : Dev) (w : Nat) : d.ctrlChanges (reached talCtrlReg w) = d.ctrlChanges w := by
  have hmode : TAL_CTRL_TOT_MODE.of (reached talCtrlReg w) = TAL_CTRL_TOT_MODE.of w := talCtrl_of_reached (.tail _ (.head _)) w
  have hnom : TAL_CTRL_NOM_F.of (reached talCtrlReg w) = TAL_CTRL_NOM_F.of w := talCtrl_of_reached (.tail _ (.tail _ (.head _))) w
  have hlen : TAL_CTRL_INT_LEN.of (reached talCtrlReg w) = TAL_CTRL_INT_LEN.of w :=
    talCtrl_of_reached (.tail _ (.tail _ (.tail _ (.head _)))) w
  rw [ctrlChanges, hmode, hnom, hlen, ctrlChanges]

theorem storeWord_talCtrl_en (d : Dev) (w : Nat) : (d.storeWord talCtrlReg 0 w).fg TAL_CTRL_EN = TAL_CTRL_EN.of w :=
  storeWord_of talCtrlReg_rw findReg_talCtrl talCtrlReg_descend (.head _) d w

theorem storeWord_talCtrl_parts (d : Dev) (w : Nat) : (d.storeWord talCtrlReg 0 w).tal = d.tal ∧ (d.storeWord talCtrlReg 0 w).evt = d.evt ∧
    (d.storeWord talCtrlReg 0 w).mram = d.mram := by
  obtain ⟨x, hx⟩ := d.storeWord_regs talCtrlReg_rw 0 w
  rw [hx]
  exact ⟨rfl, rfl, rfl⟩

theorem talConfig_ctrl (d : Dev) (w : Nat) : d.talConfig 0x20080000 w = d.ctrlChanges w := by
  simp [talConfig]

theorem afterTAL_ctrl {d d0 : Dev} {n w : Nat} (h : d0.talConfig 0x20080000 w = false) : d.afterTAL d0 0x20080000 n w =
    if d.fb TAL_CTRL_EN ∧ d0.fb TAL_CTRL_EN = false then d.talEnable
    else if d.fb TAL_CTRL_EN = false ∧ d0.fb TAL_CTRL_EN ∧ d0.talRuns then (d.fs TAL_CTRL_EN 1).talDisable.fs TAL_CTRL_EN 0
    else d := by
  unfold afterTAL
  rw [if_neg (Bool.eq_false_iff.1 h), if_pos rfl]

theorem afterReg_talCtrl (d d0 : Dev) (w : Nat) : d.afterReg d0 talCtrlReg.base 0 w = d.afterTAL d0 0x20080000 0 w := rfl

/-- What an accepted write that leaves the configuration as it is does once it is stored: metering starts, or stops, or neither. -/
theorem regWrite_talCtrl {d e : Dev} {a : Acc} {w : Nat} (hok : d.accepts a (TAL_CTRL_EN.at 0) w) (hcfg : d.ctrlChanges w = false)
    (he : d.storeWord talCtrlReg 0 w = e) : (d.regWrite a (TAL_CTRL_EN.at 0) w).2 =
      if e.fb TAL_CTRL_EN ∧ d.fb TAL_CTRL_EN = false then e.talEnable
      else if e.fb TAL_CTRL_EN = false ∧ d.fb TAL_CTRL_EN ∧ d.talRuns then (e.fs TAL_CTRL_EN 1).talDisable.fs TAL_CTRL_EN 0
      else e := by
  have hcfg' : d.talConfig 0x20080000 (reached talCtrlReg w) = false := by
    rw [talConfig_ctrl, ctrlChanges_reached, hcfg]
  rw [regWrite_accepted findReg_talCtrl rfl (by decide) (by decide) rfl rfl hok, he, afterReg_talCtrl,
    afterTAL_ctrl hcfg']

/-- `EN` is not set on a follower. -/
theorem regWrite_talFollower {d : Dev} {a : Acc} {w : Nat} (hrole : d.fg SYS_ROLE_PAR_MODE = 2) (hw : TAL_CTRL_EN.of w = 1)
    (hoff : d.fb TAL_CTRL_EN = false) (hopen : d.fb TAL_SEAL_SEALED = false) (henc : badEncoding talCtrlReg w = false) :
    d.regWrite a (TAL_CTRL_EN.at 0) w = (.state, d) := by
  have hen : TAL_CTRL_EN.of (reached talCtrlReg w) = 1 := (talCtrl_of_reached (.head _) w).trans hw
  have hauth : d.authReg talCtrlReg.base 0 (reached talCtrlReg w) = false := by simp [authReg, authTAL, hopen]
  have henc' : badEncoding talCtrlReg (reached talCtrlReg w) = false := (badEncoding_reached talCtrlReg_descend w).trans henc
  have hstate : d.stateTAL 0x20080000 0 (reached talCtrlReg w) = true := by simp [stateTAL, hoff, hen, hrole]
  rw [regWrite_reg findReg_talCtrl rfl rfl (.inl (by decide)) rfl rfl]
  exact writeReg_stateRefused rfl hauth (by rw [henc']; rfl) hstate (by decide)

/-! ### The calibration (R240) -/

/-- `TAL_CH_n_GAIN` in the register map. -/
def talGainReg : Reg := ⟨0x20080104, 0x10, 0, 8, [⟨TAL_CH_n_GAIN_GAIN, .RW, (.rng 536870912 1610612736)⟩]⟩

theorem findReg_talGain (n : Fin 8) : findReg (TAL_CH_n_GAIN_GAIN.at n) = some (talGainReg, n.val) := by
  fin_cases n <;> rfl

theorem talGainReg_rw : ∀ s ∈ talGainReg.flds, s.acc = .RW := by decide

theorem talConfig_gain (d : Dev) (w : Nat) : d.talConfig talGainReg.base w = true := rfl

theorem storeWord_talGain (d : Dev) (n : Fin 8) (w : Nat) : (d.storeWord talGainReg n w).fg TAL_CH_n_GAIN_GAIN n = TAL_CH_n_GAIN_GAIN.of w :=
  storeWord_of talGainReg_rw (findReg_talGain n) (by decide) (.head _) d w

/-- A calibration is stored, saved, and marked in the open interval. -/
theorem regWrite_talGain {d : Dev} {a : Acc} {n : Fin 8} {w : Nat} (hok : d.accepts a (TAL_CH_n_GAIN_GAIN.at n) w) :
    (d.regWrite a (TAL_CH_n_GAIN_GAIN.at n) w).2 = (d.storeWord talGainReg n w).cfgSave.talFlag 6 := by
  have hat : TAL_CH_n_GAIN_GAIN.at n = 0x20080104 + 0x10 * n.val := rfl
  rw [regWrite_accepted (findReg_talGain n) (by omega) (by omega) (by omega) rfl rfl hok]
  rfl

/-- The seal refuses it. -/
theorem regWrite_talGain_sealed {d : Dev} (h : d.fb TAL_SEAL_SEALED = true) (a : Acc) (n : Fin 8) (w : Nat) :
    d.regWrite a (TAL_CH_n_GAIN_GAIN.at n) w = (.auth, d) := by
  have hat : TAL_CH_n_GAIN_GAIN.at n = 0x20080104 + 0x10 * n.val := rfl
  have hlive : d.aonDead (TAL_CH_n_GAIN_GAIN.at n) = false := by
    have hblock : TAL_CH_n_GAIN_GAIN.at n / 65536 = 0x2008 := by omega
    rw [aonDead, hblock]
    rfl
  rw [regWrite_reg (findReg_talGain n) (by omega) hlive (.inl (by omega)) rfl rfl]
  exact writeReg_auth (show (d.fb TAL_SEAL_SEALED && d.talConfig talGainReg.base _) = true by rw [h, talConfig_gain]; rfl)

/-! ### `TAL_SEAL` (R240) -/

/-- `TAL_SEAL` in the register map. -/
def talSealReg : Reg := ⟨0x20080614, 0x0, 0, 1, [⟨TAL_SEAL_BREAK_CNT, .RO, .any⟩, ⟨TAL_SEAL_BREAK_OVF, .RO, .any⟩, ⟨TAL_SEAL_SEALED, .RO, .any⟩,
  ⟨TAL_SEAL_SEAL, .W1S, .any⟩]⟩

theorem findReg_talSeal : findReg (TAL_SEAL_SEAL.at 0) = some (talSealReg, 0) := rfl

/-- The device with a request to seal stored and taken. -/
def sealAsked (d : Dev) (w : Nat) : Dev := (d.storeWord talSealReg 0 w).fs TAL_SEAL_SEAL 0

theorem sealAsked_tal (d : Dev) (w : Nat) : (d.sealAsked w).tal = d.tal := rfl

theorem fg_sealAsked {F : Fld} (h : F.key 0 ≠ TAL_SEAL_SEAL.key 0) (d : Dev) (w : Nat) : (d.sealAsked w).fg F = d.fg F :=
  (fg_fs_ne _ _ _ _ _ _ h).trans (fg_fs_ne _ _ _ _ _ _ h)

theorem afterTAL_seal {d d0 : Dev} {n w : Nat} (h : d0.talConfig 0x20080614 w = false) (hw : TAL_SEAL_SEAL.of w = 1) :
    d.afterTAL d0 0x20080614 n w = (d.fs TAL_SEAL_SEAL 0).talSeal := by
  unfold afterTAL
  rw [if_neg (Bool.eq_false_iff.1 h), if_neg (by decide), if_pos ⟨rfl, hw⟩]

theorem afterReg_talSeal (d d0 : Dev) (w : Nat) : d.afterReg d0 talSealReg.base 0 w = d.afterTAL d0 0x20080614 0 w := rfl

theorem regWrite_talSeal {d : Dev} {a : Acc} {w : Nat} (hw : TAL_SEAL_SEAL.of w = 1) (hok : d.accepts a (TAL_SEAL_SEAL.at 0) w) :
    (d.regWrite a (TAL_SEAL_SEAL.at 0) w).2 = (d.sealAsked w).talSeal := by
  have hw' : TAL_SEAL_SEAL.of (reached talSealReg w) = 1 :=
    (of_reached (r := talSealReg) (by decide) (.tail _ (.tail _ (.tail _ (.head _)))) rfl w).trans hw
  have hplain : d.talConfig 0x20080614 (reached talSealReg w) = false := rfl
  rw [regWrite_accepted findReg_talSeal rfl (by decide) (by decide) rfl rfl hok, afterReg_talSeal, afterTAL_seal hplain hw', sealAsked]

end Dev
end Sys2Proof.Machine
end

section
/-! SUPPORT. The statement about metering, its calibration and its seal (10). -/
set_option Elab.async false

namespace Sys2Proof.Machine

/-! ### Rows on which Tallyman acts -/

/-- A row of Tallyman's, out of reset, by what its effect comes to. -/
theorem State.runTal_eq {s : State} {f : Dev → Dev} {e : Dev} (up : s.up) (h : f s.dev = e) : s.runTal f = .next (s.toTal e) :=
  h ▸ State.runTal_up up f

/-- One that is a write, where its condition holds, by what the write comes to. -/
theorem State.runTal_wrIf {s : State} {p : Dev → Bool} {acc : Acc} {a w : Nat} {e : Dev} (up : s.up) (hp : p s.dev = true)
    (hw : (s.dev.regWrite acc a w).2 = e) : s.runTal (wrIf p acc a w) = .next (s.toTal e) :=
  State.runTal_eq up ((if_pos hp).trans hw)

/-- A started command that its block answers at once. -/
theorem State.runTal_answers {s : State} {op : Nat} {p : Path} {tag : Byte} {l : List Byte} {f : Cmd → Dev → Res × Dev} {e : Dev} {st : St}
    {b : List Byte} (up : s.up) (h : s.dev.started p tag op l) (hf : ∀ c : Cmd, c.payload = l → f c s.dev = (.reply st b, e)) :
    s.runTal (fun d => d.runCmd op p tag f) = .next (s.toTal (e.complete p tag.toNat st b)) := by
  obtain ⟨c, hc, hl⟩ := h
  exact State.runTal_eq up (Dev.runCmd_reply hc (hf c hl))

namespace Dev

/-- Completing a command concerns the host port alone. -/
theorem complete_parts (d : Dev) (p : Path) (tag : Nat) (st : St) (b : List Byte) :
    (d.complete p tag st b).tal = d.tal ∧ (d.complete p tag st b).evt = d.evt := by
  unfold complete
  split <;> exact ⟨rfl, rfl⟩

end Dev

/-! ### Metering starts and stops (R222, R238, R242) -/

section
variable {s : State} {a : Acc} {val : W32} (up : s.up) (hcfg : s.dev.ctrlChanges val.toNat = false)
  (hok : s.dev.accepts a (TAL_CTRL_EN.at 0) val.toNat)
include up hcfg hok

theorem State.run_tallymanEnable (hval : TAL_CTRL_EN.of val.toNat = 1) (hoff : s.dev.fb TAL_CTRL_EN = false) : ∃ e : Dev,
    exec (.tallymanEnable a val) s = .next (s.toTal e.talEnable) ∧ e.fg TAL_CTRL_EN = 1 ∧ e.tal = s.dev.tal ∧ e.evt = s.dev.evt ∧
      e.mram = s.dev.mram := by
  obtain ⟨e, he⟩ : ∃ e, s.dev.storeWord Dev.talCtrlReg 0 val.toNat = e := ⟨_, rfl⟩
  have hen : e.fg TAL_CTRL_EN = 1 := he ▸ (s.dev.storeWord_talCtrl_en _).trans hval
  have hrises : rises TAL_CTRL_EN 0 val.toNat s.dev = true := by simp [rises, hval, hoff]
  have hwrite := (Dev.regWrite_talCtrl hok hcfg he).trans (if_pos ⟨by rw [Dev.fb, hen]; rfl, hoff⟩)
  exact ⟨e, State.runTal_wrIf up hrises hwrite, hen, he ▸ s.dev.storeWord_talCtrl_parts _⟩

theorem State.run_tallymanDisable_idle (hval : TAL_CTRL_EN.of val.toNat = 0) (hon : s.dev.fb TAL_CTRL_EN = true)
    (hidle : s.dev.talRuns = false) : ∃ e : Dev, exec (.tallymanDisable a val) s = .next (s.toTal e) ∧ e.fg TAL_CTRL_EN = 0 ∧
      e.tal = s.dev.tal ∧ e.evt = s.dev.evt := by
  obtain ⟨e, he⟩ : ∃ e, s.dev.storeWord Dev.talCtrlReg 0 val.toNat = e := ⟨_, rfl⟩
  have hen : e.fg TAL_CTRL_EN = 0 := he ▸ (s.dev.storeWord_talCtrl_en _).trans hval
  obtain ⟨htal, hevt, -⟩ := he ▸ s.dev.storeWord_talCtrl_parts val.toNat
  have hwrite := ((Dev.regWrite_talCtrl hok hcfg he).trans (if_neg (by simp [hon]))).trans (if_neg (by simp [hidle]))
  exact ⟨e, State.runTal_wrIf up (by simp [falls, hval, hon]) hwrite, hen, htal, hevt⟩

theorem State.run_tallymanDisable_metering (hval : TAL_CTRL_EN.of val.toNat = 0) (hruns : s.dev.talRuns = true) : ∃ e : Dev,
    exec (.tallymanDisable a val) s = .next (s.toTal (e.talDisable.fs TAL_CTRL_EN 0)) ∧ e.fg TAL_CTRL_EN = 1 ∧ e.tal = s.dev.tal ∧
      e.evt = s.dev.evt := by
  obtain ⟨e, he⟩ : ∃ e, s.dev.storeWord Dev.talCtrlReg 0 val.toNat = e := ⟨_, rfl⟩
  have hen : e.fb TAL_CTRL_EN = false := by rw [Dev.fb, ← he, s.dev.storeWord_talCtrl_en, hval]; rfl
  have hon : s.dev.fb TAL_CTRL_EN = true := (Bool.and_eq_true_iff.1 hruns).1
  obtain ⟨htal, hevt, -⟩ := he ▸ s.dev.storeWord_talCtrl_parts val.toNat
  have hwrite := ((Dev.regWrite_talCtrl hok hcfg he).trans (if_neg (by simp [hon]))).trans (if_pos ⟨hen, hon, hruns⟩)
  exact ⟨_, State.runTal_wrIf up (by simp [falls, hval, hon]) hwrite, Dev.fg_fs .., htal, hevt⟩

end

/-! ### Calibration and seal (R240) -/

theorem toNat_talGainAt (n : Fin 8) : (BitVec.ofNat 32 (TAL_CH_n_GAIN_GAIN.at n)).toNat = TAL_CH_n_GAIN_GAIN.at n := by
  have hat : TAL_CH_n_GAIN_GAIN.at n = 0x20080104 + 0x10 * n.val := rfl
  rw [BitVec.toNat_ofNat, Nat.mod_eq_of_lt (by omega)]

/-- A write of a calibration, by what the write comes to. -/
theorem State.run_talGainWrite {s : State} {e : Dev} {a : Acc} {n : Fin 8} {val : W32} (up : s.up)
    (hw : (s.dev.regWrite a (TAL_CH_n_GAIN_GAIN.at n) val.toNat).2 = e) :
    exec (.talConfigWrite a (BitVec.ofNat 32 (TAL_CH_n_GAIN_GAIN.at n)) val) s = .next (s.toTal e) := by
  have hrow : regIs (TAL_CH_n_GAIN_GAIN.at n) (fun r => s.dev.talConfig r.base val.toNat) = true :=
    (regIs_of_findReg (Dev.findReg_talGain n) _).trans (s.dev.talConfig_gain _)
  rw [← toNat_talGainAt] at hw hrow
  exact State.runTal_wrIf up hrow hw

theorem State.run_talSealWrite {s : State} {a : Acc} {val : W32} (up : s.up) (hval : TAL_SEAL_SEAL.of val.toNat = 1)
    (hok : s.dev.accepts a (TAL_SEAL_SEAL.at 0) val.toNat) :
    exec (.talSealWrite a val) s = .next (s.toTal (s.dev.sealAsked val.toNat).talSeal) :=
  State.runTal_wrIf up (by rw [hval]; rfl) (Dev.regWrite_talSeal hval hok)

/-! ### Commands (R243) -/

theorem talNonceExpiryDev_due {d : Dev} {l : List Byte} (hl : d.tal.nonce = some l) (ht : d.tal.nonceAt + 60000 * Dev.msTicks ≤ d.clk.ticks) :
    talNonceExpiryDev d = { d with tal := { d.tal with nonce := none } } := if_pos (by simp [hl, ht])

/-- The sequences asked for are held, and do not pass the newest. -/
theorem talReadIntCmd_held {d : Dev} {c : Cmd} {first n held : Nat} (hlen : c.payload.length = 6) (hfirst : leAt c.payload 0 4 = first)
    (hn : leAt c.payload 4 2 = n) (h1 : 1 ≤ n) (h64 : n ≤ 64) (hold : 1 ≤ d.fg TAL_LED_OLD_SEQ) (hle : d.fg TAL_LED_OLD_SEQ ≤ first)
    (hheld : d.fg TAL_LED_INT_SEQ = held) (hend : first + n ≤ held + 1) (hmax : held < 2 ^ 32) : talReadIntCmd c d =
      (.reply .ok ((List.range n).flatMap fun i => d.rdMN (0x4000 + 64 * ((first + i) % 7936)) 64), d) := by
  have hoff : (first + 2 ^ 32 - d.fg TAL_LED_OLD_SEQ) % 2 ^ 32 = first - d.fg TAL_LED_OLD_SEQ := by omega
  have hcount : (held + 2 ^ 32 - d.fg TAL_LED_OLD_SEQ) % 2 ^ 32 = held - d.fg TAL_LED_OLD_SEQ := by omega
  have hrange : ¬(c.payload.length ≠ 6 ∨ n = 0 ∨ 64 < n ∨ d.fg TAL_LED_OLD_SEQ = 0 ∨
      held - d.fg TAL_LED_OLD_SEQ + 1 < first - d.fg TAL_LED_OLD_SEQ + n) := by omega
  have hplace : ((List.range n).flatMap fun i => d.rdMN (0x4000 + 64 * ((first + i) % 2 ^ 32 % 7936)) 64) =
      (List.range n).flatMap fun i => d.rdMN (0x4000 + 64 * ((first + i) % 7936)) 64 := by
    refine List.flatMap_congr fun i hi => ?_
    rw [Nat.mod_eq_of_lt (a := first + i) (by have := List.mem_range.1 hi; omega)]
  simp only [talReadIntCmd, hfirst, hn, hheld, hoff, hcount, if_neg hrange, hplace]

theorem State.run_talChallenge {s : State} {p : Path} {tag : Byte} (up : s.up) (h : s.dev.started p tag 0x603 []) : ∃ (l : List Byte) (e : Dev),
    l.length = 16 ∧ exec (.talChallenge p tag) s = .next (s.answer e p tag .ok l) ∧ e.tal.nonce = some l ∧ e.tal.nonceAt = s.dev.clk.ticks ∧
      e.hst = s.dev.hst := by
  obtain ⟨x, hx⟩ := Dev.freshBytes_eq 16 s.dev
  exact ⟨_, _, Dev.freshBytes_length 16 s.dev, State.run_answers up h fun c hc => if_neg (not_not.2 hc), rfl, rfl, show (s.dev.freshBytes 16).2.hst = _ by rw [hx]⟩

/-- The device with its nonce used up. -/
def Dev.nonceUsed (d : Dev) : Dev := { d with tal := { d.tal with nonce := none } }

/-- What a signature of `TAL_UNSEAL` is over (R240). -/
def Dev.unsealMsg (d : Dev) (n : List Byte) : List Byte := n ++ leBytes 4 (d.fg TAL_LED_SAVE_SEQ) ++ leBytes 2 (d.fg TAL_SEAL_BREAK_CNT)

section
variable {d : Dev} {c : Cmd} (hlen : c.payload.length = 64) (hsealed : d.fb TAL_SEAL_SEALED = true)
include hlen hsealed

theorem talUnsealCmd_noNonce (hn : d.tal.nonce = none) : talUnsealCmd c d = (.reply .auth [], d) := by
  simp only [talUnsealCmd, hlen, hsealed, hn]
  rfl

theorem talUnsealCmd_nonce {l : List Byte} {good : Bool} (hn : d.tal.nonce = some l)
    (hgood : Config.signatureOk d.sys.running.metKey (d.unsealMsg l) c.payload = good) :
    talUnsealCmd c d = if good then (.reply .ok [], d.nonceUsed.unsealed) else (.reply .auth [], d.nonceUsed) := by
  subst hgood
  simp only [talUnsealCmd, hlen, hsealed, hn]
  rfl

end

/-- What a signed unsealing leaves, whichever way its writes to the ledger go. -/
def Dev.Unseals (d e : Dev) (good : Bool) : Prop := e.tal.nonce = none ∧
  e.fg TAL_SEAL_SEALED = (if good then 0 else d.fg TAL_SEAL_SEALED) ∧
  if good then e.evt = (d.raise 78).evt ∨ e.fg TAL_STAT_LEDGER_FAULT = 1 ∧ e.evt = ((d.raise 75).raise 78).evt else e.evt = d.evt

theorem Dev.Unseals.complete {d e : Dev} {good : Bool} (h : d.Unseals e good) (p : Path) (tag : Nat) (st : St) (b : List Byte) :
    d.Unseals (e.complete p tag st b) good := by
  obtain ⟨htal, hevt⟩ := e.complete_parts p tag st b
  rw [Unseals, htal, hevt, fg_complete _ (by decide), fg_complete _ (by decide)]
  exact h

theorem State.run_talUnseal {s : State} {p : Path} {tag : Byte} {b l : List Byte} (up : s.up) (h : s.dev.started p tag 0x604 b)
    (hlen : b.length = 64) (hsealed : s.dev.fb TAL_SEAL_SEALED = true) (hn : s.dev.tal.nonce = some l) {good : Bool}
    (hgood : Config.signatureOk s.dev.sys.running.metKey (s.dev.unsealMsg l) b = good) : ∃ e : Dev,
      exec (.talUnseal p tag) s = .next (s.toTal (e.complete p tag.toNat (if good then .ok else .auth) [])) ∧ e.hst = s.dev.hst ∧
        s.dev.Unseals e good := by
  have hcmd (c : Cmd) (hc : c.payload = b) := talUnsealCmd_nonce (c := c) (hc ▸ hlen) hsealed hn (hc ▸ hgood)
  cases good with
  | false => exact ⟨_, State.runTal_answers up h hcmd, rfl, rfl, rfl, rfl⟩
  | true =>
    obtain ⟨hnonce, hhst, hopen, hevt⟩ := s.dev.nonceUsed.unsealed_spec
    exact ⟨_, State.runTal_answers up h hcmd, hhst, hnonce, hopen, hevt⟩

theorem talClearCmd_clears {d : Dev} {c : Cmd} (hc : c.payload = []) (hgood : d.tal.saveBad = false) :
    talClearCmd c d = (.reply .ok [], d.fs TAL_STAT_LEDGER_LATCH 0) := by
  simp only [talClearCmd, hc, hgood]
  rfl

theorem talClearCmd_refused {d : Dev} {c : Cmd} (hc : c.payload = []) (hbad : d.tal.saveBad = true) :
    talClearCmd c d = (.reply .state [], d) := by
  simp only [talClearCmd, hc, hbad]
  rfl

/-- Settles O29: each row is what the write of its register, or its command's one answer, comes to; of a write to the ledger that may fail, the
statement takes what stands either way. -/
theorem tallymanSealed : Obligations.TallymanSealed := by
  unfold Obligations.TallymanSealed
  refine ⟨fun s a p tag val up => ⟨?enable, ?disableIdle, ?disable, ?calibrate, ?sealed, ?sealing, ?expiry, ?read, ?challenge, ?noNonce, ?unsealing,
    ?clear, ?clearRefused⟩, ?follower⟩
  case enable => exact fun hval hoff hcfg hok => State.run_tallymanEnable up hcfg hok hval hoff
  case disableIdle =>
    intro hval hon hidle hcfg hok
    obtain ⟨e, he, hshown⟩ := State.run_tallymanDisable_idle up hcfg hok hval hon hidle
    exact ⟨_, he, hshown⟩
  case disable => exact fun hval hruns hcfg hok => State.run_tallymanDisable_metering up hcfg hok hval hruns
  case calibrate =>
    intro n hok
    obtain ⟨x, hx⟩ := s.dev.storeWord_regs Dev.talGainReg_rw n val.toNat
    exact ⟨_, State.run_talGainWrite up (Dev.regWrite_talGain hok), s.dev.storeWord_talGain n _, by rw [hx]⟩
  case sealed =>
    intro n hsealed
    exact ⟨_, State.run_talGainWrite up (congrArg Prod.snd (Dev.regWrite_talGain_sealed hsealed a n _)), rfl, rfl⟩
  case sealing =>
    intro hval hopen hok
    have hopen' : (s.dev.sealAsked val.toNat).fb TAL_SEAL_SEALED = false := (Dev.fb_of_fg (Dev.fg_sealAsked (by decide) ..)).trans hopen
    have hsealed := Dev.talSeal_spec hopen'
    rw [Dev.sealAsked_tal, Dev.fg_sealAsked (by decide)] at hsealed
    exact ⟨_, State.run_talSealWrite up hval hok, hsealed⟩
  case expiry => exact fun l hl ht => State.run_eq up (talNonceExpiryDev_due hl ht)
  case read =>
    intro b first n held h hlen hfirst hn h1 h64 hold hle hheld hend hmax
    exact State.run_answers up h fun c hc => by
      subst hc
      exact talReadIntCmd_held hlen hfirst hn h1 h64 hold hle hheld hend hmax
  case challenge =>
    intro h
    obtain ⟨l, e, hlen, he, hnonce, hat, hhst⟩ := State.run_talChallenge up h
    obtain ⟨htal, -⟩ := e.complete_parts p tag.toNat .ok l
    exact ⟨l, _, hlen, he, (congrArg Tal.nonce htal).trans hnonce, (congrArg Tal.nonceAt htal).trans hat,
      Dev.complete_completed h (congrArg Hst.outst hhst) _ _⟩
  case noNonce =>
    intro b h hlen hsealed hn
    exact State.runTal_answers up h fun c hc => talUnsealCmd_noNonce (hc ▸ hlen) hsealed hn
  case unsealing =>
    intro b l h hlen hsealed hn good
    obtain ⟨e, he, hhst, hunseals⟩ := State.run_talUnseal (good := good) up h hlen hsealed hn rfl
    obtain ⟨hnonce, hseal, hevt⟩ := hunseals.complete p tag.toNat (if good then .ok else .auth) []
    exact ⟨_, he, hnonce, hseal, hevt, Dev.complete_completed h (congrArg Hst.outst hhst) _ _⟩
  case clear => exact fun h hgood => State.run_answers up h fun c hc => talClearCmd_clears hc hgood
  case clearRefused => exact fun h hbad => State.run_answers up h fun c hc => talClearCmd_refused hc hbad
  case follower =>
    intro d a w hrole hval hoff hopen henc
    have hwrite := Dev.regWrite_talFollower (a := a) hrole hval hoff hopen (henc _ _ Dev.findReg_talCtrl)
    refine ⟨hwrite, ?_⟩
    rintro s rfl up
    exact State.runTal_wrIf up (by simp [rises, hval, hoff]) (congrArg Prod.snd hwrite)

end Sys2Proof.Machine
end

section
/-! SUPPORT. What legs, trips, groups and the grid functions leave of the safety supervisor, and what the supervisor's own faults
leave of its count of exchanges. -/
set_option Elab.async false

namespace Sys2Proof.Machine
namespace Dev

/-! ### Operations that leave the supervisor's state alone -/

/-- `e` has the supervisor's state of `d`. -/
def KeepsSaf (d e : Dev) : Prop := e.saf = d.saf

namespace KeepsSaf

variable {d e : Dev}

theorem refl : KeepsSaf d d := rfl

theorem ite {c : Prop} [Decidable c] {a b : Dev} (ha : KeepsSaf d a) (hb : KeepsSaf d b) : KeepsSaf d (if c then a else b) := by
  split
  · exact ha
  · exact hb

theorem ite_snd {α : Type} {c : Prop} [Decidable c] {a b : α × Dev} (ha : KeepsSaf d a.2) (hb : KeepsSaf d b.2) :
    KeepsSaf d (if c then a else b).2 := by
  split
  · exact ha
  · exact hb

theorem foldl {α : Type} {f : Dev → α → Dev} {l : List α} (h : KeepsSaf d e) (hf : ∀ e x, KeepsSaf d e → KeepsSaf d (f e x)) :
    KeepsSaf d (l.foldl f e) := by
  induction l generalizing e with
  | nil => exact h
  | cons x t ih => exact ih (hf e x h)

theorem fs {F : Fld} {v n : Nat} (h : KeepsSaf d e) : KeepsSaf d (e.fs F v n) := h

theorem raise {ev x : Nat} (h : KeepsSaf d e) : KeepsSaf d (e.raise ev x) := h

theorem updLeg {n : Nat} {f : Leg → Leg} (h : KeepsSaf d e) : KeepsSaf d (e.updLeg n f) := h

theorem updTLeg {n : Nat} {f : TLeg → TLeg} (h : KeepsSaf d e) : KeepsSaf d (e.updTLeg n f) := h

theorem fcnt {F V : Fld} {n : Nat} (h : KeepsSaf d e) : KeepsSaf d (e.fcnt F V n) := .ite h h

theorem fallH {n sub : Nat} (h : KeepsSaf d e) : KeepsSaf d (e.fallH n sub) := .ite h h

theorem fallL {n sub : Nat} (h : KeepsSaf d e) : KeepsSaf d (e.fallL n sub) := .ite h h

theorem turnOnH {n sub : Nat} (h : KeepsSaf d e) : KeepsSaf d (e.turnOnH n sub) := .ite h (.ite h h)

theorem turnOnL {n sub : Nat} (h : KeepsSaf d e) : KeepsSaf d (e.turnOnL n sub) := .ite h (.ite h h)

theorem interlock {n : Nat} (h : KeepsSaf d e) : KeepsSaf d (e.interlock n) := .ite (.updLeg (.ite h h.fcnt)) h

theorem legDrive {n sub : Nat} (h : KeepsSaf d e) : KeepsSaf d (e.legDrive n sub) := by
  have hlow : ∀ {c : Prop} [Decidable c] {e' : Dev}, KeepsSaf d e' → KeepsSaf d (if c then e'.fallH n sub else e') :=
    fun h => .ite h.fallH h
  unfold Dev.legDrive
  refine .ite h.interlock.updLeg ?_
  split
  · exact .ite (.fallL (hlow h.interlock.updLeg)) (hlow h.interlock.updLeg)
  · exact .turnOnL (.turnOnH (.ite (.ite h.interlock h.interlock.fallH) (.fallL (.ite h.interlock h.interlock.fallH))))

theorem imposeSafe {n : Nat} (h : KeepsSaf d e) : KeepsSaf d (e.imposeSafe n) := by
  have hoff : KeepsSaf d ((e.updLeg n fun x => { x with onH := false, onL := false }).fs PWM_LEG_n_CARRY_CARRY 0 n) := h
  unfold Dev.imposeSafe
  dsimp only
  split
  · exact hoff.fallH
  · exact hoff.fallL
  · exact .fallL hoff.fallH

theorem tripSafe {n : Nat} (h : KeepsSaf d e) : KeepsSaf d (e.tripSafe n) := .imposeSafe h.updTLeg

theorem lapse {n : Nat} (h : KeepsSaf d e) : KeepsSaf d (e.lapse n) := .ite h h

theorem nameTwice {n sw : Nat} (h : KeepsSaf d e) : KeepsSaf d (e.nameTwice n sw) := by
  unfold Dev.nameTwice
  split
  · exact .ite h (.legDrive (.raise h.updTLeg))
  · exact h

theorem reactTrip {n sw : Nat} (h : KeepsSaf d e) : KeepsSaf d (e.reactTrip n sw) := by
  unfold Dev.reactTrip
  exact .ite h.tripSafe (.ite (.tripSafe h.raise) (.ite h.tripSafe (.legDrive h.updTLeg)))

theorem setValid {g mask : Nat} (h : KeepsSaf d e) : KeepsSaf d (e.setValid g mask) :=
  .ite (.foldl h fun _ _ h => h) h

theorem grdMasks {island : Bool} (h : KeepsSaf d e) : KeepsSaf d (e.grdMasks island) := .foldl h fun _ _ h => .ite h.setValid h

theorem grdState {st : Nat} (h : KeepsSaf d e) : KeepsSaf d (e.grdState st) := .ite h h

theorem grdLegCheck (h : KeepsSaf d e) : KeepsSaf d e.grdLegCheck := .ite (.grdState (.ite h.grdMasks h)) h

theorem latchTrip {n cause : Nat} (h : KeepsSaf d e) : KeepsSaf d (e.latchTrip n cause) :=
  .ite (.fs h.lapse.nameTwice) (.grdLegCheck (.reactTrip h.lapse))

theorem softTrip {mask : Nat} (h : KeepsSaf d e) : KeepsSaf d (e.softTrip mask) := .foldl h fun _ _ => .latchTrip

theorem grdGo {st : Nat} (h : KeepsSaf d e) : KeepsSaf d (e.grdGo st) := .fs (.ite h.grdState (.fs h.grdState))

theorem updGrd {f : Grd → Grd} (h : KeepsSaf d e) : KeepsSaf d (e.updGrd f) := h

theorem openDone (h : KeepsSaf d e) : KeepsSaf d e.openDone := .ite (.grdGo h.updGrd) h

theorem grdStart (h : KeepsSaf d e) : KeepsSaf d e.grdStart := by
  unfold Dev.grdStart
  exact .ite h (.grdGo h)

theorem grdReport {r : Nat} (h : KeepsSaf d e) : KeepsSaf d (e.grdReport r) := by
  unfold Dev.grdReport
  exact .ite h (.ite (.ite h h.updGrd.grdStart) (.ite h.updGrd.openDone (.ite (.raise (.grdGo h.updGrd.updGrd)) h)))

theorem grdDemand {vpos : Nat} (h : KeepsSaf d e) : KeepsSaf d (e.grdDemand vpos) := by
  have href : ∀ {f}, KeepsSaf d (if e.fg GRD_STAT_STATE = 5 then e.updGrd f else e) := .ite h.updGrd h
  exact .updGrd (.ite_snd (.ite_snd href href) href)

theorem coopPut {region w : Nat} {v : BitVec 32} (h : KeepsSaf d e) : KeepsSaf d (e.coopPut region w v) := .ite h (.ite h h)

theorem nqlTx {dst type cls : Nat} {payload : List Byte} (h : KeepsSaf d e) : KeepsSaf d (e.nqlTx dst type cls payload) := .ite h h

theorem publish {trip : Bool} (h : KeepsSaf d e) : KeepsSaf d (e.publish trip) := by
  have hwrite : KeepsSaf d (e.pubWrite e.pubWords) := .ite (.foldl h fun _ _ => .coopPut) h
  exact .ite hwrite.nqlTx hwrite

theorem grdCount (h : KeepsSaf d e) : KeepsSaf d e.grdCount := .ite h h

theorem disconnect {plain count : Bool} (h : KeepsSaf d e) : KeepsSaf d (e.disconnect plain count) := by
  have hlegs : ∀ {f m}, KeepsSaf d (((e.updGrd f).grdGo 8).softTrip m) := .softTrip (.grdGo h.updGrd)
  unfold Dev.disconnect
  exact .ite h (.ite (.grdCount (.ite hlegs.grdMasks hlegs.softTrip)) (.ite hlegs.grdMasks hlegs.softTrip))

theorem grdOpened (h : KeepsSaf d e) : KeepsSaf d e.grdOpened := .ite (.openDone (.publish (.grdDemand h.disconnect))) h

theorem closeFail (h : KeepsSaf d e) : KeepsSaf d e.closeFail := by
  have hcount : ∀ {f}, KeepsSaf d (((e.updGrd f).fs GRD_STAT_CONTACT_FAIL 1).raise 56).grdCount := .grdCount (.raise (.fs h.updGrd))
  unfold Dev.closeFail
  exact .ite h hcount.updGrd.grdGo

theorem safCount {k : Nat} {lasting : Bool} (h : KeepsSaf d e) : KeepsSaf d (e.safCount k lasting) := .ite h.fcnt h.fcnt

end KeepsSaf

theorem grdReport_saf (d : Dev) (r : Nat) : (d.grdReport r).saf = d.saf := KeepsSaf.refl.grdReport

/-! ### The relay outputs (R255, R256) -/

/-- What the reports do to the supervisor's state. -/
theorem safReports_saf (d : Dev) (f : Nat) : ∃ g, (d.safReports f).saf = (d.updFn f g).saf := by
  unfold safReports
  dsimp only
  split
  · exact ⟨_, grdReport_saf _ _⟩
  · exact ⟨_, rfl⟩

theorem setOut_cmd (d : Dev) (i : Nat) (b : Bool) : (d.setOut i b).saf.cmd = putBit d.saf.cmd i b := by
  obtain ⟨g, hg⟩ := safReports_saf { d with saf := { d.saf with cmd := putBit d.saf.cmd i b } } (i / 2)
  rw [setOut, hg]
  rfl

theorem setOut_diffRun (d : Dev) (i : Nat) (b : Bool) : (d.setOut i b).saf.diffRun = d.saf.diffRun := by
  obtain ⟨g, hg⟩ := safReports_saf { d with saf := { d.saf with cmd := putBit d.saf.cmd i b } } (i / 2)
  rw [setOut, hg]
  rfl

theorem safReports_diffRun (d : Dev) (f : Nat) : (d.safReports f).saf.diffRun = d.saf.diffRun := by
  obtain ⟨g, hg⟩ := safReports_saf d f
  rw [hg]
  rfl

theorem outsOff_diffRun (d : Dev) (f : Nat) : (d.outsOff f).saf.diffRun = d.saf.diffRun := by
  rw [outsOff, setOut_diffRun, setOut_diffRun]

theorem fnDrop_diffRun (d : Dev) (f : Nat) : (d.fnDrop f).saf.diffRun = d.saf.diffRun := by
  unfold fnDrop
  dsimp only
  split <;> exact outsOff_diffRun d f

/-- A relay pair's fault is no exchange. -/
theorem relayFault_diffRun (d : Dev) (f : Nat) (F : Fld) : (d.relayFault f F).saf.diffRun = d.saf.diffRun := by
  have hdrop : ∀ (g : SFn → SFn) k b, (((((d.updFn f g).fs F 1).raise 83).safCount k b).fnDrop f).saf.diffRun = d.saf.diffRun := by
    intro g k b
    have hcount : ((((d.updFn f g).fs F 1).raise 83).safCount k b).saf = (d.updFn f g).saf := KeepsSaf.safCount rfl
    rw [fnDrop_diffRun, hcount]
    rfl
  unfold relayFault
  dsimp only
  split
  · split
    · exact (congrArg Saf.diffRun (KeepsSaf.closeFail rfl)).trans (hdrop ..)
    · exact (congrArg Saf.diffRun (KeepsSaf.grdOpened rfl)).trans (hdrop ..)
  · exact hdrop ..

end Dev
end Sys2Proof.Machine
end

section
/-! SUPPORT. The statement about the safety channels: accepted levels, discrepancies, test pulses, the exchange of vectors (11). -/
set_option Elab.async false

namespace Sys2Proof.Machine
namespace Dev

/-! ### Bits of the outputs -/

theorem testBit_clrBit_ne {i j : Nat} (hij : i ≠ j) (m : Nat) : (clrBit m i).testBit j = m.testBit j := by
  unfold clrBit
  split
  · next h =>
    have hset : setBit (m - 2 ^ i) i = m := by
      have hge : 2 ^ i ≤ m := Nat.ge_two_pow_of_testBit h
      have hclr : (m - 2 ^ i).testBit i = false := by simpa [clrBit, h] using testBit_clrBit m i
      rw [setBit, if_neg (by rw [hclr]; decide), Nat.sub_add_cancel hge]
    rw [← testBit_setBit_ne hij, hset]
  · rfl

theorem setOut_low (d : Dev) (i j : Nat) : (d.setOut i false).saf.cmd.testBit j = (d.saf.cmd.testBit j && decide (i ≠ j)) := by
  rw [setOut_cmd, putBit, if_neg (by decide)]
  by_cases hij : i = j
  · subst hij
    simp [testBit_clrBit]
  · simp [testBit_clrBit_ne hij, hij]

/-- The supervisor's safe state has every relay output low. -/
theorem safAllOff_cmd (d : Dev) (i : Fin 4) : d.safAllOff.saf.cmd.testBit i = false := by
  unfold safAllOff
  simp only [outsOff, setOut_low]
  fin_cases i <;> simp

/-! ### Faults of inputs (R249, R251) -/

theorem fcnt_evt (d : Dev) (F V : Fld) (n : Nat) : (d.fcnt F V n).evt = d.evt := by
  unfold fcnt
  split <;> rfl

theorem safCount_evt (d : Dev) (k : Nat) (b : Bool) : (d.safCount k b).evt = if b then (d.raise 85).evt else d.evt := by
  have hcnt : LeavesClk d (d.fcnt SAF_FLT_k_CNT SAF_FLT_k_CNT_OVF k) := LeavesClk.refl.fcnt
  have hevt : (d.fcnt SAF_FLT_k_CNT SAF_FLT_k_CNT_OVF k).evt = d.evt := fcnt_evt ..
  cases b with
  | true => exact LeavesClk.raise_evt (.fs hcnt.fs) hevt 85 0
  | false => exact hevt

theorem fg_safCount {d : Dev} {F : Fld} {k n : Nat} {b : Bool} (hany : F.key n ≠ SAF_STAT_LATCH_ANY.key 0)
    (hF : F.key n < 32 * 0x20090080) : (d.safCount k b).fg F n = d.fg F n := by
  have hflt : ∀ G : Fld, 0x20090080 ≤ G.base → F.key n ≠ G.key k := by
    intro G hG
    have hkey : G.key k = 32 * (G.base + G.stride * k) + G.lo := rfl
    omega
  have hcnt : (d.fcnt SAF_FLT_k_CNT SAF_FLT_k_CNT_OVF k).fg F n = d.fg F n :=
    fg_fcnt_ne _ _ _ _ _ _ (hflt _ (by decide)) (hflt _ (by decide))
  cases b with
  | true => exact (fg_fs_ne _ _ _ _ _ _ hany).trans ((fg_fs_ne _ _ _ _ _ _ (hflt _ (by decide))).trans hcnt)
  | false => exact hcnt

/-- The fault of an input, before both channels evaluate. -/
def inFaultNoted (d : Dev) (n : Nat) : Dev :=
  let h := d.safHit 1 (vget d.saf.inp n).occ
  ((((d.fsBit SAF_IN_STAT_FAULT n true).fsBit SAF_IN_STAT_DISC_SEEN n true).updIn n fun x => { x with
    occ := h.1, latch := x.latch || h.2, seenDem := false, permitAt := none, held := none }).raise 81 n).safCount 1 h.2

theorem inFault_eq (d : Dev) (n : Nat) : d.inFault n = (d.inFaultNoted n).safEval := rfl

/-- A fault of an input shows, ends its permit, and latches where its class is lasting. -/
theorem inFaultNoted_spec (d : Dev) (n : Fin 8) : (d.inFaultNoted n).fbit SAF_IN_STAT_FAULT n = true ∧
    (vget (d.inFaultNoted n).saf.inp n).permitAt = none ∧
    (vget (d.inFaultNoted n).saf.inp n).latch = ((vget d.saf.inp n).latch || (d.safHit 1 (vget d.saf.inp n).occ).2) ∧
    (d.inFaultNoted n).evt = if (d.safHit 1 (vget d.saf.inp n).occ).2 then ((d.raise 81 n).raise 85).evt else (d.raise 81 n).evt := by
  obtain ⟨h, hh⟩ : ∃ h, d.safHit 1 (vget d.saf.inp n).occ = h := ⟨_, rfl⟩
  obtain ⟨e, he⟩ : ∃ e : Dev, (d.fsBit SAF_IN_STAT_FAULT n true).fsBit SAF_IN_STAT_DISC_SEEN n true = e := ⟨_, rfl⟩
  obtain ⟨x, hx⟩ : ∃ x : SIn, { vget d.saf.inp n with
    occ := h.1, latch := (vget d.saf.inp n).latch || h.2, seenDem := false, permitAt := none, held := none } = x := ⟨_, rfl⟩
  have hnoted : d.inFaultNoted n = (({ e with saf := { d.saf with inp := vset d.saf.inp n x } } : Dev).raise 81 n).safCount 1 h.2 := by
    rw [← hx, ← he, ← hh]
    rfl
  have hclk : LeavesClk d e := he ▸ LeavesClk.refl.fsBit.fsBit
  have hevt : e.evt = d.evt := he ▸ rfl
  have hfault : e.fbit SAF_IN_STAT_FAULT n = true := by
    rw [← he, fbit, fsBit, fg_fs_ne _ _ _ _ _ _ (by decide)]
    exact fbit_fsBit_same (F := SAF_IN_STAT_FAULT) n.isLt d true 0
  have hsaf : (d.inFaultNoted n).saf = { d.saf with inp := vset d.saf.inp n x } := hnoted ▸ KeepsSaf.safCount rfl
  rw [hsaf, hh, vget_vset_same _ _ _ n.isLt, ← hx, hnoted, safCount_evt]
  refine ⟨?_, rfl, rfl, ?_⟩
  · rw [fbit, fg_safCount (by decide) (by decide)]
    exact hfault
  · split
    · exact LeavesClk.raise_evt (d := d.raise 81 n) (e := Dev.raise { e with saf := { d.saf with inp := vset d.saf.inp n x } } 81 n) hclk
        (hclk.raise_evt hevt 81 n) 85 0
    · exact hclk.raise_evt hevt 81 n

/-! ### Cross-comparison (R247, R248) -/

theorem mirrorsJudged_diffRun (d : Dev) (f : Nat) : (d.mirrorsJudged f).saf.diffRun = d.saf.diffRun := by
  unfold mirrorsJudged
  dsimp only
  split
  · rw [feedbackFault, relayFault_diffRun, safReports_diffRun]
  · rfl

theorem mirrorsJudged_off {d : Dev} {f : Nat} (h : (vget d.saf.fn f).st ≠ 2) : d.mirrorsJudged f = d := if_neg (by simp [h])

theorem fnFollow_diffRun (d : Dev) (f : Nat) : (d.fnFollow f).saf.diffRun = d.saf.diffRun := by
  unfold fnFollow
  dsimp only
  split
  · exact outsOff_diffRun d f
  · rfl

theorem fnFollow_closing {d : Dev} {f : Nat} (h : (vget d.saf.fn f).st = 1) : d.fnFollow f = d := if_neg (by simp [h])

theorem dcSecond_diffRun (d : Dev) (got : Bool) : (d.dcSecond got).saf.diffRun = d.saf.diffRun := by
  unfold dcSecond
  dsimp only
  split
  · rfl
  · split
    · exact relayFault_diffRun ..
    · split
      · exact setOut_diffRun ..
      · rfl

theorem dcSecond_off {d : Dev} (h : (vget d.saf.fn 1).phase ≠ 3) (got : Bool) : d.dcSecond got = d := if_pos h

/-- The third differing exchange in a row is a fault. -/
theorem vectorsDiffer_third {d : Dev} (h : d.saf.diffRun = 2) : ∃ e : Dev, d.vectorsDiffer = e.crossFault ∧ e.fg SAF_CHAN_XC_DIFF = 1 ∧
    e.saf.diffRun = 3 := by
  refine ⟨_, if_pos (by rw [h]), fg_fs .., ?_⟩
  rw [fs_saf, dcSecond_diffRun, fnFollow_diffRun, fnFollow_diffRun]
  exact congrArg (fun n => min 3 (n + 1)) h

/-- One differing exchange is counted. -/
theorem vectorsDiffer_first {d : Dev} (h : d.saf.diffRun = 0) (h0 : (vget d.saf.fn 0).st = 1) (h1 : (vget d.saf.fn 1).st = 1)
    (hp : (vget d.saf.fn 1).phase ≠ 3) : d.vectorsDiffer = { d with saf := { d.saf with diffRun := 1, agreeRun := 0 } } := by
  unfold vectorsDiffer
  dsimp only
  rw [h, if_neg (by decide), fnFollow_closing, fnFollow_closing, dcSecond_off]
  · rfl
  · exact hp
  · exact h0
  · rw [fnFollow_closing]
    · exact h1
    · exact h0

/-- A cross-comparison fault, before the supervisor takes its safe state. -/
def crossNoted (d : Dev) : Dev :=
  let h := d.safHit 0 d.saf.occ
  ((((({ d with saf := { d.saf with occ := h.1, latch := d.saf.latch || h.2, agreeRun := 0 } } : Dev).safCount 0 h.2).fs SAF_CHAN_XC_SEEN 1).fs
    SAF_STAT_SAFE_ALL 1).raise 84)

theorem crossFault_eq (d : Dev) : d.crossFault = d.crossNoted.safAllOff.showChan := rfl

theorem showChan_saf (d : Dev) : d.showChan.saf = d.saf := rfl

theorem crossFault_cmd (d : Dev) (i : Fin 4) : d.crossFault.saf.cmd.testBit i = false := by
  rw [crossFault_eq, showChan_saf]
  exact safAllOff_cmd _ i

theorem crossNoted_fg (d : Dev) : d.crossNoted.fg SAF_STAT_SAFE_ALL = 1 ∧ d.crossNoted.fg SAF_CHAN_XC_SEEN = 1 :=
  ⟨fg_fs .., (fg_fs_ne _ _ _ _ _ _ (by decide)).trans (fg_fs ..)⟩

end Dev

theorem vectorExchangeDev_differs {d : Dev} (h : d.fb AON_STAT_XT_OK = true) :
    vectorExchangeDev true d = (((d.finc SAF_CHAN_XC_SEQ).mirrorsJudged 0).mirrorsJudged 1).vectorsDiffer := by
  simp only [vectorExchangeDev, h, Bool.not_true, Bool.false_eq_true, if_false, Bool.true_or, if_true]

/-- Settles O30: a level, a discrepancy, a pulse or an exchange acts where its conditions hold; of a relay pair's fault that an exchange finds the
statement takes that it is none of the differing exchanges counted. -/
theorem safetyChannels : Obligations.SafetyChannels := by
  unfold Obligations.SafetyChannels
  refine fun s up => ⟨?accepted, ?noBank, ?discrepancy, ?pulse, ?check, ?pulseEnd, ?third, ?first, State.runSaf_up up _, fun _ => State.runSaf_up up _, ?crystal, ?cross⟩
  case accepted =>
    rintro ch c n level e hbank hon hen htp rfl
    refine State.runSaf_eq up ?_
    have hview : (if ch.val = 0 then s.dev.fsBit SAF_IN_RAW_A_VIEW (2 * n + c) level else s.dev.fsBit SAF_IN_RAW_B_VIEW (2 * n + c) level) =
        s.dev.fsBit (if ch = 0 then SAF_IN_RAW_A_VIEW else SAF_IN_RAW_B_VIEW) (2 * n + c) level := by
      by_cases h : ch = 0 <;> simp [h]
    simp only [inputAcceptedDev, hbank, hon, hen, htp, hview, Bool.not_true, Bool.false_or, Bool.false_and, Bool.false_eq_true, if_false]
  case noBank =>
    intro ch c n level hbank
    exact State.runSaf_eq up (if_pos (by simp [hbank]))
  case discrepancy =>
    intro n hon hen hfault hdis
    obtain ⟨hshown, hpermit, hlatch, hevt⟩ := s.dev.inFaultNoted_spec n
    have hrow : discrepancyDev n s.dev = (s.dev.inFaultNoted n).safEval := if_pos (by simp [hon, hen, hfault, hdis])
    exact ⟨_, State.runSaf_eq up hrow, hshown, hpermit, fun hhit => ⟨by rw [hevt, hhit]; rfl, by rw [hlatch, hhit, Bool.or_false]⟩,
      fun hhit => ⟨by rw [hevt, hhit]; rfl, by rw [hlatch, hhit, Bool.or_true]⟩⟩
  case pulse =>
    intro src hon hen hsafe hlow
    have hbit : setBit 0 src.val = 2 ^ src.val := by simp [setBit]
    exact State.runSaf_eq up ((if_pos (by simp [hon, hen, hsafe, hlow])).trans (by rw [hbit]))
  case check =>
    intro src n hlow hsafe hen htp hfault
    exact ⟨State.runSaf_eq up (if_pos (by simp [hlow, hsafe, hen, htp, hfault])), State.runSaf_eq up (if_neg (by simp))⟩
  case pulseEnd => exact fun src hlow hsafe => State.runSaf_eq up (if_pos (by simp [hlow, hsafe]))
  case third =>
    intro hxt hrun
    obtain ⟨e, he, hdiff, hrun3⟩ := Dev.vectorsDiffer_third (d := ((s.dev.finc SAF_CHAN_XC_SEQ).mirrorsJudged 0).mirrorsJudged 1)
      (by rw [Dev.mirrorsJudged_diffRun, Dev.mirrorsJudged_diffRun]; exact hrun)
    exact ⟨e, State.runSaf_eq up ((vectorExchangeDev_differs hxt).trans he), hdiff, hrun3⟩
  case first =>
    intro hxt hrun h0 h1 hp
    have hjudged : ((s.dev.finc SAF_CHAN_XC_SEQ).mirrorsJudged 0).mirrorsJudged 1 = s.dev.finc SAF_CHAN_XC_SEQ := by
      rw [Dev.mirrorsJudged_off (f := 0), Dev.mirrorsJudged_off (f := 1)]
      · exact fun h => absurd (h1.symm.trans h) (by decide)
      · exact fun h => absurd (h0.symm.trans h) (by decide)
    have hrow := (vectorExchangeDev_differs hxt).trans (congrArg Dev.vectorsDiffer hjudged)
    exact ⟨_, State.runSaf_eq up (hrow.trans (Dev.vectorsDiffer_first (d := s.dev.finc SAF_CHAN_XC_SEQ) hrun h0 h1 hp)), rfl, Dev.fg_fs ..⟩
  case crystal => exact fun hok => State.runSaf_eq up (if_neg (by simp [hok]))
  case cross => exact ⟨_, s.dev.crossFault_eq, s.dev.crossNoted_fg.1, s.dev.crossNoted_fg.2, s.dev.crossFault_cmd⟩

end Sys2Proof.Machine
end

section
/-! SUPPORT. The statement about relays: the connection check, mirrors, verified reports, off-pulses, the weld test (11). -/
set_option Elab.async false

namespace Sys2Proof.Machine
namespace Dev

/-! ### What a report leaves of the weld test (R256, R261) -/

theorem fg_ite {c : Prop} [Decidable c] {a b e : Dev} {F : Fld} {n : Nat} (ha : a.fg F n = e.fg F n) (hb : b.fg F n = e.fg F n) :
    (if c then a else b).fg F n = e.fg F n := by
  split
  · exact ha
  · exact hb

theorem grdGo_weldBusy (d : Dev) (st : Nat) : (d.grdGo st).fg SAF_RLY_STAT_WELD_BUSY = d.fg SAF_RLY_STAT_WELD_BUSY := fg_grdGo

theorem openDone_weldBusy (d : Dev) : d.openDone.fg SAF_RLY_STAT_WELD_BUSY = d.fg SAF_RLY_STAT_WELD_BUSY := fg_ite (grdGo_weldBusy _ _) rfl

theorem grdStart_weldBusy (d : Dev) : d.grdStart.fg SAF_RLY_STAT_WELD_BUSY = d.fg SAF_RLY_STAT_WELD_BUSY := by
  have hinit : d.grdInit.fg SAF_RLY_STAT_WELD_BUSY = d.fg SAF_RLY_STAT_WELD_BUSY := fg_grdInit d
  rw [grdStart_eq]
  exact fg_ite hinit ((grdGo_weldBusy _ _).trans hinit)

theorem grdReport_weldBusy (d : Dev) (r : Nat) : (d.grdReport r).fg SAF_RLY_STAT_WELD_BUSY = d.fg SAF_RLY_STAT_WELD_BUSY := by
  unfold grdReport
  exact fg_ite rfl (fg_ite (fg_ite rfl (grdStart_weldBusy _)) (fg_ite (openDone_weldBusy _)
    (fg_ite ((fg_raise _ _ _ _ _).trans (grdGo_weldBusy _ _)) rfl)))

theorem safReports_weldBusy (d : Dev) (f : Nat) : (d.safReports f).fg SAF_RLY_STAT_WELD_BUSY = d.fg SAF_RLY_STAT_WELD_BUSY := by
  unfold safReports
  dsimp only
  split
  · exact grdReport_weldBusy _ _
  · rfl

/-- What two functions do to the state of `f` is the same where they agree on it. -/
theorem updFn_congr {d : Dev} {f : Nat} {g h : SFn → SFn} (hgh : g (vget d.saf.fn f) = h (vget d.saf.fn f)) : d.updFn f g = d.updFn f h := by
  rw [updFn, hgh, updFn]

/-- A mirror has taken a level, and the reports follow. -/
def mirrorSeen (d : Dev) (f i : Nat) (level : Bool) : Dev :=
  ((d.fsBit SAF_RLY_STAT_FB (2 * f + i) level).updFn f fun y => { y with seen := setBit y.seen i }).safReports f

theorem mirrorSeen_weldBusy (d : Dev) (f i : Nat) (level : Bool) :
    (d.mirrorSeen f i level).fb SAF_RLY_STAT_WELD_BUSY = d.fb SAF_RLY_STAT_WELD_BUSY :=
  fb_of_fg ((safReports_weldBusy _ _).trans (fg_fs_ne _ _ _ _ _ _ (by decide)))

end Dev

/-! ### The rows -/

/-- A mirror that changes outside an off-pulse and no weld test acts by the state of its function. -/
theorem mirrorDev_changed {d : Dev} {f i : Nat} {level : Bool} (hbank : d.bank3 = true) (hne : d.mirror f i ≠ level)
    (hpulse : (vget d.saf.fn f).pulse = 0) (hquiet : (vget d.saf.fn f).quiet ≤ d.clk.ticks) (hweld : d.fb SAF_RLY_STAT_WELD_BUSY = false) :
    mirrorDev f i level d =
      if (vget d.saf.fn f).st = 1 then (d.mirrorSeen f i level).mirrorInCheck f
      else if (vget d.saf.fn f).st = 2 ∨ ((vget d.saf.fn f).st = 0 ∧ (vget d.saf.fn f).seen.testBit i) then (d.mirrorSeen f i level).feedbackFault f
      else d.mirrorSeen f i level := by
  have hfirst : ¬(!d.bank3 || d.mirror f i == level) = true := by simp [hbank, hne]
  have hignored : ¬(((vget d.saf.fn f).pulse != 0 || decide (d.clk.ticks < (vget d.saf.fn f).quiet)) && (vget d.saf.fn f).st == 2) = true := by
    simp [hpulse, Nat.not_lt.2 hquiet]
  have hbusy : ¬(f = 0 ∧ (d.mirrorSeen f i level).fb SAF_RLY_STAT_WELD_BUSY = true) := by simp [Dev.mirrorSeen_weldBusy, hweld]
  exact (if_neg hfirst).trans ((if_neg hignored).trans (if_neg hbusy))

/-- Mirrors and outputs of the DC function that agree open. -/
theorem relayVerifiedDev_open {d : Dev} (hbank : d.bank3 = true) (hlow : d.outsLow 1 = true) (h0 : d.mirror 1 0 = true)
    (h1 : d.mirror 1 1 = true) (hopen : (vget d.saf.fn 1).openV = false) :
    relayVerifiedDev 1 d = d.updFn 1 fun y => { y with openV := true, st := if (vget d.saf.fn 1).st = 3 then 0 else (vget d.saf.fn 1).st, bad := 0 } := by
  simp only [relayVerifiedDev, hbank, hlow, h0, h1, hopen]
  rfl

/-- Mirrors and outputs of the grid function that agree closed end its check. -/
theorem relayVerifiedDev_closed {d : Dev} (hbank : d.bank3 = true) (hhigh : d.outsHigh 0 = true) (h0 : d.mirror 0 0 = false)
    (h1 : d.mirror 0 1 = false) (hclosed : (vget d.saf.fn 0).closedV = false) (hst : (vget d.saf.fn 0).st = 1) :
    relayVerifiedDev 0 d =
      (d.updFn 0 fun y => { y with closedV := true, st := 2, phase := 0, cause := 255, causeAt := none }).grdReport 2 := by
  have hnew : (d.updFn 0 fun y => if y.st = 1 then { y with closedV := true, st := 2, phase := 0, cause := 255, causeAt := none }
      else { y with closedV := true }) = d.updFn 0 fun y => { y with closedV := true, st := 2, phase := 0, cause := 255, causeAt := none } :=
    Dev.updFn_congr (if_pos hst)
  have hnotlow : ¬(d.outsLow 0 && d.mirror 0 0 && d.mirror 0 1) = true := by simp [h0]
  have hishigh : (d.outsHigh 0 && !d.mirror 0 0 && !d.mirror 0 1) = true := by simp [hhigh, h0, h1]
  have hnotopen : ¬(!d.bank3) = true := by simp [hbank]
  unfold relayVerifiedDev
  dsimp only
  rw [if_neg hnotopen, if_neg hnotlow, if_pos hishigh, if_neg (by simp [hclosed]), if_pos rfl, hnew]

theorem safWeldCmd_starts {d : Dev} {c : Cmd} (hc : c.payload = []) (hrests : d.fnRests 0 = true) (hdem : d.grd.demClose = false)
    (hbusy : d.fb SAF_RLY_STAT_WELD_BUSY = false) :
    safWeldCmd c d = (.owed, { d.fs SAF_RLY_STAT_WELD_BUSY 1 with saf := { d.saf with weldBad := false, weldCmd := some (c.path, c.tag) } }) := by
  unfold safWeldCmd
  rw [if_neg (not_not.2 hc), if_neg (by simp [hrests, hdem, hbusy])]
  rfl

theorem weldEndDev_ends {d e : Dev} {p : Path} {tag : Nat} (hbusy : d.fb SAF_RLY_STAT_WELD_BUSY = true) (hcmd : d.saf.weldCmd = some (p, tag))
    (he : { d.fs SAF_RLY_STAT_WELD_BUSY 0 with saf := { d.saf with weldBad := false, weldCmd := none } } = e) :
    weldEndDev d = (if d.saf.weldBad then e.checkFail 0 else e).complete p tag (if d.saf.weldBad then .fault else .ok) [] := by
  unfold weldEndDev
  rw [if_neg (by simp [hbusy])]
  simp only [hcmd, he]

/-- Settles O31: each row acts on its function by the function's state, as the row's condition selects it; a mirror's change reaches the state
it had, since the reports that follow leave the weld test alone. -/
theorem safetyRelays : Obligations.SafetyRelays := by
  unfold Obligations.SafetyRelays
  refine fun s f p tag up => ⟨?start, ?idle, ?drive, ?failed, ?mirror, ?opening, ?closing, ?verifiedOpen, ?verifiedClosed, ?disagree, ?pulse,
    ?pulseEnd, ?weld, ?weldEnd⟩
  case start =>
    intro hst hopen hcond hwaits hlatched hbusy
    exact State.runSaf_eq up (if_pos ⟨hst, hopen, hcond, hwaits, hlatched, .inr hbusy⟩)
  case idle =>
    intro hcond
    exact State.runSaf_eq up (if_neg (by simp [hcond]))
  case drive =>
    intro hst hphase
    exact State.runSaf_eq up ((if_neg (not_not.2 hst)).trans (if_pos hphase))
  case failed =>
    rintro rfl hst hphase hpin
    refine State.runSaf_eq up ((if_neg (not_not.2 hst)).trans ((if_neg ?_).trans ((if_pos ⟨hphase, rfl⟩).trans (if_neg ?_))))
    · rw [hphase]; decide
    · rw [hpin]; decide
  case mirror =>
    rintro i level e hbank hne hpulse hquiet hweld rfl
    have hrow := mirrorDev_changed hbank hne hpulse hquiet hweld
    refine ⟨fun hst => ?_, fun hst => ?_, fun hst => ?_, fun hst => ?_⟩ <;> refine State.runSaf_eq up (hrow.trans ?_) <;> simp [hst] <;> rfl
  case opening => exact fun hst => State.runSaf_eq up (by simp [feedbackTimeoutDev, hst])
  case closing => exact fun hst hphase => State.runSaf_eq up (if_pos ⟨hst, .inr hphase⟩)
  case verifiedOpen =>
    rintro rfl hbank hlow h0 h1 hopen
    exact State.runSaf_eq up (relayVerifiedDev_open hbank hlow h0 h1 hopen)
  case verifiedClosed =>
    rintro rfl hbank hhigh h0 h1 hclosed hst
    exact State.runSaf_eq up (relayVerifiedDev_closed hbank hhigh h0 h1 hclosed hst)
  case disagree => exact fun hbank hne => State.runSaf_eq up (if_pos (by simp [hbank, hne]))
  case pulse =>
    intro ch hst hcmd
    have hon : ¬((vget s.dev.saf.fn f).st ≠ 2 ∨ s.dev.saf.cmd.testBit (2 * f + ch) = false) := by simp [hst, hcmd]
    exact ⟨State.runSaf_eq up ((if_neg hon).trans (if_pos rfl)), State.runSaf_eq up ((if_neg hon).trans (if_neg (by decide)))⟩
  case pulseEnd =>
    intro ch hpulse
    exact State.runSaf_eq up ((if_neg (by simp [hpulse])).trans (if_pos rfl))
  case weld =>
    rintro e ⟨c, hc, hl⟩ hrests hdem hbusy rfl
    obtain ⟨rfl, htag⟩ := Prod.mk.inj (Dev.startedCmd_key hc)
    exact State.runSaf_eq up (Dev.runCmd_owed hc ((safWeldCmd_starts hl hrests hdem hbusy).trans (by rw [htag])))
  case weldEnd => exact fun e hbusy hcmd he => State.runSaf_eq up (weldEndDev_ends hbusy hcmd he)

end Sys2Proof.Machine
end

section
/-! SUPPORT. The statement about safety messages, the unlock sequence and the configuration records (11). -/
set_option Elab.async false

namespace Sys2Proof.Machine
namespace Dev

/-! ### Copies of a PDU (R264, R265) -/

/-- No connection of the device finds the copy's CRC right. -/
def pduStray (d : Dev) (pdu : List Byte) : Prop :=
  pdu.length = 20 ∧ ∀ c : Fin 8, leAt pdu 16 4 ≠ fcs (leBytes 4 (d.fg SAF_CONN_c_ID_ID c) ++ pdu.take 16)

theorem pduPasses_stray {d : Dev} {pdu : List Byte} (h : d.pduStray pdu) {c : Nat} (hc : c < 8) (i : Nat) : d.pduPasses c i pdu = false := by
  obtain ⟨-, hcrc⟩ := h
  have hbad : (leAt pdu 16 4 == fcs (leBytes 4 (d.fg SAF_CONN_c_ID_ID c) ++ pdu.take 16)) = false := beq_false_of_ne (hcrc ⟨c, hc⟩)
  simp only [pduPasses, hbad, Bool.and_false, Bool.false_and]

theorem foldl_id {α β : Type} {f : β → α → β} {b : β} {l : List α} (h : ∀ x ∈ l, f b x = b) : l.foldl f b = b := by
  induction l with
  | nil => rfl
  | cons x t ih => rw [List.foldl_cons, h x (.head _), ih fun y hy => h y (.tail _ hy)]

/-- Such a copy changes nothing. -/
theorem pduReceive_stray {d : Dev} {pdu : List Byte} (h : d.pduStray pdu) (kind link : Nat) : d.pduReceive kind link pdu = d := by
  unfold pduReceive
  split
  · rfl
  · refine foldl_id fun j hj => if_neg ?_
    rw [pduPasses_stray h (by have := List.mem_range.1 hj; omega), Bool.and_false]
    exact Bool.false_ne_true

/-! ### `SAF_UL_CTRL` (R271) -/

/-- `SAF_UL_CTRL` in the register map. -/
def ulCtrlReg : Reg := ⟨0x20090410, 0x0, 0, 1, [⟨SAF_UL_CTRL_KEY, .WO, .any⟩, ⟨SAF_UL_CTRL_FMASK, .WO, .any⟩, ⟨SAF_UL_CTRL_OP, .WO, .any⟩]⟩

theorem findReg_ulCtrl : findReg (SAF_UL_CTRL_OP.at 0) = some (ulCtrlReg, 0) := rfl

theorem ulCtrl_of_reached {s : FldSpec} (hs : s ∈ ulCtrlReg.flds) (w : Nat) : s.fld.of (reached ulCtrlReg w) = s.fld.of w := by
  have hwo : ∀ s ∈ ulCtrlReg.flds, s.reachable = true := by decide
  exact of_reached (by decide) hs (hwo s hs) w

/-- The fields of `SAF_UL_CTRL` read 0 again once a write has been taken. -/
def ulTaken (d : Dev) : Dev := ((d.fs SAF_UL_CTRL_KEY 0).fs SAF_UL_CTRL_FMASK 0).fs SAF_UL_CTRL_OP 0

theorem fg_ulTaken {F : Fld} {n : Nat} (hF : F.key n / 32 ≠ 0x20090410) (d : Dev) : d.ulTaken.fg F n = d.fg F n := by
  have hreg : ∀ {G : Fld}, G.key 0 / 32 = 0x20090410 → F.key n / 32 ≠ G.key 0 / 32 := fun hG => by rw [hG]; exact hF
  rw [ulTaken, fg_fs_reg (hreg (by decide)), fg_fs_reg (hreg (by decide)), fg_fs_reg (hreg (by decide))]

/-- The signature that stands in `SAF_UL_SIG`. -/
def ulSig (d : Dev) : List Byte := (List.range 16).flatMap fun k => leBytes 4 (d.fg SAF_UL_SIG_k_SIG k)

theorem ulSig_ulTaken (d : Dev) : d.ulTaken.ulSig = d.ulSig := by
  refine List.flatMap_congr fun k hk => ?_
  have hlt := List.mem_range.1 hk
  have hkey : SAF_UL_SIG_k_SIG.key k = 32 * (0x20090420 + 0x4 * k) + 0 := rfl
  rw [fg_ulTaken (by omega)]

/-- A write of `SAF_UL_CTRL` stores nothing. -/
theorem storeWord_ulCtrl (d : Dev) (w : Nat) : d.storeWord ulCtrlReg 0 w = d := rfl

theorem afterReg_ulCtrl (d d0 : Dev) (w : Nat) : d.afterReg d0 ulCtrlReg.base 0 w = d.afterSAF 0x20090410 0 w := rfl

/-- With the key it is a challenge or a request. -/
theorem afterSAF_ulCtrl {d : Dev} {w : Nat} (hkey : ulKey w = true) : d.afterSAF 0x20090410 0 w =
    if SAF_UL_CTRL_OP.of w = 0 then (if d.ulTaken.fb SAF_STAT_UL_LOCK then d.ulTaken else d.ulTaken.challenge)
    else d.ulTaken.unlockStart { op := SAF_UL_CTRL_OP.of w, fmask := SAF_UL_CTRL_FMASK.of w, sig := d.ulTaken.ulSig } (d.ulTaken.fg SAF_UL_ADDR_ADDR) :=
  (if_neg (not_not.2 rfl)).trans (if_neg (by simp [hkey]))

/-- An accepted write of `SAF_UL_CTRL` with the key. -/
theorem regWrite_ulCtrl {d : Dev} {a : Acc} {w : Nat} (hkey : ulKey w = true) (hok : d.accepts a (SAF_UL_CTRL_OP.at 0) w) :
    (d.regWrite a (SAF_UL_CTRL_OP.at 0) w).2 =
      if SAF_UL_CTRL_OP.of w = 0 then (if d.fb SAF_STAT_UL_LOCK then d.ulTaken else d.ulTaken.challenge)
      else d.ulTaken.unlockStart { op := SAF_UL_CTRL_OP.of w, fmask := SAF_UL_CTRL_FMASK.of w, sig := d.ulSig } (d.fg SAF_UL_ADDR_ADDR) := by
  have hkey' : SAF_UL_CTRL_KEY.of (reached ulCtrlReg w) = SAF_UL_CTRL_KEY.of w := ulCtrl_of_reached (.head _) w
  have hmask : SAF_UL_CTRL_FMASK.of (reached ulCtrlReg w) = SAF_UL_CTRL_FMASK.of w := ulCtrl_of_reached (.tail _ (.head _)) w
  have hop : SAF_UL_CTRL_OP.of (reached ulCtrlReg w) = SAF_UL_CTRL_OP.of w := ulCtrl_of_reached (.tail _ (.tail _ (.head _))) w
  have hreg : d.regWrite a (SAF_UL_CTRL_OP.at 0) w = d.writeReg ulCtrlReg 0 w := regWrite_reg findReg_ulCtrl rfl rfl (.inr rfl) rfl rfl
  have hlock : d.ulTaken.fb SAF_STAT_UL_LOCK = d.fb SAF_STAT_UL_LOCK := fb_of_fg (fg_ulTaken (by decide) d)
  have haddr : d.ulTaken.fg SAF_UL_ADDR_ADDR = d.fg SAF_UL_ADDR_ADDR := fg_ulTaken (by decide) d
  have hafter : (d.writeReg ulCtrlReg 0 w).2 = d.afterSAF 0x20090410 0 (reached ulCtrlReg w) := by
    rw [writeReg_ok rfl (hreg ▸ hok), ← storeWord, storeWord_ulCtrl, afterReg_ulCtrl]
  have hnamed : ulKey (reached ulCtrlReg w) = true := by rw [ulKey, hkey', ← ulKey, hkey]
  rw [hreg, hafter, afterSAF_ulCtrl hnamed, hop, hmask, hlock, haddr, ulSig_ulTaken]

/-! ### Challenges and requests (R271, R272) -/

theorem leBytes_length (n v : Nat) : (leBytes n v).length = n := by
  induction n generalizing v with
  | zero => rfl
  | succ n ih => rw [leBytes, List.length_cons, ih]

theorem nonceBytes_length (d : Dev) : d.nonceBytes.length = 16 := by
  simp only [nonceBytes, List.length_flatMap, leBytes_length]
  rfl

theorem recSound_nil : recSound [] = false := rfl

end Dev

/-! ### The rows -/

theorem pduTimeoutDev_first {d : Dev} {c : Nat} (hok : d.fb SAF_CONN_c_STAT_P1_OK c = true) (hvalid : d.fb SAF_CONN_c_STAT_VALID c = false) :
    pduTimeoutDev c 0 d = (((d.fs SAF_CONN_c_STAT_P1_OK 0 c).fs SAF_CONN_c_STAT_LOST_SEEN 1 c).showConn c).safEval := by
  simp only [pduTimeoutDev, if_true, hok, hvalid, Bool.not_true, Bool.false_eq_true, if_false]

theorem pduTimeoutDev_lost {d : Dev} {c : Nat} (hok : d.fb SAF_CONN_c_STAT_P2_OK c = true) (hvalid : d.fb SAF_CONN_c_STAT_VALID c = true) :
    pduTimeoutDev c 1 d = (((d.fs SAF_CONN_c_STAT_P2_OK 0 c).connFault c SAF_CONN_c_STAT_LOST_SEEN).showConn c).safEval := by
  simp only [pduTimeoutDev, Nat.one_ne_zero, if_false, hok, hvalid, Bool.not_true, Bool.false_eq_true, if_true]

theorem pduSendDev_agrees {d e : Dev} {c : Nat} (hon : d.safOn = true) (hen : d.fb SAF_CONN_c_CFG_EN c = true)
    (hdir : d.fb SAF_CONN_c_CFG_DIR c = true) (he : (d.pduSendOn (d.connPath c 0) (d.pduOut c)).pduSendOn (d.connPath c 1) (d.pduOut c) = e) :
    pduSendDev c true d = (e.fs SAF_CONN_c_STAT_LAST_SEQ (vget d.saf.conn c).txSeq c).updConn c fun x =>
      { x with txSeq := ((vget d.saf.conn c).txSeq + 1) % 65536 } := by
  simp only [pduSendDev, hon, hen, hdir, Bool.not_true, Bool.or_self, Bool.false_eq_true, if_false, he]

theorem unlockVerifyDev_asked {d : Dev} {u : Unlock} (hu : d.saf.unl = some u) (bad : Bool) :
    unlockVerifyDev bad d =
      if d.saf.nonce && Config.signatureOk d.sys.running.safeKey
        (d.nonceBytes ++ leBytes 1 u.op ++ leBytes 1 u.fmask ++ leBytes 4 (d.fg SAF_CFG_SEQ_SEQ) ++ u.record) u.sig
      then d.nonceClear.unlockApply u bad else d.nonceClear.authRefused.unlockEnd u 3 .auth := by
  simp only [unlockVerifyDev, hu]

theorem configLoadedDev_empty {d : Dev} (hun : d.fb SAF_STAT_UNCONFIG = true) (ha : d.saf.storeA = []) : configLoadedDev d = d.showChan := by
  simp only [configLoadedDev, hun, ha, Dev.recSound_nil, Bool.not_true, Bool.false_and, Bool.false_eq_true, if_false]

theorem configLoadedDev_sound {d : Dev} (hun : d.fb SAF_STAT_UNCONFIG = true) (ha : Dev.recSound d.saf.storeA = true)
    (hb : d.saf.storeB = d.saf.storeA) : configLoadedDev d = (d.recLoad d.saf.storeA).safRelease := by
  simp only [configLoadedDev, hun, hb, ha, Bool.not_true, Bool.false_eq_true, if_false, Bool.and_self, BEq.rfl, if_true]

/-- `SAF_UNLOCK` asks for an acknowledge of faults. -/
theorem safUnlockCmd_faultAck {d : Dev} {c : Cmd} (hlock : d.fb SAF_STAT_UL_LOCK = false) (hlen : c.payload.length = 72)
    (hop : byteAt c.payload 0 = 2) (hres : leAt c.payload 2 2 = 0) (haddr : leAt c.payload 4 4 = 0) (hun : d.saf.unl = none) :
    safUnlockCmd c d =
      (.owed, d.unlockStart { op := 2, fmask := byteAt c.payload 1, sig := c.payload.drop 8, cmd := some (c.path, c.tag) } 0) := by
  simp [safUnlockCmd, hlock, hlen, hop, hres, haddr, hun]

/-- A started command of the supervisor's that it answers at once. -/
theorem State.runSaf_replies {s : State} {op : Nat} {p : Path} {tag : Byte} {l : List Byte} {f : Cmd → Dev → Res × Dev} {e : Dev} {st : St}
    {b : List Byte} (up : s.up) (h : s.dev.started p tag op l) (hf : ∀ c : Cmd, c.payload = l → f c s.dev = (.reply st b, e)) :
    s.runSaf (fun d => d.runCmd op p tag f) = .next (s.toSaf (e.complete p tag.toNat st b)) := by
  obtain ⟨c, hc, hl⟩ := h
  exact State.runSaf_eq up (Dev.runCmd_reply hc (hf c hl))

/-- A write that the supervisor takes. -/
theorem State.runSaf_wrIf {s : State} {p : Dev → Bool} {acc : Acc} {a w : Nat} {e : Dev} (up : s.up) (hp : p s.dev = true)
    (hw : (s.dev.regWrite acc a w).2 = e) : s.runSaf (wrIf p acc a w) = .next (s.toSaf e) :=
  State.runSaf_eq up ((if_pos hp).trans hw)

/-- Settles O32: a copy, a timer or a request acts where its conditions hold; a write of `SAF_UL_CTRL` with the key leaves its fields 0 and is the
challenge or the request that its `OP` names. -/
theorem safetyMessages : Obligations.SafetyMessages := by
  unfold Obligations.SafetyMessages
  refine fun s a p tag up => ⟨?received, ?stray, ?first, ?lost, ?send, ?challenge, ?request, ?verified, ?expiry, ?empty, ?sound, ?read,
    ?challengeCmd, ?unlock, ?locked⟩
  case received =>
    intro kind link pdu hon href
    have hclock : Dev.clocked (fun d => d.pduReceive kind link pdu) s.dev = s.dev.pduReceive kind link pdu := if_pos href
    exact State.runSaf_eq up (hclock.trans (if_neg (by simp [hon])))
  case stray =>
    intro kind link pdu hlen hcrc
    have hsame : Dev.clocked (fun d => d.pduReceive kind link pdu) s.dev = s.dev := by
      rw [Dev.clocked, Dev.pduReceive_stray ⟨hlen, hcrc⟩, ite_self]
    exact State.runSaf_eq up hsame
  case first => exact fun c hok hvalid => State.runSaf_eq up (pduTimeoutDev_first hok hvalid)
  case lost => exact fun c hok hvalid => State.runSaf_eq up (pduTimeoutDev_lost hok hvalid)
  case send =>
    intro c e hon hen hdir he
    exact ⟨State.runSaf_eq up (if_pos rfl), State.runSaf_eq up (pduSendDev_agrees hon hen hdir he)⟩
  case challenge =>
    intro val hkey hop hlock hok
    exact ⟨_, State.runSaf_wrIf up (by simp [hkey, hop]) ((Dev.regWrite_ulCtrl hkey hok).trans ((if_pos hop).trans (if_neg (by simp [hlock])))),
      rfl⟩
  case request =>
    intro val hkey hok
    have hwrite := Dev.regWrite_ulCtrl hkey hok
    refine ⟨s.dev.ulTaken, rfl, rfl, ?_, ?_, ?_⟩ <;> intro hop <;>
      exact State.runSaf_wrIf up (by simp [hkey, hop]) (hwrite.trans (by rw [if_neg (by rw [hop]; decide), hop]; rfl))
  case verified =>
    rintro u bad msg good hu rfl rfl
    exact State.runSaf_eq up (unlockVerifyDev_asked hu bad)
  case expiry => exact fun hn hu ht => State.runSaf_eq up (if_pos (by simp [hn, hu, ht]))
  case empty => exact fun hun ha => State.runSaf_eq up (configLoadedDev_empty hun ha)
  case sound => exact fun hun ha hb => State.runSaf_eq up (configLoadedDev_sound hun ha hb)
  case read =>
    intro h hun
    exact State.run_answers up h fun c hc => by simp [safReadCfgCmd, hc, byteAt, hun]
  case challengeCmd =>
    intro h hlock
    exact ⟨State.runSaf_replies up h fun c hc => (if_neg (not_not.2 hc)).trans (if_neg (by simp [hlock])), rfl, Dev.nonceBytes_length _⟩
  case unlock =>
    rintro b ⟨c, hc, rfl⟩ hlen hop hres haddr hun hlock u rfl
    obtain ⟨rfl, htag⟩ := Prod.mk.inj (Dev.startedCmd_key hc)
    exact State.runSaf_eq up (Dev.runCmd_owed hc ((safUnlockCmd_faultAck hlock hlen hop hres haddr hun).trans (by rw [htag])))
  case locked => exact fun b h hlock => State.runSaf_replies up h fun c hc => if_pos hlock

end Sys2Proof.Machine
end

section
/-! SUPPORT. The statements about the host's interrupt line and the transactions of the host port (12). -/
set_option Elab.async false

namespace Sys2Proof.Machine

/-- Settles O5: the line is low where one of the four causes is pending and unmasked, which is how the model composes it. -/
theorem hostInterruptLine : Obligations.HostInterruptLine := by
  unfold Obligations.HostInterruptLine
  intro d
  have hline : d.hirqN = false ↔ d.hirq = true := by rw [Dev.hirqN, Bool.not_eq_false']
  rw [hline, Dev.hirq]
  simp only [Dev.fbit, Bool.or_eq_true, Bool.and_eq_true, or_assoc, and_comm]

namespace Dev

/-! ### Memory-mapped access (R9) -/

theorem hostPut_memory {a : Nat} (hregs : inRegs a = false) (hcoop : inCoop a = false) (d : Dev) (l : List Byte) : d.hostPut a l = d.wrN a l :=
  if_neg (by simp [hregs, hcoop])

/-- Four bytes written to register space are one register write. -/
theorem hostPut_reg {a : Nat} (hregs : inRegs a = true) (h4 : a % 4 = 0) (d : Dev) {l : List Byte} (hl : l.length = 4) :
    d.hostPut a l = (d.regWrite .mm a (leAt l 0 4)).2 := by
  have hone : d.hostPut a l = d.hostWords a 1 l := (if_pos (by simp [hregs])).trans ((if_pos h4).trans (by rw [hl]))
  exact hone.trans (if_pos hregs)

/-! ### Acceptance of commands (R284, R287, R289) -/

/-- A packet's framing is sound, its tag is free, its reserved bits are 0, and the version, the identifier and the buffer allow it. -/
structure Acceptable (d : Dev) (p : Path) (pkt : List Byte) (w : Nat) : Prop where
  frame : frameOk pkt = true
  word : leAt pkt 0 2 = w
  free : (d.findCmd p (byteAt pkt 2)).isSome = false
  flags : byteAt pkt 3 < 8
  res6 : byteAt pkt 6 = 0
  res7 : byteAt pkt 7 = 0
  urgent : (byteAt pkt 3).testBit 2 = false ∨ d.pathVer p ≠ 1
  version : if w % 4096 = 1 then 1 ≤ w / 4096 ∧ w / 4096 ≤ 3 else w / 4096 = d.pathVer p
  ident : leAt pkt 8 4 = d.pathId p
  room : d.hst.outst.length < 256
  bytes : (d.hst.outst.map fun c => c.payload.length + 16).sum + pkt.length ≤ 65536

/-- Such a packet becomes an outstanding command. -/
theorem acceptCmd_accepts {d : Dev} {p : Path} {pkt : List Byte} {w : Nat} (h : d.Acceptable p pkt w) : d.acceptCmd p pkt =
    ({ d with hst := { d.hst with outst := d.hst.outst ++ [{
      path := p, tag := byteAt pkt 2, ver := w / 4096, op := w % 4096, barrier := (byteAt pkt 3).testBit 0 || w % 4096 == 1,
      noreply := (byteAt pkt 3).testBit 1, urgent := (byteAt pkt 3).testBit 2, payload := pkt.drop 16 }] } } : Dev).showOutst := by
  have hflags : ¬(byteAt pkt 3 / 8 ≠ 0 ∨ byteAt pkt 6 ≠ 0 ∨ byteAt pkt 7 ≠ 0 ∨ ((byteAt pkt 3).testBit 2 = true ∧ d.pathVer p = 1)) := by
    have hdiv : byteAt pkt 3 / 8 = 0 := Nat.div_eq_of_lt h.flags
    rcases h.urgent with hu | hu <;> simp [hdiv, h.res6, h.res7, hu]
  have hver : ¬((w % 4096 = 1 ∧ (w / 4096 = 0 ∨ 3 < w / 4096)) ∨ (w % 4096 ≠ 1 ∧ w / 4096 ≠ d.pathVer p)) := by
    have hv := h.version
    split at hv <;> omega
  have hroom : ¬(256 ≤ d.hst.outst.length ∨ 65536 < (d.hst.outst.map fun c => c.payload.length + 16).sum + pkt.length) := by
    have hlen := h.room
    have hbytes := h.bytes
    omega
  unfold acceptCmd
  rw [h.word]
  exact (if_neg (by simp [h.frame])).trans ((if_neg (by simp [h.free])).trans ((if_neg hflags).trans ((if_neg hver).trans
    ((if_neg (not_not.2 h.ident)).trans (if_neg hroom)))))

theorem acceptCmd_frameError {d : Dev} {p : Path} {pkt : List Byte} (h : frameOk pkt = false) : d.acceptCmd p pkt = d.frameError :=
  if_pos (by simp [h])

end Dev

/-! ### The rows -/

/-- A row that can reach both Tallyman and the supervisor, out of reset, by what its effect comes to. -/
theorem State.runAll_eq {s : State} {f : Dev → Dev} {e : Dev} (up : s.up) (h : f s.dev = e) : s.runAll f = .next (s.toAll e) :=
  h ▸ State.runAll_up up f

/-- A read of register space that goes on for a word or more: one access, then zeros. -/
theorem hostReadDev_reg {a len v : Nat} {d e : Dev} (hregs : inRegs a = true) (hlive : d.aonDead a = false) (hread : d.regRead .mm a = (v, e))
    (hlen : 4 ≤ len) : hostReadDev a len d = e.drive (leBytes 1 0x5A ++ leBytes 4 v ++ List.replicate (len - 4) 0) := by
  have hall : (leBytes 4 v ++ List.replicate (len - 4) (0 : Byte)).take len = leBytes 4 v ++ List.replicate (len - 4) 0 := by
    refine List.take_of_length_le ?_
    rw [List.length_append, Dev.leBytes_length, List.length_replicate]
    omega
  simp only [hostReadDev, hregs, hlive, hread, hall, if_true, Bool.false_eq_true, if_false, List.append_assoc]

theorem hostReadDev_memory {a : Nat} (hregs : inRegs a = false) (hcoop : Dev.inCoop a = false) (len : Nat) (d : Dev) :
    hostReadDev a len d = d.drive (leBytes 1 0x5A ++ d.hostBytes a len) :=
  (if_neg (by simp [hregs])).trans (if_neg (by simp [hcoop]))

theorem postedPerformDev_oldest {d : Dev} {a : Nat} {l : List Byte} {t : List (Nat × List Byte)} (h : d.hst.posted = (a, l) :: t) :
    postedPerformDev d = ({ d with hst := { d.hst with posted := t } } : Dev).hostPut a l := by
  simp only [postedPerformDev, h]

theorem hostReplyDev_oldest {d : Dev} {p : List Byte} {t : List (List Byte)} (h : d.hst.replies = p :: t) : hostReplyDev d =
    (({ d with hst := { d.hst with replies := t } } : Dev).fs HST_IRQ_REPLY (b2n !t.isEmpty)).drive (leBytes 2 p.length ++ p) := by
  simp only [hostReplyDev, h]

theorem hostReplyDev_none {d : Dev} (h : d.hst.replies = []) : hostReplyDev d = d.drive [0, 0] := by
  simp only [hostReplyDev, h]
  rfl

theorem badInstrDev_unknown {b : Byte} (h : b ≠ 0x02 ∧ b ≠ 0x0B ∧ b ≠ 0x05 ∧ b ≠ 0x10 ∧ b ≠ 0x11) (d : Dev) :
    badInstrDev b.toNat d = d.fs HST_STAT_BAD_INSTR 1 := by
  refine if_neg ?_
  simp only [ne_eq, ← BitVec.toNat_inj] at h
  simpa using h

/-- Settles O33: a write is posted or refused by the room left, and performed by where its address lies; a packet that meets every condition of
acceptance becomes a command. -/
theorem hostTransactions : Obligations.HostTransactions := by
  unfold Obligations.HostTransactions
  refine fun s up => ⟨?posted, ?full, ?performMemory, ?performReg, ?readReg, ?readMemory, fun _ => State.run_up up _, State.run_up up _,
    ?accepted, ?frameError, ?reply, ?noReply, ?badInstr⟩
  case posted => exact fun addr data h => State.run_eq up (if_neg (Nat.not_lt.2 h))
  case full => exact fun addr data h => State.run_eq up (if_pos h)
  case performMemory =>
    intro a l t h hregs hcoop
    exact State.runAll_eq up ((postedPerformDev_oldest h).trans (Dev.hostPut_memory hregs hcoop _ _))
  case performReg =>
    intro a l t h hregs h4 hl
    exact State.runAll_eq up ((postedPerformDev_oldest h).trans (Dev.hostPut_reg hregs h4 _ hl))
  case readReg => exact fun addr len v e hregs hlive hread hlen => State.run_eq up (hostReadDev_reg hregs hlive hread hlen)
  case readMemory => exact fun addr len hregs hcoop => State.run_eq up (hostReadDev_memory hregs hcoop len _)
  case accepted =>
    rintro pkt w c hframe hw hfree hfl h6 h7 hu hver hid hroom hbytes rfl
    exact State.run_eq up (Dev.acceptCmd_accepts ⟨hframe, hw, hfree, hfl, h6, h7, hu, hver, hid, hroom, hbytes⟩)
  case frameError => exact fun pkt h => State.run_eq up (Dev.acceptCmd_frameError h)
  case reply => exact fun p t h => State.run_eq up (hostReplyDev_oldest h)
  case noReply => exact fun h => State.run_eq up (hostReplyDev_none h)
  case badInstr => exact fun b h1 h2 h3 h4 h5 => State.run_eq up (badInstrDev_unknown ⟨h1, h2, h3, h4, h5⟩ _)

end Sys2Proof.Machine
end

section
/-! SUPPORT. The statements about the life of a command and about the system commands (12). -/
set_option Elab.async false

namespace Sys2Proof.Machine
namespace Dev

/-! ### Start (R288, R290, R386) -/

theorem startCmd_held {d : Dev} {p : Path} {tag : Nat} {c : Cmd} (hc : d.findCmd p tag = some c) (h : d.mayStart c = false) :
    d.startCmd p tag = d := by
  simp only [startCmd, hc, h, Bool.not_false, if_true]

/-- A command that may start, by whether its opcode is known and served in the present boot state. -/
theorem startCmd_starts {d e : Dev} {p : Path} {tag : Nat} {c : Cmd} (hc : d.findCmd p tag = some c) (h : d.mayStart c = true)
    (he : d.updCmd p tag (fun x => { x with started := true }) = e) : d.startCmd p tag =
      if !opKnown c.op then e.complete p tag .range []
      else if d.fg SYS_BOOT_STAT_STATE ≠ 4 ∧ bootOp c.op = false then e.complete p tag .state [] else e := by
  subst he
  simp only [startCmd, hc, h, Bool.not_true, Bool.false_eq_true, if_false]
  rfl

/-- A command of its block is under way. -/
theorem mayStart_blockBusy {d : Dev} {c x : Cmd} (hx : x ∈ d.hst.outst) (hblock : opBlock x.op = opBlock c.op) (hstart : x.started = true)
    (hdone : x.done = none) (halone : x.op ≠ 0x502 ∧ x.op ≠ 0x907 ∨ x.ran = false) : d.mayStart c = false := by
  have hholds : cmdHolds x = true := by
    rcases halone with ⟨h1, h2⟩ | hran
    · simp [cmdHolds, overlaps, hstart, hdone, h1, h2]
    · simp [cmdHolds, hstart, hdone, hran]
  have hall : (d.hst.outst.all fun x => !(opBlock x.op == opBlock c.op && cmdHolds x)) = false :=
    List.all_eq_false.2 ⟨x, hx, by simp [hblock, hholds]⟩
  simp only [mayStart, hall, Bool.and_false, Bool.false_and]

/-- A barrier accepted before it on its path has not completed. -/
theorem mayStart_barred {d : Dev} {c x : Cmd} (hx : x ∈ earlier c.path c.tag d.hst.outst) (hpath : x.path = c.path) (hbar : x.barrier = true)
    (hdone : x.done = none) (hurgent : c.urgent = false) : d.mayStart c = false := by
  have hall : ((earlier c.path c.tag d.hst.outst).all fun x => x.path != c.path || !x.barrier || x.done.isSome) = false :=
    List.all_eq_false.2 ⟨x, hx, by simp [hpath, hbar, hdone]⟩
  simp only [mayStart, hurgent, hall, Bool.false_or, Bool.and_false]

/-! ### Completion and reply (R287, R288) -/

theorem noReply_found {d : Dev} {p : Path} {tag : Nat} {c : Cmd} (hc : d.findCmd p tag = some c) : d.noReply p tag = c.noreply := by
  rw [noReply, hc, Option.any_some]

theorem releaseReply_waiting {d : Dev} {p : Path} {tag : Nat} {c : Cmd} (hc : d.findCmd p tag = some c) (hdone : c.done = none) :
    d.releaseReply p tag = d := by
  simp only [releaseReply, hc, hdone]

/-- Under version 1 a reply waits for those of the commands accepted before it. -/
theorem releaseReply_ordered {d : Dev} {p : Path} {tag : Nat} {c : Cmd} {st : St} {b : List Byte} (hc : d.findCmd p tag = some c)
    (hdone : c.done = some (st, b)) (hver : d.pathVer p = 1) (hearlier : (earlier p tag d.hst.outst).any (fun x => x.path == p) = true) :
    d.releaseReply p tag = d := by
  simp only [releaseReply, hc, hdone, hver, hearlier, and_self, if_true]

theorem releaseReply_leaves {d : Dev} {p : Path} {tag : Nat} {c : Cmd} {st : St} {b : List Byte} (hc : d.findCmd p tag = some c)
    (hdone : c.done = some (st, b)) (hfirst : d.pathVer p = 1 → (earlier p tag d.hst.outst).any (fun x => x.path == p) = false) :
    d.releaseReply p tag = (d.dropCmd p tag).sendReply p
      (d.packet p (if c.op = 1 ∧ st = .ok then d.pathVer p else c.ver) c.op c.tag 0x80 st.code b) := by
  have hgo : ¬(d.pathVer p = 1 ∧ (earlier p tag d.hst.outst).any (fun x => x.path == p) = true) := by
    rintro ⟨hver, hany⟩
    rw [hfirst hver] at hany
    cases hany
  simp only [releaseReply, hc, hdone, if_neg hgo]

/-- Sending on a session leaves the state of SYS and of HST alone. -/
theorem sessSend_parts (d : Dev) (n ty : Nat) (m : List Byte) : (d.sessSend n ty m).sys = d.sys ∧ (d.sessSend n ty m).hst = d.hst := by
  unfold sessSend
  split
  · exact ⟨rfl, rfl⟩
  · split
    · split <;> exact ⟨rfl, rfl⟩
    · split
      · exact ⟨rfl, rfl⟩
      · split <;> exact ⟨rfl, rfl⟩

theorem sendReply_sys (d : Dev) (p : Path) (pkt : List Byte) : (d.sendReply p pkt).sys = d.sys := by
  cases p with
  | host => rfl
  | sess n => exact (sessSend_parts ..).1

theorem resetFollows_none {d : Dev} (h : d.sys.rstOwed = none) (p : Path) (tag : Nat) : d.resetFollows p tag = d :=
  if_neg (by simp [h])

end Dev

/-- Where no reset is owed a reply leaves and nothing follows it. -/
theorem replyReleaseDev_plain {d e : Dev} {p : Path} {tag : Nat} (he : d.releaseReply p tag = e) (hsys : e.sys.rstOwed = none) :
    replyReleaseDev p tag d = e := by
  rw [replyReleaseDev, he, Dev.resetFollows_none hsys]

theorem accessTimeoutDev_ends {d e : Dev} {p : Path} {tag : Nat} {c : Cmd} (hc : d.findCmd p tag = some c) (hop : c.op ∈ [3, 4, 5, 6, 8])
    (hstart : c.started = true) (hdone : c.done = none) (hwait : c.ran = false ∨ (p, tag) ∈ d.hst.slow)
    (he : { d with hst := { d.hst with slow := d.hst.slow.filter fun x => x != (p, tag) } } = e) :
    accessTimeoutDev p tag d = e.complete p tag .timeout [] := by
  have hends : (c.started && c.done.isNone && (([3, 4, 5, 6, 8].contains c.op && !c.ran) || d.hst.slow.contains (p, tag))) = true := by
    have hmem : [3, 4, 5, 6, 8].contains c.op = true := List.contains_iff_mem.2 hop
    rcases hwait with hran | hslow
    · simp only [hstart, hdone, hran, hmem, Option.isNone_none, Bool.not_false, Bool.and_self, Bool.true_or]
    · simp [hstart, hdone, hslow]
  simp only [accessTimeoutDev, hc, if_pos hends, he]

/-- Settles O34: a command starts where nothing holds it, ends by its time-out, and its reply leaves unless the order of version 1 keeps it. -/
theorem commandLife : Obligations.CommandLife := by
  unfold Obligations.CommandLife
  refine fun s p tag c up hc => ⟨?starts, ?held, ?leaves, ?ordered, ?replies, ?suppressed, ?busy, ?barred, ?waiting, ?timeout⟩
  case starts =>
    intro e hmay he
    have hrow := Dev.startCmd_starts hc hmay he
    refine ⟨fun hknown hserved => ?_, fun hknown => ?_, fun hknown hboot hop => ?_⟩
    · have hgo : ¬(s.dev.fg SYS_BOOT_STAT_STATE ≠ 4 ∧ Dev.bootOp c.op = false) := by
        rcases hserved with h | h <;> simp [h]
      exact State.run_eq up (hrow.trans ((if_neg (by simp [hknown])).trans (if_neg hgo)))
    · exact State.run_eq up (hrow.trans (if_pos (by simp [hknown])))
    · exact State.run_eq up (hrow.trans ((if_neg (by simp [hknown])).trans (if_pos ⟨hboot, hop⟩)))
  case held => exact fun hmay => State.run_eq up (Dev.startCmd_held hc hmay)
  case leaves =>
    intro st b hdone hfirst howed
    exact State.runAll_eq up (replyReleaseDev_plain (Dev.releaseReply_leaves hc hdone hfirst) (by rw [Dev.sendReply_sys]; exact howed))
  case ordered =>
    intro st b hdone hver hearlier howed
    exact State.runAll_eq up (replyReleaseDev_plain (Dev.releaseReply_ordered hc hdone hver hearlier) howed)
  case replies =>
    intro st b hno
    refine if_neg ?_
    rintro ⟨hst, hsup⟩
    rw [Dev.noReply_found hc, hno hst] at hsup
    cases hsup
  case suppressed => exact fun hno b => ⟨if_pos ⟨rfl, (Dev.noReply_found hc).trans hno⟩, Dev.findCmd_dropCmd ..⟩
  case busy => exact fun x hx hblock hstart hdone halone => Dev.mayStart_blockBusy hx hblock hstart hdone halone
  case barred => exact fun x hx hpath hbar hdone hurgent => Dev.mayStart_barred hx hpath hbar hdone hurgent
  case waiting => exact fun hdone howed => State.runAll_eq up (replyReleaseDev_plain (Dev.releaseReply_waiting hc hdone) howed)
  case timeout => exact fun e hop hstart hdone hwait he => State.run_eq up (accessTimeoutDev_ends hc hop hstart hdone hwait he)

/-! ### The system commands (R289 to R291) -/

/-- A started command that may reach Tallyman and the supervisor and that is answered at once. -/
theorem State.runAll_replies {s : State} {op : Nat} {p : Path} {tag : Byte} {l : List Byte} {f : Cmd → Dev → Res × Dev} {e : Dev} {st : St}
    {b : List Byte} (up : s.up) (h : s.dev.started p tag op l) (hf : ∀ c : Cmd, c.payload = l → f c s.dev = (.reply st b, e)) :
    s.runAll (fun d => d.runCmd op p tag f) = .next (s.toAll (e.complete p tag.toNat st b)) := by
  obtain ⟨c, hc, hl⟩ := h
  exact State.runAll_eq up (Dev.runCmd_reply hc (hf c hl))

/-- The same where the answer depends on the path that asks. -/
theorem State.run_answersPath {s : State} {op : Nat} {p : Path} {tag : Byte} {l : List Byte} {f : Cmd → Dev → Res × Dev} {e : Dev} {st : St}
    {b : List Byte} (up : s.up) (h : s.dev.started p tag op l)
    (hf : ∀ c : Cmd, c.payload = l → c.path = p → c.tag = tag.toNat → f c s.dev = (.reply st b, e)) :
    s.run (fun d => d.runCmd op p tag f) = .next (s.answer e p tag st b) := by
  obtain ⟨c, hc, hl⟩ := h
  obtain ⟨hp, ht⟩ := Prod.mk.inj (Dev.startedCmd_key hc)
  exact State.run_eq up (Dev.runCmd_reply hc (hf c hl hp ht))

theorem Dev.pathVer_setPathVer {v : Nat} (hv : v ≤ 3) (d : Dev) (p : Path) : (d.setPathVer p v).pathVer p = v := by
  cases p with
  | host => exact (Dev.fg_fs ..).trans (Nat.mod_eq_of_lt (lt_of_le_of_lt hv (by decide)))
  | sess n => exact vget_vset_same _ _ _ n.isLt

section
variable {c : Cmd} {d : Dev}

theorem helloCmd_agrees {v : Nat} (hlen : c.payload.length = 2) (hv : min (byteAt c.payload 0) 3 = v) (hle : max (byteAt c.payload 1) 1 ≤ v) :
    helloCmd c d = (.reply .ok (leBytes 2 v ++ leBytes 2 16384 ++ (d.setPathVer c.path v).words [0x20000000, 0x200A0008]), d.setPathVer c.path v) := by
  simp only [helloCmd, hv, if_neg (not_not.2 hlen), if_neg (Nat.not_lt.2 hle)]

theorem helloCmd_refuses (hlen : c.payload.length = 2) (h : min (byteAt c.payload 0) 3 < max (byteAt c.payload 1) 1) :
    helloCmd c d = (.reply .version [], d) := by
  simp only [helloCmd, if_neg (not_not.2 hlen), if_pos h]
  rfl

theorem regReadCmd_reads {e : Dev} {l : List Byte} (hlen : c.payload.length = 6) (h1 : 1 ≤ leAt c.payload 4 2) (h256 : leAt c.payload 4 2 ≤ 256)
    (hspan : Dev.regSpan (leAt c.payload 0 4) (leAt c.payload 4 2) = true)
    (hread : d.cmdReadN (leAt c.payload 0 4) (leAt c.payload 4 2) = (.ok, l, e)) : regReadCmd c d = (.reply .ok l, e) := by
  have hrange : ¬(c.payload.length ≠ 6 ∨ leAt c.payload 4 2 = 0 ∨ 256 < leAt c.payload 4 2 ∨
      Dev.regSpan (leAt c.payload 0 4) (leAt c.payload 4 2) = false) := by
    rw [hspan]
    simp only [Bool.true_eq_false, or_false]
    omega
  simp only [regReadCmd, if_neg hrange, hread]

theorem regWriteCmd_writes {e : Dev} {st : St} {k : Nat} (h8 : 8 ≤ c.payload.length) (h4 : c.payload.length % 4 = 0)
    (hmax : c.payload.length ≤ 1028) (hspan : Dev.regSpan (leAt c.payload 0 4) ((c.payload.length - 4) / 4) = true)
    (hwrite : d.cmdWriteN (leAt c.payload 0 4) ((c.payload.length - 4) / 4) (c.payload.drop 4) = (st, k, e)) (hst : st ≠ .timeout) :
    regWriteCmd c d = (.reply st (leBytes 2 k), e) := by
  have hrange : ¬(c.payload.length < 8 ∨ c.payload.length % 4 ≠ 0 ∨ 256 < (c.payload.length - 4) / 4 ∨
      Dev.regSpan (leAt c.payload 0 4) ((c.payload.length - 4) / 4) = false) := by
    rw [hspan]
    simp only [Bool.true_eq_false, or_false]
    omega
  simp only [regWriteCmd, if_neg hrange, hwrite]

theorem memReadCmd_reads {n : Nat} (hlen : c.payload.length = 8) (hn : leAt c.payload 4 4 = n) (h1 : 1 ≤ n) (hmax : n ≤ 32768)
    (hkind : d.memKind (leAt c.payload 0 4) n = 1 ∨ d.memKind (leAt c.payload 0 4) n = 2) :
    memReadCmd c d = (.reply .ok (d.hostBytes (leAt c.payload 0 4) n), d) := by
  subst hn
  have hrange : ¬(c.payload.length ≠ 8 ∨ leAt c.payload 4 4 = 0 ∨ 32768 < leAt c.payload 4 4 ∨
      d.memKind (leAt c.payload 0 4) (leAt c.payload 4 4) = 0) := by omega
  have hdram : ∀ q : Prop, ¬(d.memKind (leAt c.payload 0 4) (leAt c.payload 4 4) = 3 ∧ q) := fun q h => by omega
  exact (if_neg hrange).trans ((if_neg (hdram _)).trans (if_neg (hdram _)))

section
variable (h5 : 5 ≤ c.payload.length) (hmax : c.payload.length ≤ 16380)
include h5 hmax

theorem memWriteCmd_sram (hkind : d.memKind (leAt c.payload 0 4) (c.payload.length - 4) = 1) :
    memWriteCmd c d = (.reply .ok [], d.wrN (leAt c.payload 0 4) (c.payload.drop 4)) := by
  have hrange : ¬((c.payload.drop 4).length = 0 ∨ 16376 < (c.payload.drop 4).length ∨
      d.memKind (leAt c.payload 0 4) (c.payload.drop 4).length = 0) := by
    rw [List.length_drop, hkind]
    omega
  have hwrite : d.memWrite (leAt c.payload 0 4) (c.payload.drop 4) = (.ok, d.wrN (leAt c.payload 0 4) (c.payload.drop 4)) := by
    simp [Dev.memWrite, hkind]
  simp only [memWriteCmd, if_neg hrange, hwrite]
  exact if_neg fun h => h.2 (by rw [List.length_drop, hkind])

theorem memWriteCmd_ledger (hboot : d.fg SYS_BOOT_STAT_STATE = 4) (hkind : d.memKind (leAt c.payload 0 4) (c.payload.length - 4) = 2) :
    memWriteCmd c d = (.reply .auth [], d) := by
  have hrange : ¬((c.payload.drop 4).length = 0 ∨ 16376 < (c.payload.drop 4).length ∨
      d.memKind (leAt c.payload 0 4) (c.payload.drop 4).length = 0) := by
    rw [List.length_drop, hkind]
    omega
  have hwrite : d.memWrite (leAt c.payload 0 4) (c.payload.drop 4) = (.auth, d) := by
    simp [Dev.memWrite, hkind]
  simp only [memWriteCmd, if_neg hrange, hwrite]
  exact if_neg fun h => h.1 hboot

end

theorem hstAbortCmd_none {t : Byte} (hc : c.payload = [t]) (hx : d.findCmd c.path t.toNat = none) : hstAbortCmd c d = (.reply .ok [2], d) := by
  simp only [hstAbortCmd, hc, byteAt, List.getD_cons_zero, hx]
  rfl

theorem hstAbortCmd_found {t : Byte} {x : Cmd} (hc : c.payload = [t]) (hx : d.findCmd c.path t.toNat = some x) :
    hstAbortCmd c d = if x.started || x.done.isSome then (.reply .ok [1], d) else (.reply .ok [0], d.complete c.path t.toNat .aborted []) := by
  simp only [hstAbortCmd, hc, byteAt, List.getD_cons_zero, hx]
  rfl

theorem regModifyCmd_modifies {a mask v : Nat} {e f : Dev} (hlen : c.payload.length = 12) (ha : leAt c.payload 0 4 = a)
    (hmask : leAt c.payload 4 4 = mask) (hspan : Dev.regSpan a 1 = true) (hread : d.cmdRead a = (.ok, v, e))
    (hwrite : e.cmdWrite a (Nat.lor (v - Nat.land v mask) (Nat.land (leAt c.payload 8 4) mask)) = (.ok, f)) :
    regModifyCmd c d = (.reply .ok (leBytes 4 v), f) := by
  subst ha hmask
  have hrange : ¬(c.payload.length ≠ 12 ∨ Dev.regSpan (leAt c.payload 0 4) 1 = false) := by simp [hlen, hspan]
  simp only [regModifyCmd, if_neg hrange, hread, hwrite]

end

/-- Settles O35: each command is its payload's one answer; those that name a path's commands or its version speak of the path that asks. -/
theorem systemCommands : Obligations.SystemCommands := by
  unfold Obligations.SystemCommands
  refine fun s p tag b up => ⟨?nop, ?hello, ?refused, ?read, ?write, ?memRead, ?memWrite, ?ledger, ?abort, ?modify⟩
  case nop => exact fun h hlen => State.run_answers up h fun c hc => (if_neg (Nat.not_lt.2 (hc ▸ hlen))).trans (by rw [hc])
  case hello =>
    rintro v e h hlen hv hle rfl
    refine ⟨State.run_answersPath up h fun c hc hp _ => ?_, Dev.pathVer_setPathVer (by omega) _ _⟩
    subst hc hp
    exact helloCmd_agrees hlen hv hle
  case refused => exact fun h hlen hlt => State.run_answers up h fun c hc => helloCmd_refuses (hc ▸ hlen) (hc ▸ hlt)
  case read =>
    intro l e h hlen h1 h256 hspan hread
    exact State.run_answers up h fun c hc => by
      subst hc
      exact regReadCmd_reads hlen h1 h256 hspan hread
  case write =>
    intro st k e h h8 h4 hmax hspan hwrite hst
    exact State.runAll_replies up h fun c hc => by
      subst hc
      exact regWriteCmd_writes h8 h4 hmax hspan hwrite hst
  case memRead =>
    intro n h hlen hn h1 hmax hkind
    exact State.run_answers up h fun c hc => by
      subst hc
      exact memReadCmd_reads hlen hn h1 hmax hkind
  case memWrite =>
    intro h h5 hmax hkind
    exact State.run_answers up h fun c hc => by
      subst hc
      exact memWriteCmd_sram h5 hmax hkind
  case ledger =>
    intro h h5 hmax hboot hkind
    exact State.run_answers up h fun c hc => by
      subst hc
      exact memWriteCmd_ledger h5 hmax hboot hkind
  case abort =>
    intro t h
    refine ⟨fun hx => ?_, fun x hx hstart hdone => ?_, fun x hx hlate => ?_⟩
    · exact State.run_answersPath up h fun c hc hp _ => hstAbortCmd_none hc (hp ▸ hx)
    · refine State.run_answersPath up h fun c hc hp _ => ?_
      subst hp
      exact (hstAbortCmd_found hc hx).trans (if_neg (by simp [hstart, hdone]))
    · have hover : (x.started || x.done.isSome) = true := by
        rcases hlate with h | h
        · simp [h]
        · simp [Option.isSome_iff_ne_none.2 h]
      exact State.run_answersPath up h fun c hc hp _ => (hstAbortCmd_found hc (hp ▸ hx)).trans (if_pos hover)
  case modify =>
    intro a mask v e f h hlen ha hmask hspan hread hwrite
    exact State.runAll_replies up h fun c hc => by
      subst hc
      exact regModifyCmd_modifies hlen ha hmask hspan hread hwrite

end Sys2Proof.Machine
end

section
/-! SUPPORT. The statements about the Ethernet ports and the clock of the network engines (12). -/
set_option Elab.async false

namespace Sys2Proof.Machine

/-- A row that the interface clocks carry, while they run, by what its effect comes to. -/
theorem State.runIf_eq {s : State} {f : Dev → Dev} {e : Dev} (up : s.up) (hr : s.dev.clk.refPresent = true) (h : f s.dev = e) :
    s.runIf f = .next (s.to e) := h ▸ State.runIf_on up hr f

namespace Dev

/-! ### Fields written under a condition -/

theorem fg_fsIf {c : Prop} [Decidable c] {d : Dev} {F G : Fld} {v n : Nat} (hs : G.stride = F.stride := by rfl)
    (h : G.key 0 ≠ F.key 0 := by decide) : (if c then d.fs F v n else d).fg G n = d.fg G n :=
  fg_ite (fg_fs_stride hs h) rfl

theorem evt_fsIf {c : Prop} [Decidable c] (d : Dev) (F : Fld) (v n : Nat) : (if c then d.fs F v n else d).evt = d.evt := by
  split <;> rfl

/-! ### The link (R294) -/

section
variable {x : Nat} {up half : Bool} {speed : Nat} {d : Dev} {now : Bool}

/-- The registers of a port after its link has changed. -/
def linkShown (d : Dev) (x : Nat) (up half now : Bool) (speed : Nat) : Dev :=
  let e := (d.fs NET_PORT_x_STAT_HALF (b2n (up && half)) x).fs NET_PORT_x_STAT_LINK (b2n now) x
  let e := if up then e.fs NET_PORT_x_STAT_SPEED speed x else e
  if d.fb NET_PORT_x_STAT_LINK x && !now then e.fs NET_PORT_x_STAT_LINK_SEEN 1 x else e

theorem ethLinkDev_shown (hnow : now = (up && !half && d.fb NET_CTRL_EN && d.fb NET_PORT_x_CFG_EN x)) : ethLinkDev x up half speed d =
    if d.fb NET_PORT_x_STAT_LINK x == now then d.linkShown x up half now speed else (d.linkShown x up half now speed).raise 88 x := by
  subst hnow
  rfl

theorem linkShown_link : (d.linkShown x up half now speed).fg NET_PORT_x_STAT_LINK x = b2n now := by
  rw [linkShown, fg_fsIf, fg_fsIf, fg_fs]
  cases now <;> rfl

theorem linkShown_half : (d.linkShown x up half now speed).fg NET_PORT_x_STAT_HALF x = b2n (up && half) := by
  rw [linkShown, fg_fsIf, fg_fsIf, fg_fs_stride, fg_fs]
  cases up && half <;> rfl

theorem linkShown_speed (hspeed : speed < 3) :
    (d.linkShown x up half now speed).fg NET_PORT_x_STAT_SPEED x = if up then speed else d.fg NET_PORT_x_STAT_SPEED x := by
  rw [linkShown, fg_fsIf]
  cases up
  · exact (fg_fs_stride (F := NET_PORT_x_STAT_LINK)).trans fg_fs_stride
  · exact (fg_fs ..).trans (Nat.mod_eq_of_lt (hspeed.trans (by decide)))

theorem linkShown_evt : (d.linkShown x up half now speed).evt = d.evt := (evt_fsIf ..).trans (evt_fsIf ..)

theorem linkShown_leavesClk : LeavesClk d (d.linkShown x up half now speed) := by
  have h : LeavesClk d (if up then ((d.fs NET_PORT_x_STAT_HALF (b2n (up && half)) x).fs NET_PORT_x_STAT_LINK (b2n now) x).fs NET_PORT_x_STAT_SPEED speed x
      else (d.fs NET_PORT_x_STAT_HALF (b2n (up && half)) x).fs NET_PORT_x_STAT_LINK (b2n now) x) := .ite LeavesClk.refl.fs.fs.fs LeavesClk.refl.fs.fs
  exact .ite h.fs h

end

/-! ### Receiving (R294 to R297, R302) -/

theorem pauseSend_regs (d : Dev) (x : Nat) (fill : Option (BitVec 16)) : (d.pauseSend x fill).regs = d.regs := by
  cases fill with
  | none => rfl
  | some q =>
    rw [pauseSend]
    split <;> rfl

theorem pauseSend_disabled {d : Dev} {x : Nat} (h : d.fb NET_PORT_x_CFG_PAUSE_TX x = false) (fill : Option (BitVec 16)) :
    d.pauseSend x fill = d := by
  cases fill with
  | none => rfl
  | some q => exact if_neg (by simp [h])

/-- A frame's contents and its check sequence, from their concatenation. -/
theorem frame_parts {l f : List Byte} (hmin : 60 ≤ l.length) (hmax : l.length ≤ 2044) (hf : f.length = 4) :
    (l ++ f).take ((l ++ f).length - 4) = l ∧ leAt (l ++ f) ((l ++ f).length - 4) 4 = leNat f ∧ decide ((l ++ f).length < 64) = false ∧
      ¬2048 < (l ++ f).length := by
  have hlen : (l ++ f).length = l.length + 4 := by rw [List.length_append, hf]
  rw [hlen, Nat.add_sub_cancel, leAt, List.take_left', List.drop_left', List.take_of_length_le hf.le, decide_eq_false_iff_not]
  · exact ⟨rfl, rfl, by omega, by omega⟩
  · rfl
  · rfl

section
variable {d : Dev} {x : Nat} {l f : List Byte} (hen : d.fb NET_CTRL_EN = true) (hport : d.fb NET_PORT_x_CFG_EN x = true)
  (hlink : d.fb NET_PORT_x_STAT_LINK x = true) (hmin : 60 ≤ l.length) (hmax : l.length ≤ 2044) (hf : f.length = 4)
include hen hport hlink hmin hmax hf

/-- A frame of admitted length is measured by its check sequence. -/
theorem ethFrameDev_badFcs (hfcs : leNat f ≠ fcs l) (fill : Option (BitVec 16)) :
    ethFrameDev x (l ++ f) fill d = d.fcnt NET_PORT_x_STAT_FCS_CNT NET_PORT_x_STAT_CNT_OVF x := by
  obtain ⟨hl, hs, hshort, hlong⟩ := frame_parts hmin hmax hf
  simp only [ethFrameDev, hl, hs, hen, hport, hlink, hshort, if_neg hlong, if_pos hfcs, Bool.not_true, Bool.or_self, Bool.false_eq_true, if_false]

variable (hfcs : leNat f = fcs l)
include hfcs

/-- A PAUSE frame stops the port's sending. -/
theorem ethFrameDev_pause (hrx : d.fb NET_PORT_x_CFG_PAUSE_RX x = true) (hdst : l.take 6 = beBytes 6 0x0180C2000001) (htype : beAt l 12 2 = 0x8808)
    (hop : beAt l 14 2 = 1) (fill : Option (BitVec 16)) : ethFrameDev x (l ++ f) fill d =
      { d with net := { d.net with pause := vset d.net.pause x (d.clk.ticks + d.pauseTicks x (beAt l 16 2)) } } := by
  obtain ⟨hl, hs, hshort, hlong⟩ := frame_parts hmin hmax hf
  simp only [ethFrameDev, hl, hs, hen, hport, hlink, hshort, if_neg hlong, if_neg (not_not_intro hfcs), hrx, hdst, htype, hop, Bool.not_true,
    Bool.or_self, Bool.false_eq_true, if_false, if_true, BEq.rfl, Bool.true_or, Bool.and_self]

variable (htype : beAt l 12 2 ≠ 0x8808)
include htype

/-- A frame to no address of the port leaves nothing. -/
theorem ethFrameDev_foreign (hmac : d.macFilter x (l.take 6) = false) (fill : Option (BitVec 16)) : ethFrameDev x (l ++ f) fill d = d := by
  obtain ⟨hl, hs, hshort, hlong⟩ := frame_parts hmin hmax hf
  simp only [ethFrameDev, hl, hs, hen, hport, hlink, hshort, if_neg hlong, if_neg (not_not_intro hfcs), if_neg htype, hmac, Bool.not_true,
    Bool.not_false, Bool.or_self, Bool.false_eq_true, if_false, if_true]

/-- One to the port's own address, where neither answers nor timestamps are enabled, goes to the rings, unless it is session traffic. -/
theorem ethFrameDev_delivers {e : Dev} {fill : Option (BitVec 16)} (hmac : d.macFilter x (l.take 6) = true) (hresp : d.fb NET_PORT_x_CFG_RESP x = false)
    (hptp : d.fb NET_PORT_x_CFG_PTP_EN x = false) (he : d.pauseSend x fill = e) : ethFrameDev x (l ++ f) fill d =
      if d.isSession x (parse l) l then e else e.frameDeliver x (parse l) l none := by
  obtain ⟨hl, hs, hshort, hlong⟩ := frame_parts hmin hmax hf
  have hregs : e.regs = d.regs := he ▸ pauseSend_regs ..
  have hresp' : e.fb NET_PORT_x_CFG_RESP x = false := (fb_of_fg (fg_of_regs hregs _ _)).trans hresp
  have hptp' : e.fb NET_PORT_x_CFG_PTP_EN x = false := (fb_of_fg (fg_of_regs hregs _ _)).trans hptp
  have hsess : e.isSession x (parse l) l = d.isSession x (parse l) l := by simp only [isSession, fb, fg_of_regs hregs]
  simp only [ethFrameDev, hl, hs, hen, hport, hlink, hshort, if_neg hlong, if_neg (not_not_intro hfcs), if_neg htype, hmac, he, hresp', hptp',
    Bool.not_true, Bool.or_self, Bool.false_eq_true, if_false, Bool.false_and]
  rw [← hsess]
  cases ptpOn [319, 320] (parse l) l with
  | none => rfl
  | some o => simp only [Bool.and_false, Bool.false_and, Bool.false_eq_true, if_false]

end

/-! ### Sending (R299, R300) -/

section
variable {d : Dev} {x r n : Nat} {l : List Nat}

theorem txSend_linkDown (h : d.fb NET_PORT_x_STAT_LINK x = false) (long : Bool) : d.txSend x r l long = (1, 0, d) :=
  if_pos (by simp [h])

section
variable (hlink : d.fb NET_PORT_x_STAT_LINK x = true) (hsess : (d.descWord r (l.headD 0) 0).testBit 24 = true)
  (hn : d.descWord r (l.headD 0) 2 % 128 = n)
include hlink hsess hn

theorem txSend_notReady (h : d.sessReady n = false) : (d.txSend x r l false).1 = 2 := by
  simp only [txSend, hlink, hsess, hn, h, Bool.not_true, Bool.not_false, Bool.false_eq_true, if_false, Bool.and_self, if_true]

variable (hready : d.sessReady n = true)
include hready

theorem txSend_session (hlong : d.sessLong n (d.txGather r l).length = false) (hbad : d.txBad r l = false) :
    d.txSend x r l false = (0, 0, d.sessSend n 5 (d.txGather r l)) := by
  simp only [txSend, hlink, hsess, hn, hready, hlong, hbad, Bool.not_true, Bool.false_eq_true, if_false, Bool.and_false, if_true, Bool.or_self]

theorem txSend_sessionLong (hlong : d.sessLong n (d.txGather r l).length = true) : d.txSend x r l false = (3, 0, d) := by
  simp only [txSend, hlink, hsess, hn, hready, hlong, Bool.not_true, Bool.false_eq_true, if_false, Bool.and_false, if_true, Bool.or_true]

end

/-- A whole frame of a ring that runs leaves, its descriptors are written back, and the port takes up the next. -/
theorem txComplete_frame {next : Nat} {e : Dev} (hcur : vget d.net.txCur x = some r) (hpause : vget d.net.pause x ≤ d.clk.ticks)
    (hring : d.ringOn r = true) (hframe : d.txFrame r = .full l next) (he : { d with net := { d.net with txCur := vset d.net.txCur x none } } = e) :
    d.txComplete x = ((((e.txSend x r l false).2.2.txWriteBack r (e.txSend x r l false).1 (e.txSend x r l false).2.1 l).fs
      NET_RING_r_HEAD_HEAD next r).finc NET_RING_r_CNT_FRAMES r).txPick x := by
  simp only [txComplete, hcur, if_neg (Nat.not_lt.2 hpause), hring, hframe, he, Bool.not_true, Bool.false_eq_true, if_false]

end

/-! ### Rings (R299, R301, R302) -/

theorem ringDeliver_full {d : Dev} {r fl w2 w3 next : Nat} {bytes : List Byte} {l : List Nat} (hring : d.ringOn r = true)
    (hchain : d.rxChain r 8 (d.fg NET_RING_r_HEAD_HEAD r) bytes.length [] = .full l next) : d.ringDeliver r fl w2 w3 bytes =
      ((d.rxStore r fl w2 w3 true bytes l).fs NET_RING_r_HEAD_HEAD next r).finc NET_RING_r_CNT_FRAMES r := by
  simp only [ringDeliver, hring, hchain, Bool.not_true, Bool.false_eq_true, if_false]

theorem ringDeliver_stopped {d : Dev} {r fl w2 w3 : Nat} {bytes : List Byte} (hring : d.ringOn r = false) :
    d.ringDeliver r fl w2 w3 bytes = (d.fcnt NET_RING_r_CNT_DROP_CNT NET_RING_r_CNT_CNT_OVF r).raise 90 r := if_pos (by simp [hring])

end Dev

/-- `NET_RING_r_TAIL` in the register map. -/
def ringTailReg : Reg := ⟨0x200B100C, 0x20, 0, 32, [⟨NET_RING_r_TAIL_TAIL, .RW, .any⟩]⟩

theorem findReg_ringTail (r : Fin 32) : findReg (NET_RING_r_TAIL_TAIL.at r) = some (ringTailReg, r.val) := by
  fin_cases r <;> rfl

theorem ringTailReg_rw : ∀ s ∈ ringTailReg.flds, s.acc = .RW := by decide

/-- An accepted write of `TAIL` stores it, and both ports look for a frame to send. -/
theorem Dev.regWrite_ringTail {d : Dev} {a : Acc} {r : Fin 32} {w : Nat} (hok : d.accepts a (NET_RING_r_TAIL_TAIL.at r) w) :
    (d.regWrite a (NET_RING_r_TAIL_TAIL.at r) w).2 = ((d.storeWord ringTailReg r w).txPick 0).txPick 1 := by
  have hat : NET_RING_r_TAIL_TAIL.at r = 0x200B100C + 0x20 * r.val := rfl
  exact Dev.regWrite_accepted (findReg_ringTail r) (by omega) (by omega) (by omega) rfl rfl hok

theorem ringTailWrite_stores {s : State} {a : Acc} {r : Fin 32} {val : W32} (up : s.up) (hok : s.dev.accepts a (NET_RING_r_TAIL_TAIL.at r) val.toNat) :
    ∃ e : Dev, exec (.ringTailWrite a r val) s = .next (s.to ((e.txPick 0).txPick 1)) ∧
      e.fg NET_RING_r_TAIL_TAIL r = NET_RING_r_TAIL_TAIL.of val.toNat ∧ e.net = s.dev.net ∧ e.mem = s.dev.mem := by
  obtain ⟨regs, hregs⟩ := Dev.storeWord_regs ringTailReg_rw s.dev r val.toNat
  exact ⟨_, State.run_wrIf up rfl (Dev.regWrite_ringTail hok),
    Dev.storeWord_of ringTailReg_rw (findReg_ringTail r) (by decide) (.head _) s.dev val.toNat, by rw [hregs], by rw [hregs]⟩

/-- Settles O41: a port takes a frame of sound length and check sequence, pauses or delivers it, and sends what its rings hold. -/
theorem networkPorts : Obligations.NetworkPorts := by
  unfold Obligations.NetworkPorts
  refine fun s a x up href => ⟨?link, ?received, ?quiet, ?pauseSent, ?paused, ?badFcs, ?delivered, ?dropped, ?tail, ?complete, ?down, ?session, ?frame⟩
  case link =>
    intro linkUp half speed now hnow
    refine ⟨_, State.runIf_on up href _, ?_⟩
    simp only [State.to_dev, Dev.fg_land, Dev.land_evt, Dev.ethLinkDev_shown hnow]
    by_cases hsame : (s.dev.fb NET_PORT_x_STAT_LINK x == now) = true
    · rw [if_pos hsame, if_pos (beq_iff_eq.1 hsame)]
      exact ⟨Dev.linkShown_link, Dev.linkShown_half, Dev.linkShown_speed speed.isLt, Dev.linkShown_evt⟩
    · rw [if_neg hsame, if_neg (hsame ∘ beq_iff_eq.2)]
      exact ⟨Dev.linkShown_link, Dev.linkShown_half, Dev.linkShown_speed speed.isLt, Dev.linkShown_leavesClk.raise_evt Dev.linkShown_evt 88 x⟩
  case received =>
    intro l f hen hport hlink hmin hmax hf hfcs htype
    exact ⟨fun fill hmac => State.runTal_eq up ((if_pos href).trans (Dev.ethFrameDev_foreign hen hport hlink hmin hmax hf hfcs htype hmac fill)),
      fun fill e hmac hresp hptp he => State.runTal_eq up ((if_pos href).trans
        (Dev.ethFrameDev_delivers hen hport hlink hmin hmax hf hfcs htype hmac hresp hptp he))⟩
  case quiet => exact fun h fill => Dev.pauseSend_disabled h fill
  case pauseSent => exact fun q h => if_pos h
  case paused =>
    intro l f hen hport hlink hrx hmin hmax hf hfcs hdst htype hop fill
    exact State.runTal_eq up ((if_pos href).trans (Dev.ethFrameDev_pause hen hport hlink hmin hmax hf hfcs hrx hdst htype hop fill))
  case badFcs =>
    intro l f hen hport hlink hmin hmax hf hfcs fill
    exact State.runTal_eq up ((if_pos href).trans (Dev.ethFrameDev_badFcs hen hport hlink hmin hmax hf hfcs fill))
  case delivered => exact fun r fl w2 w3 bytes l next hring hchain => Dev.ringDeliver_full hring hchain
  case dropped => exact fun r fl w2 w3 bytes hring => Dev.ringDeliver_stopped hring
  case tail => exact fun r val hok => ringTailWrite_stores up hok
  case complete =>
    intro r l next e hcur hpause hring hframe he
    exact State.runIf_eq up href (Dev.txComplete_frame hcur hpause hring hframe he)
  case down => exact fun r l long h => Dev.txSend_linkDown h long
  case session =>
    intro r l n hlink hsess hn
    exact ⟨Dev.txSend_notReady hlink hsess hn, Dev.txSend_session hlink hsess hn, Dev.txSend_sessionLong hlink hsess hn⟩
  case frame => exact fun m => rfl

/-! ### The clock of the network engines (R298) -/

/-- Steering the time leaves the servo's lock alone. -/
theorem Dev.fg_servoSteer_locked (d : Dev) (ofs : Int) : (d.servoSteer ofs).fg NET_PTP_STAT_LOCKED = d.fg NET_PTP_STAT_LOCKED := by
  unfold Dev.servoSteer
  split
  · rfl
  · exact Dev.fg_fs_ne _ _ _ _ _ _ (by decide)

/-- A servo that is locked stays as it is after a 16th offset within the limit. -/
theorem Dev.servoOffset_staysLocked {d : Dev} {ofs : Int} (hofs : ofs.natAbs ≤ d.fg NET_PTP_CFG_LOCK_TH) (hrun : 15 ≤ d.net.inRun)
    (hlocked : d.fb NET_PTP_STAT_LOCKED = true) : (d.servoOffset ofs).fg NET_PTP_STAT_LOCKED = d.fg NET_PTP_STAT_LOCKED := by
  have hgood : decide (ofs.natAbs ≤ d.fg NET_PTP_CFG_LOCK_TH) = true := decide_eq_true hofs
  have hsixteen : min 16 (d.net.inRun + 1) = 16 := by omega
  obtain ⟨e, he⟩ : ∃ e : Dev, (Dev.fsS { d with net := { d.net with inRun := 16, outRun := 0 } } NET_PTP_STAT_OFFSET
      (clampI (-8388607) 8388607 ofs)).servoSteer ofs = e := ⟨_, rfl⟩
  have hfg : e.fg NET_PTP_STAT_LOCKED = d.fg NET_PTP_STAT_LOCKED :=
    he ▸ (Dev.fg_servoSteer_locked ..).trans (Dev.fg_fs_ne _ _ _ _ _ _ (by decide))
  have hkeep : e.servoLock true = e := if_pos (by rw [Dev.fb_of_fg hfg, hlocked]; rfl)
  simp only [Dev.servoOffset, hgood, hsixteen, if_true, he, hkeep, hfg]

/-- A device whose servo has had 15 offsets within the limit while `LOCKED` holds more than its one bit: 2 in the register file's place. No write
leaves such a value (`fg_fs`), but the statement about the servo does not ask for it. -/
def lockedTooWide : Dev := { regs := [(NET_PTP_STAT_LOCKED.key 0, 2)], net := { inRun := 15 } }

/-- The 16th offset finds the servo locked already, and leaves the place as it was. -/
theorem lockedTooWide_servoOffset : (lockedTooWide.servoOffset 0).fg NET_PTP_STAT_LOCKED = 2 :=
  Dev.servoOffset_staysLocked (Nat.zero_le _) le_rfl (by decide)

/-- Refutes O43: after the 16th offset within the limit `LOCKED` is claimed to be 1 from every device, also from one whose register file holds 2
in the place of this field of one bit (`lockedTooWide`); there it stays 2. -/
theorem not_ptpServo : ¬ Obligations.PtpServo := by
  intro h
  obtain ⟨hgood, -⟩ := h lockedTooWide
  obtain ⟨-, -, hlocked, -⟩ := hgood 0 (Nat.zero_le _)
  cases lockedTooWide_servoOffset.symm.trans hlocked

end Sys2Proof.Machine
end

section
/-! SUPPORT. The statement about session packets, contexts and keys (12). -/
set_option Elab.async false

namespace Sys2Proof.Machine
namespace Dev

/-! ### Fields written one after the other -/

/-- Among fields of different places each holds afterwards what it was given. -/
theorem fg_foldl_fs {l : List Fld} {F : Fld} {v : Fld → Nat} {n : Nat} (hF : F ∈ l) (hl : l.Pairwise fun F G => F.key n ≠ G.key n) (d : Dev) :
    (l.foldl (fun d F => d.fs F (v F) n) d).fg F n = v F % 2 ^ F.len := by
  have hkeep : ∀ (l : List Fld) (d : Dev), (∀ G ∈ l, F.key n ≠ G.key n) → (l.foldl (fun d F => d.fs F (v F) n) d).fg F n = d.fg F n := by
    intro l
    induction l with
    | nil => exact fun d _ => rfl
    | cons G t ih => exact fun d h => (ih _ fun H hH => h H (.tail _ hH)).trans (fg_fs_ne _ _ _ _ _ _ (h G (.head _)))
  induction l generalizing d with
  | nil => cases hF
  | cons G t ih =>
    obtain ⟨hG, ht⟩ := List.pairwise_cons.1 hl
    rcases List.mem_cons.1 hF with rfl | hFt
    · exact (hkeep t _ hG).trans (fg_fs ..)
    · exact ih hFt ht _

theorem foldl_fs_parts {α : Type} {F : α → Fld} {v n : α → Nat} (l : List α) (d : Dev) :
    (l.foldl (fun d i => d.fs (F i) (v i) (n i)) d).net = d.net ∧ (l.foldl (fun d i => d.fs (F i) (v i) (n i)) d).hst = d.hst := by
  induction l generalizing d with
  | nil => exact ⟨rfl, rfl⟩
  | cons i t ih => exact ih _

/-- A field written throughout an array. -/
theorem fg_foldl_fsEach {F : Fld} {v i : Nat} (hs : 0 < F.stride) (l : List Nat) (d : Dev) :
    (l.foldl (fun d i => d.fs F v i) d).fg F i = if i ∈ l then v % 2 ^ F.len else d.fg F i := by
  induction l generalizing d with
  | nil => rfl
  | cons k t ih =>
    rw [List.foldl_cons, ih]
    by_cases hik : i = k
    · subst hik
      simp [fg_fs]
    · simp [hik, fg_fs_ne _ _ _ _ _ _ (key_ne_of_index F k i hs hik)]

theorem fg_foldl_fsEach_ne {F G : Fld} {v m : Nat} {l : List Nat} (h : ∀ i ∈ l, G.key m ≠ F.key i) (d : Dev) :
    (l.foldl (fun d i => d.fs F v i) d).fg G m = d.fg G m := by
  induction l generalizing d with
  | nil => rfl
  | cons k t ih => exact (ih (fun i hi => h i (.tail _ hi)) _).trans (fg_fs_ne _ _ _ _ _ _ (h k (.head _)))

/-! ### Received session packets (R305) -/

section
variable {d : Dev} {x port n : Nat} {pkt : List Byte}

/-- A packet's header is sound, and the engines run. -/
def packetSound (d : Dev) (pkt : List Byte) : Prop :=
  32 ≤ pkt.length ∧ byteAt pkt 0 = 1 ∧ byteAt pkt 1 < 32 ∧ leAt pkt 2 2 = 0 ∧ d.fb NET_CTRL_EN = true

theorem packetSound.not_refused (h : d.packetSound pkt) :
    ¬(pkt.length < 32 ∨ byteAt pkt 0 ≠ 1 ∨ 32 ≤ byteAt pkt 1 ∨ leAt pkt 2 2 ≠ 0 ∨ d.fb NET_CTRL_EN = false) := by
  obtain ⟨hlen, hver, htype, hres, hen⟩ := h
  rintro (hc | hc | hc | hc | hc)
  · exact absurd hlen (Nat.not_le.2 hc)
  · exact hc hver
  · exact absurd htype (Nat.not_lt.2 hc)
  · exact hc hres
  · exact Bool.false_ne_true (hc.symm.trans hen)

variable (h : d.packetSound pkt)
include h

theorem sessReceive_unmatched (hnone : d.sessOf x port (leAt pkt 4 4) = none) : d.sessReceive x port pkt = d := by
  simp only [sessReceive, if_neg h.not_refused, hnone]

variable (hsome : d.sessOf x port (leAt pkt 4 4) = some n)
include hsome

theorem sessReceive_replay (hreplay : d.notReplay n (leAt pkt 8 8) = false) : d.sessReceive x port pkt =
    (d.fcnt NET_SESS_s_STAT_REPLAY_CNT NET_SESS_s_STAT_CNT_OVF n).raise 93 n := by
  simp only [sessReceive, if_neg h.not_refused, hsome, hreplay, Bool.not_false, if_true]

variable (hfresh : d.notReplay n (leAt pkt 8 8) = true)
include hfresh

theorem sessReceive_unauthentic (hplain : d.sessPlain n pkt = none) : d.sessReceive x port pkt =
    (d.fcnt NET_SESS_s_STAT_AUTH_CNT NET_SESS_s_STAT_CNT_OVF n).raise 92 n := by
  simp only [sessReceive, if_neg h.not_refused, hsome, hfresh, hplain, Bool.not_true, Bool.false_eq_true, if_false]

theorem sessReceive_delivers {m : List Byte} (hplain : d.sessPlain n pkt = some m) : d.sessReceive x port pkt =
    (d.numSeen n (leAt pkt 8 8)).sessDeliver x n (byteAt pkt 1 % 16) m := by
  simp only [sessReceive, if_neg h.not_refused, hsome, hfresh, hplain, Bool.not_true, Bool.false_eq_true, if_false]

end

/-- A number of 64 bits in two words reads back. -/
theorem fg_fs_pair {F G : Fld} {v n : Nat} (hF : F.len = 32) (hG : G.len = 32) (hv : v < 2 ^ 64) (hs : F.stride = G.stride) (hne : F.key 0 ≠ G.key 0)
    (d : Dev) : ((d.fs F v n).fs G (v / 2 ^ 32) n).fg F n + 2 ^ 32 * ((d.fs F v n).fs G (v / 2 ^ 32) n).fg G n = v := by
  rw [fg_fs_stride hs hne, fg_fs, fg_fs, hF, hG]
  omega

/-- A packet number that has been authenticated is not authenticated again. -/
theorem numSeen_replay {d : Dev} {n : Fin 128} {k : Nat} (hk : k < 2 ^ 64) (hrx : d.rxNum n < 2 ^ 64) :
    (d.numSeen n k).notReplay n k = false := by
  have hnum : (d.numSeen n k).rxNum n = max (d.rxNum n) k := 
    fg_fs_pair (F := NET_CTX_s_14_RXNUM_LO) (G := NET_CTX_s_15_RXNUM_HI) rfl rfl (max_lt hrx hk) rfl (by decide) _
  have hseen : vget (d.numSeen n k).net.seen n = (vget d.net.seen n ++ [k]).filter fun x => max (d.rxNum n) k < x + 64 :=
    vget_vset_same _ _ _ n.isLt
  rw [notReplay, hnum, hseen]
  by_cases hwin : max (d.rxNum n) k < k + 64
  · have hin : ((vget d.net.seen n ++ [k]).filter fun x => max (d.rxNum n) k < x + 64).contains k = true :=
      List.contains_iff_mem.2 (List.mem_filter.2 ⟨by simp, decide_eq_true hwin⟩)
    rw [hin]
    exact Bool.and_false _
  · rw [decide_eq_false hwin]
    exact Bool.false_and _

/-! ### Sending (R303) -/

theorem sessSend_ready {d : Dev} {n ty : Nat} {m key : List Byte} (hready : d.sessReady n = true) (hkey : d.txKey n = some key)
    (hup : d.ethUp (d.sessPort n) = true) (hlong : d.sessLong n m.length = false) : d.sessSend n ty m =
      ((d.fresh.2.frameTx (d.sessPort n) (udpFrame (d.sessHead n) d.fresh.1 (d.sessPacket n ty key m))).fs NET_CTX_s_12_TXNUM_LO (d.txNum n + 1) n).fs
        NET_CTX_s_13_TXNUM_HI ((d.txNum n + 1) / 2 ^ 32) n := by
  simp only [sessReady, Bool.and_eq_true, decide_eq_true_eq] at hready
  obtain ⟨⟨hen, -⟩, hnum⟩ := hready
  simp only [sessSend, hen, if_neg (Nat.not_le.2 hnum), hkey, hup, hlong, Bool.not_true, Bool.false_eq_true, if_false, Bool.or_self]

theorem txNum_lt {d : Dev} {n : Nat} (hready : d.sessReady n = true) : d.txNum n < 2 ^ 64 - 1 := by
  simp only [sessReady, Bool.and_eq_true, decide_eq_true_eq] at hready
  exact hready.2

theorem sessSend_exhausted {d : Dev} {n ty : Nat} {m : List Byte} (hen : d.fb NET_CTX_s_0_EN n = true) (hnum : 2 ^ 64 - 1 ≤ d.txNum n)
    (hexh : d.fb NET_SESS_s_STAT_TX_EXH n = false) : d.sessSend n ty m = (d.fs NET_SESS_s_STAT_TX_EXH 1 n).raise 94 n := by
  simp only [sessSend, hen, if_pos hnum, hexh, Bool.not_true, Bool.false_eq_true, if_false]

/-! ### The key store (R306) -/

end Dev

/-- `NET_KEY_CTRL` in the register map. -/
def keyCtrlReg : Reg := ⟨0x200B0520, 0x0, 0, 1, [⟨NET_KEY_CTRL_OP, .WO, (.rng 1 2)⟩, ⟨NET_KEY_CTRL_SLOT, .WO, .any⟩]⟩

theorem findReg_keyCtrl : findReg (NET_KEY_CTRL_OP.at 0) = some (keyCtrlReg, 0) := rfl

/-- The word that names operation `op` and slot `k`. -/
theorem of_keyCtrl {op k : Nat} (hop : op < 4) (hk : k < 128) :
    NET_KEY_CTRL_OP.of (op * 2 ^ NET_KEY_CTRL_OP.lo + k * 2 ^ NET_KEY_CTRL_SLOT.lo) = op ∧
    NET_KEY_CTRL_SLOT.of (op * 2 ^ NET_KEY_CTRL_OP.lo + k * 2 ^ NET_KEY_CTRL_SLOT.lo) = k := by
  simp only [Fld.of, NET_KEY_CTRL_OP, NET_KEY_CTRL_SLOT]
  omega

namespace Dev

/-- `NET_KEY_CTRL` cleared, as it stands when its operation takes effect. -/
def keyAsked (d : Dev) : Dev := (d.fs NET_KEY_CTRL_OP 0).fs NET_KEY_CTRL_SLOT 0

theorem regWrite_keyCtrl {d : Dev} {a : Acc} {w : Nat} (hok : d.accepts a (NET_KEY_CTRL_OP.at 0) w) :
    (d.regWrite a (NET_KEY_CTRL_OP.at 0) w).2 =
      if NET_KEY_CTRL_OP.of w = 1 then
        (List.range 8).foldl (fun d i => d.fs NET_KEY_DATA_k_KEY 0 i) (d.keyAsked.keyPut (NET_KEY_CTRL_SLOT.of w)
          (some ((List.range 8).flatMap fun i => leBytes 4 (d.keyAsked.fg NET_KEY_DATA_k_KEY i))))
      else d.keyAsked.keyPut (NET_KEY_CTRL_SLOT.of w) none := by
  have hop : NET_KEY_CTRL_OP.of (reached keyCtrlReg w) = NET_KEY_CTRL_OP.of w := of_reached (r := keyCtrlReg) (by decide) (.head _) rfl w
  have hslot : NET_KEY_CTRL_SLOT.of (reached keyCtrlReg w) = NET_KEY_CTRL_SLOT.of w :=
    of_reached (r := keyCtrlReg) (by decide) (.tail _ (.head _)) rfl w
  rw [regWrite_accepted findReg_keyCtrl rfl (by decide) (by decide) rfl rfl hok, ← hop, ← hslot]
  rfl

theorem keyPut_key (d : Dev) (k : Fin 128) (key : Option (List Byte)) : vget (d.keyPut k key).net.key k = key := vget_vset_same _ _ _ k.isLt

theorem keyPut_valid (d : Dev) (k : Fin 128) (key : Option (List Byte)) :
    (d.keyPut k key).fbit NET_KEY_VALID_k_VALID (k % 32) (k / 32) = key.isSome := fbit_fsBit_same (Nat.mod_lt _ (by decide)) _ _ _

/-- The key staged is used up. -/
theorem keyStaging_cleared (d : Dev) {i : Nat} (hi : i < 8) : ((List.range 8).foldl (fun d i => d.fs NET_KEY_DATA_k_KEY 0 i) d).fg NET_KEY_DATA_k_KEY i = 0 :=
  (fg_foldl_fsEach (by decide) _ _).trans (if_pos (List.mem_range.2 hi))

theorem fg_keyStaging_valid (d : Dev) (n : Nat) :
    ((List.range 8).foldl (fun d i => d.fs NET_KEY_DATA_k_KEY 0 i) d).fg NET_KEY_VALID_k_VALID n = d.fg NET_KEY_VALID_k_VALID n := by
  refine fg_foldl_fsEach_ne (fun i hi => ?_) d
  have hlt := List.mem_range.1 hi
  simp only [Fld.key, NET_KEY_VALID_k_VALID, NET_KEY_DATA_k_KEY]
  omega

theorem fg_keyAsked_data (d : Dev) (i : Nat) (hi : i < 8) : d.keyAsked.fg NET_KEY_DATA_k_KEY i = d.fg NET_KEY_DATA_k_KEY i := by
  have hop : NET_KEY_DATA_k_KEY.key i ≠ NET_KEY_CTRL_OP.key 0 := by
    simp only [Fld.key, NET_KEY_DATA_k_KEY, NET_KEY_CTRL_OP]
    omega
  have hslot : NET_KEY_DATA_k_KEY.key i ≠ NET_KEY_CTRL_SLOT.key 0 := by
    simp only [Fld.key, NET_KEY_DATA_k_KEY, NET_KEY_CTRL_SLOT]
    omega
  exact (fg_fs_ne _ _ _ _ _ _ hslot).trans (fg_fs_ne _ _ _ _ _ _ hop)

theorem keyAsked_staged (d : Dev) : ((List.range 8).flatMap fun i => leBytes 4 (d.keyAsked.fg NET_KEY_DATA_k_KEY i)) =
    (List.range 8).flatMap fun i => leBytes 4 (d.fg NET_KEY_DATA_k_KEY i) :=
  List.flatMap_congr fun i hi => by rw [d.fg_keyAsked_data i (List.mem_range.1 hi)]

end Dev

section
variable {s : State} {a : Acc} {k : Fin 128} (up : s.up)
include up

theorem keyLoadWrite_loads (hok : s.dev.accepts a (NET_KEY_CTRL_OP.at 0) (2 ^ NET_KEY_CTRL_OP.lo + k * 2 ^ NET_KEY_CTRL_SLOT.lo)) :
    ∃ t, exec (.keyLoadWrite a k) s = .next t ∧
      vget t.dev.net.key k = some ((List.range 8).flatMap fun i => leBytes 4 (s.dev.fg NET_KEY_DATA_k_KEY i)) ∧
      t.dev.fbit NET_KEY_VALID_k_VALID (k % 32) (k / 32) = true ∧ ∀ i : Fin 8, t.dev.fg NET_KEY_DATA_k_KEY i = 0 := by
  obtain ⟨hop, hslot⟩ := of_keyCtrl (op := 1) (by decide) k.isLt
  rw [Nat.one_mul] at hop hslot
  have hwrite := Dev.regWrite_keyCtrl hok
  rw [if_pos hop, hslot, Dev.keyAsked_staged] at hwrite
  obtain ⟨e, he⟩ : ∃ e, s.dev.keyAsked.keyPut k (some ((List.range 8).flatMap fun i => leBytes 4 (s.dev.fg NET_KEY_DATA_k_KEY i))) = e := ⟨_, rfl⟩
  obtain ⟨f, hf⟩ : ∃ f, (List.range 8).foldl (fun d i => d.fs NET_KEY_DATA_k_KEY 0 i) e = f := ⟨_, rfl⟩
  rw [he, hf] at hwrite
  refine ⟨_, State.run_wrIf up rfl hwrite, ?key, ?valid, fun i => ?used⟩
  case key =>
    have hnet : f.net = e.net := hf ▸ (Dev.foldl_fs_parts (F := fun _ => NET_KEY_DATA_k_KEY) (v := fun _ => 0) (n := fun i => i) (List.range 8) e).1
    rw [State.to_dev, Dev.land_net, hnet, ← he, Dev.keyPut_key]
  case valid => rw [State.to_dev, Dev.fbit, Dev.fg_land, ← hf, Dev.fg_keyStaging_valid, ← he, ← Dev.fbit, Dev.keyPut_valid]; rfl
  case used => rw [State.to_dev, Dev.fg_land, ← hf, Dev.keyStaging_cleared _ i.isLt]

theorem keyEraseWrite_erases (hok : s.dev.accepts a (NET_KEY_CTRL_OP.at 0) (2 * 2 ^ NET_KEY_CTRL_OP.lo + k * 2 ^ NET_KEY_CTRL_SLOT.lo)) :
    ∃ t, exec (.keyEraseWrite a k) s = .next t ∧ vget t.dev.net.key k = none ∧
      t.dev.fbit NET_KEY_VALID_k_VALID (k % 32) (k / 32) = false := by
  obtain ⟨hop, hslot⟩ := of_keyCtrl (op := 2) (by decide) k.isLt
  have hwrite := Dev.regWrite_keyCtrl hok
  rw [if_neg (by rw [hop]; decide), hslot] at hwrite
  exact ⟨_, State.run_wrIf up rfl hwrite, Dev.keyPut_key .., Dev.keyPut_valid ..⟩

end


/-! ### The commands of sessions and keys (R306, R316) -/

namespace Dev

/-- A command has completed where the effect has left it outstanding as it was. -/
theorem completed_of_findCmd {d e : Dev} {p : Path} {tag : Byte} {op : Nat} {l : List Byte} (h : d.started p tag op l)
    (he : e.findCmd p tag.toNat = d.findCmd p tag.toNat) (st : St) (b : List Byte) : d.completed (e.complete p tag.toNat st b) p tag st b := by
  obtain ⟨c, hc, hl⟩ := h
  have hsame : e.startedCmd p tag.toNat op = some c := by rw [startedCmd, he, ← startedCmd, hc]
  have hno : e.noReply p tag.toNat = d.noReply p tag.toNat := by rw [noReply, he, noReply]
  have hdone := complete_completed ⟨c, hsame, hl⟩ rfl st b
  rwa [completed, hno, ← completed] at hdone

/-- Completing a command leaves no command of a path that has none. -/
theorem findCmd_complete_none {d : Dev} {q : Path} (h : ∀ c ∈ d.hst.outst, c.path ≠ q) (p : Path) (tag k : Nat) (st : St) (b : List Byte) :
    (d.complete p tag st b).findCmd q k = none := by
  have hout : ∀ c ∈ (d.complete p tag st b).hst.outst, c.path ≠ q := by
    rw [complete]
    split
    · exact fun c hc => h c (List.mem_filter.1 hc).1
    · intro c hc
      obtain ⟨x, hx, rfl⟩ := List.mem_map.1 hc
      split <;> exact h x hx
  exact List.find?_eq_none.2 fun c hc hkey => hout c hc (eq_of_beq (Bool.and_eq_true_iff.1 hkey).1)

theorem complete_sessions (d : Dev) (p : Path) (tag : Nat) (st : St) (b : List Byte) :
    (d.complete p tag st b).net = d.net ∧ (d.complete p tag st b).hst.sver = d.hst.sver := by
  rw [complete]
  split <;> exact ⟨rfl, rfl⟩

end Dev

section
variable {c : Cmd} {d : Dev}

/-- The context that `NET_SESS_OPEN` has written: its words, and `EN`. -/
def ctxWritten (d : Dev) (n : Nat) (l : List Byte) : Dev :=
  (ctxFields.foldl (fun d F => d.fs F (F.of (leAt l ((F.base - 0x200B8000) % 64) 4)) n) d).fs NET_CTX_s_0_EN 1 n

theorem sessOpenCmd_opens (hlen : c.payload.length = 68) (hn : byteAt c.payload 0 ≤ 127) (hres : leAt c.payload 1 3 = 0)
    (hctx : ctxOk (c.payload.drop 4) = true) (hoff : d.fb NET_CTX_s_0_EN (byteAt c.payload 0) = false) :
    sessOpenCmd c d = (.reply .ok [], (ctxWritten d (byteAt c.payload 0) (c.payload.drop 4)).sessEnable (byteAt c.payload 0)) := by
  have hgood : ¬(c.payload.length ≠ 68 ∨ 127 < byteAt c.payload 0 ∨ leAt c.payload 1 3 ≠ 0 ∨ ctxOk (c.payload.drop 4) = false) := by
    rw [hlen, hres, hctx]
    rintro (h | h | h | h)
    · exact h rfl
    · exact absurd hn (Nat.not_le.2 h)
    · exact h rfl
    · cases h
  exact (if_neg hgood).trans (if_neg (Bool.eq_false_iff.1 hoff))

theorem ctxWritten_hst (d : Dev) (n : Nat) (l : List Byte) : (ctxWritten d n l).hst = d.hst := by
  rw [ctxWritten, Dev.fs_hst]
  exact (Dev.foldl_fs_parts (F := fun F => F) (v := fun F => F.of (leAt l ((F.base - 0x200B8000) % 64) 4)) (n := fun _ => n) ctxFields d).2

/-- The words of a context stand in different places. -/
theorem ctxFields_keys (n : Nat) : ctxFields.Pairwise fun F G => F.key n ≠ G.key n := by
  have h : ctxFields.Pairwise fun F G => F.stride = G.stride ∧ F.key 0 ≠ G.key 0 := by decide
  exact h.imp fun ⟨hs, hne⟩ => Fld.key_ne_of_stride hs hne

theorem fg_ctxWritten {F : Fld} (hF : F ∈ ctxFields) (hs : F.stride = NET_CTX_s_0_EN.stride) (hne : F.key 0 ≠ NET_CTX_s_0_EN.key 0) (n : Nat)
    (l : List Byte) : (ctxWritten d n l).fg F n = F.of (leAt l ((F.base - 0x200B8000) % 64) 4) := by
  have hstore := Dev.fg_foldl_fs (v := fun F => F.of (leAt l ((F.base - 0x200B8000) % 64) 4)) hF (ctxFields_keys n) d
  exact (Dev.fg_fs_stride hs hne).trans (hstore.trans (Nat.mod_eq_of_lt (Fld.of_lt ..)))

/-- Enabling a session writes one field of another register. -/
theorem fg_sessEnable {F : Fld} {n : Nat} (hF : 0x200B8000 ≤ F.base) (hn : n ≤ 127) : (d.sessEnable n).fg F n = d.fg F n := by
  refine Dev.fg_fs_ne _ _ _ _ _ _ ?_
  have hkey : 32 * 0x200B8000 ≤ F.key n := by simp only [Fld.key]; omega
  have hexh : NET_SESS_s_STAT_TX_EXH.key n < 32 * 0x200B8000 := by simp only [Fld.key, NET_SESS_s_STAT_TX_EXH]; omega
  omega

theorem hstStat_outst_key_ne {F : Fld} {n : Nat} (hF : 0x200B8000 ≤ F.base) : F.key n ≠ HST_STAT_OUTST.key 0 := by
  have hkey : 32 * 0x200B8000 ≤ F.key n := by simp only [Fld.key]; omega
  have hout : HST_STAT_OUTST.key 0 < 32 * 0x200B8000 := by decide
  omega

theorem leNat_lt (l : List Byte) : leNat l < 256 ^ l.length := by
  induction l with
  | nil => exact Nat.one_pos
  | cons b t ih =>
    have hb : b.toNat < 256 := b.isLt
    rw [leNat, List.length_cons, Nat.pow_succ]
    omega

theorem leAt_lt (l : List Byte) (i n : Nat) : leAt l i n < 256 ^ n :=
  (leNat_lt _).trans_le (Nat.pow_le_pow_right (by decide) (List.length_take_le ..))

/-- A field of a whole word takes the word. -/
theorem of_leAt {F : Fld} (hlo : F.lo = 0) (hlen : F.len = 32) (l : List Byte) (i : Nat) : F.of (leAt l i 4) = leAt l i 4 := by
  rw [Fld.of, hlo, hlen, Nat.pow_zero, Nat.div_one]
  exact Nat.mod_eq_of_lt (leAt_lt l i 4)

theorem byteAt_single (b : Byte) (l : List Byte) : byteAt (b :: l) 0 = b.toNat := rfl

theorem toNat_ofNat_slot (n : Fin 128) : (BitVec.ofNat 8 n).toNat = n.val := by
  rw [BitVec.toNat_ofNat]
  omega

/-- A session closed: its context is disabled, its commands are abandoned, its path is back at version 1. -/
def sessClosed (d : Dev) (n : Nat) : Dev :=
  ({ d.fs NET_CTX_s_0_EN 0 n with hst := { d.hst with
    outst := d.hst.outst.filter (fun c => !onSess c.path n), sver := vset d.hst.sver n 1 } } : Dev).showOutst

theorem sessCloseCmd_closes {n : Fin 128} (hc : c.payload = [BitVec.ofNat 8 n]) : sessCloseCmd c d = (.reply .ok [], sessClosed d n) := by
  have hgood : ¬([BitVec.ofNat 8 n.val].length ≠ 1 ∨ 127 < n.val) := by
    rintro (h | h)
    · exact h rfl
    · omega
  simp only [sessCloseCmd, hc, byteAt_single, toNat_ofNat_slot, if_neg hgood]
  rfl

theorem sessClosed_findCmd {n : Fin 128} {p : Path} (hp : p ≠ .sess n) (tag : Nat) : (sessClosed d n).findCmd p tag = d.findCmd p tag := by
  refine (List.find?_filter ..).trans (List.find?_congr fun c _ => ?_)
  cases hkey : c.path == p && c.tag == tag with
  | false => simp
  | true =>
    have hpath : c.path = p := eq_of_beq (Bool.and_eq_true_iff.1 hkey).1
    have hother : onSess c.path n = false := by
      rw [hpath]
      cases p with
      | host => rfl
      | sess k => exact beq_eq_false_iff_ne.2 fun h => hp (congrArg Path.sess (Fin.ext h))
    simp [hother]

theorem sessClosed_abandons (n : Fin 128) : ∀ c ∈ (sessClosed d n).hst.outst, c.path ≠ .sess n := by
  intro c hc hpath
  obtain ⟨-, hkept⟩ := List.mem_filter.1 hc
  rw [hpath] at hkept
  simp [onSess] at hkept

section
variable (hlen : c.payload.length = 36) (hk : byteAt c.payload 0 ≤ 127) (hop : byteAt c.payload 1 = 0) (hres : leAt c.payload 2 2 = 0)
include hlen hk hop hres

/-- A payload of `NET_KEY_LOAD` that brings a key is refused by its path, or by the slot's use. -/
theorem keyLoadCmd_key : keyLoadCmd c d = if !d.keyPath c.path then (.reply .auth [], d)
    else if d.keyNamed (byteAt c.payload 0) then (.reply .state [], d)
    else (.reply .ok [], d.keyPut (byteAt c.payload 0) (some (c.payload.drop 4))) := by
  have hgood : ¬(127 < byteAt c.payload 0 ∨ 1 < byteAt c.payload 1 ∨ leAt c.payload 2 2 ≠ 0 ∨
      c.payload.length ≠ (if byteAt c.payload 1 = 0 then 36 else 4)) := by
    rw [if_pos hop]
    omega
  refine (if_neg hgood).trans ?_
  rw [if_pos hop]
  rfl

theorem keyLoadCmd_loads (hpath : d.keyPath c.path = true) (hfree : d.keyNamed (byteAt c.payload 0) = false) :
    keyLoadCmd c d = (.reply .ok [], d.keyPut (byteAt c.payload 0) (some (c.payload.drop 4))) :=
  (keyLoadCmd_key hlen hk hop hres).trans ((if_neg (by simp [hpath])).trans (if_neg (by simp [hfree])))

theorem keyLoadCmd_barred (hpath : d.keyPath c.path = false) : keyLoadCmd c d = (.reply .auth [], d) :=
  (keyLoadCmd_key hlen hk hop hres).trans (if_pos (by simp [hpath]))

end

theorem rekeyCmd_switches {n k : Fin 128} (hc : c.payload = [BitVec.ofNat 8 n, BitVec.ofNat 8 k]) (hpath : d.keyPath c.path = true)
    (hkey : (vget d.net.key k).isSome = true) (hphase : d.fg NET_CTX_s_10_TXPH n = 0) :
    rekeyCmd c d = (.reply .ok [], (d.fs NET_CTX_s_10_KEY1 k n).fs NET_CTX_s_10_TXPH 1 n) := by
  have hn : byteAt c.payload 0 = n := by rw [hc, byteAt_single, toNat_ofNat_slot]
  have hk : byteAt c.payload 1 = k := by rw [hc]; exact toNat_ofNat_slot k
  have hgood : ¬(c.payload.length ≠ 2 ∨ 127 < n.val ∨ 127 < k.val) := by
    rw [hc]
    rintro (h | h | h)
    · exact h rfl
    · omega
    · omega
  have hsome : (vget d.net.key k).isNone = false := by rw [Option.isNone_eq_false_iff, hkey]
  simp only [rekeyCmd, hn, hk, if_neg hgood, hpath, hsome, hphase, Bool.not_true, Bool.false_eq_true, if_false, if_true]
  rfl

end

theorem netSessOpen_opens {s : State} {p : Path} {tag : Byte} {b : List Byte} (up : s.up) (h : s.dev.started p tag 0x802 b) (hlen : b.length = 68)
    (hn : byteAt b 0 ≤ 127) (hres : leAt b 1 3 = 0) (hctx : ctxOk (b.drop 4) = true) (hoff : s.dev.fb NET_CTX_s_0_EN (byteAt b 0) = false) :
    ∃ t, exec (.netSessOpen p tag) s = .next t ∧ s.dev.completed t.dev p tag .ok [] ∧ t.dev.fb NET_CTX_s_0_EN (byteAt b 0) = true ∧
      t.dev.fg NET_CTX_s_8_LTAG (byteAt b 0) = leAt (b.drop 4) 32 4 ∧ t.dev.fg NET_CTX_s_11_SALT (byteAt b 0) = leAt (b.drop 4) 44 4 ∧
      vget t.dev.net.seen (byteAt b 0) = [] ∧ vget t.dev.hst.sver (byteAt b 0) = 1 := by
  obtain ⟨e, he⟩ : ∃ e, ctxWritten s.dev (byteAt b 0) (b.drop 4) = e := ⟨_, rfl⟩
  have hrow : exec (.netSessOpen p tag) s = .next (s.answer (e.sessEnable (byteAt b 0)) p tag .ok []) :=
    State.run_answers up h fun c hc => by
      subst hc
      rw [sessOpenCmd_opens hlen hn hres hctx hoff, he]
  have hen : e.fg NET_CTX_s_0_EN (byteAt b 0) = 1 := he ▸ Dev.fg_fs ..
  have htag : e.fg NET_CTX_s_8_LTAG (byteAt b 0) = leAt (b.drop 4) 32 4 := by
    rw [← he, fg_ctxWritten (F := NET_CTX_s_8_LTAG) (by simp [ctxFields]) rfl (by decide), of_leAt rfl rfl]
    rfl
  have hsalt : e.fg NET_CTX_s_11_SALT (byteAt b 0) = leAt (b.drop 4) 44 4 := by
    rw [← he, fg_ctxWritten (F := NET_CTX_s_11_SALT) (by simp [ctxFields]) rfl (by decide), of_leAt rfl rfl]
    rfl
  have houtst : e.hst.outst = s.dev.hst.outst := congrArg Hst.outst (he ▸ ctxWritten_hst ..)
  clear he
  have hfg {F : Fld} (hF : 0x200B8000 ≤ F.base) : ((e.sessEnable (byteAt b 0)).complete p tag.toNat .ok []).fg F (byteAt b 0) = e.fg F (byteAt b 0) :=
    (Dev.fg_complete _ (hstStat_outst_key_ne hF)).trans (fg_sessEnable hF hn)
  obtain ⟨hnet, hsver⟩ := Dev.complete_sessions (e.sessEnable (byteAt b 0)) p tag.toNat .ok []
  have hdone := Dev.complete_completed (e := e.sessEnable (byteAt b 0)) h houtst .ok []
  refine ⟨_, hrow, hdone, ?enabled, (hfg (by decide)).trans htag, (hfg (by decide)).trans hsalt, ?seen, ?version⟩
  case enabled =>
    have hen' := (hfg (F := NET_CTX_s_0_EN) (by decide)).trans hen
    rw [State.answer, State.to_dev, Dev.fb, Dev.fg_land, hen']
    rfl
  case seen =>
    rw [State.answer, State.to_dev, Dev.land_net, hnet]
    exact vget_vset_same _ _ _ (by omega)
  case version =>
    rw [State.answer, State.to_dev, Dev.land_hst, hsver]
    exact vget_vset_same _ _ _ (by omega)

/-- Settles O42: a session packet is received, a packet sent, a key kept and a context opened and closed as each rule says. -/
theorem sessionsAndKeys : Obligations.SessionsAndKeys := by
  unfold Obligations.SessionsAndKeys
  refine fun s a p tag b up => ⟨?packet, ?replay, ?sends, ?exhausted, ?off, ?load, ?erase, ?opens, ?closes, ?keyLoad, ?keyBarred, ?rekey⟩
  case packet =>
    intro href x port pkt n hlen hver htype hres hen
    have hsound : s.dev.packetSound pkt := ⟨hlen, hver, htype, hres, hen⟩
    exact ⟨fun hnone => State.runAll_eq up ((if_pos href).trans (Dev.sessReceive_unmatched hsound hnone)),
      fun hsome hreplay => State.runAll_eq up ((if_pos href).trans (Dev.sessReceive_replay hsound hsome hreplay)),
      fun hsome hfresh hplain => State.runAll_eq up ((if_pos href).trans (Dev.sessReceive_unauthentic hsound hsome hfresh hplain)),
      fun m hsome hfresh hplain => State.runAll_eq up ((if_pos href).trans (Dev.sessReceive_delivers hsound hsome hfresh hplain))⟩
  case replay => exact fun n k hk hrx => Dev.numSeen_replay hk hrx
  case sends =>
    intro n ty m key hready hkey hport hlong
    rw [Dev.sessSend_ready hready hkey hport hlong]
    have hnum := Dev.txNum_lt hready
    exact ⟨rfl, Dev.fg_fs_pair (F := NET_CTX_s_12_TXNUM_LO) (G := NET_CTX_s_13_TXNUM_HI) rfl rfl (by omega) rfl (by decide) _⟩
  case exhausted => exact fun n ty m hen hnum hexh => Dev.sessSend_exhausted hen hnum hexh
  case off => exact fun n ty m hen => if_pos (by simp [hen])
  case load => exact fun k _ hok => keyLoadWrite_loads up hok
  case erase => exact fun k _ hok => keyEraseWrite_erases up hok
  case opens =>
    intro h hlen hn hres hctx hoff
    exact netSessOpen_opens up h hlen hn hres hctx hoff
  case closes =>
    intro n h hp
    refine ⟨_, State.run_answers up h fun c hc => sessCloseCmd_closes hc, ?_, Dev.completed_of_findCmd h (sessClosed_findCmd hp _) .ok [],
      fun k => Dev.findCmd_complete_none (sessClosed_abandons n) ..⟩
    rw [State.answer, State.to_dev, Dev.fg_land, Dev.fg_complete _ (hstStat_outst_key_ne (by decide))]
    exact (Dev.fg_fs_ne _ _ _ _ _ _ (hstStat_outst_key_ne (by decide))).trans (Dev.fg_fs ..)
  case keyLoad =>
    intro h hlen hk hop hres hpath hfree
    exact State.run_answersPath up h fun c hc hp _ => hc ▸ keyLoadCmd_loads (hc ▸ hlen) (hc ▸ hk) (hc ▸ hop) (hc ▸ hres) (hp ▸ hpath) (hc ▸ hfree)
  case keyBarred =>
    intro h hlen hk hop hres hpath
    exact State.run_answersPath up h fun c hc hp _ => keyLoadCmd_barred (hc ▸ hlen) (hc ▸ hk) (hc ▸ hop) (hc ▸ hres) (hp ▸ hpath)
  case rekey =>
    intro n k h hpath hkey hphase
    exact State.run_answersPath up h fun c hc hp _ => rekeyCmd_switches hc (hp ▸ hpath) hkey hphase

end Sys2Proof.Machine
end

section
/-! SUPPORT. The statement about the Neriq Link (12). -/
set_option Elab.async false

namespace Sys2Proof.Machine

/-! ### Bytes and their checksum -/

theorem leNat_leBytes (n v : Nat) : leNat (leBytes n v) = v % 256 ^ n := by
  induction n generalizing v with
  | zero => simp [leBytes, leNat, Nat.mod_one]
  | succ n ih =>
    rw [leBytes, leNat, ih, BitVec.toNat_ofNat, pow_succ' 256 n, Nat.mod_mul]

theorem xor_lt {a b : Nat} (ha : a < 2 ^ 32) (hb : b < 2 ^ 32) : Nat.xor a b < 2 ^ 32 := Nat.xor_lt_two_pow ha hb

theorem crcShift_lt {n c : Nat} (hc : c < 2 ^ 32) : crcShift n c < 2 ^ 32 := by
  induction n generalizing c with
  | zero => exact hc
  | succ n ih =>
    rw [crcShift]
    have hhalf : c / 2 < 2 ^ 32 := by omega
    split
    · exact ih (xor_lt hhalf (by decide))
    · exact ih hhalf

theorem crcRun_lt {c : Nat} (hc : c < 2 ^ 32) (l : List Byte) : crcRun c l < 2 ^ 32 := by
  induction l generalizing c with
  | nil => exact hc
  | cons b t ih =>
    have hb : b.toNat < 2 ^ 32 := b.isLt.trans (by decide)
    exact ih (crcShift_lt (xor_lt hc hb))

theorem crc32c_lt (l : List Byte) : crc32c l < 2 ^ 32 := xor_lt (crcRun_lt (by decide) l) (by decide)

/-- A checksum written behind the bytes that it covers reads back. -/
theorem leAt_crc (l : List Byte) : leAt (l ++ leBytes 4 (crc32c l)) l.length 4 = crc32c l := by
  rw [leAt, List.drop_left, List.take_of_length_le (Dev.leBytes_length ..).le, leNat_leBytes]
  exact Nat.mod_eq_of_lt (crc32c_lt l)

/-- A frame of sound length with its checksum behind it has a sound layout. -/
theorem nqlFrameOk_crc {l : List Byte} (hlen : 8 ≤ l.length) (hsize : leAt l 4 2 + 8 = l.length) : nqlFrameOk (l ++ leBytes 4 (crc32c l)) = true := by
  have htotal : (l ++ leBytes 4 (crc32c l)).length = l.length + 4 := by rw [List.length_append, Dev.leBytes_length]
  have hhead : leAt (l ++ leBytes 4 (crc32c l)) 4 2 = leAt l 4 2 := by
    rw [leAt, List.drop_append_of_le_length (by omega), List.take_append_of_le_length (by rw [List.length_drop]; omega), leAt]
  rw [nqlFrameOk, htotal, Nat.add_sub_cancel, List.take_left, leAt_crc, hhead]
  simp only [Bool.and_eq_true, decide_eq_true_eq, and_true]
  omega

theorem nqlFrameOk_length {f : List Byte} (h : nqlFrameOk f = true) : 12 ≤ f.length ∧ leAt f 4 2 + 12 = f.length := by
  simp only [nqlFrameOk, Bool.and_eq_true, decide_eq_true_eq] at h
  exact h.1

/-! ### Frames (R310, R312) -/

/-- What a frame that goes on has before its checksum. -/
def rehopHead (f : List Byte) : List Byte := f.take 3 ++ leBytes 1 (byteAt f 3 - 1) ++ (f.take (f.length - 4)).drop 4

section
variable {f : List Byte} (hok : nqlFrameOk f = true)
include hok

theorem rehopHead_length : (rehopHead f).length = f.length - 4 := by
  obtain ⟨hlen, -⟩ := nqlFrameOk_length hok
  simp only [rehopHead, List.length_append, List.length_take, List.length_drop, Dev.leBytes_length]
  omega

theorem rehop_length : (rehop f).length = f.length := by
  obtain ⟨hlen, -⟩ := nqlFrameOk_length hok
  have hsum : (rehop f).length = (rehopHead f).length + (leBytes 4 (crc32c (rehopHead f))).length := List.length_append
  rw [hsum, rehopHead_length hok, Dev.leBytes_length]
  omega

theorem rehopHead_size : leAt (rehopHead f) 4 2 = leAt f 4 2 := by
  obtain ⟨hlen, -⟩ := nqlFrameOk_length hok
  have hfour : (f.take 3 ++ leBytes 1 (byteAt f 3 - 1)).length = 4 := by
    rw [List.length_append, Dev.leBytes_length, List.length_take]
    omega
  rw [leAt, rehopHead, List.drop_left' hfour, List.drop_take, List.take_take, leAt]
  congr 2
  omega

theorem nqlFrameOk_rehop : nqlFrameOk (rehop f) = true := by
  obtain ⟨hlen, hsize⟩ := nqlFrameOk_length hok
  have hsound : leAt (rehopHead f) 4 2 + 8 = (rehopHead f).length := by
    rw [rehopHead_size hok, rehopHead_length hok]
    omega
  exact nqlFrameOk_crc (l := rehopHead f) (by omega) hsound

theorem rehop_hops (hhops : 2 ≤ byteAt f 3 % 16) : byteAt (rehop f) 3 % 16 = byteAt f 3 % 16 - 1 := by
  obtain ⟨hlen, -⟩ := nqlFrameOk_length hok
  have hthree : (f.take 3).length = 3 := by rw [List.length_take]; omega
  have hbyte : byteAt (rehop f) 3 = (BitVec.ofNat 8 (byteAt f 3 - 1)).toNat := by
    simp only [byteAt, rehop, leBytes, List.append_assoc, List.getD_eq_getElem?_getD, List.getElem?_append_right hthree.le, hthree]
    rfl
  have hlt : byteAt f 3 < 256 := BitVec.isLt _
  rw [hbyte, BitVec.toNat_ofNat]
  omega

end

namespace Dev

theorem nqlFrameOk_nqlFrame (d : Dev) (dst type cls : Nat) {b : List Byte} (hb : b.length ≤ 512) : nqlFrameOk (d.nqlFrame dst type cls b) = true := by
  refine nqlFrameOk_crc ?_ ?_
  · simp only [List.length_append, Dev.leBytes_length]
    omega
  · have hshort : leNat (leBytes 2 b.length) = b.length := by
      rw [leNat_leBytes]
      omega
    have hsize : leAt (leBytes 1 type ++ leBytes 1 dst ++ leBytes 1 (d.fg NQL_CTRL_NODE) ++ leBytes 1 (16 * cls + 15) ++ leBytes 2 b.length ++
        leBytes 2 d.nql.seq ++ b) 4 2 = leNat (leBytes 2 b.length) := rfl
    rw [hsize, hshort]
    simp only [List.length_append, Dev.leBytes_length]
    omega

/-- A frame of this source leaves on its lanes with a sound layout. -/
theorem frameOut_sends {d e : Dev} {dst type cls : Nat} {b : List Byte} (he : d.frameOut dst type cls b = e) :
    e.tx = d.tx ++ (d.lanesTo dst).map (fun k => .nql k (d.nqlFrame dst type cls b)) := he ▸ rfl

section
variable {d : Dev} (h0 : d.laneUp 0 = true) (h1 : d.laneUp 1 = true)
include h0 h1

theorem lanesUp : (List.range 2).filter d.laneUp = [0, 1] := by
  simp [List.range, List.range.loop, h0, h1]

theorem lanesTo_broadcast : d.lanesTo 0xFF = [0, 1] := by
  rw [lanesTo, lanesUp h0 h1]
  rfl

theorem lanesTo_node (dst : Fin 16) : d.lanesTo dst =
    if vget (vget d.nql.node dst).hops 0 < vget (vget d.nql.node dst).hops 1 then [1] else [0] := by
  have hboth : ¬(dst.val = 0xFF ∨ [0, 1].length < 2) := by
    rintro (h | h)
    · omega
    · exact absurd h (by decide)
  simp only [lanesTo, lanesUp h0 h1, if_neg hboth]

end

/-! ### The states of a lane (R313) -/

/-- Below `DELAY` no measured delay stands. -/
def delayForgotten (d : Dev) (l st : Nat) : Dev :=
  if st < 3 then (d.fs NQL_LANE_l_DLY_VALID 0 l).updNLane l fun x => { x with dly := [], ovfRun := 0 } else d

/-- No node is reached on a lane. -/
def laneUnheard (d : Dev) (l : Nat) : Dev :=
  { d with nql := { d.nql with node := vmap (fun x => { x with lanes := clrBit x.lanes l, hops := vset x.hops l 0 }) d.nql.node } }

/-- A lane that is not `UP` reaches no node. -/
def nodesForgotten (d : Dev) (l st : Nat) : Dev := if st = 5 then d else (d.laneUnheard l).showRing

/-- What a lane sends as it enters a state. -/
def laneAnnounced (d : Dev) (l st : Nat) : Dev :=
  match st with
  | 2 => (d.fcnt NQL_LANE_l_STAT_TRAIN_CNT NQL_LANE_l_STAT_CNT_OVF l).sendSet l 0 (d.fg NQL_CTRL_NODE) l
  | 3 => d.sendPings l
  | 4 => d.frameOn [l] 0xFF 0x01 2 d.capPayload
  | _ => d

theorem laneGo_eq (d : Dev) (l st : Nat) :
    d.laneGo l st = (((d.fs NQL_LANE_l_STAT_STATE st l).delayForgotten l st).nodesForgotten l st).laneAnnounced l st := rfl

theorem sendPings_kept (d : Dev) (l : Nat) : (d.sendPings l).regs = d.regs ∧ (d.sendPings l).nql.node = d.nql.node := by
  have h : ∀ (k : List Nat) (d : Dev), (k.foldl (fun d _ => d.sendPing l) d).regs = d.regs ∧
      (k.foldl (fun d _ => d.sendPing l) d).nql.node = d.nql.node := by
    intro k
    induction k with
    | nil => exact fun d => ⟨rfl, rfl⟩
    | cons _ t ih => exact fun d => ih _
  exact h _ d

theorem fcnt_nql (d : Dev) (F V : Fld) (n : Nat) : (d.fcnt F V n).nql = d.nql := by
  unfold fcnt
  split <;> rfl

theorem laneAnnounced_node (d : Dev) (l st : Nat) : (d.laneAnnounced l st).nql.node = d.nql.node := by
  unfold laneAnnounced
  split
  · exact congrArg Nql.node (fcnt_nql ..)
  · exact (sendPings_kept d l).2
  · rfl
  · rfl

/-- The places of the register file that a change of lane `l`'s state can write. -/
def laneKeys (l : Nat) : List Nat := [NQL_LANE_l_STAT_STATE.key l, NQL_LANE_l_DLY_VALID.key l, NQL_STAT_RING_CLOSED.key 0,
  NQL_LANE_l_STAT_TRAIN_CNT.key l, NQL_LANE_l_STAT_CNT_OVF.key l]

section
variable {d : Dev} {G : Fld} {l m : Nat}

/-- A lane's change of state writes its own registers, and `RING_CLOSED`. -/
theorem fg_laneAnnounced (st : Nat) (hcnt : G.key m ≠ NQL_LANE_l_STAT_TRAIN_CNT.key l) (hovf : G.key m ≠ NQL_LANE_l_STAT_CNT_OVF.key l) :
    (d.laneAnnounced l st).fg G m = d.fg G m := by
  unfold laneAnnounced
  split
  · exact fg_fcnt_ne _ _ _ _ _ _ hcnt hovf
  · exact fg_of_regs (sendPings_kept d l).1 ..
  · rfl
  · rfl

theorem fg_delayForgotten (st : Nat) (h : G.key m ≠ NQL_LANE_l_DLY_VALID.key l) : (d.delayForgotten l st).fg G m = d.fg G m := by
  unfold delayForgotten
  split
  · exact fg_fs_ne _ _ _ _ _ _ h
  · rfl

theorem fg_nodesForgotten (st : Nat) (h : G.key m ≠ NQL_STAT_RING_CLOSED.key 0) : (d.nodesForgotten l st).fg G m = d.fg G m := by
  unfold nodesForgotten
  split
  · rfl
  · rw [showRing, fg_fs_ne _ _ _ _ _ _ h, fg, laneUnheard, fg]

theorem fg_laneGo (st : Nat) (h : G.key m ∉ laneKeys l := by decide) : (d.laneGo l st).fg G m = d.fg G m := by
  simp only [laneKeys, List.mem_cons, List.not_mem_nil, or_false, not_or] at h
  obtain ⟨hstate, hvalid, hring, hcnt, hovf⟩ := h
  rw [laneGo_eq, fg_laneAnnounced st hcnt hovf, fg_nodesForgotten st hring, fg_delayForgotten st hvalid, fg_fs_ne _ _ _ _ _ _ hstate]

end

theorem laneGo_state (d : Dev) (l : Fin 2) {st : Nat} (hst : st < 8) : (d.laneGo l st).fg NQL_LANE_l_STAT_STATE l = st := by
  have hne : ∀ l : Fin 2, NQL_LANE_l_STAT_STATE.key l ≠ NQL_LANE_l_STAT_TRAIN_CNT.key l ∧ NQL_LANE_l_STAT_STATE.key l ≠ NQL_LANE_l_STAT_CNT_OVF.key l ∧
      NQL_LANE_l_STAT_STATE.key l ≠ NQL_STAT_RING_CLOSED.key 0 ∧ NQL_LANE_l_STAT_STATE.key l ≠ NQL_LANE_l_DLY_VALID.key l := by decide
  obtain ⟨hcnt, hovf, hring, hvalid⟩ := hne l
  rw [laneGo_eq, fg_laneAnnounced st hcnt hovf, fg_nodesForgotten st hring, fg_delayForgotten st hvalid, fg_fs]
  exact Nat.mod_eq_of_lt (hst.trans_le (by decide))

theorem nodesForgotten_node {st : Nat} (hst : st ≠ 5) (d : Dev) (l : Nat) (n : Fin 16) :
    (vget (d.nodesForgotten l st).nql.node n).lanes = clrBit (vget d.nql.node n).lanes l := by
  rw [nodesForgotten, if_neg hst, showRing, fs_nql, laneUnheard, vget_vmap _ _ n.isLt]

theorem laneGo_forgets (d : Dev) (l st : Nat) (hst : st ≠ 5) (n : Fin 16) : (vget (d.laneGo l st).nql.node n).lanes.testBit l = false := by
  rw [laneGo_eq, laneAnnounced_node, nodesForgotten_node hst, testBit_clrBit]

end Dev

/-! ### The link enabled (R313) -/

/-- `NQL_CTRL` in the register map. -/
def nqlCtrlReg : Reg := ⟨0x20110000, 0x0, 0, 1, [⟨NQL_CTRL_EN, .RW, .any⟩, ⟨NQL_CTRL_L0_EN, .RW, .any⟩, ⟨NQL_CTRL_L1_EN, .RW, .any⟩,
  ⟨NQL_CTRL_RX_RING, .RW, (.rng 16 31)⟩, ⟨NQL_CTRL_NODE, .RW, .any⟩]⟩

theorem findReg_nqlCtrl : findReg (NQL_CTRL_EN.at 0) = some (nqlCtrlReg, 0) := rfl

theorem nqlCtrlReg_rw : ∀ s ∈ nqlCtrlReg.flds, s.acc = .RW := by simp [nqlCtrlReg]

/-- A field of `NQL_CTRL` takes what the written word gives it. -/
theorem storeWord_nqlCtrl {f : FldSpec} (hf : f ∈ nqlCtrlReg.flds) (d : Dev) (w : Nat) : (d.storeWord nqlCtrlReg 0 w).fg f.fld = f.fld.of w :=
  Dev.storeWord_of nqlCtrlReg_rw findReg_nqlCtrl (by decide) hf d w

namespace Dev

/-- Lane 0 enabled alone while both lanes are `DOWN`: it alone leaves `DOWN`. -/
theorem afterNQL_laneZero {d : Dev} (hen : d.fg NQL_CTRL_EN = 1) (hl0 : d.fg NQL_CTRL_L0_EN = 1) (hl1 : d.fg NQL_CTRL_L1_EN = 0)
    (hs0 : d.fg NQL_LANE_l_STAT_STATE 0 = 0) (hs1 : d.fg NQL_LANE_l_STAT_STATE 1 = 0) : d.afterNQL 0x20110000 = d.laneGo 0 1 := by
  have hon : d.laneEn 0 = true := by simp [laneEn, fb, hen, hl0]
  have hl1' : (d.laneGo 0 1).fg NQL_CTRL_L1_EN = 0 := (fg_laneGo 1).trans hl1
  have hoff : (d.laneGo 0 1).laneEn 1 = false := by simp [laneEn, fb, hl1']
  have hdown : (d.laneGo 0 1).fg NQL_LANE_l_STAT_STATE 1 = 0 := (fg_laneGo 1).trans hs1
  simp only [afterNQL, if_true, List.foldl_cons, List.foldl_nil, hon, hs0, hoff, Bool.false_eq_true, if_false, hdown, ne_eq, not_true_eq_false]

end Dev

theorem nqlEnable_laneZero {s : State} {a : Acc} {val : W32} (up : s.up) (hen : NQL_CTRL_EN.of val.toNat = 1) (hl0 : NQL_CTRL_L0_EN.of val.toNat = 1)
    (hl1 : NQL_CTRL_L1_EN.of val.toNat = 0) (hs0 : s.dev.fg NQL_LANE_l_STAT_STATE 0 = 0) (hs1 : s.dev.fg NQL_LANE_l_STAT_STATE 1 = 0)
    (hok : s.dev.accepts a (NQL_CTRL_EN.at 0) val.toNat) : ∃ t, exec (.nqlEnable a val) s = .next t ∧ t.dev.fg NQL_LANE_l_STAT_STATE 0 = 1 ∧
      t.dev.fg NQL_LANE_l_STAT_STATE 1 = 0 := by
  obtain ⟨e, he⟩ : ∃ e, s.dev.storeWord nqlCtrlReg 0 val.toNat = e := ⟨_, rfl⟩
  have hkeep (l : Fin 2) : e.fg NQL_LANE_l_STAT_STATE l = s.dev.fg NQL_LANE_l_STAT_STATE l :=
    he ▸ Dev.storeWord_fg_ne nqlCtrlReg_rw (by fin_cases l <;> decide) _ _
  have hwrite : (s.dev.regWrite a (NQL_CTRL_EN.at 0) val.toNat).2 = e.afterNQL 0x20110000 :=
    he ▸ Dev.regWrite_accepted findReg_nqlCtrl rfl (by decide) (by decide) rfl rfl hok
  rw [Dev.afterNQL_laneZero (he ▸ (storeWord_nqlCtrl (.head _) ..).trans hen) (he ▸ (storeWord_nqlCtrl (.tail _ (.head _)) ..).trans hl0)
    (he ▸ (storeWord_nqlCtrl (.tail _ (.tail _ (.head _))) ..).trans hl1) ((hkeep 0).trans hs0) ((hkeep 1).trans hs1)] at hwrite
  refine ⟨_, State.run_wrIf up (beq_iff_eq.2 hen) hwrite, e.laneGo_state 0 (by decide), ?_⟩
  exact (Dev.fg_laneGo 1).trans ((hkeep 1).trans hs1)

/-! ### Lane events (R313, R314) -/

section
variable {d : Dev} {l : Fin 2}

theorem Dev.laneUp_of_state (href : d.clk.refPresent = true) {l : Nat} (hst : d.fg NQL_LANE_l_STAT_STATE l = 5) : d.laneUp l = true := by
  rw [Dev.laneUp, Dev.ifClock, href, hst]
  rfl

/-- The delay of lane `l` as a measured value leaves it: the mean of the last 16, in range. -/
def Dev.delayShown (d : Dev) (l : Nat) (m : List Nat) : Dev :=
  ((d.fs NQL_LANE_l_DLY_DLY_OVF 0 l).updNLane l fun x => { x with dly := m, ovfRun := 0 }).fs NQL_LANE_l_DLY_DLY (m.sum / m.length) l

/-- An echo in `UP` within the range of `DLY`. -/
theorem echoReceivedDev_up {r rt v : Nat} {m : List Nat} (hst : d.fg NQL_LANE_l_STAT_STATE l = 5) (hv : (rt - r) / 2 = v) (hmax : v < 2 ^ 26)
    (hm : (v :: (vget d.nql.lane l).dly).take 16 = m) :
    echoReceivedDev l r rt d = if m.length < 16 then d.delayShown l m else (d.delayShown l m).fs NQL_LANE_l_DLY_VALID 1 l := by
  have hrange : ¬(5 < 3 ∨ 5 < 5) := by decide
  simp only [echoReceivedDev, hst, if_neg hrange, hv, if_neg (Nat.not_le.2 hmax), hm, show (5 : Nat) ≠ 3 by decide, ne_eq, not_false_eq_true, if_true]
  rfl

theorem Dev.delayShown_shows (d : Dev) (l : Fin 2) (m : List Nat) : (d.delayShown l m).fg NQL_LANE_l_DLY_DLY l = m.sum / m.length % 2 ^ NQL_LANE_l_DLY_DLY.len ∧
    (d.delayShown l m).fg NQL_LANE_l_DLY_DLY_OVF l = 0 ∧ (vget (d.delayShown l m).nql.lane l).dly = m ∧
    (d.delayShown l m).fg NQL_LANE_l_STAT_STATE l = d.fg NQL_LANE_l_STAT_STATE l := by
  have hlane : vget (d.delayShown l m).nql.lane l = { vget d.nql.lane l with dly := m, ovfRun := 0 } := vget_vset_same _ _ _ l.isLt
  refine ⟨Dev.fg_fs .., (Dev.fg_fs_stride (F := NQL_LANE_l_DLY_DLY)).trans (Dev.fg_fs ..), by rw [hlane],
    (Dev.fg_fs_stride (F := NQL_LANE_l_DLY_DLY)).trans (Dev.fg_fs_stride (F := NQL_LANE_l_DLY_DLY_OVF))⟩

theorem echoReceived_up {s : State} {num : Byte} {r : BitVec 16} {rt v : Nat} {m : List Nat} (up : s.up) (href : s.dev.clk.refPresent = true)
    (hst : s.dev.fg NQL_LANE_l_STAT_STATE l = 5) (hv : (rt - r.toNat) / 2 = v) (hmax : v < 2 ^ 26) (hm : (v :: (vget s.dev.nql.lane l).dly).take 16 = m) :
    ∃ t, exec (.echoReceived l num r rt) s = .next t ∧ t.dev.fg NQL_LANE_l_DLY_DLY l = m.sum / m.length % 2 ^ NQL_LANE_l_DLY_DLY.len ∧
      t.dev.fg NQL_LANE_l_DLY_DLY_OVF l = 0 ∧ (vget t.dev.nql.lane l).dly = m ∧ (m.length = 16 → t.dev.fg NQL_LANE_l_DLY_VALID l = 1) ∧
      t.dev.fg NQL_LANE_l_STAT_STATE l = 5 := by
  obtain ⟨hdly, hovf, hlist, hstate⟩ := s.dev.delayShown_shows l m
  rw [hst] at hstate
  refine ⟨_, State.runIf_eq up href (echoReceivedDev_up hst hv hmax hm), ?_⟩
  rw [State.to_dev]
  by_cases hfull : m.length < 16
  · rw [if_pos hfull]
    exact ⟨hdly, hovf, hlist, fun h => absurd h hfull.ne, hstate⟩
  · rw [if_neg hfull]
    exact ⟨(Dev.fg_fs_stride (F := NQL_LANE_l_DLY_VALID)).trans hdly, (Dev.fg_fs_stride (F := NQL_LANE_l_DLY_VALID)).trans hovf, hlist, fun _ => Dev.fg_fs .., (Dev.fg_fs_stride (F := NQL_LANE_l_DLY_VALID)).trans hstate⟩

section
variable {src hops : Nat} {b : List Byte} (hb : b.length = 16) (hsrc : src ≠ d.fg NQL_CTRL_NODE)
include hb hsrc

theorem capReceivedDev_up (hst : d.fg NQL_LANE_l_STAT_STATE l = 5) : capReceivedDev l src hops b d = d.nodeHeard l src hops (leAt b 6 2) := by
  have hgo : ¬(src = d.fg NQL_CTRL_NODE ∨ b.length ≠ 16) := by simp [hsrc, hb]
  exact (if_neg hgo).trans (if_pos hst)

variable (hst : d.fg NQL_LANE_l_STAT_STATE l = 4) (hpeer : src = d.fg NQL_LANE_l_DLY_PEER l)
include hst hpeer

/-- The peer's first `CAP`: the lane comes up where the versions have one in common. -/
theorem capReceivedDev_cap : capReceivedDev l src hops b d =
    if byteAt b 1 ≤ min 1 (byteAt b 0) ∧ 1 ≤ min 1 (byteAt b 0) then ((d.laneGo l 5).raise 97 l).nodeHeard l src hops (leAt b 6 2)
    else d.raise 99 l := by
  have hgo : ¬(src = d.fg NQL_CTRL_NODE ∨ b.length ≠ 16) := by simp [hsrc, hb]
  exact (if_neg hgo).trans ((if_neg (by rw [hst]; decide)).trans (if_pos ⟨hst, hpeer⟩))

end

/-- A node is forgotten once its `CAP` has been missing for 3 s. -/
theorem nodeTimeoutDev_due {n : Fin 16} (hnode : d.fbit NQL_STAT_NODES n = true) (hdue : (vget d.nql.node n).capAt + 2400000000 ≤ d.clk.ticks) :
    (nodeTimeoutDev n d).fbit NQL_STAT_NODES n = false ∧ vget (nodeTimeoutDev n d).nql.node n = {} := by
  have hrow : nodeTimeoutDev n d =
      (Dev.fsBit { d with nql := { d.nql with node := vset d.nql.node n {} } } NQL_STAT_NODES n false).showRing :=
    if_pos (Bool.and_eq_true_iff.2 ⟨hnode, decide_eq_true hdue⟩)
  rw [hrow]
  refine ⟨?_, vget_vset_same _ _ _ n.isLt⟩
  rw [Dev.showRing, Dev.fbit, Dev.fg_fs_ne _ _ _ _ _ _ (by decide), ← Dev.fbit]
  exact Dev.fbit_fsBit_same n.isLt ..

/-! ### Frames (R310 to R312) -/

section
variable {f : List Byte} {k : Nat} (hup : d.laneUp k = true)
include hup

theorem nqlForwardDev_bad (hok : nqlFrameOk f = false) : nqlForwardDev k f d = d.fcnt NQL_LANE_l_STAT_CRC_CNT NQL_LANE_l_STAT_CNT_OVF k := by
  simp only [nqlForwardDev, nqlFrameBadDev, hup, hok, Bool.not_true, Bool.not_false, Bool.false_eq_true, if_false, if_true]

variable (hok : nqlFrameOk f = true)
include hok

theorem nqlForwardDev_ends (h : byteAt f 3 % 16 ≤ 1 ∨ byteAt f 1 = d.fg NQL_CTRL_NODE) : nqlForwardDev k f d = d := by
  have hend : byteAt f 2 = d.fg NQL_CTRL_NODE ∨ byteAt f 1 = d.fg NQL_CTRL_NODE ∨ byteAt f 3 % 16 ≤ 1 := .inr h.symm
  simp only [nqlForwardDev, hup, hok, if_pos hend, Bool.not_true, Bool.false_eq_true, if_false]

theorem nqlForwardDev_goesOn (hsrc : byteAt f 2 ≠ d.fg NQL_CTRL_NODE) (hdst : byteAt f 1 ≠ d.fg NQL_CTRL_NODE) (hhops : 2 ≤ byteAt f 3 % 16)
    (htype : typeKnown (byteAt f 0) = true) (hother : d.laneUp (1 - k) = true) :
    nqlForwardDev k f d = { d with tx := d.tx ++ [.fwd (1 - k) (byteAt f 3 % 16 - 1) (rehop f)] } := by
  have hgo : ¬(byteAt f 2 = d.fg NQL_CTRL_NODE ∨ byteAt f 1 = d.fg NQL_CTRL_NODE ∨ byteAt f 3 % 16 ≤ 1) := by
    simp only [hsrc, hdst, false_or]
    omega
  simp only [nqlForwardDev, hup, hok, if_neg hgo, htype, hother, Bool.not_true, Bool.false_eq_true, if_false, if_true]

end

theorem Dev.frameNew_seen {src seq : Nat} (h : (src, seq) ∈ d.nql.seen) : d.frameNew src seq = (false, d) :=
  if_pos (List.contains_iff_mem.2 h)

theorem Dev.frameNew_new {src seq : Nat} (h : (src, seq) ∉ d.nql.seen) :
    d.frameNew src seq = (true, { d with nql := { d.nql with seen := ((src, seq) :: d.nql.seen).take 64 } }) :=
  if_neg (h ∘ List.contains_iff_mem.1)

theorem nqlDataDev_seen {k src seq : Nat} {b : List Byte} (h : (src, seq) ∈ d.nql.seen) : nqlDataDev k src seq b d = d := by
  rw [nqlDataDev, Dev.frameNew_seen h]
  exact ite_self d

theorem nqlDataDev_new {k src seq : Nat} {b : List Byte} {e : Dev} (hup : d.laneUp k = true) (hsrc : src ≠ d.fg NQL_CTRL_NODE)
    (h : (src, seq) ∉ d.nql.seen) (he : { d with nql := { d.nql with seen := ((src, seq) :: d.nql.seen).take 64 } } = e) :
    nqlDataDev k src seq b d = e.ringDeliver (d.fg NQL_CTRL_RX_RING) (0xFE * 65536) src 0 b := by
  have hgo : ¬((!d.laneUp k || src == d.fg NQL_CTRL_NODE) = true) := by simp [hup, hsrc]
  rw [nqlDataDev, Dev.frameNew_new h, he, if_neg hgo, ← he]
  rfl

/-! ### `NQL_SEND` (R316) -/

theorem nqlSendCmd_valid {c : Cmd} (hmin : 2 ≤ c.payload.length) (hmax : c.payload.length ≤ 513) (hdst : byteAt c.payload 0 ≤ 15 ∨ byteAt c.payload 0 = 0xFF)
    (hup : d.linkUp = true) : nqlSendCmd c d = if 16 ≤ d.nql.dataQ.length then (.reply .busy [], d)
      else (.reply .ok [], { d with nql := { d.nql with dataQ := d.nql.dataQ ++ [(byteAt c.payload 0, c.payload.drop 1)] } }) := by
  have hgo : ¬(c.payload.length < 2 ∨ 513 < c.payload.length ∨ (15 < byteAt c.payload 0 ∧ byteAt c.payload 0 ≠ 0xFF)) := by omega
  exact (if_neg hgo).trans (if_neg (by simp [hup]))

end

/-- Settles O45: each lane event, each frame and `NQL_SEND` come to what its rule says; a frame that goes on keeps a sound layout. -/
theorem neriqLink : Obligations.NeriqLink := by
  unfold Obligations.NeriqLink
  refine ⟨fun s a l up href => ⟨?enable, ?sync, ?nosig, ?trained, ?conflict, ?ping, ?echo, ?pingTimer, ?cap, ?lanes, ?frame, ?presence, ?burst, ?bad, ?go⟩,
    fun s p tag l up href => ⟨?forward, ?crc, ?ends, ?rehops, ?data, ?seen, ?beacon, ?queued, ?full⟩⟩
  case enable => exact fun val hen hl0 hl1 hs0 hs1 hok => nqlEnable_laneZero up hen hl0 hl1 hs0 hs1 hok
  case sync => exact fun hst => State.runIf_eq up href (if_pos hst)
  case nosig => exact fun hst => State.runIf_eq up href (if_pos hst)
  case trained => exact fun peer hst hpeer => State.runIf_eq up href ((if_neg (not_not_intro hst)).trans (if_neg hpeer))
  case conflict => exact fun peer hst hpeer => State.runIf_eq up href ((if_neg (not_not_intro hst)).trans (if_pos hpeer))
  case ping => exact fun num r hst => State.runIf_eq up href (if_pos hst)
  case echo => exact fun num r rt v m hst hv hmax hm => echoReceived_up up href hst hv hmax hm
  case pingTimer => exact fun hst => State.runIf_eq up href (if_pos (Dev.laneUp_of_state href hst))
  case cap =>
    intro src hops b hb hsrc
    refine ⟨fun hst => State.runIf_eq up href (capReceivedDev_up hb hsrc hst), fun hst hpeer hmin hmax => ?_, fun hst hpeer hmin => ?_⟩
    · exact State.runIf_eq up href ((capReceivedDev_cap hb hsrc hst hpeer).trans (if_pos (by omega)))
    · exact State.runIf_eq up href ((capReceivedDev_cap hb hsrc hst hpeer).trans (if_neg (by omega)))
  case lanes =>
    intro dst h0 h1 hup0 hup1 hh0 hh1
    refine ⟨Dev.lanesTo_broadcast hup0 hup1, fun h => ?_, fun h => ?_⟩
    · rw [Dev.lanesTo_node hup0 hup1, hh0, hh1]
      exact if_pos h
    · rw [Dev.lanesTo_node hup0 hup1, hh0, hh1]
      exact if_neg (Nat.not_lt.2 (Fin.le_def.1 h.le))
  case frame => exact fun dst type cls b e he hb => ⟨Dev.frameOut_sends he, Dev.nqlFrameOk_nqlFrame _ _ _ _ hb⟩
  case presence => exact fun n hnode hdue => ⟨_, State.run_up up _, nodeTimeoutDev_due hnode hdue⟩
  case burst => exact fun hst => State.runIf_eq up href (if_pos (Dev.laneUp_of_state href hst))
  case bad => exact fun code hst => State.runIf_eq up href (if_pos (Dev.laneUp_of_state href hst))
  case go =>
    intro k
    exact ⟨Dev.laneGo_state _ l (k.isLt.trans (by decide)), fun hk n => Dev.laneGo_forgets _ l k (fun h => hk (Fin.ext h)) n⟩
  case forward =>
    exact fun f hup hok hsrc hdst hhops htype hother => State.runIf_eq up href (nqlForwardDev_goesOn hup hok hsrc hdst hhops htype hother)
  case crc => exact fun f hup hok => State.runIf_eq up href (nqlForwardDev_bad hup hok)
  case ends => exact fun f hup hok h => State.runIf_eq up href (nqlForwardDev_ends hup hok h)
  case rehops => exact fun f hok hhops => ⟨nqlFrameOk_rehop hok, rehop_hops hok hhops, rehop_length hok⟩
  case data => exact fun src seq b e hup hsrc hnew he => State.runIf_eq up href (nqlDataDev_new hup hsrc hnew he)
  case seen => exact fun src seq b hseen => State.runIf_eq up href (nqlDataDev_seen hseen)
  case beacon => exact fun hup => State.runIf_eq up href (if_pos hup)
  case queued =>
    intro b h hmin hmax hdst hup hroom
    exact State.run_answers up h fun c hc => by
      subst hc
      exact (nqlSendCmd_valid hmin hmax hdst hup).trans (if_neg (Nat.not_le.2 hroom))
  case full =>
    intro b h hmin hmax hdst hup hroom
    exact State.run_answers up h fun c hc => by
      subst hc
      exact (nqlSendCmd_valid hmin hmax hdst hup).trans (if_pos hroom)

end Sys2Proof.Machine
end

section
/-! SUPPORT. Bytes replaced in a list, and the statement about two hubs that merge (13). -/
set_option Elab.async false

namespace Sys2Proof.Machine

/-! ### Bytes replaced in a list -/

section
variable {l b : List Byte} {i : Nat} (h : i + b.length ≤ l.length)
include h

theorem putAt_length : (putAt l i b).length = l.length := by
  simp only [putAt, List.length_append, List.length_take, List.length_drop]
  omega

theorem getElem?_putAt (j : Nat) : (putAt l i b)[j]? = if i ≤ j ∧ j < i + b.length then b[j - i]? else l[j]? := by
  have hi : (l.take i).length = i := by rw [List.length_take]; omega
  rw [putAt, List.append_assoc]
  by_cases hlow : j < i
  · rw [List.getElem?_append_left (by omega), List.getElem?_take_of_lt hlow, if_neg (by omega)]
  · rw [List.getElem?_append_right (by omega), hi]
    by_cases hin : j < i + b.length
    · rw [List.getElem?_append_left (by omega), if_pos (by omega)]
    · rw [List.getElem?_append_right (by omega), List.getElem?_drop, if_neg (by omega)]
      congr 1
      omega

/-- Bytes apart from those replaced. -/
theorem drop_take_putAt {j n : Nat} (hj : j + n ≤ i ∨ i + b.length ≤ j) : ((putAt l i b).drop j).take n = (l.drop j).take n := by
  refine List.ext_getElem? fun k => ?_
  by_cases hk : k < n
  · rw [List.getElem?_take_of_lt hk, List.getElem?_take_of_lt hk, List.getElem?_drop, List.getElem?_drop, getElem?_putAt h, if_neg (by omega)]
  · rw [List.getElem?_take, List.getElem?_take, if_neg hk, if_neg hk]

theorem leAt_putAt {j n : Nat} (hj : j + n ≤ i ∨ i + b.length ≤ j) : leAt (putAt l i b) j n = leAt l j n := congrArg leNat (drop_take_putAt h hj)

theorem byteAt_putAt {j : Nat} (hj : j < i ∨ i + b.length ≤ j) : byteAt (putAt l i b) j = byteAt l j := by
  rw [byteAt, List.getD_eq_getElem?_getD, getElem?_putAt h, if_neg (by omega), ← List.getD_eq_getElem?_getD, ← byteAt]

/-- The bytes replaced. -/
theorem drop_take_putAt_same : ((putAt l i b).drop i).take b.length = b := by
  have hi : (l.take i).length = i := by rw [List.length_take]; omega
  rw [putAt, List.append_assoc, List.drop_left' hi, List.take_left]

end

section
variable {e : List Byte} {i n v : Nat} (h : i + n ≤ e.length)
include h

theorem eput_length : (eput e i n v).length = e.length := putAt_length (by rw [Dev.leBytes_length]; exact h)

theorem leAt_eput {j m : Nat} (hj : j + m ≤ i ∨ i + n ≤ j) : leAt (eput e i n v) j m = leAt e j m :=
  leAt_putAt (by rw [Dev.leBytes_length]; exact h) (by rw [Dev.leBytes_length]; exact hj)

theorem byteAt_eput {j : Nat} (hj : j < i ∨ i + n ≤ j) : byteAt (eput e i n v) j = byteAt e j :=
  byteAt_putAt (by rw [Dev.leBytes_length]; exact h) (by rw [Dev.leBytes_length]; exact hj)

/-- A number written reads back. -/
theorem leAt_eput_same : leAt (eput e i n v) i n = v % 256 ^ n := by
  have hsame : ((putAt e i (leBytes n v)).drop i).take (leBytes n v).length = leBytes n v := drop_take_putAt_same (by rw [Dev.leBytes_length]; exact h)
  rw [Dev.leBytes_length] at hsame
  rw [leAt, eput, hsame, leNat_leBytes]

end

theorem leAt_esetBit {e : List Byte} {i b j m : Nat} {v : Bool} (h : i + 1 ≤ e.length) (hj : j + m ≤ i ∨ i + 1 ≤ j) :
    leAt (esetBit e i b v) j m = leAt e j m := leAt_eput h hj

/-! ### Two hubs that merge (R340) -/

section
variable {l r : List Byte}

theorem someHigher_iff (a b : List Byte) : someHigher a b = true ↔ ∃ k : Fin 3, slotCnt b k < slotCnt a k := by
  simp only [someHigher, List.any_cons, List.any_nil, Bool.or_false, Bool.or_eq_true, decide_eq_true_eq]
  constructor
  · rintro (h | h | h)
    · exact ⟨0, h⟩
    · exact ⟨1, h⟩
    · exact ⟨2, h⟩
  · rintro ⟨k, h⟩
    fin_cases k
    · exact .inl h
    · exact .inr (.inl h)
    · exact .inr (.inr h)

/-- Of two vectors that differ one wins over the other. -/
theorem wins_flip (hne : ∃ k : Fin 3, slotCnt l k ≠ slotCnt r k) : wins r l = !wins l r := by
  have hflip : ∀ a b : Nat, a ≠ b → decide (a < b) = !decide (b < a) := fun a b h => by
    rw [← decide_not, decide_eq_decide]
    omega
  unfold wins
  by_cases h2 : slotCnt l 2 = slotCnt r 2
  · by_cases h1 : slotCnt l 1 = slotCnt r 1
    · have h0 : slotCnt l 0 ≠ slotCnt r 0 := by
        obtain ⟨k, hk⟩ := hne
        fin_cases k
        · exact hk
        · exact absurd h1 hk
        · exact absurd h2 hk
      simp only [h2, h1, ne_eq, not_true_eq_false, if_false, h0, h0.symm, not_false_eq_true, if_true]
      exact hflip _ _ h0
    · simp only [h2, ne_eq, not_true_eq_false, if_false, h1, Ne.symm h1, not_false_eq_true, if_true]
      exact hflip _ _ h1
  · simp only [ne_eq, h2, Ne.symm h2, not_false_eq_true, if_true]
    exact hflip _ _ h2

/-- Slot `k` of the slot-by-slot maximum. -/
def maxSlot (a b : List Byte) (k : Nat) : List Byte := ((if slotCnt a k < slotCnt b k then b else a).drop (32 + 8 * k)).take 8

theorem maxVector_eq (a b e : List Byte) :
    maxVector a b e = putAt (putAt (putAt e 32 (maxSlot a b 0)) 40 (maxSlot a b 1)) 48 (maxSlot a b 2) := rfl

section
variable (hl : 64 ≤ l.length) (hr : 64 ≤ r.length)
include hl hr

theorem maxSlot_length (k : Fin 3) : (maxSlot l r k).length = 8 := by
  have h : 32 + 8 * k.val + 8 ≤ (if slotCnt l k < slotCnt r k then r else l).length := by split <;> omega
  rw [maxSlot, List.length_take, List.length_drop]
  omega

variable (heq : ∀ k : Fin 3, slotCnt l k = slotCnt r k → (l.drop (32 + 8 * k)).take 8 = (r.drop (32 + 8 * k)).take 8)

include heq in
omit hl hr in
theorem maxSlot_comm (k : Fin 3) : maxSlot l r k = maxSlot r l k := by
  rw [maxSlot, maxSlot]
  rcases Nat.lt_trichotomy (slotCnt l k) (slotCnt r k) with h | h | h
  · rw [if_pos h, if_neg h.asymm]
  · rw [if_neg h.not_lt, if_neg h.symm.not_lt, heq k h]
  · rw [if_neg h.asymm, if_pos h]

include heq in
omit hl hr in
theorem maxVector_comm (e : List Byte) : maxVector l r e = maxVector r l e := by
  rw [maxVector_eq, maxVector_eq, show maxSlot l r 0 = _ from maxSlot_comm heq 0, show maxSlot l r 1 = _ from maxSlot_comm heq 1,
    show maxSlot l r 2 = _ from maxSlot_comm heq 2]
  rfl

omit hl hr

/-- A slot's counter, from the slot's bytes. -/
theorem slotCnt_eq (e : List Byte) (k : Nat) : slotCnt e k = leNat ((((e.drop (32 + 8 * k)).take 8).drop 4).take 4) := by
  rw [List.drop_take, List.drop_drop, List.take_take, slotCnt, leAt]
  congr 3
  omega

/-- The counter of a slot of the maximum. -/
theorem slotCnt_maxSlot (k : Fin 3) : leNat (((maxSlot l r k).drop 4).take 4) = max (slotCnt l k) (slotCnt r k) := by
  rw [maxSlot, ← slotCnt_eq]
  split
  · next h => exact (Nat.max_eq_right h.le).symm
  · next h => exact (Nat.max_eq_left (Nat.le_of_not_lt h)).symm

include hl hr

omit hl hr in
theorem putSlot_length {e b : List Byte} {i : Nat} (he : e.length = 64) (hb : b.length = 8) (hi : i ≤ 48) : (putAt e i b).length = 64 :=
  (putAt_length (by omega)).trans he

/-- Each slot of the slot-by-slot maximum. -/
theorem maxVector_slot {e : List Byte} (he : e.length = 64) (k : Fin 3) : ((maxVector l r e).drop (32 + 8 * k)).take 8 = maxSlot l r k := by
  have h0 : (maxSlot l r 0).length = 8 := maxSlot_length hl hr 0
  have h1 : (maxSlot l r 1).length = 8 := maxSlot_length hl hr 1
  have h2 : (maxSlot l r 2).length = 8 := maxSlot_length hl hr 2
  have l0 := putSlot_length he h0 (show 32 ≤ 48 by decide)
  have l1 := putSlot_length l0 h1 (show 40 ≤ 48 by decide)
  have p0 : 32 + (maxSlot l r 0).length ≤ e.length := by rw [he, h0]; decide
  have p1 : 40 + (maxSlot l r 1).length ≤ (putAt e 32 (maxSlot l r 0)).length := by rw [l0, h1]; decide
  have p2 : 48 + (maxSlot l r 2).length ≤ (putAt (putAt e 32 (maxSlot l r 0)) 40 (maxSlot l r 1)).length := by rw [l1, h2]; decide
  have same : ∀ {e : List Byte} {i : Nat} {b : List Byte}, i + b.length ≤ e.length → b.length = 8 → ((putAt e i b).drop i).take 8 = b :=
    fun h hb => hb ▸ drop_take_putAt_same h
  rw [maxVector_eq]
  fin_cases k
  · rw [drop_take_putAt p2 (.inl (by decide)), drop_take_putAt p1 (.inl (by decide))]
    exact same p0 h0
  · rw [drop_take_putAt p2 (.inl (by decide))]
    exact same p1 h1
  · exact same p2 h2

theorem maxVector_length {e : List Byte} (he : e.length = 64) : (maxVector l r e).length = 64 := by
  have h0 : (maxSlot l r 0).length = 8 := maxSlot_length hl hr 0
  have h1 : (maxSlot l r 1).length = 8 := maxSlot_length hl hr 1
  have h2 : (maxSlot l r 2).length = 8 := maxSlot_length hl hr 2
  have l0 := putSlot_length he h0 (show 32 ≤ 48 by decide)
  have l1 := putSlot_length l0 h1 (show 40 ≤ 48 by decide)
  rw [maxVector_eq]
  exact putSlot_length l1 h2 le_rfl

theorem slotCnt_conflict {e : List Byte} (he : e.length = 64) (k : Fin 3) :
    slotCnt (esetBit (maxVector l r e) 56 0 true) k = max (slotCnt l k) (slotCnt r k) := by
  rw [slotCnt, leAt_esetBit (by rw [maxVector_length hl hr he]; decide) (by omega), ← slotCnt, slotCnt_eq, maxVector_slot hl hr he, slotCnt_maxSlot]

omit hl hr in
theorem slotCnt_take (e : List Byte) (k : Fin 3) : slotCnt (e.take 64) k = slotCnt e k := by
  rw [slotCnt, leAt, List.drop_take, List.take_take, slotCnt, leAt]
  congr 2
  omega

omit hl hr in
theorem slotCnt_le_of_not_higher {a b : List Byte} (h : someHigher a b = false) (k : Fin 3) : slotCnt a k ≤ slotCnt b k :=
  Nat.le_of_not_lt fun hlt => Bool.false_ne_true (h.symm.trans ((someHigher_iff a b).2 ⟨k, hlt⟩))

end

/-- Where only one vector is higher somewhere, its configuration is taken whole. -/
theorem mergeConf_one_higher (h : someHigher l r = true) (h' : someHigher r l = false) :
    mergeConf l r = (l.take 64, false) ∧ mergeConf r l = (l.take 64, false) := by
  simp [mergeConf, h, h']

theorem mergeConf_both_higher (h : someHigher r l = true) (h' : someHigher l r = true) :
    mergeConf l r = (esetBit (maxVector l r ((if wins r l then r else l).take 64)) 56 0 true, true) := by
  simp [mergeConf, h, h']

end

/-- Settles O50: where both vectors are higher somewhere the winner and the maximum do not depend on the order; otherwise one part is taken whole. -/
theorem lampMergeAgrees : Obligations.LampMergeAgrees := by
  unfold Obligations.LampMergeAgrees
  intro l r hl hr heq hne
  by_cases hlr : someHigher l r = true <;> by_cases hrl : someHigher r l = true
  case pos =>
    have hwin : (if wins l r then l else r) = if wins r l then r else l := by
      rw [wins_flip hne]
      cases wins l r <;> rfl
    have hlen : ((if wins r l then r else l).take 64).length = 64 := by
      rw [List.length_take]
      split <;> omega
    rw [mergeConf_both_higher hrl hlr, mergeConf_both_higher hlr hrl, hwin, maxVector_comm heq]
    refine ⟨rfl, rfl, fun k => ?_⟩
    rw [← maxVector_comm heq]
    exact slotCnt_conflict hl hr hlen k
  case neg =>
    have hrl' := Bool.eq_false_iff.2 hrl
    obtain ⟨h1, h2⟩ := mergeConf_one_higher hlr hrl'
    rw [h1, h2]
    exact ⟨rfl, rfl, fun k => (slotCnt_take l k).trans (Nat.max_eq_left (slotCnt_le_of_not_higher hrl' k)).symm⟩
  case pos =>
    have hlr' := Bool.eq_false_iff.2 hlr
    obtain ⟨h1, h2⟩ := mergeConf_one_higher hrl hlr'
    rw [h1, h2]
    exact ⟨rfl, rfl, fun k => (slotCnt_take r k).trans (Nat.max_eq_right (slotCnt_le_of_not_higher hlr' k)).symm⟩
  case neg =>
    obtain ⟨k, hk⟩ := hne
    exact absurd (Nat.le_antisymm (slotCnt_le_of_not_higher (Bool.eq_false_iff.2 hlr) k) (slotCnt_le_of_not_higher (Bool.eq_false_iff.2 hrl) k)) hk

end Sys2Proof.Machine
end

section
/-! SUPPORT. The statements about the PLC ports and about Lamplighter's commands (13). -/
set_option Elab.async false

namespace Sys2Proof.Machine
namespace Dev

theorem wrRaw_regs (d : Dev) (a : Nat) (l : List Byte) : (d.wrRaw a l).regs = d.regs := by
  induction l generalizing d a with
  | nil => rfl
  | cons b t ih =>
    rw [wrRaw, ih, wr8]
    split <;> rfl

theorem wrN_regs (d : Dev) (a : Nat) (l : List Byte) : (d.wrN a l).regs = d.regs := by
  rw [← wrRaw_regs d a l, wrN]
  split <;> rfl

theorem lmpOn_of_regs {d e : Dev} (h : e.regs = d.regs) : e.lmpOn = d.lmpOn := by rw [lmpOn, notFollower, fb, fg_of_regs h, fg_of_regs h]; rfl

/-! ### The PLC ports (R323, R326) -/

section
variable {d : Dev} {p : Nat}

theorem portStart_on (h : d.portOn p = true) : d.portStart p =
    ((d.fs LMP_PORT_p_STAT_STATE 1 p).updLPort p fun y => { y with miss := 0 }).plmSend p 8 (leBytes 2 (d.fg LMP_PORT_p_PAN_PAN p)) := if_pos h

theorem startConfirm_on (h : d.portOn p = true) (st : Byte) :
    d.startConfirm p st.toNat = if st = 0 then (d.fs LMP_PORT_p_STAT_STATE 2 p).sendAgain p else d.portDown p := by
  have hzero : st.toNat = 0 ↔ st = 0 := by rw [← BitVec.toNat_inj]; rfl
  simp only [startConfirm, h, Bool.not_true, Bool.false_eq_true, if_false, hzero]

theorem keepaliveDev_up (h : d.portUp p = true) : keepaliveDev p d = if 3 ≤ (vget d.lmp.port p).miss then d.portDown p
    else (d.updLPort p fun y => { y with miss := (vget d.lmp.port p).miss + 1 }).plmSend p 6 [0, 0] := if_neg (by simp [h])

theorem plmSend_waits {p : Fin 4} {type : Nat} {b : List Byte} (hmode : d.fb LMP_PORT_p_CFG_MODE p = false) (hcts : (vget d.lmp.port p).cts = false) :
    (d.plmSend p type b).tx = d.tx ∧ (vget (d.plmSend p type b).lmp.port p).q = (vget d.lmp.port p).q ++ [(type, b)] := by
  have hgo : ¬(d.fb LMP_PORT_p_CFG_MODE p = true ∨ (vget d.lmp.port p).cts = true) := by simp [hmode, hcts]
  rw [plmSend, if_neg hgo]
  exact ⟨rfl, congrArg LPort.q (vget_vset_same _ _ _ p.isLt)⟩

theorem plmSend_leaves {p : Fin 4} {type : Nat} {b : List Byte} (h : d.fb LMP_PORT_p_CFG_MODE p = true ∨ (vget d.lmp.port p).cts = true) :
    (d.plmSend p type b).tx = d.tx ++ [.plm p (plmFrame type (vget d.lmp.port p).seq b)] ∧
      (vget (d.plmSend p type b).lmp.port p).seq = ((vget d.lmp.port p).seq + 1) % 256 := by
  rw [plmSend, if_pos h]
  exact ⟨rfl, congrArg LPort.seq (vget_vset_same _ _ _ p.isLt)⟩

section
variable {eui : BitVec 64} {short : BitVec 16} (hon : d.portOn p = true) (heui : eui ≠ 0)
include hon heui

theorem not_joinIgnored : ¬((!d.portOn p) = true ∨ eui.toNat = 0) := by
  rintro (h | h)
  · rw [hon] at h
    cases h
  · exact heui (BitVec.eq_of_toNat_eq h)

theorem joinDev_new {n : Nat} {e : Dev} (hnone : d.lookup (leBytes 8 eui.toNat) = none) (hnew : d.newE (joinEntry d p eui.toNat short.toNat) = (some n, e)) :
    joinDev p eui.toNat short.toNat d = ((e.putConf n (e.rawE n)).raise 105 n).entryChanged n := by
  simp only [joinDev, if_neg (not_joinIgnored hon heui), hnone, hnew]

theorem joinDev_known {k n : Nat} {e : List Byte} (hsome : d.lookup (leBytes 8 eui.toNat) = some (k, n)) (hent : d.ent n = some e) :
    joinDev p eui.toNat short.toNat d = (d.putConf n (eput e 8 2 short.toNat)).entryChanged n := by
  simp only [joinDev, if_neg (not_joinIgnored hon heui), hsome, hent]

omit heui in
theorem leaveDev_known {k n : Nat} {e : List Byte} (hsome : d.lookup (leBytes 8 eui.toNat) = some (k, n)) (hent : d.ent n = some e) :
    leaveDev p eui.toNat d = d.putConf n (eput e 8 2 0xFFFF) := by
  simp only [leaveDev, hon, hsome, hent, Bool.not_true, Bool.false_eq_true, if_false]

end
end
end Dev

/-- `LMP_PORT_p_CFG` in the register map. -/
def lampPortReg : Reg := ⟨0x200C0200, 0x10, 0, 4, [⟨LMP_PORT_p_CFG_EN, .RW, .any⟩, ⟨LMP_PORT_p_CFG_MODE, .RW, .any⟩, ⟨LMP_PORT_p_CFG_RST, .RW, .any⟩,
  ⟨LMP_PORT_p_CFG_BAUD, .RW, .any⟩, ⟨LMP_PORT_p_CFG_SCK, .RW, .any⟩, ⟨LMP_PORT_p_CFG_WIN, .RW, .nz⟩, ⟨LMP_PORT_p_CFG_RATE, .RW, (.rng 1 100)⟩]⟩

theorem findReg_lampPort (p : Fin 4) : findReg (LMP_PORT_p_CFG_EN.at p) = some (lampPortReg, p.val) := by
  fin_cases p <;> rfl

theorem lampPortReg_rw : ∀ s ∈ lampPortReg.flds, s.acc = .RW := by simp [lampPortReg]

/-- The write of `EN` alone keeps what Lamplighter runs by. -/
theorem lmpOn_storeWord_lampPort (d : Dev) (p : Fin 4) (w : Nat) : (d.storeWord lampPortReg p w).lmpOn = d.lmpOn := by
  have hne {G : Fld} (hG : G.key 0 < 32 * 0x200C0200) : ∀ s ∈ lampPortReg.flds, G.key 0 ≠ s.fld.key p := by
    intro s hs
    have hbase : ∀ s ∈ lampPortReg.flds, 0x200C0200 ≤ s.fld.base := by decide
    have hkey : 32 * 0x200C0200 ≤ s.fld.key p := by
      have := hbase s hs
      simp only [Fld.key]
      omega
    omega
  have hfg {G : Fld} (hG : G.key 0 < 32 * 0x200C0200) : (d.storeWord lampPortReg p w).fg G = d.fg G := Dev.storeWord_fg_ne lampPortReg_rw (hne hG) d w
  rw [Dev.lmpOn, Dev.notFollower, Dev.fb_of_fg (hfg (by decide)), hfg (by decide), Dev.lmpOn, Dev.notFollower]

theorem plcPortEnable_starts {s : State} {p : Fin 4} {a : Acc} {val : W32} (up : s.up) (hon : s.dev.lmpOn = true)
    (hval : LMP_PORT_p_CFG_EN.of val.toNat = 1) (hoff : s.dev.fb LMP_PORT_p_CFG_EN p = false) (hok : s.dev.accepts a (LMP_PORT_p_CFG_EN.at p) val.toNat) :
    ∃ e : Dev, exec (.plcPortEnable a p val) s = .next (s.to (e.portStart p)) ∧ e.lmp = s.dev.lmp ∧ e.portOn p = true := by
  obtain ⟨e, he⟩ : ∃ e, s.dev.storeWord lampPortReg p val.toNat = e := ⟨_, rfl⟩
  obtain ⟨r, hr⟩ := Dev.storeWord_regs lampPortReg_rw s.dev p val.toNat
  have hat : LMP_PORT_p_CFG_EN.at p = 0x200C0200 + 0x10 * p.val := rfl
  have hen : e.fg LMP_PORT_p_CFG_EN p = 1 := he ▸ (Dev.storeWord_of lampPortReg_rw (findReg_lampPort p) (by decide) (.head _) _ _).trans hval
  have hen' : e.fb LMP_PORT_p_CFG_EN p = true := by rw [Dev.fb, hen]; rfl
  have hrun : e.lmpOn = true := he ▸ (lmpOn_storeWord_lampPort ..).trans hon
  have hwrite : (s.dev.regWrite a (LMP_PORT_p_CFG_EN.at p) val.toNat).2 = e.afterLMP s.dev 0x200C0200 p :=
    he ▸ Dev.regWrite_accepted (findReg_lampPort p) (by omega) (by omega) (by omega) rfl rfl hok
  have hafter : e.afterLMP s.dev 0x200C0200 p = e.portStart p := if_pos (by simp [hrun, hen', hoff])
  exact ⟨e, State.run_wrIf up (by simp [rises, hval, hoff]) (hwrite.trans hafter), by rw [← he, hr], by rw [Dev.portOn, hrun, hen']; rfl⟩

/-- Settles O46: each row of a port comes to what its rule says while the port runs. -/
theorem lampPorts : Obligations.LampPorts := by
  unfold Obligations.LampPorts
  refine fun s p up => ⟨?enable, ?start, ?confirm, ?data, ?join, ?known, ?get, ?restart, ?bad, ?keepalive, ?reset, ?handshake, ?waits, ?leaves⟩
  case enable => exact fun a val hon hval hoff hok => plcPortEnable_starts up hon hval hoff hok
  case start => exact fun h => Dev.portStart_on h
  case confirm => exact fun st h => State.run_eq up (Dev.startConfirm_on h st)
  case data => exact fun h st => State.run_eq up rfl
  case join => exact fun eui short n e hon heui hnone hnew => State.run_eq up (Dev.joinDev_new hon heui hnone hnew)
  case known =>
    intro eui short k n e hon heui hsome hent
    exact ⟨State.run_eq up (Dev.joinDev_known hon heui hsome hent), State.run_eq up (Dev.leaveDev_known hon hsome hent)⟩
  case get => exact State.run_eq up rfl
  case restart => exact State.run_eq up rfl
  case bad => exact State.run_eq up rfl
  case keepalive => exact fun h => State.run_eq up (Dev.keepaliveDev_up h)
  case reset => exact fun h => State.run_eq up (if_pos h)
  case handshake => exact fun h => State.run_eq up (if_neg (by simp [h]))
  case waits => exact fun type b hmode hcts => Dev.plmSend_waits hmode hcts
  case leaves => exact fun type b h => Dev.plmSend_leaves h

/-! ### The commands (R344)

The index is probed with a fuel of 524,288, and the kernel cannot afford to unfold that. So a command that looks an identity up is opened as a function
(`delta`), before it is applied: nothing is then compared that holds the probe, and `rw` puts the lookup's result in its place. -/

section
variable {c : Cmd} {d : Dev}

theorem entryReadCmd_number {n : Nat} {e : List Byte} (hlen : c.payload.length = 12) (hby : byteAt c.payload 0 = 1) (hres : leAt c.payload 1 3 = 0)
    (hn : leAt c.payload 4 8 = n) (hused : n ∈ d.lmp.used) (hent : d.ent n = some e) :
    entryReadCmd c d = (.reply .ok (leBytes 4 n ++ e), d) := by
  have hgood : ¬(c.payload.length ≠ 12 ∨ 1 < byteAt c.payload 0 ∨ leAt c.payload 1 3 ≠ 0) := by omega
  have hin : d.lmp.used.contains n = true := List.contains_iff_mem.2 hused
  unfold entryReadCmd
  dsimp only
  rw [if_neg hgood, hby, if_neg Nat.one_ne_zero, hn, if_pos hin]
  simp only [hent]

/-- A new entry from the 32 bytes written: no override. -/
def entryFresh (b : List Byte) : List Byte := eput (eput (b ++ List.replicate 92 0) 72 1 255) 74 6 (2 ^ 48 - 1)

theorem entryWriteCmd_bad (h : entryOk c.payload = false) : entryWriteCmd c d = (.reply .range [], d) := by
  obtain ⟨f, hf⟩ : ∃ f, f = entryWriteCmd := ⟨_, rfl⟩
  rw [← hf]
  delta entryWriteCmd at hf
  rw [hf]
  beta_reduce
  extract_lets b fresh done
  rw [if_pos (by rw [h]; rfl)]
  rfl

section
variable (hok : entryOk c.payload = true)
include hok

theorem entryWriteCmd_known {k n : Nat} {e : List Byte} (hsome : d.lookup (c.payload.take 8) = some (k, n)) (hent : d.ent n = some e)
    (hroom : d.slotFull e = false) (hlive : ebit e 56 7 = false) :
    entryWriteCmd c d = (.reply .ok (leBytes 4 n), (d.putConf n (c.payload ++ e.drop 32)).entryChanged n) := by
  obtain ⟨f, hf⟩ : ∃ f, f = entryWriteCmd := ⟨_, rfl⟩
  rw [← hf]
  delta entryWriteCmd at hf
  rw [hf]
  beta_reduce
  extract_lets b fresh done
  rw [if_neg (by rw [hok]; exact Bool.false_ne_true), show idOf b = c.payload.take 8 from rfl, hsome]
  simp only [hent, hroom, hlive, Bool.false_eq_true, if_false]
  rfl

theorem entryWriteCmd_new {n : Nat} {e : Dev} (hnone : d.lookup (c.payload.take 8) = none) (hnew : d.newE (entryFresh c.payload) = (some n, e)) :
    entryWriteCmd c d = (.reply .ok (leBytes 4 n), (e.putConf n (entryFresh c.payload)).entryChanged n) := by
  obtain ⟨f, hf⟩ : ∃ f, f = entryWriteCmd := ⟨_, rfl⟩
  rw [← hf]
  delta entryWriteCmd at hf
  rw [hf]
  beta_reduce
  extract_lets b fresh done
  rw [if_neg (by rw [hok]; exact Bool.false_ne_true), show idOf b = c.payload.take 8 from rfl, hnone,
    show fresh = entryFresh c.payload from rfl]
  simp only [hnew]
  rfl

end

theorem entryDeleteCmd_known {k n : Nat} {e : List Byte} (hlen : c.payload.length = 8) (hsome : d.lookup c.payload = some (k, n))
    (hent : d.ent n = some e) (hroom : d.slotFull e = false) :
    entryDeleteCmd c d = (.reply .ok [], (d.putConf n (esetBit e 56 7 true)).purge n) := by
  obtain ⟨f, hf⟩ : ∃ f, f = entryDeleteCmd := ⟨_, rfl⟩
  rw [← hf]
  delta entryDeleteCmd at hf
  rw [hf]
  beta_reduce
  rw [hsome]
  simp only [if_neg (not_not_intro hlen), hent, hroom, Bool.false_eq_true, if_false, Res.st]

theorem schedWriteCmd_off {k : Nat} {ws : List Nat} {e : Dev} (hlen : c.payload.length = 4 + 4 * k) (hmin : 1 ≤ k) (hmax : k ≤ 32)
    (hs : leAt c.payload 0 2 ≤ 4095) (hres : leAt c.payload 2 2 = 0) (hws : ((List.range k).map fun i => leAt c.payload (4 + 4 * i) 4) = ws)
    (hsteps : ws.all stepOk = true)
    (he : d.wrN (d.schedAt (leAt c.payload 0 2)) ((ws ++ List.replicate (32 - k) 0xC0000000).flatMap (leBytes 4)) = e) (hoff : d.lmpOn = false) :
    schedWriteCmd c d = (.reply .ok [], e) := by
  have hk : (c.payload.length - 4) / 4 = k := by omega
  have hgood : ¬(c.payload.length ≠ 4 + 4 * k ∨ k < 1 ∨ 32 < k ∨ 4095 < leAt c.payload 0 2 ∨ leAt c.payload 2 2 ≠ 0 ∨ ws.all stepOk = false) := by
    rw [hsteps]
    rintro (h | h | h | h | h | h)
    · exact h hlen
    · omega
    · omega
    · omega
    · exact h hres
    · cases h
  have hoff' : e.lmpOn = false := he ▸ (Dev.lmpOn_of_regs (Dev.wrN_regs ..)).trans hoff
  simp only [schedWriteCmd, hk, hws, if_neg hgood, he, hoff', Bool.false_eq_true, false_and, if_false]
  rfl

theorem lmpSetCmd_served {k n : Nat} {e : List Byte} (hlen : c.payload.length = 12) (hres : byteAt c.payload 9 = 0) (hlevel : Dev.levelOk (byteAt c.payload 8) = true)
    (hsome : d.lookup (c.payload.take 8) = some (k, n)) (hserved : d.servedE n = some e) (hcommon : ebit e 87 6 = false) :
    lmpSetCmd c d = (.owed, ((d.updLmp fun x => { x with waits := x.waits ++ [(n, .cmd c.path c.tag)] }).override n (byteAt c.payload 8)
      (leAt c.payload 10 2)).evaluate 0 true [n]) := by
  have hgood : ¬(c.payload.length ≠ 12 ∨ byteAt c.payload 9 ≠ 0 ∨ Dev.levelOk (byteAt c.payload 8) = false) := by simp [hlen, hres, hlevel]
  simp only [lmpSetCmd, if_neg hgood, hsome, hserved, hcommon, Bool.false_eq_true, if_false]

/-- A group command that is not forwarded. -/
theorem lmpGroupCmd_own {ns : List Nat} (hlen : c.payload.length = 6) (hgroup : leAt c.payload 0 2 ≠ 0) (hlevel : Dev.levelOk (byteAt c.payload 2) = true)
    (hfwd : byteAt c.payload 3 = 0) (hns : d.lampMembers (leAt c.payload 0 2) = ns) (hmax : ns.length ≤ 8192) (hroom : d.lmp.groups.length < 4) :
    lmpGroupCmd c d = if ns = [] then (.reply .ok (leBytes 4 0), d.raise 107)
      else (.owed, d.groupRun ns (byteAt c.payload 2) (leAt c.payload 4 2) (some (c.path, c.tag))) := by
  have hgood : ¬(c.payload.length ≠ 6 ∨ leAt c.payload 0 2 = 0 ∨ Dev.levelOk (byteAt c.payload 2) = false ∨ 1 < byteAt c.payload 3 ∨ 8192 < ns.length) := by
    rw [hlevel]
    rintro (h | h | h | h | h)
    · exact h hlen
    · exact hgroup h
    · cases h
    · omega
    · omega
  have hstay : ¬(byteAt c.payload 3 = 1 ∧ d.lmpOn = true) := by omega
  simp only [lmpGroupCmd, hns, if_neg hgood, if_neg (Nat.not_le.2 hroom), if_neg hstay]

end

/-- A started command whose reply its block owes. -/
theorem State.run_owes {s : State} {op : Nat} {p : Path} {tag : Byte} {l : List Byte} {f : Cmd → Dev → Res × Dev} {e : Dev} (up : s.up)
    (h : s.dev.started p tag op l) (hf : ∀ c : Cmd, c.payload = l → c.path = p → c.tag = tag.toNat → f c s.dev = (.owed, e)) :
    s.run (fun d => d.runCmd op p tag f) = .next (s.to (e.updCmd p tag.toNat fun c => { c with ran := true })) := by
  obtain ⟨c, hc, hl⟩ := h
  obtain ⟨hp, ht⟩ := Prod.mk.inj (Dev.startedCmd_key hc)
  exact State.run_eq up (Dev.runCmd_owed hc (hf c hl hp ht))

/-- Settles O49: each command comes to its payload's one answer. -/
theorem lampCommands : Obligations.LampCommands := by
  unfold Obligations.LampCommands
  refine fun s p tag b up => ⟨?read, ?known, ?fresh, ?bad, ?delete, ?sched, ?set, ?group⟩
  case read =>
    intro e h hlen hby hres hused hent
    exact State.run_answers up h fun c hc => entryReadCmd_number (hc ▸ hlen) (hc ▸ hby) (hc ▸ hres) (hc ▸ rfl) hused hent
  case known =>
    intro k n e h hok hsome hent hroom hlive
    exact State.run_answers up h fun c hc => by
      subst hc
      exact entryWriteCmd_known hok hsome hent hroom hlive
  case fresh =>
    intro n f e h hok hnone hf hnew
    subst hf
    exact State.run_answers up h fun c hc => by
      subst hc
      exact entryWriteCmd_new hok hnone hnew
  case bad => exact fun h hok => State.run_answers up h fun c hc => entryWriteCmd_bad (hc ▸ hok)
  case delete =>
    intro k n e h hlen hsome hent hroom
    exact State.run_answers up h fun c hc => entryDeleteCmd_known (hc ▸ hlen) (hc ▸ hsome) hent hroom
  case sched =>
    intro k ws e h hlen hmin hmax hs hres hws hsteps he hoff
    exact State.run_answers up h fun c hc => by
      subst hc
      exact schedWriteCmd_off hlen hmin hmax hs hres hws hsteps he hoff
  case set =>
    intro k n e h hlen hres hlevel hsome hserved hcommon
    exact State.run_owes up h fun c hc hp ht => by
      subst hc hp
      rw [lmpSetCmd_served hlen hres hlevel hsome hserved hcommon, ht]
  case group =>
    intro ns h hlen hgroup hlevel hfwd hns hmax hroom
    refine ⟨fun hnil => State.run_answers up h fun c hc => ?_, fun hne => State.run_owes up h fun c hc hp ht => ?_⟩
    · subst hc
      exact (lmpGroupCmd_own hlen hgroup hlevel hfwd hns hmax hroom).trans (if_pos hnil)
    · subst hc hp
      rw [lmpGroupCmd_own hlen hgroup hlevel hfwd hns hmax hroom, if_neg hne, ht]

end Sys2Proof.Machine
end

section
/-! SUPPORT. The statement about lighting endpoints, minutes and the supply level (13). -/
set_option Elab.async false

namespace Sys2Proof.Machine
namespace Dev

/-! ### Entries (R320) -/

theorem rdN_length (d : Dev) (a n : Nat) : (d.rdN a n).length = n := by
  induction n generalizing a with
  | zero => rfl
  | succ n ih => rw [rdN, List.length_cons, ih]

/-- An entry that is not damaged has 128 bytes. -/
theorem ent_length {d : Dev} {n : Nat} {e : List Byte} (h : d.ent n = some e) : e.length = 128 := by
  rw [ent] at h
  split at h
  · rw [← Option.some.inj h]
    exact rdN_length ..
  · cases h

/-- Lamplighter's own state has no part in what memory and the directory hold. -/
theorem rdN_updLmp (d : Dev) (f : Lmp → Lmp) (a n : Nat) : (d.updLmp f).rdN a n = d.rdN a n := by
  induction n generalizing a with
  | zero => rfl
  | succ n ih =>
    have hbyte : (d.updLmp f).rd8 a = d.rd8 a := by rw [updLmp, rd8, rd8]; rfl
    rw [rdN, ih, hbyte, rdN]

theorem ent_updLmp (d : Dev) (f : Lmp → Lmp) (n : Nat) : (d.updLmp f).ent n = d.ent n := by
  have hraw : (d.updLmp f).rawE n = d.rawE n := rdN_updLmp ..
  have hue : (d.updLmp f).ueIn ((d.updLmp f).dirAt n) 128 = d.ueIn (d.dirAt n) 128 := by rw [ueIn, ueIn]; rfl
  rw [ent, hraw, hue, ent]

/-! ### Replies of endpoints (R328, R329) -/

/-- What every reply leaves in its entry: failures forgotten, the endpoint not missing. -/
def entryHeard (e : List Byte) : List Byte := esetBit (eput e 73 1 0) 87 7 false

theorem takeOut_none {α : Type} {p : α → Bool} {l : List α} (h : ∀ y ∈ l, p y = false) : takeOut p l = none := by
  induction l with
  | nil => rfl
  | cons a t ih =>
    obtain ⟨ha, ht⟩ := List.forall_mem_cons.1 h
    rw [takeOut, ha, ih ht]
    rfl

theorem takeOut_single {α : Type} {p : α → Bool} {a : α} (h : p a = true) : takeOut p [a] = some (a, []) := by
  rw [takeOut, if_pos h]

/-- A reply that answers nothing is ignored. -/
theorem txnReply_unmatched {d : Dev} {num ver : Nat} {is : LReq → Bool} {level : Option Nat} {f : List Byte → List Byte}
    (h : ∀ y ∈ d.lmp.txns, y.sent = true → y.num ≠ num) : d.txnReply num ver is level f = d := by
  have hnone : takeOut (fun t : Txn => t.sent && t.num == num && is t.req) d.lmp.txns = none := takeOut_none fun y hy => by
    cases hs : y.sent with
    | false => rfl
    | true => rw [beq_false_of_ne (h y hy hs)]; rfl
  rw [txnReply, hnone]

/-- A reply to the one outstanding transaction, for which nobody waits, with the profile that the entry has and no new fault: the entry's status
is what the reply leaves. -/
theorem txnReply_single {d : Dev} {num ver : Nat} {is : LReq → Bool} {level : Option Nat} {f : List Byte → List Byte} {t : Txn} {e : List Byte}
    (htxns : d.lmp.txns = [t]) (hsent : t.sent = true) (hnum : t.num = num) (his : is t.req = true) (hent : d.ent t.entry = some e) (howners : t.owners = [])
    (hver : ver = byteAt e 16) (hutc : d.utc = none) (hfault : ¬(leAt e 84 3 = 0 ∧ leAt (f (entryHeard e)) 84 3 ≠ 0)) :
    d.txnReply num ver is level f = (d.updLmp fun y => { y with txns := [] }).putStat t.entry (f (entryHeard e)) := by
  have hout : takeOut (fun t : Txn => t.sent && t.num == num && is t.req) d.lmp.txns = some (t, []) := by
    rw [htxns]
    exact takeOut_single (by simp [hsent, hnum, his])
  have hprofile : ¬(t.req ≠ .hello ∧ ver ≠ byteAt e 16) := fun h => h.2 hver
  have hutc' : (d.updLmp fun y => { y with txns := [] }).utc = none := hutc
  rw [entryHeard] at hfault ⊢
  unfold txnReply
  rw [hout]
  simp only [ent_updLmp, hent, hutc', if_neg hfault, if_neg hprofile, howners, tellAll, List.foldl_nil]

/-- What `STATUS` leaves in an entry: level, fault bits and energy, which profile 1 has the hub compute (R329). -/
def statusEntry (d : Dev) (num ver level faults energy : Nat) (e : List Byte) : List Byte :=
  let o := match d.lmp.txns.find? fun t => t.sent && t.num == num with
    | some t => leAt (d.rawE t.entry) 64 6
    | none => 0
  let dt := if o = 0 then 0 else leAt e 64 6 - o
  let wh := if ver = 2 then energy else leAt e 80 4 + leAt e 30 2 * level * dt / 720000
  let e := eput (eput (eput e 71 1 level) 84 3 faults) 80 4 wh
  if level = byteAt e 70 then esetBit e 87 5 false else e

theorem onStatus_eq (d : Dev) (num ver level faults energy : Nat) :
    d.onStatus num ver level faults energy = d.txnReply num ver (· == .poll) (some level) (d.statusEntry num ver level faults energy) := rfl

theorem leAt_one (l : List Byte) (i : Nat) : leAt l i 1 = byteAt l i := by
  rw [leAt, List.take_one, List.head?_drop, byteAt, List.getD_eq_getElem?_getD]
  cases l[i]? with
  | none => rfl
  | some b => exact Nat.add_zero _

section
variable {e : List Byte} {i n v : Nat} (he : e.length = 128)
include he

/-! An entry keeps its 128 bytes, and those that a write does not name. -/

theorem entry_eput (h : i + n ≤ 128 := by decide) : (eput e i n v).length = 128 := (eput_length (he ▸ h)).trans he

theorem entry_leAt {j m : Nat} (h : i + n ≤ 128 := by decide) (hj : j + m ≤ i ∨ i + n ≤ j := by decide) : leAt (eput e i n v) j m = leAt e j m :=
  leAt_eput (he ▸ h) hj

theorem entry_byteAt {j : Nat} (h : i + n ≤ 128 := by decide) (hj : j < i ∨ i + n ≤ j := by decide) : byteAt (eput e i n v) j = byteAt e j :=
  byteAt_eput (he ▸ h) hj

theorem entryHeard_length : (entryHeard e).length = 128 := entry_eput (entry_eput he)

theorem entryHeard_level : byteAt (entryHeard e) 70 = byteAt e 70 := (entry_byteAt (entry_eput he)).trans (entry_byteAt he)

theorem entryHeard_faults : leAt (entryHeard e) 84 3 = leAt e 84 3 := (entry_leAt (entry_eput he)).trans (entry_leAt he)

end

section
variable {d : Dev} {num : Nat} {t : Txn} {e : List Byte} (htxns : d.lmp.txns = [t]) (hsent : t.sent = true) (hnum : t.num = num)
  (hent : d.ent t.entry = some e) (howners : t.owners = []) (hutc : d.utc = none)

/-- Under profile 2 the endpoint's own energy stands, and an endpoint at another level than commanded stays marked. -/
theorem statusEntry_two {ver level energy : Nat} (faults : Nat) (he : e.length = 128) (hver : ver = 2) (hlevel : level ≠ byteAt e 70) :
    d.statusEntry num ver level faults energy e = eput (eput (eput e 71 1 level) 84 3 faults) 80 4 energy := by
  have hkeep : byteAt (eput (eput (eput e 71 1 level) 84 3 faults) 80 4 energy) 70 = byteAt e 70 :=
    (entry_byteAt (entry_eput (entry_eput he))).trans ((entry_byteAt (entry_eput he)).trans (entry_byteAt he))
  rw [← hkeep] at hlevel
  simp only [statusEntry, if_pos hver, if_neg hlevel]

include htxns hsent hnum hent howners hutc

theorem onStatus_poll {ver level faults energy : Nat} (hreq : t.req = .poll) (hver : ver = byteAt e 16) (htwo : ver = 2) (hfaults : leAt e 84 3 = faults)
    (hlevel : level ≠ byteAt e 70) : d.onStatus num ver level faults energy = (d.updLmp fun y => { y with txns := [] }).putStat t.entry
      (eput (eput (eput (entryHeard e) 71 1 level) 84 3 faults) 80 4 energy) := by
  have hlen := ent_length hent
  have hheard := entryHeard_length hlen
  have hstatus := statusEntry_two (d := d) (num := num) (energy := energy) faults hheard htwo (by rw [entryHeard_level hlen]; exact hlevel)
  have hnew : leAt (eput (eput (eput (entryHeard e) 71 1 level) 84 3 faults) 80 4 energy) 84 3 = faults := by
    rw [entry_leAt (entry_eput (entry_eput hheard)), leAt_eput_same (by rw [entry_eput hheard]; decide)]
    exact Nat.mod_eq_of_lt (hfaults ▸ leAt_lt e 84 3)
  rw [onStatus_eq, txnReply_single htxns hsent hnum (by rw [hreq]; rfl) hent howners hver hutc, hstatus]
  rw [hstatus, hnew, hfaults]
  exact fun h => h.2 h.1

theorem onAck_set {ver level l k : Nat} (hreq : t.req = .set l k) (hver : ver = byteAt e 16) (hfaults : leAt e 84 3 = 0) :
    d.onAck num ver level = (d.updLmp fun y => { y with txns := [] }).putStat t.entry
      (esetBit (eput (entryHeard e) 71 1 level) 87 5 (level != byteAt (entryHeard e) 70)) := by
  have hlen := ent_length hent
  have hheard := entryHeard_length hlen
  refine txnReply_single htxns hsent hnum (by rw [hreq]) hent howners hver hutc fun h => h.2 ?_
  exact (entry_leAt (entry_eput hheard)).trans ((entry_leAt hheard).trans ((entryHeard_faults hlen).trans hfaults))

end

/-- A greeted endpoint with a profile in common that its entry does not name: the profile is entered, and the endpoint evaluated. -/
theorem onHello_common {d e : Dev} {num hi lo rated p : Nat} {t : Txn} {x : List Byte}
    (hfind : (d.lmp.txns.find? fun y => y.sent && y.num == num && y.req == .hello) = some t) (hlo : max 1 lo ≤ p) (hhi : min 2 hi = p)
    (he : (d.txnReply num 0 (· == .hello) none fun y => esetBit y 87 6 false) = e) (hent : e.ent t.entry = some x) (hrated : leAt x 30 2 ≠ 0)
    (hp : byteAt x 16 ≠ p) (hserved : (e.putConf t.entry (eput x 16 1 p)).servedE t.entry ≠ none) :
    d.onHello num hi lo rated = (e.putConf t.entry (eput x 16 1 p)).evaluate 1 false [t.entry] := by
  have hlen := ent_length hent
  have hcommon : decide (max 1 lo ≤ p) = true := decide_eq_true hlo
  have hrated' : leAt (eput x 16 1 p) 30 2 ≠ 0 := fun h => hrated ((entry_leAt hlen).symm.trans h)
  have hchange : eput x 16 1 p ≠ x := fun h => by
    have hsame : leAt (eput x 16 1 p) 16 1 = p % 256 ^ 1 := leAt_eput_same (by rw [hlen]; decide)
    rw [h, leAt_one] at hsame
    omega
  obtain ⟨y, hy⟩ := Option.ne_none_iff_exists'.1 hserved
  unfold onHello
  rw [hfind]
  simp only [hhi, hcommon, Bool.not_true, he, hent, if_true, if_neg hrated', if_neg hchange, hy]

/-! ### Transactions (R329) -/

/-- Of two transactions that may start the one of the higher class, which has the lower number, is taken. -/
theorem txnStart_pick {d : Dev} {t u : Txn} (htxns : d.lmp.txns = [t, u]) (hu : d.txnMayStart u = true)
    (hlt : u.cls < t.cls) (hmax : t.cls ≤ 3) :
    ((takeOut (fun t => t.cls == 0 && d.txnMayStart t) d.lmp.txns).or (takeOut (fun t => t.cls == 1 && d.txnMayStart t) d.lmp.txns)).or
      ((takeOut (fun t => t.cls == 2 && d.txnMayStart t) d.lmp.txns).or (takeOut (fun t => t.cls == 3 && d.txnMayStart t) d.lmp.txns)) = some (u, [t]) := by
  have hbelow : ∀ c, c < u.cls → takeOut (fun t => t.cls == c && d.txnMayStart t) d.lmp.txns = none := fun c hc => by
    rw [htxns]
    refine takeOut_none fun y hy => ?_
    have hne : y.cls ≠ c := by
      rcases List.mem_cons.1 hy with rfl | hy
      · omega
      · rw [List.mem_singleton.1 hy]
        omega
    rw [beq_false_of_ne hne, Bool.false_and]
  have hat : ∀ c, c = u.cls → takeOut (fun t => t.cls == c && d.txnMayStart t) d.lmp.txns = some (u, [t]) := fun c hc => by
    have ht : (t.cls == c && d.txnMayStart t) = false := by rw [beq_false_of_ne (by omega), Bool.false_and]
    have hu' : (u.cls == c && d.txnMayStart u) = true := by rw [hc, beq_self_eq_true, hu]; rfl
    rw [htxns, takeOut, ht, if_neg Bool.false_ne_true, takeOut_single (p := fun t : Txn => t.cls == c && d.txnMayStart t) hu']
    rfl
  have hcls : u.cls = 0 ∨ u.cls = 1 ∨ u.cls = 2 := by omega
  rcases hcls with h | h | h
  · rw [hat 0 h.symm]
    rfl
  · rw [hbelow 0 (by omega), hat 1 h.symm]
    rfl
  · rw [hbelow 0 (by omega), hbelow 1 (by omega), hat 2 h.symm]
    rfl

/-- A transaction that goes by a gateway starts. -/
theorem txnStart_gateway {d : Dev} {t u v : Txn} (htxns : d.lmp.txns = [t, u]) (hu : d.txnMayStart u = true) (hlt : u.cls < t.cls) (hmax : t.cls ≤ 3)
    (hv : { u with sent := true, num := d.lmp.txnNum, tries := 0, path := byteAt (d.rawE u.entry) 11 } = v) (hpath : 4 ≤ v.path % 8) :
    d.txnStart = (d.updLmp fun y => { y with txns := [t, v], txnNum := (y.txnNum + 1) % 65536 }).txnSend v := by
  have hgate : ¬byteAt (d.rawE u.entry) 11 % 8 < 4 := by
    rw [← hv] at hpath
    exact Nat.not_lt.2 hpath
  simp only [txnStart, txnStart_pick htxns hu hlt hmax, hv, if_neg hgate, List.singleton_append]

theorem txnTimeout_found {d : Dev} {num : Nat} {t : Txn} {l : List Txn} (hfind : (d.lmp.txns.find? fun y => y.sent && y.num == num) = some t)
    (hl : (d.lmp.txns.map fun y => if y.sent && y.num == num then { y with tries := y.tries + 1 } else y) = l) :
    d.txnTimeout num = if t.tries < d.fg LMP_POLL_RETRY then (d.updLmp fun z => { z with txns := l }).txnSend t else d.txnFailed t := by
  simp only [txnTimeout, hfind, hl]

end Dev

/-! ### Polls, minutes and overrides (R322, R330, R331, R334) -/

section
variable {d : Dev} {n : Nat} {e : List Byte}

theorem pollDev_known (hserved : d.servedE n = some e) (hprof : byteAt e 16 ≠ 0) (hen : d.fb LMP_CTRL_POLL_EN = true) :
    pollDev n d = d.qTxn 3 n .poll [] := by
  have hgreet : ¬(byteAt e 16 = 0 ∧ ebit e 87 6 = false) := fun h => hprof h.1
  simp only [pollDev, hserved, if_neg hgreet, hen, if_true]

/-- A minute of the day last evaluated. -/
theorem minuteDev_sameDay {m l : Nat} (hm : d.localMin = some m) (hl : d.lmp.minute = some l) (hday : m / 1440 = l / 1440)
    (hen : d.fb LMP_CTRL_SCHED_EN = true) :
    minuteDev d = if m ≤ l then d else ((endOverrides d l m).updLmp fun y => { y with minute := some m }).evalServed 1 := by
  have hsun : ¬(m / 1440 ≠ l / 1440 ∨ some l = none) := by simp [hday]
  simp only [minuteDev, hm, hl, Option.getD_some, if_neg hsun, hen, Bool.true_eq_false, false_or]

section
variable {u : Nat} (hserved : d.servedE n = some e) (hutc : d.utc = some u)
include hserved hutc

theorem overrideExpiryDev_due (hset : byteAt e 72 ≠ 255) (hnext : leAt e 74 6 ≠ 0) (hever : leAt e 74 6 ≠ 2 ^ 48 - 1) (hdue : leAt e 74 6 ≤ u) :
    overrideExpiryDev n d = (d.override n 255 0).evaluate 1 false [n] := by
  simp only [overrideExpiryDev, hserved, hutc]
  exact if_pos ⟨hset, hnext, hever, hdue⟩

theorem overrideExpiryDev_early (hearly : u < leAt e 74 6) : overrideExpiryDev n d = d := by
  simp only [overrideExpiryDev, hserved, hutc]
  exact if_neg fun h => absurd h.2.2.2 (Nat.not_le.2 hearly)

end

/-! ### Deferred endpoints (R337) -/

/-- The one deferred endpoint of the directory joins the batch: first to its minimum level, then to its target; at its target it is deferred
no longer. -/
theorem deferredDev_single {g : Nat × Nat} {low : Nat} (hused : d.lmp.used = [n]) (hserved : d.servedE n = some e) (hdef : ebit e 56 1 = true)
    (hfree : d.inBatch n = false) (hgoal : d.goalOf e = g) (hlow : min g.1 (byteAt e 28) = low) : deferredDev d =
      if g.1 ≤ byteAt e 70 then ((d.putStat n (esetBit e 56 1 false)).formBatch 1 []).runBursts
      else (d.formBatch 1 [(n, if byteAt e 70 < low then low else g.1, g.2)]).runBursts := by
  have hin : ¬(ebit e 56 1 = false ∨ d.inBatch n = true) := by simp [hdef, hfree]
  simp only [deferredDev, hused, List.foldl_cons, List.foldl_nil, hserved, hgoal, hlow, if_neg hin, List.nil_append]
  split <;> rfl

/-! ### The supply level (R338) -/

theorem supplyDev_same (hsame : d.fg WGH_SUPPLY_LEVEL = d.lmp.supply) : supplyDev d =
    if d.lmp.supply = 2 then shedLoop (20000 * d.fg WGH_REQ_r_STAT_GRANT (d.fg LMP_BURST_REQ)) (shedOrder d) d else d := by
  simp only [supplyDev, hsame, if_true]

end

/-- Settles O47: each row comes to what its rule says while Lamplighter runs. -/
theorem lampEndpoints : Obligations.LampEndpoints := by
  unfold Obligations.LampEndpoints
  refine fun s num n up hon => ⟨?hello, ?unmatched, ?status, ?ack, ?start, ?timeout, ?poll, ?minute, ?expiry, ?deferred, ?supply⟩
  case hello =>
    intro ver hi lo rated t e x p hfind hlo hhi he hent hrated hp hserved
    exact State.run_eq up ((if_pos hon).trans (Dev.onHello_common hfind hlo hhi he hent hrated hp hserved))
  case unmatched =>
    intro ver level f en pw st h
    exact ⟨State.run_eq up ((if_pos hon).trans (Dev.txnReply_unmatched h)), State.run_eq up ((if_pos hon).trans (Dev.txnReply_unmatched h))⟩
  case status =>
    intro ver level f en pw t e htxns hsent hnum hreq hent howners hver htwo hfaults hutc hlevel
    exact State.run_eq up ((if_pos hon).trans
      (Dev.onStatus_poll htxns hsent hnum hent howners hutc hreq hver (by rw [htwo]; rfl) hfaults hlevel))
  case ack =>
    intro ver level st t e l k htxns hsent hnum hreq hent howners hver hutc hfaults _
    exact State.run_eq up ((if_pos hon).trans (Dev.onAck_set htxns hsent hnum hent howners hutc hreq hver hfaults))
  case start =>
    intro t u v htxns _ hu hlt hmax hv hpath
    exact State.run_eq up ((if_pos hon).trans (Dev.txnStart_gateway htxns hu hlt hmax hv hpath))
  case timeout => exact fun t l hfind hl => State.run_eq up ((if_pos hon).trans (Dev.txnTimeout_found hfind hl))
  case poll => exact fun e hserved hprof hen => State.run_eq up ((if_pos hon).trans (pollDev_known hserved hprof hen))
  case minute =>
    intro m l hm hl hday hen
    exact ⟨fun hlt => State.run_eq up ((if_pos hon).trans ((minuteDev_sameDay hm hl hday hen).trans (if_neg (Nat.not_le.2 hlt)))),
      fun hle => State.run_eq up ((if_pos hon).trans ((minuteDev_sameDay hm hl hday hen).trans (if_pos hle)))⟩
  case expiry =>
    intro e u hserved hutc
    exact ⟨fun hset hnext hever hdue => State.run_eq up ((if_pos hon).trans (overrideExpiryDev_due hserved hutc hset hnext hever hdue)),
      fun hearly => State.run_eq up ((if_pos hon).trans (overrideExpiryDev_early hserved hutc hearly))⟩
  case deferred =>
    intro e g low hused hserved hdef hfree hgoal hlow
    have hrow := deferredDev_single hused hserved hdef hfree hgoal hlow
    refine ⟨fun hlt => ?_, fun hle hlt => ?_, fun hle => State.run_eq up ((if_pos hon).trans (hrow.trans (if_pos hle)))⟩
    · rw [if_neg (by omega), if_pos hlt] at hrow
      exact State.run_eq up ((if_pos hon).trans hrow)
    · rw [if_neg (by omega), if_neg (by omega)] at hrow
      exact State.run_eq up ((if_pos hon).trans hrow)
  case supply =>
    intro hsame
    exact ⟨fun hne => State.run_eq up ((if_pos hon).trans ((supplyDev_same hsame).trans (if_neg hne))),
      fun htwo => State.run_eq up ((if_pos hon).trans ((supplyDev_same hsame).trans (if_pos htwo)))⟩

end Sys2Proof.Machine
end

section
/-! SUPPORT. The statement about messages and roles between hubs (13). -/
set_option Elab.async false

namespace Sys2Proof.Machine
namespace Dev

/-! ### What a change of the directory role leaves of Lamplighter's state (R342) -/

theorem sessSend_lmp (d : Dev) (n ty : Nat) (m : List Byte) : (d.sessSend n ty m).lmp = d.lmp := by
  unfold sessSend
  split
  · rfl
  · split
    · split <;> rfl
    · split
      · rfl
      · split <;> rfl

theorem nqlTx_lmp (d : Dev) (dst ty cls : Nat) (m : List Byte) : (d.nqlTx dst ty cls m).lmp = d.lmp :=
  (apply_ite Dev.lmp ..).trans (ite_self _)

theorem lmpSend_lmp (d : Dev) (k ty n : Nat) (m : List Byte) : (d.lmpSend k ty n m).lmp = d.lmp := by
  unfold lmpSend
  dsimp only
  split
  · rfl
  · split
    · exact sessSend_lmp ..
    · exact nqlTx_lmp ..

/-- A fold whose step leaves the waits alone leaves them alone. -/
theorem foldl_waits {α : Type} (f : Dev → α → Dev) (hf : ∀ d x, (f d x).lmp.waits = d.lmp.waits) (l : List α) (d : Dev) :
    (l.foldl f d).lmp.waits = d.lmp.waits := by
  induction l generalizing d with
  | nil => rfl
  | cons x l ih => exact (ih _).trans (hf d x)

theorem pullSend_waits (d : Dev) (k : Nat) (rs : List Nat) : (d.pullSend k rs).lmp.waits = d.lmp.waits :=
  foldl_waits _ (fun _ _ => congrArg Lmp.waits (lmpSend_lmp ..)) _ _

/-- Two ways on that both leave the waits alone. -/
theorem ite_waits {c : Prop} [Decidable c] {a b d : Dev} (ha : a.lmp.waits = d.lmp.waits) (hb : b.lmp.waits = d.lmp.waits) :
    (if c then a else b).lmp.waits = d.lmp.waits := by
  split <;> assumption

theorem takeoverEnd_waits (d : Dev) : d.takeoverEnd.lmp.waits = d.lmp.waits := by
  unfold takeoverEnd
  split <;> rfl

theorem takeoverStart_waits (d : Dev) : d.takeoverStart.lmp.waits = d.lmp.waits := by
  have hpulls : ∀ (l : List Nat) (e : Dev), (l.foldl (fun d k => d.pullSend k (List.range 256)) e).lmp.waits = e.lmp.waits :=
    foldl_waits _ fun _ _ => pullSend_waits ..
  exact ite_waits (ite_waits ((takeoverEnd_waits _).trans (hpulls ..)) (hpulls ..)) rfl

theorem handBack_waits (d : Dev) : d.handBack.lmp.waits = d.lmp.waits := ite_waits rfl rfl

theorem dirRoleChanged_waits (d : Dev) (old : Nat) : (d.dirRoleChanged old).lmp.waits = d.lmp.waits :=
  ite_waits rfl (ite_waits (ite_waits (handBack_waits _) rfl) ((takeoverStart_waits _).trans (ite_waits (handBack_waits _) rfl)))

end Dev

/-! ### A write that changes the directory role and the parallel mode (R28, R29, R342) -/

/-- An enabled Lamplighter at which someone waits for an endpoint whose rise is held back. -/
def waitingHub : Dev := ({ lmp := { waits := [(0, .none)] } } : Dev).fs LMP_CTRL_EN 1

/-- `SYS_ROLE` with `DIR_ROLE` 1 and with `PAR_MODE` 2 (follower), `PAR_SIZE` 1, `PAR_POS` 1. -/
def followerWord : W32 := 0x116

theorem followerWord_changesRole : SYS_ROLE_DIR_ROLE.of followerWord.toNat ≠ waitingHub.fg SYS_ROLE_DIR_ROLE := by decide

theorem followerWord_accepted : waitingHub.accepts .mm (SYS_ROLE_DIR_ROLE.at 0) followerWord.toNat := by
  unfold Dev.accepts
  decide

/-- The device becomes a follower: its Lamplighter stops, and no one waits any longer. -/
theorem followerWord_waits : (wrIf (fun d => SYS_ROLE_DIR_ROLE.of followerWord.toNat != d.fg SYS_ROLE_DIR_ROLE) .mm (SYS_ROLE_DIR_ROLE.at 0)
    followerWord.toNat waitingHub).lmp.waits = [] := by decide

/-- Refutes O48: a write that changes `DIR_ROLE` is claimed to come to no more than the change of the directory role. The word may also change
`PAR_MODE` to follower, which stops Lamplighter (`waitingHub`, `followerWord`). -/
theorem not_lampHubs : ¬ Obligations.LampHubs := by
  intro h
  obtain ⟨-, -, -, -, -, -, -, -, -, hrole, -⟩ := h { dev := waitingHub } 0 0 0 _ rfl (by decide) rfl
  obtain ⟨e, hnext, hlmp, -⟩ := hrole .mm followerWord followerWord_changesRole followerWord_accepted
  have hwaits := congrArg (fun t => t.dev.lmp.waits) (State.lift_next hnext)
  have hsame : e.lmp.waits = [] := (Dev.dirRoleChanged_waits ..).symm.trans (hwaits.trans followerWord_waits)
  rw [hlmp] at hsame
  cases hsame

end Sys2Proof.Machine
end

section
/-! SUPPORT. The statement about Nightwatch's clock, alarm, latches and supply (14). -/
set_option Elab.async false

namespace Sys2Proof.Machine
namespace Dev

/-! ### Nightwatch's events and the supplies' sticky bits (R46, R355) -/

theorem raiseN_parts (d : Dev) (e x : Nat) : (d.raiseN e x).regs = d.regs ∧ (d.raiseN e x).aon = d.aon := by
  unfold raiseN
  split
  · exact ⟨rfl, rfl⟩
  · split <;> exact ⟨rfl, rfl⟩

theorem fg_raiseN (d : Dev) (e x : Nat) (F : Fld) (n : Nat) : (d.raiseN e x).fg F n = d.fg F n := fg_of_regs (raiseN_parts d e x).1 F n

/-- A Nightwatch event depends on its time, on the supply and on the events before it. -/
theorem raiseN_evt {d e : Dev} (hevt : e.evt = d.evt) (hsys : e.sys = d.sys) (hclk : e.clk = d.clk) (hdeg : e.deg = d.deg) (ev x : Nat) :
    (e.raiseN ev x).evt = (d.raiseN ev x).evt := by
  simp only [raiseN, raise, apply_ite Dev.evt, hevt, hsys, hclk, hdeg]

theorem fg_dropSeen {F : Fld} {n : Nat} (h : F.key n ≠ SYS_PWRSTAT_DROP.key 0) (d : Dev) (k : Nat) : (d.dropSeen k).fg F n = d.fg F n := by
  unfold dropSeen
  split
  · exact fg_fs_ne _ _ _ _ _ _ h
  · rfl

theorem dropSeen_parts (d : Dev) (k : Nat) :
    (d.dropSeen k).aon = d.aon ∧ (d.dropSeen k).evt = d.evt ∧ (d.dropSeen k).sys = d.sys ∧ (d.dropSeen k).clk = d.clk := by
  unfold dropSeen
  split <;> exact ⟨rfl, rfl, rfl, rfl⟩

theorem fbit_dropSeen {d : Dev} (hrun : d.sys.phase = .run) {k : Nat} (hk : k < 6) : (d.dropSeen k).fbit SYS_PWRSTAT_DROP k = true := by
  rw [dropSeen, if_pos hrun]
  exact fbit_fsBit hk d 0

/-! ### The clock (R349, R350) -/

theorem rtcAdd_of_ne {d : Dev} {n : Int} (h : n ≠ 0) :
    d.rtcAdd n = { d with aon := { d.aon with rtc := uval 64 (d.aon.rtc + n), rtcSeq := d.aon.rtcSeq + 1, wrote := false } } := if_neg h

/-- At the end of a crystal period the clock counts, unless the trim withholds the count. -/
theorem tickRtc_period {d : Dev} {n : Nat} (halive : d.aon.alive = true) (hxt : d.fb AON_STAT_XT_OK = true) (hfull : rtcUnit ≤ d.aon.frac + n * 32768) :
    (d.tickRtc n).aon.rtc = (if 0 < d.aon.hold then d.aon.rtc else uval 64 (d.aon.rtc + 1)) ∧ (d.tickRtc n).aon.hold = d.aon.hold - 1 := by
  have hoff : ¬(!d.aon.alive || !d.fb AON_STAT_XT_OK) = true := by rw [halive, hxt]; decide
  have htick : d.tickRtc n = if 0 < d.aon.hold
      then { d with aon := { d.aon with frac := d.aon.frac + n * 32768 - rtcUnit, hold := d.aon.hold - 1 } }
      else ({ d with aon := { d.aon with frac := d.aon.frac + n * 32768 - rtcUnit } } : Dev).rtcAdd 1 := by
    simp only [tickRtc, if_neg hoff, if_neg (Nat.not_lt.2 hfull)]
  obtain ⟨f, hf⟩ : ∃ f, d.aon.frac + n * 32768 - rtcUnit = f := ⟨_, rfl⟩
  rw [htick, hf]
  split
  · exact ⟨rfl, rfl⟩
  · next hnone =>
    have hhold : d.aon.hold = d.aon.hold - 1 := by omega
    rw [rtcAdd_of_ne Int.one_ne_zero]
    exact ⟨rfl, hhold⟩

end Dev

section
variable {d : Dev}

/-! ### First application and loss of `VBAT_AON` (R347, R371) -/

/-- A field of Nightwatch has its reset value once the words of the block have been dropped. -/
theorem fg_dropBlock {e : Dev} (h : e.regs = d.regs.filter fun x => x.1 / 32 / 65536 != 0x200D) {F : Fld} {n : Nat}
    (hblock : (F.base + F.stride * n) / 65536 = 0x200D) (hlo : F.lo < 32) : e.fg F n = F.rst n := by
  have hreg : F.key n / 32 = F.base + F.stride * n := by
    unfold Fld.key
    omega
  rw [Dev.fg, h]
  refine spGet_of_not_mem fun v hmem => ?_
  have hkept := (List.mem_filter.1 hmem).2
  rw [hreg, hblock] at hkept
  exact absurd hkept (by decide)

/-- The device in which Nightwatch starts anew. -/
def firstApplied (d : Dev) : Dev :=
  { d with regs := d.regs.filter fun e => e.1 / 32 / 65536 != 0x200D
           aon := { alive := true, sampled := false, first := true }, evt := { d.evt with held := [] } }

theorem vbatFirst_dead (h : d.aon.alive = false) :
    vbatFirst d = if d.sys.vddCore then (firstApplied d).fs CLK_REF_STAT_XT_CHECK_OFF 1 else firstApplied d := by
  unfold vbatFirst
  rw [h]
  rfl

theorem vbatFirst_fg (h : d.aon.alive = false) {F : Fld} {n : Nat} (hblock : (F.base + F.stride * n) / 65536 = 0x200D) (hlo : F.lo < 32) :
    (vbatFirst d).fg F n = F.rst n := by
  have hne : F.key n ≠ CLK_REF_STAT_XT_CHECK_OFF.key 0 := fun hkey => by
    have hreg : F.key n / 32 / 65536 = 0x200D := by
      rw [← hblock]
      unfold Fld.key
      omega
    rw [hkey] at hreg
    exact absurd hreg (by decide)
  have hfirst : (firstApplied d).fg F n = F.rst n := fg_dropBlock rfl hblock hlo
  rw [vbatFirst_dead h]
  split
  · exact (Dev.fg_fs_ne _ _ _ _ _ _ hne).trans hfirst
  · exact hfirst

theorem vbatFirst_parts (h : d.aon.alive = false) :
    (vbatFirst d).aon = { alive := true, sampled := false, first := true } ∧ (vbatFirst d).evt.held = [] := by
  rw [vbatFirst_dead h]
  split <;> exact ⟨rfl, rfl⟩

/-- Nightwatch stopped, and with it the crystal. -/
def stopped (d : Dev) : Dev :=
  ({ d.bsGo 0 with aon := { d.aon with alive := false, qual := 0, fbRun := 0, pulses := 0 } }.fs AON_STAT_XT_OK 0).fs CLK_REF_STAT_XT_CHECK_OFF 1

theorem vbatLossDev_alive (h : d.aon.alive = true) :
    vbatLossDev d = if (stopped d).fb SYS_PWRSTAT_VBAT_OK then ((stopped d).fs SYS_PWRSTAT_VBAT_OK 0).dropSeen 4 else stopped d := by
  unfold vbatLossDev
  rw [h]
  rfl

theorem fg_stopped_ne {F : Fld} (h : F.key 0 ≠ AON_BS_STAT_STATE.key 0 ∧ F.key 0 ≠ AON_STAT_XT_OK.key 0 ∧ F.key 0 ≠ CLK_REF_STAT_XT_CHECK_OFF.key 0) :
    (stopped d).fg F = d.fg F := by
  obtain ⟨hstate, hxt, hcheck⟩ := h
  exact (Dev.fg_fs_ne _ _ _ _ _ _ hcheck).trans ((Dev.fg_fs_ne _ _ _ _ _ _ hxt).trans (Dev.fg_fs_ne d _ _ _ _ _ hstate))

theorem fg_stopped_state : (stopped d).fg AON_BS_STAT_STATE = 0 :=
  (Dev.fg_fs_ne _ _ _ _ _ _ (by decide)).trans ((Dev.fg_fs_ne _ _ _ _ _ _ (by decide)).trans (Dev.fg_fs d AON_BS_STAT_STATE 0 0))

theorem fg_stopped_xt : (stopped d).fg AON_STAT_XT_OK = 0 := (Dev.fg_fs_ne _ _ _ _ _ _ (by decide)).trans (Dev.fg_fs _ _ _ _)

theorem fg_stopped_check : (stopped d).fg CLK_REF_STAT_XT_CHECK_OFF = 1 := Dev.fg_fs _ _ _ _

/-- The loss shows nothing else than the supply it concerns. -/
theorem fg_vbatLoss (h : d.aon.alive = true) {F : Fld} (hne : F.key 0 ≠ SYS_PWRSTAT_VBAT_OK.key 0 ∧ F.key 0 ≠ SYS_PWRSTAT_DROP.key 0) :
    (vbatLossDev d).fg F = (stopped d).fg F := by
  rw [vbatLossDev_alive h]
  split
  · exact (Dev.fg_dropSeen hne.2 _ _).trans (Dev.fg_fs_ne _ _ _ _ _ _ hne.1)
  · rfl

theorem vbatLoss_aon (h : d.aon.alive = true) : (vbatLossDev d).aon = { d.aon with alive := false, qual := 0, fbRun := 0, pulses := 0 } := by
  rw [vbatLossDev_alive h]
  split
  · exact (Dev.dropSeen_parts _ _).1
  · rfl

theorem vbatLoss_ok (h : d.aon.alive = true) : (vbatLossDev d).fg SYS_PWRSTAT_VBAT_OK = 0 := by
  rw [vbatLossDev_alive h]
  split
  · exact (Dev.fg_dropSeen (by decide) _ _).trans (Dev.fg_fs _ _ _ _)
  · next hlow => simpa [Dev.fb] using hlow

theorem vbatLoss_drop (h : d.aon.alive = true) (hrun : d.sys.phase = .run) (hok : d.fb SYS_PWRSTAT_VBAT_OK = true) :
    (vbatLossDev d).fbit SYS_PWRSTAT_DROP 4 = true := by
  have hshown : (stopped d).fb SYS_PWRSTAT_VBAT_OK = true := (Dev.fb_of_fg (fg_stopped_ne (by decide))).trans hok
  rw [vbatLossDev_alive h, if_pos hshown]
  refine Dev.fbit_dropSeen (d := (stopped d).fs SYS_PWRSTAT_VBAT_OK 0) ?_ (by decide)
  exact hrun

/-! ### The sample of `VBAT_AON` (R355) -/

/-- The device once a sample of `VBAT_AON` is shown. -/
def vbatShown (d : Dev) (low : Bool) : Dev := (d.fs AON_STAT_VBAT_LOW (b2n low)).fs SYS_PWRSTAT_VBAT_OK (b2n !low)

/-- The device once a sample has been taken. -/
def vbatTaken (d : Dev) (low : Bool) : Dev :=
  { (if low then (vbatShown d low).fs AON_STAT_VBAT_LOW_SEEN 1 else vbatShown d low) with aon := { d.aon with sampled := true } }

theorem vbatSampleDev_alive {mv : Nat} (h : d.aon.alive = true) : vbatSampleDev mv d =
    if decide (mv < 2200) && d.aon.sampled && !d.fb AON_STAT_VBAT_LOW then ((vbatTaken d (decide (mv < 2200))).dropSeen 4).raiseN 116
    else vbatTaken d (decide (mv < 2200)) := by
  unfold vbatSampleDev
  rw [h]
  cases decide (mv < 2200) <;> rfl

theorem vbatTaken_of (low : Bool) : vbatTaken d low = { vbatTaken d low with aon := { d.aon with sampled := true } } ∧ (vbatTaken d low).evt = d.evt ∧
    (vbatTaken d low).sys = d.sys ∧ (vbatTaken d low).clk = d.clk := by
  cases low <;> exact ⟨rfl, rfl, rfl, rfl⟩

theorem fg_vbatTaken {low : Bool} {F : Fld} (h : F.key 0 ≠ AON_STAT_VBAT_LOW_SEEN.key 0) : (vbatTaken d low).fg F = (vbatShown d low).fg F := by
  cases low with
  | true => exact Dev.fg_fs_ne (vbatShown d true) _ _ _ _ _ h
  | false => rfl

theorem fg_vbatTaken_low (low : Bool) : (vbatTaken d low).fg AON_STAT_VBAT_LOW = b2n low := by
  rw [fg_vbatTaken (by decide), vbatShown, Dev.fg_fs_ne _ _ _ _ _ _ (by decide), Dev.fg_fs]
  cases low <;> rfl

theorem fg_vbatTaken_ok (low : Bool) : (vbatTaken d low).fg SYS_PWRSTAT_VBAT_OK = b2n !low := by
  rw [fg_vbatTaken (by decide), vbatShown, Dev.fg_fs]
  cases low <;> rfl

theorem fg_vbatTaken_seen : (vbatTaken d true).fg AON_STAT_VBAT_LOW_SEEN = 1 := Dev.fg_fs (vbatShown d true) _ _ _

theorem vbatTaken_deg (low : Bool) : (vbatTaken d low).deg = d.deg := by
  refine Dev.fb_of_fg ((fg_vbatTaken (by decide)).trans ?_)
  rw [vbatShown, Dev.fg_fs_ne _ _ _ _ _ _ (by decide), Dev.fg_fs_ne _ _ _ _ _ _ (by decide)]

/-- A fall shows nothing else than the supply's sticky bit. -/
theorem fg_vbatSample {mv : Nat} (h : d.aon.alive = true) {F : Fld} (hne : F.key 0 ≠ SYS_PWRSTAT_DROP.key 0) :
    (vbatSampleDev mv d).fg F = (vbatTaken d (decide (mv < 2200))).fg F := by
  rw [vbatSampleDev_alive h]
  split
  · exact (Dev.fg_raiseN ..).trans (Dev.fg_dropSeen hne _ _)
  · rfl

theorem vbatSample_aon {mv : Nat} (h : d.aon.alive = true) : (vbatSampleDev mv d).aon = { d.aon with sampled := true } := by
  rw [vbatSampleDev_alive h]
  split
  · exact (Dev.raiseN_parts ..).2.trans (Dev.dropSeen_parts ..).1
  · rfl

theorem vbatSample_fell {mv : Nat} (h : d.aon.alive = true) (hmv : mv < 2200) (hsampled : d.aon.sampled = true) (hlow : d.fb AON_STAT_VBAT_LOW = false) :
    vbatSampleDev mv d = ((vbatTaken d true).dropSeen 4).raiseN 116 := by
  rw [vbatSampleDev_alive h, decide_eq_true hmv, hsampled, hlow]
  rfl

theorem vbatSample_held {mv : Nat} (h : d.aon.alive = true) (hmv : 2200 ≤ mv) : vbatSampleDev mv d = vbatTaken d false := by
  rw [vbatSampleDev_alive h, decide_eq_false (Nat.not_lt.2 hmv)]
  rfl

theorem vbatFell_evt : (((vbatTaken d true).dropSeen 4).raiseN 116).evt = (d.raiseN 116).evt := by
  obtain ⟨-, hevt, hsys, hclk⟩ := vbatTaken_of (d := d) true
  obtain ⟨-, hevt', hsys', hclk'⟩ := Dev.dropSeen_parts (vbatTaken d true) 4
  exact Dev.raiseN_evt (hevt'.trans hevt) (hsys'.trans hsys) (hclk'.trans hclk)
    ((Dev.fb_of_fg (Dev.fg_dropSeen (by decide) _ _)).trans (vbatTaken_deg true)) 116 0

/-! ### A write of the clock (R13, R349) -/

theorem regWrite_rtc {a : Acc} {hi lo : W32} (halive : d.aon.alive = true)
    (hlo : (d.holdOf a (AON_RTC_SET_HI_C.at 0 - 4)).wlo = [(AON_RTC_SET_HI_C.at 0 - 4, lo.toNat)]) :
    (d.regWrite a (AON_RTC_SET_HI_C.at 0) hi.toNat).2 = (d.rtcCommit (lo.toNat + 2 ^ 32 * hi.toNat)).dropLo a (AON_RTC_SET_HI_C.at 0 - 4) := by
  have hfind : findReg (AON_RTC_SET_HI_C.at 0) = some (⟨0x200D001C, 0x0, 0, 1, [⟨AON_RTC_SET_HI_C, .WO, .any⟩]⟩, 0) := by rfl
  have hdead : d.aonDead (AON_RTC_SET_HI_C.at 0) = false := by
    rw [Dev.aonDead, halive]
    rfl
  have hpair : d.pairLo a 0x200D0018 (AON_RTC_SET_HI_C.at 0 - 4) = lo.toNat := by
    rw [Dev.pairLo, hlo]
    rfl
  rw [Dev.regWrite_hi hfind (by decide) hdead (.inl (by decide)) (by decide)]
  exact congrArg (fun v => (d.rtcCommit (v + 2 ^ 32 * hi.toNat)).dropLo a (AON_RTC_SET_HI_C.at 0 - 4)) hpair

/-! ### The door and tamper pins (R353) -/

/-- A latch sample leaves alone every field but the pin's, the latch's, its time stamp and the pending bits. -/
theorem fg_latchSample_ne {low : Bool} {PIN LATCH TS F : Fld} {pend ev : Nat} (hpin : F.key 0 ≠ PIN.key 0) (hlatch : F.key 0 ≠ LATCH.key 0)
    (hts : F.key 0 ≠ TS.key 0) (hpend : F.key 0 ≠ AON_STAT_PEND.key 0) : (d.latchSample low PIN LATCH TS pend ev).fg F = d.fg F := by
  have hbits : (((d.fs PIN (b2n low)).fs LATCH 1).fsBit AON_STAT_PEND pend true).fg F = d.fg F :=
    (Dev.fg_fs_ne _ _ _ _ _ _ hpend).trans ((Dev.fg_fs_ne _ _ _ _ _ _ hlatch).trans (Dev.fg_fs_ne _ _ _ _ _ _ hpin))
  unfold Dev.latchSample
  dsimp only
  split
  · split
    · exact (Dev.fg_raiseN ..).trans ((Dev.fg_fs_ne _ _ _ _ _ _ hts).trans hbits)
    · exact hbits
  · exact Dev.fg_fs_ne _ _ _ _ _ _ hpin

/-- The second low sample of a pin: the latch, its pending bit and its time are set. -/
theorem latchSample_second {PIN LATCH TS : Fld} {pend ev : Nat} (hpin : d.fb PIN = true) (hlatch : d.fb LATCH = false)
    (hne : LATCH.key 0 ≠ PIN.key 0) : d.latchSample true PIN LATCH TS pend ev =
      ((((d.fs PIN 1).fs LATCH 1).fsBit AON_STAT_PEND pend true).fs TS d.rtcSec).raiseN ev := by
  have hopen : (d.fs PIN 1).fb LATCH = false := (Dev.fb_of_fg (Dev.fg_fs_ne _ _ _ _ _ _ hne)).trans hlatch
  unfold Dev.latchSample
  rw [hpin]
  simp only [b2n, Bool.and_self, if_true, hopen, Bool.not_false]
  rfl

theorem latchSample_first {PIN LATCH TS : Fld} {pend ev : Nat} {low : Bool} (hpin : d.fb PIN = false) :
    d.latchSample low PIN LATCH TS pend ev = d.fs PIN (b2n low) := by
  unfold Dev.latchSample
  rw [hpin]
  simp only [Bool.and_false, Bool.false_eq_true, if_false]

/-- The second low sample of the door pin. -/
theorem doorTamperDev_second {tamper : Bool} (halive : d.aon.alive = true) (hpin : d.fb AON_LATCH_DOOR_PIN = true) (hlatch : d.fb AON_LATCH_DOOR = false)
    {e : Dev} (he : ((((d.fs AON_LATCH_DOOR_PIN 1).fs AON_LATCH_DOOR 1).fsBit AON_STAT_PEND 1 true).fs AON_DOOR_TS_SEC d.rtcSec).raiseN 112 = e) :
    doorTamperDev true tamper d = e.latchSample tamper AON_LATCH_TAMPER_PIN AON_LATCH_TAMPER AON_TAMPER_TS_SEC 2 113 := by
  rw [← he, ← latchSample_second hpin hlatch (by decide)]
  unfold doorTamperDev
  rw [halive]
  rfl

theorem doorTamperDev_first {tamper : Bool} (halive : d.aon.alive = true) (hpin : d.fb AON_LATCH_DOOR_PIN = false) :
    doorTamperDev true tamper d =
      (d.fs AON_LATCH_DOOR_PIN 1).latchSample tamper AON_LATCH_TAMPER_PIN AON_LATCH_TAMPER AON_TAMPER_TS_SEC 2 113 := by
  unfold doorTamperDev
  rw [halive, latchSample_first hpin]
  rfl

/-- A latch sample shows its pin's level. -/
theorem fg_latchSample_pin {low : Bool} {PIN LATCH TS : Fld} {pend ev : Nat} (hlen : PIN.len = 1) (hlatch : PIN.key 0 ≠ LATCH.key 0)
    (hts : PIN.key 0 ≠ TS.key 0) (hpend : PIN.key 0 ≠ AON_STAT_PEND.key 0) : (d.latchSample low PIN LATCH TS pend ev).fg PIN = b2n low := by
  have hshown : (d.fs PIN (b2n low)).fg PIN = b2n low := by
    rw [Dev.fg_fs, hlen]
    cases low <;> rfl
  have hbits : (((d.fs PIN (b2n low)).fs LATCH 1).fsBit AON_STAT_PEND pend true).fg PIN = b2n low :=
    (Dev.fg_fs_ne _ _ _ _ _ _ hpend).trans ((Dev.fg_fs_ne _ _ _ _ _ _ hlatch).trans hshown)
  unfold Dev.latchSample
  dsimp only
  split
  · split
    · exact (Dev.fg_raiseN ..).trans ((Dev.fg_fs_ne _ _ _ _ _ _ hts).trans hbits)
    · exact hbits
  · exact hshown

/-- A latch sample clears no pending bit. -/
theorem fbit_latchSample_pend {low : Bool} {PIN LATCH TS : Fld} {pend ev i : Nat} (hpin : AON_STAT_PEND.key 0 ≠ PIN.key 0)
    (hlatch : AON_STAT_PEND.key 0 ≠ LATCH.key 0) (hts : AON_STAT_PEND.key 0 ≠ TS.key 0) (hi : i < AON_STAT_PEND.len) (hne : pend ≠ i)
    (h : d.fbit AON_STAT_PEND i = true) : (d.latchSample low PIN LATCH TS pend ev).fbit AON_STAT_PEND i = true := by
  have hpinned : (d.fs PIN (b2n low)).fbit AON_STAT_PEND i = true := by
    rw [Dev.fbit, Dev.fg_fs_ne _ _ _ _ _ _ hpin]
    exact h
  have hlatched : ((d.fs PIN (b2n low)).fs LATCH 1).fbit AON_STAT_PEND i = true := by
    rw [Dev.fbit, Dev.fg_fs_ne _ _ _ _ _ _ hlatch]
    exact hpinned
  have hbits : (((d.fs PIN (b2n low)).fs LATCH 1).fsBit AON_STAT_PEND pend true).fbit AON_STAT_PEND i = true := by
    rw [Dev.fbit, Dev.fsBit, Dev.fg_fs, Nat.testBit_mod_two_pow, decide_eq_true hi, putBit, if_pos rfl,
      testBit_setBit_ne hne, Bool.true_and]
    exact hlatched
  unfold Dev.latchSample
  dsimp only
  split
  · split
    · rw [Dev.fbit, Dev.fg_raiseN, Dev.fg_fs_ne _ _ _ _ _ _ hts]
      exact hbits
    · exact hbits
  · exact hpinned

/-! ### Commands (R372) -/

theorem aonTimeSetCmd_set {c : Cmd} {b : List Byte} (hb : c.payload = b) (hlen : b.length = 8) (halive : d.aon.alive = true) :
    aonTimeSetCmd c d = (.st .ok, d.rtcCommit (leNat b)) := by
  simp [aonTimeSetCmd, hb, hlen, halive]

theorem aonClearCmd_pend {c : Cmd} (hb : c.payload = [8]) (halive : d.aon.alive = true) : aonClearCmd c d = (.st .ok, d.fs AON_STAT_PEND 0) := by
  have h : byteAt [8#8] 0 = 8 := by decide
  have h1 : Nat.testBit 8 1 = false := by decide
  have h2 : Nat.testBit 8 2 = false := by decide
  have h3 : Nat.testBit 8 3 = true := by decide
  simp [aonClearCmd, hb, halive, h, h1, h2, h3]

theorem aonClearCmd_refused {c : Cmd} (hb : c.payload = [1]) (halive : d.aon.alive = true) (hpin : d.fb AON_LATCH_DOOR_PIN = true)
    (hlatch : d.fb AON_LATCH_DOOR = true) : aonClearCmd c d = (.st .state, d) := by
  have h : byteAt [1#8] 0 = 1 := by decide
  simp [aonClearCmd, hb, halive, h, hpin, hlatch]

end

/-- Settles O51: each row comes to what its rule says, whether or not the core is in reset. -/
theorem nightwatchClock : Obligations.NightwatchClock := by
  unfold Obligations.NightwatchClock
  refine fun s a p tag => ⟨?first, ?loss, ?sample, ?set, ?crystalLoss, ?crystalRestart, ?trim, ?alarm, ?alarmNone, ?door, ?doorFirst, ?timeSet,
    ?clear, ?clearRefused⟩
  case first =>
    intro hdead
    obtain ⟨haon, hheld⟩ := vbatFirst_parts hdead
    refine ⟨vbatFirst s.dev, rfl, haon, hheld, fun F n hblock hlo => vbatFirst_fg hdead hblock hlo, fun hcore => ?_⟩
    rw [vbatFirst_dead hdead, if_pos hcore, Dev.fg_fs]
    rfl
  case loss =>
    intro halive
    refine ⟨s.to (vbatLossDev s.dev), rfl, vbatLoss_aon halive, ?_, ?_, ?_, vbatLoss_ok halive, fun up hok => vbatLoss_drop halive up hok⟩
    · exact (fg_vbatLoss halive (by decide)).trans fg_stopped_state
    · exact (fg_vbatLoss halive (by decide)).trans fg_stopped_xt
    · exact (fg_vbatLoss halive (by decide)).trans fg_stopped_check
  case sample =>
    intro mv halive
    refine ⟨s.to (vbatSampleDev mv s.dev), rfl, ?_, ?_, vbatSample_aon halive, fun hmv => ?_, fun hmv => ?_, fun hmv hsampled hlow => ?_⟩
    · exact (fg_vbatSample halive (by decide)).trans (fg_vbatTaken_low _)
    · rw [State.to_dev, Dev.fg_land, fg_vbatSample halive (by decide), fg_vbatTaken_ok, ← decide_not]
      simp only [Nat.not_lt]
    · rw [State.to_dev, vbatSample_held halive hmv]
      exact (vbatTaken_of false).2.1
    · rw [State.to_dev, Dev.fg_land, fg_vbatSample halive (by decide), decide_eq_true hmv]
      exact fg_vbatTaken_seen
    · rw [State.to_dev, vbatSample_fell halive hmv hsampled hlow]
      refine ⟨vbatFell_evt, fun up => ?_⟩
      rw [Dev.fbit, Dev.fg_land, Dev.fg_raiseN]
      exact Dev.fbit_dropSeen ((vbatTaken_of true).2.2.1.symm ▸ up) (by decide)
  case set =>
    intro hi lo up halive hlo
    refine ⟨_, State.run_eq up (regWrite_rtc halive hlo), ?_, ?_, rfl⟩
    · have hwords : lo.toNat + 2 ^ 32 * hi.toNat < 2 ^ 64 := by
        have hlo := lo.isLt
        have hhi := hi.isLt
        omega
      rw [State.to_dev, Dev.land_aon]
      exact congrArg (fun c => { s.dev.aon with rtc := c, frac := 0, hold := 0, wrote := true }) (Nat.mod_eq_of_lt hwords)
    · exact Dev.fg_fs s.dev AON_STAT_RTC_VALID 1 0
  case crystalLoss =>
    intro halive hxt
    exact congrArg (fun e => Host.Outcome.next (s.to e)) (if_pos (by rw [halive, hxt]; rfl))
  case crystalRestart =>
    intro halive hxt
    exact congrArg (fun e => Host.Outcome.next (s.to e)) (if_pos (by rw [halive, hxt]; rfl))
  case trim =>
    intro halive hxt
    have hoff : ¬(!s.dev.aon.alive || !s.dev.fb AON_STAT_XT_OK) = true := by rw [halive, hxt]; decide
    have hrow : rtcTrimDev s.dev = if 0 ≤ s.dev.fgS AON_RTC_TRIM_TRIM then s.dev.rtcAdd (s.dev.fgS AON_RTC_TRIM_TRIM)
        else { s.dev with aon := { s.dev.aon with hold := s.dev.aon.hold + (s.dev.fgS AON_RTC_TRIM_TRIM).natAbs } } := if_neg hoff
    have hnext : ∀ e, rtcTrimDev s.dev = e → exec .rtcTrimTimer s = .next (s.to e) := fun e he => he ▸ rfl
    refine ⟨fun hpos => hnext _ ?_, fun hneg => hnext _ ?_, fun n hfull => Dev.tickRtc_period halive hxt hfull, fun hzero => hnext _ ?_⟩
    · rw [hrow, if_pos (by omega), Dev.rtcAdd_of_ne (by omega)]
    · rw [hrow, if_neg (by omega)]
    · rw [hrow, hzero]
      rfl
  case alarm =>
    intro halive hen hxt hwrote hwhole hsec
    refine congrArg (fun e => Host.Outcome.next (s.to e)) (if_pos ?_)
    rw [halive, hen, hxt, hwrote, decide_eq_true hwhole, decide_eq_true hsec]
    rfl
  case alarmNone =>
    intro h
    refine congrArg (fun e => Host.Outcome.next (s.to e)) (if_neg fun hall => ?_)
    simp only [Bool.and_eq_true, Bool.not_eq_true', decide_eq_true_eq] at hall
    obtain ⟨⟨⟨-, hwrote⟩, -⟩, hsec⟩ := hall
    rcases h with hne | hwritten
    · exact hne hsec
    · exact Bool.false_ne_true (hwrote.symm.trans hwritten)
  case door =>
    intro tamper halive hpin hlatch
    obtain ⟨e, he⟩ : ∃ e, ((((s.dev.fs AON_LATCH_DOOR_PIN 1).fs AON_LATCH_DOOR 1).fsBit AON_STAT_PEND 1 true).fs AON_DOOR_TS_SEC s.dev.rtcSec).raiseN 112 = e :=
      ⟨_, rfl⟩
    have hrow := doorTamperDev_second (tamper := tamper) halive hpin hlatch he
    refine ⟨s.to (doorTamperDev true tamper s.dev), rfl, ?_⟩
    simp only [State.to_dev, Dev.fg_land, Dev.fbit, hrow]
    refine ⟨?_, ?_, ?_, fg_latchSample_pin rfl (by decide) (by decide) (by decide)⟩
    · rw [fg_latchSample_ne (by decide) (by decide) (by decide) (by decide), ← he, Dev.fg_raiseN, Dev.fg_fs_ne _ _ _ _ _ _ (by decide), Dev.fsBit,
        Dev.fg_fs_ne _ _ _ _ _ _ (by decide), Dev.fg_fs]
      rfl
    · refine fbit_latchSample_pend (by decide) (by decide) (by decide) (by decide) (by decide) ?_
      rw [← he, Dev.fbit, Dev.fg_raiseN, Dev.fg_fs_ne _ _ _ _ _ _ (by decide)]
      exact Dev.fbit_fsBit (by decide) _ 0
    · rw [fg_latchSample_ne (by decide) (by decide) (by decide) (by decide), ← he, Dev.fg_raiseN, Dev.fg_fs]
  case doorFirst =>
    intro tamper halive hpin
    refine ⟨s.to (doorTamperDev true tamper s.dev), rfl, ?_⟩
    rw [State.to_dev, Dev.fg_land, Dev.fg_land, doorTamperDev_first halive hpin, fg_latchSample_ne (by decide) (by decide) (by decide) (by decide),
      fg_latchSample_ne (by decide) (by decide) (by decide) (by decide), Dev.fg_fs, Dev.fg_fs_ne _ _ _ _ _ _ (by decide)]
    exact ⟨rfl, rfl⟩
  case timeSet => exact fun b up halive hc hlen => State.run_answers up hc fun c hb => aonTimeSetCmd_set hb hlen halive
  case clear => exact fun up halive hc => State.run_answers up hc fun c hb => aonClearCmd_pend hb halive
  case clearRefused => exact fun up halive hc hpin hlatch => State.run_answers up hc fun c hb => aonClearCmd_refused hb halive hpin hlatch

end Sys2Proof.Machine
end

section
/-! SUPPORT. The statement about the black-start sequencer (14). -/
set_option Elab.async false

namespace Sys2Proof.Machine

section
variable {d : Dev}

/-! ### A sample (R357) -/

/-- The device once a sample of the black-start converter is shown. -/
def bsShown (d : Dev) (vhv fb vbat : Nat) : Dev :=
  ((d.fs AON_MEAS_VHV (min vhv 1200)).fs AON_MEAS_BSFB (min fb 1200)).fs AON_MEAS_VBAT (min (vbat / 10) 1023)

theorem fg_bsShown {vhv fb vbat : Nat} {F : Fld}
    (h : F.key 0 ≠ AON_MEAS_VHV.key 0 ∧ F.key 0 ≠ AON_MEAS_BSFB.key 0 ∧ F.key 0 ≠ AON_MEAS_VBAT.key 0) : (bsShown d vhv fb vbat).fg F = d.fg F := by
  obtain ⟨hvhv, hfb, hvbat⟩ := h
  rw [bsShown, Dev.fg_fs_ne _ _ _ _ _ _ hvbat, Dev.fg_fs_ne _ _ _ _ _ _ hfb, Dev.fg_fs_ne _ _ _ _ _ _ hvhv]

theorem bsSampleDev_on {vhv fb vbat : Nat} (halive : d.aon.alive = true) (hen : d.fb AON_CTRL_BS_EN = true) :
    bsSampleDev vhv fb vbat d = (bsShown d vhv fb vbat).bsStep vhv fb := if_pos (by rw [halive, hen]; rfl)

namespace Dev

variable {vhv fb : Nat}

theorem bsStep_idle (hst : d.fg AON_BS_STAT_STATE = 0) (hcore : d.sys.vddCore = false) (hlatched : d.fb AON_BS_STAT_LATCHED = false)
    (hon : d.fg AON_BS_CFG_VHV_ON ≤ vhv) : d.bsStep vhv fb = d.bsGo 1 := by
  simp only [bsStep, hst]
  exact if_pos (by rw [hcore, hlatched, decide_eq_true hon]; rfl)

theorem bsStep_qualified (hst : d.fg AON_BS_STAT_STATE = 1) (hcore : d.sys.vddCore = false) (hon : d.fg AON_BS_CFG_VHV_ON ≤ vhv)
    (hqual : d.fg AON_BS_CFG_QUAL_T ≤ d.aon.qual + 1) : d.bsStep vhv fb = d.bsGo 2 := by
  simp only [bsStep, hst]
  rw [if_neg (by rw [hcore, decide_eq_false (Nat.not_lt.2 hon)]; decide), if_pos hqual]

theorem bsStep_dropped (hst : d.fg AON_BS_STAT_STATE = 1) (hlow : vhv < d.fg AON_BS_CFG_VHV_ON) : d.bsStep vhv fb = d.bsGo 0 := by
  simp only [bsStep, hst]
  exact if_pos (by rw [decide_eq_true hlow, Bool.or_true])

theorem bsStep_runs (hst : d.fg AON_BS_STAT_STATE = 2) (hok : d.fg AON_BS_FB_FB_OK ≤ fb) (hrun : d.aon.fbRun = 19) :
    d.bsStep vhv fb = (d.bsGo 3).fsBit AON_STAT_PEND 3 true := by
  simp only [bsStep, hst]
  rw [if_neg (Nat.not_lt.2 hok), if_pos (by rw [hrun])]

theorem bsStep_kickLow (hst : d.fg AON_BS_STAT_STATE = 2) (hlow : fb < d.fg AON_BS_FB_FB_OK) :
    d.bsStep vhv fb = { d with aon := { d.aon with fbRun := 0 } } := by
  simp only [bsStep, hst]
  exact if_pos hlow

theorem bsStep_runDropped (hst : d.fg AON_BS_STAT_STATE = 3) (hlow : fb < d.fg AON_BS_FB_FB_DROP) (hrun : d.aon.fbRun = 2) :
    d.bsStep vhv fb = d.bsFail := by
  simp only [bsStep, hst]
  rw [if_neg (Nat.not_le.2 hlow), if_pos (by rw [hrun])]

/-! ### A failure (R357, R358) -/

/-- The device once a failure has been counted and its wake has been withdrawn. -/
def bsCounted (d : Dev) (occ : List Nat) : Dev :=
  let e := (d.fcnt AON_BS_STAT_FAIL_CNT AON_BS_STAT_CNT_OVF).fsBit AON_STAT_PEND 3 false
  { e with aon := { e.aon with occ := occ } }

theorem fcnt_parts (d : Dev) (F V : Fld) (n : Nat) :
    (d.fcnt F V n).aon = d.aon ∧ (d.fcnt F V n).evt = d.evt ∧ (d.fcnt F V n).sys = d.sys ∧ (d.fcnt F V n).clk = d.clk := by
  unfold fcnt
  split <;> exact ⟨rfl, rfl, rfl, rfl⟩

theorem bsCounted_parts (occ : List Nat) : (d.bsCounted occ).aon = { d.aon with occ := occ } ∧ (d.bsCounted occ).evt = d.evt ∧
    (d.bsCounted occ).sys = d.sys ∧ (d.bsCounted occ).clk = d.clk := by
  obtain ⟨haon, hevt, hsys, hclk⟩ := fcnt_parts d AON_BS_STAT_FAIL_CNT AON_BS_STAT_CNT_OVF 0
  exact ⟨congrArg (fun x : Aon => { x with occ := occ }) haon, hevt, hsys, hclk⟩

theorem fg_bsCounted {occ : List Nat} {F : Fld} (hcnt : F.key 0 ≠ AON_BS_STAT_FAIL_CNT.key 0) (hovf : F.key 0 ≠ AON_BS_STAT_CNT_OVF.key 0)
    (hpend : F.key 0 ≠ AON_STAT_PEND.key 0) : (d.bsCounted occ).fg F = d.fg F :=
  (fg_fs_ne _ _ _ _ _ _ hpend).trans (fg_fcnt_ne _ _ _ _ _ _ hcnt hovf)

theorem bsCounted_pend (occ : List Nat) : (d.bsCounted occ).fbit AON_STAT_PEND 3 = false := fbit_fsBit_same (by decide) _ false 0

theorem bsFail_eq {occ : List Nat}
    (hocc : d.aon.occ.filter (fun t => d.aon.rtc < t + d.fg AON_BS_CLS_WINDOW * 32768) ++ [d.aon.rtc] = occ) :
    d.bsFail = if d.fg AON_BS_CLS_LIMIT ≤ occ.length then (((d.bsCounted occ).bsGo 6).fs AON_BS_STAT_LATCHED 1).raiseN 115
      else (d.bsCounted occ).bsGo 5 := by
  have hlimit : (d.bsCounted occ).fg AON_BS_CLS_LIMIT = d.fg AON_BS_CLS_LIMIT := fg_bsCounted (by decide) (by decide) (by decide)
  rw [← hlimit, ← hocc]
  rfl

/-- A failure that reaches the class's limit latches the sequencer. -/
theorem bsLatched_spec {e f : Dev} {occ : List Nat} (he : d.bsCounted occ = e) (hf : ((e.bsGo 6).fs AON_BS_STAT_LATCHED 1).raiseN 115 = f) :
    f.aon.occ = occ ∧ f.fbit AON_STAT_PEND 3 = false ∧ f.fg AON_BS_STAT_STATE = 6 ∧ f.fg AON_BS_STAT_LATCHED = 1 ∧ f.evt = (d.raiseN 115).evt := by
  obtain ⟨haon, hevt, hsys, hclk⟩ := bsCounted_parts (d := d) occ
  have hpend := bsCounted_pend (d := d) occ
  have hdeg : (d.bsCounted occ).deg = d.deg := fb_of_fg (fg_bsCounted (by decide) (by decide) (by decide))
  rw [he] at haon hevt hsys hclk hpend hdeg
  subst hf
  have hkeep : ∀ F : Fld, F.key 0 ≠ AON_BS_STAT_LATCHED.key 0 → F.key 0 ≠ AON_BS_STAT_STATE.key 0 →
      ((e.bsGo 6).fs AON_BS_STAT_LATCHED 1).fg F = e.fg F := fun F hl hs => (fg_fs_ne _ _ _ _ _ _ hl).trans (fg_fs_ne e _ _ _ _ _ hs)
  refine ⟨?_, ?_, ?_, ?_, raiseN_evt (e := (e.bsGo 6).fs AON_BS_STAT_LATCHED 1) hevt hsys hclk ?_ 115 0⟩
  · rw [(raiseN_parts ..).2]
    exact congrArg Aon.occ haon
  · rw [fbit, fg_raiseN, hkeep _ (by decide) (by decide)]
    exact hpend
  · rw [fg_raiseN, fg_fs_ne _ _ _ _ _ _ (by decide)]
    exact fg_fs e AON_BS_STAT_STATE 6 0
  · rw [fg_raiseN]
    exact fg_fs _ AON_BS_STAT_LATCHED 1 0
  · exact (fb_of_fg (hkeep _ (by decide) (by decide))).trans hdeg

theorem bsRetries_spec {e : Dev} {occ : List Nat} (he : d.bsCounted occ = e) : (e.bsGo 5).aon.occ = occ ∧ (e.bsGo 5).fbit AON_STAT_PEND 3 = false ∧
    (e.bsGo 5).fg AON_BS_STAT_STATE = 5 ∧ (e.bsGo 5).evt = d.evt := by
  obtain ⟨haon, hevt, -, -⟩ := bsCounted_parts (d := d) occ
  have hpend := bsCounted_pend (d := d) occ
  rw [he] at haon hevt hpend
  have hkeep : (e.bsGo 5).fg AON_STAT_PEND = e.fg AON_STAT_PEND := fg_fs_ne e _ _ _ _ _ (by decide)
  refine ⟨congrArg Aon.occ haon, ?_, fg_fs e AON_BS_STAT_STATE 5 0, hevt⟩
  rw [fbit, hkeep]
  exact hpend

end Dev
end

/-- Settles O52: what each sample, pulse and time-out does to the sequencer, and what a failure counts. -/
theorem blackStart : Obligations.BlackStart := by
  unfold Obligations.BlackStart
  refine fun s halive => ⟨?sample, ?kick, ?kicked, ?wake, ?retry, ?go, ?fail⟩
  case sample =>
    intro vhv fb vbat e hen he
    have hshown : bsShown s.dev vhv fb vbat = e := he
    have hrow : exec (.bsSample vhv fb vbat) s = .next (s.to (e.bsStep vhv fb)) :=
      hshown ▸ congrArg (fun e => Host.Outcome.next (s.to e)) (bsSampleDev_on halive hen)
    have haon : e.aon = s.dev.aon := hshown ▸ rfl
    have hsys : e.sys = s.dev.sys := hshown ▸ rfl
    have hst : e.fg AON_BS_STAT_STATE = s.dev.fg AON_BS_STAT_STATE := hshown ▸ fg_bsShown (by decide)
    have hlatched : e.fb AON_BS_STAT_LATCHED = s.dev.fb AON_BS_STAT_LATCHED := Dev.fb_of_fg (hshown ▸ fg_bsShown (by decide))
    have hon : e.fg AON_BS_CFG_VHV_ON = s.dev.fg AON_BS_CFG_VHV_ON := hshown ▸ fg_bsShown (by decide)
    have hqual : e.fg AON_BS_CFG_QUAL_T = s.dev.fg AON_BS_CFG_QUAL_T := hshown ▸ fg_bsShown (by decide)
    have hok : e.fg AON_BS_FB_FB_OK = s.dev.fg AON_BS_FB_FB_OK := hshown ▸ fg_bsShown (by decide)
    have hdrop : e.fg AON_BS_FB_FB_DROP = s.dev.fg AON_BS_FB_FB_DROP := hshown ▸ fg_bsShown (by decide)
    rw [hrow, ← hst, ← hsys, ← haon, ← hlatched, ← hon, ← hqual, ← hok, ← hdrop]
    have hnext : ∀ f, e.bsStep vhv fb = f → Host.Outcome.next (s.to (e.bsStep vhv fb)) = (.next (s.to f) : Host.Outcome State Fault Refusal) :=
      fun f hf => congrArg (fun e => Host.Outcome.next (s.to e)) hf
    exact ⟨fun h0 hcore hl hv => hnext _ (Dev.bsStep_idle h0 hcore hl hv), fun h1 hcore hv hq => hnext _ (Dev.bsStep_qualified h1 hcore hv hq),
      fun h1 hv => hnext _ (Dev.bsStep_dropped h1 hv), fun h2 hf hr => hnext _ (Dev.bsStep_runs h2 hf hr),
      fun h2 hf => hnext _ (Dev.bsStep_kickLow h2 hf), fun h3 hf hr => hnext _ (Dev.bsStep_runDropped h3 hf hr)⟩
  case kick =>
    intro hst hmore
    refine congrArg (fun e => Host.Outcome.next (s.to e)) ((if_pos ?_).trans (if_pos hmore))
    rw [halive, decide_eq_true hst]
    rfl
  case kicked =>
    intro hst hall
    refine congrArg (fun e => Host.Outcome.next (s.to e)) ((if_pos ?_).trans (if_neg (Nat.not_lt.2 hall)))
    rw [halive, decide_eq_true hst]
    rfl
  case wake =>
    intro hst hcore
    refine congrArg (fun e => Host.Outcome.next (s.to e)) (if_pos ?_)
    rw [halive, decide_eq_true hst, hcore]
    rfl
  case retry =>
    intro hst
    refine congrArg (fun e => Host.Outcome.next (s.to e)) (if_pos ?_)
    rw [halive, decide_eq_true hst]
    rfl
  case go => exact fun k => ⟨(Dev.fg_fs s.dev AON_BS_STAT_STATE k 0).trans (Nat.mod_eq_of_lt k.isLt), rfl⟩
  case fail =>
    intro occ hocc
    have hfail := Dev.bsFail_eq hocc
    split
    · next hlimit =>
      rw [if_pos hlimit] at hfail
      obtain ⟨haon, hpend, hst, hlatched, hevt⟩ := Dev.bsLatched_spec rfl hfail.symm
      exact ⟨haon, hpend, hst, hlatched, hevt⟩
    · next hlimit =>
      rw [hfail, if_neg hlimit]
      exact Dev.bsRetries_spec rfl

end Sys2Proof.Machine
end

section
/-! SUPPORT. The statement about the auxiliary buck (14). -/
set_option Elab.async false

namespace Sys2Proof.Machine

/-! ### A clear of the buck's `LATCHED` (R6, R361) -/

/-- A latched buck with `EN` set, while `LATCHED` holds more than its one bit: 2 in the register file's place. No write leaves such a value (`Dev.fg_fs`),
but the statement about the buck does not ask for it. -/
def latchTooWide : Dev :=
  { regs := [(AUX_BK_CTRL_EN.key 0, 1), (AUX_BK_STAT_LATCHED.key 0, 2), (AUX_BK_STAT_STATE.key 0, 5)] }

/-- A written 1 clears a bit that is set; here it finds none, and the buck stays latched. -/
theorem latchTooWide_clear : (wrIf always .mm (AUX_BK_STAT_LATCHED.at 0) (2 ^ AUX_BK_STAT_LATCHED.lo) (latchTooWide.setVfb 0)).fg AUX_BK_STAT_STATE = 5 := by
  decide

/-- A start while the edge domain is in fallback stays clock-stopped (R366). -/
theorem latchTooWide_start : (((latchTooWide.setVfb 0).fs AUX_BK_STAT_LATCHED 0).buckStart).fg AUX_BK_STAT_STATE = 4 := by decide

/-- Refutes O53: a write of 1 to `LATCHED` is claimed to start the buck from every device in state 5 whose `LATCHED` is not 0, also from one whose
register file holds 2 in the place of this field of one bit (`latchTooWide`); there the write clears nothing. -/
theorem not_auxBuck : ¬ Obligations.AuxBuck := by
  intro h
  obtain ⟨-, -, -, -, -, -, -, -, -, -, -, -, -, hclear, -⟩ := h { dev := latchTooWide } .mm .host 0 0 _ rfl rfl
  have hnext := State.lift_next (hclear (by decide) (by decide) (by decide))
  have hstate := congrArg (fun t => t.dev.fg AUX_BK_STAT_STATE) hnext
  exact absurd (latchTooWide_start.symm.trans (hstate.trans latchTooWide_clear)) (by decide)

end Sys2Proof.Machine
end

section
/-! SUPPORT. The statement about the coolant pump (14). -/
set_option Elab.async false

namespace Sys2Proof.Machine
namespace Dev

/-! ### A start and a fault (R367, R369, R370) -/

theorem pumpStart_ready {d : Dev} (hlock : d.fb CLK_PLL_STAT_FALLBACK = false) (hdrv : d.fb SYS_PWRSTAT_VDRV_OK = true) : d.pumpStart =
    { d.fs AUX_PMP_STAT_STATE 1 with aux := { d.aux with pmp := { d.aux.pmp with hg := 0, lg := 7, chop := none, edges := [] } } } := by
  unfold pumpStart
  rw [hlock, hdrv]
  rfl

theorem fcnt_aux (d : Dev) (F V : Fld) (n : Nat) : (d.fcnt F V n).aux = d.aux := by
  unfold fcnt
  split <;> rfl

/-- What a device-wide fault class finds depends on the time and the class's settings alone. -/
theorem classHit_of {d e : Dev} {k : Nat} (hclk : e.clk = d.clk) (hwindow : e.fg SYS_FCLS_k_WINDOW k = d.fg SYS_FCLS_k_WINDOW k)
    (hlimit : e.fg SYS_FCLS_k_LIMIT k = d.fg SYS_FCLS_k_LIMIT k) (occ : List Nat) : e.classHit k occ = d.classHit k occ := by
  rw [classHit, classHit, hclk, hwindow, hlimit]

/-- The device with a pump fault's cause and switches shown, before the fault is counted. -/
def pumpShown (d : Dev) (cause fswH fswL : Nat) : Dev :=
  ((d.pumpOff.fs AUX_PMP_STAT_FCAUSE cause).fs AUX_PMP_STAT_FSW_H fswH).fs AUX_PMP_STAT_FSW_L fswL

/-- The device once a pump fault has been counted and raised. -/
def pumpCounted (d : Dev) (cause fswH fswL : Nat) : Dev :=
  ((d.pumpShown cause fswH fswL).fcnt AUX_PMP_STAT_FAULT_CNT AUX_PMP_STAT_CNT_OVF).raise 119

section
variable {d : Dev} {cause fswH fswL : Nat}

theorem pumpFault_eq {e : Dev} (he : d.pumpCounted cause fswH fswL = e) : d.pumpFault cause fswH fswL =
    let f : Dev := { e with aux := { e.aux with pmp := { e.aux.pmp with occ := (e.classHit 10 e.aux.pmp.occ).1 } } }
    if (e.classHit 10 e.aux.pmp.occ).2 then (f.fs AUX_PMP_STAT_STATE 5).fs AUX_PMP_STAT_LATCHED 1 else f.fs AUX_PMP_STAT_STATE 3 := by
  rw [← he]
  rfl

theorem fg_pumpCounted {F : Fld} {n : Nat} (hcause : F.key n ≠ AUX_PMP_STAT_FCAUSE.key 0) (hhigh : F.key n ≠ AUX_PMP_STAT_FSW_H.key 0)
    (hlow : F.key n ≠ AUX_PMP_STAT_FSW_L.key 0) (hcnt : F.key n ≠ AUX_PMP_STAT_FAULT_CNT.key 0) (hovf : F.key n ≠ AUX_PMP_STAT_CNT_OVF.key 0) :
    (d.pumpCounted cause fswH fswL).fg F n = d.fg F n :=
  (fg_fcnt_ne _ _ _ _ _ _ hcnt hovf).trans
    ((fg_fs_ne _ _ _ _ _ _ hlow).trans ((fg_fs_ne _ _ _ _ _ _ hhigh).trans (fg_fs_ne d.pumpOff _ _ _ _ _ hcause)))

theorem fg_pumpCounted_cause (hcause : cause < 16) : (d.pumpCounted cause fswH fswL).fg AUX_PMP_STAT_FCAUSE = cause :=
  (fg_fcnt_ne _ _ _ _ _ _ (by decide) (by decide)).trans ((fg_fs_ne _ _ _ _ _ _ (by decide)).trans
    ((fg_fs_ne _ _ _ _ _ _ (by decide)).trans ((fg_fs d.pumpOff AUX_PMP_STAT_FCAUSE cause 0).trans (Nat.mod_eq_of_lt hcause))))

theorem pumpCounted_aux : (d.pumpCounted cause fswH fswL).aux = d.pumpOff.aux := fcnt_aux ..

theorem pumpCounted_clk : (d.pumpCounted cause fswH fswL).clk = d.clk := (fcnt_parts ..).2.2.2

theorem pumpCounted_evt : (d.pumpCounted cause fswH fswL).evt = (d.raise 119).evt := by
  obtain ⟨-, hevt, -, hclk⟩ := fcnt_parts (d.pumpShown cause fswH fswL) AUX_PMP_STAT_FAULT_CNT AUX_PMP_STAT_CNT_OVF 0
  have hdeg : (d.pumpCounted cause fswH fswL).deg = d.deg :=
    fb_of_fg (fg_pumpCounted (by decide) (by decide) (by decide) (by decide) (by decide))
  have hdeg' : ((d.pumpShown cause fswH fswL).fcnt AUX_PMP_STAT_FAULT_CNT AUX_PMP_STAT_CNT_OVF).deg = d.deg := hdeg
  simp only [pumpCounted, raise, hevt, hclk, hdeg']
  rfl

/-- A fault turns every switch off and shows its cause; at the class's limit the pump is latched. -/
theorem pumpFault_spec (hcause : cause < 16) {e : Dev} (he : d.pumpFault cause fswH fswL = e) : e.aux.pmp.hg = 0 ∧ e.aux.pmp.lg = 0 ∧
    e.fg AUX_PMP_STAT_FCAUSE = cause ∧ e.evt = (d.raise 119).evt ∧ e.fg AUX_PMP_STAT_STATE = if (d.classHit 10 d.aux.pmp.occ).2 then 5 else 3 := by
  obtain ⟨c, hc⟩ : ∃ c, d.pumpCounted cause fswH fswL = c := ⟨_, rfl⟩
  have haux : c.aux = d.pumpOff.aux := hc ▸ pumpCounted_aux
  have hevt : c.evt = (d.raise 119).evt := hc ▸ pumpCounted_evt
  have hshown : c.fg AUX_PMP_STAT_FCAUSE = cause := hc ▸ fg_pumpCounted_cause hcause
  have hhit : c.classHit 10 c.aux.pmp.occ = d.classHit 10 d.aux.pmp.occ := by
    rw [haux]
    exact classHit_of (hc ▸ pumpCounted_clk) (hc ▸ fg_pumpCounted (by decide) (by decide) (by decide) (by decide) (by decide))
      (hc ▸ fg_pumpCounted (by decide) (by decide) (by decide) (by decide) (by decide)) _
  have hrow := pumpFault_eq hc
  obtain ⟨f, hf⟩ : ∃ f : Dev, { c with aux := { c.aux with pmp := { c.aux.pmp with occ := (c.classHit 10 c.aux.pmp.occ).1 } } } = f := ⟨_, rfl⟩
  have hhg : f.aux.pmp.hg = 0 := by rw [← hf, haux]; rfl
  have hlg : f.aux.pmp.lg = 0 := by rw [← hf, haux]; rfl
  have hfevt : f.evt = (d.raise 119).evt := by rw [← hf, ← hevt]
  have hfshown : f.fg AUX_PMP_STAT_FCAUSE = cause := by
    rw [← hshown, ← hf]
    rfl
  rw [hf, hhit, he] at hrow
  subst hrow
  dsimp only
  split
  · refine ⟨hhg, hlg, ?_, hfevt, ?_⟩
    · rw [fg_fs_ne _ _ _ _ _ _ (by decide), fg_fs_ne _ _ _ _ _ _ (by decide)]
      exact hfshown
    · rw [fg_fs_ne _ _ _ _ _ _ (by decide), fg_fs]
      rfl
  · refine ⟨hhg, hlg, ?_, hfevt, fg_fs f AUX_PMP_STAT_STATE 3 0⟩
    rw [fg_fs_ne _ _ _ _ _ _ (by decide)]
    exact hfshown

end

end Dev

/-! ### `AUX_PMP_CTRL` (R367) -/

/-- `AUX_PMP_CTRL` in the register map. -/
def pumpCtrlReg : Reg := ⟨0x200E0100, 0x0, 0, 1, [⟨AUX_PMP_CTRL_EN, .RW, .any⟩, ⟨AUX_PMP_CTRL_DIR, .RW, .any⟩, ⟨AUX_PMP_CTRL_AUTO_RESUME, .RW, .any⟩,
  ⟨AUX_PMP_CTRL_SHIFT, .RW, (.rng 0 5)⟩, ⟨AUX_PMP_CTRL_PRECHG, .RW, .nz⟩, ⟨AUX_PMP_CTRL_STALL_T, .RW, .nz⟩, ⟨AUX_PMP_CTRL_RESTART_T, .RW, .nz⟩]⟩

theorem findReg_pumpCtrl : findReg (AUX_PMP_CTRL_EN.at 0) = some (pumpCtrlReg, 0) := rfl

theorem pumpCtrlReg_rw : ∀ s ∈ pumpCtrlReg.flds, s.acc = .RW := by simp [pumpCtrlReg]

theorem pumpEnable_starts {s : State} {a : Acc} {val : W32} (up : s.up) (hval : AUX_PMP_CTRL_EN.of val.toNat = 1) (hen : s.dev.fb AUX_PMP_CTRL_EN = false)
    (hst : s.dev.fg AUX_PMP_STAT_STATE ≠ 5) (hdrv : s.dev.fb SYS_PWRSTAT_VDRV_OK = true) (hlock : s.dev.fb CLK_PLL_STAT_FALLBACK = false)
    (hok : s.dev.accepts a (AUX_PMP_CTRL_EN.at 0) val.toNat) : ∃ t, exec (.pumpEnable a val) s = .next t ∧ t.dev.fg AUX_PMP_CTRL_EN = 1 ∧
      t.dev.fg AUX_PMP_STAT_STATE = 1 ∧ t.dev.aux.pmp.lg = 7 ∧ t.dev.aux.pmp.hg = 0 := by
  obtain ⟨e, he⟩ : ∃ e, s.dev.storeWord pumpCtrlReg 0 val.toNat = e := ⟨_, rfl⟩
  have hkeep {F : Fld} (hF : ∀ x ∈ pumpCtrlReg.flds, F.key 0 ≠ x.fld.key 0) : e.fg F = s.dev.fg F := he ▸ Dev.storeWord_fg_ne pumpCtrlReg_rw hF _ _
  have hset : e.fg AUX_PMP_CTRL_EN = 1 := he ▸ (Dev.storeWord_of pumpCtrlReg_rw findReg_pumpCtrl (by decide) (.head _) _ _).trans hval
  have hst' : e.fg AUX_PMP_STAT_STATE ≠ 5 := by rwa [hkeep (by decide)]
  have hon : e.fb AUX_PMP_CTRL_EN = true ∧ s.dev.fb AUX_PMP_CTRL_EN = false := ⟨by rw [Dev.fb, hset]; rfl, hen⟩
  have hafter : e.afterAUX s.dev 0x200E0100 0 (Dev.reached pumpCtrlReg val.toNat) = e.pumpStart := (if_pos hon).trans (if_neg hst')
  have hwrite : (s.dev.regWrite a (AUX_PMP_CTRL_EN.at 0) val.toNat).2 = e.afterAUX s.dev 0x200E0100 0 (Dev.reached pumpCtrlReg val.toNat) :=
    he ▸ Dev.regWrite_accepted findReg_pumpCtrl rfl (by decide) (by decide) rfl rfl hok
  rw [hafter, Dev.pumpStart_ready ((Dev.fb_of_fg (hkeep (by decide))).trans hlock) ((Dev.fb_of_fg (hkeep (by decide))).trans hdrv)] at hwrite
  have hrises : rises AUX_PMP_CTRL_EN 0 val.toNat s.dev = true := by rw [rises, hval, hen]; rfl
  exact ⟨_, State.run_wrIf up hrises hwrite, (Dev.fg_fs_ne e _ _ _ _ _ (by decide)).trans hset, Dev.fg_fs e AUX_PMP_STAT_STATE 1 0, rfl, rfl⟩

/-- Without the drivers' supply the pump is not enabled. -/
theorem pumpEnable_refused {d : Dev} {a : Acc} {w : Nat} (hval : AUX_PMP_CTRL_EN.of w = 1) (hen : d.fb AUX_PMP_CTRL_EN = false)
    (hdrv : d.fb SYS_PWRSTAT_VDRV_OK = false) : (d.regWrite a (AUX_PMP_CTRL_EN.at 0) w).2 = d := by
  have hword : AUX_PMP_CTRL_EN.of (Dev.reached pumpCtrlReg w) = 1 := (of_reached (r := pumpCtrlReg) (by decide) (.head _) rfl w).trans hval
  have hstate : d.stateReg pumpCtrlReg.base 0 (Dev.reached pumpCtrlReg w) = true := by
    have haux : d.stateAUX 0x200E0100 0 (Dev.reached pumpCtrlReg w) = true := by simp [Dev.stateAUX, hen, hdrv, hword]
    exact haux
  rw [Dev.regWrite_reg findReg_pumpCtrl rfl rfl (.inl (by decide)) rfl rfl]
  exact Dev.writeReg_state hstate (by decide)

/-! ### Events of the pump (R368 to R370) -/

section
variable {d : Dev}

theorem prechargeEndDev_at (hst : d.fg AUX_PMP_STAT_STATE = 1) : prechargeEndDev d =
    if Dev.hallRow (d.fg AUX_PMP_STAT_HALL) = 6 then d.pumpFault 1 0 0
    else (d.fs AUX_PMP_STAT_STATE 2).commutate (Dev.hallRow (d.fg AUX_PMP_STAT_HALL)) := if_neg fun h => h hst

section
variable {code : BitVec 3} {e : Dev} (hst : d.fg AUX_PMP_STAT_STATE = 2) (he : d.fs AUX_PMP_STAT_HALL code.toNat = e)
include hst he

theorem hallChangeDev_next {l : List Nat} (hold : Dev.hallRow (d.fg AUX_PMP_STAT_HALL) ≠ 6) (hnew : Dev.hallRow code.toNat ≠ 6)
    (hnext : Dev.hallRow code.toNat = (Dev.hallRow (d.fg AUX_PMP_STAT_HALL) + 1) % 6) (hl : (e.clk.ticks :: e.aux.pmp.edges).take 7 = l) :
    hallChangeDev code d = (({ e with aux := { e.aux with pmp := { e.aux.pmp with edges := l } } } : Dev).commutate (Dev.hallRow code.toNat)).fs
      AUX_PMP_SPEED_EPER (Dev.pumpSpeed l) := by
  have hst' : e.fg AUX_PMP_STAT_STATE = 2 := he ▸ (Dev.fg_fs_ne _ _ _ _ _ _ (by decide)).trans hst
  have hmoves : ¬(e.fg AUX_PMP_STAT_STATE ≠ 2 ∨ Dev.hallRow code.toNat = Dev.hallRow (d.fg AUX_PMP_STAT_HALL)) := by
    rintro (h | h)
    · exact h hst'
    · omega
  have hvalid : ¬(Dev.hallRow code.toNat = 6 ∨ Dev.hallRow (d.fg AUX_PMP_STAT_HALL) = 6 ∨
      ((Dev.hallRow (d.fg AUX_PMP_STAT_HALL) + 1) % 6 ≠ Dev.hallRow code.toNat ∧ (Dev.hallRow code.toNat + 1) % 6 ≠ Dev.hallRow (d.fg AUX_PMP_STAT_HALL))) := by
    rintro (h | h | h)
    · exact hnew h
    · exact hold h
    · exact h.1 hnext.symm
  simp only [hallChangeDev, he, if_neg hmoves, if_neg hvalid, hl]

theorem hallChangeDev_invalid (hold : Dev.hallRow (d.fg AUX_PMP_STAT_HALL) ≠ 6) (hnew : Dev.hallRow code.toNat = 6) :
    hallChangeDev code d = e.pumpFault 1 0 0 := by
  have hst' : e.fg AUX_PMP_STAT_STATE = 2 := he ▸ (Dev.fg_fs_ne _ _ _ _ _ _ (by decide)).trans hst
  have hmoves : ¬(e.fg AUX_PMP_STAT_STATE ≠ 2 ∨ Dev.hallRow code.toNat = Dev.hallRow (d.fg AUX_PMP_STAT_HALL)) := by
    rintro (h | h)
    · exact h hst'
    · exact hold (h.symm.trans hnew)
  simp only [hallChangeDev, he, if_neg hmoves]
  exact if_pos (.inl hnew)

end

theorem pumpOvercurrentDev_runs {n : Nat} (hst : d.fg AUX_PMP_STAT_STATE = 2) (hchop : d.aux.pmp.chop = some n) :
    pumpOvercurrentDev d = (d.fs AUX_PMP_STAT_ILIM_ACT 1).pumpFault 3 (2 ^ n) 0 := by
  simp only [pumpOvercurrentDev, hst, hchop]

/-- The drivers' supply is lost while the pump runs or precharges. -/
theorem vdrvLossDev_live (hok : d.fb SYS_PWRSTAT_VDRV_OK = true) (hlive : d.pumpLive = true) : vdrvLossDev d =
    ((((d.fs SYS_PWRSTAT_VDRV_OK 0).dropSeen 5).fs AUX_PMP_STAT_STATE 3).fs AUX_PMP_STAT_FCAUSE 6).pumpOff := by
  have hst : ((d.fs SYS_PWRSTAT_VDRV_OK 0).dropSeen 5).fg AUX_PMP_STAT_STATE = d.fg AUX_PMP_STAT_STATE :=
    (Dev.fg_dropSeen (by decide) _ _).trans (Dev.fg_fs_ne _ _ _ _ _ _ (by decide))
  have hlive' : ((d.fs SYS_PWRSTAT_VDRV_OK 0).dropSeen 5).pumpLive = true := by
    rw [← hlive, Dev.pumpLive, Dev.pumpLive, hst]
  unfold vdrvLossDev
  rw [if_neg (by rw [hok]; decide)]
  exact if_pos hlive'

end

/-- Settles O54: what starts the pump, how it commutates, and what each fault and supply change comes to. -/
theorem coolantPump : Obligations.CoolantPump := by
  unfold Obligations.CoolantPump
  refine fun s a n up => ⟨?enable, ?refused, ?precharge, ?prechargeBad, ?hall, ?hallBad, ?desat, ?desatChop, ?chop, ?stall, ?restart, ?vdrvLoss, ?vdrvReturn,
    ?fault⟩
  case enable => exact fun val hval hen hst hdrv hlock hok => pumpEnable_starts up hval hen hst hdrv hlock hok
  case refused =>
    intro val hval hen hdrv
    have hrises : rises AUX_PMP_CTRL_EN 0 val.toNat s.dev = true := by rw [rises, hval, hen]; rfl
    exact State.run_wrIf up hrises (pumpEnable_refused hval hen hdrv)
  case precharge =>
    intro r hst hr hne
    subst hr
    exact State.run_eq up ((prechargeEndDev_at hst).trans (if_neg hne))
  case prechargeBad => exact fun hst hbad => State.run_eq up ((prechargeEndDev_at hst).trans (if_pos hbad))
  case hall => exact fun code e hst hold hnew hnext he => State.run_eq up (hallChangeDev_next hst rfl hold hnew hnext he)
  case hallBad => exact fun code hst hnew hold => State.run_eq up (hallChangeDev_invalid hst rfl hold hnew)
  case desat => exact fun hlive hlow => State.run_eq up (if_pos (by rw [hlive, hlow]; rfl))
  case desatChop =>
    intro hst hchop hduty
    refine State.run_eq up (if_pos ?_)
    rw [Dev.pumpLive, hst, hchop, decide_eq_true hduty]
    simp
  case chop => exact fun hst hchop => ⟨State.run_eq up (pumpOvercurrentDev_runs hst hchop), State.run_eq up (if_pos ⟨hst, hchop⟩)⟩
  case stall => exact fun hst hduty => State.run_eq up (if_pos ⟨hst, hduty⟩)
  case restart => exact fun hst hcause => State.run_eq up (if_pos ⟨hst, hcause⟩)
  case vdrvLoss =>
    intro hok hlive
    obtain ⟨e, he⟩ : ∃ e, (s.dev.fs SYS_PWRSTAT_VDRV_OK 0).dropSeen 5 = e := ⟨_, rfl⟩
    have hrow := vdrvLossDev_live hok hlive
    rw [he] at hrow
    refine ⟨_, State.run_eq up hrow, ?_, Dev.fg_fs (e.fs AUX_PMP_STAT_STATE 3) AUX_PMP_STAT_FCAUSE 6 0, rfl, rfl, ?_, ?_⟩
    · exact (Dev.fg_fs_ne (e.fs AUX_PMP_STAT_STATE 3) _ _ _ _ _ (by decide)).trans (Dev.fg_fs e AUX_PMP_STAT_STATE 3 0)
    · refine (Dev.fg_fs_ne (e.fs AUX_PMP_STAT_STATE 3) _ _ _ _ _ (by decide)).trans ((Dev.fg_fs_ne e _ _ _ _ _ (by decide)).trans ?_)
      rw [← he, Dev.fg_dropSeen (by decide), Dev.fg_fs]
      rfl
    · have hdrop : e.fbit SYS_PWRSTAT_DROP 5 = true := he ▸ Dev.fbit_dropSeen (d := s.dev.fs SYS_PWRSTAT_VDRV_OK 0) up (by decide)
      refine (congrArg (Nat.testBit · 5) ?_).trans hdrop
      exact (Dev.fg_fs_ne (e.fs AUX_PMP_STAT_STATE 3) _ _ _ _ _ (by decide)).trans (Dev.fg_fs_ne e _ _ _ _ _ (by decide))
  case vdrvReturn =>
    intro hst hcause
    refine State.run_eq up (if_pos ⟨?_, ?_⟩)
    · exact (Dev.fg_fs_ne _ _ _ _ _ _ (by decide)).trans hst
    · exact (Dev.fg_fs_ne _ _ _ _ _ _ (by decide)).trans hcause
  case fault => exact fun c h l => Dev.pumpFault_spec (c.isLt.trans (by decide)) rfl

end Sys2Proof.Machine
end

section
/-! SUPPORT. The statement about the secure boot and its records (15). -/
set_option Elab.async false

namespace Sys2Proof.Machine
namespace Dev
section
variable {d : Dev} {keyOk sigOk bodyOk : Bool}

/-! ### Attempts (R384, R386) -/

theorem attemptFail_spec (srcs : List Nat) (code : Nat) : (d.attemptFail srcs code).sys.sources = d.sys.sources.filter (fun k => !srcs.contains k) ∧
    (code < 16 → (d.attemptFail srcs code).fg SYS_BOOT_STAT_FAIL = code) ∧ (d.attemptFail srcs code).fg SYS_BOOT_STAT_SRC = 0 ∧
    (d.attemptFail srcs code).fg SYS_BOOT_STAT_STATE = (if (d.sys.sources.filter fun k => !srcs.contains k).any (· < 2) then 1
      else if (d.sys.sources.filter fun k => !srcs.contains k).contains 2 then 2 else 5) := by
  obtain ⟨l, hl⟩ : ∃ l, (d.sys.sources.filter fun k => !srcs.contains k) = l := ⟨_, rfl⟩
  obtain ⟨e, he⟩ : ∃ e : Dev, { d with sys := { d.sys with sources := l, image := none, written := [], imgAt := 0, imgLen := 0 } } = e := ⟨_, rfl⟩
  obtain ⟨st, hst⟩ : ∃ st, (if l.any (· < 2) then 1 else if l.contains 2 then 2 else 5) = st := ⟨_, rfl⟩
  have hstLt : st < 16 := by
    rw [← hst]
    split
    · decide
    · split <;> decide
  have hfail : d.attemptFail srcs code = ((e.fs SYS_BOOT_STAT_FAIL code).fs SYS_BOOT_STAT_STATE st).fs SYS_BOOT_STAT_SRC 0 := by
    subst hst he hl
    rfl
  rw [hfail, hl, hst]
  refine ⟨?_, fun hcode => ?_, fg_fs _ _ _ _, ?_⟩
  · rw [← he]
    rfl
  · have hwidth : code % 2 ^ SYS_BOOT_STAT_FAIL.len = code := Nat.mod_eq_of_lt (hcode.trans (by decide))
    rw [fg_fs_ne _ _ _ _ _ _ (by decide), fg_fs_ne _ _ _ _ _ _ (by decide), fg_fs, hwidth]
  · rw [fg_fs_ne _ _ _ _ _ _ (by decide), fg_fs]
    exact Nat.mod_eq_of_lt hstLt

/-- A test that answers a fault passes where its condition does not hold and the tests after it pass. -/
theorem ite_eq_zero {c : Prop} [Decidable c] {fault rest : Nat} (hfault : fault ≠ 0) : (if c then fault else rest) = 0 ↔ ¬c ∧ rest = 0 := by
  split <;> simp [*]

/-- An image passes where its header, its key and signature, its version and its body are good. -/
theorem imageFault_eq_zero (h : List Byte) : d.imageFault h keyOk sigOk bodyOk = 0 ↔ magicOk h = true ∧ leAt h 4 4 = 1 ∧ keyOk = true ∧ byteAt h 20 ≤ 3 ∧
    d.sys.revoked.testBit (byteAt h 20) = false ∧ sigOk = true ∧ d.fg SYS_BOOT_STAT_SVN_FUSED ≤ leAt h 8 4 ∧ bodyOk = true ∧ leAt h 16 4 ≤ 8388608 ∧
    leAt h 16 4 % 4 = 0 := by
  unfold imageFault
  rw [ite_eq_zero (by decide), ite_eq_zero (by decide), ite_eq_zero (by decide), ite_eq_zero (by decide), ite_eq_zero (by decide)]
  simp [and_assoc]

/-- Every slot in the order of the attempts is a flash slot left to try. -/
theorem slotOrder_any {hA hB : List Byte} {k : Nat} {l : List Nat} (h : d.slotOrder hA hB = k :: l) : d.sys.sources.any (· < 2) = true := by
  have hsome : (d.sys.sources.filter fun k => k < 2 && magicOk (if k = 0 then hA else hB)) ≠ [] := fun hnone => by
    rw [slotOrder, hnone] at h
    cases h
  obtain ⟨x, hx⟩ := List.exists_mem_of_ne_nil _ hsome
  obtain ⟨hmem, hflash⟩ := List.mem_filter.1 hx
  rw [Bool.and_eq_true] at hflash
  exact List.any_eq_true.2 ⟨x, hmem, hflash.1⟩

end
end Dev

section
variable {d : Dev} {keyOk sigOk bodyOk : Bool}

theorem bootRefTimeoutDev_fails {k : Nat} {l : List Nat} (hsrc : d.sys.sources = k :: l) (hk : k < 2) (hst : d.fg SYS_BOOT_STAT_STATE ≤ 1)
    (href : d.fb CLK_REF_STAT_REF_OK = false) : bootRefTimeoutDev d = d.attemptFail [k] 2 := by
  simp only [bootRefTimeoutDev, hsrc]
  exact if_pos ⟨hst, hk, href⟩

theorem bootSlotDev_tries {hA hB : List Byte} {k : Nat} {l : List Nat} (hst : d.fg SYS_BOOT_STAT_STATE ≤ 1) (href : d.fb CLK_REF_STAT_REF_OK = true)
    (horder : d.slotOrder hA hB = k :: l) : bootSlotDev hA hB keyOk sigOk bodyOk d =
      if d.imageFault (if k = 0 then hA else hB) keyOk sigOk bodyOk = 0 then d.attemptPass k (if k = 0 then hA else hB)
      else d.attemptFail [k] (d.imageFault (if k = 0 then hA else hB) keyOk sigOk bodyOk) := by
  have hready : ¬(1 < d.fg SYS_BOOT_STAT_STATE ∨ d.fb CLK_REF_STAT_REF_OK = false ∨ d.sys.sources.any (· < 2) = false) := by
    rw [href, Dev.slotOrder_any horder]
    rintro (h | h | h)
    · omega
    · cases h
    · cases h
  simp only [bootSlotDev, if_neg hready, horder]

/-! ### Records (R384, R385) -/

section
variable {a : Nat} {words : List W32} (happ : d.applying = true) (hsome : words ≠ []) (hlen : words.length ≤ 16384)
include happ hsome hlen

theorem bootWriteDev_barred (hbar : d.recordBarred a (4 * words.length) = true) : bootWriteDev a words d = d.attemptFail [d.bootSrc] 8 := by
  have hgood : ¬(d.applying = false ∨ words = [] ∨ 16384 < words.length) := by
    rw [happ]
    rintro (h | h | h)
    · cases h
    · exact hsome h
    · omega
  exact (if_neg hgood).trans (if_pos hbar)

/-- A record that writes memory: the bytes are written, and the block of its address is noted. -/
theorem bootWriteDev_memory {e : Dev} (hbar : d.recordBarred a (4 * words.length) = false) (hregs : inRegs a = false) (hcoop : Dev.inCoop a = false)
    (hwrite : d.memWrite a (Dev.wordBytes words) = (.ok, e)) : bootWriteDev a words d =
      { e with sys := { e.sys with written := if e.sys.written.contains (a / 65536) then e.sys.written else e.sys.written ++ [a / 65536] } } := by
  have hgood : ¬(d.applying = false ∨ words = [] ∨ 16384 < words.length) := by
    rw [happ]
    rintro (h | h | h)
    · cases h
    · exact hsome h
    · omega
  have hmem : ¬(inRegs a || Dev.inCoop a) = true := by rw [hregs, hcoop]; decide
  unfold bootWriteDev
  rw [if_neg hgood, hbar, if_neg Bool.false_ne_true]
  dsimp only
  rw [if_neg hmem, hwrite]
  exact if_pos rfl

end

theorem bootWaitDev_reads {a mask value v : Nat} {e : Dev} (happ : d.applying = true) (hbar : d.recordBarred a 4 = false) (hspan : Dev.regSpan a 1 = true)
    (hread : d.cmdRead a = (.ok, v, e)) : bootWaitDev a mask value d = if Nat.land v mask = value then e else e.attemptFail [d.bootSrc] 8 := by
  unfold bootWaitDev
  rw [happ, hbar, hspan, hread]
  simp only [Bool.not_true, Bool.or_self, Bool.false_eq_true, if_false, true_and]

section
variable {img : Image} (happ : d.applying = true) (himg : d.sys.image = some img)
include happ himg

theorem bootEndDev_done {e : Dev} (he : (({ d with sys := { d.sys with running := img, image := none, written := [], imgAt := 0, imgLen := 0 } } : Dev).lose
    0x043C0000 0x04400000).fs SYS_BOOT_STAT_STATE 4 = e) :
    bootEndDev true d = (e.fs SYS_BOOT_STAT_KEY_SLOT img.slot).fs SYS_BOOT_STAT_DEBUG (b2n img.debug) := by
  subst he
  simp only [bootEndDev, himg, happ, Bool.not_true, Bool.false_eq_true, if_false, if_true]

theorem bootEndDev_differs : bootEndDev false d = (d.sys.written.foldl Dev.blockReset d).attemptFail [d.bootSrc] 9 := by
  simp only [bootEndDev, himg, happ, Bool.not_true, Bool.false_eq_true, if_false]

end

/-! ### Commands (R386, R396) -/

theorem bootStatusCmd_reads {c : Cmd} (h : c.payload = []) : bootStatusCmd c d =
    (.reply .ok (d.words [0x20000020, 0x20000010] ++ leBytes 4 d.sys.running.seq ++ leBytes 4 d.sys.running.svn), d) := if_neg (not_not.2 h)

theorem bootImageCmd_passes {c : Cmd} {b h : List Byte} {a : Nat} {e : Dev} (hb : c.payload = b) (hlen : b.length = 4) (ha : leAt b 0 4 = a) (halign : a % 4 = 0)
    (hlow : 0x04000000 ≤ a) (hhigh : a + 320 ≤ 0x043C0000) (hst : d.fg SYS_BOOT_STAT_STATE = 2) (hh : d.rdN a 320 = h)
    (hfits : a + 320 + leAt h 16 4 ≤ 0x043C0000) (hgood : d.imageFault h keyOk sigOk bodyOk = 0) (he : d.attemptPass 2 h = e) :
    bootImageCmd keyOk sigOk bodyOk c d = (.st .ok, { e with sys := { e.sys with imgAt := a, imgLen := 320 + leAt h 16 4 } }) := by
  have hrange : ¬(b.length ≠ 4 ∨ a % 4 ≠ 0 ∨ a < 0x04000000 ∨ 0x043C0000 < a + 320) := by omega
  unfold bootImageCmd
  rw [hb, ha]
  dsimp only
  rw [if_neg hrange, if_neg (not_not.2 hst), hh, decide_eq_true hfits, Bool.and_true, hgood, he]
  exact if_pos rfl

theorem svnAdvanceCmd_host {c : Cmd} {b : List Byte} (hpath : c.path = .host) (hb : c.payload = b) (hlen : b.length = 4)
    (hsvn : leAt b 0 4 = d.sys.running.svn) (hmore : d.fg SYS_BOOT_STAT_SVN_FUSED < leAt b 0 4) :
    svnAdvanceCmd c d = (.st .ok, d.fs SYS_BOOT_STAT_SVN_FUSED (leAt b 0 4)) := by
  have hrange : ¬(b.length ≠ 4 ∨ leAt b 0 4 ≠ d.sys.running.svn ∨ leAt b 0 4 ≤ d.fg SYS_BOOT_STAT_SVN_FUSED) := by omega
  unfold svnAdvanceCmd
  rw [hb]
  dsimp only
  rw [if_neg (not_not.2 hpath), if_neg hrange]

theorem svnAdvanceCmd_session {c : Cmd} (hpath : c.path ≠ .host) : svnAdvanceCmd c d = (.st .auth, d) := if_pos hpath

end

/-- Settles O38: what each attempt, record and command of the boot comes to. -/
theorem secureBoot : Obligations.SecureBoot := by
  unfold Obligations.SecureBoot
  refine fun s p tag keyOk sigOk bodyOk up => ⟨?refTimeout, fun srcs code => Dev.attemptFail_spec srcs code, ?slot, fun h => Dev.imageFault_eq_zero h, ?write, ?barred,
    ?wait, ?done, ?differs, State.run_eq up rfl, fun hc => State.run_answers up hc fun c hb => bootStatusCmd_reads hb, ?image, ?svn, ?svnSession⟩
  case refTimeout => exact fun k l hsrc hk hst href => State.runAll_eq up (bootRefTimeoutDev_fails hsrc hk hst href)
  case slot => exact fun hA hB k l hst href horder => State.run_eq up (bootSlotDev_tries hst href horder)
  case write =>
    intro addr words e happ hsome hlen hbar hregs hcoop hwrite
    refine ⟨_, State.runAll_eq up (bootWriteDev_memory happ hsome hlen hbar hregs hcoop hwrite), rfl, rfl, rfl, ?_⟩
    dsimp only
    split
    · next hin => exact List.contains_iff_mem.1 hin
    · exact List.mem_append_right _ (List.mem_singleton.2 rfl)
  case barred => exact fun addr words happ hsome hlen hbar => State.runAll_eq up (bootWriteDev_barred happ hsome hlen hbar)
  case wait => exact fun addr mask value v e happ hbar hspan hread => State.runAll_eq up (bootWaitDev_reads happ hbar hspan hread)
  case done =>
    intro img happ himg
    obtain ⟨e, he⟩ : ∃ e, (({ s.dev with sys := { s.dev.sys with running := img, image := none, written := [], imgAt := 0, imgLen := 0 } } : Dev).lose
      0x043C0000 0x04400000).fs SYS_BOOT_STAT_STATE 4 = e := ⟨_, rfl⟩
    have hsys : e.sys = { s.dev.sys with running := img, image := none, written := [], imgAt := 0, imgLen := 0 } := he ▸ rfl
    refine ⟨_, State.runAll_eq up (bootEndDev_done happ himg he), congrArg Sys.running hsys, congrArg Sys.image hsys, ?_, ?_⟩
    · rw [Dev.fg_fs_ne _ _ _ _ _ _ (by decide), Dev.fg_fs_ne _ _ _ _ _ _ (by decide), ← he, Dev.fg_fs]
      rfl
    · rw [Dev.fg_fs]
      cases img.debug <;> rfl
  case differs => exact fun img happ himg => State.runAll_eq up (bootEndDev_differs happ himg)
  case image =>
    intro b h a e hc hlen ha halign hlow hhigh hst hh hfits hgood he
    exact State.run_answers up hc fun c hb => bootImageCmd_passes hb hlen ha halign hlow hhigh hst hh hfits hgood he
  case svn =>
    intro b hc hlen hsvn hmore
    exact State.run_answersPath up hc fun c hb hpath _ => svnAdvanceCmd_host hpath hb hlen hsvn hmore
  case svnSession =>
    intro b n hc
    exact State.run_answersPath up hc fun c _ hpath _ => svnAdvanceCmd_session (by rw [hpath]; exact fun h => by cases h)

end Sys2Proof.Machine
end

section
/-! SUPPORT. The statement about the event controller (15). -/
set_option Elab.async false

namespace Sys2Proof.Machine

/-! ### Bits cleared by a mask -/

/-- Taking from a word the bits it has in common with a mask clears these bits. -/
theorem testBit_sub_land (x m i : Nat) : (x - Nat.land x m).testBit i = (x.testBit i && !m.testBit i) := by
  change (x - (x &&& m)).testBit i = _
  obtain ⟨a, ha⟩ : ∃ a, x &&& m = a := ⟨_, rfl⟩
  have hdiv : a / 2 = x / 2 &&& m / 2 := ha ▸ Nat.and_div_two
  have hle : a / 2 ≤ x / 2 := hdiv ▸ Nat.and_le_left
  have hmod : a % 2 = 1 ↔ x % 2 = 1 ∧ m % 2 = 1 := ha ▸ Nat.and_mod_two_eq_one
  rw [ha]
  induction i generalizing x m a with
  | zero =>
    have hbit : (x - a) % 2 = 1 ↔ x % 2 = 1 ∧ ¬m % 2 = 1 := by omega
    simp only [Nat.testBit_zero, hbit, Bool.decide_and, decide_not]
  | succ i ih =>
    have hhalf : (x - a) / 2 = x / 2 - a / 2 := by omega
    rw [Nat.testBit_succ, hhalf, Nat.testBit_succ, Nat.testBit_succ]
    exact ih _ _ _ hdiv.symm (hdiv ▸ Nat.and_div_two) (Nat.div_le_div_right hle) (hdiv ▸ Nat.and_mod_two_eq_one)

namespace Dev
section
variable {d : Dev}

/-! ### The log (R391) -/

theorem fg_logWrite_ne {F : Fld} {n : Nat} (e : Evt) (hw : F.key n ≠ EVT_LOG_PTR_WPTR.key 0) (hcnt : F.key n ≠ EVT_LOG_CFG_LOST_CNT.key 0)
    (hovf : F.key n ≠ EVT_LOG_CFG_CNT_OVF.key 0) : (d.logWrite e).fg F n = d.fg F n := by
  obtain ⟨l, hl⟩ : ∃ l, d.wrN (16 * d.fg EVT_LOG_BASE_BASE + 16 * d.fg EVT_LOG_PTR_WPTR) (d.logRecord e) = l := ⟨_, rfl⟩
  have hregs : l.regs = d.regs := hl ▸ wrN_regs ..
  unfold logWrite
  dsimp only
  rw [hl]
  split
  · exact fg_fcnt_ne d _ _ _ _ _ hcnt hovf
  · exact (fg_fs_ne l _ _ _ _ _ hw).trans (fg_of_regs hregs F n)

theorem logWrite_room {e : Evt} (h : (d.fg EVT_LOG_PTR_WPTR + 1) % d.logSize ≠ d.fg EVT_LOG_PTR_RPTR) {l : Dev}
    (hl : d.wrN (16 * d.fg EVT_LOG_BASE_BASE + 16 * d.fg EVT_LOG_PTR_WPTR) (d.logRecord e) = l) :
    (d.logWrite e).fg EVT_LOG_PTR_WPTR = (d.fg EVT_LOG_PTR_WPTR + 1) % d.logSize % 2 ^ EVT_LOG_PTR_WPTR.len ∧ (d.logWrite e).evt.lost = 0 ∧
      (d.logWrite e).out = l.out := by
  obtain ⟨next, hnext⟩ : ∃ next, (d.fg EVT_LOG_PTR_WPTR + 1) % d.logSize = next := ⟨_, rfl⟩
  rw [hnext] at h ⊢
  unfold logWrite
  dsimp only
  rw [hnext, if_neg h, hl]
  exact ⟨fg_fs l EVT_LOG_PTR_WPTR next 0, rfl, rfl⟩

theorem logRecord_length (e : Evt) : (d.logRecord e).length = 16 := by simp only [logRecord, List.length_append, leBytes_length]

theorem showEvtLine_hst (d : Dev) : d.showEvtLine.hst = d.hst := rfl

/-! ### Arrival (R389, R390) -/

/-- An event that is routed to no output, while no capture is armed: it is pending, and logged where its log bit and the log are on. -/
theorem takeEvent_logged {e : Evt} {f : Dev} (hnum : e.num < 128) (harm : d.fb CEN_TRC_CTRL_ARM = false) (hout : d.fg EVT_CFG_e_OUT e.num = 0)
    (hf : (d.fsBit EVT_PEND_k_PEND (e.num % 32) true (e.num / 32)).showEvtLine = f) :
    d.takeEvent e = if d.fb EVT_CFG_e_LOG e.num && d.fb EVT_LOG_CFG_EN then f.logWrite e else f := by
  have hkeep {F : Fld} {n : Nat} (hirq : F.key n ≠ HST_IRQ_EVT.key 0) (hpend : F.key n ≠ EVT_PEND_k_PEND.key (e.num / 32)) : f.fg F n = d.fg F n :=
    hf ▸ (fg_fs_ne _ _ _ _ _ _ hirq).trans (fg_fs_ne d _ _ _ _ _ hpend)
  have hcfg (F : Fld) (hF : F.base = 0x200F0400 ∧ F.stride = 4 ∧ F.lo < 32) {G : Fld} {m : Nat} (hG : G.key m < 32 * 0x200F0400) :
      F.key e.num ≠ G.key m := by
    obtain ⟨hbase, hstride, -⟩ := hF
    have hkey : F.key e.num = 32 * (0x200F0400 + 4 * e.num) + F.lo := by rw [Fld.key, hbase, hstride]
    omega
  have hpend : EVT_PEND_k_PEND.key (e.num / 32) = 32 * (0x200F0010 + 4 * (e.num / 32)) := rfl
  have hlow : EVT_PEND_k_PEND.key (e.num / 32) < 32 * 0x200F0400 := by omega
  have hlog : f.fb EVT_CFG_e_LOG e.num = d.fb EVT_CFG_e_LOG e.num :=
    fb_of_fg (hkeep (hcfg _ ⟨rfl, rfl, by decide⟩ (by decide)) (hcfg _ ⟨rfl, rfl, by decide⟩ hlow))
  have hen : f.fb EVT_LOG_CFG_EN = d.fb EVT_LOG_CFG_EN := fb_of_fg (hkeep (by decide) (by rw [hpend]; unfold Fld.key EVT_LOG_CFG_EN; dsimp only; omega))
  have harm' : f.fb CEN_TRC_CTRL_ARM = false := (fb_of_fg (hkeep (by decide) (by rw [hpend]; unfold Fld.key CEN_TRC_CTRL_ARM; dsimp only; omega))).trans harm
  have hout' : f.fg EVT_CFG_e_OUT e.num = 0 := (hkeep (hcfg _ ⟨rfl, rfl, by decide⟩ (by decide)) (hcfg _ ⟨rfl, rfl, by decide⟩ hlow)).trans hout
  obtain ⟨g, hg⟩ : ∃ g, (if d.fb EVT_CFG_e_LOG e.num && d.fb EVT_LOG_CFG_EN then f.logWrite e else f) = g := ⟨_, rfl⟩
  have hlogged {F : Fld} {n : Nat} (hw : F.key n ≠ EVT_LOG_PTR_WPTR.key 0) (hcnt : F.key n ≠ EVT_LOG_CFG_LOST_CNT.key 0)
      (hovf : F.key n ≠ EVT_LOG_CFG_CNT_OVF.key 0) : g.fg F n = f.fg F n := by
    rw [← hg]
    split
    · exact fg_logWrite_ne e hw hcnt hovf
    · rfl
  have harmG : g.fb CEN_TRC_CTRL_ARM = false := (fb_of_fg (hlogged (by decide) (by decide) (by decide))).trans harm'
  have houtG : g.fg EVT_CFG_e_OUT e.num = 0 :=
    (hlogged (hcfg _ ⟨rfl, rfl, by decide⟩ (by decide)) (hcfg _ ⟨rfl, rfl, by decide⟩ (by decide)) (hcfg _ ⟨rfl, rfl, by decide⟩ (by decide))).trans hout'
  have hnone : bitsOf 4 0 = [] := by decide
  unfold takeEvent
  simp only [hf, hlog, hen, hg, houtG, hnone, List.foldl_nil, harmG, Bool.false_and, Bool.false_eq_true, if_false]

end
end Dev

section
variable {d : Dev}

/-! ### The output pins' pulses (R392) -/

theorem pulseStartDev_due {n : Fin 4} {due : Nat} {l : List Nat} (hwait : (vget d.evt.out n).wait = due :: l) (hbusy : (vget d.evt.out n).busy = false)
    (hlow : (vget d.evt.out n).lowUntil ≤ d.clk.ticks) (hdue : due ≤ d.clk.ticks) {e : Dev}
    (he : (if due < d.clk.ticks then d.fs EVT_OUT_n_CFG_LATE 1 n else d) = e) : pulseStartDev n d =
      { e with evt := { e.evt with out := vset e.evt.out n { vget d.evt.out n with busy := true, rose := d.clk.ticks, wait := l } } } ∧
      e.evt = d.evt ∧ e.clk = d.clk := by
  have hgo : ¬((vget d.evt.out n).busy || decide (d.clk.ticks < (vget d.evt.out n).lowUntil) || decide (d.clk.ticks < due)) = true := by
    rw [hbusy, decide_eq_false (Nat.not_lt.2 hlow), decide_eq_false (Nat.not_lt.2 hdue)]
    decide
  have hevt : e.evt = d.evt ∧ e.clk = d.clk := by
    rw [← he]
    split <;> exact ⟨rfl, rfl⟩
  refine ⟨?_, hevt⟩
  simp only [pulseStartDev, hwait, if_neg hgo, he, hevt.2]

/-! ### Fault classes (R394) -/

/-- `SYS_FCLS_k` in the register map. -/
def faultClassReg : Reg := ⟨0x20000100, 0x4, 0, 11, [⟨SYS_FCLS_k_LIMIT, .RW, .nz⟩, ⟨SYS_FCLS_k_WINDOW, .RW, (.rng 1 60000)⟩]⟩

theorem findReg_faultClass (k : Fin 11) : findReg (SYS_FCLS_k_LIMIT.at k) = some (faultClassReg, k.val) := by
  fin_cases k <;> rfl

theorem faultClassReg_rw : ∀ s ∈ faultClassReg.flds, s.acc = .RW := by simp [faultClassReg]

theorem faultClassWrite_stores {s : State} {a : Acc} {k : Fin 11} {val : W32} (up : s.up) (hok : s.dev.accepts a (SYS_FCLS_k_LIMIT.at k) val.toNat) :
    ∃ e : Dev, exec (.faultClassWrite a k val) s = .next (s.to (e.clearClass k)) ∧ e.fg SYS_FCLS_k_LIMIT k = SYS_FCLS_k_LIMIT.of val.toNat ∧
      e.fg SYS_FCLS_k_WINDOW k = SYS_FCLS_k_WINDOW.of val.toNat := by
  have haddr : SYS_FCLS_k_LIMIT.at k = 0x20000100 + 4 * k.val := rfl
  have hlt := k.isLt
  obtain ⟨e, he⟩ : ∃ e, s.dev.storeWord faultClassReg k val.toNat = e := ⟨_, rfl⟩
  have hstored {f : FldSpec} (hf : f ∈ faultClassReg.flds) : e.fg f.fld k = f.fld.of val.toNat :=
    he ▸ Dev.storeWord_of faultClassReg_rw (findReg_faultClass k) (by decide) hf _ _
  have hwrite : (s.dev.regWrite a (SYS_FCLS_k_LIMIT.at k) val.toNat).2 = e.clearClass k :=
    he ▸ Dev.regWrite_accepted (findReg_faultClass k) (by omega) (by omega) (by omega) rfl rfl hok
  exact ⟨e, State.run_wrIf up rfl hwrite, hstored (.head _), hstored (.tail _ (.head _))⟩

/-! ### Commands (R396) -/

theorem evtReadCmd_reads {c : Cmd} {b : List Byte} {m : Nat} (hb : c.payload = b) (hlen : b.length = 2) (hlow : 1 ≤ leAt b 0 2) (hhigh : leAt b 0 2 ≤ 1024)
    (hm : min (leAt b 0 2) ((d.fg EVT_LOG_PTR_WPTR + d.logSize - d.fg EVT_LOG_PTR_RPTR) % d.logSize) = m) : evtReadCmd c d =
      (.reply .ok ((List.range m).flatMap fun i => d.rdN (16 * d.fg EVT_LOG_BASE_BASE + 16 * ((d.fg EVT_LOG_PTR_RPTR + i) % d.logSize)) 16),
        d.fs EVT_LOG_PTR_RPTR ((d.fg EVT_LOG_PTR_RPTR + m) % d.logSize)) := by
  have hgood : ¬(b.length ≠ 2 ∨ leAt b 0 2 = 0 ∨ 1024 < leAt b 0 2) := by omega
  simp only [evtReadCmd, hb, if_neg hgood, hm]

/-- The bits that a payload's word names are pending no longer. -/
def clearPend (b : List Byte) (d : Dev) (k : Nat) : Dev :=
  d.fs EVT_PEND_k_PEND (d.fg EVT_PEND_k_PEND k - Nat.land (d.fg EVT_PEND_k_PEND k) (leAt b (4 * k) 4)) k

theorem evtClearCmd_clears {c : Cmd} {b : List Byte} (hb : c.payload = b) (hlen : b.length = 16) :
    evtClearCmd c d = (.st .ok, ((List.range 4).foldl (clearPend b) d).showEvtLine) := by
  unfold evtClearCmd
  rw [hb, if_neg (not_not.2 hlen)]
  rfl

theorem foldl_clearPend_hst (b : List Byte) (l : List Nat) (d : Dev) : (l.foldl (clearPend b) d).hst = d.hst := by
  induction l generalizing d with
  | nil => rfl
  | cons k t ih => exact ih _

theorem pend_key_ne {j k : Nat} (h : j ≠ k) : EVT_PEND_k_PEND.key j ≠ EVT_PEND_k_PEND.key k := by
  have hj : EVT_PEND_k_PEND.key j = 32 * (0x200F0010 + 4 * j) := rfl
  have hk : EVT_PEND_k_PEND.key k = 32 * (0x200F0010 + 4 * k) := rfl
  omega

/-- Words of other indices leave a pending word alone. -/
theorem fg_foldl_clearPend_ne {b : List Byte} {l : List Nat} {k : Nat} (hk : k ∉ l) (d : Dev) :
    (l.foldl (clearPend b) d).fg EVT_PEND_k_PEND k = d.fg EVT_PEND_k_PEND k := by
  induction l generalizing d with
  | nil => rfl
  | cons j t ih =>
    have hne : k ≠ j := fun h => hk (h ▸ .head _)
    exact (ih (fun h => hk (.tail _ h)) _).trans (Dev.fg_fs_ne _ _ _ _ _ _ (pend_key_ne hne))

/-- Each pending word that is named loses the bits its word names. -/
theorem fg_foldl_clearPend {b : List Byte} {l : List Nat} (hl : l.Nodup) {k : Nat} (hk : k ∈ l) (d : Dev) : (l.foldl (clearPend b) d).fg EVT_PEND_k_PEND k =
    (d.fg EVT_PEND_k_PEND k - Nat.land (d.fg EVT_PEND_k_PEND k) (leAt b (4 * k) 4)) % 2 ^ EVT_PEND_k_PEND.len := by
  induction l generalizing d with
  | nil => cases hk
  | cons j t ih =>
    obtain ⟨hj, ht⟩ := List.nodup_cons.1 hl
    rcases List.mem_cons.1 hk with rfl | hk
    · exact (fg_foldl_clearPend_ne hj _).trans (Dev.fg_fs ..)
    · have hne : k ≠ j := fun h => hj (h ▸ hk)
      have hkeep : (clearPend b d j).fg EVT_PEND_k_PEND k = d.fg EVT_PEND_k_PEND k := Dev.fg_fs_ne _ _ _ _ _ _ (pend_key_ne hne)
      rw [List.foldl_cons, ih ht hk, hkeep]

theorem fg_evtClear {b : List Byte} (k : Fin 4) (i : Fin 32) (p : Path) (tag : Nat) :
    (((List.range 4).foldl (clearPend b) d).showEvtLine.complete p tag .ok []).fbit EVT_PEND_k_PEND i k =
      (d.fbit EVT_PEND_k_PEND i k && !(leAt b (4 * k) 4).testBit i) := by
  have hkey : EVT_PEND_k_PEND.key k = 32 * (0x200F0010 + 4 * k.val) := rfl
  have hirq : EVT_PEND_k_PEND.key k ≠ HST_IRQ_EVT.key 0 := by
    have h : HST_IRQ_EVT.key 0 < 32 * 0x200F0010 := by decide
    omega
  rw [Dev.fbit, Dev.fg_complete _ (hstStat_outst_key_ne (by decide)), Dev.showEvtLine, Dev.fg_fs_ne _ _ _ _ _ _ hirq,
    fg_foldl_clearPend List.nodup_range (List.mem_range.2 k.isLt), Nat.testBit_mod_two_pow, decide_eq_true (show i.val < EVT_PEND_k_PEND.len from i.isLt),
    Bool.true_and, testBit_sub_land, Dev.fbit]

theorem evtClear_spec {s : State} {p : Path} {tag : Byte} {b : List Byte} (up : s.up) (hc : s.dev.started p tag 0x052 b) (hlen : b.length = 16) :
    ∃ t, exec (.evtClear p tag) s = .next t ∧ s.dev.completed t.dev p tag .ok [] ∧
      ∀ (k : Fin 4) (i : Fin 32), t.dev.fbit EVT_PEND_k_PEND i k = (s.dev.fbit EVT_PEND_k_PEND i k && !(leAt b (4 * k) 4).testBit i) := by
  obtain ⟨e, he⟩ : ∃ e, ((List.range 4).foldl (clearPend b) s.dev).showEvtLine = e := ⟨_, rfl⟩
  have hhst : e.hst = s.dev.hst := by
    rw [← he, Dev.showEvtLine_hst, foldl_clearPend_hst]
  have hrow : exec (.evtClear p tag) s = .next (s.answer e p tag .ok []) := State.run_answers up hc fun c hb => he ▸ evtClearCmd_clears hb hlen
  exact ⟨_, hrow, Dev.complete_completed hc (congrArg Hst.outst hhst) .ok [], fun k i => he ▸ fg_evtClear k i p tag.toNat⟩

end

/-- Settles O39: arrival, the log, the pulses, the fault classes and the commands. -/
theorem eventController : Obligations.EventController := by
  unfold Obligations.EventController
  refine fun s p tag up => ⟨?arrival, ?noEvent, ?log, ?pulse, ?early, ?late, fun a k val hok => faultClassWrite_stores up hok, ?read,
    fun hc => State.run_capsCmd _ up hc, ?clear⟩
  case arrival =>
    intro e l f hl hnum harm hout hf
    refine State.run_eq up ?_
    unfold eventArrivalDev
    rw [hl]
    exact Dev.takeEvent_logged (d := { s.dev with evt := { s.dev.evt with inflight := l } }) hnum harm hout hf
  case noEvent =>
    intro hnone
    refine State.run_eq up ?_
    unfold eventArrivalDev
    rw [hnone]
  case log =>
    intro e hroom
    obtain ⟨hptr, hlost, hout⟩ := Dev.logWrite_room hroom (e := e) rfl
    exact ⟨hptr, hlost, hout, Dev.logRecord_length e⟩
  case pulse =>
    intro n due l hwait hbusy hlow hdue
    obtain ⟨e, he⟩ : ∃ e, (if due < s.dev.clk.ticks then s.dev.fs EVT_OUT_n_CFG_LATE 1 n else s.dev) = e := ⟨_, rfl⟩
    obtain ⟨hrow, -, -⟩ := pulseStartDev_due hwait hbusy hlow hdue he
    refine ⟨_, State.run_eq up hrow, vget_vset_same _ n _ n.isLt, ?_⟩
    have hlate : e.fg EVT_OUT_n_CFG_LATE n = if due < s.dev.clk.ticks then 1 else s.dev.fg EVT_OUT_n_CFG_LATE n := by
      rw [← he]
      split
      · rw [Dev.fg_fs]
        rfl
      · rfl
    exact hlate
  case early =>
    intro n hearly
    refine State.run_eq up (if_neg fun h => ?_)
    rw [Bool.and_eq_true, decide_eq_true_eq] at h
    omega
  case late => exact fun n hbusy hdue => State.run_eq up (if_pos (by rw [hbusy, decide_eq_true hdue]; rfl))
  case read => exact fun b m hc hlen hlow hhigh hm => State.run_answers up hc fun c hb => evtReadCmd_reads hb hlen hlow hhigh hm
  case clear =>
    exact fun b hc hlen => evtClear_spec up hc hlen

end Sys2Proof.Machine
end

section
/-! SUPPORT. The statement about warm resets and the watchdog (15). -/
set_option Elab.async false

namespace Sys2Proof.Machine
namespace Dev

/-! ### A request leaves the legs as they are (R379) -/

theorem wrMN_pwm (d : Dev) (a : Nat) (l : List Byte) : (d.wrMN a l).pwm = d.pwm := by
  obtain ⟨x, hx⟩ := wrMN_eq l a d
  rw [hx]

theorem freshBytes_pwm (d : Dev) (n : Nat) : (d.freshBytes n).2.pwm = d.pwm := by
  obtain ⟨x, hx⟩ := freshBytes_eq n d
  rw [hx]

theorem talLog_pwm (d : Dev) (ty fl a b c dur extra : Nat) : (d.talLog ty fl a b c dur extra).pwm = d.pwm := by
  obtain ⟨x, hx⟩ := d.talLog_eq ty fl a b c dur extra
  rw [hx]
  rfl

theorem talWriteFail_pwm (d : Dev) (off : Nat) : (d.talWriteFail off).pwm = d.pwm := by
  rw [talWriteFail, talLog_pwm, raise_pwm, fs_pwm]

theorem talFailed_pwm (d : Dev) (off n : Nat) : (d.talFailed off n).pwm = d.pwm := by
  obtain ⟨e, he⟩ : ∃ e, ((d.freshBytes n).2.wrMN off (d.freshBytes n).1).talWriteFail off = e := ⟨_, rfl⟩
  have hpwm : e.pwm = d.pwm := by rw [← he, talWriteFail_pwm, wrMN_pwm, freshBytes_pwm]
  have hfail : d.talFailed off n =
      let f : Dev := { e with tal := { e.tal with occ := (e.classHit 8 e.tal.occ).1 } }
      if (e.classHit 8 e.tal.occ).2 then f.fs TAL_STAT_LEDGER_LATCH 1 else f := by
    rw [← he]
    rfl
  rw [hfail, ← hpwm]
  dsimp only
  split <;> rfl

theorem talSave_pwm (d : Dev) (flags : Nat) (ok : Bool) : (d.talSave flags ok).pwm = d.pwm := by
  unfold talSave
  dsimp only
  split
  · rw [wrMN_pwm, fs_pwm]
  · rw [talFailed_pwm, fs_pwm]

theorem talFlush_pwm (d : Dev) (ok : Bool) : (d.talFlush ok).pwm = d.pwm := by
  have hsaved : (d.flushSaved ok).pwm = d.pwm := talSave_pwm ..
  cases hr : d.talRuns with
  | false => rw [talFlush_idle hr]
  | true =>
    cases hf : d.tal.flushed with
    | false => rw [talFlush_first hr hf, raise_pwm, talLog_pwm, hsaved]
    | true => rw [talFlush_again hr hf, hsaved]

theorem stopStamp_pwm (d : Dev) : d.stopStamp.pwm = d.pwm := by
  unfold stopStamp
  dsimp only
  split
  · rfl
  · simp only [fs_pwm]

/-- What is done of a request before the phase changes: Tallyman's flush, the DRAM in self-refresh, the stop stamp. -/
theorem warmRequest_pwm (d : Dev) (c : Nat) : (d.warmRequest c).pwm = d.pwm := by
  obtain ⟨e, he⟩ : ∃ e, d.talVerify.2.talFlush d.talVerify.1 = e := ⟨_, rfl⟩
  have hpwm : e.pwm = d.pwm := by
    rw [← he, talFlush_pwm]
    rfl
  have hrow : (d.warmRequest c).pwm =
      (if e.fb DRC_STAT_READY then { e with drc := { e.drc with selfRefresh := true } } else e : Dev).stopStamp.pwm := by
    rw [← he]
    rfl
  rw [hrow, stopStamp_pwm, ← hpwm]
  split <;> rfl

/-! ### Writes of `SYS` that request a reset or kick the watchdog (R381, R382) -/

/-- `SYS_RST_CTRL` in the register map. -/
def rstCtrlReg : Reg := ⟨0x20000014, 0x0, 0, 1, [⟨SYS_RST_CTRL_KEY, .WO, .any⟩, ⟨SYS_RST_CTRL_FORCE, .WO, .any⟩, ⟨SYS_RST_CTRL_RST, .WO, .any⟩]⟩

theorem findReg_rstCtrl : findReg (SYS_RST_CTRL_RST.at 0) = some (rstCtrlReg, 0) := rfl

/-- `SYS_WDT_KICK` in the register map. -/
def wdtKickReg : Reg := ⟨0x20000034, 0x0, 0, 1, [⟨SYS_WDT_KICK_KEY, .WO, .any⟩]⟩

theorem findReg_wdtKick : findReg (SYS_WDT_KICK_KEY.at 0) = some (wdtKickReg, 0) := rfl

/-- A written word's fields are what its reached bits hold. -/
theorem rstCtrl_of_reached {f : FldSpec} (hf : f ∈ rstCtrlReg.flds) (w : Nat) : f.fld.of (reached rstCtrlReg w) = f.fld.of w := by
  have hreach : f.reachable = true := by
    rcases List.mem_cons.1 hf with rfl | hf
    · rfl
    · rcases List.mem_cons.1 hf with rfl | hf
      · rfl
      · rw [List.mem_singleton.1 hf]
        rfl
  exact of_reached (r := rstCtrlReg) (by decide) hf hreach w

theorem rstAsked_reached (w : Nat) : rstAsked (reached rstCtrlReg w) = rstAsked w := by
  have hkey : SYS_RST_CTRL_KEY.of (reached rstCtrlReg w) = SYS_RST_CTRL_KEY.of w := rstCtrl_of_reached (.head _) w
  have hrst : SYS_RST_CTRL_RST.of (reached rstCtrlReg w) = SYS_RST_CTRL_RST.of w := rstCtrl_of_reached (.tail _ (.tail _ (.head _))) w
  rw [rstAsked, hkey, hrst, rstAsked]

theorem afterReg_rstCtrl (d d0 : Dev) (n w : Nat) : d.afterReg d0 0x20000014 n w = if rstAsked w then d.warmRequest 2 else d := by
  have hsys : d.afterReg d0 0x20000014 n w = d.afterSYS d0 0x20000014 n w := rfl
  rw [hsys, afterSYS, if_neg (by decide), if_neg (by decide), if_neg (by decide), if_pos rfl]

theorem stateReg_rstCtrl (d : Dev) (n w : Nat) : d.stateReg 0x20000014 n w = (rstAsked w && SYS_RST_CTRL_FORCE.of w == 0 && d.legEnabled) := by
  have hsys : d.stateReg 0x20000014 n w = d.stateSYS 0x20000014 n w := rfl
  rw [hsys, stateSYS, if_neg (by decide), if_neg (by decide), if_pos rfl]

theorem afterReg_kick (d d0 : Dev) (n w : Nat) : d.afterReg d0 0x20000034 n w =
    if SYS_WDT_KICK_KEY.of w = 0xC3 ∧ d.fb SYS_WDT_EN then { d with sys := { d.sys with wdtFrom := d.clk.ticks } } else d := by
  have hsys : d.afterReg d0 0x20000034 n w = d.afterSYS d0 0x20000034 n w := rfl
  rw [hsys, afterSYS, if_neg (by decide), if_neg (by decide), if_pos rfl]

theorem regWrite_rstAsked {d : Dev} {a : Acc} {w : Nat} (hask : rstAsked w = true) (hok : d.accepts a (SYS_RST_CTRL_RST.at 0) w) :
    (d.regWrite a (SYS_RST_CTRL_RST.at 0) w).2 = d.warmRequest 2 := by
  have hstored : d.storeWord rstCtrlReg 0 w = d := rfl
  rw [regWrite_accepted findReg_rstCtrl rfl (by decide) (by decide) rfl rfl hok, hstored]
  exact (afterReg_rstCtrl ..).trans (if_pos ((rstAsked_reached w).trans hask))

/-- A request without `FORCE` while a leg is enabled is refused. -/
theorem regWrite_rstRefused {d : Dev} {a : Acc} {w : Nat} (hask : rstAsked w = true) (hforce : SYS_RST_CTRL_FORCE.of w = 0) (hleg : d.legEnabled = true) :
    (d.regWrite a (SYS_RST_CTRL_RST.at 0) w).2 = d := by
  have hforce' : SYS_RST_CTRL_FORCE.of (reached rstCtrlReg w) = 0 := (rstCtrl_of_reached (.tail _ (.head _)) w).trans hforce
  have hstate : d.stateReg rstCtrlReg.base 0 (reached rstCtrlReg w) = true := by
    refine (stateReg_rstCtrl ..).trans ?_
    rw [rstAsked_reached, hask, hforce', hleg]
    rfl
  rw [regWrite_reg findReg_rstCtrl rfl rfl (.inl (by decide)) rfl rfl]
  exact writeReg_state hstate (by decide)

theorem regWrite_kick {d : Dev} {a : Acc} {w : Nat} (hkey : SYS_WDT_KICK_KEY.of w = 0xC3) (hen : d.fb SYS_WDT_EN = true)
    (hok : d.accepts a (SYS_WDT_KICK_KEY.at 0) w) :
    (d.regWrite a (SYS_WDT_KICK_KEY.at 0) w).2 = { d with sys := { d.sys with wdtFrom := d.clk.ticks } } := by
  have hkey' : SYS_WDT_KICK_KEY.of (reached wdtKickReg w) = 0xC3 := (of_reached (r := wdtKickReg) (by decide) (.head _) rfl w).trans hkey
  have hstored : d.storeWord wdtKickReg 0 w = d := rfl
  rw [regWrite_accepted findReg_wdtKick rfl (by decide) (by decide) rfl rfl hok, hstored]
  exact (afterReg_kick ..).trans (if_pos ⟨hkey', hen⟩)

/-- A reset leaves the level of `TEST_EN` as it is. -/
theorem devReset_testEn (w : Bool) (d : Dev) : (d.devReset w).sys.testEn = d.sys.testEn := by
  unfold devReset
  dsimp only
  split <;> rfl

/-- What a reset makes of each block's own state (R380). -/
theorem devReset_parts (w : Bool) (d : Dev) : (d.devReset w).pwm = {} ∧ (d.devReset w).mram = d.mram ∧ (d.devReset w).aon = d.aon ∧ (d.devReset w).hst = {} ∧
    (d.devReset w).saf.storeA = d.saf.storeA ∧ (d.devReset w).saf.cmd = 0 := by
  unfold devReset
  dsimp only
  split <;> exact ⟨rfl, rfl, rfl, rfl, rfl, rfl⟩

/-- A warm reset leaves Cooper's programs. -/
theorem devReset_imem (d : Dev) : (d.devReset true).cen.imem = d.cen.imem := by
  unfold devReset
  dsimp only
  split <;> rfl

theorem findCmd_sendReply (d : Dev) (p q : Path) (tag : Nat) (pkt : List Byte) : (d.sendReply q pkt).findCmd p tag = d.findCmd p tag := by
  cases q with
  | host => rfl
  | sess n => exact congrArg (fun h => h.outst.find? fun c => c.path == p && c.tag == tag) (sessSend_parts ..).2

theorem dropCmd_sys (d : Dev) (p : Path) (tag : Nat) : (d.dropCmd p tag).sys = d.sys := rfl

end Dev

section
variable {d : Dev}

/-! ### The internal reset (R379, R380) -/

/-- The device as the internal reset of a warm reset ends, with its cause. -/
theorem warmAssertDev_warm {e : Dev} (hphase : d.sys.phase = .warm) (he : ((d.devReset true).fs (if d.sys.warmCause = 1 then SYS_RST_CAUSE_PIN
    else if d.sys.warmCause = 2 then SYS_RST_CAUSE_SW else SYS_RST_CAUSE_WDT) 1).fs SYS_RST_CAUSE_LAST d.sys.warmCause = e) :
    warmAssertDev d = if d.sys.testEn then { e with sys := { e.sys with phase := .hold } } else e.fresh.2.comeUp (e.fresh.1 % 4) := by
  have htest : e.sys.testEn = d.sys.testEn := he ▸ Dev.devReset_testEn true d
  rw [← htest, ← he]
  exact if_neg fun h => h hphase

theorem selSources_fin (sel : Fin 4) : Dev.selSources sel.val = if sel = 1 then [2] else if sel = 2 then [0, 1, 2] else [0, 1] := by
  fin_cases sel <;> rfl

/-! ### The watchdog (R381) -/

theorem watchdogExpiryDev_due {e : Dev} (hen : d.fb SYS_WDT_EN = true)
    (hdue : d.sys.wdtFrom * 103 + d.fg SYS_WDT_TIMEOUT * 800000 * 100 ≤ d.clk.ticks * 103)
    (he : ({ d with sys := { d.sys with wdtFrom := d.clk.ticks } } : Dev).raise 127 = e) : watchdogExpiryDev d =
      if d.fg SYS_WDT_ACTION = 0 then e else if d.fg SYS_WDT_ACTION = 1 then (e.softTrip 0xFFFFFF).safEval else d.warmRequest 3 := by
  have hwdt : d.wdtDue = true := by
    rw [Dev.wdtDue, hen, Bool.true_and]
    exact decide_eq_true hdue
  obtain ⟨act, hact⟩ : ∃ act, d.fg SYS_WDT_ACTION = act := ⟨_, rfl⟩
  simp only [watchdogExpiryDev, hwdt, hact, he, Bool.not_true, Bool.false_eq_true, if_false]
  split
  · rw [if_pos rfl]
  · rw [if_neg (by decide), if_pos rfl]
  · next h0 h1 => rw [if_neg h0, if_neg h1]

/-! ### `SYS_RESET` (R382) -/

section
variable {c : Cmd}

theorem sysResetCmd_asks {f : Byte} (hf : c.payload = [f]) (hle : f.toNat ≤ 1) (hgo : f = 1 ∨ d.legEnabled = false) :
    sysResetCmd c d = (.st .ok, { d with sys := { d.sys with rstOwed := some (c.path, c.tag) } }) := by
  have hrange : ¬([f].length ≠ 1 ∨ 1 < byteAt [f] 0) := by
    rw [byteAt_single]
    rintro (h | h)
    · exact h rfl
    · omega
  have hfree : ¬(d.legEnabled && byteAt [f] 0 == 0) = true := by
    rw [byteAt_single]
    rcases hgo with rfl | hleg
    · simp
    · simp [hleg]
  unfold sysResetCmd
  rw [hf, if_neg hrange, if_neg hfree]

theorem sysResetCmd_refused (hf : c.payload = [0]) (hleg : d.legEnabled = true) : sysResetCmd c d = (.st .state, d) := by
  have hrange : ¬([(0 : Byte)].length ≠ 1 ∨ 1 < byteAt [(0 : Byte)] 0) := by decide
  unfold sysResetCmd
  rw [hf, if_neg hrange, hleg]
  rfl

end

/-- A started command stands. -/
theorem startedCmd_found {p : Path} {tag op : Nat} {c : Cmd} (h : d.startedCmd p tag op = some c) : ∃ x, d.findCmd p tag = some x := by
  rw [Dev.startedCmd] at h
  split at h
  · next x hx => exact ⟨x, hx⟩
  · cases h

/-- Where the command still stands, no reset follows. -/
theorem resetFollows_stands {p : Path} {tag : Nat} {c : Cmd} (h : d.findCmd p tag = some c) : d.resetFollows p tag = d :=
  if_neg fun hgone => by
    rw [h] at hgone
    cases hgone.2

theorem resetFollows_over {p : Path} {tag : Nat} (howed : d.sys.rstOwed = some (p, tag)) (h : d.findCmd p tag = none) :
    d.resetFollows p tag = ({ d with sys := { d.sys with rstOwed := none } } : Dev).warmRequest 2 := if_pos ⟨howed, by rw [h]; rfl⟩

/-- A command whose reply waits still stands. -/
theorem findCmd_complete_waits {p : Path} {tag : Nat} {st : St} {b : List Byte} {c : Cmd} (hc : d.findCmd p tag = some c)
    (hreply : ¬(st = .ok ∧ d.noReply p tag = true)) : ∃ x, (d.complete p tag st b).findCmd p tag = some x := by
  rw [Dev.complete, if_neg hreply, Dev.findCmd_updCmd (f := fun c => { c with ran := true, done := some (st, b) }) d p tag fun _ => ⟨rfl, rfl⟩, hc]
  exact ⟨_, rfl⟩

end

section
variable {s : State} {p : Path} {tag : Byte}

/-- `SYS_RESET` is accepted: its reply waits, or, where `NOREPLY` suppresses the reply, the request follows at once. -/
theorem sysReset_asks {f : Byte} (up : s.up) (hc : s.dev.started p tag 0x040 [f]) (hle : f.toNat ≤ 1) (hgo : f = 1 ∨ s.dev.legEnabled = false) :
    (s.dev.noReply p tag.toNat = false → exec (.sysReset p tag) s =
      .next (s.toAll (({ s.dev with sys := { s.dev.sys with rstOwed := some (p, tag.toNat) } } : Dev).complete p tag.toNat .ok []))) ∧
    (s.dev.noReply p tag.toNat = true → exec (.sysReset p tag) s =
      .next (s.toAll (({ s.dev.dropCmd p tag.toNat with sys := { s.dev.sys with rstOwed := none } } : Dev).warmRequest 2))) := by
  obtain ⟨c, hstarted, hpayload⟩ := hc
  obtain ⟨hpath, htag⟩ := Prod.mk.inj (Dev.startedCmd_key hstarted)
  obtain ⟨e, he⟩ : ∃ e : Dev, { s.dev with sys := { s.dev.sys with rstOwed := some (p, tag.toNat) } } = e := ⟨_, rfl⟩
  have hno : e.noReply p tag.toNat = s.dev.noReply p tag.toNat := he ▸ rfl
  have hfind : e.findCmd p tag.toNat = s.dev.findCmd p tag.toNat := he ▸ rfl
  have hrun : s.dev.runCmd 0x040 p tag sysResetCmd = e.complete p tag.toNat .ok [] := by
    refine Dev.runCmd_reply hstarted ?_
    rw [sysResetCmd_asks hpayload hle hgo, hpath, htag, he]
    rfl
  have hrow : exec (.sysReset p tag) s = .next (s.toAll ((e.complete p tag.toNat .ok []).resetFollows p tag.toNat)) :=
    State.runAll_eq up (congrArg (fun d => Dev.resetFollows d p tag.toNat) hrun)
  refine ⟨fun hreply => ?_, fun hnone => ?_⟩
  · obtain ⟨x, hx⟩ : ∃ x, e.findCmd p tag.toNat = some x := by
      rw [hfind]
      exact startedCmd_found hstarted
    have hwaits : ¬(St.ok = St.ok ∧ e.noReply p tag.toNat = true) := fun h => by
      rw [hno, hreply] at h
      cases h.2
    obtain ⟨y, hy⟩ := findCmd_complete_waits (b := []) hx hwaits
    rw [hrow, resetFollows_stands hy, ← he]
  · have hdrop : e.complete p tag.toNat .ok [] = e.dropCmd p tag.toNat := if_pos ⟨rfl, hno.trans hnone⟩
    have howed : (e.dropCmd p tag.toNat).sys.rstOwed = some (p, tag.toNat) := he ▸ rfl
    rw [hrow, hdrop, resetFollows_over howed (Dev.findCmd_dropCmd ..), ← he]
    rfl

theorem sysReset_refused (up : s.up) (hc : s.dev.started p tag 0x040 [0]) (hleg : s.dev.legEnabled = true) :
    exec (.sysReset p tag) s = .next (s.toAll (s.dev.complete p tag.toNat .state [])) := by
  obtain ⟨c, hstarted, hpayload⟩ := hc
  obtain ⟨x, hx⟩ := startedCmd_found hstarted
  obtain ⟨y, hy⟩ := findCmd_complete_waits (st := .state) (b := []) hx fun h => by cases h.1
  have hrun : s.dev.runCmd 0x040 p tag sysResetCmd = s.dev.complete p tag.toNat .state [] :=
    Dev.runCmd_reply hstarted (sysResetCmd_refused hpayload hleg)
  exact State.runAll_eq up ((congrArg (fun d => Dev.resetFollows d p tag.toNat) hrun).trans (resetFollows_stands hy))

/-- The reply of a `SYS_RESET` leaves: the request follows (R382). -/
theorem replyRelease_resets {c : Cmd} {b : List Byte} {e : Dev} (up : s.up) (hc : s.dev.findCmd p tag.toNat = some c) (hdone : c.done = some (.ok, b))
    (hver : s.dev.pathVer p ≠ 1) (howed : s.dev.sys.rstOwed = some (p, tag.toNat)) (he : s.dev.releaseReply p tag.toNat = e) :
    exec (.replyRelease p tag) s = .next (s.toAll (({ e with sys := { e.sys with rstOwed := none } } : Dev).warmRequest 2)) := by
  have hpkt := Dev.releaseReply_leaves hc hdone fun h => absurd h hver
  have hsys : e.sys = s.dev.sys := by rw [← he, hpkt, Dev.sendReply_sys, Dev.dropCmd_sys]
  have hgone : e.findCmd p tag.toNat = none := by
    rw [← he, hpkt, Dev.findCmd_sendReply]
    exact Dev.findCmd_dropCmd ..
  refine State.runAll_eq up ?_
  unfold replyReleaseDev
  rw [he]
  exact resetFollows_over ((congrArg Sys.rstOwed hsys).trans howed) hgone

end

/-- Settles O37: the sources of a warm reset, the watchdog, and what the reset leaves. -/
theorem resetSources : Obligations.ResetSources := by
  unfold Obligations.ResetSources
  refine fun s a p tag => ⟨fun up => State.runAll_up up _, fun c => ⟨rfl, rfl, Dev.warmRequest_pwm _ c⟩, ?asked, ?refused, ?internal, ?left, ?kick, ?watchdog,
    fun f up hc hle hgo => sysReset_asks up hc hle hgo, fun up hc hleg => sysReset_refused up hc hleg,
    fun c b e up hc hdone hver howed he => replyRelease_resets up hc hdone hver howed he⟩
  case asked => exact fun val up hask _ hok => State.runAll_eq up ((if_pos rfl).trans (Dev.regWrite_rstAsked hask hok))
  case refused => exact fun val up hask hforce hleg => State.runAll_eq up ((if_pos rfl).trans (Dev.regWrite_rstRefused hask hforce hleg))
  case internal =>
    intro e hphase he
    have hrow := warmAssertDev_warm hphase he
    refine ⟨fun htest => ?_, fun htest => ?_⟩
    · rw [htest, if_neg Bool.false_ne_true] at hrow
      obtain ⟨hsys, -⟩ := e.fresh.2.comeUp_spec (e.fresh.1 % 4)
      refine ⟨⟨e.fresh.1 % 4, Nat.mod_lt _ (by decide)⟩, _, rfl, ?_, congrArg Sys.phase hsys, (congrArg Sys.sources hsys).trans ?_⟩
      · exact (State.runRst_next s warmAssertDev).trans (congrArg (fun e => Host.Outcome.next (s.toAll e)) hrow)
      · exact selSources_fin ⟨e.fresh.1 % 4, Nat.mod_lt _ (by decide)⟩
    · rw [htest, if_pos rfl] at hrow
      exact (State.runRst_next s warmAssertDev).trans (congrArg (fun e => Host.Outcome.next (s.toAll e)) hrow)
  case left =>
    intro w
    obtain ⟨hpwm, hmram, haon, hhst, hstore, hcmd⟩ := Dev.devReset_parts w s.dev
    exact ⟨hpwm, hmram, haon, hhst, hstore, hcmd, fun hw => hw ▸ Dev.devReset_imem s.dev, Dev.fg_devReset_xtCheckOff w s.dev,
      fun F n hk hs hx => Dev.fg_devReset_dropped s.dev hk hs hx⟩
  case kick => exact fun val up hkey hen hok => ⟨_, State.run_wrIf up rfl (Dev.regWrite_kick hkey hen hok), rfl⟩
  case watchdog => exact fun e up hen hdue he => State.runAll_eq up (watchdogExpiryDev_due hen hdue he)

end Sys2Proof.Machine
end
